-- ==== Sys2Proof/Word.lean ====
section
/-! DEFINITION. The word and index types of the TMN-9664. Index widths are those of the table of R2
(spec/00_scope.md); registers are 32 bits wide. -/

namespace Sys2Proof

/-- A register word. -/
abbrev W32 := BitVec 32
/-- One byte of memory. -/
abbrev Byte := BitVec 8
/-- An address of the internal 48-bit address space (spec/01_architecture.md). -/
abbrev Addr := BitVec 48
/-- An HDA, 0–15 (R2). -/
abbrev Hda := BitVec 4
/-- A global actuator a = 4·HDA + local, 0–63 (R2). -/
abbrev Act := BitVec 6
/-- A head on an actuator; 6 and 7 are reserved (R2). -/
abbrev Head := BitVec 3
/-- An active head slot, or a lane of a link, 0–3 (R2). -/
abbrev Slot := BitVec 2
/-- A cache way, 0–15 (R2). -/
abbrev Way := BitVec 4
/-- A Kiosk channel; 44–63 are reserved (R2). -/
abbrev Chan := BitVec 6
/-- A Stile lock, 0–127 (R2). -/
abbrev Lock := BitVec 7
/-- A DMA channel, 0–63 (R2). -/
abbrev DmaCh := BitVec 6
/-- An internal task tag, 0–2,047 (R2). -/
abbrev Tag := BitVec 11
/-- A Tamni core, 0–7. -/
abbrev CoreId := BitVec 3
/-- A motor rail A–D, 0–3. -/
abbrev Rail := BitVec 2
/-- A master number of R359, 0–11; 12–15 name no master. -/
abbrev Master := BitVec 4
/-- The sequence number of a Kiosk message (R372). -/
abbrev Seq := BitVec 16

/-- The quantities the Icehouse samples by time (R465, R467). -/
inductive Quantity where
  | poolSlots | junction | rail | coreSupply | frontEnd
  deriving DecidableEq, Repr

end Sys2Proof
end

