-- ==== Sys2Proof/Syntax.lean ====
section
/-! DEFINITION. The commands of the controller: one constructor per row of spec/opcode_table.json, in the table's order.
Each docstring names the row and its rule. Values that come from outside the controller (readings of sensors, frames that
arrive, what the media hold) are operands. -/

namespace Sys2Proof

/-- A command. -/
inductive Instr where
  /-- REGISTER_WRITE (R6): A write to a register that has no row of its own updates the fields the master may write, or is refused and counted. -/
  | registerWrite (m : Master) (addr : Addr) (v : W32)
  /-- SNAPSHOT_CAPTURE_READ (R33): A read of the lowest-addressed word of a snapshot group captures all its words in one source-domain cycle. -/
  | snapshotCaptureRead (m : Master) (addr : Addr) (mirror : Bool)
  /-- UNMAPPED_ACCESS (R26): An access to an address in no region ends with a bus error to the requesting master. -/
  | unmappedAccess (m : Master) (addr : Addr)
  /-- BAD_WIDTH_ACCESS (R27): A register access of wrong width or alignment reads 0 or has no effect, and increments PWR_BAD_ACCESS. -/
  | badWidthAccess (m : Master) (addr : Addr) (bytes : Nat)
  /-- POWERED_OFF_ACCESS (R37): An access to a register in a switched-off domain reads 0 or has no effect, and increments PWR_BAD_ACCESS. -/
  | poweredOffAccess (m : Master) (addr : Addr)
  /-- HOST_RESERVED_ACCESS (R31): A host access to a reserved BAR offset or a read-only BAR2 window, or of the wrong size to BAR2, reads 0 or is discarded. -/
  | hostReservedAccess (bar : Slot) (off : W32) (bytes : Nat) (write : Bool)
  /-- POWER_ON (R454): Supplies come up; the Gatehouse checks its ROM, clears its SRAM and releases the other domains in stages. -/
  | powerOn (romOk : Bool) (smba : Slot) (pclk : Bool)
  /-- BOOT_STAGE_END (R508): A start-up stage ends and the next stage's domains are released and its work begins. -/
  | bootStageEnd (tries : Slot) (dramOk : Bool) (rank1 : Byte)
  /-- SYS_RST_N_ASSERT (R453): SYS_RST_N is asserted; the Gatehouse deasserts write gates, retracts, coasts the spindles, then applies the internal reset. -/
  | sysRstNAssert
  /-- SYS_RST_N_RELEASE (R508): The internal reset is released; the Gatehouse re-imposes forced brakes, isolation and Grave, and start-up runs its stages. -/
  | sysRstNRelease (smba : Slot) (pclk : Bool)
  /-- CHIP_RESET (R507): A write of PWR_CHIP_RST with GO and KEY 0xA5C3 acts as an assertion of SYS_RST_N. -/
  | chipReset (m : Master) (v : W32)
  /-- PERST (R307): PERST# resets the PCIE and NVME domains, removes commands as a controller reset, and retrains the link on release. -/
  | perst
  /-- FUNCTION_LEVEL_RESET (R308): An FLR acts as a controller reset and also resets the configuration space and the MSI-X table. -/
  | functionLevelReset
  /-- CONTROLLER_RESET (R339): CC.EN going from 1 to 0 removes all fetched and presented commands without completions. -/
  | controllerReset
  /-- CC_ENABLE (R313): A write of 1 to CC.EN makes CSTS.RDY 1 within 100 ms. -/
  | ccEnable (v : W32)
  /-- CORE_RESET (R362): PWR_CORE_RST resets the named cores, their Kiosk ends, their Stile locks and their banked windows. -/
  | coreReset (m : Master) (v : W32)
  /-- ACTUATOR_RESET (R504): PWR_ACT_RST withdraws the fence, retracts a loaded actuator and then reinitialises its ACT domain. -/
  | actuatorReset (m : Master) (v : W32)
  /-- DOMAIN_ON (R497): A PWR_DOM_REQ with ON switches a power domain on, or ends at once if it is already on. -/
  | domainOn (m : Master) (d : BitVec 7)
  /-- DOMAIN_OFF (R497): A PWR_DOM_REQ without ON switches a domain off, or refuses the request under the domain's condition. -/
  | domainOff (m : Master) (d : BitVec 7)
  /-- DOMAIN_ON_COMPLETE (R498): A domain finishes powering up; its registers take reset values and actuator domains load microcode and train. -/
  | domainOnComplete
  /-- CORE_WAIT_POWER_OFF (R497): A core that has requested its own switch-off enters its wait state and its domain goes off. -/
  | coreWaitPowerOff (c : CoreId)
  /-- FABRIC_FREQ_CHANGE (R501): A write of CLK_FABRIC.FREQ switches the fabric clock within 10 µs, with a pause of at most 2 µs. -/
  | fabricFreqChange (m : Master) (f : Slot)
  /-- REFERENCE_LOST (R502): No reference edge for 1 µs sets REF_LOST; the PLLs hold and the Sundial runs from the Gatehouse oscillator. -/
  | referenceLost
  /-- REFERENCE_RESTORED (R502): After 1,000 good edges the PLLs relock and REF_LOST returns to 0. -/
  | referenceRestored
  /-- FW_READY (R511): Resident firmware writes PWR_BOOT.FW_READY, which ends firmware start-up. -/
  | fwReady (m : Master)
  /-- REC_INFO (R512): In recovery mode, returns PWR_BOOT, SEC_BOOT and CLK_DRAM. -/
  | recInfo (seq : Seq) (len : Nat)
  /-- REC_WRITE (R512): In recovery mode, stages 56 bytes of image at the given offset in DRAM. -/
  | recWrite (seq : Seq) (payload : List W32)
  /-- REC_COMMIT (R512): In recovery mode, verifies and commits the staged image with ACTION 1 and then performs a chip reset. -/
  | recCommit (seq : Seq) (payload : List W32) (res : Slot)
  /-- CAL_RUN (R515): Starts a calibration run of a class and instance while the Potting Shed is open with scope CAL. -/
  | calRun (m : Master) (v : W32)
  /-- CAL_RUN_END (R515): A calibration run ends, accepted and applied when all results are plausible, otherwise rejected. -/
  | calRunEnd (results : List (Nat × Int))
  /-- CAL_STEP (R514): Every 1 µs a calibration item moves by one tap toward its target. -/
  | calStep (cls : BitVec 3) (item : BitVec 9)
  /-- START (R49): SPN_CMD.START queues a start for admission, or has no effect or is refused according to the spindle state. -/
  | start (m : Master) (h : Hda)
  /-- BRAKE (R49): SPN_CMD.BRAKE brakes or short-brakes the spindle or cancels a start, or is refused according to the state. -/
  | brake (m : Master) (h : Hda)
  /-- COAST (R49): SPN_CMD.COAST switches the bridge off and ends or cancels a start, or is refused according to the state. -/
  | coast (m : Master) (h : Hda)
  /-- TARGET_WRITE (R51): A write to SPN_TARGET sets the target speed, or is refused while the HDA is loaded. -/
  | targetWrite (m : Master) (h : Hda) (v : W32)
  /-- START_MASK (R72): A write of SPN_START_MASK acts as START to every named spindle in one cycle. -/
  | startMask (m : Master) (mask : BitVec 16)
  /-- START_ADMITTED (R70): A queued start is admitted in arrival order when fewer than MAX spindles are accelerating. -/
  | startAdmitted
  /-- ALIGN_DONE (R53): ALIGN_MS elapses in ALIGNING and the spindle enters RAMP at step 2. -/
  | alignDone (h : Hda)
  /-- RAMP_END (R54): The open-loop ramp reaches OL_END_RPM and the controller looks for the handover condition. -/
  | rampEnd (h : Hda)
  /-- HANDOVER (R54): Six consecutive valid forward zero crossings are seen after the ramp and the spindle enters CLOSED. -/
  | handover (h : Hda) (speed : BitVec 20)
  /-- HANDOVER_TIMEOUT (R54): No handover within 500 ms after the ramp short-brakes the motor; a second failure ends the start. -/
  | handoverTimeout (h : Hda)
  /-- PWM_PERIOD (R41): A 50 kHz PWM period begins; the commanded on-time is applied and the phase current is sampled or predicted. -/
  | pwmPeriod (h : Hda) (tonNs : BitVec 16) (iu : BitVec 16) (iv : BitVec 16)
  /-- SKIP_RUN_LIMIT (R65): A run of skips reaches MAX_SKIP; the prediction holds and event 0x500C is emitted once. -/
  | skipRunLimit (h : Hda)
  /-- ZERO_CROSSING (R43): The floating phase crosses the virtual neutral after blanking and the crossing is placed by interpolation. -/
  | zeroCrossing (h : Hda) (phase : Slot) (v0 : BitVec 16) (v1 : BitVec 16)
  /-- COMMUTATION_STEP (R45): DELAY after a zero crossing, the next commutation step is applied. -/
  | commutationStep (h : Hda)
  /-- CURRENT_LIMIT (R60): The current comparator sees a phase current above LIMIT_MA and ends the high-side on-time. -/
  | currentLimit (h : Hda) (ma : BitVec 16) (tonNs : BitVec 16)
  /-- OVERCURRENT_TRIP (R61): A phase current above TRIP_MA switches off all six switches, enters COASTING and ends any start. -/
  | overcurrentTrip (h : Hda) (ma : BitVec 16)
  /-- CATCH_DECIDED (R68): Seven crossings in one order decide the catch: CLOSED at 300 rpm or more forward, otherwise SHORT_BRAKED. -/
  | catchDecided (h : Hda) (order : Slot) (ticks : W32) (lastStep : BitVec 3) (railMv : BitVec 16)
  /-- CATCH_WINDOW_EXPIRED (R67): The catch window ends without a decision and the spindle enters SHORT_BRAKED. -/
  | catchWindowExpired (h : Hda)
  /-- AT_SPEED_REACHED (R48): The set-point equals the target and the speed stays within ±0.1 % for 32 revolutions; the spindle enters AT_SPEED. -/
  | atSpeedReached (h : Hda) (speed : BitVec 20)
  /-- SPEED_OUT_OF_TOLERANCE (R48): The measured speed leaves ±1 % of the target and AT_SPEED returns to CLOSED. -/
  | speedOutOfTolerance (h : Hda) (speed : BitVec 20)
  /-- SPEED_BAND_FAULT (R62): The speed leaves ±5 % while the HDA is loaded; SPEED_BAND is set and the actuators are faulted and retracted. -/
  | speedBandFault (h : Hda) (speed : BitVec 20)
  /-- SPINUP_TIMEOUT (R56): AT_SPEED is not reached SPINUP_S after admission; the start ends and the spindle brakes. -/
  | spinupTimeout (h : Hda)
  /-- BELOW_30_RPM (R48): The U-phase current has not changed sign for the stated time; SHORT_BRAKED moves to STOPPED or ALIGNING. -/
  | below30Rpm (h : Hda)
  /-- BRAKE_HANDOFF (R73): In BRAKING the speed falls below HANDOFF_RPM and the spindle short-brakes. -/
  | brakeHandoff (h : Hda) (speed : BitVec 20)
  /-- SHORT_BRAKE_TIMEOUT (R74): The spindle stays in SHORT_BRAKED beyond SB_MAX_S without falling below 30 rpm; BRAKE_TMO is set. -/
  | shortBrakeTimeout (h : Hda)
  /-- CHOPPER_ON (R78): A motor rail rises to 13.6 V and its brake chopper turns on. -/
  | chopperOn (r : Rail) (mv : BitVec 16)
  /-- CHOPPER_OFF (R78): A motor rail falls to 13.0 V and its brake chopper turns off. -/
  | chopperOff (r : Rail) (mv : BitVec 16)
  /-- CHOPPER_FAULT (R79): The rail stays high 50 µs after chopper-on at low current, or reaches 14.4 V; regenerating spindles are force-short-braked. -/
  | chopperFault (r : Rail) (mv : BitVec 16) (ma : BitVec 16)
  /-- RAIL_OVERVOLTAGE (R80): A rail reaches 15.2 V; the Gatehouse raises a Grave fault. -/
  | railOvervoltage (r : Rail) (mv : BitVec 16)
  /-- POWER_LOSS_DETECTED (R81): A rail stays below 10.8 V for more than 5 µs; power-loss retract starts and its spindles brake with CAUSE 3. -/
  | powerLossDetected (r : Rail) (mv : BitVec 16)
  /-- POWER_LOSS_BRAKE_END (R435): The rail's retracts end, or the speed falls below HANDOFF_RPM, and the spindle enters COASTING. -/
  | powerLossBrakeEnd (h : Hda) (speed : BitVec 20)
  /-- RAIL_RECOVERED (R435): After the power-loss brakes end, the rail stays at 11.4 V or above for 10 ms and PWRLOSS returns to 0. -/
  | railRecovered (r : Rail) (mv : BitVec 16)
  /-- SERVO_WEDGE (R87): At each sample instant the engine demodulates, forms fence decisions, computes all 21 slots and sends the outputs at 4.000 µs. -/
  | servoWedge (h : Hda) (rpm : BitVec 20) (pos : List (Option Int)) (sync : BitVec 4)
  /-- SERVO_LOST (R90): Every head of a loaded actuator misses 8 consecutive wedges; the actuator is faulted and retracted. -/
  | servoLost (a : Act)
  /-- TIMER_LOCK (R91): Sync marks read in 4 consecutive wedges within ±150 ns lock the wedge timer. -/
  | timerLock (h : Hda) (wedge : BitVec 10)
  /-- TIMER_LOCK_LOST (R91): No valid sync mark for 8 consecutive wedges returns the wedge timer to free-running. -/
  | timerLockLost (h : Hda)
  /-- VCM_SAT_FAULT (R101): The VCM output is clamped in 256 consecutive wedges in SETTLE or TRACK; the actuator is faulted. -/
  | vcmSatFault (a : Act)
  /-- OPEN_LIMIT_FAULT (R107): A loaded actuator counts 64 consecutive open wedges; it is faulted and retracted. -/
  | openLimitFault (a : Act)
  /-- SLOT_OPEN (R103): SRV_COEF_CTL with OPEN opens slot LOOP at the next computation start, or is refused. -/
  | slotOpen (m : Master) (h : Hda) (v : W32)
  /-- SLOT_CLOSE (R104): SRV_COEF_CTL with CLOSE closes slot LOOP with CLOSE_MODE at the next computation start, or is refused. -/
  | slotClose (m : Master) (h : Hda) (v : W32)
  /-- COEF_PAGE_WRITE (R102): A write to a coefficient page succeeds only while its slot is open. -/
  | coefPageWrite (m : Master) (h : Hda) (l : BitVec 5) (w : BitVec 6) (v : W32)
  /-- SRV_LOAD (R112): SRV_ACT_CMD.LOAD moves a PARKED actuator to LOADING, or is refused. -/
  | srvLoad (m : Master) (a : Act)
  /-- SRV_UNLOAD (R112): SRV_ACT_CMD.UNLOAD moves the actuator to UNLOADING from SEEK, SETTLE or TRACK, or is refused. -/
  | srvUnload (m : Master) (a : Act)
  /-- SRV_SEEK (R114): SRV_ACT_CMD.SEEK requests a seek or micro-seek from SRV_SEEK0 and SRV_SEEK1, or is refused. -/
  | srvSeek (m : Master) (a : Act)
  /-- LOAD_ACQUIRED (R111): In LOADING, sync marks read in 4 consecutive wedges move the actuator to SETTLE. -/
  | loadAcquired (a : Act) (cyl : BitVec 21)
  /-- LOADING_TIMEOUT (R111): Servo is not acquired within 500 ms of LOAD and the actuator is isolated. -/
  | loadingTimeout (a : Act)
  /-- TRAJECTORY_END (R118): The trajectory's final set-point is reached on wedge n and SEEK moves to SETTLE. -/
  | trajectoryEnd (a : Act)
  /-- READ_SETTLED (R120): Every head of the stripe is within READ_THR for READ_COUNT wedges; SETTLE moves to TRACK. -/
  | readSettled (a : Act)
  /-- WRITE_SETTLED (R121): A head is within WRITE_THR for WRITE_COUNT wedges without a miss and its WSET bit is set. -/
  | writeSettled (a : Act) (ix : Slot)
  /-- SETTLE_TIMEOUT (R122): READ_SETTLED is not reached within TMO × 8 wedges; SETTLE_TMO is set. -/
  | settleTimeout (a : Act)
  /-- UNLOAD_COMPLETE (R111): The heads reach the ramp and UNLOADING moves to PARKED. -/
  | unloadComplete (a : Act)
  /-- HEAD_LEAVES_STRIPE (R126): Two consecutive clamps or four consecutive misses take a head out of the stripe for the revolution. -/
  | headLeavesStripe (a : Act) (ix : Slot)
  /-- HEAD_REJOINS (R127): At the next wedge 0 a departed head closes with soft start and starts its read settle run. -/
  | headRejoins (a : Act) (ix : Slot)
  /-- REJOIN_RUN_END (R127): A rejoining head completes its read settle run and IN_STRIPE becomes 1. -/
  | rejoinRunEnd (a : Act) (ix : Slot)
  /-- SAMPLE_FRAME (R137): A sample frame is received and checked, and its positions are delivered as samples or erasures. -/
  | sampleFrame (a : Act) (lane : Slot) (hdr : BitVec 64) (data : List (Bool × BitVec 64)) (tail : BitVec 64)
  /-- SERVO_FRAME (R138): A servo frame is received; one that is not intact counts as a missed wedge. -/
  | servoFrame (a : Act) (lane : Slot) (hdr : BitVec 64) (data : List (Bool × BitVec 64)) (tail : BitVec 64)
  /-- STATUS (R147): A STATUS block is received and its write fault, SCMD_ERR, retract and downstream error fields are acted on. -/
  | status (a : Act) (v : BitVec 64)
  /-- SCMD_LOST (R147): STATUS.SCMD_ERR in 8 consecutive wedges reports an Actuator-class fault. -/
  | scmdLost (a : Act)
  /-- REG_DATA (R162): A REG_DATA block ends the matching outstanding front-end access, or is discarded. -/
  | regData (a : Act) (v : BitVec 64)
  /-- INVALID_BLOCK (R132): An invalid sync header or block type increments SYNC_ERR and is discarded. -/
  | invalidBlock (a : Act) (lane : Slot)
  /-- LANE_QUEUE_OVERFLOW (R139): An upstream deskew or dual-clock queue overflows; LOCK_LOSS is counted and the lane retrains. -/
  | laneQueueOverflow (a : Act) (lane : Slot)
  /-- BLOCK_LOCK_LOST (R152): 16 of 64 sync headers are invalid; the lane loses block lock and retrains alone. -/
  | blockLockLost (a : Act) (down : Bool) (lane : Slot)
  /-- RETRAIN_ATTEMPT_END (R152): A lane retrain attempt ends; a lane failing three attempts is declared failed. -/
  | retrainAttemptEnd (a : Act) (down : Bool) (lane : Slot) (locked : Bool)
  /-- DOWNSTREAM_BLOCK_SLOT (R141): At each downstream block slot the first waiting block in priority order is sent. -/
  | downstreamBlockSlot (a : Act) (lane : Slot) (eccBad : Bool)
  /-- TRAIN (R149): LNK_CTL.TRAIN starts link training in PARKED or ISOLATED, or is refused. -/
  | train (m : Master) (a : Act)
  /-- TRAINING_END (R150): Training ends, by 5 ms at most, in FULL, DEGRADED or DOWN after the identity read and lane map write. -/
  | trainingEnd (a : Act) (locked : Byte) (reply : Slot) (ident : BitVec 16)
  /-- FE_REG_WRITE (R160): LNK_FE_CMD GO with WRITE sends a REG_WR, held while a write gate is open. -/
  | feRegWrite (m : Master) (a : Act) (v : W32)
  /-- FE_REG_READ (R160): LNK_FE_CMD GO without WRITE sends a REG_RD. -/
  | feRegRead (m : Master) (a : Act) (v : W32)
  /-- FE_REG_WRITE_RELEASE (R161): The last write gate of the actuator closes and a held REG_WR goes out. -/
  | feRegWriteRelease (a : Act)
  /-- FE_REG_TIMEOUT (R162): No matching reply within 4 µs; the access is retried once with the next TAG, then ended with ERR 1. -/
  | feRegTimeout (a : Act)
  /-- READ_GATE_SECTOR_START (R185): A read gate reaches a sector and the channel takes a retention slot, or leaves the sector unheld. -/
  | readGateSectorStart (a : Act) (ix : Slot) (tooLong : Bool)
  /-- SYNC_MARK_DECISION (R177): The sync search window ends with a data mark, a poison mark or a sync miss. -/
  | syncMarkDecision (a : Act) (ix : Slot)
  /-- SAMPLE_QUEUE_OVERFLOW (R171): A head slot's sample queue overflows and the positions it cannot accept become erasures. -/
  | sampleQueueOverflow (a : Act) (ix : Slot) (n : Byte)
  /-- CODEWORD_START (R181): The detector begins a new codeword; with no free buffer the decoder force-stops the codeword it is decoding. -/
  | codewordStart (a : Act) (ix : Slot)
  /-- CODEWORD_COMPLETE (R179): A codeword is complete; with more than ERASE_MAX erasures it is not decoded, otherwise it queues for decoding. -/
  | codewordComplete (a : Act) (ix : Slot)
  /-- OTF_DECODE_END (R186): On-the-fly decoding ends decoded, or failed with the slot retained or the outcome decided. -/
  | otfDecodeEnd (a : Act) (ix : Slot)
  /-- POOL_ECC_ERROR (R188): An ECC error in the pool, a codeword buffer or the output queue is corrected, or turns samples into erasures. -/
  | poolEccError (a : Act) (place : Slot) (p : BitVec 9) (word : BitVec 12) (corrected : Bool)
  /-- DR_DISPATCH (R189): A retained sector is dispatched by class and age to a free deep-retry decoder with its plan. -/
  | drDispatch
  /-- DR_ATTEMPT_END (R190): A deep-retry attempt ends without recovery; the next attempt starts or the plan ends exhausted. -/
  | drAttemptEnd (p : BitVec 9) (conv : Bool)
  /-- DR_RECOVERED (R191): A deep-retry decoder recovers the sector, which enters the output queue when it has room. -/
  | drRecovered (p : BitVec 9) (pass : Head) (iters : BitVec 5) (info : List Byte)
  /-- RETAINED_WAIT_AGE (R192): A retained sector waits MAX_WAIT × 100 µs undispatched; it is released with cause WAIT_AGE. -/
  | retainedWaitAge (p : BitVec 9)
  /-- SECTOR_FETCH (R205): A sector buffer becomes free and the write channel fetches the next sector of the operation. -/
  | sectorFetch (a : Act) (ix : Slot)
  /-- CODEWORD_ENCODED (R205): The encoder completes a sector's codeword in the sector buffer. -/
  | codewordEncoded (a : Act) (ix : Slot)
  /-- SECTOR_SEND_START (R206): At the send time of a sector's first cell it is started only if its codeword is complete, otherwise NOT_WRITTEN LATE. -/
  | sectorSendStart (a : Act) (ix : Slot)
  /-- SERVO_GUARD_CUT (R216): A sector reaching the servo guard limit is cut and reported PARTIAL with cause GUARD. -/
  | servoGuardCut (a : Act) (ix : Slot)
  /-- WRITE_SECTOR_OUTCOME (R218): At the last postamble cell the sector is WRITTEN, PARTIAL or NOT_WRITTEN and reported. -/
  | writeSectorOutcome (a : Act) (ix : Slot)
  /-- NOP (R227): Does nothing for one cycle. -/
  | uwNop (a : Act)
  /-- LDI (R227): Loads the immediate into gA. -/
  | uwLdi (a : Act) (ra : BitVec 5) (imm : BitVec 16)
  /-- LUI (R227): Loads the immediate into the upper half of gA. -/
  | uwLui (a : Act) (ra : BitVec 5) (imm : BitVec 16)
  /-- MOV (R227): Copies gB into gA. -/
  | uwMov (a : Act) (ra : BitVec 5) (rb : BitVec 5)
  /-- ADD (R227): Adds gB to gA modulo 2^32. -/
  | uwAdd (a : Act) (ra : BitVec 5) (rb : BitVec 5)
  /-- ADDI (R227): Adds the sign-extended immediate to gA. -/
  | uwAddi (a : Act) (ra : BitVec 5) (imm : BitVec 16)
  /-- SUB (R227): Subtracts gB from gA. -/
  | uwSub (a : Act) (ra : BitVec 5) (rb : BitVec 5)
  /-- AND (R227): ANDs gB into gA. -/
  | uwAnd (a : Act) (ra : BitVec 5) (rb : BitVec 5)
  /-- ANDI (R227): ANDs the immediate into gA. -/
  | uwAndi (a : Act) (ra : BitVec 5) (imm : BitVec 16)
  /-- OR (R227): ORs gB into gA. -/
  | uwOr (a : Act) (ra : BitVec 5) (rb : BitVec 5)
  /-- ORI (R227): ORs the immediate into gA. -/
  | uwOri (a : Act) (ra : BitVec 5) (imm : BitVec 16)
  /-- XOR (R227): XORs gB into gA. -/
  | uwXor (a : Act) (ra : BitVec 5) (rb : BitVec 5)
  /-- SHLI (R227): Shifts gA left by IMM[4:0]. -/
  | uwShli (a : Act) (ra : BitVec 5) (imm : BitVec 16)
  /-- SHRI (R227): Shifts gA right logically by IMM[4:0]. -/
  | uwShri (a : Act) (ra : BitVec 5) (imm : BitVec 16)
  /-- INSF (R227): Inserts a field of gB into gA. -/
  | uwInsf (a : Act) (ra : BitVec 5) (rb : BitVec 5) (imm : BitVec 16)
  /-- EXTF (R227): Extracts a field of gB into gA, zero-extended. -/
  | uwExtf (a : Act) (ra : BitVec 5) (rb : BitVec 5) (imm : BitVec 16)
  /-- BEQ (R227): Branches if gA equals gB. -/
  | uwBeq (a : Act) (ra : BitVec 5) (rb : BitVec 5) (imm : BitVec 16)
  /-- BNE (R227): Branches if gA differs from gB. -/
  | uwBne (a : Act) (ra : BitVec 5) (rb : BitVec 5) (imm : BitVec 16)
  /-- BLTU (R227): Branches if gA is below gB unsigned. -/
  | uwBltu (a : Act) (ra : BitVec 5) (rb : BitVec 5) (imm : BitVec 16)
  /-- BGEU (R227): Branches if gA is at or above gB unsigned. -/
  | uwBgeu (a : Act) (ra : BitVec 5) (rb : BitVec 5) (imm : BitVec 16)
  /-- BBS (R227): Branches if bit B of gA is 1. -/
  | uwBbs (a : Act) (ra : BitVec 5) (n : BitVec 5) (imm : BitVec 16)
  /-- BBC (R227): Branches if bit B of gA is 0. -/
  | uwBbc (a : Act) (ra : BitVec 5) (n : BitVec 5) (imm : BitVec 16)
  /-- JMP (R227): Jumps to the immediate address. -/
  | uwJmp (a : Act) (imm : BitVec 16)
  /-- CALL (R228): Pushes the return address and jumps, or faults with STACK on a ninth push. -/
  | uwCall (a : Act) (imm : BitVec 16)
  /-- RET (R228): Pops and jumps to the return address, or faults with STACK on an empty stack. -/
  | uwRet (a : Act) (imm : BitVec 16)
  /-- LD (R227): Loads a scratch word into gA. -/
  | uwLd (a : Act) (ra : BitVec 5) (rb : BitVec 5) (imm : BitVec 16)
  /-- ST (R227): Stores gA into a scratch word. -/
  | uwSt (a : Act) (ra : BitVec 5) (rb : BitVec 5) (imm : BitVec 16)
  /-- LDD (R227): Loads a word of the running descriptor into gA. -/
  | uwLdd (a : Act) (ra : BitVec 5) (imm : BitVec 16)
  /-- STD (R228): Stores gA into descriptor words 12 to 15, or faults with BOUND. -/
  | uwStd (a : Act) (ra : BitVec 5) (imm : BitVec 16)
  /-- RDP (R231): Reads a port into gA; an unlisted port returns 0. -/
  | uwRdp (a : Act) (ra : BitVec 5) (imm : BitVec 16)
  /-- WRP (R231): Writes gA to a port; an unlisted port ignores it. -/
  | uwWrp (a : Act) (ra : BitVec 5) (imm : BitVec 16)
  /-- WAIT (R232): Waits for the named event with argument gB. -/
  | uwWait (a : Act) (ra : BitVec 5) (rb : BitVec 5) (imm : BitVec 16)
  /-- WAIT_END (R232): The awaited event completes and its result is written to gA. -/
  | waitEnd (a : Act)
  /-- WAIT_TIMEOUT (R230): The TMO limit runs out; WAIT ends with result bit 31, or a stalled GATE or POST faults with STALL. -/
  | waitTimeout (a : Act)
  /-- GATE (R247): Queues a gate entry and takes an in-flight entry, stalling while either is full, or faults with BOUND. -/
  | uwGate (a : Act) (ra : BitVec 5) (rb : BitVec 5)
  /-- GATE_STALL_END (R247): Room frees and a stalled GATE or POST completes. -/
  | gateStallEnd (a : Act)
  /-- SEEK (R233): Issues a seek request from the sequencer under R114 and R115. -/
  | uwSeek (a : Act) (ra : BitVec 5) (rb : BitVec 5)
  /-- ZONE (R234): Waits for no gate open and empty queues, then selects the zone and sets the front-end rate. -/
  | uwZone (a : Act) (ra : BitVec 5) (rb : BitVec 5)
  /-- ZONE_COMPLETE (R234): The ZONE instruction completes once the gates are drained and any front-end rate write has its reply. -/
  | zoneComplete (a : Act)
  /-- OUTQ (R227): Removes the oldest outcome word into gA, or gives 0. -/
  | uwOutq (a : Act) (ra : BitVec 5)
  /-- POST (R243): Posts a result record when the queue has room beyond the DONE reserve, otherwise stalls. -/
  | uwPost (a : Act) (ra : BitVec 5) (rb : BitVec 5) (imm : BitVec 16)
  /-- NEXT (R238): Dispatches the next operation of the most urgent class. -/
  | uwNext (a : Act) (ra : BitVec 5)
  /-- DONE (R241): Ends the running operation with a status and an exception count. -/
  | uwDone (a : Act) (ra : BitVec 5) (rb : BitVec 5)
  /-- TRAP (R227): Raises a sequencer fault with cause TRAP and records IMM[7:0]. -/
  | uwTrap (a : Act) (imm : BitVec 16)
  /-- ILLEGAL (R227): An undefined opcode, or a control word with IMM[15:13] not 0, raises a fault with cause ILLEGAL. -/
  | uwIllegal (a : Act) (w : W32)
  /-- ALLOT_WATCHDOG (R255): More than MAX_WEDGES wedges pass in the Allotment without a YIELD call or return; a WDOG fault follows. -/
  | allotWatchdog (a : Act)
  /-- STORE_ECC_ERROR (R226): A store or scratch ECC error is corrected, or raises a fault with cause STORE_ECC. -/
  | storeEccError (a : Act) (corrected : Bool)
  /-- GATE_ENTRY_OPEN (R248): At the passage of its sector's start a gate entry opens, or comes back NOT_GATED with cause OUT or STATE. -/
  | gateEntryOpen (a : Act) (ix : Slot)
  /-- SEQ_POST (R236): SEQ_POST queues a descriptor slot as an operation, or refuses it. -/
  | seqPost (m : Master) (a : Act) (v : W32)
  /-- SEQ_CANCEL (R242): SEQ_CANCEL removes a queued operation or ends a suspended or running one with DONE CANCELLED. -/
  | seqCancel (m : Master) (a : Act) (v : W32)
  /-- SEQ_RUN (R225): SEQ_CTL.RUN starts a HALTED sequencer at word 0. -/
  | seqRun (m : Master) (a : Act)
  /-- SEQ_HALT (R251): SEQ_CTL.HALT halts the sequencer and flushes its unopened gate entries. -/
  | seqHalt (m : Master) (a : Act)
  /-- SEQ_RELOAD (R257): SEQ_CTL.RELOAD reloads a HALTED sequencer's store from the master copy. -/
  | seqReload (m : Master) (a : Act)
  /-- RESULT_RECORD_READ (R242): A read of SEQ_RES0 removes the oldest result record. -/
  | resultRecordRead (m : Master) (a : Act)
  /-- SEQ_FMT_WRITE (R245): A write to a SEQ_FMT entry is judged on the entry after the write and refused if it breaks a limit. -/
  | seqFmtWrite (m : Master) (a : Act) (z : BitVec 5) (hi : Bool) (v : W32)
  /-- LOAD_VERIFY (R256): SEQ_LOAD_CTL.VERIFY starts verification of the resident words and the Allotment image. -/
  | loadVerify (m : Master)
  /-- LOAD_VERIFY_END (R256): Verification ends verified, or with a bad signature, format or address. -/
  | loadVerifyEnd
  /-- LOAD_COMMIT (R257): SEQ_LOAD_CTL.COMMIT replaces the master copy and sets RELOAD_PENDING, or is refused. -/
  | loadCommit (m : Master)
  /-- SEQ_STORE_RELOAD (R257): A sequencer that is IDLE with nothing queued, or HALTED, reloads from the master copy and starts at word 0. -/
  | seqStoreReload (a : Act)
  /-- LOOKUP_READ (R270): A read lookup returns HIT, MISS_ALLOC, WAIT, MERGE, BUSY or BYPASS and feeds the stream detector. -/
  | lookupRead (c : CoreId) (v : W32)
  /-- LOOKUP_WRITE (R270): A write lookup returns HIT, ALLOC, WAIT, MERGE, BUSY or BYPASS. -/
  | lookupWrite (c : CoreId) (v : W32)
  /-- COMMIT (R271): COMMIT widens the line's extent and makes it DIRTY, or sets REDIRTY in WRITEBACK. -/
  | tagCommit (c : CoreId) (v : W32)
  /-- RELEASE (R271): RELEASE drops a pin; a DOOMED unpinned line, or one with an empty extent, becomes INVALID. -/
  | tagRelease (c : CoreId) (v : W32)
  /-- FILL_DONE (R274): FILL_DONE ends a fill with a status, moves the line out of FILLING and wakes its waiters. -/
  | fillDone (c : CoreId) (v : W32)
  /-- WRITEBACK_REQUEST (R278): The tag engine moves a DIRTY line to WRITEBACK and posts a request when the queue has room. -/
  | writebackRequest
  /-- DIRTY_AGE_EXPIRED (R278): A line has been DIRTY for AGE_S seconds and is chosen for write-back. -/
  | dirtyAgeExpired (set : BitVec 13) (w : Way)
  /-- WB_REQUEST_READ (R279): A read of BUF_WB_REQ0 removes the oldest write-back request. -/
  | wbRequestRead
  /-- WB_DONE (R279): BUF_WB_DONE reports a write-back; the line becomes CLEAN, DIRTY or INVALID. -/
  | wbDone (m : Master) (v : W32)
  /-- WAKE_READ (R275): A read of BUF_WAKE removes the oldest wake of the core's queue. -/
  | wakeRead (c : CoreId)
  /-- RA_REQUEST_READ (R282): A read of BUF_RA_REQ0 removes the oldest read-ahead request. -/
  | raRequestRead
  /-- WR_EN (R284): A write of 0 to WR_EN starts the write-class drain; a write of 1 enables the class and ends a drain. -/
  | wrEn (m : Master) (on : Bool)
  /-- RD_EN (R285): A write of RD_EN disables the read class, setting RD_STALE, or re-enables it at once. -/
  | rdEn (m : Master) (on : Bool)
  /-- WAY_DISABLE (R287): A write of 0 to a bit of BUF_WAY_CTL.EN sets the way DRAINING. -/
  | wayDisable (m : Master) (w : Way)
  /-- WAY_ENABLE (R288): A write of 1 to a bit of EN wakes an OFF way, or returns a DRAINING way to ON. -/
  | wayEnable (m : Master) (w : Way)
  /-- WAY_OFF (R287): A DRAINING way with no dirty, filling or pinned line is invalidated and switched off. -/
  | wayOff (w : Way)
  /-- WAY_ON (R288): A WAKING way finishes writing its entries INVALID and is ON. -/
  | wayOn (w : Way)
  /-- INVAL (R289): Invalidates or dooms the lines of a key range, skipping dirty lines. -/
  | maintInval (m : Master) (v : W32)
  /-- CLEAN (R289): Requests write-back of the dirty lines of a key range and waits for them. -/
  | maintClean (m : Master) (v : W32)
  /-- CLEAN_INVAL (R289): Writes back and then invalidates the lines of a key range. -/
  | maintCleanInval (m : Master) (v : W32)
  /-- DISCARD (R289): Invalidates or dooms every line of a key range, dirty ones included. -/
  | maintDiscard (m : Master) (v : W32)
  /-- INVAL_CLASS (R289): Invalidates every CLEAN line and non-merge fill of the whole cache and clears RD_STALE. -/
  | maintInvalClass (m : Master) (v : W32)
  /-- CLEAN_ALL (R290): Requests write-back of every dirty line of the cache and waits for them. -/
  | maintCleanAll (m : Master) (v : W32)
  /-- MAINT_END (R290): A maintenance operation ends when every line it waits for is written back; event 0x6007. -/
  | maintEnd
  /-- DRAM_SLOT (R292): A DRAM command slot goes to the media or urgent slice, or to a group by weighted round robin. -/
  | dramSlot (c : BitVec 3) (req : Byte) (refresh : Bool) (gap : Bool)
  /-- DRAM_ECC_ERROR (R295): A DRAM read with an ECC error is corrected and written back, or poisons the granule. -/
  | dramEccError (addr : Addr) (corrected : Bool)
  /-- TAG_ECC_ERROR (R297): An uncorrectable tag entry is a Data-class fault; the entry is invalidated and its way excluded. -/
  | tagEccError (set : BitVec 13) (w : Way) (corrected : Bool)
  /-- SCRUB_READ (R298): The scrubber reads the next granule at its paced interval. -/
  | scrubRead
  /-- FLIPMASK_ARM (R299): Armed BUF_FLIPMASK corrupts the next DRAM write to its channel and then clears ARM. -/
  | flipmaskArm (addr : Addr)
  /-- SQ_TAIL_DOORBELL (R315): A write of a submission-queue tail doorbell makes entries available for fetch. -/
  | sqTailDoorbell (q : BitVec 16) (v : W32)
  /-- CQ_HEAD_DOORBELL (R321): A write of a completion-queue head doorbell frees entries for waiting completions. -/
  | cqHeadDoorbell (q : BitVec 16) (v : W32)
  /-- ENTRY_FETCH (R314): The intake fetches an entry into a free task slot by arbitration and enters its range lock. -/
  | entryFetch (q : Byte) (t : Tag) (sqe : List W32)
  /-- RANGE_LOCK_GRANT (R322): An entry's conflicts and fills end and its range lock is granted; the entry becomes presentable. -/
  | rangeLockGrant (t : Tag)
  /-- TASK_READ (R317): A read of HIF_TASK0 removes the oldest presentable entry and captures it. -/
  | taskRead (m : Master)
  /-- XFER_REQUEST (R318): HIF_XFER3 GO starts a data mover request for a task's blocks. -/
  | xferRequest (c : CoreId) (v : W32)
  /-- XFER_END (R319): A data mover request ends; poisoned blocks are skipped and the result is queued. -/
  | xferEnd (ix : Byte) (hostErr : Bool) (data : List Byte) (prps : List (BitVec 64))
  /-- XFER_RESULT_READ (R318): A read of HIF_XFER_RES0 removes the oldest transfer result. -/
  | xferResultRead (m : Master)
  /-- COMPLETION_POST (R320): HIF_CPL2 GO posts a completion for a presented task, or is refused. -/
  | completionPost (c : CoreId) (v : W32)
  /-- COMPLETION_WRITE (R321): Once transfers end and the queue has room, the entry is written and the lock and slot are released. -/
  | completionWrite (t : Tag)
  /-- URG_READ (R327): A read of HIF_URG0 captures and clears MAX_US. -/
  | urgRead (m : Master)
  /-- HOLD (R316): A write of HIF_ACT.HOLD stops or resumes the presentation of entries. -/
  | hold (m : Master) (on : Bool)
  /-- LINK_L0_ENTRY (R304): The PCIe link enters L0; below 64 GT/s x16 event 0x7001 is emitted. -/
  | linkL0Entry (rate : BitVec 4) (width : BitVec 5) (flit : Bool)
  /-- AER_ERROR (R306): A PCIe uncorrectable error is logged and acts on the affected command. -/
  | aerError (kind : Slot) (q : Byte) (t : Tag) (cor : Bool) (err : BitVec 5) (hdr : List W32)
  /-- POISONED_TLP_WRITE (R306): A poisoned TLP write into a BAR is discarded. -/
  | poisonedTlpWrite (bar : Slot)
  /-- CREATE_IO_SUBMISSION_QUEUE (R311): Creates an I/O submission queue with a fixed priority. -/
  | createIoSubmissionQueue (t : Tag)
  /-- CREATE_IO_COMPLETION_QUEUE (R305): Creates an I/O completion queue, refusing a vector above 2,039. -/
  | createIoCompletionQueue (t : Tag)
  /-- DELETE_IO_SUBMISSION_QUEUE (R339): Deletes a submission queue, removing its commands with status 08h. -/
  | deleteIoSubmissionQueue (t : Tag)
  /-- DELETE_IO_COMPLETION_QUEUE (R309): Deletes an I/O completion queue. -/
  | deleteIoCompletionQueue (t : Tag)
  /-- GET_LOG_PAGE (R352): Returns a supported standard or vendor log page. -/
  | getLogPage (t : Tag)
  /-- IDENTIFY (R310): Returns the Identify data with the stated values. -/
  | identify (t : Tag)
  /-- ABORT (R328): Completes successfully with bit 0 set, aborting nothing. -/
  | abort (t : Tag)
  /-- SET_FEATURES (R309): Sets a supported feature. -/
  | setFeatures (t : Tag)
  /-- SET_FEATURES_VOLATILE_WRITE_CACHE (R338): Enables the write class, or disables it and completes when the drain ends. -/
  | setFeaturesVolatileWriteCache (t : Tag)
  /-- SET_FEATURES_TIMESTAMP (R337): Sets the Sundial epoch offset to the host's time. -/
  | setFeaturesTimestamp (t : Tag) (ms : BitVec 64)
  /-- GET_FEATURES (R309): Returns a supported feature. -/
  | getFeatures (t : Tag)
  /-- GET_FEATURES_TIMESTAMP (R337): Returns the Sundial counter plus the offset in milliseconds. -/
  | getFeaturesTimestamp (t : Tag)
  /-- ASYNCHRONOUS_EVENT_REQUEST (R309): Queues a request for an asynchronous event. -/
  | asynchronousEventRequest (t : Tag)
  /-- NAMESPACE_CREATE (R347): Creates a namespace from a placement descriptor, or refuses it. -/
  | namespaceCreate (t : Tag) (data : List Byte)
  /-- NAMESPACE_DELETE (R347): Deletes a namespace, discards its lines and frees its cylinders. -/
  | namespaceDelete (t : Tag)
  /-- NAMESPACE_ATTACHMENT (R346): Attaches a namespace to controller 0. -/
  | namespaceAttachment (t : Tag) (data : List Byte)
  /-- FIRMWARE_IMAGE_DOWNLOAD (R309): Downloads a part of a firmware image. -/
  | firmwareImageDownload (t : Tag) (data : List Byte)
  /-- FIRMWARE_COMMIT (R344): Commit Action 0, 1 or 2 commits the image to a slot within 70 s. -/
  | firmwareCommit (t : Tag)
  /-- FIRMWARE_ACTIVATE (R341): Commit Action 3 verifies the image, holds presentation and drains for activation without reset. -/
  | firmwareActivate (t : Tag)
  /-- ACTIVATION_DRAIN_END (R341): The drain ends; the cores reset into the new image, which releases HOLD. -/
  | activationDrainEnd
  /-- ACTIVATION_TIMEOUT (R342): The drain has not ended 250 ms after step 2; the activation is abandoned. -/
  | activationTimeout
  /-- ACTIVATION_HOLD_TIMEOUT (R343): The new image has not released HOLD 100 ms after the core reset; the previous image restarts. -/
  | activationHoldTimeout
  /-- SECURITY_SEND (R490): Carries one SPDM request on protocol E8h, or protocol 00h. -/
  | securitySend (t : Tag) (data : List Byte)
  /-- SECURITY_RECEIVE (R490): Returns the pending response, or zero bytes. -/
  | securityReceive (t : Tag)
  /-- SANITIZE (R335): Starts an Overwrite sanitize: discard the cache, spin up, and overwrite every sector. -/
  | sanitize (t : Tag)
  /-- SANITIZE_END (R335): The last sector has been overwritten and the sanitize completes. -/
  | sanitizeEnd
  /-- FLUSH (R329): Makes every posted write durable through CLEAN_ALL, or completes at once with the cache disabled. -/
  | flush (t : Tag)
  /-- WRITE (R322): A write-kind command enters the range lock and writes through the cache or a staging buffer. -/
  | write (t : Tag) (res : Slot)
  /-- READ (R20): A read-kind command is served from the cache or the media and completes after its data. -/
  | read (t : Tag) (res : Slot)
  /-- COMPARE (R333): Reads the range and completes with Compare Failure on a mismatch. -/
  | compare (t : Tag) (buf : Addr) (med : Addr) (res : Slot)
  /-- WRITE_ZEROES (R332): Writes zero-filled blocks through the buffer cache. -/
  | writeZeroes (t : Tag)
  /-- DATASET_MANAGEMENT (R334): Takes Deallocate as a hint that changes no logical block. -/
  | datasetManagement (t : Tag)
  /-- VERIFY (R333): Reads the range with VERIFY track operations and transfers nothing. -/
  | verify (t : Tag)
  /-- ZONE_APPEND (R350): Writes at the zone's write pointer as it stands at range-lock entry. -/
  | zoneAppend (t : Tag) (res : Slot)
  /-- ZONE_OPEN (R350): Zone Management Send Open opens a zone. -/
  | zoneOpen (t : Tag)
  /-- ZONE_CLOSE (R350): Zone Management Send Close closes a zone. -/
  | zoneClose (t : Tag)
  /-- ZONE_FINISH (R350): Zone Management Send Finish makes a zone Full. -/
  | zoneFinish (t : Tag)
  /-- ZONE_RESET (R350): Reset Zone discards the zone's lines and returns the write pointer to the zone start. -/
  | zoneReset (t : Tag)
  /-- REPORT_ZONES (R350): Zone Management Receive reports the zones. -/
  | reportZones (t : Tag)
  /-- INVALID_COMMAND_OPCODE (R309): An unsupported opcode completes with Invalid Command Opcode. -/
  | invalidCommandOpcode (t : Tag)
  /-- KIOSK_POST (R365): A write to KSK_TX appends a word to the queue toward the other end, or is refused when it is full. -/
  | kioskPost (m : Master) (ch : Chan) (e : Bool) (w : W32)
  /-- KIOSK_RECEIVE (R367): A read of KSK_RX removes the oldest word or marker; removing the last word sets EMPTY at the sender. -/
  | kioskReceive (m : Master) (ch : Chan) (e : Bool)
  /-- KIOSK_DISC_READ (R368): A read of KSK_DISC returns and clears the discard count. -/
  | kioskDiscRead (m : Master) (ch : Chan) (e : Bool)
  /-- GET_INFO (R376): Returns PWR_FAMILY_ID, the firmware version, the HDAs fitted and SEQ_IMAGE_ID. -/
  | getInfo (ch : Chan) (seq : Seq) (len : Nat)
  /-- HDA_STATE (R376): Returns the spindle state of every HDA and the isolated actuators. -/
  | hdaState (ch : Chan) (seq : Seq) (len : Nat)
  /-- SPIN_DOWN (R377): Holds media work, writes back, unloads, brakes and powers off the named HDAs. -/
  | spinDown (ch : Chan) (seq : Seq) (payload : List W32)
  /-- SPIN_UP (R378): Powers up the actuators, starts the named spindles and loads them at speed. -/
  | spinUp (ch : Chan) (seq : Seq) (payload : List W32)
  /-- WAYS (R516): Enables or disables cache ways one channel pair at a time. -/
  | ways (ch : Chan) (seq : Seq) (payload : List W32)
  /-- SET_SUBSYS (R378): Writes the subsystem IDs to the parameter area for the next PERST#. -/
  | setSubsys (ch : Chan) (seq : Seq) (payload : List W32)
  /-- SET_ACCEL (R378): Writes SPN_ACCEL_MAX.MAX. -/
  | setAccel (ch : Chan) (seq : Seq) (payload : List W32)
  /-- ICE_CLEAR (R475): Checks a clear token and accepts one ICE_CLEAR_CTL.GO. -/
  | iceClear (ch : Chan) (seq : Seq) (payload : List W32)
  /-- SHED_CHALLENGE (R492): Draws and returns a fresh nonce held with its scope for 300 s. -/
  | shedChallenge (ch : Chan) (seq : Seq) (payload : List W32)
  /-- SHED_RESPONSE (R493): Checks the signed response and opens the Potting Shed scope, or counts a failure. -/
  | shedResponse (ch : Chan) (seq : Seq) (payload : List W32)
  /-- ECHO (R376): Returns the same words. -/
  | echo (ch : Chan) (seq : Seq) (payload : List W32)
  /-- UNKNOWN_OP (R375): A message with an unknown OP is answered with status 1. -/
  | unknownOp (ch : Chan) (op : Byte) (seq : Seq)
  /-- MESSAGE_REPLY (R374): A deferred reply is posted once the receiver's queue has room for all of it. -/
  | messageReply
  /-- LOCK_ACQUIRE (R379): A core's read of STL_LOCK acquires a free lock or reports the holder. -/
  | lockAcquire (m : Master) (ix : Lock)
  /-- LOCK_RELEASE (R380): A write of RELEASE by the holder frees the lock; other masters are refused. -/
  | lockRelease (m : Master) (ix : Lock)
  /-- LOCK_BREAK (R380): STL_BREAK frees a held lock and marks it BROKEN. -/
  | lockBreak (m : Master) (ix : Lock)
  /-- DMA_START (R382): DMA_CTL.START checks the operand ranges and starts a copy, fill or compare. -/
  | dmaStart (m : Master) (n : DmaCh) (v : W32)
  /-- DMA_STOP (R387): DMA_CTL.STOP ends the channel after the burst in progress. -/
  | dmaStop (m : Master) (n : DmaCh)
  /-- DMA_BURST (R388): A ready channel's turn moves one burst of up to 64 bytes. -/
  | dmaBurst
  /-- PROGRAM (R397): A direct PROGRAM writes a blank unit, or is refused. -/
  | nvProgram (m : Master) (v : W32)
  /-- PROGRAM_END (R397): A program of a unit completes. -/
  | nvProgramEnd
  /-- ERASE (R401): A direct ERASE journals BEGIN and erases the sector. -/
  | nvErase (m : Master) (v : W32)
  /-- ERASE_END (R401): An erase verifies blank and writes END, or fails at its maximum with ERASE_FAIL. -/
  | nvEraseEnd (par : Bool) (fail : Bool)
  /-- SUSPEND (R406): SUSPEND holds the running erase until RESUME. -/
  | nvSuspend (m : Master) (v : W32)
  /-- RESUME (R407): RESUME continues an explicitly suspended erase. -/
  | nvResume (m : Master) (v : W32)
  /-- BLANK_CHECK (R391): BLANK_CHECK scans a sector and reports the first unit that is not blank. -/
  | nvBlankCheck (m : Master) (v : W32)
  /-- NVS_WINDOW_READ (R396): A read of the NV store window suspends an erase if needed and delivers data, poison or indeterminate data. -/
  | nvsWindowRead (m : Master) (off : BitVec 25) (ecc : Slot)
  /-- RECORD_READ (R411): READ returns the current record of an ID, or NOT_FOUND. -/
  | recordRead (m : Master) (v : W32)
  /-- RECORD_WRITE (R412): WRITE appends a record at the head, or ends AGED. -/
  | recordWrite (m : Master) (v : W32)
  /-- RECORD_WRITE_END (R413): A record write ends, after advancing the head and erasing where needed. -/
  | recordWriteEnd (fail : Bool)
  /-- SLOT_COMMIT (R417): ACTION 0 commits the staged image to a store slot. -/
  | slotCommit (m : Master) (slot : Bool)
  /-- SLOT_COMMIT_ACTIVATE (R417): ACTION 1 commits the image and programs ACT 0. -/
  | slotCommitActivate (m : Master) (slot : Bool)
  /-- SLOT_ACTIVATE (R419): ACTION 2 programs the first blank ACT unit of a bootable slot. -/
  | slotActivate (m : Master) (slot : Bool)
  /-- COMMIT_END (R417): The commit engine ends the commit or activation, OK or failed. -/
  | commitEnd (res : Slot) (repeats : BitVec 4)
  /-- GH_INFO (R449): Returns GH_ID and GH_GRAVE. -/
  | ghInfo (c : CoreId) (seq : Seq) (len : Nat)
  /-- SET_FENCE (R450): Sets the fence thresholds of the named HDAs, or refuses them. -/
  | setFence (c : CoreId) (seq : Seq) (payload : List W32)
  /-- RETRACT (R451): Retracts every named loaded actuator with no fault recorded. -/
  | retract (c : CoreId) (seq : Seq) (payload : List W32)
  /-- RECOVER (R443): Refuses or performs an actuator reset of an isolated actuator. -/
  | recover (c : CoreId) (seq : Seq) (payload : List W32) (reg0xF08 : BitVec 16)
  /-- RELEASE_SPINDLE (R452): Clears FORCED on each named spindle with CAUSE 2 in STOPPED. -/
  | releaseSpindle (c : CoreId) (seq : Seq) (payload : List W32)
  /-- CHOPPER_TEST (R437): Switches a rail's chopper on for 20 µs, or is refused. -/
  | chopperTest (c : CoreId) (seq : Seq) (payload : List W32)
  /-- CHOPPER_TEST_END (R437): The test passes when the current reaches 0.5 A, clearing the inhibit, or fails with status 4. -/
  | chopperTestEnd (r : Rail) (peakMa : BitVec 16) (within10us : Bool)
  /-- SET_NOTICE (R449): Sets the cores that receive Gatehouse notices. -/
  | setNotice (c : CoreId) (seq : Seq) (payload : List W32)
  /-- INJECT (R455): Makes the reaction logic treat a named condition as detected, or is refused. -/
  | inject (c : CoreId) (seq : Seq) (payload : List W32) (mv : BitVec 16)
  /-- RETRACT_REG_TIMEOUT (R430): No reply with TAG 15 in 4 µs; the retract is sent again on the next locked lane. -/
  | retractRegTimeout (a : Act)
  /-- RETRACT_POLL (R432): Every 200 µs register 0xF08 is read; 0x0000 ends the retract in PARKED or ISOLATED. -/
  | retractPoll (a : Act) (value : BitVec 16)
  /-- RETRACT_TIMEOUT (R433): A failure read, or 40 ms without completion, records RETRACT_FAIL or LINK and isolates the actuator. -/
  | retractTimeout (a : Act) (failed : Bool)
  /-- SUPPLY_EXCURSION (R438): A supply outside its window for 2 µs imposes write inhibit on every actuator. -/
  | supplyExcursion (b : BitVec 3) (mv : BitVec 16)
  /-- SUPPLY_FAULT (R438): A supply outside its window for 100 µs retracts every loaded actuator with cause SUPPLY. -/
  | supplyFault (b : BitVec 3) (mv : BitVec 16)
  /-- SUPPLY_RECOVERED (R438): Every supply is back in its window for 1 ms and write inhibit is released. -/
  | supplyRecovered
  /-- TEMPERATURE_SAMPLE (R439): The Gatehouse reads Tj every 1 ms. -/
  | temperatureSample (tj : Byte)
  /-- THERMAL_DETECTED (R439): Tj at or above 110 °C for 100 ms retracts every loaded actuator with cause THERMAL. -/
  | thermalDetected
  /-- THERMAL_GRAVE (R439): Tj at or above 125 °C for 10 ms raises a Grave fault. -/
  | thermalGrave
  /-- LOCKSTEP_MISMATCH (R425): The comparator sees the two cores differ; a Grave fault with cause GATEHOUSE. -/
  | lockstepMismatch
  /-- GH_SRAM_UNCORRECTABLE (R425): An uncorrectable error in Gatehouse SRAM is a Grave fault. -/
  | ghSramUncorrectable
  /-- NOTICE_READ (R448): A core's read of GH_NOTICEc clears PENDING for that core. -/
  | noticeRead (m : Master) (c : CoreId)
  /-- SUPPLY_STICKY_READ (R457): A core's read of GH_SUPPLY clears STICKY. -/
  | supplyStickyRead (m : Master)
  /-- SUNDIAL_READ (R459): A read of a master's SDL_NOW_LO captures both words for that master alone. -/
  | sundialRead (m : Master)
  /-- EPOCH_HI_WRITE (R460): A write to SDL_EPOCH_HI is held. -/
  | epochHiWrite (m : Master) (v : W32)
  /-- EPOCH_LO_WRITE (R460): A write to SDL_EPOCH_LO applies both words in one cycle and sets ORIGIN. -/
  | epochLoWrite (m : Master) (v : W32)
  /-- COMPARE_WRITE (R461): Writes to SDL_CMPc follow the held-HI, applying-LO rule. -/
  | compareWrite (m : Master) (c : CoreId) (lo : Bool) (v : W32)
  /-- TIMER_COMPARE (R461): The Sundial reaches an armed compare value and the core's Timer interrupt is asserted. -/
  | timerCompare (c : CoreId)
  /-- HISTOGRAM_SAMPLE (R465): A periodic quantity is sampled into its histogram and extremes. -/
  | histogramSample (q : Quantity) (x : Int)
  /-- SNAPSHOT_CAPTURE (R468): At a 10-minute boundary, at Grave, or at a clear, the Icehouse captures its state into a buffer. -/
  | snapshotCapture (reason : Slot)
  /-- SNAPSHOT_WRITE (R470): A buffered capture is written to the next blank slot, erasing a sector first when needed. -/
  | snapshotWrite (fails : Bool)
  /-- FOLD_ADD (R474): A write to ICE_FOLD_ADDi adds the value to accumulator i. -/
  | foldAdd (m : Master) (ix : BitVec 5) (v : W32)
  /-- ICEHOUSE_CLEAR (R476): ICE_CLEAR_CTL.GO captures, zeroes the state, records the clear and erases the ring. -/
  | icehouseClear (m : Master)
  /-- IMAGE_VERIFY (R483): SEC_VERIFY GO starts verification of an image under R480. -/
  | imageVerify (m : Master)
  /-- IMAGE_VERIFY_END (R483): Verification ends verified or failed within 20 ms. -/
  | imageVerifyEnd
  /-- MEASUREMENT_EXTEND (R488): SEC_EXTEND GO extends M6 or M7 and logs the extend; M0 to M5 are refused. -/
  | measurementExtend (m : Master) (v : W32)
  /-- KEY_ENROLL (R484): SEC_ENROLL GO checks the proof and programs the customer key, or refuses. -/
  | keyEnroll (m : Master)
  /-- SHED_CLOSE (R495): SEC_SHED_CTL.CLOSE clears every scope bit of the Potting Shed. -/
  | shedClose (m : Master)
  /-- NONCE_EXPIRED (R492): A held nonce expires after 300 s. -/
  | nonceExpired
  /-- GET_VERSION (R490): Answers with version 1.2 and ends every earlier exchange. -/
  | spdmGetVersion
  /-- GET_CAPABILITIES (R490): Answers with CERT_CAP, CHAL_CAP and MEAS_CAP. -/
  | spdmGetCapabilities
  /-- NEGOTIATE_ALGORITHMS (R490): Selects Ed25519 and SHA-512, or answers with ERROR. -/
  | spdmNegotiateAlgorithms
  /-- GET_DIGESTS (R490): Returns the digest of the slot 0 certificate chain. -/
  | spdmGetDigests
  /-- GET_CERTIFICATE (R490): Returns part of the slot 0 chain by offset and length. -/
  | spdmGetCertificate
  /-- CHALLENGE (R490): Signs the transcript with the identity key. -/
  | spdmChallenge
  /-- GET_MEASUREMENTS (R491): Returns M0 to M7 captured in one cycle, signed when requested. -/
  | spdmGetMeasurements
  /-- SMBUS_SET_POINTER (R535): Block Write of command 0x01 sets the read pointer. -/
  | smbusSetPointer (off : BitVec 16)
  /-- SMBUS_BLOCK_READ (R535): Block Read of command 0x02 returns 32 bytes of the GH copy and advances the pointer. -/
  | smbusBlockRead
  /-- SMBUS_COPY_REFRESH (R535): Every 1 ms the Gatehouse refreshes the SMBus copy of the GH registers. -/
  | smbusCopyRefresh
  /-- BYPASS (R536): Loads the bypass register into the scan path. -/
  | bypass
  /-- IDCODE (R536): Returns the IDCODE. -/
  | idcode
  /-- SAMPLE_PRELOAD (R536): Samples and preloads the boundary register. -/
  | samplePreload (pins : List Bool) (v : List Bool)
  /-- EXTEST (R537): Drives the pins from the boundary register, or loads BYPASS unless all spindles are stopped or coasting and none loaded. -/
  | extest
  /-- CLAMP (R537): Holds the outputs with bypass selected, under the same condition as EXTEST. -/
  | clamp
  /-- HIGHZ (R537): Puts the outputs in high impedance, under the same condition as EXTEST. -/
  | highz
  /-- ALIGN_BLOCK (R151): An ALIGN block arrives on an upstream lane and is checked against the deskew window; a lane outside the window is treated as failed. -/
  | alignBlock (a : Act) (lane : Slot) (skew : Byte)
  /-- PERST_RELEASE (R307): PERST# is released; the host Kiosk ends leave reset and the PCIe link retrains. -/
  | perstRelease
  /-- NORMAL_SHUTDOWN (R351): A host shutdown notification makes the controller record every zone write pointer in the parameter area. -/
  | normalShutdown
  /-- CONFIGURATION_REQUEST (R510): A PCIe configuration request is answered with Configuration Request Retry Status until FW_READY, and normally afterwards and in recovery mode. -/
  | configurationRequest (d : BitVec 10) (w : Bool) (v : W32)
  /-- GATEHOUSE_SUPPLY_LOST (R438): VDD_GH falls below 0.72 V; the Gatehouse is held in power-on reset and all controller state is lost, leaving NV store programs and erases cut short. -/
  | gatehouseSupplyLost
  /-- FAULT_AGED_OUT (R443): An Actuator-class fault becomes older than 24 h by Sundial, lowering FAULTS_24H and possibly lifting RECOVER reason 3. -/
  | faultAgedOut
  /-- INTERRUPT_COALESCING_TIMEOUT (R320): The aggregation time of interrupt coalescing expires and the completion queue's MSI-X vector is signalled. -/
  | interruptCoalescingTimeout (q : Byte)
  deriving DecidableEq, Repr

end Sys2Proof
end

