-- ==== Sys2Proof/Decode.lean ====
section
/-! DEFINITION. The table of commands gives no bits to any row (every "fields" of spec/opcode_table.json is empty), so no
word spells a command. -/

namespace Sys2Proof

/-- The command that a word of the table's bits spells: none, since the table gives no row any bits. -/
def decodeTableWord (_nbits _w : Nat) : Option Instr := none

end Sys2Proof
end

