-- ==== Sys2Proof/Machine/Crc.lean ====
section
/-! DEFINITION. Cyclic redundancy checks over bytes, most significant bit first, with no reflection and no final inversion, since
the rules that name them (R410, R133 and others) state a polynomial and an initial value only. -/

namespace Sys2Proof.Machine

/-- One step of a CRC of width `w`: the register shifts left by one and takes the polynomial when a one leaves the top. -/
def crcBit (w poly reg : Nat) (b : Bool) : Nat :=
  let top := reg.testBit (w - 1)
  let sh := (reg * 2) % 2 ^ w
  if top != b then sh ^^^ poly else sh

/-- The CRC register after the bits of one byte, bit 7 first. -/
def crcByte (w poly reg : Nat) (b : BitVec 8) : Nat :=
  [7, 6, 5, 4, 3, 2, 1, 0].foldl (fun r i => crcBit w poly r (b.toNat.testBit i)) reg

/-- The CRC of a byte string. -/
def crc (w poly init : Nat) (l : List (BitVec 8)) : Nat := l.foldl (crcByte w poly) init

/-- The CRC-32 of R410. -/
def crc32 (l : List (BitVec 8)) : Nat := crc 32 0x04C11DB7 0xFFFFFFFF l

end Sys2Proof.Machine
end

