-- ==== Sys2Proof/Config.lean ====
section
/-! DEFINITION. What an implementation fixes and the spec leaves open. Every constant here is opaque: nothing can be proved
about its value, so a statement holds for every value. -/

namespace Sys2Proof.Config

/-- The free values: what the spec calls indeterminate, undefined or leaves unstated, drawn by a counter in the state. -/
opaque freeValue : Nat → Nat

/-- The contents of the boot ROM, whose image the spec does not give. -/
opaque bootRom : Nat → BitVec 8

/-- The shift of a circulant of the LDPC code by block row and block column, none for a zero block; the table comes with the toolkit (R169). -/
opaque ldpcShift : Nat → Nat → Option Nat

/-- The circulant shift table: 19 block rows of 190 circulants of 192 × 192 bits (R169). -/
def ldpcShifts : List (List (Option Nat)) :=
  (List.range 19).map (fun r => (List.range 190).map (fun c => (ldpcShift r c).map (fun n => n % 192)))

/-- The interpolator between samples: the phase, 0 to 63, and the 8 samples, oldest first (R173 gives no coefficients). -/
opaque interpolate : Nat → List Int → Int

/-- The decision-directed timing error of the last equalised values and decisions, newest first, in 1/65,536 sample (R173 gives no formula). -/
opaque timingError : List Int → List Bool → Int

/-- The signal, in sample steps, that stands for 1.0 of a target (R175 gives no scale). -/
opaque signalUnit : Int

/-- The soft value of a detector step from the metrics of its 16 states after it (R176 gives neither the scale nor the survivors' depth). -/
opaque softValue : List Int → BitVec 5

/-- Deep retry's re-adaptation: the taps trained toward a target from given taps over captured samples (R190 gives no algorithm). -/
opaque retryTaps : List Int → List Int → List (Option Int) → List Int

/-- Deep retry's detector: the log-likelihood ratios of the channel bits of a window, resync fields left out, with taps and a target, and the
decoder's extrinsic information of the pass before, empty at the first (R190 gives no algorithm). -/
opaque retryLlrs : List Int → List Int → List (Option Int) → List Int → List Int

/-- The resident microcode words as shipped (spec/07_track_sequencers.md). -/
opaque residentWord : Nat → BitVec 32

/-- Whether the NV store supply is the low one at a Sundial time; the supply is set outside the part (R395). -/
opaque nvSupplyLow : Nat → Bool

/-- Where resident firmware stages a line of a command's data while the write class is disabled (R283 names rank 0 alone). -/
opaque stageLine : Nat → Nat → Nat

/-- Whether 6,144 resident words are a version of Oraedom's resident microcode, whose words the spec does not give (spec/07_track_sequencers.md). -/
opaque residentOwn : List (BitVec 32) → Bool

/-- The Service ABI version of resident microcode words (R256). -/
opaque residentAbi : List (BitVec 32) → Nat

/-- SHA-512 of a byte string (FIPS 180-4, named by spec/00_scope.md). -/
opaque sha512 : List (BitVec 8) → List (BitVec 8)

/-- Ed25519 verification (RFC 8032): public key, message, signature. -/
opaque ed25519Verify : List (BitVec 8) → List (BitVec 8) → List (BitVec 8) → Bool

/-- The fused SHA-512 hash of the vendor root key (the table of keys of spec/14_trust.md). -/
opaque vendorKeyHash : List (BitVec 8)

/-- The identity public key, and an Ed25519 signature by the identity private key (R477, R479). -/
opaque identityPk : List (BitVec 8)
opaque identitySign : List (BitVec 8) → List (BitVec 8)

/-- The component type of the measurement block of a register (R490 says only that it is a digest). -/
opaque measType : Nat → Nat

/-- The HDAs fitted on the sled, by bit (GET_INFO of R376); the spec gives no register for it. -/
opaque hdasFitted : BitVec 16

/-- The PCI Express device serial number (R303 names the capability only). -/
opaque serialNumber : BitVec 64

/-- The front-end register of a precompensation delay, by item of calibration class 1 (R514 names no register). -/
opaque delayRegister : Nat → Nat

/-- The manufacturer identity that JEDEC assigns to the maker, 11 bits of the IDCODE (R536). -/
opaque jedecId : BitVec 11

/-- The core supply's code in the fuses, 0 to 10 (R521). -/
opaque vidCode : Nat

end Sys2Proof.Config
end

