-- ==== Sys2Proof/Machine/RegTypes.lean ====
section
/-! DEFINITION. What a register entry of the spec says: its address, its reset value, its fields with their bits, access
codes and stated ranges, and its reset domain (the section "Register entries" of spec/00_scope.md, R4–R6). -/

namespace Sys2Proof.Machine

/-- The reset domains of the table under R8 and R544 (spec/00_scope.md). `kskEnd` is the domain of a Kiosk window, which is
that of its end (R371, R390). -/
inductive Dom where
  | por | chip | pcie | nvme | core | act | actpwr | kskEnd
  deriving DecidableEq, Repr

/-- The access codes of the section "Register entries" (spec/00_scope.md). -/
inductive Acc where
  | ro | rw | w1c | w1p | rc | rs | gh | ps
  deriving DecidableEq, Repr

/-- A bit field: its lowest bit and its width. -/
structure Fld where
  lo : Nat
  w  : Nat
  deriving DecidableEq, Repr

/-- A register: the key it is stored under (its internal address, R4; a per-core copy adds the core times 2^48) and
its reset value. -/
structure Reg where
  key : Nat
  rst : BitVec 32
  deriving DecidableEq, Repr

/-- One field of a register entry: its bits, its access code and its stated range. -/
structure FieldSpec where
  fld : Fld
  acc : Acc
  min : Nat
  max : Nat
  deriving DecidableEq, Repr

/-- One register entry: the base address, the strides with their instance counts (outermost first), the reset
domain, the reset value and the fields. -/
structure RegSpec where
  base    : Nat
  strides : List (Nat × Nat)
  dom     : Dom
  rst     : Nat
  fields  : List FieldSpec
  deriving DecidableEq, Repr

end Sys2Proof.Machine
end

