-- ==== Sys2Proof/Machine/Fields.lean ====
section
/-! DEFINITION. Bit fields of a 32-bit register word, and signed values in a field. -/

namespace Sys2Proof.Machine

/-- The mask of a field. -/
def fmask (f : Fld) : BitVec 32 := ((BitVec.allOnes 32) >>> (32 - f.w)) <<< f.lo

/-- The value of a field. -/
def fget (v : BitVec 32) (f : Fld) : Nat := (v.toNat >>> f.lo) % 2 ^ f.w

/-- The word with a field replaced; bits of the value above the field's width are dropped. -/
def fset (v : BitVec 32) (f : Fld) (n : Nat) : BitVec 32 :=
  (v &&& ~~~ fmask f) ||| ((BitVec.ofNat 32 n <<< f.lo) &&& fmask f)

/-- A natural number of `w` bits read as two's complement. -/
def toSigned (w n : Nat) : Int := if n < 2 ^ (w - 1) then (n : Int) else (n : Int) - (2 ^ w : Nat)

/-- The two's complement of an integer in `w` bits. -/
def ofSigned (w : Nat) (i : Int) : Nat := (i % (2 ^ w : Nat)).toNat

/-- Bit `i` of a natural number. -/
def bit (n i : Nat) : Bool := n.testBit i

/-- A natural number with bit `i` set to `b`. -/
def setBit (n i : Nat) (b : Bool) : Nat :=
  if n.testBit i = b then n else if b then n + 2 ^ i else n - 2 ^ i

/-- The positions of the one bits among the lowest `w`. -/
def bitsOf (w n : Nat) : List Nat := (List.range w).filter (fun i => n.testBit i)

/-- A flag as a number. -/
def b2n (b : Bool) : Nat := if b then 1 else 0

/-- Saturating increment in `w` bits. -/
def satAdd (w n k : Nat) : Nat := min (n + k) (2 ^ w - 1)

end Sys2Proof.Machine
end

