-- ==== Sys2Proof/Machine/RegMap.lean ====
section
/-! DEFINITION. The register map: every register entry of the spec as a `Reg` (its address and reset value), every field
as a `Fld`, and the table of entries `regTable` with the access code and stated range of each field. Each entry's docstring
names the file of spec/ and the rule it belongs to. Counters of two words are given by the key of their low word. -/

namespace Sys2Proof.Machine

/-- PWR_FAMILY_ID, spec/00_scope.md, R3. -/
def PWR_FAMILY_ID : Reg := ⟨0x49000000, 0x64441001⟩
def F_PWR_FAMILY_ID_PART_CODE : Fld := ⟨24, 8⟩
def F_PWR_FAMILY_ID_P : Fld := ⟨20, 4⟩
def F_PWR_FAMILY_ID_A : Fld := ⟨16, 4⟩
def F_PWR_FAMILY_ID_H : Fld := ⟨8, 8⟩
def F_PWR_FAMILY_ID_STEPPING : Fld := ⟨0, 8⟩

/-- SPN_CMD, spec/02_spindles.md, R50. -/
def SPN_CMD (h : Nat) : Reg := ⟨0x41000000 + 0x1000 * h, 0x0⟩
def F_SPN_CMD_COAST : Fld := ⟨2, 1⟩
def F_SPN_CMD_BRAKE : Fld := ⟨1, 1⟩
def F_SPN_CMD_START : Fld := ⟨0, 1⟩

/-- SPN_STATE, spec/02_spindles.md, R45. -/
def SPN_STATE (h : Nat) : Reg := ⟨0x41000004 + 0x1000 * h, 0x67⟩
def F_SPN_STATE_LOADED : Fld := ⟨12, 1⟩
def F_SPN_STATE_REGEN_INHIBIT : Fld := ⟨11, 1⟩
def F_SPN_STATE_DIR : Fld := ⟨10, 1⟩
def F_SPN_STATE_PENDING : Fld := ⟨9, 1⟩
def F_SPN_STATE_FORCED : Fld := ⟨8, 1⟩
def F_SPN_STATE_CAUSE : Fld := ⟨4, 4⟩
def F_SPN_STATE_STATE : Fld := ⟨0, 4⟩

/-- SPN_TARGET, spec/02_spindles.md, R83. -/
def SPN_TARGET (h : Nat) : Reg := ⟨0x41000008 + 0x1000 * h, 0x1c20⟩
def F_SPN_TARGET_RPM : Fld := ⟨0, 14⟩

/-- SPN_RAMP, spec/02_spindles.md, R83. -/
def SPN_RAMP (h : Nat) : Reg := ⟨0x4100000c + 0x1000 * h, 0x640384⟩
def F_SPN_RAMP_LEAD : Fld := ⟨16, 12⟩
def F_SPN_RAMP_RATE : Fld := ⟨0, 16⟩

/-- SPN_MOTOR, spec/02_spindles.md, R83. -/
def SPN_MOTOR (h : Nat) : Reg := ⟨0x41000010 + 0x1000 * h, 0x5780004⟩
def F_SPN_MOTOR_KE : Fld := ⟨16, 16⟩
def F_SPN_MOTOR_POLE_PAIRS : Fld := ⟨0, 4⟩

/-- SPN_COMM, spec/02_spindles.md, R83. -/
def SPN_COMM (h : Nat) : Reg := ⟨0x41000014 + 0x1000 * h, 0xa78⟩
def F_SPN_COMM_BLANK : Fld := ⟨8, 8⟩
def F_SPN_COMM_DELAY : Fld := ⟨0, 8⟩

/-- SPN_START0, spec/02_spindles.md, R83. -/
def SPN_START0 (h : Nat) : Reg := ⟨0x41000018 + 0x1000 * h, 0x3e800fa⟩
def F_SPN_START0_OL_TIME_MS : Fld := ⟨16, 16⟩
def F_SPN_START0_ALIGN_MS : Fld := ⟨0, 16⟩

/-- SPN_START1, spec/02_spindles.md, R83. -/
def SPN_START1 (h : Nat) : Reg := ⟨0x4100001c + 0x1000 * h, 0x1c2003c⟩
def F_SPN_START1_OL_END_RPM : Fld := ⟨16, 16⟩
def F_SPN_START1_OL_START_RPM : Fld := ⟨0, 16⟩

/-- SPN_ILIMIT, spec/02_spindles.md, R83. -/
def SPN_ILIMIT (h : Nat) : Reg := ⟨0x41000020 + 0x1000 * h, 0x177009c4⟩
def F_SPN_ILIMIT_TRIP_MA : Fld := ⟨16, 16⟩
def F_SPN_ILIMIT_LIMIT_MA : Fld := ⟨0, 16⟩

/-- SPN_PWM, spec/02_spindles.md, R83. -/
def SPN_PWM (h : Nat) : Reg := ⟨0x41000024 + 0x1000 * h, 0x8014⟩
def F_SPN_PWM_MAX_SKIP : Fld := ⟨12, 4⟩
def F_SPN_PWM_CUR_MODE : Fld := ⟨8, 1⟩
def F_SPN_PWM_DEAD_TIME : Fld := ⟨0, 7⟩

/-- SPN_BRAKE, spec/02_spindles.md, R83. -/
def SPN_BRAKE (h : Nat) : Reg := ⟨0x41000028 + 0x1000 * h, 0x1e0258⟩
def F_SPN_BRAKE_SB_MAX_S : Fld := ⟨16, 8⟩
def F_SPN_BRAKE_HANDOFF_RPM : Fld := ⟨0, 16⟩

/-- SPN_TIMEOUT, spec/02_spindles.md, R83. -/
def SPN_TIMEOUT (h : Nat) : Reg := ⟨0x4100002c + 0x1000 * h, 0xf⟩
def F_SPN_TIMEOUT_SPINUP_S : Fld := ⟨0, 8⟩

/-- SPN_SPEED0, spec/02_spindles.md, R33. -/
def SPN_SPEED0 (h : Nat) : Reg := ⟨0x41000040 + 0x1000 * h, 0x0⟩
def F_SPN_SPEED0_NEG : Fld := ⟨23, 1⟩
def F_SPN_SPEED0_PREDICTED : Fld := ⟨22, 1⟩
def F_SPN_SPEED0_SOURCE : Fld := ⟨20, 2⟩
def F_SPN_SPEED0_RPM_X16 : Fld := ⟨0, 20⟩

/-- SPN_SPEED1, spec/02_spindles.md, R33. -/
def SPN_SPEED1 (h : Nat) : Reg := ⟨0x41000044 + 0x1000 * h, 0x0⟩
def F_SPN_SPEED1_PERIOD : Fld := ⟨0, 32⟩

/-- SPN_CURRENT0, spec/02_spindles.md, R33. -/
def SPN_CURRENT0 (h : Nat) : Reg := ⟨0x41000048 + 0x1000 * h, 0x0⟩
def F_SPN_CURRENT0_I_V : Fld := ⟨16, 16⟩
def F_SPN_CURRENT0_I_U : Fld := ⟨0, 16⟩

/-- SPN_CURRENT1, spec/02_spindles.md, R33. -/
def SPN_CURRENT1 (h : Nat) : Reg := ⟨0x4100004c + 0x1000 * h, 0x0⟩
def F_SPN_CURRENT1_DUTY : Fld := ⟨16, 16⟩
def F_SPN_CURRENT1_I_W : Fld := ⟨0, 16⟩

/-- SPN_CATCH, spec/02_spindles.md, R55. -/
def SPN_CATCH (h : Nat) : Reg := ⟨0x41000050 + 0x1000 * h, 0x0⟩
def F_SPN_CATCH_RPM : Fld := ⟨16, 16⟩
def F_SPN_CATCH_RESULT : Fld := ⟨0, 2⟩

/-- SPN_REV_COUNT, spec/02_spindles.md, R84. -/
def SPN_REV_COUNT (h : Nat) : Reg := ⟨0x41000060 + 0x1000 * h, 0x0⟩
def F_SPN_REV_COUNT_REVS : Fld := ⟨0, 32⟩

/-- SPN_SKIP_COUNT, spec/02_spindles.md, R84. -/
def SPN_SKIP_COUNT (h : Nat) : Reg := ⟨0x41000064 + 0x1000 * h, 0x0⟩
def F_SPN_SKIP_COUNT_SKIPS : Fld := ⟨0, 32⟩

/-- SPN_SHIFT_COUNT, spec/02_spindles.md, R84. -/
def SPN_SHIFT_COUNT (h : Nat) : Reg := ⟨0x41000068 + 0x1000 * h, 0x0⟩
def F_SPN_SHIFT_COUNT_GROUPS : Fld := ⟨0, 32⟩

/-- SPN_START_COUNT, spec/02_spindles.md, R84. -/
def SPN_START_COUNT (h : Nat) : Reg := ⟨0x4100006c + 0x1000 * h, 0x0⟩
def F_SPN_START_COUNT_STARTS : Fld := ⟨0, 32⟩

/-- SPN_FAULT, spec/02_spindles.md, R82. -/
def SPN_FAULT (h : Nat) : Reg := ⟨0x41000070 + 0x1000 * h, 0x0⟩
def F_SPN_FAULT_START_FAIL : Fld := ⟨7, 1⟩
def F_SPN_FAULT_TARGET_REFUSED : Fld := ⟨6, 1⟩
def F_SPN_FAULT_CMD_REFUSED : Fld := ⟨5, 1⟩
def F_SPN_FAULT_FORCED_SB : Fld := ⟨4, 1⟩
def F_SPN_FAULT_BRAKE_TMO : Fld := ⟨3, 1⟩
def F_SPN_FAULT_SPEED_BAND : Fld := ⟨2, 1⟩
def F_SPN_FAULT_OVERCURRENT : Fld := ⟨1, 1⟩
def F_SPN_FAULT_SPINUP_TMO : Fld := ⟨0, 1⟩

/-- SPN_ACCEL_MAX, spec/02_spindles.md, R75. -/
def SPN_ACCEL_MAX : Reg := ⟨0x41000800, 0x4⟩
def F_SPN_ACCEL_MAX_MAX : Fld := ⟨0, 5⟩

/-- SPN_ACCEL_NOW, spec/02_spindles.md, R75. -/
def SPN_ACCEL_NOW : Reg := ⟨0x41000804, 0x0⟩
def F_SPN_ACCEL_NOW_PENDING : Fld := ⟨8, 5⟩
def F_SPN_ACCEL_NOW_ACCEL : Fld := ⟨0, 5⟩

/-- SPN_START_MASK, spec/02_spindles.md, R72. -/
def SPN_START_MASK : Reg := ⟨0x41000808, 0x0⟩
def F_SPN_START_MASK_MASK : Fld := ⟨0, 16⟩

/-- SRV_WEDGE, spec/03_servo.md, R85. -/
def SRV_WEDGE (h : Nat) : Reg := ⟨0x41100000 + 0x10000 * h, 0x200⟩
def F_SRV_WEDGE_WEDGES : Fld := ⟨0, 11⟩

/-- SRV_STATUS, spec/03_servo.md, R87. -/
def SRV_STATUS (h : Nat) : Reg := ⟨0x41100004 + 0x10000 * h, 0x0⟩
def F_SRV_STATUS_LOCKED : Fld := ⟨16, 1⟩
def F_SRV_STATUS_INDEX : Fld := ⟨0, 10⟩

/-- SRV_SOFT, spec/03_servo.md, R119. -/
def SRV_SOFT (h : Nat) : Reg := ⟨0x41100008 + 0x10000 * h, 0x408⟩
def F_SRV_SOFT_MICRO : Fld := ⟨8, 5⟩
def F_SRV_SOFT_WEDGES : Fld := ⟨0, 7⟩

/-- SRV_SETTLE, spec/03_servo.md, R120. -/
def SRV_SETTLE (h : Nat) : Reg := ⟨0x4110000c + 0x10000 * h, 0x40c8527b⟩
def F_SRV_SETTLE_TMO : Fld := ⟨24, 8⟩
def F_SRV_SETTLE_WRITE_COUNT : Fld := ⟨20, 4⟩
def F_SRV_SETTLE_READ_COUNT : Fld := ⟨16, 4⟩
def F_SRV_SETTLE_WRITE_THR : Fld := ⟨8, 8⟩
def F_SRV_SETTLE_READ_THR : Fld := ⟨0, 8⟩

/-- SRV_FENCE, spec/03_servo.md, R122. -/
def SRV_FENCE (h : Nat) : Reg := ⟨0x41100010 + 0x10000 * h, 0x3d7b⟩
def F_SRV_FENCE_DELTA_THR : Fld := ⟨8, 8⟩
def F_SRV_FENCE_PES_THR : Fld := ⟨0, 8⟩

/-- SRV_COEF_CTL, spec/03_servo.md, R103. -/
def SRV_COEF_CTL (h : Nat) : Reg := ⟨0x41100020 + 0x10000 * h, 0x0⟩
def F_SRV_COEF_CTL_CLOSE_MODE : Fld := ⟨12, 2⟩
def F_SRV_COEF_CTL_CLOSE : Fld := ⟨9, 1⟩
def F_SRV_COEF_CTL_OPEN : Fld := ⟨8, 1⟩
def F_SRV_COEF_CTL_LOOP : Fld := ⟨0, 5⟩

/-- SRV_OPEN, spec/03_servo.md, R103. -/
def SRV_OPEN (h : Nat) : Reg := ⟨0x41100024 + 0x10000 * h, 0x0⟩
def F_SRV_OPEN_SLOTS : Fld := ⟨0, 21⟩

/-- SRV_PROF, spec/03_servo.md, R117. -/
def SRV_PROF (h p : Nat) : Reg := ⟨0x41100040 + 0x10000 * h + 0x8 * p, 0x0⟩
def F_SRV_PROF_A_MAX : Fld := ⟨16, 16⟩
def F_SRV_PROF_V_MAX : Fld := ⟨0, 16⟩

/-- SRV_PROFJ, spec/03_servo.md, R117. -/
def SRV_PROFJ (h p : Nat) : Reg := ⟨0x41100044 + 0x10000 * h + 0x8 * p, 0x10⟩
def F_SRV_PROFJ_J : Fld := ⟨0, 7⟩

/-- SRV_LOOP_FLAGS, spec/03_servo.md, R100. -/
def SRV_LOOP_FLAGS (h l : Nat) : Reg := ⟨0x41100400 + 0x10000 * h + 0x4 * l, 0x0⟩
def F_SRV_LOOP_FLAGS_OUT_SAT : Fld := ⟨3, 1⟩
def F_SRV_LOOP_FLAGS_INT_HOLD : Fld := ⟨2, 1⟩
def F_SRV_LOOP_FLAGS_INT_SAT : Fld := ⟨1, 1⟩
def F_SRV_LOOP_FLAGS_BQ_SAT : Fld := ⟨0, 1⟩

/-- SRV_COEF, spec/03_servo.md, R102. -/
def SRV_COEF (h l w : Nat) : Reg := ⟨0x41101000 + 0x10000 * h + 0x100 * l + 0x4 * w, 0x0⟩
def F_SRV_COEF_WORD : Fld := ⟨0, 32⟩

/-- SRV_STATE_E, spec/03_servo.md, R33. -/
def SRV_STATE_E (h l : Nat) : Reg := ⟨0x41103000 + 0x10000 * h + 0x40 * l, 0x0⟩
def F_SRV_STATE_E_E : Fld := ⟨0, 32⟩

/-- SRV_STATE_U, spec/03_servo.md, R33. -/
def SRV_STATE_U (h l : Nat) : Reg := ⟨0x41103004 + 0x10000 * h + 0x40 * l, 0x0⟩
def F_SRV_STATE_U_U : Fld := ⟨0, 32⟩

/-- SRV_STATE_I, spec/03_servo.md, R33. -/
def SRV_STATE_I (h l : Nat) : Reg := ⟨0x41103008 + 0x10000 * h + 0x40 * l, 0x0⟩
def F_SRV_STATE_I_I : Fld := ⟨0, 32⟩

/-- SRV_STATE_O, spec/03_servo.md, R33. -/
def SRV_STATE_O (h l : Nat) : Reg := ⟨0x4110300c + 0x10000 * h + 0x40 * l, 0x0⟩
def F_SRV_STATE_O_O : Fld := ⟨0, 32⟩

/-- SRV_ACT_CMD, spec/03_servo.md, R112. -/
def SRV_ACT_CMD (a : Nat) : Reg := ⟨0x41100100 + 0x10000 * (a / 4) + 0x40 * (a % 4), 0x0⟩
def F_SRV_ACT_CMD_SEEK : Fld := ⟨2, 1⟩
def F_SRV_ACT_CMD_UNLOAD : Fld := ⟨1, 1⟩
def F_SRV_ACT_CMD_LOAD : Fld := ⟨0, 1⟩

/-- SRV_ACT_STATE, spec/03_servo.md, R110. -/
def SRV_ACT_STATE (a : Nat) : Reg := ⟨0x41100104 + 0x10000 * (a / 4) + 0x40 * (a % 4), 0x0⟩
def F_SRV_ACT_STATE_FORCED : Fld := ⟨21, 1⟩
def F_SRV_ACT_STATE_READ_SETTLED : Fld := ⟨20, 1⟩
def F_SRV_ACT_STATE_MISS : Fld := ⟨16, 4⟩
def F_SRV_ACT_STATE_REACH_OUT : Fld := ⟨12, 4⟩
def F_SRV_ACT_STATE_WSET : Fld := ⟨8, 4⟩
def F_SRV_ACT_STATE_IN_STRIPE : Fld := ⟨4, 4⟩
def F_SRV_ACT_STATE_STATE : Fld := ⟨0, 4⟩

/-- SRV_SEEK0, spec/03_servo.md, R112. -/
def SRV_SEEK0 (a : Nat) : Reg := ⟨0x41100108 + 0x10000 * (a / 4) + 0x40 * (a % 4), 0x0⟩
def F_SRV_SEEK0_PROFILE : Fld := ⟨24, 2⟩
def F_SRV_SEEK0_CYL : Fld := ⟨0, 21⟩

/-- SRV_SEEK1, spec/03_servo.md, R112. -/
def SRV_SEEK1 (a : Nat) : Reg := ⟨0x4110010c + 0x10000 * (a / 4) + 0x40 * (a % 4), 0x0⟩
def F_SRV_SEEK1_V3 : Fld := ⟨15, 1⟩
def F_SRV_SEEK1_HEAD3 : Fld := ⟨12, 3⟩
def F_SRV_SEEK1_V2 : Fld := ⟨11, 1⟩
def F_SRV_SEEK1_HEAD2 : Fld := ⟨8, 3⟩
def F_SRV_SEEK1_V1 : Fld := ⟨7, 1⟩
def F_SRV_SEEK1_HEAD1 : Fld := ⟨4, 3⟩
def F_SRV_SEEK1_V0 : Fld := ⟨3, 1⟩
def F_SRV_SEEK1_HEAD0 : Fld := ⟨0, 3⟩

/-- SRV_OFFSET0, spec/03_servo.md, R89. -/
def SRV_OFFSET0 (a : Nat) : Reg := ⟨0x41100110 + 0x10000 * (a / 4) + 0x40 * (a % 4), 0x0⟩
def F_SRV_OFFSET0_OFS1 : Fld := ⟨16, 16⟩
def F_SRV_OFFSET0_OFS0 : Fld := ⟨0, 16⟩

/-- SRV_OFFSET1, spec/03_servo.md, R89. -/
def SRV_OFFSET1 (a : Nat) : Reg := ⟨0x41100114 + 0x10000 * (a / 4) + 0x40 * (a % 4), 0x0⟩
def F_SRV_OFFSET1_OFS3 : Fld := ⟨16, 16⟩
def F_SRV_OFFSET1_OFS2 : Fld := ⟨0, 16⟩

/-- SRV_ACT_LIMIT, spec/03_servo.md, R112. -/
def SRV_ACT_LIMIT (a : Nat) : Reg := ⟨0x41100118 + 0x10000 * (a / 4) + 0x40 * (a % 4), 0x6000000⟩
def F_SRV_ACT_LIMIT_HEADS_PRESENT : Fld := ⟨24, 3⟩
def F_SRV_ACT_LIMIT_MAX_CYL : Fld := ⟨0, 21⟩

/-- SRV_ACT_FLAGS, spec/03_servo.md, R129. -/
def SRV_ACT_FLAGS (a : Nat) : Reg := ⟨0x4110011c + 0x10000 * (a / 4) + 0x40 * (a % 4), 0x0⟩
def F_SRV_ACT_FLAGS_LOAD_TMO : Fld := ⟨7, 1⟩
def F_SRV_ACT_FLAGS_REACH : Fld := ⟨6, 1⟩
def F_SRV_ACT_FLAGS_VCM_SAT : Fld := ⟨5, 1⟩
def F_SRV_ACT_FLAGS_SERVO_LOST : Fld := ⟨4, 1⟩
def F_SRV_ACT_FLAGS_OPEN_LIMIT : Fld := ⟨3, 1⟩
def F_SRV_ACT_FLAGS_SETTLE_TMO : Fld := ⟨2, 1⟩
def F_SRV_ACT_FLAGS_SEEK_REFUSED : Fld := ⟨1, 1⟩
def F_SRV_ACT_FLAGS_CMD_REFUSED : Fld := ⟨0, 1⟩

/-- SRV_WEDGE_COUNT, spec/03_servo.md, R129. -/
def SRV_WEDGE_COUNT (a : Nat) : Reg := ⟨0x41100120 + 0x10000 * (a / 4) + 0x40 * (a % 4), 0x0⟩
def F_SRV_WEDGE_COUNT_WEDGES : Fld := ⟨0, 32⟩

/-- SRV_SEEK_COUNT, spec/03_servo.md, R129. -/
def SRV_SEEK_COUNT (a : Nat) : Reg := ⟨0x41100124 + 0x10000 * (a / 4) + 0x40 * (a % 4), 0x0⟩
def F_SRV_SEEK_COUNT_SEEKS : Fld := ⟨0, 32⟩

/-- SRV_SEEK_REPLACED, spec/03_servo.md, R129. -/
def SRV_SEEK_REPLACED (a : Nat) : Reg := ⟨0x41100128 + 0x10000 * (a / 4) + 0x40 * (a % 4), 0x0⟩
def F_SRV_SEEK_REPLACED_COUNT : Fld := ⟨0, 32⟩

/-- LNK_CTL, spec/04_sloas_link.md, R149. -/
def LNK_CTL (a : Nat) : Reg := ⟨0x40001000 + 0x40000 * a, 0x0⟩
def F_LNK_CTL_TRAIN : Fld := ⟨0, 1⟩

/-- LNK_STATE, spec/04_sloas_link.md, R153. -/
def LNK_STATE (a : Nat) : Reg := ⟨0x40001004 + 0x40000 * a, 0x440000⟩
def F_LNK_STATE_DN_SLOT1 : Fld := ⟨22, 2⟩
def F_LNK_STATE_DN_SLOT0 : Fld := ⟨20, 2⟩
def F_LNK_STATE_UP_SLOT1 : Fld := ⟨18, 2⟩
def F_LNK_STATE_UP_SLOT0 : Fld := ⟨16, 2⟩
def F_LNK_STATE_DN_FAILED : Fld := ⟨12, 4⟩
def F_LNK_STATE_UP_FAILED : Fld := ⟨8, 4⟩
def F_LNK_STATE_LOCKED : Fld := ⟨4, 4⟩
def F_LNK_STATE_MODE : Fld := ⟨0, 2⟩

/-- LNK_SKEW, spec/04_sloas_link.md, R150. -/
def LNK_SKEW (a : Nat) : Reg := ⟨0x40001008 + 0x40000 * a, 0x0⟩
def F_LNK_SKEW_DN_LOCKED : Fld := ⟨16, 4⟩
def F_LNK_SKEW_SKEW3 : Fld := ⟨12, 4⟩
def F_LNK_SKEW_SKEW2 : Fld := ⟨8, 4⟩
def F_LNK_SKEW_SKEW1 : Fld := ⟨4, 4⟩
def F_LNK_SKEW_SKEW0 : Fld := ⟨0, 4⟩

/-- LNK_FE_CMD, spec/04_sloas_link.md, R160. -/
def LNK_FE_CMD (a : Nat) : Reg := ⟨0x40001010 + 0x40000 * a, 0x0⟩
def F_LNK_FE_CMD_GO : Fld := ⟨31, 1⟩
def F_LNK_FE_CMD_WRITE : Fld := ⟨30, 1⟩
def F_LNK_FE_CMD_ADDR : Fld := ⟨16, 12⟩
def F_LNK_FE_CMD_DATA : Fld := ⟨0, 16⟩

/-- LNK_FE_RESULT, spec/04_sloas_link.md, R160. -/
def LNK_FE_RESULT (a : Nat) : Reg := ⟨0x40001014 + 0x40000 * a, 0x0⟩
def F_LNK_FE_RESULT_BUSY : Fld := ⟨31, 1⟩
def F_LNK_FE_RESULT_DONE : Fld := ⟨30, 1⟩
def F_LNK_FE_RESULT_ERR : Fld := ⟨28, 2⟩
def F_LNK_FE_RESULT_DATA : Fld := ⟨0, 16⟩

/-- LNK_FE_STATUS0, spec/04_sloas_link.md, R33. -/
def LNK_FE_STATUS0 (a : Nat) : Reg := ⟨0x40001020 + 0x40000 * a, 0x0⟩
def F_LNK_FE_STATUS0_STATUS_LO : Fld := ⟨0, 32⟩

/-- LNK_FE_STATUS1, spec/04_sloas_link.md, R33. -/
def LNK_FE_STATUS1 (a : Nat) : Reg := ⟨0x40001024 + 0x40000 * a, 0x0⟩
def F_LNK_FE_STATUS1_STATUS_HI : Fld := ⟨0, 32⟩

/-- LNK_FLAGS, spec/04_sloas_link.md, R148. -/
def LNK_FLAGS (a : Nat) : Reg := ⟨0x40001030 + 0x40000 * a, 0x0⟩
def F_LNK_FLAGS_FE_RETRACT : Fld := ⟨10, 1⟩
def F_LNK_FLAGS_SCMD_LOST : Fld := ⟨9, 1⟩
def F_LNK_FLAGS_FE_OVF : Fld := ⟨8, 1⟩
def F_LNK_FLAGS_WFAULT : Fld := ⟨4, 4⟩
def F_LNK_FLAGS_FE_ID_BAD : Fld := ⟨3, 1⟩
def F_LNK_FLAGS_DOWN : Fld := ⟨2, 1⟩
def F_LNK_FLAGS_DEGRADED : Fld := ⟨1, 1⟩
def F_LNK_FLAGS_LANE_FAIL : Fld := ⟨0, 1⟩

/-- LNK_UP_SYNC_ERR, spec/04_sloas_link.md, R164. -/
def LNK_UP_SYNC_ERR (a i : Nat) : Reg := ⟨0x40001100 + 0x40000 * a + 0x20 * i, 0x0⟩
def F_LNK_UP_SYNC_ERR_N : Fld := ⟨0, 32⟩

/-- LNK_UP_CRC_ERR, spec/04_sloas_link.md, R164. -/
def LNK_UP_CRC_ERR (a i : Nat) : Reg := ⟨0x40001104 + 0x40000 * a + 0x20 * i, 0x0⟩
def F_LNK_UP_CRC_ERR_N : Fld := ⟨0, 32⟩

/-- LNK_UP_PAR_ERR, spec/04_sloas_link.md, R164. -/
def LNK_UP_PAR_ERR (a i : Nat) : Reg := ⟨0x40001108 + 0x40000 * a + 0x20 * i, 0x0⟩
def F_LNK_UP_PAR_ERR_N : Fld := ⟨0, 32⟩

/-- LNK_UP_SEQ_GAP, spec/04_sloas_link.md, R164. -/
def LNK_UP_SEQ_GAP (a i : Nat) : Reg := ⟨0x4000110c + 0x40000 * a + 0x20 * i, 0x0⟩
def F_LNK_UP_SEQ_GAP_N : Fld := ⟨0, 32⟩

/-- LNK_UP_LOCK_LOSS, spec/04_sloas_link.md, R164. -/
def LNK_UP_LOCK_LOSS (a i : Nat) : Reg := ⟨0x40001110 + 0x40000 * a + 0x20 * i, 0x0⟩
def F_LNK_UP_LOCK_LOSS_N : Fld := ⟨0, 32⟩

/-- LNK_UP_RETRAIN, spec/04_sloas_link.md, R164. -/
def LNK_UP_RETRAIN (a i : Nat) : Reg := ⟨0x40001114 + 0x40000 * a + 0x20 * i, 0x0⟩
def F_LNK_UP_RETRAIN_N : Fld := ⟨0, 32⟩

/-- LNK_UP_FRAMES, spec/04_sloas_link.md, R164. -/
def LNK_UP_FRAMES (a i : Nat) : Nat := 0x40001118 + 0x40000 * a + 0x20 * i

/-- LNK_DN_SYNC_ERR, spec/04_sloas_link.md, R164. -/
def LNK_DN_SYNC_ERR (a i : Nat) : Reg := ⟨0x40001200 + 0x40000 * a + 0x10 * i, 0x0⟩
def F_LNK_DN_SYNC_ERR_N : Fld := ⟨0, 32⟩

/-- LNK_DN_SCMD_CRC, spec/04_sloas_link.md, R164. -/
def LNK_DN_SCMD_CRC (a i : Nat) : Reg := ⟨0x40001204 + 0x40000 * a + 0x10 * i, 0x0⟩
def F_LNK_DN_SCMD_CRC_N : Fld := ⟨0, 32⟩

/-- LNK_DN_LOCK_LOSS, spec/04_sloas_link.md, R164. -/
def LNK_DN_LOCK_LOSS (a i : Nat) : Reg := ⟨0x40001208 + 0x40000 * a + 0x10 * i, 0x0⟩
def F_LNK_DN_LOCK_LOSS_N : Fld := ⟨0, 32⟩

/-- LNK_DN_RETRAIN, spec/04_sloas_link.md, R164. -/
def LNK_DN_RETRAIN (a i : Nat) : Reg := ⟨0x4000120c + 0x40000 * a + 0x10 * i, 0x0⟩
def F_LNK_DN_RETRAIN_N : Fld := ⟨0, 32⟩

/-- RCH_TR, spec/05_reading.md, R201. -/
def RCH_TR (a : Nat) : Reg := ⟨0x40002000 + 0x40000 * a, 0x4060a573⟩
def F_RCH_TR_COAST_MAX : Fld := ⟨24, 8⟩
def F_RCH_TR_ACQ_LEN : Fld := ⟨16, 8⟩
def F_RCH_TR_TRK_KF : Fld := ⟨12, 4⟩
def F_RCH_TR_TRK_KP : Fld := ⟨8, 4⟩
def F_RCH_TR_ACQ_KF : Fld := ⟨4, 4⟩
def F_RCH_TR_ACQ_KP : Fld := ⟨0, 4⟩

/-- RCH_SYNC, spec/05_reading.md, R201. -/
def RCH_SYNC (a : Nat) : Reg := ⟨0x40002004 + 0x40000 * a, 0x64002430⟩
def F_RCH_SYNC_ERASE_MAX : Fld := ⟨20, 12⟩
def F_RCH_SYNC_RESYNC_TOL : Fld := ⟨12, 3⟩
def F_RCH_SYNC_SYNC_TOL : Fld := ⟨8, 4⟩
def F_RCH_SYNC_SYNC_WIN : Fld := ⟨0, 8⟩

/-- RCH_OTF, spec/05_reading.md, R201. -/
def RCH_OTF (a : Nat) : Reg := ⟨0x40002008 + 0x40000 * a, 0x12c0414⟩
def F_RCH_OTF_ES_THR : Fld := ⟨16, 16⟩
def F_RCH_OTF_ES_ITER : Fld := ⟨8, 5⟩
def F_RCH_OTF_MAX_ITER : Fld := ⟨0, 5⟩

/-- RCH_RETRY, spec/05_reading.md, R201. -/
def RCH_RETRY (a : Nat) : Reg := ⟨0x4000200c + 0x40000 * a, 0x13⟩
def F_RCH_RETRY_DR_EN : Fld := ⟨4, 1⟩
def F_RCH_RETRY_MAX_REVS : Fld := ⟨0, 4⟩

/-- RCH_EQ_CTL, spec/05_reading.md, R201. -/
def RCH_EQ_CTL (a : Nat) : Reg := ⟨0x40002010 + 0x40000 * a, 0x18⟩
def F_RCH_EQ_CTL_FREEZE : Fld := ⟨16, 4⟩
def F_RCH_EQ_CTL_MU : Fld := ⟨0, 8⟩

/-- RCH_FLAGS, spec/05_reading.md, R201. -/
def RCH_FLAGS (a : Nat) : Reg := ⟨0x40002014 + 0x40000 * a, 0x0⟩
def F_RCH_FLAGS_WRITE_REFUSED : Fld := ⟨7, 1⟩
def F_RCH_FLAGS_ECC_UNCORR : Fld := ⟨6, 1⟩
def F_RCH_FLAGS_Q_OVF : Fld := ⟨5, 1⟩
def F_RCH_FLAGS_FORCED_STOP : Fld := ⟨4, 1⟩
def F_RCH_FLAGS_UNHELD : Fld := ⟨3, 1⟩
def F_RCH_FLAGS_POISON : Fld := ⟨2, 1⟩
def F_RCH_FLAGS_SLIP : Fld := ⟨1, 1⟩
def F_RCH_FLAGS_UNREC : Fld := ⟨0, 1⟩

/-- RCH_ZONE0, spec/05_reading.md, R201. -/
def RCH_ZONE0 (a z : Nat) : Reg := ⟨0x40002100 + 0x40000 * a + 0x8 * z, 0x0⟩
def F_RCH_ZONE0_VALID : Fld := ⟨31, 1⟩
def F_RCH_ZONE0_START_CYL : Fld := ⟨0, 21⟩

/-- RCH_ZONE1, spec/05_reading.md, R201. -/
def RCH_ZONE1 (a z : Nat) : Reg := ⟨0x40002104 + 0x40000 * a + 0x8 * z, 0xbb8⟩
def F_RCH_ZONE1_ALT4 : Fld := ⟨28, 4⟩
def F_RCH_ZONE1_ALT3 : Fld := ⟨24, 4⟩
def F_RCH_ZONE1_ALT2 : Fld := ⟨20, 4⟩
def F_RCH_ZONE1_ALT1 : Fld := ⟨16, 4⟩
def F_RCH_ZONE1_TARGET : Fld := ⟨12, 4⟩
def F_RCH_ZONE1_RATE_MHZ : Fld := ⟨0, 12⟩

/-- RCH_EQ_TAPS, spec/05_reading.md, R175. -/
def RCH_EQ_TAPS (a hs t : Nat) : Reg := ⟨0x40002400 + 0x40000 * a + 0x80 * hs + 0x4 * t, if t = 9 then 256 else 0⟩
def F_RCH_EQ_TAPS_TAP : Fld := ⟨0, 10⟩

/-- RCH_STAT, spec/05_reading.md, R200. -/
def RCH_STAT (a n : Nat) : Nat := 0x40003000 + 0x40000 * a + 0x8 * n

/-- RCH_TARGET0, spec/05_reading.md, R202. -/
def RCH_TARGET0 (i : Nat) : Reg := ⟨0x40006000 + 0x8 * i, 0x0⟩
def F_RCH_TARGET0_G3 : Fld := ⟨24, 8⟩
def F_RCH_TARGET0_G2 : Fld := ⟨16, 8⟩
def F_RCH_TARGET0_G1 : Fld := ⟨8, 8⟩
def F_RCH_TARGET0_G0 : Fld := ⟨0, 8⟩

/-- RCH_TARGET1, spec/05_reading.md, R202. -/
def RCH_TARGET1 (i : Nat) : Reg := ⟨0x40006004 + 0x8 * i, 0x0⟩
def F_RCH_TARGET1_G4 : Fld := ⟨0, 8⟩

/-- RCH_POOL_CTL, spec/05_reading.md, R187. -/
def RCH_POOL_CTL : Reg := ⟨0x40006100, 0xc0⟩
def F_RCH_POOL_CTL_BANK_DRAIN : Fld := ⟨20, 4⟩
def F_RCH_POOL_CTL_RET_MAX : Fld := ⟨0, 9⟩

/-- RCH_POOL_STATE0, spec/05_reading.md, R187. -/
def RCH_POOL_STATE0 : Reg := ⟨0x40006104, 0x200⟩
def F_RCH_POOL_STATE0_PENDING : Fld := ⟨20, 10⟩
def F_RCH_POOL_STATE0_CAPTURE : Fld := ⟨10, 10⟩
def F_RCH_POOL_STATE0_FREE : Fld := ⟨0, 10⟩

/-- RCH_POOL_STATE1, spec/05_reading.md, R187. -/
def RCH_POOL_STATE1 : Reg := ⟨0x40006108, 0x0⟩
def F_RCH_POOL_STATE1_RETRYING : Fld := ⟨10, 10⟩
def F_RCH_POOL_STATE1_RETAINED : Fld := ⟨0, 10⟩

/-- RCH_POOL_STATE2, spec/05_reading.md, R187. -/
def RCH_POOL_STATE2 : Reg := ⟨0x4000610c, 0xf0200⟩
def F_RCH_POOL_STATE2_BANKS_ON : Fld := ⟨16, 4⟩
def F_RCH_POOL_STATE2_MIN_FREE : Fld := ⟨0, 10⟩

/-- RCH_DR_PLAN, spec/05_reading.md, R191. -/
def RCH_DR_PLAN (k : Nat) : Reg := ⟨0x40006120 + 0x4 * k, BitVec.ofNat 32 (0x8419 + 4096 * k)⟩
def F_RCH_DR_PLAN_EN : Fld := ⟨15, 1⟩
def F_RCH_DR_PLAN_TSEL : Fld := ⟨12, 3⟩
def F_RCH_DR_PLAN_PASSES : Fld := ⟨8, 3⟩
def F_RCH_DR_PLAN_ITERS : Fld := ⟨0, 5⟩

/-- RCH_DR_CTL, spec/05_reading.md, R192. -/
def RCH_DR_CTL : Reg := ⟨0x40006140, 0x53⟩
def F_RCH_DR_CTL_MAX_WAIT : Fld := ⟨0, 8⟩

/-- RCH_DR_STATE, spec/05_reading.md, R192. -/
def RCH_DR_STATE : Reg := ⟨0x40006144, 0x0⟩
def F_RCH_DR_STATE_BUSY : Fld := ⟨16, 6⟩
def F_RCH_DR_STATE_QUEUED : Fld := ⟨0, 9⟩

/-- WCH_TIMING, spec/06_writing.md, R216. -/
def WCH_TIMING (a : Nat) : Reg := ⟨0x40008000 + 0x40000 * a, 0x578640a0⟩
def F_WCH_TIMING_SERVO_LEN : Fld := ⟨20, 12⟩
def F_WCH_TIMING_GUARD : Fld := ⟨10, 10⟩
def F_WCH_TIMING_LEAD : Fld := ⟨0, 10⟩

/-- WCH_ZONE_PCT, spec/06_writing.md, R212. -/
def WCH_ZONE_PCT (a i : Nat) : Reg := ⟨0x40008010 + 0x40000 * a + 0x4 * i, 0x0⟩
def F_WCH_ZONE_PCT_Z : Fld := ⟨0, 32⟩

/-- WCH_PC_CTL, spec/06_writing.md, R214. -/
def WCH_PC_CTL (a : Nat) : Reg := ⟨0x40008018 + 0x40000 * a, 0x0⟩
def F_WCH_PC_CTL_PC_OFF : Fld := ⟨0, 4⟩

/-- WCH_FLAGS, spec/06_writing.md, R224. -/
def WCH_FLAGS (a : Nat) : Reg := ⟨0x40008020 + 0x40000 * a, 0x0⟩
def F_WCH_FLAGS_WRITE_REFUSED : Fld := ⟨5, 1⟩
def F_WCH_FLAGS_POISON : Fld := ⟨4, 1⟩
def F_WCH_FLAGS_BUF_ECC : Fld := ⟨3, 1⟩
def F_WCH_FLAGS_GUARD : Fld := ⟨2, 1⟩
def F_WCH_FLAGS_LATE : Fld := ⟨1, 1⟩
def F_WCH_FLAGS_PARTIAL : Fld := ⟨0, 1⟩

/-- WCH_STATE, spec/06_writing.md, R224. -/
def WCH_STATE (a : Nat) : Reg := ⟨0x40008024 + 0x40000 * a, 0x0⟩
def F_WCH_STATE_WE : Fld := ⟨12, 4⟩
def F_WCH_STATE_GATE : Fld := ⟨8, 4⟩
def F_WCH_STATE_READY : Fld := ⟨4, 4⟩
def F_WCH_STATE_FETCH : Fld := ⟨0, 4⟩

/-- WCH_PARTIAL0, spec/06_writing.md, R220. -/
def WCH_PARTIAL0 (a : Nat) : Reg := ⟨0x40008030 + 0x40000 * a, 0x0⟩
def F_WCH_PARTIAL0_CAUSE : Fld := ⟨28, 4⟩
def F_WCH_PARTIAL0_SLOT : Fld := ⟨24, 2⟩
def F_WCH_PARTIAL0_HEAD : Fld := ⟨21, 3⟩
def F_WCH_PARTIAL0_CYL : Fld := ⟨0, 21⟩

/-- WCH_PARTIAL1, spec/06_writing.md, R220. -/
def WCH_PARTIAL1 (a : Nat) : Reg := ⟨0x40008034 + 0x40000 * a, 0x0⟩
def F_WCH_PARTIAL1_SECTOR : Fld := ⟨16, 16⟩
def F_WCH_PARTIAL1_CELLS : Fld := ⟨0, 16⟩

/-- WCH_PARTIAL2, spec/06_writing.md, R220. -/
def WCH_PARTIAL2 (a : Nat) : Reg := ⟨0x40008038 + 0x40000 * a, 0x0⟩
def F_WCH_PARTIAL2_WEDGE : Fld := ⟨0, 32⟩

/-- WCH_PCT, spec/06_writing.md, R212. -/
def WCH_PCT (a h t w : Nat) : Reg := ⟨0x40008100 + 0x40000 * a + 0x40 * h + 0x10 * t + 0x4 * w, 0x0⟩
def F_WCH_PCT_PC : Fld := ⟨0, 32⟩

/-- WCH_STAT, spec/06_writing.md, R223. -/
def WCH_STAT (a n : Nat) : Nat := 0x40009000 + 0x40000 * a + 0x8 * n

/-- SEQ_CTL, spec/07_track_sequencers.md, R251. -/
def SEQ_CTL (a : Nat) : Reg := ⟨0x4000a000 + 0x40000 * a, 0x0⟩
def F_SEQ_CTL_RELOAD : Fld := ⟨2, 1⟩
def F_SEQ_CTL_HALT : Fld := ⟨1, 1⟩
def F_SEQ_CTL_RUN : Fld := ⟨0, 1⟩

/-- SEQ_STATE, spec/07_track_sequencers.md, R251. -/
def SEQ_STATE (a : Nat) : Reg := ⟨0x4000a004 + 0x40000 * a, 0x60000⟩
def F_SEQ_STATE_RELOAD_PENDING : Fld := ⟨19, 1⟩
def F_SEQ_STATE_STATE : Fld := ⟨16, 3⟩
def F_SEQ_STATE_PC : Fld := ⟨0, 13⟩

/-- SEQ_FAULT, spec/07_track_sequencers.md, R250. -/
def SEQ_FAULT (a : Nat) : Reg := ⟨0x4000a008 + 0x40000 * a, 0x0⟩
def F_SEQ_FAULT_FAULT_PC : Fld := ⟨16, 13⟩
def F_SEQ_FAULT_TRAP_CODE : Fld := ⟨8, 8⟩
def F_SEQ_FAULT_STALL : Fld := ⟨7, 1⟩
def F_SEQ_FAULT_WDOG : Fld := ⟨6, 1⟩
def F_SEQ_FAULT_ALLOT : Fld := ⟨5, 1⟩
def F_SEQ_FAULT_BOUND : Fld := ⟨4, 1⟩
def F_SEQ_FAULT_STACK : Fld := ⟨3, 1⟩
def F_SEQ_FAULT_STORE_ECC : Fld := ⟨2, 1⟩
def F_SEQ_FAULT_ILLEGAL : Fld := ⟨1, 1⟩
def F_SEQ_FAULT_TRAP : Fld := ⟨0, 1⟩

/-- SEQ_EVENTS, spec/07_track_sequencers.md, R247. -/
def SEQ_EVENTS (a : Nat) : Reg := ⟨0x4000a010 + 0x40000 * a, 0x0⟩
def F_SEQ_EVENTS_USER : Fld := ⟨4, 1⟩
def F_SEQ_EVENTS_FAULT : Fld := ⟨3, 1⟩
def F_SEQ_EVENTS_HALTED : Fld := ⟨2, 1⟩
def F_SEQ_EVENTS_POST_REFUSED : Fld := ⟨1, 1⟩
def F_SEQ_EVENTS_RESULT : Fld := ⟨0, 1⟩

/-- SEQ_IRQ_EN, spec/07_track_sequencers.md, R247. -/
def SEQ_IRQ_EN (a : Nat) : Reg := ⟨0x4000a014 + 0x40000 * a, 0x0⟩
def F_SEQ_IRQ_EN_CORE : Fld := ⟨8, 3⟩
def F_SEQ_IRQ_EN_EN : Fld := ⟨0, 5⟩

/-- SEQ_USER, spec/07_track_sequencers.md, R247. -/
def SEQ_USER (a : Nat) : Reg := ⟨0x4000a018 + 0x40000 * a, 0x0⟩
def F_SEQ_USER_VALUE : Fld := ⟨0, 32⟩

/-- SEQ_POST, spec/07_track_sequencers.md, R236. -/
def SEQ_POST (a : Nat) : Reg := ⟨0x4000a020 + 0x40000 * a, 0x0⟩
def F_SEQ_POST_GO : Fld := ⟨8, 1⟩
def F_SEQ_POST_SLOT : Fld := ⟨0, 4⟩

/-- SEQ_CANCEL, spec/07_track_sequencers.md, R242. -/
def SEQ_CANCEL (a : Nat) : Reg := ⟨0x4000a024 + 0x40000 * a, 0x0⟩
def F_SEQ_CANCEL_GO : Fld := ⟨8, 1⟩
def F_SEQ_CANCEL_SLOT : Fld := ⟨0, 4⟩

/-- SEQ_SLOTS, spec/07_track_sequencers.md, R236. -/
def SEQ_SLOTS (a : Nat) : Reg := ⟨0x4000a028 + 0x40000 * a, 0x0⟩
def F_SEQ_SLOTS_RUN_VALID : Fld := ⟨20, 1⟩
def F_SEQ_SLOTS_RUN_SLOT : Fld := ⟨16, 4⟩
def F_SEQ_SLOTS_BUSY : Fld := ⟨0, 16⟩

/-- SEQ_RES0, spec/07_track_sequencers.md, R505. -/
def SEQ_RES0 (a : Nat) : Reg := ⟨0x4000a030 + 0x40000 * a, 0x0⟩
def F_SEQ_RES0_WORD0 : Fld := ⟨0, 32⟩

/-- SEQ_RES1, spec/07_track_sequencers.md, R505. -/
def SEQ_RES1 (a : Nat) : Reg := ⟨0x4000a034 + 0x40000 * a, 0x0⟩
def F_SEQ_RES1_WORD1 : Fld := ⟨0, 32⟩

/-- SEQ_RES_COUNT, spec/07_track_sequencers.md, R505. -/
def SEQ_RES_COUNT (a : Nat) : Reg := ⟨0x4000a038 + 0x40000 * a, 0x0⟩
def F_SEQ_RES_COUNT_COUNT : Fld := ⟨0, 9⟩

/-- SEQ_CYCLES, spec/07_track_sequencers.md, R260. -/
def SEQ_CYCLES (a : Nat) : Reg := ⟨0x4000a040 + 0x40000 * a, 0x0⟩
def F_SEQ_CYCLES_CYCLES : Fld := ⟨0, 32⟩

/-- SEQ_BUSY, spec/07_track_sequencers.md, R260. -/
def SEQ_BUSY (a : Nat) : Reg := ⟨0x4000a044 + 0x40000 * a, 0x0⟩
def F_SEQ_BUSY_BUSY : Fld := ⟨0, 32⟩

/-- SEQ_ALLOT, spec/07_track_sequencers.md, R255. -/
def SEQ_ALLOT (a : Nat) : Reg := ⟨0x4000a060 + 0x40000 * a, 0x2400000⟩
def F_SEQ_ALLOT_MAX_WEDGES : Fld := ⟨16, 12⟩
def F_SEQ_ALLOT_KIND_EN : Fld := ⟨8, 8⟩
def F_SEQ_ALLOT_ENTRY_VALID : Fld := ⟨0, 8⟩

/-- SEQ_FMT0, spec/07_track_sequencers.md, R245. -/
def SEQ_FMT0 (a z : Nat) : Reg := ⟨0x4000a100 + 0x40000 * a + 0x8 * z, 0x258⟩
def F_SEQ_FMT0_SPT : Fld := ⟨16, 16⟩
def F_SEQ_FMT0_DA_START_NS : Fld := ⟨0, 12⟩

/-- SEQ_FMT1, spec/07_track_sequencers.md, R245. -/
def SEQ_FMT1 (a z : Nat) : Reg := ⟨0x4000a104 + 0x40000 * a + 0x8 * z, 0x0⟩
def F_SEQ_FMT1_DA_CELLS : Fld := ⟨0, 18⟩

/-- SEQ_DESC, spec/07_track_sequencers.md, R505. -/
def SEQ_DESC (a d w : Nat) : Reg := ⟨0x4000b000 + 0x40000 * a + 0x40 * d + 0x4 * w, 0x0⟩
def F_SEQ_DESC_WORD : Fld := ⟨0, 32⟩

/-- SEQ_SCRATCH, spec/07_track_sequencers.md, R228. -/
def SEQ_SCRATCH (a i : Nat) : Reg := ⟨0x4000c000 + 0x40000 * a + 0x4 * i, 0x0⟩
def F_SEQ_SCRATCH_WORD : Fld := ⟨0, 32⟩

/-- SEQ_LOAD_CTL, spec/07_track_sequencers.md, R256. -/
def SEQ_LOAD_CTL : Reg := ⟨0x4000f000, 0x0⟩
def F_SEQ_LOAD_CTL_COMMIT : Fld := ⟨2, 1⟩
def F_SEQ_LOAD_CTL_VERIFY : Fld := ⟨1, 1⟩

/-- SEQ_LOAD_RES_LO, spec/07_track_sequencers.md, R256. -/
def SEQ_LOAD_RES_LO : Reg := ⟨0x4000f004, 0x0⟩
def F_SEQ_LOAD_RES_LO_ADDR_LO : Fld := ⟨0, 32⟩

/-- SEQ_LOAD_RES_HI, spec/07_track_sequencers.md, R256. -/
def SEQ_LOAD_RES_HI : Reg := ⟨0x4000f008, 0x0⟩
def F_SEQ_LOAD_RES_HI_ADDR_HI : Fld := ⟨0, 16⟩

/-- SEQ_LOAD_ALLOT_LO, spec/07_track_sequencers.md, R256. -/
def SEQ_LOAD_ALLOT_LO : Reg := ⟨0x4000f00c, 0x0⟩
def F_SEQ_LOAD_ALLOT_LO_ADDR_LO : Fld := ⟨0, 32⟩

/-- SEQ_LOAD_ALLOT_HI, spec/07_track_sequencers.md, R256. -/
def SEQ_LOAD_ALLOT_HI : Reg := ⟨0x4000f010, 0x0⟩
def F_SEQ_LOAD_ALLOT_HI_ADDR_HI : Fld := ⟨0, 16⟩

/-- SEQ_LOAD_STATUS, spec/07_track_sequencers.md, R256. -/
def SEQ_LOAD_STATUS : Reg := ⟨0x4000f014, 0x0⟩
def F_SEQ_LOAD_STATUS_GENERATION : Fld := ⟨16, 16⟩
def F_SEQ_LOAD_STATUS_ALLOT_PRESENT : Fld := ⟨8, 1⟩
def F_SEQ_LOAD_STATUS_RESULT : Fld := ⟨0, 4⟩

/-- SEQ_IMAGE_ID, spec/07_track_sequencers.md, R256. -/
def SEQ_IMAGE_ID : Reg := ⟨0x4000f018, 0x0⟩
def F_SEQ_IMAGE_ID_IMAGE_ID : Fld := ⟨0, 32⟩

/-- BUF_CFG, spec/08_buffer_cache.md, R301. -/
def BUF_CFG : Reg := ⟨0x42000000, 0x0⟩
def F_BUF_CFG_RANK1_PRESENT : Fld := ⟨0, 8⟩

/-- BUF_CLASS_CTL, spec/08_buffer_cache.md, R283. -/
def BUF_CLASS_CTL : Reg := ⟨0x42000010, 0x0⟩
def F_BUF_CLASS_CTL_WR_EN : Fld := ⟨1, 1⟩
def F_BUF_CLASS_CTL_RD_EN : Fld := ⟨0, 1⟩

/-- BUF_CLASS_STATUS, spec/08_buffer_cache.md, R284. -/
def BUF_CLASS_STATUS : Reg := ⟨0x42000014, 0x0⟩
def F_BUF_CLASS_STATUS_WR_DRAINING : Fld := ⟨31, 1⟩
def F_BUF_CLASS_STATUS_RD_STALE : Fld := ⟨30, 1⟩
def F_BUF_CLASS_STATUS_DIRTY : Fld := ⟨0, 18⟩

/-- BUF_WAY_CTL, spec/08_buffer_cache.md, R287. -/
def BUF_WAY_CTL : Reg := ⟨0x42000020, 0x0⟩
def F_BUF_WAY_CTL_EN : Fld := ⟨0, 16⟩

/-- BUF_WAY_STATE, spec/08_buffer_cache.md, R287. -/
def BUF_WAY_STATE : Reg := ⟨0x42000024, 0x0⟩
def F_BUF_WAY_STATE_W : Fld := ⟨0, 32⟩

/-- BUF_WB_CTL, spec/08_buffer_cache.md, R278. -/
def BUF_WB_CTL : Reg := ⟨0x42000030, 0xc4000c00⟩
def F_BUF_WB_CTL_SET_MAX : Fld := ⟨28, 4⟩
def F_BUF_WB_CTL_HIGH : Fld := ⟨14, 14⟩
def F_BUF_WB_CTL_LOW : Fld := ⟨0, 14⟩

/-- BUF_WB_AGE, spec/08_buffer_cache.md, R278. -/
def BUF_WB_AGE : Reg := ⟨0x42000034, 0x1e⟩
def F_BUF_WB_AGE_AGE_S : Fld := ⟨0, 16⟩

/-- BUF_RA_CTL, spec/08_buffer_cache.md, R280. -/
def BUF_RA_CTL : Reg := ⟨0x42000040, 0x421⟩
def F_BUF_RA_CTL_DEPTH : Fld := ⟨8, 5⟩
def F_BUF_RA_CTL_TRIGGER : Fld := ⟨4, 4⟩
def F_BUF_RA_CTL_EN : Fld := ⟨0, 1⟩

/-- BUF_FLAGS, spec/08_buffer_cache.md, R301. -/
def BUF_FLAGS : Reg := ⟨0x42000050, 0x0⟩
def F_BUF_FLAGS_RA_DROP : Fld := ⟨3, 1⟩
def F_BUF_FLAGS_DRAM_UNCORR : Fld := ⟨2, 1⟩
def F_BUF_FLAGS_TAG_UNCORR : Fld := ⟨1, 1⟩
def F_BUF_FLAGS_DRAM_CORR : Fld := ⟨0, 1⟩

/-- BUF_TAG_SEL, spec/08_buffer_cache.md, R301. -/
def BUF_TAG_SEL : Reg := ⟨0x42000060, 0x0⟩
def F_BUF_TAG_SEL_WAY : Fld := ⟨24, 4⟩
def F_BUF_TAG_SEL_SET : Fld := ⟨0, 13⟩

/-- BUF_TAG_DATA0, spec/08_buffer_cache.md, R33. -/
def BUF_TAG_DATA0 : Reg := ⟨0x42000064, 0x0⟩
def F_BUF_TAG_DATA0_ENTRY_LO : Fld := ⟨0, 32⟩

/-- BUF_TAG_DATA1, spec/08_buffer_cache.md, R33. -/
def BUF_TAG_DATA1 : Reg := ⟨0x42000068, 0x0⟩
def F_BUF_TAG_DATA1_ENTRY_HI : Fld := ⟨0, 32⟩

/-- BUF_TAG_DATA2, spec/08_buffer_cache.md, R33. -/
def BUF_TAG_DATA2 : Reg := ⟨0x4200006c, 0x0⟩
def F_BUF_TAG_DATA2_PINS : Fld := ⟨0, 12⟩

/-- BUF_TE_CMD, spec/08_buffer_cache.md, R268. -/
def BUF_TE_CMD (core : Nat) : Reg := ⟨0x42001000 + 0x40 * core, 0x0⟩
def F_BUF_TE_CMD_GO : Fld := ⟨31, 1⟩
def F_BUF_TE_CMD_RA : Fld := ⟨30, 1⟩
def F_BUF_TE_CMD_OP : Fld := ⟨27, 3⟩
def F_BUF_TE_CMD_CLASS : Fld := ⟨25, 2⟩
def F_BUF_TE_CMD_STATUS : Fld := ⟨23, 2⟩
def F_BUF_TE_CMD_LAST : Fld := ⟨14, 7⟩
def F_BUF_TE_CMD_FIRST : Fld := ⟨7, 7⟩

/-- BUF_TE_KEY0, spec/08_buffer_cache.md, R268. -/
def BUF_TE_KEY0 (core : Nat) : Reg := ⟨0x42001004 + 0x40 * core, 0x0⟩
def F_BUF_TE_KEY0_KEY_LO : Fld := ⟨0, 32⟩

/-- BUF_TE_KEY1, spec/08_buffer_cache.md, R268. -/
def BUF_TE_KEY1 (core : Nat) : Reg := ⟨0x42001008 + 0x40 * core, 0x0⟩
def F_BUF_TE_KEY1_TASK : Fld := ⟨16, 11⟩
def F_BUF_TE_KEY1_KEY_HI : Fld := ⟨0, 8⟩

/-- BUF_TE_RES0, spec/08_buffer_cache.md, R268. -/
def BUF_TE_RES0 (core : Nat) : Reg := ⟨0x42001010 + 0x40 * core, 0x0⟩
def F_BUF_TE_RES0_BUSY : Fld := ⟨31, 1⟩
def F_BUF_TE_RES0_CODE : Fld := ⟨28, 3⟩
def F_BUF_TE_RES0_STATE : Fld := ⟨25, 3⟩
def F_BUF_TE_RES0_WAY : Fld := ⟨21, 4⟩
def F_BUF_TE_RES0_SET : Fld := ⟨0, 13⟩

/-- BUF_TE_RES1, spec/08_buffer_cache.md, R268. -/
def BUF_TE_RES1 (core : Nat) : Reg := ⟨0x42001014 + 0x40 * core, 0x0⟩
def F_BUF_TE_RES1_PART : Fld := ⟨31, 1⟩
def F_BUF_TE_RES1_LAST : Fld := ⟨7, 7⟩
def F_BUF_TE_RES1_FIRST : Fld := ⟨0, 7⟩

/-- BUF_WAKE, spec/08_buffer_cache.md, R277. -/
def BUF_WAKE (core : Nat) : Reg := ⟨0x42002000 + 0x10 * core, 0x0⟩
def F_BUF_WAKE_VALID : Fld := ⟨31, 1⟩
def F_BUF_WAKE_FAILED : Fld := ⟨30, 1⟩
def F_BUF_WAKE_TASK : Fld := ⟨0, 11⟩

/-- BUF_WB_REQ0, spec/08_buffer_cache.md, R278. -/
def BUF_WB_REQ0 : Reg := ⟨0x42003000, 0x0⟩
def F_BUF_WB_REQ0_VALID : Fld := ⟨31, 1⟩
def F_BUF_WB_REQ0_WAY : Fld := ⟨27, 4⟩
def F_BUF_WB_REQ0_SET : Fld := ⟨14, 13⟩
def F_BUF_WB_REQ0_LAST : Fld := ⟨7, 7⟩
def F_BUF_WB_REQ0_FIRST : Fld := ⟨0, 7⟩

/-- BUF_WB_REQ1, spec/08_buffer_cache.md, R278. -/
def BUF_WB_REQ1 : Reg := ⟨0x42003004, 0x0⟩
def F_BUF_WB_REQ1_KEY_LO : Fld := ⟨0, 32⟩

/-- BUF_WB_REQ2, spec/08_buffer_cache.md, R278. -/
def BUF_WB_REQ2 : Reg := ⟨0x42003008, 0x0⟩
def F_BUF_WB_REQ2_KEY_HI : Fld := ⟨0, 8⟩

/-- BUF_WB_DONE, spec/08_buffer_cache.md, R279. -/
def BUF_WB_DONE : Reg := ⟨0x42003010, 0x0⟩
def F_BUF_WB_DONE_GO : Fld := ⟨31, 1⟩
def F_BUF_WB_DONE_RESULT : Fld := ⟨30, 1⟩
def F_BUF_WB_DONE_WAY : Fld := ⟨14, 4⟩
def F_BUF_WB_DONE_SET : Fld := ⟨0, 13⟩

/-- BUF_RA_REQ0, spec/08_buffer_cache.md, R281. -/
def BUF_RA_REQ0 : Reg := ⟨0x42003020, 0x0⟩
def F_BUF_RA_REQ0_VALID : Fld := ⟨31, 1⟩
def F_BUF_RA_REQ0_CLASS : Fld := ⟨8, 2⟩
def F_BUF_RA_REQ0_KEY_HI : Fld := ⟨0, 8⟩

/-- BUF_RA_REQ1, spec/08_buffer_cache.md, R281. -/
def BUF_RA_REQ1 : Reg := ⟨0x42003024, 0x0⟩
def F_BUF_RA_REQ1_KEY_LO : Fld := ⟨0, 32⟩

/-- BUF_MAINT_CTL, spec/08_buffer_cache.md, R289. -/
def BUF_MAINT_CTL : Reg := ⟨0x42004000, 0x0⟩
def F_BUF_MAINT_CTL_GO : Fld := ⟨31, 1⟩
def F_BUF_MAINT_CTL_OP : Fld := ⟨24, 3⟩
def F_BUF_MAINT_CTL_COUNT : Fld := ⟨0, 24⟩

/-- BUF_MAINT_KEY0, spec/08_buffer_cache.md, R289. -/
def BUF_MAINT_KEY0 : Reg := ⟨0x42004004, 0x0⟩
def F_BUF_MAINT_KEY0_KEY_LO : Fld := ⟨0, 32⟩

/-- BUF_MAINT_KEY1, spec/08_buffer_cache.md, R289. -/
def BUF_MAINT_KEY1 : Reg := ⟨0x42004008, 0x0⟩
def F_BUF_MAINT_KEY1_KEY_HI : Fld := ⟨0, 8⟩

/-- BUF_MAINT_STATUS, spec/08_buffer_cache.md, R289. -/
def BUF_MAINT_STATUS : Reg := ⟨0x42004010, 0x0⟩
def F_BUF_MAINT_STATUS_BUSY : Fld := ⟨31, 1⟩
def F_BUF_MAINT_STATUS_SKIPPED : Fld := ⟨12, 12⟩

/-- BUF_BW, spec/08_buffer_cache.md, R302. -/
def BUF_BW (c g : Nat) : Nat := 0x42005000 + 0x80 * c + 0x8 * g

/-- BUF_ECC_CORR, spec/08_buffer_cache.md, R296. -/
def BUF_ECC_CORR (c : Nat) : Reg := ⟨0x42006000 + 0x10 * c, 0x0⟩
def F_BUF_ECC_CORR_N : Fld := ⟨0, 32⟩

/-- BUF_ECC_UNCORR, spec/08_buffer_cache.md, R296. -/
def BUF_ECC_UNCORR (c : Nat) : Reg := ⟨0x42006004 + 0x10 * c, 0x0⟩
def F_BUF_ECC_UNCORR_N : Fld := ⟨0, 32⟩

/-- BUF_ECC_ADDR_LO, spec/08_buffer_cache.md, R296. -/
def BUF_ECC_ADDR_LO (c : Nat) : Reg := ⟨0x42006008 + 0x10 * c, 0x0⟩
def F_BUF_ECC_ADDR_LO_A : Fld := ⟨0, 32⟩

/-- BUF_ECC_ADDR_HI, spec/08_buffer_cache.md, R296. -/
def BUF_ECC_ADDR_HI (c : Nat) : Reg := ⟨0x4200600c + 0x10 * c, 0x0⟩
def F_BUF_ECC_ADDR_HI_A : Fld := ⟨0, 16⟩

/-- BUF_STATS, spec/08_buffer_cache.md, R302. -/
def BUF_STATS (n : Nat) : Nat := 0x42006100 + 0x8 * n

/-- BUF_SCRUB_CTL, spec/08_buffer_cache.md, R297. -/
def BUF_SCRUB_CTL : Reg := ⟨0x42007000, 0x118⟩
def F_BUF_SCRUB_CTL_EN : Fld := ⟨8, 1⟩
def F_BUF_SCRUB_CTL_PERIOD_H : Fld := ⟨0, 8⟩

/-- BUF_SCRUB_STATE0, spec/08_buffer_cache.md, R297. -/
def BUF_SCRUB_STATE0 : Reg := ⟨0x42007004, 0x0⟩
def F_BUF_SCRUB_STATE0_POS : Fld := ⟨0, 32⟩

/-- BUF_SCRUB_STATE1, spec/08_buffer_cache.md, R297. -/
def BUF_SCRUB_STATE1 : Reg := ⟨0x42007008, 0x0⟩
def F_BUF_SCRUB_STATE1_PASSES : Fld := ⟨0, 32⟩

/-- BUF_FLIPMASK0, spec/08_buffer_cache.md, R299. -/
def BUF_FLIPMASK0 : Reg := ⟨0x42007f00, 0x0⟩
def F_BUF_FLIPMASK0_DATA_LO : Fld := ⟨0, 32⟩

/-- BUF_FLIPMASK1, spec/08_buffer_cache.md, R299. -/
def BUF_FLIPMASK1 : Reg := ⟨0x42007f04, 0x0⟩
def F_BUF_FLIPMASK1_DATA_HI : Fld := ⟨0, 32⟩

/-- BUF_FLIPMASK2, spec/08_buffer_cache.md, R299. -/
def BUF_FLIPMASK2 : Reg := ⟨0x42007f08, 0x0⟩
def F_BUF_FLIPMASK2_ARM : Fld := ⟨31, 1⟩
def F_BUF_FLIPMASK2_CH : Fld := ⟨16, 3⟩
def F_BUF_FLIPMASK2_CHECK : Fld := ⟨0, 8⟩

/-- HIF_ID, spec/09_host_interface.md, R303. -/
def HIF_ID : Reg := ⟨0x43000000, 0x96640000⟩
def F_HIF_ID_DEVICE : Fld := ⟨16, 16⟩
def F_HIF_ID_VENDOR : Fld := ⟨0, 16⟩

/-- HIF_LINK, spec/09_host_interface.md, R303. -/
def HIF_LINK : Reg := ⟨0x43000004, 0x0⟩
def F_HIF_LINK_FLIT : Fld := ⟨12, 1⟩
def F_HIF_LINK_L0 : Fld := ⟨11, 1⟩
def F_HIF_LINK_WIDTH : Fld := ⟨4, 5⟩
def F_HIF_LINK_RATE : Fld := ⟨0, 4⟩

/-- HIF_RESERVE, spec/09_host_interface.md, R314. -/
def HIF_RESERVE : Reg := ⟨0x43000010, 0xd00010⟩
def F_HIF_RESERVE_URGENT : Fld := ⟨16, 12⟩
def F_HIF_RESERVE_ADMIN : Fld := ⟨0, 6⟩

/-- HIF_TT_STATE, spec/09_host_interface.md, R315. -/
def HIF_TT_STATE : Reg := ⟨0x43000014, 0x0⟩
def F_HIF_TT_STATE_PRESENTABLE : Fld := ⟨16, 12⟩
def F_HIF_TT_STATE_USED : Fld := ⟨0, 12⟩

/-- HIF_ACT, spec/09_host_interface.md, R341. -/
def HIF_ACT : Reg := ⟨0x43000020, 0x0⟩
def F_HIF_ACT_HOLD : Fld := ⟨31, 1⟩
def F_HIF_ACT_PP : Fld := ⟨30, 1⟩
def F_HIF_ACT_HELD : Fld := ⟨0, 12⟩

/-- HIF_TASK0, spec/09_host_interface.md, R317. -/
def HIF_TASK0 : Reg := ⟨0x43000100, 0x0⟩
def F_HIF_TASK0_VALID : Fld := ⟨31, 1⟩
def F_HIF_TASK0_CLASS : Fld := ⟨29, 2⟩
def F_HIF_TASK0_ADMIN : Fld := ⟨28, 1⟩
def F_HIF_TASK0_SQID : Fld := ⟨16, 8⟩
def F_HIF_TASK0_TAG : Fld := ⟨0, 11⟩

/-- HIF_TASKN, spec/09_host_interface.md, R317. -/
def HIF_TASKN (i : Nat) : Reg := ⟨0x43000104 + 0x4 * i, 0x0⟩
def F_HIF_TASKN_SQE : Fld := ⟨0, 32⟩

/-- HIF_TASK17, spec/09_host_interface.md, R317. -/
def HIF_TASK17 : Reg := ⟨0x43000144, 0x0⟩
def F_HIF_TASK17_FETCHED : Fld := ⟨0, 32⟩

/-- HIF_CPL0, spec/09_host_interface.md, R320. -/
def HIF_CPL0 (core : Nat) : Reg := ⟨0x43000200 + 0x1000000000000 * core, 0x0⟩
def F_HIF_CPL0_DW0 : Fld := ⟨0, 32⟩

/-- HIF_CPL1, spec/09_host_interface.md, R320. -/
def HIF_CPL1 (core : Nat) : Reg := ⟨0x43000204 + 0x1000000000000 * core, 0x0⟩
def F_HIF_CPL1_DW1 : Fld := ⟨0, 32⟩

/-- HIF_CPL2, spec/09_host_interface.md, R320. -/
def HIF_CPL2 (core : Nat) : Reg := ⟨0x43000208 + 0x1000000000000 * core, 0x0⟩
def F_HIF_CPL2_GO : Fld := ⟨31, 1⟩
def F_HIF_CPL2_DNR : Fld := ⟨30, 1⟩
def F_HIF_CPL2_MORE : Fld := ⟨29, 1⟩
def F_HIF_CPL2_CRD : Fld := ⟨27, 2⟩
def F_HIF_CPL2_SCT : Fld := ⟨24, 3⟩
def F_HIF_CPL2_SC : Fld := ⟨16, 8⟩
def F_HIF_CPL2_TAG : Fld := ⟨0, 11⟩

/-- HIF_XFER0, spec/09_host_interface.md, R318. -/
def HIF_XFER0 (core : Nat) : Reg := ⟨0x43000300 + 0x1000000000000 * core, 0x0⟩
def F_HIF_XFER0_ADDR_LO : Fld := ⟨0, 32⟩

/-- HIF_XFER1, spec/09_host_interface.md, R318. -/
def HIF_XFER1 (core : Nat) : Reg := ⟨0x43000304 + 0x1000000000000 * core, 0x0⟩
def F_HIF_XFER1_ADDR_HI : Fld := ⟨0, 16⟩

/-- HIF_XFER2, spec/09_host_interface.md, R318. -/
def HIF_XFER2 (core : Nat) : Reg := ⟨0x43000308 + 0x1000000000000 * core, 0x0⟩
def F_HIF_XFER2_COUNT : Fld := ⟨16, 10⟩
def F_HIF_XFER2_FIRST : Fld := ⟨0, 10⟩

/-- HIF_XFER3, spec/09_host_interface.md, R318. -/
def HIF_XFER3 (core : Nat) : Reg := ⟨0x4300030c + 0x1000000000000 * core, 0x0⟩
def F_HIF_XFER3_GO : Fld := ⟨31, 1⟩
def F_HIF_XFER3_DIR : Fld := ⟨30, 1⟩
def F_HIF_XFER3_TAG : Fld := ⟨0, 11⟩

/-- HIF_XFER_RES0, spec/09_host_interface.md, R319. -/
def HIF_XFER_RES0 : Reg := ⟨0x43000320, 0x0⟩
def F_HIF_XFER_RES0_VALID : Fld := ⟨31, 1⟩
def F_HIF_XFER_RES0_STATUS : Fld := ⟨28, 2⟩
def F_HIF_XFER_RES0_SKIPPED : Fld := ⟨16, 10⟩
def F_HIF_XFER_RES0_TAG : Fld := ⟨0, 11⟩

/-- HIF_XFER_RES1, spec/09_host_interface.md, R319. -/
def HIF_XFER_RES1 : Reg := ⟨0x43000324, 0x0⟩
def F_HIF_XFER_RES1_FIRST_SKIP : Fld := ⟨0, 10⟩

/-- HIF_URG0, spec/09_host_interface.md, R327. -/
def HIF_URG0 : Reg := ⟨0x43000400, 0xbb80⟩
def F_HIF_URG0_LIMIT_US : Fld := ⟨0, 16⟩

/-- HIF_URG1, spec/09_host_interface.md, R327. -/
def HIF_URG1 : Reg := ⟨0x43000404, 0x0⟩
def F_HIF_URG1_MAX_US : Fld := ⟨0, 32⟩

/-- HIF_STATS, spec/09_host_interface.md, R356. -/
def HIF_STATS (n : Nat) : Nat := 0x43001000 + 0x8 * n

/-- KSK_TX, spec/10_firmware_platform.md, R365. -/
def KSK_TX (ch e : Nat) : Reg := ⟨0x44000000 + 0x800 * ch + 0x400 * e, 0x0⟩
def F_KSK_TX_WORD : Fld := ⟨0, 32⟩

/-- KSK_RX, spec/10_firmware_platform.md, R366. -/
def KSK_RX (ch e : Nat) : Reg := ⟨0x44000004 + 0x800 * ch + 0x400 * e, 0x0⟩
def F_KSK_RX_WORD : Fld := ⟨0, 32⟩

/-- KSK_STAT, spec/10_firmware_platform.md, R366. -/
def KSK_STAT (ch e : Nat) : Reg := ⟨0x44000008 + 0x800 * ch + 0x400 * e, 0x0⟩
def F_KSK_STAT_TX_COUNT : Fld := ⟨16, 5⟩
def F_KSK_STAT_RX_COUNT : Fld := ⟨8, 5⟩
def F_KSK_STAT_HEAD_MARK : Fld := ⟨0, 1⟩

/-- KSK_IRQ, spec/10_firmware_platform.md, R370. -/
def KSK_IRQ (ch e : Nat) : Reg := ⟨0x4400000c + 0x800 * ch + 0x400 * e, 0x0⟩
def F_KSK_IRQ_OVERRUN : Fld := ⟨3, 1⟩
def F_KSK_IRQ_DISCARDED : Fld := ⟨2, 1⟩
def F_KSK_IRQ_EMPTY : Fld := ⟨1, 1⟩
def F_KSK_IRQ_RX : Fld := ⟨0, 1⟩

/-- KSK_IRQ_EN, spec/10_firmware_platform.md, R370. -/
def KSK_IRQ_EN (ch e : Nat) : Reg := ⟨0x44000010 + 0x800 * ch + 0x400 * e, 0x1⟩
def F_KSK_IRQ_EN_EMPTY_EN : Fld := ⟨1, 1⟩
def F_KSK_IRQ_EN_RX_EN : Fld := ⟨0, 1⟩

/-- KSK_DISC, spec/10_firmware_platform.md, R368. -/
def KSK_DISC (ch e : Nat) : Reg := ⟨0x44000014 + 0x800 * ch + 0x400 * e, 0x0⟩
def F_KSK_DISC_COUNT : Fld := ⟨0, 32⟩

/-- KSK_HOST_ROUTE, spec/10_firmware_platform.md, R370. -/
def KSK_HOST_ROUTE : Reg := ⟨0x440f0000, 0x0⟩
def F_KSK_HOST_ROUTE_CORE0 : Fld := ⟨0, 3⟩
def F_KSK_HOST_ROUTE_CORE1 : Fld := ⟨3, 3⟩
def F_KSK_HOST_ROUTE_CORE2 : Fld := ⟨6, 3⟩
def F_KSK_HOST_ROUTE_CORE3 : Fld := ⟨9, 3⟩
def F_KSK_HOST_ROUTE_CORE4 : Fld := ⟨12, 3⟩
def F_KSK_HOST_ROUTE_CORE5 : Fld := ⟨15, 3⟩
def F_KSK_HOST_ROUTE_CORE6 : Fld := ⟨18, 3⟩
def F_KSK_HOST_ROUTE_CORE7 : Fld := ⟨21, 3⟩

/-- STL_LOCK, spec/10_firmware_platform.md, R379. -/
def STL_LOCK (i : Nat) : Reg := ⟨0x44100000 + 0x4 * i, 0x0⟩
def F_STL_LOCK_HELD : Fld := ⟨31, 1⟩
def F_STL_LOCK_BROKEN : Fld := ⟨30, 1⟩
def F_STL_LOCK_OWNER : Fld := ⟨1, 7⟩
def F_STL_LOCK_RELEASE : Fld := ⟨0, 1⟩

/-- STL_PEEK, spec/10_firmware_platform.md, R379. -/
def STL_PEEK (i : Nat) : Reg := ⟨0x44100400 + 0x4 * i, 0x0⟩
def F_STL_PEEK_HELD : Fld := ⟨31, 1⟩
def F_STL_PEEK_BROKEN : Fld := ⟨30, 1⟩
def F_STL_PEEK_OWNER : Fld := ⟨1, 3⟩

/-- STL_BREAK, spec/10_firmware_platform.md, R380. -/
def STL_BREAK : Reg := ⟨0x44100800, 0x0⟩
def F_STL_BREAK_GO : Fld := ⟨31, 1⟩
def F_STL_BREAK_LOCK : Fld := ⟨0, 7⟩

/-- STL_HELD, spec/10_firmware_platform.md, R33. -/
def STL_HELD (k : Nat) : Reg := ⟨0x44100900 + 0x4 * k, 0x0⟩
def F_STL_HELD_HELD : Fld := ⟨0, 32⟩

/-- STL_CONTEND, spec/10_firmware_platform.md, R379. -/
def STL_CONTEND : Reg := ⟨0x44100910, 0x0⟩
def F_STL_CONTEND_COUNT : Fld := ⟨0, 32⟩

/-- DMA_CTL, spec/10_firmware_platform.md, R383. -/
def DMA_CTL (n : Nat) : Reg := ⟨0x44200000 + 0x40 * n, 0x0⟩
def F_DMA_CTL_START : Fld := ⟨31, 1⟩
def F_DMA_CTL_STOP : Fld := ⟨30, 1⟩
def F_DMA_CTL_DST_K : Fld := ⟨18, 5⟩
def F_DMA_CTL_SRC_K : Fld := ⟨13, 5⟩
def F_DMA_CTL_CORE : Fld := ⟨7, 3⟩
def F_DMA_CTL_IRQ_EN : Fld := ⟨6, 1⟩
def F_DMA_CTL_PRIO : Fld := ⟨5, 1⟩
def F_DMA_CTL_MODE : Fld := ⟨0, 2⟩

/-- DMA_STATUS, spec/10_firmware_platform.md, R386. -/
def DMA_STATUS (n : Nat) : Reg := ⟨0x44200004 + 0x40 * n, 0x0⟩
def F_DMA_STATUS_BUSY : Fld := ⟨31, 1⟩
def F_DMA_STATUS_ERR : Fld := ⟨8, 3⟩
def F_DMA_STATUS_END : Fld := ⟨1, 3⟩
def F_DMA_STATUS_DONE : Fld := ⟨0, 1⟩

/-- DMA_SRC_LO, spec/10_firmware_platform.md, R383. -/
def DMA_SRC_LO (n : Nat) : Reg := ⟨0x44200008 + 0x40 * n, 0x0⟩
def F_DMA_SRC_LO_ADDR_LO : Fld := ⟨0, 32⟩

/-- DMA_SRC_HI, spec/10_firmware_platform.md, R383. -/
def DMA_SRC_HI (n : Nat) : Reg := ⟨0x4420000c + 0x40 * n, 0x0⟩
def F_DMA_SRC_HI_ADDR_HI : Fld := ⟨0, 16⟩

/-- DMA_DST_LO, spec/10_firmware_platform.md, R383. -/
def DMA_DST_LO (n : Nat) : Reg := ⟨0x44200010 + 0x40 * n, 0x0⟩
def F_DMA_DST_LO_ADDR_LO : Fld := ⟨0, 32⟩

/-- DMA_DST_HI, spec/10_firmware_platform.md, R383. -/
def DMA_DST_HI (n : Nat) : Reg := ⟨0x44200014 + 0x40 * n, 0x0⟩
def F_DMA_DST_HI_ADDR_HI : Fld := ⟨0, 16⟩

/-- DMA_COUNT, spec/10_firmware_platform.md, R383. -/
def DMA_COUNT (n : Nat) : Reg := ⟨0x44200018 + 0x40 * n, 0x0⟩
def F_DMA_COUNT_BYTES : Fld := ⟨0, 32⟩

/-- DMA_DONE_BYTES, spec/10_firmware_platform.md, R386. -/
def DMA_DONE_BYTES (n : Nat) : Reg := ⟨0x4420001c + 0x40 * n, 0x0⟩
def F_DMA_DONE_BYTES_BYTES : Fld := ⟨0, 32⟩

/-- DMA_FILL_LO, spec/10_firmware_platform.md, R384. -/
def DMA_FILL_LO (n : Nat) : Reg := ⟨0x44200020 + 0x40 * n, 0x0⟩
def F_DMA_FILL_LO_FILL : Fld := ⟨0, 32⟩

/-- DMA_FILL_HI, spec/10_firmware_platform.md, R384. -/
def DMA_FILL_HI (n : Nat) : Reg := ⟨0x44200024 + 0x40 * n, 0x0⟩
def F_DMA_FILL_HI_FILL : Fld := ⟨0, 32⟩

/-- DMA_MISMATCH, spec/10_firmware_platform.md, R384. -/
def DMA_MISMATCH (n : Nat) : Reg := ⟨0x44200028 + 0x40 * n, 0x0⟩
def F_DMA_MISMATCH_OFFSET : Fld := ⟨0, 32⟩

/-- DMA_BUSY, spec/10_firmware_platform.md, R33. -/
def DMA_BUSY (k : Nat) : Reg := ⟨0x44208000 + 0x4 * k, 0x0⟩
def F_DMA_BUSY_BUSY : Fld := ⟨0, 32⟩

/-- DMA_ERRORS, spec/10_firmware_platform.md, R385. -/
def DMA_ERRORS : Reg := ⟨0x44208008, 0x0⟩
def F_DMA_ERRORS_COUNT : Fld := ⟨0, 32⟩

/-- NVS_WS, spec/11_nonvolatile_store.md, R395. -/
def NVS_WS : Reg := ⟨0x45000000, 0x17⟩
def F_NVS_WS_WS : Fld := ⟨0, 5⟩

/-- NVS_CMD, spec/11_nonvolatile_store.md, R408. -/
def NVS_CMD : Reg := ⟨0x45000010, 0x0⟩
def F_NVS_CMD_GO : Fld := ⟨31, 1⟩
def F_NVS_CMD_OP : Fld := ⟨28, 3⟩
def F_NVS_CMD_ADDR : Fld := ⟨0, 25⟩

/-- NVS_DATA, spec/11_nonvolatile_store.md, R397. -/
def NVS_DATA (i : Nat) : Reg := ⟨0x45000020 + 0x4 * i, 0xffffffff⟩
def F_NVS_DATA_DATA : Fld := ⟨0, 32⟩

/-- NVS_STATUS, spec/11_nonvolatile_store.md, R408. -/
def NVS_STATUS : Reg := ⟨0x45000040, 0x0⟩
def F_NVS_STATUS_MAIN_BUSY : Fld := ⟨31, 1⟩
def F_NVS_STATUS_PAR_BUSY : Fld := ⟨30, 1⟩
def F_NVS_STATUS_SUSPENDED : Fld := ⟨29, 1⟩
def F_NVS_STATUS_DONE : Fld := ⟨28, 1⟩
def F_NVS_STATUS_RESULT : Fld := ⟨24, 4⟩
def F_NVS_STATUS_SUSP_SECTOR : Fld := ⟨0, 8⟩

/-- NVS_BLANK, spec/11_nonvolatile_store.md, R404. -/
def NVS_BLANK : Reg := ⟨0x45000044, 0x0⟩
def F_NVS_BLANK_FOUND : Fld := ⟨31, 1⟩
def F_NVS_BLANK_FIRST : Fld := ⟨0, 25⟩

/-- NVS_ERR, spec/11_nonvolatile_store.md, R408. -/
def NVS_ERR : Reg := ⟨0x45000048, 0x0⟩
def F_NVS_ERR_WORN : Fld := ⟨6, 1⟩
def F_NVS_ERR_INDET_READ : Fld := ⟨5, 1⟩
def F_NVS_ERR_ECC_UNCORR : Fld := ⟨4, 1⟩
def F_NVS_ERR_ERASE_FAIL : Fld := ⟨3, 1⟩
def F_NVS_ERR_PROTECTED : Fld := ⟨2, 1⟩
def F_NVS_ERR_INDET_PROG : Fld := ⟨1, 1⟩
def F_NVS_ERR_NOT_BLANK : Fld := ⟨0, 1⟩

/-- NVS_LAST, spec/11_nonvolatile_store.md, R408. -/
def NVS_LAST : Reg := ⟨0x4500004c, 0x0⟩
def F_NVS_LAST_KIND : Fld := ⟨31, 1⟩
def F_NVS_LAST_ADDR : Fld := ⟨0, 25⟩

/-- NVS_INDET, spec/11_nonvolatile_store.md, R403. -/
def NVS_INDET (k : Nat) : Reg := ⟨0x45000060 + 0x4 * k, 0x0⟩
def F_NVS_INDET_INDET : Fld := ⟨0, 32⟩

/-- NVS_WEAR_SEL, spec/11_nonvolatile_store.md, R405. -/
def NVS_WEAR_SEL : Reg := ⟨0x45000080, 0x0⟩
def F_NVS_WEAR_SEL_SECTOR : Fld := ⟨0, 8⟩

/-- NVS_WEAR, spec/11_nonvolatile_store.md, R405. -/
def NVS_WEAR : Reg := ⟨0x45000084, 0x0⟩
def F_NVS_WEAR_ERASES : Fld := ⟨0, 20⟩

/-- NVS_ECC_CORR, spec/11_nonvolatile_store.md, R396. -/
def NVS_ECC_CORR : Reg := ⟨0x45000090, 0x0⟩
def F_NVS_ECC_CORR_COUNT : Fld := ⟨0, 32⟩

/-- NVS_ECC_UNCORR, spec/11_nonvolatile_store.md, R396. -/
def NVS_ECC_UNCORR : Reg := ⟨0x45000094, 0x0⟩
def F_NVS_ECC_UNCORR_COUNT : Fld := ⟨0, 32⟩

/-- NVS_REC_CTL, spec/11_nonvolatile_store.md, R410. -/
def NVS_REC_CTL : Reg := ⟨0x45000100, 0x0⟩
def F_NVS_REC_CTL_GO : Fld := ⟨31, 1⟩
def F_NVS_REC_CTL_OP : Fld := ⟨28, 2⟩
def F_NVS_REC_CTL_LEN : Fld := ⟨20, 8⟩
def F_NVS_REC_CTL_ID : Fld := ⟨0, 10⟩

/-- NVS_REC_STATUS, spec/11_nonvolatile_store.md, R410. -/
def NVS_REC_STATUS : Reg := ⟨0x45000104, 0x0⟩
def F_NVS_REC_STATUS_BUSY : Fld := ⟨31, 1⟩
def F_NVS_REC_STATUS_DONE : Fld := ⟨30, 1⟩
def F_NVS_REC_STATUS_RESULT : Fld := ⟨27, 3⟩
def F_NVS_REC_STATUS_LEN : Fld := ⟨0, 8⟩

/-- NVS_PAR_STATE, spec/11_nonvolatile_store.md, R412. -/
def NVS_PAR_STATE : Reg := ⟨0x45000108, 0x0⟩
def F_NVS_PAR_STATE_HEAD : Fld := ⟨27, 5⟩
def F_NVS_PAR_STATE_FREE : Fld := ⟨18, 9⟩
def F_NVS_PAR_STATE_AGED : Fld := ⟨9, 9⟩

/-- NVS_PAR_SEQ, spec/11_nonvolatile_store.md, R412. -/
def NVS_PAR_SEQ : Reg := ⟨0x4500010c, 0x0⟩
def F_NVS_PAR_SEQ_SEQ : Fld := ⟨0, 32⟩

/-- NVS_REC_DATA, spec/11_nonvolatile_store.md, R410. -/
def NVS_REC_DATA (i : Nat) : Reg := ⟨0x45000200 + 0x4 * i, 0x0⟩
def F_NVS_REC_DATA_DATA : Fld := ⟨0, 32⟩

/-- NVS_COMMIT_CTL, spec/11_nonvolatile_store.md, R417. -/
def NVS_COMMIT_CTL : Reg := ⟨0x45000300, 0x0⟩
def F_NVS_COMMIT_CTL_GO : Fld := ⟨31, 1⟩
def F_NVS_COMMIT_CTL_ACTION : Fld := ⟨28, 2⟩
def F_NVS_COMMIT_CTL_SLOT : Fld := ⟨0, 1⟩

/-- NVS_COMMIT_SRC_LO, spec/11_nonvolatile_store.md, R417. -/
def NVS_COMMIT_SRC_LO : Reg := ⟨0x45000304, 0x0⟩
def F_NVS_COMMIT_SRC_LO_ADDR_LO : Fld := ⟨0, 32⟩

/-- NVS_COMMIT_SRC_HI, spec/11_nonvolatile_store.md, R417. -/
def NVS_COMMIT_SRC_HI : Reg := ⟨0x45000308, 0x0⟩
def F_NVS_COMMIT_SRC_HI_ADDR_HI : Fld := ⟨0, 16⟩

/-- NVS_COMMIT_LEN, spec/11_nonvolatile_store.md, R417. -/
def NVS_COMMIT_LEN : Reg := ⟨0x4500030c, 0x0⟩
def F_NVS_COMMIT_LEN_BYTES : Fld := ⟨0, 24⟩

/-- NVS_COMMIT_STATUS, spec/11_nonvolatile_store.md, R417. -/
def NVS_COMMIT_STATUS : Reg := ⟨0x45000310, 0x0⟩
def F_NVS_COMMIT_STATUS_BUSY : Fld := ⟨31, 1⟩
def F_NVS_COMMIT_STATUS_DONE : Fld := ⟨30, 1⟩
def F_NVS_COMMIT_STATUS_RESULT : Fld := ⟨27, 3⟩
def F_NVS_COMMIT_STATUS_STEP : Fld := ⟨24, 3⟩
def F_NVS_COMMIT_STATUS_REPEATS : Fld := ⟨16, 4⟩
def F_NVS_COMMIT_STATUS_SECTOR : Fld := ⟨0, 6⟩

/-- NVS_BOOT, spec/11_nonvolatile_store.md, R418. -/
def NVS_BOOT : Reg := ⟨0x45000320, 0x0⟩
def F_NVS_BOOT_ACT_USED1 : Fld := ⟨16, 7⟩
def F_NVS_BOOT_ACT_USED0 : Fld := ⟨8, 7⟩
def F_NVS_BOOT_REVOKED : Fld := ⟨3, 2⟩
def F_NVS_BOOT_VALID : Fld := ⟨1, 2⟩
def F_NVS_BOOT_SLOT : Fld := ⟨0, 1⟩

/-- NVS_RANK, spec/11_nonvolatile_store.md, R418. -/
def NVS_RANK (k : Nat) : Reg := ⟨0x45000324 + 0x4 * k, 0x0⟩
def F_NVS_RANK_RANK : Fld := ⟨0, 32⟩

/-- GH_ID, spec/12_gatehouse.md, R425. -/
def GH_ID : Reg := ⟨0x46000000, 0x3⟩
def F_GH_ID_ROM_VERSION : Fld := ⟨16, 16⟩
def F_GH_ID_LOCKSTEP_OK : Fld := ⟨1, 1⟩
def F_GH_ID_RUNNING : Fld := ⟨0, 1⟩

/-- GH_GRAVE, spec/12_gatehouse.md, R425. -/
def GH_GRAVE : Reg := ⟨0x46000004, 0x0⟩
def F_GH_GRAVE_LATCHED : Fld := ⟨31, 1⟩
def F_GH_GRAVE_CAUSE : Fld := ⟨0, 16⟩

/-- GH_RAIL, spec/12_gatehouse.md, R432. -/
def GH_RAIL (r : Nat) : Reg := ⟨0x46000010 + 0x4 * r, 0x0⟩
def F_GH_RAIL_PWRLOSS : Fld := ⟨31, 1⟩
def F_GH_RAIL_GRAVE_OV : Fld := ⟨30, 1⟩
def F_GH_RAIL_CHOP_FAULT : Fld := ⟨29, 1⟩
def F_GH_RAIL_REGEN_INHIBIT : Fld := ⟨28, 1⟩
def F_GH_RAIL_CHOP_ON : Fld := ⟨27, 1⟩
def F_GH_RAIL_MV : Fld := ⟨0, 16⟩

/-- GH_RAIL_PEAK, spec/12_gatehouse.md, R432. -/
def GH_RAIL_PEAK (r : Nat) : Reg := ⟨0x46000020 + 0x4 * r, 0xffff⟩
def F_GH_RAIL_PEAK_MAX_MV : Fld := ⟨16, 16⟩
def F_GH_RAIL_PEAK_MIN_MV : Fld := ⟨0, 16⟩

/-- GH_SUPPLY, spec/12_gatehouse.md, R436. -/
def GH_SUPPLY : Reg := ⟨0x46000030, 0x0⟩
def F_GH_SUPPLY_WRITE_INHIBIT : Fld := ⟨16, 1⟩
def F_GH_SUPPLY_STICKY : Fld := ⟨8, 6⟩
def F_GH_SUPPLY_NOW : Fld := ⟨0, 6⟩

/-- GH_TEMP, spec/12_gatehouse.md, R437. -/
def GH_TEMP : Reg := ⟨0x46000034, 0x0⟩
def F_GH_TEMP_MAX : Fld := ⟨8, 8⟩
def F_GH_TEMP_TJ : Fld := ⟨0, 8⟩

/-- GH_ACT_FORCE, spec/12_gatehouse.md, R33. -/
def GH_ACT_FORCE (k : Nat) : Reg := ⟨0x46000040 + 0x4 * k, 0x0⟩
def F_GH_ACT_FORCE_FORCED : Fld := ⟨0, 32⟩

/-- GH_ISOLATED, spec/12_gatehouse.md, R33. -/
def GH_ISOLATED (k : Nat) : Reg := ⟨0x46000048 + 0x4 * k, 0x0⟩
def F_GH_ISOLATED_ISOLATED : Fld := ⟨0, 32⟩

/-- GH_SPN_FORCE, spec/12_gatehouse.md, R430. -/
def GH_SPN_FORCE : Reg := ⟨0x46000050, 0x0⟩
def F_GH_SPN_FORCE_FORCED : Fld := ⟨0, 16⟩

/-- GH_NOTICE_EN, spec/12_gatehouse.md, R447. -/
def GH_NOTICE_EN : Reg := ⟨0x46000060, 0x1⟩
def F_GH_NOTICE_EN_EN : Fld := ⟨0, 8⟩

/-- GH_NOTICE, spec/12_gatehouse.md, R447. -/
def GH_NOTICE (c : Nat) : Reg := ⟨0x46000070 + 0x4 * c, 0x0⟩
def F_GH_NOTICE_PENDING : Fld := ⟨31, 1⟩

/-- GH_LODGE_STATE, spec/12_gatehouse.md, R444. -/
def GH_LODGE_STATE : Reg := ⟨0x46000100, 0x0⟩
def F_GH_LODGE_STATE_GRAVE_KEPT : Fld := ⟨16, 5⟩
def F_GH_LODGE_STATE_VALID : Fld := ⟨8, 8⟩
def F_GH_LODGE_STATE_NEXT : Fld := ⟨0, 7⟩

/-- GH_LODGE_SEQ, spec/12_gatehouse.md, R444. -/
def GH_LODGE_SEQ : Reg := ⟨0x46000104, 0x0⟩
def F_GH_LODGE_SEQ_SEQ : Fld := ⟨0, 32⟩

/-- GH_LODGE_COUNT, spec/12_gatehouse.md, R446. -/
def GH_LODGE_COUNT (k : Nat) : Nat := 0x46000110 + 0x8 * k

/-- GH_ACT_STATUS, spec/12_gatehouse.md, R428. -/
def GH_ACT_STATUS (a : Nat) : Reg := ⟨0x46000200 + 0x4 * a, 0x0⟩
def F_GH_ACT_STATUS_RETIRED : Fld := ⟨31, 1⟩
def F_GH_ACT_STATUS_FAULTS_24H : Fld := ⟨24, 4⟩
def F_GH_ACT_STATUS_CAUSE : Fld := ⟨0, 16⟩

/-- GH_LODGE_REC, spec/12_gatehouse.md, R444. -/
def GH_LODGE_REC (i w : Nat) : Reg := ⟨0x46001000 + 0x20 * i + 0x4 * w, 0x0⟩
def F_GH_LODGE_REC_WORD : Fld := ⟨0, 32⟩

/-- SDL_NOW_LO, spec/13_sundial_icehouse.md, R459. -/
def SDL_NOW_LO (m : Nat) : Reg := ⟨0x47000000 + 0x10 * m, 0x0⟩
def F_SDL_NOW_LO_NOW_LO : Fld := ⟨0, 32⟩

/-- SDL_NOW_HI, spec/13_sundial_icehouse.md, R459. -/
def SDL_NOW_HI (m : Nat) : Reg := ⟨0x47000004 + 0x10 * m, 0x0⟩
def F_SDL_NOW_HI_NOW_HI : Fld := ⟨0, 32⟩

/-- SDL_EPOCH_LO, spec/13_sundial_icehouse.md, R460. -/
def SDL_EPOCH_LO : Reg := ⟨0x47000100, 0x0⟩
def F_SDL_EPOCH_LO_OFFSET : Fld := ⟨0, 32⟩

/-- SDL_EPOCH_HI, spec/13_sundial_icehouse.md, R460. -/
def SDL_EPOCH_HI : Reg := ⟨0x47000104, 0x0⟩
def F_SDL_EPOCH_HI_OFFSET : Fld := ⟨0, 32⟩

/-- SDL_EPOCH_CTL, spec/13_sundial_icehouse.md, R460. -/
def SDL_EPOCH_CTL : Reg := ⟨0x47000108, 0x0⟩
def F_SDL_EPOCH_CTL_ORIGIN : Fld := ⟨0, 1⟩

/-- SDL_CMP_LO, spec/13_sundial_icehouse.md, R461. -/
def SDL_CMP_LO (c : Nat) : Reg := ⟨0x47000200 + 0x10 * c, 0x0⟩
def F_SDL_CMP_LO_CMP : Fld := ⟨0, 32⟩

/-- SDL_CMP_HI, spec/13_sundial_icehouse.md, R461. -/
def SDL_CMP_HI (c : Nat) : Reg := ⟨0x47000204 + 0x10 * c, 0x0⟩
def F_SDL_CMP_HI_CMP : Fld := ⟨0, 32⟩

/-- SDL_CMP_CTL, spec/13_sundial_icehouse.md, R461. -/
def SDL_CMP_CTL (c : Nat) : Reg := ⟨0x47000208 + 0x10 * c, 0x0⟩
def F_SDL_CMP_CTL_PENDING : Fld := ⟨1, 1⟩
def F_SDL_CMP_CTL_ARM : Fld := ⟨0, 1⟩

/-- ICE_STATE, spec/13_sundial_icehouse.md, R471. -/
def ICE_STATE : Reg := ⟨0x47100000, 0x0⟩
def F_ICE_STATE_CLEARING : Fld := ⟨31, 1⟩
def F_ICE_STATE_NVS_WAIT : Fld := ⟨30, 1⟩
def F_ICE_STATE_FILLED : Fld := ⟨29, 1⟩
def F_ICE_STATE_PENDING : Fld := ⟨24, 2⟩
def F_ICE_STATE_HEAD : Fld := ⟨0, 11⟩

/-- ICE_SLOT_SEQ, spec/13_sundial_icehouse.md, R471. -/
def ICE_SLOT_SEQ : Reg := ⟨0x47100004, 0x0⟩
def F_ICE_SLOT_SEQ_VALUE : Fld := ⟨0, 32⟩

/-- ICE_SKIPPED, spec/13_sundial_icehouse.md, R471. -/
def ICE_SKIPPED : Reg := ⟨0x47100008, 0x0⟩
def F_ICE_SKIPPED_VALUE : Fld := ⟨0, 32⟩

/-- ICE_CLEAR_COUNT, spec/13_sundial_icehouse.md, R475. -/
def ICE_CLEAR_COUNT : Reg := ⟨0x4710000c, 0x0⟩
def F_ICE_CLEAR_COUNT_VALUE : Fld := ⟨0, 32⟩

/-- ICE_SAT, spec/13_sundial_icehouse.md, R466. -/
def ICE_SAT : Reg := ⟨0x47100010, 0x0⟩
def F_ICE_SAT_SAT : Fld := ⟨0, 6⟩

/-- ICE_CLEAR_CTL, spec/13_sundial_icehouse.md, R475. -/
def ICE_CLEAR_CTL : Reg := ⟨0x47100020, 0x0⟩
def F_ICE_CLEAR_CTL_GO : Fld := ⟨0, 1⟩

/-- ICE_HIST, spec/13_sundial_icehouse.md, R464. -/
def ICE_HIST (h b : Nat) : Nat := 0x47101000 + 0x80 * h + 0x8 * b

/-- ICE_EXT_MIN, spec/13_sundial_icehouse.md, R465. -/
def ICE_EXT_MIN (e : Nat) : Reg := ⟨0x47102000 + 0x20 * e, 0x7fffffff⟩
def F_ICE_EXT_MIN_V : Fld := ⟨0, 32⟩

/-- ICE_EXT_MAX, spec/13_sundial_icehouse.md, R465. -/
def ICE_EXT_MAX (e : Nat) : Reg := ⟨0x47102004 + 0x20 * e, 0x80000000⟩
def F_ICE_EXT_MAX_V : Fld := ⟨0, 32⟩

/-- ICE_EXT_T, spec/13_sundial_icehouse.md, R465. -/
def ICE_EXT_T (e w : Nat) : Reg := ⟨0x47102008 + 0x20 * e + 0x4 * w, 0x0⟩
def F_ICE_EXT_T_T : Fld := ⟨0, 32⟩

/-- ICE_EVT_COUNT, spec/13_sundial_icehouse.md, R463. -/
def ICE_EVT_COUNT (i : Nat) : Nat := 0x47104000 + 0x20 * i

/-- ICE_EVT_LAST, spec/13_sundial_icehouse.md, R463. -/
def ICE_EVT_LAST (i : Nat) : Nat := 0x47104008 + 0x20 * i

/-- ICE_EVT_INTERVAL, spec/13_sundial_icehouse.md, R463. -/
def ICE_EVT_INTERVAL (i : Nat) : Reg := ⟨0x47104010 + 0x20 * i, 0x0⟩
def F_ICE_EVT_INTERVAL_V : Fld := ⟨0, 32⟩

/-- ICE_FOLD_ADD, spec/13_sundial_icehouse.md, R474. -/
def ICE_FOLD_ADD (i : Nat) : Reg := ⟨0x47108000 + 0x10 * i, 0x0⟩
def F_ICE_FOLD_ADD_ADD : Fld := ⟨0, 32⟩

/-- ICE_FOLD_SUM, spec/13_sundial_icehouse.md, R474. -/
def ICE_FOLD_SUM (i : Nat) : Nat := 0x47108004 + 0x10 * i

/-- SEC_FUSE, spec/14_trust.md, R484. -/
def SEC_FUSE : Reg := ⟨0x48000000, 0x0⟩
def F_SEC_FUSE_CUST_KEY : Fld := ⟨0, 1⟩

/-- SEC_BOOT, spec/14_trust.md, R481. -/
def SEC_BOOT : Reg := ⟨0x48000004, 0x0⟩
def F_SEC_BOOT_TRIED : Fld := ⟨6, 2⟩
def F_SEC_BOOT_CUST_CHECKED : Fld := ⟨5, 1⟩
def F_SEC_BOOT_SLOT : Fld := ⟨4, 1⟩
def F_SEC_BOOT_RESULT : Fld := ⟨0, 2⟩

/-- SEC_DEVICE_ID, spec/14_trust.md, R490. -/
def SEC_DEVICE_ID (k : Nat) : Reg := ⟨0x48000010 + 0x4 * k, 0x0⟩
def F_SEC_DEVICE_ID_ID : Fld := ⟨0, 32⟩

/-- SEC_SHED, spec/14_trust.md, R492. -/
def SEC_SHED : Reg := ⟨0x48000040, 0x0⟩
def F_SEC_SHED_NONCE_HELD : Fld := ⟨31, 1⟩
def F_SEC_SHED_FAILS : Fld := ⟨28, 3⟩
def F_SEC_SHED_SCOPE : Fld := ⟨0, 5⟩

/-- SEC_SHED_CTL, spec/14_trust.md, R495. -/
def SEC_SHED_CTL : Reg := ⟨0x48000044, 0x0⟩
def F_SEC_SHED_CTL_CLOSE : Fld := ⟨0, 1⟩

/-- SEC_MLOG_COUNT, spec/14_trust.md, R489. -/
def SEC_MLOG_COUNT : Reg := ⟨0x48000080, 0x0⟩
def F_SEC_MLOG_COUNT_OVERFLOW : Fld := ⟨31, 1⟩
def F_SEC_MLOG_COUNT_COUNT : Fld := ⟨0, 7⟩

/-- SEC_VERIFY_LO, spec/14_trust.md, R483. -/
def SEC_VERIFY_LO : Reg := ⟨0x48000100, 0x0⟩
def F_SEC_VERIFY_LO_ADDR_LO : Fld := ⟨0, 32⟩

/-- SEC_VERIFY_HI, spec/14_trust.md, R483. -/
def SEC_VERIFY_HI : Reg := ⟨0x48000104, 0x0⟩
def F_SEC_VERIFY_HI_ADDR_HI : Fld := ⟨0, 16⟩

/-- SEC_VERIFY_CTL, spec/14_trust.md, R483. -/
def SEC_VERIFY_CTL : Reg := ⟨0x48000108, 0x0⟩
def F_SEC_VERIFY_CTL_GO : Fld := ⟨31, 1⟩
def F_SEC_VERIFY_CTL_BUSY : Fld := ⟨30, 1⟩
def F_SEC_VERIFY_CTL_RESULT : Fld := ⟨28, 2⟩

/-- SEC_VERIFY_DIGEST, spec/14_trust.md, R483. -/
def SEC_VERIFY_DIGEST : Reg := ⟨0x4800010c, 0x0⟩
def F_SEC_VERIFY_DIGEST_DIGEST_LO : Fld := ⟨0, 32⟩

/-- SEC_EXTEND_DATA, spec/14_trust.md, R488. -/
def SEC_EXTEND_DATA (w : Nat) : Reg := ⟨0x48000200 + 0x4 * w, 0x0⟩
def F_SEC_EXTEND_DATA_DIGEST : Fld := ⟨0, 32⟩

/-- SEC_EXTEND_CTL, spec/14_trust.md, R488. -/
def SEC_EXTEND_CTL : Reg := ⟨0x48000240, 0x6⟩
def F_SEC_EXTEND_CTL_GO : Fld := ⟨31, 1⟩
def F_SEC_EXTEND_CTL_INDEX : Fld := ⟨0, 3⟩

/-- SEC_ENROLL_KEY, spec/14_trust.md, R484. -/
def SEC_ENROLL_KEY (w : Nat) : Reg := ⟨0x48000300 + 0x4 * w, 0x0⟩
def F_SEC_ENROLL_KEY_KEY : Fld := ⟨0, 32⟩

/-- SEC_ENROLL_SIG, spec/14_trust.md, R484. -/
def SEC_ENROLL_SIG (w : Nat) : Reg := ⟨0x48000320 + 0x4 * w, 0x0⟩
def F_SEC_ENROLL_SIG_SIG : Fld := ⟨0, 32⟩

/-- SEC_ENROLL_CTL, spec/14_trust.md, R484. -/
def SEC_ENROLL_CTL : Reg := ⟨0x48000360, 0x0⟩
def F_SEC_ENROLL_CTL_GO : Fld := ⟨31, 1⟩
def F_SEC_ENROLL_CTL_BUSY : Fld := ⟨30, 1⟩
def F_SEC_ENROLL_CTL_RESULT : Fld := ⟨28, 2⟩

/-- SEC_MEAS, spec/14_trust.md, R486. -/
def SEC_MEAS (i w : Nat) : Reg := ⟨0x48001000 + 0x40 * i + 0x4 * w, 0x0⟩
def F_SEC_MEAS_VALUE : Fld := ⟨0, 32⟩

/-- SEC_MLOG, spec/14_trust.md, R489. -/
def SEC_MLOG (n w : Nat) : Reg := ⟨0x48002000 + 0x60 * n + 0x4 * w, 0x0⟩
def F_SEC_MLOG_V : Fld := ⟨0, 32⟩

/-- PWR_DENIED_WRITES, spec/15_bring_up.md, R6. -/
def PWR_DENIED_WRITES : Reg := ⟨0x49000004, 0x0⟩
def F_PWR_DENIED_WRITES_COUNT : Fld := ⟨0, 32⟩

/-- PWR_BAD_ACCESS, spec/15_bring_up.md, R27. -/
def PWR_BAD_ACCESS : Reg := ⟨0x49000008, 0x0⟩
def F_PWR_BAD_ACCESS_COUNT : Fld := ⟨0, 32⟩

/-- PWR_RESET_CAUSE, spec/15_bring_up.md, R507. -/
def PWR_RESET_CAUSE : Reg := ⟨0x49000010, 0x1⟩
def F_PWR_RESET_CAUSE_PERST : Fld := ⟨3, 1⟩
def F_PWR_RESET_CAUSE_CHIP_RST : Fld := ⟨2, 1⟩
def F_PWR_RESET_CAUSE_SYS_RST : Fld := ⟨1, 1⟩
def F_PWR_RESET_CAUSE_POWER_ON : Fld := ⟨0, 1⟩

/-- PWR_BOOT, spec/15_bring_up.md, R511. -/
def PWR_BOOT : Reg := ⟨0x49000014, 0x0⟩
def F_PWR_BOOT_FW_READY : Fld := ⟨31, 1⟩
def F_PWR_BOOT_RECOVERY : Fld := ⟨30, 1⟩
def F_PWR_BOOT_FAIL : Fld := ⟨20, 2⟩
def F_PWR_BOOT_STAGE : Fld := ⟨0, 3⟩

/-- PWR_CHIP_RST, spec/15_bring_up.md, R507. -/
def PWR_CHIP_RST : Reg := ⟨0x49000018, 0x0⟩
def F_PWR_CHIP_RST_GO : Fld := ⟨31, 1⟩
def F_PWR_CHIP_RST_KEY : Fld := ⟨0, 16⟩

/-- PWR_DOM_REQ, spec/15_bring_up.md, R497. -/
def PWR_DOM_REQ : Reg := ⟨0x49000020, 0x0⟩
def F_PWR_DOM_REQ_GO : Fld := ⟨31, 1⟩
def F_PWR_DOM_REQ_ON : Fld := ⟨30, 1⟩
def F_PWR_DOM_REQ_DOMAIN : Fld := ⟨0, 7⟩

/-- PWR_DOM_RESULT, spec/15_bring_up.md, R497. -/
def PWR_DOM_RESULT : Reg := ⟨0x49000024, 0x0⟩
def F_PWR_DOM_RESULT_BUSY : Fld := ⟨31, 1⟩
def F_PWR_DOM_RESULT_DONE : Fld := ⟨30, 1⟩
def F_PWR_DOM_RESULT_RESULT : Fld := ⟨28, 2⟩
def F_PWR_DOM_RESULT_DOMAIN : Fld := ⟨0, 7⟩

/-- PWR_DOM_STATE, spec/15_bring_up.md, R497. -/
def PWR_DOM_STATE (k : Nat) : Reg := ⟨0x49000030 + 0x4 * k, 0x0⟩
def F_PWR_DOM_STATE_ON : Fld := ⟨0, 32⟩

/-- PWR_ACT_RST, spec/15_bring_up.md, R504. -/
def PWR_ACT_RST : Reg := ⟨0x49000040, 0x0⟩
def F_PWR_ACT_RST_GO : Fld := ⟨31, 1⟩
def F_PWR_ACT_RST_ACT : Fld := ⟨0, 6⟩

/-- PWR_ACT_RST_BUSY, spec/15_bring_up.md, R504. -/
def PWR_ACT_RST_BUSY (k : Nat) : Reg := ⟨0x49000044 + 0x4 * k, 0x0⟩
def F_PWR_ACT_RST_BUSY_BUSY : Fld := ⟨0, 32⟩

/-- PWR_ACT_RST_RESULT, spec/15_bring_up.md, R504. -/
def PWR_ACT_RST_RESULT : Reg := ⟨0x4900004c, 0x0⟩
def F_PWR_ACT_RST_RESULT_RESULT : Fld := ⟨30, 2⟩
def F_PWR_ACT_RST_RESULT_ACT : Fld := ⟨0, 6⟩

/-- PWR_CORE_RST, spec/15_bring_up.md, R503. -/
def PWR_CORE_RST : Reg := ⟨0x49000050, 0x0⟩
def F_PWR_CORE_RST_GO : Fld := ⟨31, 1⟩
def F_PWR_CORE_RST_MASK : Fld := ⟨0, 8⟩

/-- PWR_STRAPS, spec/16_package_electrical.md, R533. -/
def PWR_STRAPS : Reg := ⟨0x49000060, 0x0⟩
def F_PWR_STRAPS_PCLK : Fld := ⟨2, 1⟩
def F_PWR_STRAPS_SMBA : Fld := ⟨0, 2⟩

/-- CLK_FABRIC, spec/15_bring_up.md, R501. -/
def CLK_FABRIC : Reg := ⟨0x49010000, 0x0⟩
def F_CLK_FABRIC_FREQ : Fld := ⟨0, 2⟩

/-- CLK_STATUS, spec/15_bring_up.md, R502. -/
def CLK_STATUS : Reg := ⟨0x49010004, 0x0⟩
def F_CLK_STATUS_REF_LOST : Fld := ⟨31, 1⟩
def F_CLK_STATUS_REF_LOST_STICKY : Fld := ⟨30, 1⟩
def F_CLK_STATUS_SWITCHING : Fld := ⟨3, 1⟩
def F_CLK_STATUS_FREQ_NOW : Fld := ⟨0, 2⟩

/-- CLK_DRAM, spec/15_bring_up.md, R509. -/
def CLK_DRAM : Reg := ⟨0x49010008, 0x0⟩
def F_CLK_DRAM_TRIES : Fld := ⟨4, 2⟩
def F_CLK_DRAM_RATE : Fld := ⟨0, 2⟩

/-- CAL_STATUS, spec/15_bring_up.md, R512. -/
def CAL_STATUS : Reg := ⟨0x49020000, 0x0⟩
def F_CAL_STATUS_TABLE_OK : Fld := ⟨31, 1⟩
def F_CAL_STATUS_APPLYING : Fld := ⟨30, 1⟩
def F_CAL_STATUS_RUN_BUSY : Fld := ⟨29, 1⟩

/-- CAL_COUNT, spec/15_bring_up.md, R513. -/
def CAL_COUNT : Reg := ⟨0x49020004, 0x0⟩
def F_CAL_COUNT_REJECTED : Fld := ⟨16, 16⟩
def F_CAL_COUNT_ACCEPTED : Fld := ⟨0, 16⟩

/-- CAL_LAST_TIME_LO, spec/15_bring_up.md, R513. -/
def CAL_LAST_TIME_LO : Reg := ⟨0x49020008, 0x0⟩
def F_CAL_LAST_TIME_LO_TIME : Fld := ⟨0, 32⟩

/-- CAL_LAST_TIME_HI, spec/15_bring_up.md, R513. -/
def CAL_LAST_TIME_HI : Reg := ⟨0x4902000c, 0x0⟩
def F_CAL_LAST_TIME_HI_TIME : Fld := ⟨0, 32⟩

/-- CAL_RUN, spec/15_bring_up.md, R515. -/
def CAL_RUN : Reg := ⟨0x49020010, 0xff00⟩
def F_CAL_RUN_GO : Fld := ⟨31, 1⟩
def F_CAL_RUN_RESULT : Fld := ⟨29, 2⟩
def F_CAL_RUN_INDEX : Fld := ⟨8, 8⟩
def F_CAL_RUN_CLASS : Fld := ⟨0, 3⟩

/-- CAL_REJECT, spec/15_bring_up.md, R513. -/
def CAL_REJECT : Reg := ⟨0x49020014, 0x0⟩
def F_CAL_REJECT_CLASS : Fld := ⟨29, 3⟩
def F_CAL_REJECT_ITEM : Fld := ⟨10, 10⟩
def F_CAL_REJECT_VALUE : Fld := ⟨0, 10⟩

/-- RCH_POOL_STAT, spec/05_reading.md, R200. -/
def RCH_POOL_STAT (n : Nat) : Nat := 0x40006200 + 0x8 * n

/-- Register entries, part 0. -/
def regTable0 : List RegSpec := [
  ⟨0x49000000, [], .por, 0x64441001, [⟨⟨24, 8⟩, .ro, 0, 255⟩, ⟨⟨20, 4⟩, .ro, 0, 15⟩, ⟨⟨16, 4⟩, .ro, 0, 15⟩, ⟨⟨8, 8⟩, .ro, 0, 255⟩, ⟨⟨0, 8⟩, .ro, 0, 255⟩]⟩,
  ⟨0x41000000, [(0x1000, 16)], .chip, 0x0, [⟨⟨2, 1⟩, .w1p, 0, 1⟩, ⟨⟨1, 1⟩, .w1p, 0, 1⟩, ⟨⟨0, 1⟩, .w1p, 0, 1⟩]⟩,
  ⟨0x41000004, [(0x1000, 16)], .chip, 0x67, [⟨⟨12, 1⟩, .ro, 0, 1⟩, ⟨⟨11, 1⟩, .ro, 0, 1⟩, ⟨⟨10, 1⟩, .ro, 0, 1⟩, ⟨⟨9, 1⟩, .ro, 0, 1⟩, ⟨⟨8, 1⟩, .gh, 0, 1⟩, ⟨⟨4, 4⟩, .ro, 0, 15⟩, ⟨⟨0, 4⟩, .ro, 0, 15⟩]⟩,
  ⟨0x41000008, [(0x1000, 16)], .chip, 0x1c20, [⟨⟨0, 14⟩, .rw, 3600, 10000⟩]⟩,
  ⟨0x4100000c, [(0x1000, 16)], .chip, 0x640384, [⟨⟨16, 12⟩, .rw, 10, 4000⟩, ⟨⟨0, 16⟩, .rw, 50, 5000⟩]⟩,
  ⟨0x41000010, [(0x1000, 16)], .chip, 0x5780004, [⟨⟨16, 16⟩, .rw, 100, 5000⟩, ⟨⟨0, 4⟩, .rw, 2, 8⟩]⟩,
  ⟨0x41000014, [(0x1000, 16)], .chip, 0xa78, [⟨⟨8, 8⟩, .rw, 0, 50⟩, ⟨⟨0, 8⟩, .rw, 0, 240⟩]⟩,
  ⟨0x41000018, [(0x1000, 16)], .chip, 0x3e800fa, [⟨⟨16, 16⟩, .rw, 100, 5000⟩, ⟨⟨0, 16⟩, .rw, 10, 2000⟩]⟩,
  ⟨0x4100001c, [(0x1000, 16)], .chip, 0x1c2003c, [⟨⟨16, 16⟩, .rw, 300, 1000⟩, ⟨⟨0, 16⟩, .rw, 10, 200⟩]⟩,
  ⟨0x41000020, [(0x1000, 16)], .chip, 0x177009c4, [⟨⟨16, 16⟩, .rw, 1000, 12000⟩, ⟨⟨0, 16⟩, .rw, 200, 6000⟩]⟩,
  ⟨0x41000024, [(0x1000, 16)], .chip, 0x8014, [⟨⟨12, 4⟩, .rw, 1, 15⟩, ⟨⟨8, 1⟩, .rw, 0, 1⟩, ⟨⟨0, 7⟩, .rw, 5, 80⟩]⟩,
  ⟨0x41000028, [(0x1000, 16)], .chip, 0x1e0258, [⟨⟨16, 8⟩, .rw, 5, 120⟩, ⟨⟨0, 16⟩, .rw, 100, 3000⟩]⟩,
  ⟨0x4100002c, [(0x1000, 16)], .chip, 0xf, [⟨⟨0, 8⟩, .rw, 5, 60⟩]⟩,
  ⟨0x41000040, [(0x1000, 16)], .chip, 0x0, [⟨⟨23, 1⟩, .ro, 0, 1⟩, ⟨⟨22, 1⟩, .ro, 0, 1⟩, ⟨⟨20, 2⟩, .ro, 0, 3⟩, ⟨⟨0, 20⟩, .ro, 0, 1048575⟩]⟩,
  ⟨0x41000044, [(0x1000, 16)], .chip, 0x0, [⟨⟨0, 32⟩, .ro, 0, 4294967295⟩]⟩,
  ⟨0x41000048, [(0x1000, 16)], .chip, 0x0, [⟨⟨16, 16⟩, .ro, 0, 65535⟩, ⟨⟨0, 16⟩, .ro, 0, 65535⟩]⟩,
  ⟨0x4100004c, [(0x1000, 16)], .chip, 0x0, [⟨⟨16, 16⟩, .ro, 0, 65535⟩, ⟨⟨0, 16⟩, .ro, 0, 65535⟩]⟩,
  ⟨0x41000050, [(0x1000, 16)], .chip, 0x0, [⟨⟨16, 16⟩, .ro, 0, 65535⟩, ⟨⟨0, 2⟩, .ro, 0, 3⟩]⟩,
  ⟨0x41000060, [(0x1000, 16)], .chip, 0x0, [⟨⟨0, 32⟩, .ro, 0, 4294967295⟩]⟩,
  ⟨0x41000064, [(0x1000, 16)], .chip, 0x0, [⟨⟨0, 32⟩, .ro, 0, 4294967295⟩]⟩]

/-- Register entries, part 1. -/
def regTable1 : List RegSpec := [
  ⟨0x41000068, [(0x1000, 16)], .chip, 0x0, [⟨⟨0, 32⟩, .ro, 0, 4294967295⟩]⟩,
  ⟨0x4100006c, [(0x1000, 16)], .por, 0x0, [⟨⟨0, 32⟩, .ro, 0, 4294967295⟩]⟩,
  ⟨0x41000070, [(0x1000, 16)], .chip, 0x0, [⟨⟨7, 1⟩, .w1c, 0, 1⟩, ⟨⟨6, 1⟩, .w1c, 0, 1⟩, ⟨⟨5, 1⟩, .w1c, 0, 1⟩, ⟨⟨4, 1⟩, .w1c, 0, 1⟩, ⟨⟨3, 1⟩, .w1c, 0, 1⟩, ⟨⟨2, 1⟩, .w1c, 0, 1⟩, ⟨⟨1, 1⟩, .w1c, 0, 1⟩, ⟨⟨0, 1⟩, .w1c, 0, 1⟩]⟩,
  ⟨0x41000800, [], .chip, 0x4, [⟨⟨0, 5⟩, .rw, 1, 16⟩]⟩,
  ⟨0x41000804, [], .chip, 0x0, [⟨⟨8, 5⟩, .ro, 0, 31⟩, ⟨⟨0, 5⟩, .ro, 0, 31⟩]⟩,
  ⟨0x41000808, [], .chip, 0x0, [⟨⟨0, 16⟩, .w1p, 0, 65535⟩]⟩,
  ⟨0x41100000, [(0x10000, 16)], .chip, 0x200, [⟨⟨0, 11⟩, .rw, 256, 1024⟩]⟩,
  ⟨0x41100004, [(0x10000, 16)], .chip, 0x0, [⟨⟨16, 1⟩, .ro, 0, 1⟩, ⟨⟨0, 10⟩, .ro, 0, 1023⟩]⟩,
  ⟨0x41100008, [(0x10000, 16)], .chip, 0x408, [⟨⟨8, 5⟩, .rw, 0, 16⟩, ⟨⟨0, 7⟩, .rw, 1, 64⟩]⟩,
  ⟨0x4110000c, [(0x10000, 16)], .chip, 0x40c8527b, [⟨⟨24, 8⟩, .rw, 1, 255⟩, ⟨⟨20, 4⟩, .rw, 1, 15⟩, ⟨⟨16, 4⟩, .rw, 1, 15⟩, ⟨⟨8, 8⟩, .rw, 0, 255⟩, ⟨⟨0, 8⟩, .rw, 0, 255⟩]⟩,
  ⟨0x41100010, [(0x10000, 16)], .chip, 0x3d7b, [⟨⟨8, 8⟩, .gh, 0, 255⟩, ⟨⟨0, 8⟩, .gh, 0, 255⟩]⟩,
  ⟨0x41100020, [(0x10000, 16)], .chip, 0x0, [⟨⟨12, 2⟩, .rw, 0, 2⟩, ⟨⟨9, 1⟩, .w1p, 0, 1⟩, ⟨⟨8, 1⟩, .w1p, 0, 1⟩, ⟨⟨0, 5⟩, .rw, 0, 20⟩]⟩,
  ⟨0x41100024, [(0x10000, 16)], .chip, 0x0, [⟨⟨0, 21⟩, .ro, 0, 2097151⟩]⟩,
  ⟨0x41100040, [(0x10000, 16), (0x8, 4)], .chip, 0x0, [⟨⟨16, 16⟩, .rw, 0, 65535⟩, ⟨⟨0, 16⟩, .rw, 0, 65535⟩]⟩,
  ⟨0x41100044, [(0x10000, 16), (0x8, 4)], .chip, 0x10, [⟨⟨0, 7⟩, .rw, 1, 64⟩]⟩,
  ⟨0x41100400, [(0x10000, 16), (0x4, 21)], .chip, 0x0, [⟨⟨3, 1⟩, .w1c, 0, 1⟩, ⟨⟨2, 1⟩, .w1c, 0, 1⟩, ⟨⟨1, 1⟩, .w1c, 0, 1⟩, ⟨⟨0, 1⟩, .w1c, 0, 1⟩]⟩,
  ⟨0x41101000, [(0x10000, 16), (0x100, 21), (0x4, 64)], .chip, 0x0, [⟨⟨0, 32⟩, .rw, 0, 4294967295⟩]⟩,
  ⟨0x41103000, [(0x10000, 16), (0x40, 21)], .chip, 0x0, [⟨⟨0, 32⟩, .ro, 0, 4294967295⟩]⟩,
  ⟨0x41103004, [(0x10000, 16), (0x40, 21)], .chip, 0x0, [⟨⟨0, 32⟩, .ro, 0, 4294967295⟩]⟩,
  ⟨0x41103008, [(0x10000, 16), (0x40, 21)], .chip, 0x0, [⟨⟨0, 32⟩, .ro, 0, 4294967295⟩]⟩]

/-- Register entries, part 2. -/
def regTable2 : List RegSpec := [
  ⟨0x4110300c, [(0x10000, 16), (0x40, 21)], .chip, 0x0, [⟨⟨0, 32⟩, .ro, 0, 4294967295⟩]⟩,
  ⟨0x41100100, [(0x10000, 16), (0x40, 4)], .act, 0x0, [⟨⟨2, 1⟩, .w1p, 0, 1⟩, ⟨⟨1, 1⟩, .w1p, 0, 1⟩, ⟨⟨0, 1⟩, .w1p, 0, 1⟩]⟩,
  ⟨0x41100104, [(0x10000, 16), (0x40, 4)], .act, 0x0, [⟨⟨21, 1⟩, .gh, 0, 1⟩, ⟨⟨20, 1⟩, .ro, 0, 1⟩, ⟨⟨16, 4⟩, .ro, 0, 15⟩, ⟨⟨12, 4⟩, .ro, 0, 15⟩, ⟨⟨8, 4⟩, .ro, 0, 15⟩, ⟨⟨4, 4⟩, .ro, 0, 15⟩, ⟨⟨0, 4⟩, .ro, 0, 15⟩]⟩,
  ⟨0x41100108, [(0x10000, 16), (0x40, 4)], .act, 0x0, [⟨⟨24, 2⟩, .rw, 0, 3⟩, ⟨⟨0, 21⟩, .rw, 0, 2097151⟩]⟩,
  ⟨0x4110010c, [(0x10000, 16), (0x40, 4)], .act, 0x0, [⟨⟨15, 1⟩, .rw, 0, 1⟩, ⟨⟨12, 3⟩, .rw, 0, 5⟩, ⟨⟨11, 1⟩, .rw, 0, 1⟩, ⟨⟨8, 3⟩, .rw, 0, 5⟩, ⟨⟨7, 1⟩, .rw, 0, 1⟩, ⟨⟨4, 3⟩, .rw, 0, 5⟩, ⟨⟨3, 1⟩, .rw, 0, 1⟩, ⟨⟨0, 3⟩, .rw, 0, 5⟩]⟩,
  ⟨0x41100110, [(0x10000, 16), (0x40, 4)], .act, 0x0, [⟨⟨16, 16⟩, .rw, 0, 65535⟩, ⟨⟨0, 16⟩, .rw, 0, 65535⟩]⟩,
  ⟨0x41100114, [(0x10000, 16), (0x40, 4)], .act, 0x0, [⟨⟨16, 16⟩, .rw, 0, 65535⟩, ⟨⟨0, 16⟩, .rw, 0, 65535⟩]⟩,
  ⟨0x41100118, [(0x10000, 16), (0x40, 4)], .act, 0x6000000, [⟨⟨24, 3⟩, .rw, 1, 6⟩, ⟨⟨0, 21⟩, .rw, 0, 2097151⟩]⟩,
  ⟨0x4110011c, [(0x10000, 16), (0x40, 4)], .act, 0x0, [⟨⟨7, 1⟩, .w1c, 0, 1⟩, ⟨⟨6, 1⟩, .w1c, 0, 1⟩, ⟨⟨5, 1⟩, .w1c, 0, 1⟩, ⟨⟨4, 1⟩, .w1c, 0, 1⟩, ⟨⟨3, 1⟩, .w1c, 0, 1⟩, ⟨⟨2, 1⟩, .w1c, 0, 1⟩, ⟨⟨1, 1⟩, .w1c, 0, 1⟩, ⟨⟨0, 1⟩, .w1c, 0, 1⟩]⟩,
  ⟨0x41100120, [(0x10000, 16), (0x40, 4)], .act, 0x0, [⟨⟨0, 32⟩, .ro, 0, 4294967295⟩]⟩,
  ⟨0x41100124, [(0x10000, 16), (0x40, 4)], .act, 0x0, [⟨⟨0, 32⟩, .ro, 0, 4294967295⟩]⟩,
  ⟨0x41100128, [(0x10000, 16), (0x40, 4)], .act, 0x0, [⟨⟨0, 32⟩, .ro, 0, 4294967295⟩]⟩,
  ⟨0x40001000, [(0x40000, 64)], .act, 0x0, [⟨⟨0, 1⟩, .w1p, 0, 1⟩]⟩,
  ⟨0x40001004, [(0x40000, 64)], .act, 0x440000, [⟨⟨22, 2⟩, .ro, 0, 3⟩, ⟨⟨20, 2⟩, .ro, 0, 3⟩, ⟨⟨18, 2⟩, .ro, 0, 3⟩, ⟨⟨16, 2⟩, .ro, 0, 3⟩, ⟨⟨12, 4⟩, .ro, 0, 15⟩, ⟨⟨8, 4⟩, .ro, 0, 15⟩, ⟨⟨4, 4⟩, .ro, 0, 15⟩, ⟨⟨0, 2⟩, .ro, 0, 3⟩]⟩,
  ⟨0x40001008, [(0x40000, 64)], .act, 0x0, [⟨⟨16, 4⟩, .ro, 0, 15⟩, ⟨⟨12, 4⟩, .ro, 0, 15⟩, ⟨⟨8, 4⟩, .ro, 0, 15⟩, ⟨⟨4, 4⟩, .ro, 0, 15⟩, ⟨⟨0, 4⟩, .ro, 0, 15⟩]⟩,
  ⟨0x40001010, [(0x40000, 64)], .act, 0x0, [⟨⟨31, 1⟩, .w1p, 0, 1⟩, ⟨⟨30, 1⟩, .rw, 0, 1⟩, ⟨⟨16, 12⟩, .rw, 0, 4095⟩, ⟨⟨0, 16⟩, .rw, 0, 65535⟩]⟩,
  ⟨0x40001014, [(0x40000, 64)], .act, 0x0, [⟨⟨31, 1⟩, .ro, 0, 1⟩, ⟨⟨30, 1⟩, .w1c, 0, 1⟩, ⟨⟨28, 2⟩, .ro, 0, 3⟩, ⟨⟨0, 16⟩, .ro, 0, 65535⟩]⟩,
  ⟨0x40001020, [(0x40000, 64)], .act, 0x0, [⟨⟨0, 32⟩, .ro, 0, 4294967295⟩]⟩,
  ⟨0x40001024, [(0x40000, 64)], .act, 0x0, [⟨⟨0, 32⟩, .ro, 0, 4294967295⟩]⟩,
  ⟨0x40001030, [(0x40000, 64)], .act, 0x0, [⟨⟨10, 1⟩, .w1c, 0, 1⟩, ⟨⟨9, 1⟩, .w1c, 0, 1⟩, ⟨⟨8, 1⟩, .w1c, 0, 1⟩, ⟨⟨4, 4⟩, .w1c, 0, 15⟩, ⟨⟨3, 1⟩, .w1c, 0, 1⟩, ⟨⟨2, 1⟩, .w1c, 0, 1⟩, ⟨⟨1, 1⟩, .w1c, 0, 1⟩, ⟨⟨0, 1⟩, .w1c, 0, 1⟩]⟩]

/-- Register entries, part 3. -/
def regTable3 : List RegSpec := [
  ⟨0x40001100, [(0x40000, 64), (0x20, 4)], .actpwr, 0x0, [⟨⟨0, 32⟩, .ro, 0, 4294967295⟩]⟩,
  ⟨0x40001104, [(0x40000, 64), (0x20, 4)], .actpwr, 0x0, [⟨⟨0, 32⟩, .ro, 0, 4294967295⟩]⟩,
  ⟨0x40001108, [(0x40000, 64), (0x20, 4)], .actpwr, 0x0, [⟨⟨0, 32⟩, .ro, 0, 4294967295⟩]⟩,
  ⟨0x4000110c, [(0x40000, 64), (0x20, 4)], .actpwr, 0x0, [⟨⟨0, 32⟩, .ro, 0, 4294967295⟩]⟩,
  ⟨0x40001110, [(0x40000, 64), (0x20, 4)], .actpwr, 0x0, [⟨⟨0, 32⟩, .ro, 0, 4294967295⟩]⟩,
  ⟨0x40001114, [(0x40000, 64), (0x20, 4)], .actpwr, 0x0, [⟨⟨0, 32⟩, .ro, 0, 4294967295⟩]⟩,
  ⟨0x40001200, [(0x40000, 64), (0x10, 4)], .actpwr, 0x0, [⟨⟨0, 32⟩, .ro, 0, 4294967295⟩]⟩,
  ⟨0x40001204, [(0x40000, 64), (0x10, 4)], .actpwr, 0x0, [⟨⟨0, 32⟩, .ro, 0, 4294967295⟩]⟩,
  ⟨0x40001208, [(0x40000, 64), (0x10, 4)], .actpwr, 0x0, [⟨⟨0, 32⟩, .ro, 0, 4294967295⟩]⟩,
  ⟨0x4000120c, [(0x40000, 64), (0x10, 4)], .actpwr, 0x0, [⟨⟨0, 32⟩, .ro, 0, 4294967295⟩]⟩,
  ⟨0x40002000, [(0x40000, 64)], .act, 0x4060a573, [⟨⟨24, 8⟩, .rw, 1, 255⟩, ⟨⟨16, 8⟩, .rw, 16, 192⟩, ⟨⟨12, 4⟩, .rw, 4, 15⟩, ⟨⟨8, 4⟩, .rw, 1, 12⟩, ⟨⟨4, 4⟩, .rw, 2, 15⟩, ⟨⟨0, 4⟩, .rw, 1, 12⟩]⟩,
  ⟨0x40002004, [(0x40000, 64)], .act, 0x64002430, [⟨⟨20, 12⟩, .rw, 0, 3648⟩, ⟨⟨12, 3⟩, .rw, 0, 4⟩, ⟨⟨8, 4⟩, .rw, 0, 8⟩, ⟨⟨0, 8⟩, .rw, 8, 128⟩]⟩,
  ⟨0x40002008, [(0x40000, 64)], .act, 0x12c0414, [⟨⟨16, 16⟩, .rw, 0, 3648⟩, ⟨⟨8, 5⟩, .rw, 2, 20⟩, ⟨⟨0, 5⟩, .rw, 1, 20⟩]⟩,
  ⟨0x4000200c, [(0x40000, 64)], .act, 0x13, [⟨⟨4, 1⟩, .rw, 0, 1⟩, ⟨⟨0, 4⟩, .rw, 0, 15⟩]⟩,
  ⟨0x40002010, [(0x40000, 64)], .act, 0x18, [⟨⟨16, 4⟩, .rw, 0, 15⟩, ⟨⟨0, 8⟩, .rw, 0, 255⟩]⟩,
  ⟨0x40002014, [(0x40000, 64)], .act, 0x0, [⟨⟨7, 1⟩, .w1c, 0, 1⟩, ⟨⟨6, 1⟩, .w1c, 0, 1⟩, ⟨⟨5, 1⟩, .w1c, 0, 1⟩, ⟨⟨4, 1⟩, .w1c, 0, 1⟩, ⟨⟨3, 1⟩, .w1c, 0, 1⟩, ⟨⟨2, 1⟩, .w1c, 0, 1⟩, ⟨⟨1, 1⟩, .w1c, 0, 1⟩, ⟨⟨0, 1⟩, .w1c, 0, 1⟩]⟩,
  ⟨0x40002100, [(0x40000, 64), (0x8, 32)], .act, 0x0, [⟨⟨31, 1⟩, .rw, 0, 1⟩, ⟨⟨0, 21⟩, .rw, 0, 2097151⟩]⟩,
  ⟨0x40002104, [(0x40000, 64), (0x8, 32)], .act, 0xbb8, [⟨⟨28, 4⟩, .rw, 0, 15⟩, ⟨⟨24, 4⟩, .rw, 0, 15⟩, ⟨⟨20, 4⟩, .rw, 0, 15⟩, ⟨⟨16, 4⟩, .rw, 0, 15⟩, ⟨⟨12, 4⟩, .rw, 0, 15⟩, ⟨⟨0, 12⟩, .rw, 1200, 3000⟩]⟩,
  ⟨0x40002400, [(0x40000, 64), (0x80, 4), (0x4, 20)], .act, 0x0, [⟨⟨0, 10⟩, .rw, 0, 1023⟩]⟩,
  ⟨0x40006000, [(0x8, 16)], .chip, 0x0, [⟨⟨24, 8⟩, .rw, 0, 255⟩, ⟨⟨16, 8⟩, .rw, 0, 255⟩, ⟨⟨8, 8⟩, .rw, 0, 255⟩, ⟨⟨0, 8⟩, .rw, 0, 255⟩]⟩]

/-- Register entries, part 4. -/
def regTable4 : List RegSpec := [
  ⟨0x40006004, [(0x8, 16)], .chip, 0x0, [⟨⟨0, 8⟩, .rw, 0, 255⟩]⟩,
  ⟨0x40006100, [], .chip, 0xc0, [⟨⟨20, 4⟩, .rw, 0, 15⟩, ⟨⟨0, 9⟩, .rw, 1, 480⟩]⟩,
  ⟨0x40006104, [], .chip, 0x200, [⟨⟨20, 10⟩, .ro, 0, 1023⟩, ⟨⟨10, 10⟩, .ro, 0, 1023⟩, ⟨⟨0, 10⟩, .ro, 0, 1023⟩]⟩,
  ⟨0x40006108, [], .chip, 0x0, [⟨⟨10, 10⟩, .ro, 0, 1023⟩, ⟨⟨0, 10⟩, .ro, 0, 1023⟩]⟩,
  ⟨0x4000610c, [], .chip, 0xf0200, [⟨⟨16, 4⟩, .ro, 0, 15⟩, ⟨⟨0, 10⟩, .ro, 0, 1023⟩]⟩,
  ⟨0x40006120, [(0x4, 5)], .chip, 0x8419, [⟨⟨15, 1⟩, .rw, 0, 1⟩, ⟨⟨12, 3⟩, .rw, 0, 4⟩, ⟨⟨8, 3⟩, .rw, 1, 4⟩, ⟨⟨0, 5⟩, .rw, 1, 25⟩]⟩,
  ⟨0x40006140, [], .chip, 0x53, [⟨⟨0, 8⟩, .rw, 1, 255⟩]⟩,
  ⟨0x40006144, [], .chip, 0x0, [⟨⟨16, 6⟩, .ro, 0, 63⟩, ⟨⟨0, 9⟩, .ro, 0, 511⟩]⟩,
  ⟨0x40008000, [(0x40000, 64)], .act, 0x578640a0, [⟨⟨20, 12⟩, .rw, 200, 4000⟩, ⟨⟨10, 10⟩, .rw, 360, 1000⟩, ⟨⟨0, 10⟩, .rw, 40, 400⟩]⟩,
  ⟨0x40008010, [(0x40000, 64), (0x4, 2)], .act, 0x0, [⟨⟨0, 32⟩, .rw, 0, 4294967295⟩]⟩,
  ⟨0x40008018, [(0x40000, 64)], .act, 0x0, [⟨⟨0, 4⟩, .rw, 0, 15⟩]⟩,
  ⟨0x40008020, [(0x40000, 64)], .act, 0x0, [⟨⟨5, 1⟩, .w1c, 0, 1⟩, ⟨⟨4, 1⟩, .w1c, 0, 1⟩, ⟨⟨3, 1⟩, .w1c, 0, 1⟩, ⟨⟨2, 1⟩, .w1c, 0, 1⟩, ⟨⟨1, 1⟩, .w1c, 0, 1⟩, ⟨⟨0, 1⟩, .w1c, 0, 1⟩]⟩,
  ⟨0x40008024, [(0x40000, 64)], .act, 0x0, [⟨⟨12, 4⟩, .ro, 0, 15⟩, ⟨⟨8, 4⟩, .ro, 0, 15⟩, ⟨⟨4, 4⟩, .ro, 0, 15⟩, ⟨⟨0, 4⟩, .ro, 0, 15⟩]⟩,
  ⟨0x40008030, [(0x40000, 64)], .act, 0x0, [⟨⟨28, 4⟩, .ro, 0, 15⟩, ⟨⟨24, 2⟩, .ro, 0, 3⟩, ⟨⟨21, 3⟩, .ro, 0, 7⟩, ⟨⟨0, 21⟩, .ro, 0, 2097151⟩]⟩,
  ⟨0x40008034, [(0x40000, 64)], .act, 0x0, [⟨⟨16, 16⟩, .ro, 0, 65535⟩, ⟨⟨0, 16⟩, .ro, 0, 65535⟩]⟩,
  ⟨0x40008038, [(0x40000, 64)], .act, 0x0, [⟨⟨0, 32⟩, .ro, 0, 4294967295⟩]⟩,
  ⟨0x40008100, [(0x40000, 64), (0x40, 6), (0x10, 4), (0x4, 4)], .act, 0x0, [⟨⟨0, 32⟩, .rw, 0, 4294967295⟩]⟩,
  ⟨0x4000a000, [(0x40000, 64)], .act, 0x0, [⟨⟨2, 1⟩, .w1p, 0, 1⟩, ⟨⟨1, 1⟩, .w1p, 0, 1⟩, ⟨⟨0, 1⟩, .w1p, 0, 1⟩]⟩,
  ⟨0x4000a004, [(0x40000, 64)], .act, 0x60000, [⟨⟨19, 1⟩, .ro, 0, 1⟩, ⟨⟨16, 3⟩, .ro, 0, 7⟩, ⟨⟨0, 13⟩, .ro, 0, 8191⟩]⟩,
  ⟨0x4000a008, [(0x40000, 64)], .act, 0x0, [⟨⟨16, 13⟩, .ro, 0, 8191⟩, ⟨⟨8, 8⟩, .ro, 0, 255⟩, ⟨⟨7, 1⟩, .w1c, 0, 1⟩, ⟨⟨6, 1⟩, .w1c, 0, 1⟩, ⟨⟨5, 1⟩, .w1c, 0, 1⟩, ⟨⟨4, 1⟩, .w1c, 0, 1⟩, ⟨⟨3, 1⟩, .w1c, 0, 1⟩, ⟨⟨2, 1⟩, .w1c, 0, 1⟩, ⟨⟨1, 1⟩, .w1c, 0, 1⟩, ⟨⟨0, 1⟩, .w1c, 0, 1⟩]⟩]

/-- Register entries, part 5. -/
def regTable5 : List RegSpec := [
  ⟨0x4000a010, [(0x40000, 64)], .act, 0x0, [⟨⟨4, 1⟩, .w1c, 0, 1⟩, ⟨⟨3, 1⟩, .w1c, 0, 1⟩, ⟨⟨2, 1⟩, .w1c, 0, 1⟩, ⟨⟨1, 1⟩, .w1c, 0, 1⟩, ⟨⟨0, 1⟩, .w1c, 0, 1⟩]⟩,
  ⟨0x4000a014, [(0x40000, 64)], .act, 0x0, [⟨⟨8, 3⟩, .rw, 0, 7⟩, ⟨⟨0, 5⟩, .rw, 0, 31⟩]⟩,
  ⟨0x4000a018, [(0x40000, 64)], .act, 0x0, [⟨⟨0, 32⟩, .ro, 0, 4294967295⟩]⟩,
  ⟨0x4000a020, [(0x40000, 64)], .act, 0x0, [⟨⟨8, 1⟩, .w1p, 0, 1⟩, ⟨⟨0, 4⟩, .rw, 0, 15⟩]⟩,
  ⟨0x4000a024, [(0x40000, 64)], .act, 0x0, [⟨⟨8, 1⟩, .w1p, 0, 1⟩, ⟨⟨0, 4⟩, .rw, 0, 15⟩]⟩,
  ⟨0x4000a028, [(0x40000, 64)], .act, 0x0, [⟨⟨20, 1⟩, .ro, 0, 1⟩, ⟨⟨16, 4⟩, .ro, 0, 15⟩, ⟨⟨0, 16⟩, .ro, 0, 65535⟩]⟩,
  ⟨0x4000a030, [(0x40000, 64)], .actpwr, 0x0, [⟨⟨0, 32⟩, .rc, 0, 4294967295⟩]⟩,
  ⟨0x4000a034, [(0x40000, 64)], .actpwr, 0x0, [⟨⟨0, 32⟩, .ro, 0, 4294967295⟩]⟩,
  ⟨0x4000a038, [(0x40000, 64)], .actpwr, 0x0, [⟨⟨0, 9⟩, .ro, 0, 511⟩]⟩,
  ⟨0x4000a040, [(0x40000, 64)], .act, 0x0, [⟨⟨0, 32⟩, .ro, 0, 4294967295⟩]⟩,
  ⟨0x4000a044, [(0x40000, 64)], .act, 0x0, [⟨⟨0, 32⟩, .ro, 0, 4294967295⟩]⟩,
  ⟨0x4000a060, [(0x40000, 64)], .act, 0x2400000, [⟨⟨16, 12⟩, .rw, 64, 2047⟩, ⟨⟨8, 8⟩, .rw, 0, 255⟩, ⟨⟨0, 8⟩, .ro, 0, 255⟩]⟩,
  ⟨0x4000a100, [(0x40000, 64), (0x8, 32)], .act, 0x258, [⟨⟨16, 16⟩, .rw, 0, 65535⟩, ⟨⟨0, 12⟩, .rw, 200, 4000⟩]⟩,
  ⟨0x4000a104, [(0x40000, 64), (0x8, 32)], .act, 0x0, [⟨⟨0, 18⟩, .rw, 0, 262143⟩]⟩,
  ⟨0x4000b000, [(0x40000, 64), (0x40, 16), (0x4, 16)], .actpwr, 0x0, [⟨⟨0, 32⟩, .rw, 0, 4294967295⟩]⟩,
  ⟨0x4000c000, [(0x40000, 64), (0x4, 1024)], .act, 0x0, [⟨⟨0, 32⟩, .ro, 0, 4294967295⟩]⟩,
  ⟨0x4000f000, [], .chip, 0x0, [⟨⟨2, 1⟩, .w1p, 0, 1⟩, ⟨⟨1, 1⟩, .w1p, 0, 1⟩]⟩,
  ⟨0x4000f004, [], .chip, 0x0, [⟨⟨0, 32⟩, .rw, 0, 4294967295⟩]⟩,
  ⟨0x4000f008, [], .chip, 0x0, [⟨⟨0, 16⟩, .rw, 0, 65535⟩]⟩,
  ⟨0x4000f00c, [], .chip, 0x0, [⟨⟨0, 32⟩, .rw, 0, 4294967295⟩]⟩]

/-- Register entries, part 6. -/
def regTable6 : List RegSpec := [
  ⟨0x4000f010, [], .chip, 0x0, [⟨⟨0, 16⟩, .rw, 0, 65535⟩]⟩,
  ⟨0x4000f014, [], .chip, 0x0, [⟨⟨16, 16⟩, .ro, 0, 65535⟩, ⟨⟨8, 1⟩, .ro, 0, 1⟩, ⟨⟨0, 4⟩, .ro, 0, 15⟩]⟩,
  ⟨0x4000f018, [], .chip, 0x0, [⟨⟨0, 32⟩, .ro, 0, 4294967295⟩]⟩,
  ⟨0x42000000, [], .chip, 0x0, [⟨⟨0, 8⟩, .ro, 0, 255⟩]⟩,
  ⟨0x42000010, [], .chip, 0x0, [⟨⟨1, 1⟩, .rw, 0, 1⟩, ⟨⟨0, 1⟩, .rw, 0, 1⟩]⟩,
  ⟨0x42000014, [], .chip, 0x0, [⟨⟨31, 1⟩, .ro, 0, 1⟩, ⟨⟨30, 1⟩, .ro, 0, 1⟩, ⟨⟨0, 18⟩, .ro, 0, 262143⟩]⟩,
  ⟨0x42000020, [], .chip, 0x0, [⟨⟨0, 16⟩, .rw, 0, 65535⟩]⟩,
  ⟨0x42000024, [], .chip, 0x0, [⟨⟨0, 32⟩, .ro, 0, 4294967295⟩]⟩,
  ⟨0x42000030, [], .chip, 0xc4000c00, [⟨⟨28, 4⟩, .rw, 1, 15⟩, ⟨⟨14, 14⟩, .rw, 1, 16383⟩, ⟨⟨0, 14⟩, .rw, 0, 16383⟩]⟩,
  ⟨0x42000034, [], .chip, 0x1e, [⟨⟨0, 16⟩, .rw, 1, 3600⟩]⟩,
  ⟨0x42000040, [], .chip, 0x421, [⟨⟨8, 5⟩, .rw, 1, 16⟩, ⟨⟨4, 4⟩, .rw, 1, 15⟩, ⟨⟨0, 1⟩, .rw, 0, 1⟩]⟩,
  ⟨0x42000050, [], .chip, 0x0, [⟨⟨3, 1⟩, .w1c, 0, 1⟩, ⟨⟨2, 1⟩, .w1c, 0, 1⟩, ⟨⟨1, 1⟩, .w1c, 0, 1⟩, ⟨⟨0, 1⟩, .w1c, 0, 1⟩]⟩,
  ⟨0x42000060, [], .chip, 0x0, [⟨⟨24, 4⟩, .rw, 0, 15⟩, ⟨⟨0, 13⟩, .rw, 0, 8191⟩]⟩,
  ⟨0x42000064, [], .chip, 0x0, [⟨⟨0, 32⟩, .ro, 0, 4294967295⟩]⟩,
  ⟨0x42000068, [], .chip, 0x0, [⟨⟨0, 32⟩, .ro, 0, 4294967295⟩]⟩,
  ⟨0x4200006c, [], .chip, 0x0, [⟨⟨0, 12⟩, .ro, 0, 4095⟩]⟩,
  ⟨0x42001000, [(0x40, 8)], .core, 0x0, [⟨⟨31, 1⟩, .w1p, 0, 1⟩, ⟨⟨30, 1⟩, .rw, 0, 1⟩, ⟨⟨27, 3⟩, .rw, 0, 7⟩, ⟨⟨25, 2⟩, .rw, 0, 3⟩, ⟨⟨23, 2⟩, .rw, 0, 3⟩, ⟨⟨14, 7⟩, .rw, 0, 127⟩, ⟨⟨7, 7⟩, .rw, 0, 127⟩]⟩,
  ⟨0x42001004, [(0x40, 8)], .core, 0x0, [⟨⟨0, 32⟩, .rw, 0, 4294967295⟩]⟩,
  ⟨0x42001008, [(0x40, 8)], .core, 0x0, [⟨⟨16, 11⟩, .rw, 0, 2047⟩, ⟨⟨0, 8⟩, .rw, 0, 255⟩]⟩,
  ⟨0x42001010, [(0x40, 8)], .core, 0x0, [⟨⟨31, 1⟩, .ro, 0, 1⟩, ⟨⟨28, 3⟩, .ro, 0, 7⟩, ⟨⟨25, 3⟩, .ro, 0, 7⟩, ⟨⟨21, 4⟩, .ro, 0, 15⟩, ⟨⟨0, 13⟩, .ro, 0, 8191⟩]⟩]

/-- Register entries, part 7. -/
def regTable7 : List RegSpec := [
  ⟨0x42001014, [(0x40, 8)], .core, 0x0, [⟨⟨31, 1⟩, .ro, 0, 1⟩, ⟨⟨7, 7⟩, .ro, 0, 127⟩, ⟨⟨0, 7⟩, .ro, 0, 127⟩]⟩,
  ⟨0x42002000, [(0x10, 8)], .chip, 0x0, [⟨⟨31, 1⟩, .rc, 0, 1⟩, ⟨⟨30, 1⟩, .rc, 0, 1⟩, ⟨⟨0, 11⟩, .rc, 0, 2047⟩]⟩,
  ⟨0x42003000, [], .chip, 0x0, [⟨⟨31, 1⟩, .rc, 0, 1⟩, ⟨⟨27, 4⟩, .rc, 0, 15⟩, ⟨⟨14, 13⟩, .rc, 0, 8191⟩, ⟨⟨7, 7⟩, .rc, 0, 127⟩, ⟨⟨0, 7⟩, .rc, 0, 127⟩]⟩,
  ⟨0x42003004, [], .chip, 0x0, [⟨⟨0, 32⟩, .ro, 0, 4294967295⟩]⟩,
  ⟨0x42003008, [], .chip, 0x0, [⟨⟨0, 8⟩, .ro, 0, 255⟩]⟩,
  ⟨0x42003010, [], .chip, 0x0, [⟨⟨31, 1⟩, .w1p, 0, 1⟩, ⟨⟨30, 1⟩, .rw, 0, 1⟩, ⟨⟨14, 4⟩, .rw, 0, 15⟩, ⟨⟨0, 13⟩, .rw, 0, 8191⟩]⟩,
  ⟨0x42003020, [], .chip, 0x0, [⟨⟨31, 1⟩, .rc, 0, 1⟩, ⟨⟨8, 2⟩, .rc, 0, 3⟩, ⟨⟨0, 8⟩, .rc, 0, 255⟩]⟩,
  ⟨0x42003024, [], .chip, 0x0, [⟨⟨0, 32⟩, .ro, 0, 4294967295⟩]⟩,
  ⟨0x42004000, [], .chip, 0x0, [⟨⟨31, 1⟩, .w1p, 0, 1⟩, ⟨⟨24, 3⟩, .rw, 0, 7⟩, ⟨⟨0, 24⟩, .rw, 0, 16777215⟩]⟩,
  ⟨0x42004004, [], .chip, 0x0, [⟨⟨0, 32⟩, .rw, 0, 4294967295⟩]⟩,
  ⟨0x42004008, [], .chip, 0x0, [⟨⟨0, 8⟩, .rw, 0, 255⟩]⟩,
  ⟨0x42004010, [], .chip, 0x0, [⟨⟨31, 1⟩, .ro, 0, 1⟩, ⟨⟨12, 12⟩, .ro, 0, 4095⟩]⟩,
  ⟨0x42006000, [(0x10, 8)], .chip, 0x0, [⟨⟨0, 32⟩, .ro, 0, 4294967295⟩]⟩,
  ⟨0x42006004, [(0x10, 8)], .chip, 0x0, [⟨⟨0, 32⟩, .ro, 0, 4294967295⟩]⟩,
  ⟨0x42006008, [(0x10, 8)], .chip, 0x0, [⟨⟨0, 32⟩, .ro, 0, 4294967295⟩]⟩,
  ⟨0x4200600c, [(0x10, 8)], .chip, 0x0, [⟨⟨0, 16⟩, .ro, 0, 65535⟩]⟩,
  ⟨0x42007000, [], .chip, 0x118, [⟨⟨8, 1⟩, .rw, 0, 1⟩, ⟨⟨0, 8⟩, .rw, 1, 168⟩]⟩,
  ⟨0x42007004, [], .chip, 0x0, [⟨⟨0, 32⟩, .ro, 0, 4294967295⟩]⟩,
  ⟨0x42007008, [], .chip, 0x0, [⟨⟨0, 32⟩, .ro, 0, 4294967295⟩]⟩,
  ⟨0x42007f00, [], .chip, 0x0, [⟨⟨0, 32⟩, .ps, 0, 4294967295⟩]⟩]

/-- Register entries, part 8. -/
def regTable8 : List RegSpec := [
  ⟨0x42007f04, [], .chip, 0x0, [⟨⟨0, 32⟩, .ps, 0, 4294967295⟩]⟩,
  ⟨0x42007f08, [], .chip, 0x0, [⟨⟨31, 1⟩, .ps, 0, 1⟩, ⟨⟨16, 3⟩, .ps, 0, 7⟩, ⟨⟨0, 8⟩, .ps, 0, 255⟩]⟩,
  ⟨0x43000000, [], .por, 0x96640000, [⟨⟨16, 16⟩, .ro, 0, 65535⟩, ⟨⟨0, 16⟩, .ro, 0, 65535⟩]⟩,
  ⟨0x43000004, [], .pcie, 0x0, [⟨⟨12, 1⟩, .ro, 0, 1⟩, ⟨⟨11, 1⟩, .ro, 0, 1⟩, ⟨⟨4, 5⟩, .ro, 0, 31⟩, ⟨⟨0, 4⟩, .ro, 0, 15⟩]⟩,
  ⟨0x43000010, [], .chip, 0xd00010, [⟨⟨16, 12⟩, .rw, 0, 1024⟩, ⟨⟨0, 6⟩, .rw, 1, 63⟩]⟩,
  ⟨0x43000014, [], .nvme, 0x0, [⟨⟨16, 12⟩, .ro, 0, 4095⟩, ⟨⟨0, 12⟩, .ro, 0, 4095⟩]⟩,
  ⟨0x43000020, [], .chip, 0x0, [⟨⟨31, 1⟩, .rw, 0, 1⟩, ⟨⟨30, 1⟩, .ro, 0, 1⟩, ⟨⟨0, 12⟩, .ro, 0, 4095⟩]⟩,
  ⟨0x43000100, [], .nvme, 0x0, [⟨⟨31, 1⟩, .rc, 0, 1⟩, ⟨⟨29, 2⟩, .rc, 0, 3⟩, ⟨⟨28, 1⟩, .rc, 0, 1⟩, ⟨⟨16, 8⟩, .rc, 0, 255⟩, ⟨⟨0, 11⟩, .rc, 0, 2047⟩]⟩,
  ⟨0x43000104, [(0x4, 16)], .nvme, 0x0, [⟨⟨0, 32⟩, .ro, 0, 4294967295⟩]⟩,
  ⟨0x43000144, [], .nvme, 0x0, [⟨⟨0, 32⟩, .ro, 0, 4294967295⟩]⟩,
  ⟨0x43000200, [(0x1000000000000, 8)], .core, 0x0, [⟨⟨0, 32⟩, .rw, 0, 4294967295⟩]⟩,
  ⟨0x43000204, [(0x1000000000000, 8)], .core, 0x0, [⟨⟨0, 32⟩, .rw, 0, 4294967295⟩]⟩,
  ⟨0x43000208, [(0x1000000000000, 8)], .core, 0x0, [⟨⟨31, 1⟩, .w1p, 0, 1⟩, ⟨⟨30, 1⟩, .rw, 0, 1⟩, ⟨⟨29, 1⟩, .rw, 0, 1⟩, ⟨⟨27, 2⟩, .rw, 0, 3⟩, ⟨⟨24, 3⟩, .rw, 0, 7⟩, ⟨⟨16, 8⟩, .rw, 0, 255⟩, ⟨⟨0, 11⟩, .rw, 0, 2047⟩]⟩,
  ⟨0x43000300, [(0x1000000000000, 8)], .core, 0x0, [⟨⟨0, 32⟩, .rw, 0, 4294967295⟩]⟩,
  ⟨0x43000304, [(0x1000000000000, 8)], .core, 0x0, [⟨⟨0, 16⟩, .rw, 0, 65535⟩]⟩,
  ⟨0x43000308, [(0x1000000000000, 8)], .core, 0x0, [⟨⟨16, 10⟩, .rw, 1, 512⟩, ⟨⟨0, 10⟩, .rw, 0, 511⟩]⟩,
  ⟨0x4300030c, [(0x1000000000000, 8)], .core, 0x0, [⟨⟨31, 1⟩, .w1p, 0, 1⟩, ⟨⟨30, 1⟩, .rw, 0, 1⟩, ⟨⟨0, 11⟩, .rw, 0, 2047⟩]⟩,
  ⟨0x43000320, [], .nvme, 0x0, [⟨⟨31, 1⟩, .rc, 0, 1⟩, ⟨⟨28, 2⟩, .rc, 0, 3⟩, ⟨⟨16, 10⟩, .rc, 0, 1023⟩, ⟨⟨0, 11⟩, .rc, 0, 2047⟩]⟩,
  ⟨0x43000324, [], .nvme, 0x0, [⟨⟨0, 10⟩, .ro, 0, 1023⟩]⟩,
  ⟨0x43000400, [], .chip, 0xbb80, [⟨⟨0, 16⟩, .rw, 30, 65535⟩]⟩]

/-- Register entries, part 9. -/
def regTable9 : List RegSpec := [
  ⟨0x43000404, [], .chip, 0x0, [⟨⟨0, 32⟩, .ro, 0, 4294967295⟩]⟩,
  ⟨0x44000000, [(0x800, 44), (0x400, 2)], .kskEnd, 0x0, [⟨⟨0, 32⟩, .rw, 0, 4294967295⟩]⟩,
  ⟨0x44000004, [(0x800, 44), (0x400, 2)], .kskEnd, 0x0, [⟨⟨0, 32⟩, .rc, 0, 4294967295⟩]⟩,
  ⟨0x44000008, [(0x800, 44), (0x400, 2)], .kskEnd, 0x0, [⟨⟨16, 5⟩, .ro, 0, 31⟩, ⟨⟨8, 5⟩, .ro, 0, 31⟩, ⟨⟨0, 1⟩, .ro, 0, 1⟩]⟩,
  ⟨0x4400000c, [(0x800, 44), (0x400, 2)], .kskEnd, 0x0, [⟨⟨3, 1⟩, .w1c, 0, 1⟩, ⟨⟨2, 1⟩, .w1c, 0, 1⟩, ⟨⟨1, 1⟩, .w1c, 0, 1⟩, ⟨⟨0, 1⟩, .ro, 0, 1⟩]⟩,
  ⟨0x44000010, [(0x800, 44), (0x400, 2)], .kskEnd, 0x1, [⟨⟨1, 1⟩, .rw, 0, 1⟩, ⟨⟨0, 1⟩, .rw, 0, 1⟩]⟩,
  ⟨0x44000014, [(0x800, 44), (0x400, 2)], .kskEnd, 0x0, [⟨⟨0, 32⟩, .rc, 0, 4294967295⟩]⟩,
  ⟨0x440f0000, [], .chip, 0x0, [⟨⟨0, 3⟩, .rw, 0, 7⟩, ⟨⟨3, 3⟩, .rw, 0, 7⟩, ⟨⟨6, 3⟩, .rw, 0, 7⟩, ⟨⟨9, 3⟩, .rw, 0, 7⟩, ⟨⟨12, 3⟩, .rw, 0, 7⟩, ⟨⟨15, 3⟩, .rw, 0, 7⟩, ⟨⟨18, 3⟩, .rw, 0, 7⟩, ⟨⟨21, 3⟩, .rw, 0, 7⟩]⟩,
  ⟨0x44100000, [(0x4, 128)], .chip, 0x0, [⟨⟨31, 1⟩, .rs, 0, 1⟩, ⟨⟨30, 1⟩, .rs, 0, 1⟩, ⟨⟨1, 7⟩, .rs, 0, 127⟩, ⟨⟨0, 1⟩, .w1p, 0, 1⟩]⟩,
  ⟨0x44100400, [(0x4, 128)], .chip, 0x0, [⟨⟨31, 1⟩, .ro, 0, 1⟩, ⟨⟨30, 1⟩, .ro, 0, 1⟩, ⟨⟨1, 3⟩, .ro, 0, 7⟩]⟩,
  ⟨0x44100800, [], .chip, 0x0, [⟨⟨31, 1⟩, .w1p, 0, 1⟩, ⟨⟨0, 7⟩, .rw, 0, 127⟩]⟩,
  ⟨0x44100900, [(0x4, 4)], .chip, 0x0, [⟨⟨0, 32⟩, .ro, 0, 4294967295⟩]⟩,
  ⟨0x44100910, [], .chip, 0x0, [⟨⟨0, 32⟩, .ro, 0, 4294967295⟩]⟩,
  ⟨0x44200000, [(0x40, 64)], .chip, 0x0, [⟨⟨31, 1⟩, .w1p, 0, 1⟩, ⟨⟨30, 1⟩, .w1p, 0, 1⟩, ⟨⟨18, 5⟩, .rw, 0, 31⟩, ⟨⟨13, 5⟩, .rw, 0, 31⟩, ⟨⟨7, 3⟩, .rw, 0, 7⟩, ⟨⟨6, 1⟩, .rw, 0, 1⟩, ⟨⟨5, 1⟩, .rw, 0, 1⟩, ⟨⟨0, 2⟩, .rw, 0, 2⟩]⟩,
  ⟨0x44200004, [(0x40, 64)], .chip, 0x0, [⟨⟨31, 1⟩, .ro, 0, 1⟩, ⟨⟨8, 3⟩, .ro, 0, 7⟩, ⟨⟨1, 3⟩, .ro, 0, 7⟩, ⟨⟨0, 1⟩, .w1c, 0, 1⟩]⟩,
  ⟨0x44200008, [(0x40, 64)], .chip, 0x0, [⟨⟨0, 32⟩, .rw, 0, 4294967295⟩]⟩,
  ⟨0x4420000c, [(0x40, 64)], .chip, 0x0, [⟨⟨0, 16⟩, .rw, 0, 65535⟩]⟩,
  ⟨0x44200010, [(0x40, 64)], .chip, 0x0, [⟨⟨0, 32⟩, .rw, 0, 4294967295⟩]⟩,
  ⟨0x44200014, [(0x40, 64)], .chip, 0x0, [⟨⟨0, 16⟩, .rw, 0, 65535⟩]⟩,
  ⟨0x44200018, [(0x40, 64)], .chip, 0x0, [⟨⟨0, 32⟩, .rw, 0, 4294967295⟩]⟩]

/-- Register entries, part 10. -/
def regTable10 : List RegSpec := [
  ⟨0x4420001c, [(0x40, 64)], .chip, 0x0, [⟨⟨0, 32⟩, .ro, 0, 4294967295⟩]⟩,
  ⟨0x44200020, [(0x40, 64)], .chip, 0x0, [⟨⟨0, 32⟩, .rw, 0, 4294967295⟩]⟩,
  ⟨0x44200024, [(0x40, 64)], .chip, 0x0, [⟨⟨0, 32⟩, .rw, 0, 4294967295⟩]⟩,
  ⟨0x44200028, [(0x40, 64)], .chip, 0x0, [⟨⟨0, 32⟩, .ro, 0, 4294967295⟩]⟩,
  ⟨0x44208000, [(0x4, 2)], .chip, 0x0, [⟨⟨0, 32⟩, .ro, 0, 4294967295⟩]⟩,
  ⟨0x44208008, [], .chip, 0x0, [⟨⟨0, 32⟩, .ro, 0, 4294967295⟩]⟩,
  ⟨0x45000000, [], .chip, 0x17, [⟨⟨0, 5⟩, .rw, 4, 31⟩]⟩,
  ⟨0x45000010, [], .chip, 0x0, [⟨⟨31, 1⟩, .w1p, 0, 1⟩, ⟨⟨28, 3⟩, .rw, 0, 7⟩, ⟨⟨0, 25⟩, .rw, 0, 33554431⟩]⟩,
  ⟨0x45000020, [(0x4, 8)], .chip, 0xffffffff, [⟨⟨0, 32⟩, .rw, 0, 4294967295⟩]⟩,
  ⟨0x45000040, [], .chip, 0x0, [⟨⟨31, 1⟩, .ro, 0, 1⟩, ⟨⟨30, 1⟩, .ro, 0, 1⟩, ⟨⟨29, 1⟩, .ro, 0, 1⟩, ⟨⟨28, 1⟩, .w1c, 0, 1⟩, ⟨⟨24, 4⟩, .ro, 0, 15⟩, ⟨⟨0, 8⟩, .ro, 0, 255⟩]⟩,
  ⟨0x45000044, [], .chip, 0x0, [⟨⟨31, 1⟩, .ro, 0, 1⟩, ⟨⟨0, 25⟩, .ro, 0, 33554431⟩]⟩,
  ⟨0x45000048, [], .chip, 0x0, [⟨⟨6, 1⟩, .w1c, 0, 1⟩, ⟨⟨5, 1⟩, .w1c, 0, 1⟩, ⟨⟨4, 1⟩, .w1c, 0, 1⟩, ⟨⟨3, 1⟩, .w1c, 0, 1⟩, ⟨⟨2, 1⟩, .w1c, 0, 1⟩, ⟨⟨1, 1⟩, .w1c, 0, 1⟩, ⟨⟨0, 1⟩, .w1c, 0, 1⟩]⟩,
  ⟨0x4500004c, [], .chip, 0x0, [⟨⟨31, 1⟩, .ro, 0, 1⟩, ⟨⟨0, 25⟩, .ro, 0, 33554431⟩]⟩,
  ⟨0x45000060, [(0x4, 5)], .chip, 0x0, [⟨⟨0, 32⟩, .ro, 0, 4294967295⟩]⟩,
  ⟨0x45000080, [], .chip, 0x0, [⟨⟨0, 8⟩, .rw, 0, 151⟩]⟩,
  ⟨0x45000084, [], .chip, 0x0, [⟨⟨0, 20⟩, .ro, 0, 1048575⟩]⟩,
  ⟨0x45000090, [], .por, 0x0, [⟨⟨0, 32⟩, .ro, 0, 4294967295⟩]⟩,
  ⟨0x45000094, [], .por, 0x0, [⟨⟨0, 32⟩, .ro, 0, 4294967295⟩]⟩,
  ⟨0x45000100, [], .chip, 0x0, [⟨⟨31, 1⟩, .w1p, 0, 1⟩, ⟨⟨28, 2⟩, .rw, 0, 3⟩, ⟨⟨20, 8⟩, .rw, 0, 240⟩, ⟨⟨0, 10⟩, .rw, 0, 1023⟩]⟩,
  ⟨0x45000104, [], .chip, 0x0, [⟨⟨31, 1⟩, .ro, 0, 1⟩, ⟨⟨30, 1⟩, .w1c, 0, 1⟩, ⟨⟨27, 3⟩, .ro, 0, 7⟩, ⟨⟨0, 8⟩, .ro, 0, 255⟩]⟩]

/-- Register entries, part 11. -/
def regTable11 : List RegSpec := [
  ⟨0x45000108, [], .chip, 0x0, [⟨⟨27, 5⟩, .ro, 0, 31⟩, ⟨⟨18, 9⟩, .ro, 0, 511⟩, ⟨⟨9, 9⟩, .ro, 0, 511⟩]⟩,
  ⟨0x4500010c, [], .chip, 0x0, [⟨⟨0, 32⟩, .ro, 0, 4294967295⟩]⟩,
  ⟨0x45000200, [(0x4, 60)], .chip, 0x0, [⟨⟨0, 32⟩, .rw, 0, 4294967295⟩]⟩,
  ⟨0x45000300, [], .chip, 0x0, [⟨⟨31, 1⟩, .w1p, 0, 1⟩, ⟨⟨28, 2⟩, .rw, 0, 2⟩, ⟨⟨0, 1⟩, .rw, 0, 1⟩]⟩,
  ⟨0x45000304, [], .chip, 0x0, [⟨⟨0, 32⟩, .rw, 0, 4294967295⟩]⟩,
  ⟨0x45000308, [], .chip, 0x0, [⟨⟨0, 16⟩, .rw, 0, 65535⟩]⟩,
  ⟨0x4500030c, [], .chip, 0x0, [⟨⟨0, 24⟩, .rw, 0, 16777215⟩]⟩,
  ⟨0x45000310, [], .chip, 0x0, [⟨⟨31, 1⟩, .ro, 0, 1⟩, ⟨⟨30, 1⟩, .w1c, 0, 1⟩, ⟨⟨27, 3⟩, .ro, 0, 7⟩, ⟨⟨24, 3⟩, .ro, 0, 7⟩, ⟨⟨16, 4⟩, .ro, 0, 15⟩, ⟨⟨0, 6⟩, .ro, 0, 63⟩]⟩,
  ⟨0x45000320, [], .chip, 0x0, [⟨⟨16, 7⟩, .ro, 0, 127⟩, ⟨⟨8, 7⟩, .ro, 0, 127⟩, ⟨⟨3, 2⟩, .ro, 0, 3⟩, ⟨⟨1, 2⟩, .ro, 0, 3⟩, ⟨⟨0, 1⟩, .ro, 0, 1⟩]⟩,
  ⟨0x45000324, [(0x4, 2)], .chip, 0x0, [⟨⟨0, 32⟩, .ro, 0, 4294967295⟩]⟩,
  ⟨0x46000000, [], .por, 0x3, [⟨⟨16, 16⟩, .gh, 0, 65535⟩, ⟨⟨1, 1⟩, .gh, 0, 1⟩, ⟨⟨0, 1⟩, .gh, 0, 1⟩]⟩,
  ⟨0x46000004, [], .por, 0x0, [⟨⟨31, 1⟩, .gh, 0, 1⟩, ⟨⟨0, 16⟩, .gh, 0, 65535⟩]⟩,
  ⟨0x46000010, [(0x4, 4)], .por, 0x0, [⟨⟨31, 1⟩, .gh, 0, 1⟩, ⟨⟨30, 1⟩, .gh, 0, 1⟩, ⟨⟨29, 1⟩, .gh, 0, 1⟩, ⟨⟨28, 1⟩, .gh, 0, 1⟩, ⟨⟨27, 1⟩, .gh, 0, 1⟩, ⟨⟨0, 16⟩, .gh, 0, 65535⟩]⟩,
  ⟨0x46000020, [(0x4, 4)], .por, 0xffff, [⟨⟨16, 16⟩, .gh, 0, 65535⟩, ⟨⟨0, 16⟩, .gh, 0, 65535⟩]⟩,
  ⟨0x46000030, [], .por, 0x0, [⟨⟨16, 1⟩, .gh, 0, 1⟩, ⟨⟨8, 6⟩, .rc, 0, 63⟩, ⟨⟨0, 6⟩, .gh, 0, 63⟩]⟩,
  ⟨0x46000034, [], .por, 0x0, [⟨⟨8, 8⟩, .gh, 0, 255⟩, ⟨⟨0, 8⟩, .gh, 0, 255⟩]⟩,
  ⟨0x46000040, [(0x4, 2)], .por, 0x0, [⟨⟨0, 32⟩, .gh, 0, 4294967295⟩]⟩,
  ⟨0x46000048, [(0x4, 2)], .por, 0x0, [⟨⟨0, 32⟩, .gh, 0, 4294967295⟩]⟩,
  ⟨0x46000050, [], .por, 0x0, [⟨⟨0, 16⟩, .gh, 0, 65535⟩]⟩,
  ⟨0x46000060, [], .por, 0x1, [⟨⟨0, 8⟩, .gh, 0, 255⟩]⟩]

/-- Register entries, part 12. -/
def regTable12 : List RegSpec := [
  ⟨0x46000070, [(0x4, 8)], .por, 0x0, [⟨⟨31, 1⟩, .rc, 0, 1⟩]⟩,
  ⟨0x46000100, [], .por, 0x0, [⟨⟨16, 5⟩, .gh, 0, 31⟩, ⟨⟨8, 8⟩, .gh, 0, 255⟩, ⟨⟨0, 7⟩, .gh, 0, 127⟩]⟩,
  ⟨0x46000104, [], .por, 0x0, [⟨⟨0, 32⟩, .gh, 0, 4294967295⟩]⟩,
  ⟨0x46000200, [(0x4, 64)], .por, 0x0, [⟨⟨31, 1⟩, .gh, 0, 1⟩, ⟨⟨24, 4⟩, .gh, 0, 15⟩, ⟨⟨0, 16⟩, .gh, 0, 65535⟩]⟩,
  ⟨0x46001000, [(0x20, 128), (0x4, 8)], .por, 0x0, [⟨⟨0, 32⟩, .gh, 0, 4294967295⟩]⟩,
  ⟨0x47000000, [(0x10, 12)], .por, 0x0, [⟨⟨0, 32⟩, .ro, 0, 4294967295⟩]⟩,
  ⟨0x47000004, [(0x10, 12)], .por, 0x0, [⟨⟨0, 32⟩, .ro, 0, 4294967295⟩]⟩,
  ⟨0x47000100, [], .por, 0x0, [⟨⟨0, 32⟩, .rw, 0, 4294967295⟩]⟩,
  ⟨0x47000104, [], .por, 0x0, [⟨⟨0, 32⟩, .rw, 0, 4294967295⟩]⟩,
  ⟨0x47000108, [], .por, 0x0, [⟨⟨0, 1⟩, .ro, 0, 1⟩]⟩,
  ⟨0x47000200, [(0x10, 8)], .core, 0x0, [⟨⟨0, 32⟩, .rw, 0, 4294967295⟩]⟩,
  ⟨0x47000204, [(0x10, 8)], .core, 0x0, [⟨⟨0, 32⟩, .rw, 0, 4294967295⟩]⟩,
  ⟨0x47000208, [(0x10, 8)], .core, 0x0, [⟨⟨1, 1⟩, .ro, 0, 1⟩, ⟨⟨0, 1⟩, .rw, 0, 1⟩]⟩,
  ⟨0x47100000, [], .por, 0x0, [⟨⟨31, 1⟩, .ro, 0, 1⟩, ⟨⟨30, 1⟩, .ro, 0, 1⟩, ⟨⟨29, 1⟩, .ro, 0, 1⟩, ⟨⟨24, 2⟩, .ro, 0, 3⟩, ⟨⟨0, 11⟩, .ro, 0, 2047⟩]⟩,
  ⟨0x47100004, [], .por, 0x0, [⟨⟨0, 32⟩, .ro, 0, 4294967295⟩]⟩,
  ⟨0x47100008, [], .por, 0x0, [⟨⟨0, 32⟩, .ro, 0, 4294967295⟩]⟩,
  ⟨0x4710000c, [], .por, 0x0, [⟨⟨0, 32⟩, .ro, 0, 4294967295⟩]⟩,
  ⟨0x47100010, [], .por, 0x0, [⟨⟨0, 6⟩, .ro, 0, 63⟩]⟩,
  ⟨0x47100020, [], .por, 0x0, [⟨⟨0, 1⟩, .w1p, 0, 1⟩]⟩,
  ⟨0x47102000, [(0x20, 8)], .por, 0x7fffffff, [⟨⟨0, 32⟩, .ro, 0, 4294967295⟩]⟩]

/-- Register entries, part 13. -/
def regTable13 : List RegSpec := [
  ⟨0x47102004, [(0x20, 8)], .por, 0x80000000, [⟨⟨0, 32⟩, .ro, 0, 4294967295⟩]⟩,
  ⟨0x47102008, [(0x20, 8), (0x4, 4)], .por, 0x0, [⟨⟨0, 32⟩, .ro, 0, 4294967295⟩]⟩,
  ⟨0x47104010, [(0x20, 512)], .por, 0x0, [⟨⟨0, 32⟩, .ro, 0, 4294967295⟩]⟩,
  ⟨0x47108000, [(0x10, 32)], .por, 0x0, [⟨⟨0, 32⟩, .rw, 0, 4294967295⟩]⟩,
  ⟨0x48000000, [], .por, 0x0, [⟨⟨0, 1⟩, .ro, 0, 1⟩]⟩,
  ⟨0x48000004, [], .chip, 0x0, [⟨⟨6, 2⟩, .ro, 0, 3⟩, ⟨⟨5, 1⟩, .ro, 0, 1⟩, ⟨⟨4, 1⟩, .ro, 0, 1⟩, ⟨⟨0, 2⟩, .ro, 0, 3⟩]⟩,
  ⟨0x48000010, [(0x4, 4)], .por, 0x0, [⟨⟨0, 32⟩, .ro, 0, 4294967295⟩]⟩,
  ⟨0x48000040, [], .por, 0x0, [⟨⟨31, 1⟩, .ro, 0, 1⟩, ⟨⟨28, 3⟩, .ro, 0, 7⟩, ⟨⟨0, 5⟩, .ro, 0, 31⟩]⟩,
  ⟨0x48000044, [], .por, 0x0, [⟨⟨0, 1⟩, .w1p, 0, 1⟩]⟩,
  ⟨0x48000080, [], .chip, 0x0, [⟨⟨31, 1⟩, .ro, 0, 1⟩, ⟨⟨0, 7⟩, .ro, 0, 127⟩]⟩,
  ⟨0x48000100, [], .chip, 0x0, [⟨⟨0, 32⟩, .rw, 0, 4294967295⟩]⟩,
  ⟨0x48000104, [], .chip, 0x0, [⟨⟨0, 16⟩, .rw, 0, 65535⟩]⟩,
  ⟨0x48000108, [], .chip, 0x0, [⟨⟨31, 1⟩, .w1p, 0, 1⟩, ⟨⟨30, 1⟩, .ro, 0, 1⟩, ⟨⟨28, 2⟩, .ro, 0, 3⟩]⟩,
  ⟨0x4800010c, [], .chip, 0x0, [⟨⟨0, 32⟩, .ro, 0, 4294967295⟩]⟩,
  ⟨0x48000200, [(0x4, 16)], .chip, 0x0, [⟨⟨0, 32⟩, .rw, 0, 4294967295⟩]⟩,
  ⟨0x48000240, [], .chip, 0x6, [⟨⟨31, 1⟩, .w1p, 0, 1⟩, ⟨⟨0, 3⟩, .rw, 0, 7⟩]⟩,
  ⟨0x48000300, [(0x4, 8)], .chip, 0x0, [⟨⟨0, 32⟩, .rw, 0, 4294967295⟩]⟩,
  ⟨0x48000320, [(0x4, 16)], .chip, 0x0, [⟨⟨0, 32⟩, .rw, 0, 4294967295⟩]⟩,
  ⟨0x48000360, [], .chip, 0x0, [⟨⟨31, 1⟩, .w1p, 0, 1⟩, ⟨⟨30, 1⟩, .ro, 0, 1⟩, ⟨⟨28, 2⟩, .ro, 0, 3⟩]⟩,
  ⟨0x48001000, [(0x40, 8), (0x4, 16)], .chip, 0x0, [⟨⟨0, 32⟩, .ro, 0, 4294967295⟩]⟩]

/-- Register entries, part 14. -/
def regTable14 : List RegSpec := [
  ⟨0x48002000, [(0x60, 64), (0x4, 20)], .chip, 0x0, [⟨⟨0, 32⟩, .ro, 0, 4294967295⟩]⟩,
  ⟨0x49000004, [], .chip, 0x0, [⟨⟨0, 32⟩, .ro, 0, 4294967295⟩]⟩,
  ⟨0x49000008, [], .chip, 0x0, [⟨⟨0, 32⟩, .ro, 0, 4294967295⟩]⟩,
  ⟨0x49000010, [], .por, 0x1, [⟨⟨3, 1⟩, .w1c, 0, 1⟩, ⟨⟨2, 1⟩, .w1c, 0, 1⟩, ⟨⟨1, 1⟩, .w1c, 0, 1⟩, ⟨⟨0, 1⟩, .w1c, 0, 1⟩]⟩,
  ⟨0x49000014, [], .chip, 0x0, [⟨⟨31, 1⟩, .rw, 0, 1⟩, ⟨⟨30, 1⟩, .ro, 0, 1⟩, ⟨⟨20, 2⟩, .ro, 0, 3⟩, ⟨⟨0, 3⟩, .ro, 0, 7⟩]⟩,
  ⟨0x49000018, [], .chip, 0x0, [⟨⟨31, 1⟩, .w1p, 0, 1⟩, ⟨⟨0, 16⟩, .rw, 0, 65535⟩]⟩,
  ⟨0x49000020, [], .chip, 0x0, [⟨⟨31, 1⟩, .w1p, 0, 1⟩, ⟨⟨30, 1⟩, .rw, 0, 1⟩, ⟨⟨0, 7⟩, .rw, 0, 105⟩]⟩,
  ⟨0x49000024, [], .chip, 0x0, [⟨⟨31, 1⟩, .ro, 0, 1⟩, ⟨⟨30, 1⟩, .w1c, 0, 1⟩, ⟨⟨28, 2⟩, .ro, 0, 3⟩, ⟨⟨0, 7⟩, .ro, 0, 127⟩]⟩,
  ⟨0x49000030, [(0x4, 4)], .chip, 0x0, [⟨⟨0, 32⟩, .ro, 0, 4294967295⟩]⟩,
  ⟨0x49000040, [], .chip, 0x0, [⟨⟨31, 1⟩, .w1p, 0, 1⟩, ⟨⟨0, 6⟩, .rw, 0, 63⟩]⟩,
  ⟨0x49000044, [(0x4, 2)], .chip, 0x0, [⟨⟨0, 32⟩, .ro, 0, 4294967295⟩]⟩,
  ⟨0x4900004c, [], .chip, 0x0, [⟨⟨30, 2⟩, .ro, 0, 3⟩, ⟨⟨0, 6⟩, .ro, 0, 63⟩]⟩,
  ⟨0x49000050, [], .chip, 0x0, [⟨⟨31, 1⟩, .w1p, 0, 1⟩, ⟨⟨0, 8⟩, .rw, 0, 255⟩]⟩,
  ⟨0x49000060, [], .chip, 0x0, [⟨⟨2, 1⟩, .ro, 0, 1⟩, ⟨⟨0, 2⟩, .ro, 0, 3⟩]⟩,
  ⟨0x49010000, [], .chip, 0x0, [⟨⟨0, 2⟩, .rw, 0, 3⟩]⟩,
  ⟨0x49010004, [], .chip, 0x0, [⟨⟨31, 1⟩, .ro, 0, 1⟩, ⟨⟨30, 1⟩, .w1c, 0, 1⟩, ⟨⟨3, 1⟩, .ro, 0, 1⟩, ⟨⟨0, 2⟩, .ro, 0, 3⟩]⟩,
  ⟨0x49010008, [], .chip, 0x0, [⟨⟨4, 2⟩, .ro, 0, 3⟩, ⟨⟨0, 2⟩, .ro, 0, 3⟩]⟩,
  ⟨0x49020000, [], .chip, 0x0, [⟨⟨31, 1⟩, .ro, 0, 1⟩, ⟨⟨30, 1⟩, .ro, 0, 1⟩, ⟨⟨29, 1⟩, .ro, 0, 1⟩]⟩,
  ⟨0x49020004, [], .chip, 0x0, [⟨⟨16, 16⟩, .ro, 0, 65535⟩, ⟨⟨0, 16⟩, .ro, 0, 65535⟩]⟩,
  ⟨0x49020008, [], .chip, 0x0, [⟨⟨0, 32⟩, .ro, 0, 4294967295⟩]⟩]

/-- Register entries, part 15. -/
def regTable15 : List RegSpec := [
  ⟨0x4902000c, [], .chip, 0x0, [⟨⟨0, 32⟩, .ro, 0, 4294967295⟩]⟩,
  ⟨0x49020010, [], .chip, 0xff00, [⟨⟨31, 1⟩, .w1p, 0, 1⟩, ⟨⟨29, 2⟩, .ro, 0, 3⟩, ⟨⟨8, 8⟩, .rw, 0, 255⟩, ⟨⟨0, 3⟩, .rw, 0, 4⟩]⟩,
  ⟨0x49020014, [], .chip, 0x0, [⟨⟨29, 3⟩, .ro, 0, 7⟩, ⟨⟨10, 10⟩, .ro, 0, 1023⟩, ⟨⟨0, 10⟩, .ro, 0, 1023⟩]⟩]

/-- Every 32-bit register entry of the spec. -/
def regTable : List RegSpec :=
  regTable0 ++ regTable1 ++ regTable2 ++ regTable3 ++ regTable4 ++ regTable5 ++ regTable6 ++ regTable7 ++ regTable8 ++ regTable9 ++ regTable10 ++ regTable11 ++ regTable12 ++ regTable13 ++ regTable14 ++ regTable15

/-- Every counter of two words: base, strides, reset domain and the width of the count. -/
def ctrTable : List (RegSpec × Nat) := [
  (⟨0x40001118, [(0x40000, 64), (0x20, 4)], .actpwr, 0, []⟩, 48),
  (⟨0x40003000, [(0x40000, 64), (0x8, 64)], .actpwr, 0, []⟩, 48),
  (⟨0x40009000, [(0x40000, 64), (0x8, 32)], .actpwr, 0, []⟩, 48),
  (⟨0x42005000, [(0x80, 8), (0x8, 16)], .chip, 0, []⟩, 64),
  (⟨0x42006100, [(0x8, 12)], .chip, 0, []⟩, 64),
  (⟨0x43001000, [(0x8, 10)], .chip, 0, []⟩, 64),
  (⟨0x46000110, [(0x8, 5)], .por, 0, []⟩, 48),
  (⟨0x47101000, [(0x80, 6), (0x8, 16)], .por, 0, []⟩, 48),
  (⟨0x47104000, [(0x20, 512)], .por, 0, []⟩, 48),
  (⟨0x47104008, [(0x20, 512)], .por, 0, []⟩, 64),
  (⟨0x47108004, [(0x10, 32)], .por, 0, []⟩, 48),
  (⟨0x40006200, [(0x8, 8)], .chip, 0, []⟩, 48)]

end Sys2Proof.Machine
end

