-- ==== Sys2Proof/Machine/State.lean ====
section
/-! DEFINITION. The state of the controller as plain data, its reset value, and the ways a step can stop.
Registers and two-word counters are kept by internal address (R4) in sparse tables, in which an unlisted register reads its
reset value; everything the spec gives the machine besides registers has a field of its own. -/

namespace Sys2Proof.Machine

/-- One place of a Kiosk queue: a word, or a sender-reset marker with the number of sender resets it stands for (R369). -/
inductive KItem where
  | word (w : W32)
  | marker (n : Nat)
  deriving DecidableEq, Repr

/-- A reply that waits until the receiver's queue has room for all of it (R374, R449): the channel, the end that
receives it, and its words. -/
structure HeldReply where
  chan  : Nat
  toEnd : Nat
  words : List W32
  deriving DecidableEq, Repr

/-- A message that waits for the earlier ones of its channel (R374): its words, what its row says the receiver reads, and whether its sender has been reset
since. -/
structure HeldMsg where
  chan  : Nat
  op    : Nat
  seq   : Nat
  words : List W32
  arg   : Nat := 0
  dead  : Bool := false
  deriving DecidableEq, Repr

/-- A message that its receiver is assembling (R372, R373): whether one is, its OP and SEQ, the payload words still to come of the present
fragment, whether another fragment follows, the fragments so far, whether a field or fragment was bad, and the payload words so far. -/
structure MsgAsm where
  on    : Bool := false
  op    : Nat := 0
  seq   : Nat := 0
  need  : Nat := 0
  more  : Bool := false
  frags : Nat := 0
  bad   : Bool := false
  words : List W32 := []
  deriving DecidableEq, Repr

/-- A Stile lock (R379, R380). -/
structure LockSt where
  held   : Bool := false
  broken : Bool := false
  owner  : Nat := 0
  deriving DecidableEq, Repr

/-- A retract driven by the Gatehouse (R430–R434). `isolate`: an Actuator-class cause makes it end in ISOLATED (R427).
`tried`: the downstream lanes the command has been sent on. `lastRead`: the last value read from register 0xF08,
0xFFFF when none was read (R444). `powerLoss`: it belongs to a power-loss brake (R435). -/
structure Retract where
  active    : Bool := false
  isolate   : Bool := false
  tried     : List Nat := []
  acked     : Bool := false
  lastRead  : Nat := 0xFFFF
  powerLoss : Bool := false
  reset     : Bool := false
  deriving DecidableEq, Repr

/-- A Gatehouse request that is answered when retracts or an actuator reset end (R443, R451): the core's channel, the
sequence number of the request, the operation, and the named actuators. -/
structure GhWait where
  core : Nat
  seq  : Nat
  op   : Nat
  acts : List Nat
  deriving DecidableEq, Repr

/-- What the Lodge remembers of one pair of event code and source (R445): the time of its last Data or Notice record and
the occurrences not recorded since. -/
structure LodgeRate where
  written : Bool := false
  last    : Nat := 0
  missed  : Nat := 0
  deriving DecidableEq, Repr

/-- The phases of a chip reset (R453): none; the Gatehouse steps run (`release`: the reset ends as soon as they do);
the internal reset is held. -/
inductive RstPhase where
  | run
  | steps (release : Bool)
  | held
  deriving DecidableEq, Repr

/-- One capture of the Icehouse (R468, R469): the time, the reason, FIRST, the epoch offset and ORIGIN, the clear count,
the bins, the extremes (MIN, MAX, times), SAT, the event entries as (index, interval, last time), and SKIPPED. -/
structure IceCapture where
  time     : Nat
  reason   : Nat
  first    : Bool
  epoch    : Nat
  origin   : Bool
  clears   : Nat
  bins     : List Nat
  extremes : List (Nat × Nat × Nat × Nat)
  sat      : Nat
  events   : List (Nat × Nat × Nat)
  skipped  : Nat
  deriving DecidableEq, Repr

/-- A calibration item that is being moved to its target one tap per step (R514): class, item index, target. -/
structure CalMove where
  cls    : Nat
  item   : Nat
  target : Int
  deriving DecidableEq, Repr

/-- Power, clocks and resets (spec/15_bring_up.md). -/
structure PlatSt where
  /-- Power domains that are on, by number (R497); unlisted off. -/
  doms : List (Nat × Bool) := []
  /-- Cores that have requested their own switch-off and not yet entered their wait state (R497). -/
  coreOffReq : List (Nat × Bool) := []
  /-- The domain being switched on by a request, until it is up (R497). -/
  domPend : Option Nat := none
  /-- Phase of a chip reset (R453) and whether PERST# is asserted (R371). -/
  rst : RstPhase := .run
  perst : Bool := false
  /-- Actuator resets in progress, by actuator; true when performed under RECOVER (R504, R443). -/
  actRst : List (Nat × Bool) := []
  /-- The Gatehouse supply is below 0.72 V (R438). -/
  ghDown : Bool := false
  /-- Forced short brakes that are imposed again after the internal reset: HDA, state and cause (R47). -/
  brakeKeep : List (Nat × Nat × Nat) := []
  deriving DecidableEq, Repr

/-- The Gatehouse and the Lodge (spec/12_gatehouse.md). -/
structure GhSt where
  /-- Retracts by actuator (R430). -/
  retracts : List (Nat × Retract) := []
  /-- Times of the Actuator-class faults of each actuator within the last 24 h (R443). -/
  faultTimes : List (Nat × List Nat) := []
  /-- Requests answered later (R443, R451). -/
  waits : List GhWait := []
  /-- Rate limits by 256·code + source, the running second, and its Data and Notice records (R445). -/
  rate : List (Nat × LodgeRate) := []
  sec : Nat := 0
  secCount : Nat := 0
  /-- Ring positions of kept Grave records (R446). -/
  kept : List Nat := []
  /-- Chopper tests in progress by rail: the requests that wait, as core and sequence number (R437). -/
  chopTest : List (Nat × List (Nat × Nat)) := []
  /-- The thermal condition is detected (R439). -/
  thermal : Bool := false
  /-- Supplies whose present excursion has reached 100 µs, by bit (R438). -/
  supplyOut : List (Nat × Bool) := []
  /-- Records that resident firmware has still to copy into the parameter area, oldest first, and the copies made (R447). -/
  copies : List (List Byte) := []
  copyNo : Nat := 0
  deriving DecidableEq, Repr

/-- The Sundial (spec/13_sundial_icehouse.md). -/
structure SdlSt where
  /-- The counter, nanoseconds from power-on, 64 bits (R458). -/
  now : Nat := 0
  /-- The held high words of the epoch offset and of each core's compare value (R460, R461). -/
  epochHi : W32 := 0
  cmpHi : List (Nat × W32) := []
  deriving DecidableEq, Repr

/-- The Icehouse besides its registers (spec/13_sundial_icehouse.md). -/
structure IceSt where
  /-- Capture buffers, oldest first (R472). -/
  bufs : List IceCapture := []
  /-- No capture has been made since power-on (FIRST of R469). -/
  first : Bool := true
  /-- Verified clear tokens not used yet, each with the channel and sequence number of its message (R475). -/
  tokens : List (Nat × Nat) := []
  /-- A clear is erasing, and the sector it erases next (R476). -/
  erase : Option Nat := none
  /-- The sector of the ring that was erased for the head that stands at its first slot (R471). -/
  ready : Option Nat := none
  /-- The captures whose moment has come and that are not taken yet, by REASON (R468). -/
  due : List Nat := []
  deriving DecidableEq, Repr

/-- Calibration (R513–R515). -/
structure CalSt where
  /-- Present taps by 4096·class + item, as the distance from the default of R514. -/
  tap : List (Nat × Int) := []
  /-- Accepted values in force, as the distance from the default (R513, R515). -/
  vals : List (Nat × Int) := []
  moves : List CalMove := []
  /-- The run in progress: class and index. -/
  run : Option (Nat × Nat) := none
  deriving DecidableEq, Repr





/-- A spindle besides its registers (spec/02_spindles.md). -/
structure Spindle where
  /-- An admitted start is in progress: the spindle counts as accelerating (R70). -/
  accel : Bool := false
  /-- Failed handovers of the start in progress (R54). -/
  attempts : Nat := 0
  /-- The speed set-point in 1/65,536 rpm (R55). -/
  setpoint : Nat := 0
  /-- The commutation step applied, 1–6, and whether the next one is due after a crossing (R42, R45). -/
  step : Nat := 0
  stepDue : Bool := false
  /-- The ramp has ended and the handover condition is looked for; consecutive valid forward crossings (R54). -/
  looking : Bool := false
  crossings : Nat := 0
  /-- Crossings since the last revolution was counted, consecutive revolutions within 0.1 % of the target, and whether the speed has been
  within it for the whole of the present revolution so far (R48). -/
  revCross : Nat := 0
  revRun : Nat := 0
  revOk : Bool := false
  /-- Times in ticks of 10 ns: of the step applied, the duration of the step before it, the last valid crossing and whether it lies in the
  step applied, the crossings before it, newest first (R43–R45, R58), and the start of the open-loop ramp (R53). -/
  stepAt : Nat := 0
  prevDur : Nat := 0
  xAt : Nat := 0
  xSeen : Bool := false
  xs : List Nat := []
  rampAt : Nat := 0
  /-- In SHORT_BRAKED: the sign of the U-phase current, and the time of its last change (R58). -/
  signPos : Option Bool := none
  signAt : Option Nat := none
  /-- The reported currents before the last ones: I(n−2) of phases U and V (R65). -/
  prevU : Int := 0
  prevV : Int := 0
  /-- The run of skips and whether 0x500C has been emitted for it, the mode in effect, what remains of a shift group, whether the group is
  handled by skip-and-predict, and the carried on-time, ns (R64–R66). -/
  skips : Nat := 0
  skipTold : Bool := false
  mode : Nat := 0
  group : List Nat := []
  groupSkip : Bool := false
  carry : Nat := 0
  /-- The on-time that the regulator at the current limit commands in ALIGNING and RAMP, ns (R53). -/
  limOn : Nat := 0
  /-- The commanded duty: magnitude in 1/65,536, and whether it is negative (R57–R59). -/
  duty : Nat := 0
  neg : Bool := false
  deriving DecidableEq, Repr

/-- A loop slot of a servo engine (R84, R96, R109). `pend`: the opens (none) and closes (their CLOSE_MODE) that wait for the next computation
start, in order. `bq`: the biquads' last two inputs and outputs. `ref0`, `refCmd`, `refN`:
the soft start from r0 to r_cmd, and the wedges of it that have passed; `refPend`: r0 is the position measured in the coming wedge. `fade0`, `fadeN`: the output at a departure from the stripe
and the wedges of its soft start to 0 (R126). `clamps`: consecutive clamped wedges. -/
structure LoopSt where
  isOpen : Bool := false
  pend : List (Option Nat) := []
  bq : List (Int × Int × Int × Int) := []
  integ : Int := 0
  out : Int := 0
  ref0 : Int := 0
  refCmd : Int := 0
  refN : Nat := 0
  refPend : Bool := false
  clamps : Nat := 0
  fade0 : Int := 0
  fadeN : Nat := 0
  deriving DecidableEq, Repr

/-- A planned seek (R116–R119): from `start` (tracks × 65,536) to the target cylinder in `n` wedges, of which `k` have been given, with
the profile's V_MAX, A_MAX and J; `pos`, `vel` and `acc` are the present set-point, its velocity and its acceleration, per wedge; `replan`: it
was accepted in SEEK while the set-point moved, and has not reached its target. -/
structure Traj where
  start : Int := 0
  pos : Int := 0
  vel : Int := 0
  acc : Int := 0
  target : Nat := 0
  vMax : Nat := 0
  aMax : Nat := 0
  j : Nat := 0
  n : Nat := 0
  k : Nat := 0
  replan : Bool := false
  deriving DecidableEq, Repr

/-- An actuator's servo besides its registers (spec/03_servo.md). Lists have one entry for each active head slot. -/
structure ActSt where
  /-- The fence's permission by head slot (R123), why it is lacking (R542), and the head slots whose servo frame of the coming wedge was not intact (R138). -/
  fence : Nat := 0
  offCause : List Nat := []
  frameMiss : Nat := 0
  /-- The stripe in force and the stripe of the last seek: valid mask and heads (R119). -/
  stripe : Nat := 0
  heads : List Nat := []
  nextStripe : Nat := 0
  nextHeads : List Nat := []
  /-- The target cylinder, and the profile of the last LOAD or seek (R112). -/
  target : Nat := 0
  profile : Nat := 0
  traj : Traj := {}
  /-- A seek request has not given its first set-point (R114). -/
  seekNew : Bool := false
  /-- Whether the last accepted seek came from the sequencer, and wedges since its acceptance until it settles (R114, R465). -/
  seekSeq : Bool := false
  seekWedges : Option Nat := none
  /-- Positions of the last two wedges and the last error, by head slot (R89, R123). -/
  y1 : List Int := []
  y2 : List Int := []
  e1 : List Int := []
  /-- Runs: read settle, write settle, misses, rejoin, and wedges since the entry to SETTLE (R120–R127). -/
  readRun : Nat := 0
  wRun : List Nat := []
  missRun : List Nat := []
  rejoin : List (Option Nat) := []
  settleWedges : Nat := 0
  settleTold : Bool := false
  /-- By head number: consecutive revolutions in which the head left the stripe, and whether it left in this one (R128); whether it still owes the
  rejoin run of a departure. The head slots that have left since the last wedge (R127). -/
  outRevs : List Nat := []
  outNow : List Bool := []
  owes : List Bool := []
  leftNow : Nat := 0
  /-- Wedges of VCM clamping, open wedges, wedges missed by every head, sync wedges in LOADING (R90, R101, R107, R111). -/
  vcmClamps : Nat := 0
  openRun : Nat := 0
  lostRun : Nat := 0
  syncRun : Nat := 0
  deriving DecidableEq, Repr

/-- The wedge timer of an HDA (R91): by local actuator, consecutive wedges in which it was loaded and read the mark in the window; consecutive
wedges in which none did; the intervals between the last sample instants, ns, newest first, at most a revolution of them (R58); and the Sundial's time
at the last one (R239). -/
structure EngSt where
  syncRun : List Nat := []
  lossRun : Nat := 0
  ivals : List Nat := []
  lastAt : Nat := 0
  deriving DecidableEq, Repr

/-- A write data block that waits (R142): the entry it belongs to, its levels and codes in bits [59:0], how many of its twelve
cells are cells of the sector, and the level of its last cell. -/
structure WBlk where
  id    : Nat
  pay   : Nat
  cells : Nat
  last  : Bool
  deriving DecidableEq, Repr

/-- A downstream lane of a link: blocks that wait to be sent, by kind, in the order of R141 (the retract writes of R430, servo
command frames, write data, register accesses), the block slots modulo 16,384 and whether ALIGN is due (R134), the block sequence of write data
(R142), the level last sent with WE = 1 (R211), the scrambler (R132), and the header and scrambled payload sent last. -/
structure DnLane where
  ret   : List Nat := []
  scmd  : List Nat := []
  wblk  : List WBlk := []
  reg   : List Nat := []
  since : Nat := 0
  align : Bool := false
  bseq  : Nat := 0
  level : Bool := false
  scr   : Nat := 0
  hdr   : Nat := 0
  sent  : Nat := 0
  deriving DecidableEq, Repr

/-- An upstream lane of a link (R132–R140, R151, R152): the FSEQ and SCNT expected next once a frame has been received, whether the last
frame was a servo frame and whether it closed its gate, the retrain attempts and the times of the losses of block lock within the last
second. -/
structure UpLane where
  synced   : Bool := false
  servo    : Bool := false
  closed   : Bool := false
  fseq     : Nat := 0
  scnt     : Nat := 0
  attempts : Nat := 0
  retrain  : Bool := false
  losses   : List Nat := []
  deriving DecidableEq, Repr

/-- Who made a front-end register access: software (R160), the rate write of ZONE (R234), the link hardware's write of the lane map and its
read of the rate in force (R155, R541), a calibration step (R514). -/
inductive FeKind where
  | soft
  | zone
  | map
  | rate
  | cal
  deriving DecidableEq, Repr

/-- A front-end register access in progress (R160–R162): its TAG, whether a write, address and data, who made it, whether it has been
repeated, and whether it is held until the write gates close (R161). -/
structure FeAcc where
  tag   : Nat := 0
  write : Bool
  addr  : Nat
  data  : Nat := 0
  kind  : FeKind
  again : Bool := false
  held  : Bool := false
  deriving DecidableEq, Repr

/-- A link besides its registers (spec/04_sloas_link.md). -/
structure LnkSt where
  /-- SCMD_SEQ of the next servo command frame (R141), consecutive wedges with STATUS.SCMD_ERR, and whether the present wedge has one (R147). -/
  scmdSeq : Nat := 0
  scmdErr : Nat := 0
  scmdNow : Bool := false
  /-- The access outstanding or held, whether the last one of ZONE ended with an error, and the next TAG (R160–R162, R431). -/
  fe : Option FeAcc := none
  feErr : Bool := false
  /-- Accesses that wait for the one outstanding to end, oldest first (R160). -/
  feNext : List FeAcc := []
  /-- RETRACTING has been reported since a STATUS block last came without it (R147). -/
  retTold : Bool := false
  tag : Nat := 0
  /-- The rate in force in the front-end (R541), MHz. -/
  rate : Nat := 3000
  /-- The lane map of front-end register 0xF00 as last written (R541). -/
  laneMap : Nat := 0xE4E4
  /-- A new mapping of head slots 0 and 1, declared and not yet in effect: UP_SLOT0, UP_SLOT1, DN_SLOT0, DN_SLOT1 in bits [1:0] up (R155, R156). -/
  remap : Option Nat := none
  /-- The link trains once the lane deskew of the actuator has been applied (R514). -/
  trainWait : Bool := false
  /-- Downstream lanes: retrain attempts and losses of block lock (R152). -/
  dnAttempts : List (Nat × Nat) := []
  dnLosses : List (Nat × List Nat) := []
  deriving DecidableEq, Repr

/-- What a head slot's chain looks for: the sync mark; codeword bits; a resync mark; nothing more of its sector (R170, R174, R177). -/
inductive ChPhase where
  | hunt | data | resync | ended
  deriving DecidableEq, Repr

/-- An input of the equaliser (R175): the interpolated value, whether its position is erased, the position of its sample in the sector, and whether
it belongs to the part of the sector that is being read. -/
structure ChIn where
  v      : Int := 0
  erased : Bool := true
  pos    : Nat := 0
  mine   : Bool := false
  deriving DecidableEq, Repr

/-- A channel bit out of the detector: its log-likelihood ratio, whether it is erased, and the position of its sample in the sector (R176). -/
structure ChBit where
  llr    : Int
  erased : Bool
  pos    : Nat
  deriving DecidableEq, Repr

/-- The chain of a head slot (R171–R177). Interpolator: the last 8 positions, newest first. Timing loop, in 1/65,536 sample: the time from the
last sample to the next output, and the frequency offset; the bits since the present preamble or resync field began, the consecutive erased
positions, whether the loop is unlocked, and whether it was when the present part began. Equaliser: its last 20 inputs, newest first, and what
the adapted taps hold below the register's resolution. Detector: the metrics of its 16 states; the last equalised values and decisions, newest
first. Sector: the bits searched for the sync mark, oldest first, and whether one has passed; the codeword's ratios so far, newest first, their
number, and the erased ones; the samples since the sector began, and those between its codeword's start and the sector's start; the sample at
which its present part began, the written cells of the part still to come, and the lengths of the later parts; the bits of a resync field, and the
phase that it returns to. -/
structure Chain where
  hist  : List (Option Int) := []
  next  : Int := 0
  freq  : Int := 0
  field : Nat := 0
  coast : Nat := 0
  unlocked : Bool := false
  wasOut : Bool := false
  eq    : List ChIn := []
  frac  : List Int := []
  metrics : List Int := []
  zs    : List Int := []
  dec   : List Bool := []
  phase : ChPhase := .ended
  bits  : List ChBit := []
  code  : List Int := []
  n     : Nat := 0
  bad   : Nat := 0
  pos   : Nat := 0
  last  : Nat := 0
  seen  : Bool := false
  part  : Nat := 0
  room  : Nat := 0
  parts : List Nat := []
  rs    : List ChBit := []
  back  : ChPhase := .hunt
  deriving DecidableEq, Repr

/-- A sector in a sector output queue (R191, R197): its entry, outcome, iterations and user bytes, and the granules still to be carried to
DRAM. -/
structure OutSec where
  id    : Nat
  oc    : Nat
  iters : Nat
  user  : List Byte
  left  : Nat := 64
  deriving DecidableEq, Repr

/-- How far a gated sector has come: in its gate queue; its gate reached; a read's codeword being filled, or complete and waiting for
or under on-the-fly decoding; retained or retrying (R183); in the sector output queue; a write's first cell sent; its outcome decided. -/
inductive FlySt where
  | queued | open | filling | coded | retained | retrying | out | sending | done
  deriving DecidableEq, Repr

/-- An entry of a sequencer's in-flight table (R247): the gate word's fields (R246), the logical index, the descriptor slot, class, task
tag, cylinder and head of its operation; `inQ`: it holds a place of its slot's gate queue; `dead`: its operation was ended by a fault
(R252). For a read: its retention slot, the ratios of its codeword and the erased positions, and what has gone wrong. For a write: whether it has been fetched, its scrambled
information bits, whether it is poisoned, whether its codeword is complete, the cells sent with WE = 1 and the blocks not yet sent, the parts that
wait for their data segments with SRV_WEDGE_COUNT at the start of the last one (R209), the gap cells that the stream before it left for
its first block and those that its own leaves to the next sector, none where no stream runs on (R210), whether permission was withdrawn or denied, whether it is cut, the first cause (R542) and SRV_WEDGE_COUNT then (R219), and whether its
head slot was out of the stripe at its decision instant (R240). `taken`: its outcome word has been removed while it still holds its queue place
(R247). `word`: the outcome word. -/
structure FlyEnt where
  id      : Nat
  slot    : Nat
  mode    : Nat
  reread  : Nat
  sector  : Nat
  k       : Nat
  op      : Nat
  cls     : Nat
  tag     : Nat
  cyl     : Nat
  head    : Nat
  base    : Nat
  st      : FlySt := .queued
  inQ     : Bool := true
  dead    : Bool := false
  pool    : Option Nat := none
  code    : List Int := []
  erased  : Nat := 0
  unheld  : Bool := false
  syncMiss : Bool := false
  forced  : Bool := false
  fetched : Bool := false
  info    : List Byte := []
  poison  : Bool := false
  ready   : Bool := false
  cells   : Nat := 0
  left    : Nat := 0
  rest    : List (List WBlk) := []
  partAt  : Nat := 0
  lead    : Option Nat := none
  gap     : Option Nat := none
  off     : Bool := false
  cut     : Bool := false
  cause   : Nat := 0
  wedge   : Nat := 0
  outAt   : Bool := false
  taken   : Bool := false
  word    : W32 := 0
  deriving DecidableEq, Repr

/-- An operation of a sequencer (R236, R238, R242): its descriptor slot and class, whether it has run, and whether it is cancelled. Its progress
(descriptor words 8 to 11, R251): whether the sectors to gate have been listed; those to gate in this revolution and after it, by logical index
and re-read count (R240); those gated whose outcome has not been collected, by in-flight entry; the outcome words to report, by logical index
(R241); the revolutions it has had; SRV_WEDGE_COUNT at the first gate of the segment (R239); and the SECTOR records posted. -/
structure SeqOp where
  slot   : Nat
  cls    : Nat
  ran    : Bool := false
  cancel : Bool := false
  made   : Bool := false
  todo   : List (Nat × Nat) := []
  again  : List (Nat × Nat) := []
  out    : List (Nat × Nat × Nat) := []
  exc    : List (Nat × W32) := []
  gated  : Bool := false
  revs   : Nat := 0
  seg    : Option Nat := none
  posted : Nat := 0
  deriving DecidableEq, Repr

/-- Where the resident microcode stands in the running operation (R239, R241, R253): choosing one; its SEEK requested; the settle awaited; the
zone set; gating; inside the Allotment; the unsettled sectors of an operation that ends with a DONE status being reported; and its records posted. -/
inductive ResPhase where
  | dispatch | seek | settle | zone | gate | allot
  | finish (status : Nat)
  | records (status : Nat)
  deriving DecidableEq, Repr

/-- What occupies a sequencer besides executing words (R230): nothing; a WAIT with its event, argument, destination and the SEQ_CYCLES
and SRV_WEDGE_COUNT at its start; a GATE or POST that finds its queue full; a ZONE with its destination and cylinder, and whether its
rate write has begun. -/
inductive SeqBlock where
  | none
  | wait (ev arg dst cyc wedge : Nat)
  | gate (word : W32) (k : Nat)
  | post (typ : Nat) (w1 : W32) (field : Nat)
  | zone (dst cyl : Nat) (sent : Bool)
  deriving DecidableEq, Repr

/-- The track sequencer of an actuator besides its registers (spec/07_track_sequencers.md). -/
structure SeqSt where
  /-- General registers by number, call stack (top first), ports TMO, FMT_SEC and FMT_FIRSTW, the zone of the format unit. -/
  g : List (Nat × W32) := []
  stack : List Nat := []
  tmo : Nat := 20000
  fmtSec : W32 := 0
  fmtFirstW : W32 := 0
  zone : Option Nat := none
  block : SeqBlock := .none
  /-- In-flight table, outcome words by entry in order of decision (R250), and the next entry number. -/
  fly : List FlyEnt := []
  outq : List Nat := []
  nextId : Nat := 0
  /-- Operations queued, suspended and running in order of posting; result queue. -/
  ops : List SeqOp := []
  res : List (W32 × W32) := []
  /-- The last SEEK: refused, replaced (R232). -/
  seekRefused : Bool := false
  seekReplaced : Bool := false
  /-- Inside the Allotment: the depth of the call stack at its entry, and wedges since the entry or the last YIELD (R253, R255). -/
  allot : Option Nat := none
  wdog : Nat := 0
  /-- The address of the next word, and g1 at the last return from the Allotment (R253). -/
  npc : Nat := 0
  allotCode : Nat := 0
  /-- The store's image, none for the image shipped, and its Allotment entry points (R253, R257); where its resident microcode stands. -/
  img : Option (List W32) := none
  entries : List Nat := []
  phase : ResPhase := .dispatch
  deriving DecidableEq, Repr

/-- A slot of the retention pool (R183): its state (0 FREE, 1 CAPTURE, 2 PENDING, 3 RETAINED, 4 RETRYING), the sector it holds, its class,
its place in the order of failure (R189), the plan taken at dispatch, from the attempt that runs on: target, passes and iterations (R190),
whether an attempt converged (R191), the captured samples, none where erased, the sample of the sector with which they begin and the one with
which they end (R184), and in deep retry the attempt's trained taps, its ratios and the bit at which it takes the codeword to begin (R190). -/
structure PoolSlot where
  st      : Nat := 0
  act     : Nat := 0
  id      : Nat := 0
  cls     : Nat := 0
  ord     : Nat := 0
  plan    : List (Nat × Nat × Nat) := []
  conv    : Bool := false
  samples : List (Option Int) := []
  base    : Nat := 0
  stop    : Option Nat := none
  taps    : List Int := []
  llrs    : List Int := []
  start   : Nat := 0
  deriving DecidableEq, Repr

/-- The microcode image being verified or committed: its words, whether it has an Allotment, its IMAGE_ID, entries and digest (R256, R257). -/
structure SeqImage where
  words   : List W32
  allot   : Bool
  imageId : W32
  entries : List Nat
  digest  : List Byte := []
  deriving DecidableEq, Repr

/-- A tag entry (R266): its state (0 INVALID, 1 FILLING, 2 CLEAN, 3 DIRTY, 4 WRITEBACK), flags, extent, key and pin count; `merge`: in
FILLING, a merge fill; `stamp` orders entries by recency; `waiters`: core and task of the WAIT and MERGE lookups (R275); `drainW`: those of
writes that wait for a drain (R284); `due`: a write-back is required and not yet posted (R278); `excl`: excluded from allocation (R297). -/
structure TagLine where
  st      : Nat := 0
  doomed  : Bool := false
  redirty : Bool := false
  part    : Bool := false
  merge   : Bool := false
  first   : Nat := 0
  last    : Nat := 0
  key     : Nat := 0
  pins    : Nat := 0
  stamp   : Nat := 0
  waiters : List (Nat × Nat) := []
  drainW  : List (Nat × Nat) := []
  due     : Bool := false
  excl    : Bool := false
  deriving DecidableEq, Repr

/-- The tag engine besides its registers (spec/08_buffer_cache.md). -/
structure BufSt where
  /-- Tag entries by 16·set + way; the way last allocated (R273); the recency of the last use. -/
  tags  : List (Nat × TagLine) := []
  rr    : Nat := 15
  stamp : Nat := 0
  /-- Waiters on sets: set, core, task (R269); wake queues by core: task and FAILED (R275, R277). -/
  setW  : List (Nat × Nat × Nat) := []
  wakes : List (Nat × List (Nat × Bool)) := []
  /-- Write-back queue: entry, key, FIRST, LAST (R279); write-back runs because more than 4·HIGH lines were DIRTY (R278). -/
  wbq   : List (Nat × Nat × Nat × Nat) := []
  wbRun : Bool := false
  /-- Stream detector, most recently matched first: expected key, count, mark (R281); read-ahead queue: key and class (R282). -/
  det   : List (Nat × Nat × Nat) := []
  raq   : List (Nat × Nat) := []
  /-- The maintenance operation in progress, 0 none, and the lines it waits for: entry, key, whether a write-back of the line has begun since
  the operation started (R289, R290). -/
  mOp   : Nat := 0
  mWait : List (Nat × Nat × Bool) := []
  /-- CLEAN_ALL operations begun, and the number of the last one that has ended (R329). -/
  cleans : Nat := 0
  cleaned : Nat := 0
  deriving DecidableEq, Repr
/-- The command slots of a DRAM channel (R25, R291–R293): the place in the window of 1,024; whose turn the round robin is at and the slots left of
it; corrected words to be written back; windows since the scrubber was served. -/
structure DramCh where
  pos   : Nat := 0
  turn  : Nat := 0
  left  : Nat := 16
  fix   : Nat := 0
  scrub : Nat := 0
  deriving DecidableEq, Repr

/-- An erase in progress in a bank: the sector, whether it is explicitly suspended, whether a direct command started it (R401, R406), and whether
its BEGIN entry is written; until then it waits for the journal (R402). -/
structure NvErase where
  sector : Nat
  susp   : Bool := false
  direct : Bool := true
  begun  : Bool := true
  deriving DecidableEq, Repr

/-- An entry of the journal, one unit (R401, R402): its type, END or BEGIN, the sector, its erase count, the journal sequence and the CRC-32. -/
structure JEntry where
  done   : Bool
  sector : Nat
  count  : Nat
  seq    : Nat
  crc    : Nat
  deriving DecidableEq, Repr

/-- A row of the journal bank (R401): in its summary its sequence, the indeterminate sectors, the erase counts and the CRC-32; and the entries in
its remaining 112 units, oldest first. -/
structure JRow where
  seq     : Nat
  indet   : List (Nat × Bool)
  erases  : List (Nat × Nat)
  crc     : Nat
  entries : List JEntry := []
  deriving DecidableEq, Repr

/-- How far a commit has come (R417): the sectors whose erase is done, in the order 1 to 47 and then 0; the places of those erased again; whether the
present one is; the step in progress, 7 when no program is left; and the place whose program is under way, with the units done. -/
structure CommitPos where
  pos   : Nat := 0
  rep   : List Nat := []
  again : Bool := false
  step  : Nat := 0
  fill  : Option (Nat × Nat) := none
  deriving DecidableEq, Repr

/-- The NV store besides its registers and its bytes (spec/11_nonvolatile_store.md). -/
structure NvSt where
  /-- The journal bank: its 4 rows by number, unlisted ones erased; the row in use; whether the other rows are being erased (R401, R402). -/
  jrows  : List (Nat × Option JRow) := []
  jrow   : Nat := 0
  jold   : Bool := false
  /-- Indeterminate sectors and erase counts by sector (R401–R405); units that read as uncorrectable, by unit number (R400). -/
  indet  : List (Nat × Bool) := []
  erases : List (Nat × Nat) := []
  bad    : List (Nat × Bool) := []
  /-- Units programmed with data of ones alone, which are not blank, by unit number (R397, R414). -/
  ones   : List (Nat × Bool) := []
  /-- The direct PROGRAM in progress: window offset and data (R397, R408). -/
  prog   : Option (Nat × List Byte) := none
  /-- Erases in progress by bank: 0 main, 1 parameter (R408). -/
  erase  : List (Nat × Option NvErase) := []
  /-- Parameter area: head sector, next record position in it, highest SEQ, and the current record of each live or deleted ID as (position,
  LEN); the record write in progress: ID and payload (R410–R414). -/
  head   : Nat := 0
  next   : Nat := 0
  seq    : Nat := 0
  idx    : List (Nat × Option (Nat × Nat)) := []
  recw   : Option (Nat × List Byte) := none
  /-- The units 1 to 7 of the record in progress that are programmed (R410). -/
  recUnits : Nat := 0
  /-- The record write waits for the erase of the new head (R413). -/
  recHold : Bool := false
  /-- The erase that runs is that of the new head, which a record write began (R413). -/
  recOwn : Bool := false
  /-- The commit engine: slot, ACTION, source address and length of the image (R417). -/
  commit : Option (Nat × Nat × Nat × Nat) := none
  cpos   : CommitPos := {}
  deriving DecidableEq, Repr

/-- An I/O or admin submission queue (R311, R312): its completion queue, priority (0 urgent, 1 high, 2 medium, 3 low), entries, head, tail. -/
structure SqSt where
  cq   : Nat
  prio : Nat
  size : Nat
  head : Nat := 0
  tail : Nat := 0
  deriving DecidableEq, Repr

/-- A completion queue (R305, R320): vector, interrupts enabled, entries, head, tail, phase of the next entry, and completions aggregated
since the last message. -/
structure CqSt where
  vec   : Nat
  ien   : Bool
  size  : Nat
  head  : Nat := 0
  tail  : Nat := 0
  phase : Bool := true
  agg   : Nat := 0
  deriving DecidableEq, Repr

/-- A command in the task table (R314–R324): queue, class, the 16 dwords, Sundial time at fetch, how far it has come (0 waits for its lock,
1 presentable, 2 presented, 3 completion posted), place in fetch order, lock kind (0 none, 1 read, 2 write) with namespace, first block and
blocks; fills that stall it, as entry and key; the status decided at entry for a zoned write (R350); CLEAN_ALLs begun before its fetch (R329);
the first block, counted from the command's first, that the data mover skipped (R318, R355); the runs of blocks, as first and count, that it has
transferred or skipped (R20); and what the track operations have reported of the command's blocks on the media: 0 read, 1 unrecoverable, 2
written; an unlisted block has no such outcome (R331, R333); and the line for which a Write Zeroes waits, with the entry pinned for it (R275,
R332). -/
structure HTask where
  sqid    : Nat
  cls     : Nat
  admin   : Bool
  sqe     : List W32
  fetched : Nat
  st      : Nat
  ord     : Nat
  lock    : Nat := 0
  ns      : Nat := 0
  lba     : Nat := 0
  nlb     : Nat := 0
  fills   : List (Nat × Nat) := []
  bad     : Option (Nat × Nat) := none
  cleans  : Nat := 0
  skip    : Option Nat := none
  moved   : List (Nat × Nat) := []
  media   : List (Nat × Nat) := []
  waits   : Option (Nat × Nat) := none
  deriving DecidableEq, Repr

/-- A posted completion (R320, R321): task tag, completion queue, submission queue and its head, command identifier, the status bits of
HIF_CPL2, and the two dwords. -/
structure HCpl where
  tag    : Nat
  cq     : Nat
  sqid   : Nat
  sqhd   : Nat
  cid    : Nat
  status : Nat
  dw0    : W32
  dw1    : W32
  deriving DecidableEq, Repr

/-- A data mover request in progress (R318): tag, DRAM address, direction (true from the host), first block, blocks. -/
structure HXfer where
  tag   : Nat
  addr  : Nat
  dir   : Bool
  first : Nat
  count : Nat
  deriving DecidableEq, Repr

/-- A namespace (R346–R350): zoned or not, size in blocks, the placement descriptor's fields, attached or not, the whole
lines that each actuator of the set holds (R348), whether it has been ready since start-up (R511), and the zones as state
(0 Empty, 1 Open, 2 Closed, 3 Full) and written blocks; and the identifier of the first of its records of zone states (R351). -/
structure NsSt where
  zoned    : Bool
  nsze     : Nat
  mode     : Nat
  width    : Nat
  cylFirst : Nat
  cylLast  : Nat
  shift    : Nat
  mask     : Nat
  attached : Bool := false
  lines    : List Nat := []
  up       : Bool := false
  zones    : List (Nat × Nat × Nat) := []
  recs     : Nat := 0
  deriving DecidableEq, Repr

/-- A management message under way (R377, R378, R516): its channel, sequence number and operation, the HDAs it names, whether its write-backs
are under way, the phase of each HDA, the HDAs that failed, and the way pairs still to change, with true for on. -/
structure HJob where
  chan   : Nat
  seq    : Nat
  op     : Nat
  named  : List Nat
  begun  : Bool := false
  phase  : List (Nat × Nat) := []
  failed : List Nat := []
  pairs  : List (Nat × Bool) := []
  deriving DecidableEq, Repr

/-- A Sanitize in progress (R335): passes, pattern, inversion between passes, and the passes that have ended; in the present pass, by actuator,
the cylinders done and the sectors of the next one that have been written, as head and sector; and whether a cylinder has ended
since the parameter area recorded the last. -/
structure SanJob where
  passes  : Nat
  pattern : W32
  invert  : Bool
  pass    : Nat := 0
  cyls    : List (Nat × Nat) := []
  secs    : List (Nat × List (Nat × Nat)) := []
  fresh   : Bool := false
  deriving DecidableEq, Repr

/-- A firmware activation (R341–R343): none; the drain of a command with its slot; the new image running; the previous image restarted. -/
inductive HAct where
  | none
  | drain (tag slot : Nat)
  | fresh (tag slot : Nat)
  | back (tag : Nat)
  deriving DecidableEq, Repr

/-- The host interface besides its registers (spec/09_host_interface.md). -/
structure HifSt where
  /-- CC.EN, CSTS.RDY, a completed shutdown (CSTS.SHST), CSTS.CFS; the other NVMe registers of BAR0 by offset. -/
  en     : Bool := false
  rdy    : Bool := false
  shut   : Bool := false
  cfs    : Bool := false
  regs   : List (Nat × W32) := []
  sqs    : List (Nat × Option SqSt) := []
  cqs    : List (Nat × Option CqSt) := []
  /-- The task table by tag, the next place in fetch order, posted completions in the order of their posts, requests and results of the
  data mover (tag, STATUS, SKIPPED, FIRST_SKIP). -/
  tasks  : List (Nat × Option HTask) := []
  /-- Arbitration (R312): by level (1 Urgent, 2 High, 3 Medium, 4 Low) the queue last served and the entries taken in its turn; the weighted level
  last served and the turns it has had in this round. -/
  arb    : List (Nat × Nat × Nat) := []
  arbCls : Nat × Nat := (4, 0)
  ord    : Nat := 0
  cpls   : List HCpl := []
  xfers  : List HXfer := []
  xres   : List (Nat × Nat × Nat × Nat) := []
  /-- Features by 65,536·identifier + selector; namespaces by NSID; the Changed Namespace List and the namespaces known as not ready. -/
  feats  : List (Nat × Nat) := []
  nss    : List (Nat × Option NsSt) := []
  changed : List Nat := []
  unready : List Nat := []
  /-- Asynchronous event requests waiting (tags), and events not yet reported: type, information, log page. -/
  aers   : List Nat := []
  aerEv  : List (Nat × Nat × Nat) := []
  /-- Error Information entries, newest first: submission queue, command identifier, status, block, namespace. -/
  errs   : List (Nat × Nat × Nat × Nat × Nat) := []
  /-- Error Information entries made so far; track operations of removed commands that still run, as actuator and descriptor slot (R340). -/
  errCnt : Nat := 0
  ends   : List (Nat × Nat) := []
  /-- The parts of an image that have been downloaded, as offset and bytes; the slot of the running image; the slot commit that a Firmware Commit waits for;
  the activation; the Sanitize in progress, and whether one has completed. -/
  image  : List (Nat × Nat) := []
  runSlot : Option Nat := none
  commit : Option Nat := none
  act    : HAct := .none
  sanit  : Option SanJob := none
  sanDone : Bool := false
  /-- Lost ranges (R353): NSID, first block, blocks. -/
  lost   : List (Nat × Nat × Nat) := []
  /-- What the host received last: a completion entry with its queue, and the data of a command as far as the spec states
  it, by byte; a byte that is not listed is not stated. -/
  cqe    : Option (Nat × List W32) := none
  data   : List (Nat × Byte) := []
  /-- What the last data mover request toward the host wrote there, as host addresses with the bytes from each upward (R318). -/
  sent   : List (Nat × List Byte) := []
  /-- The MSI-X table by word (an unlisted Vector Control reads 1, masked; any other word 0) and the pending bits. -/
  msixTab : List (Nat × W32) := []
  msixPba : List (Nat × Bool) := []
  /-- The Subsystem IDs in use, the last configuration request was answered with Configuration Request Retry Status, and errors in the
  AER header log (R303, R306, R510). -/
  ssid   : W32 := 0
  crs    : Option Bool := none
  /-- Management messages under way, by resident firmware. -/
  jobs   : List HJob := []
  aerLog : Nat := 0
  /-- The PCI configuration space by dword, where a stored dword differs from its reset value (R303, R308). -/
  cfg    : List (Nat × W32) := []
  /-- Uncorrectable errors recorded behind the one in the AER header log, oldest first: the bit and the header of the TLP (R306). -/
  aerQ   : List (Nat × List W32) := []
  /-- SMART: read commands, write commands and unrecovered errors completed (NVM Express); the lost ranges that the parameter area holds (R353). -/
  rdCmds : Nat := 0
  wrCmds : Nat := 0
  mediaErrs : Nat := 0
  lostKept : List (Nat × Nat × Nat) := []
  deriving DecidableEq, Repr

/-- The security engine besides its registers (spec/14_trust.md). Fuses keep their contents without power. -/
structure SecSt where
  /-- The enrolled customer key (R484), and the vendor public key of the booted image's header (R493). -/
  custKey : Option (List Byte) := none
  bootPk  : List Byte := []
  /-- The held nonce with its scope, and the signed messages of the openings in force (R487, R492). -/
  nonce   : Option (List Byte × Nat) := none
  opened  : List (List Byte) := []
  /-- The image address of a verification in progress (R483), and messages that wait for its end: channel, SEQ, OP, payload. -/
  verify  : Option Nat := none
  waits   : List (Nat × Nat × Nat × List W32) := []
  /-- SPDM (R490): how far the exchange has come (1 version, 2 capabilities, 3 algorithms), the transcripts of the negotiation, of the
  digests and certificates, and of the measurements, the request held and the response pending. -/
  stage   : Nat := 0
  tNeg    : List Byte := []
  tCert   : List Byte := []
  tMeas   : List Byte := []
  req     : Option (List Byte) := none
  rsp     : Option (List Byte) := none
  deriving DecidableEq, Repr

/-- The instruction of the test access port (R536). -/
inductive JtagIr where
  | bypass | idcode | sample | extest | clamp | highz
  deriving DecidableEq, Repr

/-- The SMBus target and the test access port (spec/16_package_electrical.md). -/
structure PinSt where
  /-- Read pointer, the copy of the GH registers at offsets 0x0000 to 0x00FF (unlisted 0), and the bytes of the last Block Read (R535). -/
  ptr  : Nat := 0
  copy : List (Nat × Byte) := []
  out  : List Byte := []
  /-- The instruction in force, the boundary register, and the bits of the register last captured into the scan path, first bit
  shifted out first (R536). -/
  ir    : JtagIr := .idcode
  bound : List Bool := []
  scan  : List Bool := []
  /-- The code on CORE_VID3 to CORE_VID0 (R521): 5 from the Gatehouse's release. -/
  vid   : Nat := 5
  deriving DecidableEq, Repr


/-- The state of the controller. -/
structure State where
  /-- Registers of 32 bits by key; an unlisted register reads its reset value. -/
  regs : List (Nat × W32) := []
  /-- Two-word counters by the key of their low word; unlisted 0. -/
  ctrs : List (Nat × Nat) := []
  /-- Words captured by snapshot groups (R33), by key; the captures of the BAR2 mirror (R457) have 2^56 added. -/
  snap : List (Nat × W32) := []
  /-- Shared SRAM and DRAM bytes by address; an unlisted byte reads 0. -/
  mem : List Host.Cell := []
  /-- NV store bytes by window offset; an unlisted byte is blank, 0xFF. -/
  nv : List Host.Cell := []
  /-- Poison bytes of DRAM words by word address / 8; an unlisted one is 0x00 (R294). -/
  poison : List (Nat × Byte) := []
  /-- What the last read returned, and whether the last access ended with a bus error (R26). -/
  rdata : W32 := 0
  busErr : Bool := false
  /-- Whether the last read was a core's load of poisoned data, which takes the core's precise data exception (R296). -/
  dataExc : Bool := false
  plat : PlatSt := {}
  gh : GhSt := {}
  sdl : SdlSt := {}
  ice : IceSt := {}
  cal : CalSt := {}
  /-- Kiosk queues by 2·channel + receiving end (R365), and replies that wait for room (R374). -/
  ksk : List (Nat × List KItem) := []
  replies : List HeldReply := []
  /-- Stile locks (R379). -/
  locks : List (Nat × LockSt) := []
  /-- MSI-X messages signalled to the host, newest first, by vector (R305, R366). -/
  msix : List Nat := []
  /-- Messages being assembled, by channel: by resident firmware on host channels, by the Gatehouse on core channels (R373). -/
  asm : List (Nat × MsgAsm) := []
  /-- Messages that came as rows while an earlier message of their channel was under way, in order (R374, R449). -/
  held : List HeldMsg := []
  /-- The DMA channels served last, of PRIO 1 and of PRIO 0 (R388). -/
  dmaLast : Nat × Nat := (63, 63)
  /-- Spindles by HDA, and the starts queued for admission, in order (R70, R71). -/
  spn : List (Nat × Spindle) := []
  spnQueue : List Nat := []
  /-- Servo: loop slots by 32·HDA + slot, actuators, wedge timers. -/
  loops : List (Nat × LoopSt) := []
  acts : List (Nat × ActSt) := []
  engs : List (Nat × EngSt) := []
  /-- WRITE_OFF blocks waiting, by 4·actuator + downstream lane: the mask of head slots they name (R144). -/
  wOff : List (Nat × Nat) := []
  /-- Links: downstream and upstream lanes by 4·actuator + lane, and the rest by actuator. -/
  dn : List (Nat × DnLane) := []
  up : List (Nat × UpLane) := []
  lnks : List (Nat × LnkSt) := []
  /-- Track sequencers by actuator; the image of the master copy and the one verified; entry points of the Allotment (R256, R257). -/
  seqs : List (Nat × SeqSt) := []
  seqMaster : Option SeqImage := none
  seqStaged : Option SeqImage := none
  /-- The retention pool by slot number, and the next place in the order of failure (R183, R189). -/
  pool : List (Nat × PoolSlot) := []
  poolOrd : Nat := 0
  /-- The chains by 4·actuator + head slot (R171), the sector output queues by actuator, oldest first (R197), and the shifts of the LDPC code (R169). -/
  chains : List (Nat × Chain) := []
  outqs : List (Nat × List OutSec) := []
  ldpc : List (List (Option Nat)) := Config.ldpcShifts
  /-- DRAM channels. -/
  dram : List (Nat × DramCh) := []
  /-- The tag engine, and the DRAM words whose stored bits were flipped: by word address / 8, data and check masks (R299). -/
  buf : BufSt := {}
  flips : List (Nat × Nat × Nat) := []
  nvs : NvSt := {}
  hif : HifSt := {}
  sec : SecSt := {}
  pins : PinSt := {}
  /-- The model's own counter from which free values are drawn (no state of the spec). -/
  freeCtr : Nat := 0
  /-- Commands that are waiting, first in, first out. -/
  pending : List Instr := []
  deriving DecidableEq, Repr

/-- Why a step stops with a fault. No meaning of this model raises one: every command of the table has an effect in
every state. The one constructor stands for the type only (safe: it never occurs). -/
inductive Fault where
  | none
  deriving DecidableEq, Repr

/-- Why a command is refused by the model. `notModelled` is raised by the dispatch for a command that has no meaning yet
(safe: the model stops where the hardware goes on). -/
inductive Refusal where
  | notModelled (mnemonic : String)
  deriving DecidableEq, Repr

/-- The machine right after power-on reset, before POWER_ON releases its stages: every register at its reset value, the
always-on Gatehouse domain (102) on and every other domain off (R36, R454, R508). -/
def State.reset : State :=
  { plat := { doms := [(102, true)] } }

end Sys2Proof.Machine
end

