-- ==== Sys2Proof/Machine/Tbl.lean ====
section
/-! DEFINITION. Sparse tables as plain data: lists of (key, value) pairs in which an unlisted key reads as a default.
Registers, counters, memory and the per-instance parts of the state are kept in them. A write of the default value removes
the entry and any other write puts it in rising key order, so tables that read alike are equal data. -/

namespace Sys2Proof.Machine

/-- The value stored under a key, or the default. -/
def tget {α : Type} (d : α) (t : List (Nat × α)) (k : Nat) : α :=
  match t with
  | [] => d
  | (k', v) :: r => if k' = k then v else tget d r k

/-- Insertion in rising key order, replacing an entry of the same key. -/
def tins {α : Type} (k : Nat) (v : α) (t : List (Nat × α)) : List (Nat × α) :=
  match t with
  | [] => [(k, v)]
  | (k', v') :: r =>
    if k = k' then (k, v) :: r
    else if k < k' then (k, v) :: (k', v') :: r
    else (k', v') :: tins k v r

/-- The table without a key. -/
def tdel {α : Type} (k : Nat) (t : List (Nat × α)) : List (Nat × α) :=
  t.filter (fun e => e.1 != k)

/-- A write: the default value is not listed. -/
def tput {α : Type} [DecidableEq α] (d : α) (t : List (Nat × α)) (k : Nat) (v : α) : List (Nat × α) :=
  if v = d then tdel k t else tins k v t

/-- A read, a change and a write of one entry. -/
def tmod {α : Type} [DecidableEq α] (d : α) (t : List (Nat × α)) (k : Nat) (f : α → α) : List (Nat × α) :=
  tput d t k (f (tget d t k))

/-- The keys rise strictly. -/
def tsorted {α : Type} : List (Nat × α) → Bool
  | [] => true
  | [_] => true
  | a :: b :: r => decide (a.1 < b.1) && tsorted (b :: r)

/-- The canonical form: the keys rise strictly and no entry equals what an unlisted key reads as. -/
def twf {α : Type} [DecidableEq α] (d : α) (t : List (Nat × α)) : Bool :=
  tsorted t && t.all (fun e => decide (e.2 ≠ d))

/-- A change of one element of a list, by position. -/
def lmod {α : Type} (l : List α) (i : Nat) (f : α → α) : List α :=
  match l, i with
  | [], _ => []
  | x :: r, 0 => f x :: r
  | x :: r, i + 1 => x :: lmod r i f

end Sys2Proof.Machine
end

