-- ==== Sys2Proof/Machine/Ops.lean ====
section
/-! DEFINITION. The named operations over registers, counters, memory, power domains and refusal counters that every
family shares. -/

namespace Sys2Proof.Machine

/-! ### Registers -/

/-- The stored value of a register. -/
def State.rd (s : State) (r : Reg) : W32 := tget r.rst s.regs r.key

/-- Stores a register. -/
def State.wr (s : State) (r : Reg) (v : W32) : State := { s with regs := tput r.rst s.regs r.key v }

/-- A field of a register. -/
def State.fld (s : State) (r : Reg) (f : Fld) : Nat := fget (s.rd r) f

/-- Stores a field of a register. -/
def State.setf (s : State) (r : Reg) (f : Fld) (n : Nat) : State := s.wr r (fset (s.rd r) f n)

/-- Sets a one-bit flag. -/
def State.flag (s : State) (r : Reg) (f : Fld) : State := s.setf r f 1

/-- Increments a register that saturates at 0xFFFF_FFFF. -/
def State.incSat (s : State) (r : Reg) (k : Nat) : State := s.wr r (BitVec.ofNat 32 (satAdd 32 (s.rd r).toNat k))

/-- Increments a register that wraps. -/
def State.incWrap (s : State) (r : Reg) (k : Nat) : State := s.wr r (s.rd r + BitVec.ofNat 32 k)

/-- Returns a register to its reset value. -/
def State.clr (s : State) (r : Reg) : State := s.wr r r.rst

/-! ### Two-word counters -/

/-- A counter by the key of its low word. -/
def State.ctr (s : State) (k : Nat) : Nat := tget 0 s.ctrs k

/-- Stores a counter. -/
def State.setCtr (s : State) (k n : Nat) : State := { s with ctrs := tput 0 s.ctrs k n }

/-- Adds to a counter of `w` bits that saturates. -/
def State.ctrSat (s : State) (k w n : Nat) : State := s.setCtr k (satAdd w (s.ctr k) n)

/-- Adds to a counter of `w` bits that wraps. -/
def State.ctrWrap (s : State) (k w n : Nat) : State := s.setCtr k ((s.ctr k + n) % 2 ^ w)

/-! ### Refused writes and bad accesses (R6, R27, R37) -/

/-- Counts a refused write (R6). -/
def deny (s : State) : State := s.incSat PWR_DENIED_WRITES 1

/-- Counts a bad access (R27, R37). -/
def badAccess (s : State) : State := s.incSat PWR_BAD_ACCESS 1

/-! ### Memory (spec/01_architecture.md, "Internal address map"; the retention pool and the tag store have no address, R28) -/

/-- An address of shared SRAM. -/
def inSram (a : Nat) : Bool := decide (0x20000000 ≤ a ∧ a < 0x20800000)

/-- An address of DRAM. -/
def inDram (a : Nat) : Bool := decide (0x1000000000 ≤ a ∧ a < 0x3000000000)

/-- An address of the NV store read window. -/
def inNvWin (a : Nat) : Bool := decide (0x10000000 ≤ a ∧ a < 0x12000000)

/-- An address of the boot ROM. -/
def inRom (a : Nat) : Bool := decide (a < 0x40000)

/-- An address of a register block. -/
def inRegs (a : Nat) : Bool :=
  decide ((0x40000000 ≤ a ∧ a < 0x41010000) ∨ (0x41100000 ≤ a ∧ a < 0x41200000) ∨
    (0x42000000 ≤ a ∧ a < 0x44300000) ∨ (0x45000000 ≤ a ∧ a < 0x47010000) ∨ (0x47100000 ≤ a ∧ a < 0x47200000) ∨
    (0x48000000 ≤ a ∧ a < 0x49030000))

/-- An address that lies in some region of the internal address map (R26). -/
def mapped (a : Nat) : Bool := inRom a || inNvWin a || inSram a || inRegs a || inDram a

/-- A byte of shared SRAM or DRAM; a byte never written reads 0. -/
def State.rdByte (s : State) (a : Nat) : Byte := tget 0 s.mem a

/-- Stores one byte; a DRAM word that is written gets fresh check bits, so none of its bits stand flipped any more (R294, R299). -/
def State.wrByte (s : State) (a : Nat) (b : Byte) : State :=
  { s with mem := tput 0 s.mem a b, flips := tput (0, 0) s.flips (a / 8) (0, 0) }

/-- `n` bytes from an address upward. -/
def State.rdBytes (s : State) (a n : Nat) : List Byte := (List.range n).map (fun i => s.rdByte (a + i))

/-- Stores bytes from an address upward. -/
def State.wrBytes (s : State) (a : Nat) : List Byte → State
  | [] => s
  | b :: r => (s.wrByte a b).wrBytes (a + 1) r

/-- Bytes of a number, least significant first. -/
def leBytes (n k : Nat) : List Byte := (List.range k).map (fun i => BitVec.ofNat 8 (n >>> (8 * i)))

/-- The number that bytes spell, least significant first. -/
def ofLe : List Byte → Nat
  | [] => 0
  | b :: r => b.toNat + 256 * ofLe r

/-- The bytes of words, each least significant byte first. -/
def wordBytes (l : List W32) : List Byte := l.flatMap (fun w => leBytes w.toNat 4)

/-- A byte of the NV store by window offset; a byte never programmed is blank. -/
def State.rdNv (s : State) (off : Nat) : Byte := tget 0xFF s.nv off

/-- Stores one NV byte. -/
def State.wrNv (s : State) (off : Nat) (b : Byte) : State := { s with nv := tput 0xFF s.nv off b }

/-- `n` NV bytes from an offset upward. -/
def State.rdNvs (s : State) (off n : Nat) : List Byte := (List.range n).map (fun i => s.rdNv (off + i))

/-- Stores NV bytes from an offset upward. -/
def State.wrNvs (s : State) (off : Nat) : List Byte → State
  | [] => s
  | b :: r => (s.wrNv off b).wrNvs (off + 1) r

/-- A byte of any readable memory region; the boot ROM's contents are a free value of the configuration. -/
def State.rdAny (s : State) (a : Nat) : Byte :=
  if inNvWin a then s.rdNv (a - 0x10000000) else if inRom a then Config.bootRom a else s.rdByte a

/-- The number of one bits of a byte. -/
def onesByte (b : Byte) : Nat := ((List.range 8).filter (fun i => b.toNat.testBit i)).length

/-- Whether a poison byte marks its granule: within 2 bits of 0x5A, or more than 2 bits from 0x00 and from 0x5A (R294). -/
def poisonByte (b : Byte) : Bool := decide (onesByte (b ^^^ 0x5A) ≤ 2) || (decide (2 < onesByte b) && decide (2 < onesByte (b ^^^ 0x5A)))

/-- Whether the granule that holds an address is poisoned, by the poison bytes of its eight words (R294, R296). -/
def State.poisoned (s : State) (a : Nat) : Bool := (List.range 8).any (fun i => poisonByte (tget 0 s.poison (a / 64 * 8 + i)))

/-- Writes the poison bytes of the granule that holds an address: 0x5A marks it, 0x00 clears it (R294). -/
def State.setPoison (s : State) (a : Nat) (b : Bool) : State :=
  { s with poison := (List.range 8).foldl (fun t i => tput 0 t (a / 64 * 8 + i) (if b then 0x5A else 0)) s.poison }

/-- The channel of a DRAM address (R262, R263). -/
def dramChan (a : Nat) : Nat := if a < 0x2000000000 then a / 4096 % 8 else (a - 0x2000000000) / 2 ^ 33 % 8

/-- The state of a way: 0 OFF, 1 WAKING, 2 ON, 3 DRAINING (BUF_WAY_STATE). -/
def wayState (w : Nat) (s : State) : Nat := (s.rd BUF_WAY_STATE).toNat / 4 ^ w % 4

/-- The way of an address of rank 1. -/
def dramWay (a : Nat) : Nat := (a - 0x2000000000) / 2 ^ 32 % 16

/-- Whether an address of DRAM can be accessed: rank 0, or a way that is not OFF (R262). -/
def dramOn (a : Nat) (s : State) : Bool := inDram a && (decide (a < 0x2000000000) || wayState (dramWay a) s != 0)

/-- Whether an address lies in a way that is OFF: a master reads 0 there, and a write has no effect and counts as a bad access (R37, R262). -/
def wayOff (a : Nat) (s : State) : Bool := inDram a && !dramOn a s

/-- The addresses at which a run of bytes begins and comes to another block of 4 KiB. -/
def blocksOf (a n : Nat) : List Nat := a :: (List.range (n / 4096 + 1)).map (fun i => (a / 4096 + 1 + i) * 4096) |>.filter (fun b => decide (b < a + n))

/-- An armed BUF_FLIPMASK flips the first word of its channel that a DRAM write of `n` bytes stores, and ARM returns to 0 (R299). -/
def flipTake (a n : Nat) (s : State) : State :=
  if s.fld BUF_FLIPMASK2 F_BUF_FLIPMASK2_ARM = 0 then s
  else match (blocksOf a n).find? (fun b => inDram b && dramChan b == s.fld BUF_FLIPMASK2 F_BUF_FLIPMASK2_CH) with
    | none => s
    | some b =>
      let d := (s.rd BUF_FLIPMASK0).toNat + (s.rd BUF_FLIPMASK1).toNat * 2 ^ 32
      { s.setf BUF_FLIPMASK2 F_BUF_FLIPMASK2_ARM 0 with flips := tput (0, 0) s.flips (b / 8) (d, s.fld BUF_FLIPMASK2 F_BUF_FLIPMASK2_CHECK) }

/-- A write of memory by a master (R262, R299). -/
def State.wrMem (s : State) (a : Nat) (l : List Byte) : State :=
  if wayOff a s then badAccess s else flipTake a l.length (s.wrBytes a l)

/-- A write of memory by a master whose granules carry no poison (R296). -/
def State.wrGood (s : State) (a : Nat) (l : List Byte) : State :=
  if wayOff a s then badAccess s
  else (List.range ((l.length + 63) / 64)).foldl (fun t g => t.setPoison (a + 64 * g) false) (s.wrMem a l)

/-- Bytes of memory that a master reads (R37, R262). -/
def State.rdMem (s : State) (a n : Nat) : List Byte := if wayOff a s then List.replicate n 0 else s.rdBytes a n

/-! ### Power domains (R497) -/

/-- Whether a power domain is on. -/
def State.domOn (s : State) (d : Nat) : Bool := tget false s.plat.doms d

/-- Switches a domain. -/
def State.setDom (s : State) (d : Nat) (b : Bool) : State :=
  { s with plat := { s.plat with doms := tput false s.plat.doms d b } }

/-! ### Free values -/

/-- Draws the next free value of the configuration. -/
def State.fresh (s : State) : Nat × State := (Config.freeValue s.freeCtr, { s with freeCtr := s.freeCtr + 1 })

/-- A free value of either sign. -/
def State.freshInt (s : State) : Int × State :=
  let f := s.fresh
  (if f.1 % 2 = 0 then (f.1 / 2 : Nat) else -((f.1 / 2 : Nat) : Int) - 1, f.2)

/-! ### Messages to the host -/

/-- The Vector Control word of an MSI-X table entry masks it (PCIe; reset value masked). -/
def msixMasked (v : Nat) (s : State) : Bool := (tget 1 s.hif.msixTab (4 * v + 3)).toNat.testBit 0

/-- A vector is signalled; while it is masked its pending bit is set instead. -/
def msixSignal (v : Nat) (s : State) : State :=
  if msixMasked v s then { s with hif := { s.hif with msixPba := tput false s.hif.msixPba v true } } else { s with msix := v :: s.msix }

/-! ### Outcomes -/

/-- The outcome of a command that has an effect. -/
def ok (s : State) : Host.Outcome State Fault Refusal := .next s

/-- An operation under its condition; without it nothing happens. -/
def onlyIf (c : Bool) (f : State → State) (s : State) : State := if c then f s else s

/-- An operation for each element of a list, in order. -/
def each {α : Type} (l : List α) (f : α → State → State) (s : State) : State :=
  match l with
  | [] => s
  | x :: r => each r f (f x s)

/-- Whether a master is a core (R359). -/
def isCore (m : Nat) : Bool := decide (m < 8)

end Sys2Proof.Machine
end

