-- ==== Sys2Proof/Machine/Events.lean ====
section
/-! DEFINITION. Emitted events and samples: the Icehouse's event table, histograms and extremes (R462–R467), and the Lodge
(R444–R448). -/

namespace Sys2Proof.Machine

/-- The entry of an event code in the Icehouse event table (R462). -/
def evtIndex (code : Nat) : Nat := 32 * (code / 4096 % 16) + 16 * (code / 256 % 2) + code % 16

/-- The code of an entry (R462). -/
def evtCode (i : Nat) : Nat := 4096 * (i / 32) + 256 * (i / 16 % 2) + i % 16

/-- An event is emitted: COUNT and INTERVAL take one more, and LAST the time unless it took one within the last
10^9 ns (R10, R463, R464). -/
def emit (code : Nat) (s : State) : State :=
  let i := evtIndex code
  let s := s.ctrSat (ICE_EVT_COUNT i) 48 1
  let s := s.incSat (ICE_EVT_INTERVAL i) 1
  let last := s.ctr (ICE_EVT_LAST i)
  if last = 0 ∨ s.sdl.now - last ≥ 1000000000 then s.setCtr (ICE_EVT_LAST i) s.sdl.now else s

/-- A sample falls into a bin. A bin that reaches 2^48 − 1 sets its histogram's bit in ICE_SAT and emits 0x8105 once (R466). -/
def histAdd (h b : Nat) (s : State) : State :=
  let n := s.ctr (ICE_HIST h b)
  let s := s.ctrSat (ICE_HIST h b) 48 1
  if n + 1 = 2 ^ 48 - 1 then
    emit 0x8105 (s.setf ICE_SAT F_ICE_SAT_SAT (setBit (s.fld ICE_SAT F_ICE_SAT_SAT) h true))
  else s

/-- A sample of an extreme: a smaller value becomes the minimum and a larger one the maximum, with the time; equal values
keep the earlier time (R467). -/
def extAdd (e : Nat) (x : Int) (s : State) : State :=
  let lo := toSigned 32 (s.rd (ICE_EXT_MIN e)).toNat
  let hi := toSigned 32 (s.rd (ICE_EXT_MAX e)).toNat
  let none' := decide (lo > hi)
  let w := BitVec.ofNat 32 (ofSigned 32 x)
  let tl := BitVec.ofNat 32 s.sdl.now
  let th := BitVec.ofNat 32 (s.sdl.now / 2 ^ 32)
  let s := if x < lo ∨ none' then ((s.wr (ICE_EXT_MIN e) w).wr (ICE_EXT_T e 0) tl).wr (ICE_EXT_T e 1) th else s
  if x > hi ∨ none' then ((s.wr (ICE_EXT_MAX e) w).wr (ICE_EXT_T e 2) tl).wr (ICE_EXT_T e 3) th else s

/-- The bin of a time in microseconds: 0 below 16, then one bin per power of two (R465, h = 0). -/
def binUrgent (us : Nat) : Nat := if us < 16 then 0 else min (Nat.log2 us - 3) 15

/-- The bin of an iteration count, or of a codeword that did not converge (R465, h = 1). -/
def binIter (n : Option Nat) : Nat :=
  match n with
  | none => 15
  | some k => if k ≤ 14 then k - 1 else 14

/-- The bin of a seek's wedges (R465, h = 2). -/
def binSeek (w : Nat) : Nat := min (w / 64) 15

/-- The bin of pool slots (R465, h = 3). -/
def binPool (n : Nat) : Nat := min (n / 32) 15

/-- The bin of a junction temperature (R465, h = 4). -/
def binTj (t : Int) : Nat := if t < 50 then 0 else min ((t.toNat - 45) / 5) 15

/-- The bin of a rail voltage in millivolts (R465, h = 5). -/
def binRail (mv : Nat) : Nat := if mv < 11000 then 0 else min ((mv - 10800) / 200) 15

/-! ### The Lodge -/

/-- The fault classes of R444. -/
inductive Cls where
  | grave | actuator | data | notice
  deriving DecidableEq, Repr

/-- The encoding of a class in word 3 of a record (R444). -/
def Cls.code : Cls → Nat
  | .grave => 0
  | .actuator => 1
  | .data => 2
  | .notice => 3

/-- The first ring position from `p` on that holds no kept Grave record (R446). -/
def lodgeSkip (kept : List Nat) : Nat → Nat → Nat
  | 0, p => p
  | f + 1, p => if kept.contains p then lodgeSkip kept f ((p + 1) % 128) else p

/-- Writes a record at NEXT and advances NEXT past kept Grave records (R444, R446); a Grave or Actuator record sets PENDING
for every core that GH_NOTICE_EN names (R448). Such a record, or one of event 0xA007, is copied later (R447). -/
def lodgeWrite (c : Cls) (code src detail missed : Nat) (inj : Bool) (s : State) : State :=
  let p := s.fld GH_LODGE_STATE F_GH_LODGE_STATE_NEXT
  let seq := s.rd GH_LODGE_SEQ + 1
  let w3 := code * 65536 + c.code * 16384 + b2n inj * 8192 + src % 256
  let s := s.wr GH_LODGE_SEQ seq
  let s := s.wr (GH_LODGE_REC p 0) seq
  let s := s.wr (GH_LODGE_REC p 1) (BitVec.ofNat 32 s.sdl.now)
  let s := s.wr (GH_LODGE_REC p 2) (BitVec.ofNat 32 (s.sdl.now / 2 ^ 32))
  let s := s.wr (GH_LODGE_REC p 3) (BitVec.ofNat 32 w3)
  let s := s.wr (GH_LODGE_REC p 4) (BitVec.ofNat 32 detail)
  let s := s.wr (GH_LODGE_REC p 5) (s.rd (GH_ACT_FORCE 0))
  let s := s.wr (GH_LODGE_REC p 6) (BitVec.ofNat 32 missed)
  let s := s.wr (GH_LODGE_REC p 7) 0
  let copy := decide (c = .grave ∨ c = .actuator ∨ code = 0xA007)
  let rec_ := wordBytes ((List.range 8).map (fun w => s.rd (GH_LODGE_REC p w)))
  let keep := decide (c = .grave ∧ s.gh.kept.length < 16)
  let s := { s with gh := { s.gh with copies := if copy then s.gh.copies ++ [rec_] else s.gh.copies, kept := if keep then p :: s.gh.kept else s.gh.kept } }
  let s := s.setf GH_LODGE_STATE F_GH_LODGE_STATE_GRAVE_KEPT s.gh.kept.length
  let s := s.setf GH_LODGE_STATE F_GH_LODGE_STATE_VALID (min 128 (s.fld GH_LODGE_STATE F_GH_LODGE_STATE_VALID + 1))
  let s := s.setf GH_LODGE_STATE F_GH_LODGE_STATE_NEXT (lodgeSkip s.gh.kept 128 ((p + 1) % 128))
  if c = .grave ∨ c = .actuator then
    each (bitsOf 8 (s.fld GH_NOTICE_EN F_GH_NOTICE_EN_EN)) (fun k t => t.flag (GH_NOTICE k) F_GH_NOTICE_PENDING) s
  else s

/-- Records a fault: it counts in its class, Grave and Actuator records are always written, Data and Notice records once
per second for each pair of code and source and 1,000 in a second of the Sundial (R445). -/
def lodge (c : Cls) (code src detail : Nat) (inj : Bool) (s : State) : State :=
  let s := s.ctrSat (GH_LODGE_COUNT c.code) 48 1
  if c = .grave ∨ c = .actuator then lodgeWrite c code src detail 0 inj s
  else
    let k := 256 * code + src % 256
    let r := tget {} s.gh.rate k
    let sec := s.sdl.now / 1000000000
    let n := if s.gh.sec = sec then s.gh.secCount else 0
    if r.written ∧ s.sdl.now - r.last < 1000000000 then
      { s with gh := { s.gh with rate := tput {} s.gh.rate k { r with missed := r.missed + 1 } } }
    else if n ≥ 1000 then
      let s := s.ctrSat (GH_LODGE_COUNT 4) 48 1
      { s with gh := { s.gh with rate := tput {} s.gh.rate k { r with missed := r.missed + 1 } } }
    else
      let s := lodgeWrite c code src detail r.missed inj s
      { s with gh := { s.gh with
          rate := tput {} s.gh.rate k { written := true, last := s.sdl.now, missed := 0 },
          sec := sec, secCount := n + 1 } }

end Sys2Proof.Machine
end

