-- ==== Sys2Proof/Machine/NvBase.lean ====
section
/-! DEFINITION. The array of the NV store (spec/11_nonvolatile_store.md, R391–R408): sectors, units and their programs, erases with their journal
and wear, banks and planes. -/

namespace Sys2Proof.Machine

/-- Changes the NV store. -/
def modNvs (f : NvSt → NvSt) (s : State) : State := { s with nvs := f s.nvs }

/-- The sector of a window offset, its first offset and its size (R391). -/
def nvSector (off : Nat) : Nat := if off < 0x1E00000 then off / 0x40000 else 120 + (off - 0x1E00000) / 0x10000
def sectorBase (n : Nat) : Nat := if n < 120 then n * 0x40000 else 0x1E00000 + (n - 120) * 0x10000
def sectorSize (n : Nat) : Nat := if n < 120 then 0x40000 else 0x10000

/-- Whether a sector is indeterminate (R403). -/
def nvIndet (n : Nat) (s : State) : Bool := tget false s.nvs.indet n

/-- The erase count of a sector (R405). -/
def nvErases (n : Nat) (s : State) : Nat := tget 0 s.nvs.erases n

/-- The wait states that a read needs, by fabric frequency, at the low and at the nominal supply (R395). -/
def nvWsNeed (low : Bool) (s : State) : Nat :=
  match s.fld CLK_FABRIC F_CLK_FABRIC_FREQ with
  | 0 => if low then 5 else 4
  | 1 => if low then 11 else 8
  | 2 => if low then 19 else 14
  | _ => if low then 23 else 17

/-- Whether the wait states in force give good data (R395). Which supply is in force comes from outside the part (log 100). -/
def nvWsOk (s : State) : Bool :=
  let ws := s.fld NVS_WS F_NVS_WS_WS
  decide (nvWsNeed true s ≤ ws) || (decide (nvWsNeed false s ≤ ws) && !Config.nvSupplyLow s.sdl.now)

/-- Whether a window offset lies in a unit that reads as uncorrectable, or in a 64-byte granule with one (R394). -/
def nvBadAt (off : Nat) (s : State) : Bool := tget false s.nvs.bad (off / 32)
def nvBadGran (off : Nat) (s : State) : Bool := nvBadAt (off / 64 * 64) s || nvBadAt (off / 64 * 64 + 32) s

/-- An uncorrectable read is counted and recorded (R394). -/
def nvUncorr (off : Nat) (s : State) : State :=
  emit 0x9001 (((s.wr NVS_LAST (BitVec.ofNat 32 off)).incSat NVS_ECC_UNCORR 1).flag NVS_ERR F_NVS_ERR_ECC_UNCORR)

/-- Whether a unit of a table lies in a stretch. -/
def unitIn (off n : Nat) (e : Nat × Bool) : Bool := decide (off ≤ 32 * e.1 ∧ 32 * e.1 < off + n)

/-- Whether a stretch of whole units is blank (R397): no data bit reads 0, no unit is uncorrectable, and none was programmed with ones. -/
def nvBlank (s : State) (off n : Nat) : Bool :=
  (s.nv.filter (fun e => decide (off ≤ e.1 ∧ e.1 < off + n))).isEmpty && (s.nvs.bad.filter (unitIn off n)).isEmpty &&
    (s.nvs.ones.filter (unitIn off n)).isEmpty

/-- Every unit of a stretch becomes blank. -/
def nvClear (off n : Nat) (s : State) : State :=
  { s with nv := s.nv.filter (fun e => !decide (off ≤ e.1 ∧ e.1 < off + n)),
           nvs := { s.nvs with bad := s.nvs.bad.filter (fun e => !unitIn off n e), ones := s.nvs.ones.filter (fun e => !unitIn off n e) } }

/-- A unit is programmed with bytes from its first on, the rest of it ones (R397). -/
def nvUnit (off : Nat) (l : List Byte) (s : State) : State :=
  let s := s.wrNvs off l
  if l.all (fun b => b == 0xFF) then modNvs (fun x => { x with ones := tput false x.ones (off / 32) true }) s else s

/-- The units that bytes fill. -/
def unitsOf (l : List Byte) : Nat := (l.length + 31) / 32

/-- The bytes of unit i of a stretch. -/
def unitAt (l : List Byte) (i : Nat) : List Byte := (l.drop (32 * i)).take 32

/-- Units are programmed, from unit i of a stretch on, n of them. -/
def nvUnits (off : Nat) (l : List Byte) (i n : Nat) (s : State) : State :=
  each ((List.range n).map (· + i)) (fun j t => nvUnit (off + 32 * j) (unitAt l j) t) s

/-- A unit whose program was cut short: blank, the new data, or uncorrectable; which is a free value (R400). -/
def unitCut (off : Nat) (l : List Byte) (s : State) : State :=
  let f := s.fresh
  match f.1 % 3 with
  | 0 => f.2
  | 1 => nvUnit off l f.2
  | _ => modNvs (fun x => { x with bad := tput false x.bad (off / 32) true }) f.2

/-- An engine's program of an indeterminate sector is refused, which NVS_ERR.INDET_PROG shows (R399). -/
def indetProg (s : State) : State := s.flag NVS_ERR F_NVS_ERR_INDET_PROG

/-- A unit is programmed by an engine, unless its sector is indeterminate (R399). -/
def engineUnit (off : Nat) (l : List Byte) (s : State) : State := if nvIndet (nvSector off) s then indetProg s else nvUnit off l s

/-- NVS_INDET and NVS_WEAR show the state of the sectors (R404, R405). -/
def nvShow (s : State) : State :=
  let w := fun k => ((List.range 32).map (fun j => if nvIndet (32 * k + j) s then 2 ^ j else 0)).foldl (· + ·) 0
  let s := each [0, 1, 2, 3, 4] (fun k t => t.wr (NVS_INDET k) (BitVec.ofNat 32 (w k))) s
  s.wr NVS_WEAR (BitVec.ofNat 32 (nvErases (s.fld NVS_WEAR_SEL F_NVS_WEAR_SEL_SECTOR) s % 2 ^ 20))

/-- An erase count that has reached 100,000: WORN, event 0x9007 and a Notice-class record (R405). -/
def nvWorn (n : Nat) (inj : Bool) (s : State) : State :=
  lodge .notice 0x9007 n 0 inj (emit 0x9007 (s.flag NVS_ERR F_NVS_ERR_WORN))

/-! ### The journal (R401–R403) -/

/-- The entry units of a journal row (R401). -/
def jRowUnits : Nat := 112

/-- The CRC-32 of an entry, and that of a summary: sequence, bitmap of 19 bytes and counts of 20 bits (R401; the order of the bytes is a
DESIGN CHOICE, log 131). -/
def jCrc (done : Bool) (sector count seq : Nat) : Nat :=
  crc32 (leBytes (1 + b2n done) 1 ++ leBytes sector 1 ++ leBytes count 3 ++ leBytes seq 4)
def jSumCrc (seq : Nat) (indet : List (Nat × Bool)) (erases : List (Nat × Nat)) : Nat :=
  crc32 (leBytes seq 4 ++ leBytes ((List.range 152).foldl (fun x n => x + b2n (tget false indet n) * 2 ^ n) 0) 19 ++
    leBytes ((List.range 152).foldl (fun x n => x + tget 0 erases n % 2 ^ 20 * 2 ^ (20 * n)) 0) 380)

/-- Whether the CRC of an entry, and that of a row's summary, matches. -/
def jEntryOk (e : JEntry) : Bool := e.crc == jCrc e.done e.sector e.count e.seq
def jRowOk (r : JRow) : Bool := r.crc == jSumCrc r.seq r.indet r.erases

/-- A row of the journal bank. -/
def jRowAt (k : Nat) (s : State) : Option JRow := tget none s.nvs.jrows k

/-- The next erased row after the one in use (R402). -/
def jNext (s : State) : Nat := (([1, 2, 3].map (fun i => (s.nvs.jrow + i) % 4)).find? (fun k => (jRowAt k s).isNone)).getD ((s.nvs.jrow + 1) % 4)

/-- A row is opened with a summary; the row's sequence is the journal sequence of its first entry (log 131). -/
def jOpen (k seq : Nat) (s : State) : State :=
  let r : JRow := { seq := seq, indet := s.nvs.indet, erases := s.nvs.erases, crc := jSumCrc seq s.nvs.indet s.nvs.erases }
  modNvs (fun x => { x with jrows := tput none x.jrows k (some r), jrow := k, jold := [0, 1, 2, 3].any (fun j => j != k && (jRowAt j s).isSome) }) s

/-- The row in use has room for an entry: a full one gives way to the next erased row, and the older rows are then erased (R402). -/
def jRoom (s : State) : State :=
  match jRowAt s.nvs.jrow s with
  | none => jOpen s.nvs.jrow 0 s
  | some r => if r.entries.length < jRowUnits then s else jOpen (jNext s) (r.seq + jRowUnits) s

/-- An entry goes into the row in use. -/
def jPut (e : Nat → JEntry) (s : State) : State :=
  match jRowAt s.nvs.jrow s with
  | none => s
  | some r => modNvs (fun x => { x with jrows := tput none x.jrows x.jrow (some { r with entries := r.entries ++ [e (r.seq + r.entries.length)] }) }) s

/-- An entry of an erase (R402). -/
def jAppend (done : Bool) (n : Nat) (s : State) : State :=
  let c := nvErases n s + b2n done
  jPut (fun q => { done := done, sector := n, count := c, seq := q, crc := jCrc done n c q }) (jRoom s)

/-- The older rows of the journal are erased (R402). -/
def jClear (s : State) : State :=
  if s.nvs.jold then modNvs (fun x => { x with jrows := x.jrows.filter (fun e => e.1 == x.jrow), jold := false }) s else s

/-- The rows whose summary is valid, by number. -/
def jValid (s : State) : List (Nat × JRow) :=
  [0, 1, 2, 3].filterMap (fun k => match jRowAt k s with
    | some r => if jRowOk r then some (k, r) else none
    | none => none)

/-- The row with the latest valid summary (R403). -/
def jLatest (s : State) : Option (Nat × JRow) :=
  (jValid s).foldl (fun b x => match b with
    | none => some x
    | some y => if y.2.seq < x.2.seq then some x else b) none

/-- What a row's summary and its valid entries, in order, say of the sectors (R403). -/
def jReplayRow (r : JRow) : List (Nat × Bool) × List (Nat × Nat) :=
  (r.entries.filter jEntryOk).foldl (fun p e =>
    if e.done then (tput false p.1 e.sector false, tput 0 p.2 e.sector e.count) else (tput false p.1 e.sector true, p.2)) (r.indet, r.erases)

/-- The replay of the journal from the latest valid summary; rows besides it are erased from then on (R402, R403). -/
def jReplay (s : State) : State :=
  match jLatest s with
  | none => modNvs (fun x => { x with indet := [], erases := [], jrows := [], jrow := 0, jold := false }) s
  | some (k, r) =>
    let p := jReplayRow r
    modNvs (fun x => { x with indet := p.1, erases := p.2, jrow := k, jold := [0, 1, 2, 3].any (fun j => j != k && (jRowAt j s).isSome) }) s

/-- BEGIN of an erase: from now on the sector is indeterminate (R402, R403). -/
def eraseBegin (n : Nat) (s : State) : State :=
  let s := modNvs (fun x => { x with indet := tput false x.indet n true }) (jAppend false n s)
  nvShow (if nvErases n s ≥ 100000 then nvWorn n false s else s)

/-- END of an erase, which waits while the journal erases rows: the sector is blank and its erase count one higher (R402, R405). -/
def eraseDone (n : Nat) (s : State) : State :=
  let s := jAppend true n (nvClear (sectorBase n) (sectorSize n) (jClear s))
  nvShow (modNvs (fun x => { x with indet := tput false x.indet n false, erases := tput 0 x.erases n (tget 0 x.erases n + 1) }) s)

/-- A whole erase of a sector. -/
def eraseSector (n : Nat) (s : State) : State := eraseDone n (eraseBegin n (jClear s))

/-! ### Banks and planes (R401, R406–R408) -/

/-- The bank of a sector: 0 main, 1 parameter; and its plane: 0 and 1 of the main bank, 2 the parameter bank. -/
def bankOf (n : Nat) : Nat := if n < 120 then 0 else 1
def planeOf (n : Nat) : Nat := if n < 120 then n % 2 else 2

/-- The erase in progress in a bank. -/
def bankErase (b : Nat) (s : State) : Option NvErase := tget none s.nvs.erase b

/-- Stores the erase of a bank. -/
def setErase (b : Nat) (e : Option NvErase) (s : State) : State := modNvs (fun x => { x with erase := tput none x.erase b e }) s

/-- Whether an erase is suspended for the duration of a program to another sector of its plane: a direct one, or a record's (R406, R413). -/
def autoHeld (e : NvErase) (s : State) : Bool :=
  (match s.nvs.prog with
    | some p => nvSector p.1 != e.sector && planeOf (nvSector p.1) == planeOf e.sector
    | none => false) ||
  (s.nvs.recw.isSome && !s.nvs.recHold && planeOf e.sector == 2)

/-- Whether an erase is suspended, explicitly or automatically (R406). -/
def eraseHeld (e : NvErase) (s : State) : Bool := e.susp || autoHeld e s

/-- NVS_STATUS shows what the banks do and the suspended erase (R407). -/
def nvBusyShow (s : State) : State :=
  let busy := fun b => (match bankErase b s with
    | some e => !eraseHeld e s
    | none => false) || (match s.nvs.prog with
      | some p => bankOf (nvSector p.1) == b
      | none => false)
  let s := (s.setf NVS_STATUS F_NVS_STATUS_MAIN_BUSY (b2n (busy 0 || s.nvs.commit.isSome))).setf NVS_STATUS F_NVS_STATUS_PAR_BUSY (b2n (busy 1 || s.nvs.recw.isSome))
  let held := [0, 1].filterMap (fun b => match bankErase b s with
    | some e => if eraseHeld e s then some e.sector else none
    | none => none)
  let s := s.setf NVS_STATUS F_NVS_STATUS_SUSPENDED (b2n (!held.isEmpty))
  s.setf NVS_STATUS F_NVS_STATUS_SUSP_SECTOR (held.headD 0)

/-- The erase of a bank begins, unless the journal is erasing rows (R402). -/
def eraseGo (b : Nat) (s : State) : State :=
  match bankErase b s with
  | some e => if e.begun || s.nvs.jold then s else eraseBegin e.sector (setErase b (some { e with begun := true }) s)
  | none => s

/-- An erase is taken up by a bank. -/
def eraseStart (n : Nat) (direct : Bool) (s : State) : State :=
  nvBusyShow (eraseGo (bankOf n) (setErase (bankOf n) (some { sector := n, direct := direct, begun := false }) s))

/-- The erase of older rows has ended: the erases that waited for the journal begin (R402). -/
def jErased (s : State) : State := if s.nvs.jold then nvBusyShow (eraseGo 1 (eraseGo 0 (jClear s))) else s

/-- An erase of an engine starts when the bank is free (R408). -/
def engineErase (n : Nat) (s : State) : State := if (bankErase (bankOf n) s).isSome then s else eraseStart n false s

end Sys2Proof.Machine
end

