-- ==== Sys2Proof/Machine/Dma.lean ====
section
/-! DEFINITION. The DMA engine (spec/10_firmware_platform.md, R382–R389). A channel's registers cannot change while it is BUSY
(R389), so they and DMA_DONE_BYTES are the transfer's whole state. -/

namespace Sys2Proof.Machine

/-- The source or destination address of a channel. -/
def dmaAddr (lo hi : Reg) (s : State) : Nat := (s.rd lo).toNat + 2 ^ 32 * s.fld hi ⟨0, 16⟩

/-- The source address of a channel. -/
def dmaSrc (n : Nat) (s : State) : Nat := dmaAddr (DMA_SRC_LO n) (DMA_SRC_HI n) s

/-- The destination address of a channel. -/
def dmaDst (n : Nat) (s : State) : Nat := dmaAddr (DMA_DST_LO n) (DMA_DST_HI n) s

/-- The address of byte `i` of an operand, linear (k = 0) or circular (R383). -/
def dmaAt (base k i : Nat) : Nat := if k = 0 then base + i else base + i % 2 ^ k

/-- The length of the range that is checked (R383). -/
def dmaLen (count k : Nat) : Nat := if k = 0 then count else min count (2 ^ k)

/-- Whether a range lies within one region (R382). -/
def dmaIn (lo hi a len : Nat) : Bool := decide (lo ≤ a ∧ a + len ≤ hi)

/-- Whether a range touches a cache way that is OFF: way w lies at 0x20_0000_0000 + w × 4 GiB (R262, R382). -/
def rangeOff (s : State) (a len : Nat) : Bool :=
  (List.range 16).any (fun w =>
    fget (s.rd BUF_WAY_STATE) ⟨2 * w, 2⟩ == 0 &&
      decide (0x2000000000 + w * 0x100000000 < a + len ∧ a < 0x2100000000 + w * 0x100000000))

/-- Whether a range may be an operand: a destination, or any operand of a compare, lies in shared SRAM or DRAM; a source
of a copy may lie in the boot ROM or the NV store window as well; no range crosses a region or lies in a way that is
OFF (R382). -/
def dmaRange (s : State) (src : Bool) (a len : Nat) : Bool :=
  let wr := dmaIn 0x20000000 0x20800000 a len || (dmaIn 0x1000000000 0x3000000000 a len && !rangeOff s a len)
  wr || (src && (dmaIn 0 0x40000 a len || dmaIn 0x10000000 0x12000000 a len))

/-- A channel ends (R387): STATUS shows END, ERR and DONE; an error is counted and emits 0x8006. -/
def dmaEnd (n endc err : Nat) (s : State) : State :=
  let s := s.setf (DMA_STATUS n) F_DMA_STATUS_BUSY 0
  let s := s.setf (DMA_STATUS n) F_DMA_STATUS_END endc
  let s := s.setf (DMA_STATUS n) F_DMA_STATUS_ERR err
  let s := s.flag (DMA_STATUS n) F_DMA_STATUS_DONE
  if endc = 3 then emit 0x8006 (s.incSat DMA_ERRORS 1) else s

/-- Whether a channel is busy. -/
def dmaBusy (n : Nat) (s : State) : Bool := decide (s.fld (DMA_STATUS n) F_DMA_STATUS_BUSY = 1)

/-- The alignment of a circular operand's base (R383). -/
def dmaAligned (a k : Nat) : Bool := k == 0 || a % 2 ^ k == 0

/-- A value of SRC_K or DST_K that is in range: 0 or 12 to 30 (R383, R389). -/
def dmaKOk (k : Nat) : Bool := k == 0 || decide (12 ≤ k ∧ k ≤ 30)

/-- Starts a channel whose control word has been stored: every operand's whole range is checked before any byte moves (R382,
R383). -/
def dmaGo (n : Nat) (s : State) : State :=
  let sk := s.fld (DMA_CTL n) F_DMA_CTL_SRC_K
  let dk := s.fld (DMA_CTL n) F_DMA_CTL_DST_K
  let mode := s.fld (DMA_CTL n) F_DMA_CTL_MODE
  let cnt := (s.rd (DMA_COUNT n)).toNat
  let s := (s.wr (DMA_DONE_BYTES n) 0).wr (DMA_STATUS n) 0
  let useSrc := mode != 1
  let reg := decide (cnt % 8 = 0 ∧ 8 ≤ cnt ∧ dmaDst n s % 8 = 0) && dmaRange s false (dmaDst n s) (dmaLen cnt dk) &&
    (!useSrc || (decide (dmaSrc n s % 8 = 0) && dmaRange s (mode == 0) (dmaSrc n s) (dmaLen cnt sk)))
  if !(dmaAligned (dmaDst n s) dk && (!useSrc || dmaAligned (dmaSrc n s) sk)) then dmaEnd n 3 2 s
  else if !reg then dmaEnd n 3 1 s
  else s.flag (DMA_STATUS n) F_DMA_STATUS_BUSY

/-- The fields of DMA_CTL a write gives, each refused alone when its value is out of range (R389). -/
def dmaCtlWrite (n : Nat) (v : W32) (s : State) : State :=
  let put := fun (f : Fld) (good : Bool) (t : State) => if good then t.setf (DMA_CTL n) f (fget v f) else t
  let sk := dmaKOk (fget v F_DMA_CTL_SRC_K)
  let dk := dmaKOk (fget v F_DMA_CTL_DST_K)
  let md := decide (fget v F_DMA_CTL_MODE ≤ 2)
  let s := put F_DMA_CTL_SRC_K sk (put F_DMA_CTL_DST_K dk (put F_DMA_CTL_MODE md s))
  let s := put F_DMA_CTL_CORE true (put F_DMA_CTL_IRQ_EN true (put F_DMA_CTL_PRIO true s))
  if sk && dk && md then s else deny s

/-- DMA_START: a write of DMA_CTL with START (R382, R383, R389). While the channel is BUSY it is refused; a value out of range is
refused and nothing starts. -/
def execDmaStart (m : Master) (n : DmaCh) (v : W32) (s : State) : Host.Outcome State Fault Refusal :=
  ok (if m.toNat = 9 ∨ dmaBusy n.toNat s then deny s
    else
      let t := dmaCtlWrite n.toNat v s
      if dmaKOk (fget v F_DMA_CTL_SRC_K) && dmaKOk (fget v F_DMA_CTL_DST_K) && decide (fget v F_DMA_CTL_MODE ≤ 2) then
        dmaGo n.toNat t
      else t)

/-- DMA_STOP: a BUSY channel ends after the burst in progress with END = 2; bursts are single steps here, so it ends at once
(R387). -/
def execDmaStop (m : Master) (n : DmaCh) (s : State) : Host.Outcome State Fault Refusal :=
  ok (if m.toNat = 9 then deny s else onlyIf (dmaBusy n.toNat s) (dmaEnd n.toNat 2 0) s)

/-- A source byte of a copy; a way that is OFF reads 0 (R262). -/
def dmaByte (a : Nat) (s : State) : Byte := if wayOff a s then 0 else s.rdAny a

/-- Whether the granule of a source byte is poisoned; an uncorrectable unit of the NV store poisons its granule (R385, R394). -/
def dmaPoison (a : Nat) (s : State) : Bool := if inNvWin a then nvBadGran (a - 0x10000000) s else !wayOff a s && s.poisoned a

/-- The granules of the NV window among the source bytes of a burst, by their first window offset. -/
def dmaNvGrans (src : Nat → Nat) (len : Nat) : List Nat :=
  (((List.range len).filter (fun j => inNvWin (src j))).map (fun j => (src j - 0x10000000) / 64 * 64)).eraseDups

/-- What the reads of a burst in the NV window leave (R394): each poisoned granule is counted and recorded; whether a read is corrected comes from the
array, and is a free value. -/
def dmaNvEcc (src : Nat → Nat) (len : Nat) (s : State) : State :=
  let one := fun (g : Nat) (t : State) =>
    if nvBadGran g t then nvUncorr g t
    else
      let f := t.fresh
      if f.1 % 2 = 1 then f.2.incSat NVS_ECC_CORR 1 else f.2
  each (dmaNvGrans src len) one s

/-- The poison of the destination granule of a burst: set when a poisoned byte is written into it, else left as it stands where only part of the
granule is written, and cleared when all of it is (R385; the partial case is a DESIGN CHOICE). -/
def dmaMark (g len : Nat) (bad : Bool) (s : State) : State :=
  if wayOff g s then s else s.setPoison g (bad || (s.poisoned g && decide (len < 64)))

/-- One burst of a copy: its source bytes are read before the destination is written (R384), and poison travels with them (R385). Bytes
of the NV window read with too few wait states are free (R395). -/
def dmaCopy (n i len : Nat) (s : State) : State :=
  let sk := s.fld (DMA_CTL n) F_DMA_CTL_SRC_K
  let src := fun j => dmaAt (dmaSrc n s) sk (i + j)
  let thin := !nvWsOk s && (List.range len).any (fun j => inNvWin (src j))
  let s := dmaNvEcc src len s
  let f := s.fresh
  let free := leBytes f.1 len
  let dst := dmaAt (dmaDst n s) (s.fld (DMA_CTL n) F_DMA_CTL_DST_K) i
  let bytes := (List.range len).map (fun j => if thin && inNvWin (src j) then free.getD j 0 else dmaByte (src j) s)
  dmaMark dst len ((List.range len).any (fun j => dmaPoison (src j) s)) ((if thin then f.2 else s).wrMem dst bytes)

/-- One burst of a fill: the 64-bit FILL value repeated, good data (R385). -/
def dmaFill (n i len : Nat) (s : State) : State :=
  let dst := dmaAt (dmaDst n s) (s.fld (DMA_CTL n) F_DMA_CTL_DST_K) i
  let pat := leBytes (s.rd (DMA_FILL_LO n)).toNat 4 ++ leBytes (s.rd (DMA_FILL_HI n)).toNat 4
  dmaMark dst len false (s.wrMem dst ((List.range len).map (fun j => pat.getD ((i + j) % 8) 0)))

/-- The first byte offset, from `i` on, of a poisoned granule in either operand, and of a differing 8-byte word (R385, R386). -/
def dmaDiff (n : Nat) (s : State) (i : Nat) : Option (Nat × Bool) :=
  let sk := s.fld (DMA_CTL n) F_DMA_CTL_SRC_K
  let dk := s.fld (DMA_CTL n) F_DMA_CTL_DST_K
  let a := fun j => dmaAt (dmaSrc n s) sk j
  let b := fun j => dmaAt (dmaDst n s) dk j
  let bad := fun k => !wayOff k s && s.poisoned k
  if bad (a i) || bad (b i) then some (i, true)
  else if (List.range 8).any (fun j => dmaByte (a (i + j)) s != dmaByte (b (i + j)) s) then some (i, false)
  else none

/-- Whether a burst's source reads of the NV window return the indeterminate flag (R385, R404). -/
def dmaIndet (n i len : Nat) (s : State) : Bool :=
  let a := fun j => dmaAt (dmaSrc n s) (s.fld (DMA_CTL n) F_DMA_CTL_SRC_K) (i + j)
  (List.range len).any (fun j => inNvWin (a j) && nvIndet (nvSector (a j - 0x10000000)) s)

/-- The length of the next burst: up to 64 bytes, a copy's or a fill's ending with its destination granule (R384; the cut is a DESIGN CHOICE). -/
def dmaLenAt (n mode i left : Nat) (s : State) : Nat :=
  if mode = 2 then min 64 left
  else min (64 - dmaAt (dmaDst n s) (s.fld (DMA_CTL n) F_DMA_CTL_DST_K) i % 64) left

/-- One burst of a busy channel (R384–R388). -/
def dmaBurst (n : Nat) (s : State) : State :=
  let i := (s.rd (DMA_DONE_BYTES n)).toNat
  let cnt := (s.rd (DMA_COUNT n)).toNat
  let mode := s.fld (DMA_CTL n) F_DMA_CTL_MODE
  let len := dmaLenAt n mode i (cnt - i) s
  let done := fun (t : State) =>
    let t := t.wr (DMA_DONE_BYTES n) (BitVec.ofNat 32 (i + len))
    if i + len ≥ cnt then dmaEnd n 1 0 t else t
  if mode = 2 then
    match ((List.range 8).filter (fun w => 8 * w < len)).findSome? (fun w => dmaDiff n s (i + 8 * w)) with
    | some (off, poison) =>
      dmaEnd n (if poison then 3 else 4) (if poison then 3 else 0) (s.wr (DMA_MISMATCH n) (BitVec.ofNat 32 off))
    | none => done s
  else if mode = 1 then done (dmaFill n i len s)
  else if dmaIndet n i len s then dmaEnd n 3 4 s
  else done (dmaCopy n i len s)

/-- The channel of a level served last (R388). -/
def dmaPrev (prio : Nat) (s : State) : Nat := if prio = 1 then s.dmaLast.1 else s.dmaLast.2

/-- The busy channels of a priority, in round-robin order after the channel of that priority served last (R388). -/
def dmaReady (prio : Nat) (s : State) : List Nat :=
  ((List.range 64).map (fun k => (dmaPrev prio s + 1 + k) % 64)).filter
    (fun n => dmaBusy n s && s.fld (DMA_CTL n) F_DMA_CTL_PRIO == prio)

/-- The channel whose turn it is (R388). -/
def dmaTurn (s : State) : Option Nat :=
  match dmaReady 1 s with
  | n :: _ => some n
  | [] => (dmaReady 0 s).head?

/-- DMA_BURST: the channel whose turn it is moves one burst; with none ready nothing moves (R388). -/
def execDmaBurst (s : State) : Host.Outcome State Fault Refusal :=
  ok (match dmaTurn s with
    | none => s
    | some n => dmaBurst n { s with dmaLast := if s.fld (DMA_CTL n) F_DMA_CTL_PRIO = 1 then (n, s.dmaLast.2) else (s.dmaLast.1, n) })

/-- Whether a core's DMA interrupt is asserted (R360, R387). -/
def dmaIrq (c : Nat) (s : State) : Bool :=
  (List.range 64).any (fun n => s.fld (DMA_STATUS n) F_DMA_STATUS_DONE == 1 && s.fld (DMA_CTL n) F_DMA_CTL_IRQ_EN == 1 &&
    s.fld (DMA_CTL n) F_DMA_CTL_CORE == c)

end Sys2Proof.Machine
end

