-- ==== Sys2Proof/Machine/HostBase.lean ====
section
/-! DEFINITION. What the host interface shares (spec/09_host_interface.md): the task table and its locks, completions, asynchronous events,
and the removal of commands by resets (R314–R325, R339). -/

namespace Sys2Proof.Machine

/-- Changes the host interface. -/
def modHif (f : HifSt → HifSt) (s : State) : State := { s with hif := f s.hif }

/-- The command of a task tag. -/
def task (t : Nat) (s : State) : Option HTask := tget none s.hif.tasks t

/-- Stores a task slot. -/
def setTask (t : Nat) (x : Option HTask) (s : State) : State := modHif (fun h => { h with tasks := tput none h.tasks t x }) s

/-- Changes the command of a tag. -/
def modTask (t : Nat) (f : HTask → HTask) (s : State) : State := modHif (fun h => { h with tasks := tput none h.tasks t ((tget none h.tasks t).map f) }) s

/-- The commands in the task table, with their tags. -/
def tasksOf (s : State) : List (Nat × HTask) := s.hif.tasks.filterMap (fun x => x.2.map (fun h => (x.1, h)))

/-- HIF_TT_STATE. -/
def hifShow (s : State) : State :=
  let l := tasksOf s
  let s := s.setf HIF_TT_STATE F_HIF_TT_STATE_USED l.length
  s.setf HIF_TT_STATE F_HIF_TT_STATE_PRESENTABLE ((l.filter (fun x => x.2.st == 1)).length)

/-- Counts a statistic of HIF_STATS (R356). -/
def hifStat (n k : Nat) (s : State) : State := s.ctrWrap (HIF_STATS n) 64 k

/-- A dword of a command. -/
def HTask.dw (x : HTask) (i : Nat) : Nat := (x.sqe.getD i 0).toNat

/-- Opcode, command identifier and namespace of a command (NVM Express). -/
def HTask.op (x : HTask) : Nat := x.dw 0 % 256
def HTask.cid (x : HTask) : Nat := x.dw 0 / 65536
def HTask.nsid (x : HTask) : Nat := x.dw 1

/-- The submission queue and completion queue of a number. -/
def sq (i : Nat) (s : State) : Option SqSt := tget none s.hif.sqs i
def cq (i : Nat) (s : State) : Option CqSt := tget none s.hif.cqs i

/-! ### Completions (R320, R355) -/

/-- The Do Not Retry bit of a status: as the table under R355 and R349 say; where the spec says nothing a free value. -/
def dnrOf (sct sc : Nat) (s : State) : Nat :=
  if sct = 7 then (if sc < 0x83 then 0 else 1) else if sct = 0 ∧ (sc = 0 ∨ sc = 0x82) then 0 else s.fresh.1 % 2

/-- The status bits of HIF_CPL2 (R320). -/
def statusBits (sct sc dnr : Nat) : Nat := dnr * 2 ^ 30 + sct % 8 * 2 ^ 24 + sc % 256 * 2 ^ 16

/-- A command with bits that ask for a fused operation or an SGL, neither of which is supported (R309, NVM Express). -/
def HTask.odd (x : HTask) : Bool := x.dw 0 / 256 % 4 != 0 || x.dw 0 / 16384 % 4 != 0

/-- A completion is posted for a command with status bits and two dwords (R320, R321). -/
def postCpl (t status : Nat) (dw0 dw1 : W32) (s : State) : State :=
  match task t s with
  | none => s
  | some x =>
    let q := sq x.sqid s
    let c : HCpl := { tag := t, cq := (q.map (fun y => y.cq)).getD 0, sqid := x.sqid, sqhd := (q.map (fun y => y.head)).getD 0, cid := x.cid,
                      status := status, dw0 := dw0, dw1 := dw1 }
    hifShow (modHif (fun h => { h with cpls := h.cpls ++ [c] }) (modTask t (fun y => { y with st := 3 }) s))

/-- A command is completed by resident firmware with a status and dword 0; a status other than success enters the Error Information log. -/
def completeDw (t sct sc : Nat) (dw0 : W32) (s : State) : State :=
  let d := dnrOf sct sc s
  let s := if sct = 0 ∧ sc = 0 then s else s.fresh.2
  let s := match task t s with
    | some x => if sct = 0 ∧ sc = 0 then s
      else modHif (fun h => { h with errs := ((x.sqid, x.cid, sct * 256 + sc, x.lba, x.nsid) :: h.errs).take 64, errCnt := h.errCnt + 1 }) s
    | none => s
  postCpl t (statusBits sct sc d) dw0 0 s

/-- A command is completed with a status. -/
def complete (t sct sc : Nat) (s : State) : State := completeDw t sct sc 0 s

/-! ### Asynchronous events (R309) -/

/-- Features by identifier and selector, with the reset values of the Arbitration feature (R312). -/
def feat (id sel : Nat) (s : State) : Nat := tget (if id = 1 then 0x03010003 else 0) s.hif.feats (65536 * id + sel)

/-- Reports waiting events, one for each waiting request: dword 0 holds type, information and log page (NVM Express). -/
def asyncFlush (s : State) : State :=
  match s.hif.aers, s.hif.aerEv with
  | t :: r, (ty, info, page) :: evs =>
    completeDw t 0 0 (BitVec.ofNat 32 (ty % 8 + info % 256 * 256 + page % 256 * 65536)) (modHif (fun h => { h with aers := r, aerEv := evs }) s)
  | _, _ => s

/-- An asynchronous event is posted; one of the same type already waiting covers it. -/
def asyncPost (ty info page : Nat) (s : State) : State :=
  if s.hif.aerEv.any (fun e => e.1 == ty && e.2.2 == page) then s
  else asyncFlush (modHif (fun h => { h with aerEv := h.aerEv ++ [(ty, info, page)] }) s)

/-- An event of type SMART / Health for the critical warning (R353, R441). -/
def asyncHealth (s : State) : State := asyncPost 1 0 2 s

/-! ### Removal by resets (R307, R308, R339, R340) -/

/-- Every command is removed without completion: tasks, locks, completions not yet written, requests of the data mover, which end
with result 3, event requests. -/
def hostRemove (s : State) : State :=
  hifShow (modHif (fun h => { h with tasks := [], cpls := [], aers := [], aerEv := [], xfers := [], xres := h.xfers.map (fun x => (x.tag, 3, 0, 0)), sqs := [], cqs := [], arb := [], arbCls := (4, 0), commit := none }) s)

/-- What a controller reset does to the NVMe controller: CC.EN and CSTS.RDY 0, queues gone, features at their defaults, commands removed,
event 0x7003. -/
def hostReset (s : State) : State :=
  let s := hostRemove s
  let s := modHif (fun h => { h with en := false, rdy := false, shut := false, feats := [] }) s
  emit 0x7003 s

end Sys2Proof.Machine
end

