-- ==== Sys2Proof/Machine/Kiosk.lean ====
section
/-! DEFINITION. Kiosk channels (spec/10_firmware_platform.md, R363–R375): ownership of the ends, posting, receiving, resets of
ends, and the replies to messages. -/

namespace Sys2Proof.Machine

/-- The core pairs of channels 8 to 35, in channel order (R363). -/
def corePairs : List (Nat × Nat) :=
  (List.range 8).flatMap (fun p => ((List.range 8).filter (fun q => decide (p < q))).map (fun q => (p, q)))

/-- The pair of cores of a channel from 8 to 35 (R363). -/
def pairOf (c : Nat) : Nat × Nat := corePairs.getD (c - 8) (0, 0)

/-- The core that KSK_HOST_ROUTE names for a host channel (R363). -/
def routedCore (c : Nat) (s : State) : Nat := fget (s.rd KSK_HOST_ROUTE) ⟨3 * c, 3⟩

/-- The core an end interrupts, when its receiver is a core (R360, R363). -/
def endCore (c e : Nat) (s : State) : Option Nat :=
  if c < 8 then (if e = 0 then some (routedCore c s) else none)
  else if c < 36 then (if e = 0 then some (pairOf c).1 else some (pairOf c).2)
  else if e = 0 then some (c - 36) else none

/-- Whether a master owns an end (R363, R364). -/
def ownsEnd (m c e : Nat) : Bool :=
  if c < 8 then (if e = 0 then decide (m < 8) else decide (m = 9))
  else if c < 36 then (if e = 0 then decide (m = (pairOf c).1) else decide (m = (pairOf c).2))
  else if c < 44 then (if e = 0 then decide (m = c - 36) else decide (m = 10))
  else false

/-- Whether a core is still in reset: core 0 leaves it in stage 3 of start-up, the others in stage 6 (R508). -/
def coreInReset (n : Nat) (s : State) : Bool := decide (s.fld PWR_BOOT F_PWR_BOOT_STAGE < if n = 0 then 3 else 6)

/-- Whether an end is held in reset (R371): the host end while PERST# is asserted, a core end and the firmware end of a host channel until its
core leaves reset, every end but the Gatehouse's during the internal reset. -/
def endInReset (c e : Nat) (s : State) : Bool :=
  let host := decide (c < 8 ∧ e = 1)
  let gate := decide (36 ≤ c ∧ e = 1)
  (host && s.plat.perst) || (!gate && decide (s.plat.rst = .held)) || (gate && s.plat.ghDown) ||
    (match endCore c e s with
     | some n => coreInReset n s
     | none => false)

/-- The queue toward an end. -/
def kq (c e : Nat) (s : State) : List KItem := tget [] s.ksk (2 * c + e)

/-- Stores the queue toward an end. -/
def setKq (c e : Nat) (q : List KItem) (s : State) : State := { s with ksk := tput [] s.ksk (2 * c + e) q }

/-- Whether a place of a queue holds a word. -/
def KItem.isWord : KItem → Bool
  | .word _ => true
  | .marker _ => false

/-- The number of words in a queue. -/
def kwords (q : List KItem) : Nat := (q.filter KItem.isWord).length

/-- Returns the registers of a core's reset domain CORE to their reset values (R498, R362): its tag-engine window, its
copies of HIF_CPL and HIF_XFER, and its Sundial compare registers. -/
def coreRegsReset (n : Nat) (s : State) : State :=
  let rs := [BUF_TE_CMD n, BUF_TE_KEY0 n, BUF_TE_KEY1 n, BUF_TE_RES0 n, BUF_TE_RES1 n, HIF_CPL0 n, HIF_CPL1 n, HIF_CPL2 n,
    HIF_XFER0 n, HIF_XFER1 n, HIF_XFER2 n, HIF_XFER3 n, SDL_CMP_LO n, SDL_CMP_HI n, SDL_CMP_CTL n]
  let s := each rs (fun r t => t.clr r) s
  { s with sdl := { s.sdl with cmpHi := tput 0 s.sdl.cmpHi n 0 },
           snap := tdel (BUF_TE_RES0 n).key (tdel (BUF_TE_RES1 n).key s.snap) }

/-- Powers a core up, with the L2 and fabric domain when that is off (R366, R497, R498). -/
def corePowerUp (n : Nat) (s : State) : State :=
  if s.domOn (72 + n) then s else coreRegsReset n ((s.setDom 80 true).setDom (72 + n) true)

/-- A sending end sees EMPTY (R367); the host end signals vector 2,040 + c while its EMPTY_EN is set (R305, R390; DEDUCED). -/
def kEmpty (c e : Nat) (s : State) : State :=
  let s := s.flag (KSK_IRQ c e) F_KSK_IRQ_EMPTY
  if c < 8 ∧ e = 1 ∧ s.fld (KSK_IRQ_EN c 1) F_KSK_IRQ_EN_EMPTY_EN = 1 then msixSignal (2040 + c) s else s

/-- Words discarded before the receiving end `e`: they are counted at the sending end, which sees EMPTY and DISCARDED together,
and event 0x8001 is emitted; nothing happens when there were none (R368). -/
def kDiscarded (c e n : Nat) (s : State) : State :=
  if n = 0 then s
  else emit 0x8001 (kEmpty c (1 - e) ((s.incSat (KSK_DISC c (1 - e)) n).flag (KSK_IRQ c (1 - e)) F_KSK_IRQ_DISCARDED))

/-- A posting powers up the receiving core's domain (R37, R361). -/
def kWake (c e : Nat) (s : State) : State :=
  match endCore c e s with
  | some n => corePowerUp n s
  | none => s

/-- The receiver's RX is asserted for a queue that was empty (R366): a core that is off is powered up, and the host is
signalled on vector 2,040 + c while its RX is enabled. -/
def kRxRise (c e : Nat) (s : State) : State :=
  match endCore c e s with
  | some n => corePowerUp n s
  | none =>
    if c < 8 ∧ e = 1 ∧ s.fld (KSK_IRQ_EN c 1) F_KSK_IRQ_EN_RX_EN = 1 then
      msixSignal (2040 + c) s
    else s

/-- A word posted from end `e` toward the other end by that end's owner (R365, R366, R368, R371). -/
def kPost (c e : Nat) (w : W32) (s : State) : State :=
  let o := 1 - e
  if endInReset c e s then deny s
  else if endInReset c o s then kDiscarded c o 1 s
  else if kwords (kq c o s) ≥ 16 then
    emit 0x8003 (deny (s.flag (KSK_IRQ c e) F_KSK_IRQ_OVERRUN))
  else
    let was := kq c o s
    let s := setKq c o (was ++ [.word w]) s
    if was.isEmpty then kRxRise c o s else kWake c o s

/-- The oldest place of the queue toward an end is removed (R367, R369). -/
def kTake (c e : Nat) (s : State) : State :=
  match kq c e s with
  | [] => { s with rdata := 0 }
  | .word w :: r =>
    let s := { setKq c e r s with rdata := w }
    if kwords r = 0 then kEmpty c (1 - e) s else s
  | .marker n :: r => { setKq c e r s with rdata := BitVec.ofNat 32 (0xFFFF0000 + n % 65536) }

/-- The marker in a queue with its count of further sender resets raised, or `none` when the queue holds no marker. -/
def kRaise : List KItem → Option (List KItem)
  | [] => none
  | .marker n :: r => some (.marker (n + 1) :: r)
  | .word w :: r => (kRaise r).map (fun q => .word w :: q)

/-- An end is reset as a sender (R369). A marker in an empty queue asserts RX at the host end (R366); it powers no core up, since
it is no posting (R361). -/
def kSenderReset (c e : Nat) (s : State) : State :=
  match kRaise (kq c (1 - e) s) with
  | some q => setKq c (1 - e) q s
  | none =>
    let was := kq c (1 - e) s
    let s := emit 0x8002 (setKq c (1 - e) (was ++ [.marker 0]) s)
    if was.isEmpty && (endCore c (1 - e) s).isNone then kRxRise c (1 - e) s else s

/-- The registers of an end's window take their reset values (R390). -/
def kWindowReset (c e : Nat) (s : State) : State :=
  ((s.clr (KSK_IRQ c e)).clr (KSK_IRQ_EN c e)).clr (KSK_DISC c e)

/-- An end is reset as a receiver and as a sender (R368, R369); when the other end is in reset as well, both queues are
emptied with no marker and no count (R370). -/
def kEndReset (c e : Nat) (both : Bool) (s : State) : State :=
  if both then kWindowReset c e (setKq c e [] (setKq c (1 - e) [] s))
  else
    let n := kwords (kq c e s)
    kWindowReset c e (kSenderReset c e (kDiscarded c e n (setKq c e [] s)))

/-- The ends of Kiosk channels that the reset of a set of cores resets (R362, R371). -/
def coreEnds (cores : List Nat) (s : State) : List (Nat × Nat) :=
  (List.range 44).flatMap (fun c => ([0, 1].filter (fun e =>
    match endCore c e s with
    | some n => cores.contains n
    | none => false)).map (fun e => (c, e)))

/-- Resets ends in one cycle (R368–R370). -/
def kResetEnds (ends : List (Nat × Nat)) (s : State) : State :=
  each ends (fun p t => kEndReset p.1 p.2 (ends.contains (p.1, 1 - p.2) || endInReset p.1 (1 - p.2) t) t) s

/-! ### Messages and their replies -/

/-- The header of a reply fragment (R372, R373). -/
def replyHeader (op seq len : Nat) (more : Bool) : W32 :=
  BitVec.ofNat 32 (op * 2 ^ 24 + len * 2 ^ 20 + 2 ^ 17 + b2n more * 2 ^ 16 + seq % 65536)

/-- The fragments of a reply: at most 15 payload words each, all but the last with MORE (R373). -/
def replyFrags (op seq : Nat) : Nat → List W32 → List (List W32)
  | 0, _ => []
  | f + 1, p =>
    if p.length ≤ 15 then [replyHeader op seq p.length false :: p]
    else (replyHeader op seq 15 true :: p.take 15) :: replyFrags op seq f (p.drop 15)

/-- Whether the queue toward an end has room for a number of words. -/
def kRoom (c e n : Nat) (s : State) : Bool := decide (kwords (kq c e s) + n ≤ 16)

/-- Posts a whole fragment from end `e`. -/
def kPostAll (c e : Nat) (ws : List W32) (s : State) : State := each ws (fun w t => kPost c e w t) s

/-- A fragment is posted when the receiver has room for all of it and no earlier one waits; otherwise it waits (R374, R449). A reply of one
fragment, 16 words at most, is so posted whole; one of two fragments (the ECHO of 15 words) never has room in a queue of 16 words at once
and is posted fragment by fragment (DESIGN CHOICE, log 149). -/
def replyFrag (c e : Nat) (ws : List W32) (s : State) : State :=
  if kRoom c (1 - e) ws.length s ∧ !(s.replies.any (fun h => h.chan = c ∧ h.toEnd = 1 - e)) then kPostAll c e ws s
  else { s with replies := s.replies ++ [⟨c, 1 - e, ws⟩] }

/-- A reply of resident firmware on a host channel; statuses 1, 2 and 5 emit event 0x8007 (R372–R376). -/
def hostReply (c op seq status : Nat) (payload : List W32) (s : State) : State :=
  let s := if status = 1 ∨ status = 2 ∨ status = 5 then emit 0x8007 s else s
  each (replyFrags op seq 8 (BitVec.ofNat 32 status :: payload)) (fun ws t => replyFrag c 0 ws t) s

/-- Whether an earlier message of a channel is still under way, its reply waiting for room among it (R374, R449). -/
def msgBusy (c : Nat) (s : State) : Bool :=
  s.replies.any (fun r => r.chan == c) ||
    (if c < 8 then s.hif.jobs.any (fun j => j.chan == c) || s.sec.waits.any (fun w => w.1 == c) || s.ice.tokens.any (fun t => t.1 == c)
     else s.gh.waits.any (fun w => w.core == c - 36) || s.gh.chopTest.any (fun r => r.2.any (fun x => x.1 == c - 36)))

/-- A message is served when no earlier one of its channel is under way or waits; otherwise it waits behind them (R374, R449). -/
def msgTurn (m : HeldMsg) (f : State → State) (s : State) : State :=
  if msgBusy m.chan s || s.held.any (fun x => x.chan == m.chan) then { s with held := s.held ++ [m] } else f s

/-- A message that resident firmware serves: on host channels 0 to 7 (R363), one at a time in order (R374); in recovery mode the boot ROM serves
channel 0 alone, and of these operations it knows none (R375, R512). -/
def hostMsg (c op seq : Nat) (words : List W32) (f : State → State) (s : State) : State :=
  if 8 ≤ c then s
  else if s.fld PWR_BOOT F_PWR_BOOT_RECOVERY = 1 then (if c = 0 then hostReply 0 op seq 1 [] s else s)
  else msgTurn { chan := c, op := op, seq := seq, words := words } f s

/-- Whether the Gatehouse cores execute; after a Grave fault of their own they have stopped (R425). -/
def ghRunning (s : State) : Bool := decide (s.fld GH_ID F_GH_ID_RUNNING = 1)

/-- A reply of the Gatehouse on a core's channel; statuses 1, 2, 3 and 5 emit event 0xA00E (R449). Stopped cores answer nothing (R425). -/
def ghReply (core op seq status : Nat) (payload : List W32) (s : State) : State :=
  if !ghRunning s then s else
  let s := if status = 1 ∨ status = 2 ∨ status = 3 ∨ status = 5 then emit 0xA00E s else s
  each (replyFrags op seq 8 (BitVec.ofNat 32 status :: payload)) (fun ws t => replyFrag (36 + core) 1 ws t) s

/-- A message that the Gatehouse serves while its cores execute (R425), one of a channel at a time in order (R449). -/
def ghMsg (core op seq : Nat) (words : List W32) (arg : Nat) (f : State → State) (s : State) : State :=
  if !ghRunning s then s else msgTurn { chan := 36 + core, op := op, seq := seq, words := words, arg := arg } f s

/-- The first waiting reply fragment whose receiver has room, with the others in order. A fragment behind an earlier one of
the same queue waits for it. -/
def nextReply (s : State) (blocked : List (Nat × Nat)) : List HeldReply → Option (HeldReply × List HeldReply)
  | [] => none
  | h :: r =>
    if !blocked.contains (h.chan, h.toEnd) && kRoom h.chan h.toEnd h.words.length s then some (h, r)
    else (nextReply s ((h.chan, h.toEnd) :: blocked) r).map (fun p => (p.1, h :: p.2))

/-! ### The commands -/

/-- KIOSK_POST (R364, R365). -/
def execKioskPost (m : Master) (ch : Chan) (e : Bool) (w : W32) (s : State) : Host.Outcome State Fault Refusal :=
  ok (if ownsEnd m.toNat ch.toNat (b2n e) then kPost ch.toNat (b2n e) w s else deny s)

/-- KIOSK_RECEIVE (R364, R367, R369). -/
def execKioskReceive (m : Master) (ch : Chan) (e : Bool) (s : State) : Host.Outcome State Fault Refusal :=
  ok (if ownsEnd m.toNat ch.toNat (b2n e) then kTake ch.toNat (b2n e) s else { s with rdata := 0 })

/-- KIOSK_DISC_READ: the count is returned and cleared (R368, R390); another master reads 0 and clears nothing (R364). -/
def execKioskDiscRead (m : Master) (ch : Chan) (e : Bool) (s : State) : Host.Outcome State Fault Refusal :=
  ok (if ownsEnd m.toNat ch.toNat (b2n e) then
    { s.clr (KSK_DISC ch.toNat (b2n e)) with rdata := s.rd (KSK_DISC ch.toNat (b2n e)) }
  else { s with rdata := 0 })

/-- MESSAGE_REPLY: a waiting reply is posted once its receiver has room for all of it (R374, R449). -/
def execMessageReply (s : State) : Host.Outcome State Fault Refusal :=
  ok (match nextReply s [] s.replies with
    | none => s
    | some (h, rest) => kPostAll h.chan (1 - h.toEnd) h.words { s with replies := rest })

end Sys2Proof.Machine
end

