-- ==== Sys2Proof/Machine/Forced.lean ====
section
/-! DEFINITION. Forced states and faults (spec/12_gatehouse.md, R426–R443, R540): withdrawal of the fence, retracts, isolation, forced
brakes, Actuator-class faults and the Grave reaction. These are the only places where a forced state is imposed; it takes
precedence over every command, and only the Gatehouse releases it (R16). -/

namespace Sys2Proof.Machine

/-! ### Actuators -/

/-- The HDA of an actuator and its place on it (R2). -/
def hdaOf (a : Nat) : Nat := a / 4

/-- The state of an actuator (R110). -/
def actState (a : Nat) (s : State) : Nat := s.fld (SRV_ACT_STATE a) F_SRV_ACT_STATE_STATE

/-- Whether an actuator is loaded: LOADING to RETRACTING (R85). -/
def loaded (a : Nat) (s : State) : Bool := decide (1 ≤ actState a s ∧ actState a s ≤ 6)

/-- The actuators of an HDA (R2). -/
def actsOf (h : Nat) : List Nat := [4 * h, 4 * h + 1, 4 * h + 2, 4 * h + 3]

/-- Whether an HDA is loaded: at least one of its actuators is (R49). -/
def hdaLoaded (h : Nat) (s : State) : Bool := (actsOf h).any (fun a => loaded a s)

/-- Shows SPN_STATE.LOADED. -/
def showLoaded (h : Nat) (s : State) : State := s.setf (SPN_STATE h) F_SPN_STATE_LOADED (b2n (hdaLoaded h s))

/-- Stores the state of an actuator. -/
def setActState (a n : Nat) (s : State) : State :=
  showLoaded (hdaOf a) (s.setf (SRV_ACT_STATE a) F_SRV_ACT_STATE_STATE n)

/-- The servo part of an actuator. -/
def act (a : Nat) (s : State) : ActSt := tget {} s.acts a

/-- Changes the servo part of an actuator. -/
def modAct (a : Nat) (f : ActSt → ActSt) (s : State) : State := { s with acts := tmod {} s.acts a f }

/-- Cause codes of cut and unwritten sectors (spec/06_writing.md, the table of cause codes). -/
def causeFence : Nat := 1
def causeClamp : Nat := 2
def causeForced : Nat := 3
def causeWfault : Nat := 4
def causeLane : Nat := 5
def causeBufEcc : Nat := 6
def causeLate : Nat := 7
def causeGuard : Nat := 8

/-- The sequencer of an actuator besides its registers. -/
def seq (a : Nat) (s : State) : SeqSt := tget {} s.seqs a

/-- Word `n` of the microcode store of sequencer `a`: the image it has loaded, else the store as shipped, whose resident words the spec does not
give and whose Allotment words are 0xFC00_0000 (R228, R257). -/
def storeAt (a n : Nat) (s : State) : W32 :=
  match (seq a s).img with
  | some l => l.getD n 0
  | none => if n < 6144 then Config.residentWord n else 0xFC000000

/-- Changes a sequencer. -/
def modSeq (a : Nat) (f : SeqSt → SeqSt) (s : State) : State := { s with seqs := tmod {} s.seqs a f }

/-- Whether an entry is a write whose gate has been reached and whose outcome is not decided. -/
def FlyEnt.writing (e : FlyEnt) : Bool := e.mode == 2 && (e.st == .open || e.st == .sending)

/-- A cause for a sector not written in full, with the wedge count at which it arose: the first one stays (R219, R542). -/
def FlyEnt.blame (e : FlyEnt) (cause wedge : Nat) : FlyEnt :=
  if e.cause = 0 then { e with cut := true, cause := cause, wedge := wedge } else { e with cut := true }

/-- The downstream lanes of an actuator that have block lock. -/
def dnLocked (a : Nat) (s : State) : List Nat := bitsOf 4 (s.fld (LNK_SKEW a) F_LNK_SKEW_DN_LOCKED)

/-- Why permission is lacking on head slots: the first cause since the last fence decision stays (R542). -/
def ActSt.offFor (x : ActSt) (m cause : Nat) : List Nat :=
  [0, 1, 2, 3].map (fun i =>
    if m.testBit i && (x.fence.testBit i || x.offCause.getD i 0 == 0) then cause else x.offCause.getD i 0)

/-- Permission is withdrawn on head slots with a cause: the fence bits fall, their write gates close, WRITE_OFF naming the slots is queued on every
downstream lane that has block lock, and the sectors being written there stop (R22, R125, R144, R217). -/
def fenceOff (a mask cause : Nat) (s : State) : State :=
  let m := mask % 16
  let n := (s.rd (SRV_WEDGE_COUNT a)).toNat
  let s := s.setf (WCH_STATE a) F_WCH_STATE_GATE (s.fld (WCH_STATE a) F_WCH_STATE_GATE &&& (15 - m))
  let s := modAct a (fun x => { x with offCause := x.offFor m cause, fence := x.fence &&& (15 - m) }) s
  let s := modSeq a (fun q => { q with fly := q.fly.map (fun e =>
    if m.testBit e.slot && e.writing then { e.blame cause n with off := true } else e) }) s
  { s with wOff := (dnLocked a s).foldl (fun t i => tmod 0 t (4 * a + i) (fun n => n ||| m)) s.wOff }

/-- Sets or clears the forced flag of an actuator in SRV_ACT_STATE and GH_ACT_FORCE (R426). -/
def setForced (a : Nat) (b : Bool) (s : State) : State :=
  let s := s.setf (SRV_ACT_STATE a) F_SRV_ACT_STATE_FORCED (b2n b)
  let r := GH_ACT_FORCE (a / 32)
  s.wr r (BitVec.ofNat 32 (setBit (s.rd r).toNat (a % 32) b))

/-- Whether the Gatehouse holds GH_ISOLATED for an actuator (R540). -/
def isolated (a : Nat) (s : State) : Bool := (s.rd (GH_ISOLATED (a / 32))).toNat.testBit (a % 32)

/-- Whether GH_GRAVE.LATCHED is 1. -/
def graveLatched (s : State) : Bool := decide (s.fld GH_GRAVE F_GH_GRAVE_LATCHED = 1)

/-- Whether the device-wide write inhibit of a supply is in force (R438). -/
def writeInhibit (s : State) : Bool := decide (s.fld GH_SUPPLY F_GH_SUPPLY_WRITE_INHIBIT = 1)

/-- The forced flag of an actuator follows the forced states in force over it (R426). -/
def refreshForced (a : Nat) (s : State) : State :=
  setForced a (actState a s == 6 || isolated a s || writeInhibit s || graveLatched s) s

/-- An actuator enters ISOLATED: permission is withdrawn with WRITE_OFF (R144), GH_ISOLATED holds it and event 0xA002 is emitted (R540). -/
def enterIsolated (a : Nat) (s : State) : State :=
  if isolated a s then setForced a true (setActState a 7 s)
  else
    let r := GH_ISOLATED (a / 32)
    let s := s.wr r (BitVec.ofNat 32 (setBit (s.rd r).toNat (a % 32) true))
    emit 0xA002 (setForced a true (setActState a 7 (fenceOff a 15 causeForced s)))

/-- The isolation the Gatehouse holds is imposed again without an event (R540). -/
def reimposeIsolation (a : Nat) (s : State) : State :=
  if isolated a s then setForced a true (setActState a 7 s) else s

/-- The retract of an actuator. -/
def retr (a : Nat) (s : State) : Retract := tget {} s.gh.retracts a

/-- Changes the retract of an actuator. -/
def modRetr (a : Nat) (f : Retract → Retract) (s : State) : State :=
  { s with gh := { s.gh with retracts := tmod {} s.gh.retracts a f } }

/-- The lowest-numbered locked downstream lane not yet tried (R430). -/
def retractLane (a : Nat) (s : State) : Option Nat := ((dnLocked a s).filter (fun i => !(retr a s).tried.contains i)).head?

/-- The payload of a front-end register access (REG_WR 0x71, REG_RD 0x72): type, address, data, TAG, and CRC-8 over bits [55:0], least
significant byte first (spec/04_sloas_link.md, "Front-end register access"). -/
def fePayload (write : Bool) (addr data tag : Nat) : Nat :=
  let p := (if write then 0x71 else 0x72) + addr % 4096 * 2 ^ 8 + (if write then data % 65536 else 0) * 2 ^ 20 + tag % 16 * 2 ^ 36
  p + crc 8 0x07 0x00 (leBytes p 7) * 2 ^ 56

/-- Changes a downstream lane. -/
def modDn (a i : Nat) (f : DnLane → DnLane) (s : State) : State := { s with dn := tmod {} s.dn (4 * a + i) f }

/-- The retract command leaves on the next locked lane with TAG 15, in the place of WRITE_OFF; with no lane left nothing is sent
(R430, R434). -/
def retractSend (a : Nat) (s : State) : State :=
  match retractLane a s with
  | none => s
  | some i => modDn a i (fun l => { l with ret := l.ret ++ [fePayload true 0xF08 1 15] })
      (modRetr a (fun r => { r with tried := i :: r.tried }) s)

/-- A retract of a loaded actuator begins (R430); one that runs is not restarted, but an Actuator-class cause makes it end
in ISOLATED (R427); an actuator on the ramp is isolated at once by such a cause and otherwise left as it is (R434). -/
def startRetract (a : Nat) (isolate power reset : Bool) (s : State) : State :=
  if actState a s = 6 then
    modRetr a (fun r => { r with isolate := r.isolate || isolate, powerLoss := r.powerLoss || power, reset := r.reset || reset }) s
  else if !loaded a s then (if isolate then enterIsolated a s else s)
  else
    let s := fenceOff a 15 causeForced s
    let s := setForced a true (setActState a 6 s)
    let s := modRetr a (fun _ => { active := true, isolate := isolate, powerLoss := power, reset := reset }) s
    emit 0xA003 (retractSend a s)

/-- The Actuator-class faults of an actuator within the last 24 h by Sundial (R443). -/
def faults24 (a : Nat) (s : State) : List Nat :=
  (tget [] s.gh.faultTimes a).filter (fun t => decide (s.sdl.now < t + 86400000000000))

/-- Shows GH_ACT_STATUS.FAULTS_24H, saturating at 8. -/
def showFaults (a : Nat) (s : State) : State :=
  s.setf (GH_ACT_STATUS a) F_GH_ACT_STATUS_FAULTS_24H (min 8 (faults24 a s).length)

/-- An Actuator-class fault is recorded: a Lodge record, and GH_ACT_STATUS with its event code and the count of 24 h (R443, R444). -/
def actRecord (a code src detail : Nat) (inj : Bool) (s : State) : State :=
  let s := lodge .actuator code src detail inj s
  let s := { s with gh := { s.gh with faultTimes := tput [] s.gh.faultTimes a (s.sdl.now :: faults24 a s) } }
  showFaults a (s.setf (GH_ACT_STATUS a) F_GH_ACT_STATUS_CAUSE code)

/-- An Actuator-class fault: recorded, and the actuator is retracted and isolated (R428). -/
def actFault (a code src detail : Nat) (inj : Bool) (s : State) : State :=
  startRetract a true false false (actRecord a code src detail inj s)

/-- An Actuator-class fault of each of an HDA's four actuators (R54, R56, R61, R62). -/
def hdaFault (h code : Nat) (inj : Bool) (s : State) : State :=
  each (actsOf h) (fun a t => actFault a code h 0 inj t) s

/-! ### Spindles -/

/-- The state of a spindle (R46). -/
def spnState (h : Nat) (s : State) : Nat := s.fld (SPN_STATE h) F_SPN_STATE_STATE

/-- The spindle besides its registers. -/
def spin (h : Nat) (s : State) : Spindle := tget {} s.spn h

/-- Changes a spindle. -/
def modSpin (h : Nat) (f : Spindle → Spindle) (s : State) : State := { s with spn := tmod {} s.spn h f }

/-- The speed that a state shows (R58): the source, and 0 where the table gives 0. -/
def showSpeed (h n : Nat) (s : State) : State :=
  let s := s.setf (SPN_SPEED0 h) F_SPN_SPEED0_SOURCE
    (match n with
     | 4 | 5 => if s.fld (SRV_STATUS h) F_SRV_STATUS_LOCKED = 1 then 2 else 1
     | 6 => 1
     | 8 => 3
     | _ => 0)
  if n = 0 ∨ n = 1 ∨ n = 2 ∨ n = 7 then s.setf (SPN_SPEED0 h) F_SPN_SPEED0_RPM_X16 0 else s

/-- A state in which steps are timed by crossings or by the ramp: RAMP, CLOSED, AT_SPEED, BRAKING (R46). -/
def commutating (n : Nat) : Bool := n == 3 || n == 4 || n == 5 || n == 6

/-- At the entry to ALIGNING the regulator's on-time starts from 0: R53 gives no start (DESIGN CHOICE, log 146). -/
def limitStart (h n : Nat) (s : State) : State := if n = 2 then modSpin h (fun x => { x with limOn := 0 }) s else s

/-- A spindle enters a state with a cause (R46, R48). The spec gives the encodings of CAUSE and not which one an automatic transition writes:
0 on the way to RAMP, CLOSED and AT_SPEED, 1 at a catch, 5 at a failure, a trip or a timeout, the old one at a handoff and below 30 rpm
(DESIGN CHOICE, log 101). Where the bridge is not commutated, the crossings seen before no longer count. -/
def spnGo (h n cause : Nat) (s : State) : State :=
  let s := if commutating n then s else modSpin h (fun x => { x with xs := [], xSeen := false, stepDue := false, signPos := none, signAt := none }) s
  let s := limitStart h n s
  showSpeed h n ((s.setf (SPN_STATE h) F_SPN_STATE_STATE n).setf (SPN_STATE h) F_SPN_STATE_CAUSE cause)

/-- The motor clock, in ticks of 10 ns: it runs from the reference, as the Sundial does ("Clock domains", R458). -/
def mticks (s : State) : Nat := s.sdl.now / 10

/-- A spindle enters BRAKING. From a state without commutation (CATCHING, COASTING) the step is not stated, and from these and ALIGNING the
duration of the step before it; from any state but CLOSED and AT_SPEED the set-point is not stated (R42, R55, R73): free values (log 102). The
step that is then applied begins at the entry (R44, R45). -/
def spnBraking (h cause : Nat) (s : State) : State :=
  let st := spnState h s
  if st = 4 ∨ st = 5 ∨ st = 6 then spnGo h 6 cause s
  else
    let f := s.fresh
    let g := f.2.fresh
    let free := decide (st = 1 ∨ st = 7)
    let begins := decide (st ≠ 3)
    spnGo h 6 cause (modSpin h (fun x => { x with
      setpoint := f.1 % 2 ^ 36, step := if free then g.1 % 6 + 1 else x.step, prevDur := if begins then g.1 / 6 else x.prevDur,
      stepAt := if begins then mticks s else x.stepAt }) g.2)

/-- A start ends or is cancelled: the spindle stops counting as accelerating, leaves the queue, and PENDING is 0 (R49, R82). -/
def endStart (h : Nat) (s : State) : State :=
  let s := modSpin h (fun x => { x with accel := false, attempts := 0, looking := false, crossings := 0 }) s
  ({ s with spnQueue := s.spnQueue.filter (fun k => k != h) }).setf (SPN_STATE h) F_SPN_STATE_PENDING 0

/-- Sets the forced flag of a spindle in SPN_STATE and GH_SPN_FORCE (R426). -/
def setSpnForced (h : Nat) (b : Bool) (s : State) : State :=
  let s := s.setf (SPN_STATE h) F_SPN_STATE_FORCED (b2n b)
  s.wr GH_SPN_FORCE (BitVec.ofNat 32 (setBit (s.rd GH_SPN_FORCE).toNat h b))

/-- The Gatehouse short-brakes a spindle (R79, R440): its start ends, SHORT_BRAKED with FORCED and the cause, event 0x5009. -/
def forceBrake (h cause : Nat) (s : State) : State :=
  let s := spnGo h 8 cause (setSpnForced h true (endStart h s))
  emit 0x5009 (s.flag (SPN_FAULT h) F_SPN_FAULT_FORCED_SB)

/-- The rail of an HDA (R77). -/
def railOf (h : Nat) : Nat := h / 4

/-- The HDAs of a rail (R77). -/
def hdasOf (r : Nat) : List Nat := [4 * r, 4 * r + 1, 4 * r + 2, 4 * r + 3]

/-- Whether a spindle is regenerating: BRAKING, or CLOSED with a negative duty demand (R77). -/
def regenerating (h : Nat) (s : State) : Bool := spnState h s == 6 || (spnState h s == 4 && (spin h s).neg)

/-- A power-loss brake (R81): BRAKING with FORCED and CAUSE 3; a spindle in SHORT_BRAKED or STOPPED stays as it is. From the entry to the first
wedge the duty demand that was in force stays, with its sign: R81 gives none (DESIGN CHOICE, log 146). -/
def powerBrake (h : Nat) (s : State) : State :=
  if spnState h s = 0 ∨ spnState h s = 8 then s else spnBraking h 3 (setSpnForced h true (endStart h s))

/-- Whether a spindle is in a power-loss brake. -/
def inPowerBrake (h : Nat) (s : State) : Bool :=
  spnState h s == 6 && s.fld (SPN_STATE h) F_SPN_STATE_CAUSE == 3 && s.fld (SPN_STATE h) F_SPN_STATE_FORCED == 1

/-- A power-loss brake ends: COASTING, and FORCED returns to 0 (R426). -/
def powerBrakeEnd (h : Nat) (s : State) : State := if inPowerBrake h s then spnGo h 7 3 (setSpnForced h false s) else s

/-- Regeneration inhibit of a rail, in GH_RAIL and in SPN_STATE of its spindles (R426). -/
def setInhibit (r : Nat) (b : Bool) (s : State) : State :=
  let s := s.setf (GH_RAIL r) F_GH_RAIL_REGEN_INHIBIT (b2n b)
  each (hdasOf r) (fun h t => t.setf (SPN_STATE h) F_SPN_STATE_REGEN_INHIBIT (b2n b)) s

/-! ### Grave -/

/-- The Grave reaction (R440): write inhibit over every actuator, every loaded actuator retracted, every spindle short-braked
with CAUSE 4. Each retract ends in ISOLATED; an actuator on the ramp has no retract and stays there, forced. -/
def graveReaction (s : State) : State :=
  let s := each (List.range 64) (fun a t =>
    let t := setForced a true (fenceOff a 15 causeForced t)
    if loaded a t then startRetract a true false false t else t) s
  each (List.range 16) (fun h t => forceBrake h 4 t) s

/-- A Grave fault with an event code (R440): it is recorded, latched with its cause unless one is latched already, the reaction
is carried out, a capture is due (R468), 0xA001 is emitted, and an asynchronous event of type SMART / Health is posted (R441). -/
def grave (code src detail : Nat) (inj : Bool) (s : State) : State :=
  let s := lodge .grave code src detail inj s
  if graveLatched s then s
  else
    let s := (s.flag GH_GRAVE F_GH_GRAVE_LATCHED).setf GH_GRAVE F_GH_GRAVE_CAUSE code
    let s := { s with ice := { s.ice with due := s.ice.due ++ [2] } }
    asyncHealth (emit 0xA001 (graveReaction s))

end Sys2Proof.Machine
end

