-- ==== Sys2Proof/Machine/Spindle.lean ====
section
/-! DEFINITION. Spindles (spec/02_spindles.md, R39–R83): commands, admission, starting, commutation, current sampling, catching,
braking, and what the rails do to them. Times and speeds that the motor and the rail supply are operands. -/

namespace Sys2Proof.Machine

/-! ### Commands (R49–R52, R70–R72) -/

/-- A command is refused (R49). -/
def spnRefuse (h : Nat) (s : State) : State := emit 0x500A (s.flag (SPN_FAULT h) F_SPN_FAULT_CMD_REFUSED)

/-- Whether FORCED is set on a spindle. -/
def spnForced (h : Nat) (s : State) : Bool := s.fld (SPN_STATE h) F_SPN_STATE_FORCED == 1

/-- A start is queued for admission in the order of arrival (R70, R71). -/
def spnEnqueue (h : Nat) (s : State) : State :=
  if s.spnQueue.contains h then s
  else ({ s with spnQueue := s.spnQueue ++ [h] }).setf (SPN_STATE h) F_SPN_STATE_PENDING 1

/-- START by the spindle's state (R49); every start is refused while Grave is latched (R441). -/
def spnStart (h : Nat) (s : State) : State :=
  if spnForced h s ∨ graveLatched s then spnRefuse h s
  else match spnState h s with
    | 0 | 7 | 6 => spnEnqueue h s
    | 8 => if (spin h s).accel then s else spnEnqueue h s
    | _ => s

/-- A spindle enters BRAKING, or SHORT_BRAKED while regeneration is inhibited on its rail (R75). -/
def spnBrakeInto (h : Nat) (s : State) : State :=
  if s.fld (SPN_STATE h) F_SPN_STATE_REGEN_INHIBIT = 1 then spnGo h 8 0 s else spnBraking h 0 s

/-- BRAKE by the spindle's state (R49). In BRAKING it has no effect, also while regeneration is inhibited: R49 says so of BRAKING, and R75 of a
BRAKE on an inhibited rail that it goes straight to SHORT_BRAKED (DESIGN CHOICE, log 146). -/
def spnBrake (h : Nat) (s : State) : State :=
  if spnForced h s ∨ hdaLoaded h s then spnRefuse h s
  else match spnState h s with
    | 0 | 7 => endStart h s
    | 1 | 2 | 3 => spnGo h 8 0 (endStart h s)
    | 4 | 5 => spnBrakeInto h (endStart h s)
    | _ => s

/-- COAST by the spindle's state (R49). -/
def spnCoast (h : Nat) (s : State) : State :=
  if spnForced h s ∨ hdaLoaded h s then spnRefuse h s
  else match spnState h s with
    | 0 | 7 => endStart h s
    | _ => spnGo h 7 0 (endStart h s)

/-- Whether a master reaches the registers of the internal map, and so may write their RW, W1C and W1P fields: every master of R359 but the host,
which reaches nothing but its BARs (R6, R30). -/
def mayCmd (m : Master) : Bool := !(m.toNat == 9)

/-- A write of the spindle block by a row of its own: a bad access while the motor domain is off, counted for the host, else its effect
(R6, R37, R497). -/
def spnWrite (m : Master) (f : State → State) (s : State) : Host.Outcome State Fault Refusal :=
  ok (if !mayCmd m then deny s else if s.domOn 103 then f s else badAccess s)

/-- START (R49). -/
def execStart (m : Master) (h : Hda) (s : State) : Host.Outcome State Fault Refusal := spnWrite m (spnStart h.toNat) s

/-- BRAKE (R49, R75). -/
def execBrake (m : Master) (h : Hda) (s : State) : Host.Outcome State Fault Refusal := spnWrite m (spnBrake h.toNat) s

/-- COAST (R49). -/
def execCoast (m : Master) (h : Hda) (s : State) : Host.Outcome State Fault Refusal := spnWrite m (spnCoast h.toNat) s

/-- A write of SPN_CMD takes only the highest-numbered bit that is set (R50). -/
def spnCmd (h : Nat) (v : W32) (s : State) : State :=
  if v.toNat.testBit 2 then spnCoast h s else if v.toNat.testBit 1 then spnBrake h s
  else if v.toNat.testBit 0 then spnStart h s else s

/-- The run of revolutions within ±0.1 % of the target ends; the present revolution is not one of the next run (R48). -/
def runEnd (h : Nat) (s : State) : State := modSpin h (fun x => { x with revRun := 0, revOk := false }) s

/-- A changed target takes an AT_SPEED spindle back to CLOSED (R48, R55). -/
def spnRetarget (h : Nat) (s : State) : State :=
  let s := runEnd h s
  if spnState h s = 5 then spnGo h 4 0 s else s

/-- A write of SPN_TARGET; refused whole while the HDA is loaded, and counted then and where the value is out of range (R6, R51, R83). -/
def spnTarget (h : Nat) (v : W32) (s : State) : State :=
  let n := fget v F_SPN_TARGET_RPM
  if hdaLoaded h s then emit 0x500B ((deny s).flag (SPN_FAULT h) F_SPN_FAULT_TARGET_REFUSED)
  else if n < 3600 ∨ 10000 < n then deny s
  else if n = s.fld (SPN_TARGET h) F_SPN_TARGET_RPM then s
  else spnRetarget h (s.setf (SPN_TARGET h) F_SPN_TARGET_RPM n)

/-- TARGET_WRITE (R51, R83). -/
def execTargetWrite (m : Master) (h : Hda) (v : W32) (s : State) : Host.Outcome State Fault Refusal := spnWrite m (spnTarget h.toNat v) s

/-- START_MASK: START to every named spindle in one cycle, in ascending HDA order (R71, R72). -/
def execStartMask (m : Master) (mask : BitVec 16) (s : State) : Host.Outcome State Fault Refusal :=
  spnWrite m (each (bitsOf 16 mask.toNat) spnStart) s

/-- The spindles that count as accelerating (R70). -/
def accelerating (s : State) : List Nat := (List.range 16).filter (fun h => (spin h s).accel)

/-- The start admitted moves its spindle (R48): STOPPED to ALIGNING, COASTING to CATCHING, BRAKING to CLOSED from the measured
speed; in SHORT_BRAKED the start goes on once the motor is below 30 rpm. -/
def spnAdmit (h : Nat) (s : State) : State :=
  let s := ({ s with spnQueue := s.spnQueue.filter (fun k => k != h) }).setf (SPN_STATE h) F_SPN_STATE_PENDING 0
  let s := modSpin h (fun x => { x with accel := true, attempts := 0, looking := false, crossings := 0 }) s
  let s := emit 0x5001 (s.incSat (SPN_START_COUNT h) 1)
  match spnState h s with
  | 0 => modSpin h (fun x => { x with step := 1 }) (spnGo h 2 0 s)
  | 7 => spnGo h 1 0 s
  | 6 =>
    let v := s.fld (SPN_SPEED0 h) F_SPN_SPEED0_RPM_X16
    modSpin h (fun x => { x with setpoint := 4096 * v }) (spnGo h 4 0 (runEnd h s))
  | _ => s

/-- START_ADMITTED: the oldest queued start is admitted while fewer than MAX spindles are accelerating (R70, R71). From the assertion of
SYS_RST_N on, a spindle keeps its state until the internal reset (R48), so none is admitted. -/
def execStartAdmitted (s : State) : Host.Outcome State Fault Refusal :=
  ok (match s.spnQueue with
    | [] => s
    | h :: _ => if s.plat.rst = .run ∧ (accelerating s).length < s.fld SPN_ACCEL_MAX F_SPN_ACCEL_MAX_MAX then spnAdmit h s else s)

/-! ### Starting from rest (R53, R54) -/

/-- The commanded open-loop rate in 1/16 rpm: it rises linearly from OL_START_RPM to OL_END_RPM over OL_TIME_MS, and holds OL_END_RPM while the
handover condition is looked for (R53, R54). -/
def rampRate (h : Nat) (s : State) : Nat :=
  let a := s.fld (SPN_START1 h) F_SPN_START1_OL_START_RPM
  let b := s.fld (SPN_START1 h) F_SPN_START1_OL_END_RPM
  let d := 100000 * s.fld (SPN_START0 h) F_SPN_START0_OL_TIME_MS
  let t := min (mticks s - (spin h s).rampAt) d
  if (spin h s).looking then 16 * b else 16 * a + 16 * (b - a) * t / d

/-- In RAMP the commanded rate is shown (R58). -/
def rampShow (h : Nat) (s : State) : State :=
  if spnState h s = 3 then s.setf (SPN_SPEED0 h) F_SPN_SPEED0_RPM_X16 (rampRate h s) else s

/-- ALIGN_DONE: ALIGN_MS has elapsed in ALIGNING; RAMP begins at step 2 and shows the commanded rate (R53, R58). -/
def execAlignDone (h : Hda) (s : State) : Host.Outcome State Fault Refusal :=
  let k := h.toNat
  ok (onlyIf (spnState k s == 2) (fun s =>
    rampShow k (modSpin k (fun x => { x with step := 2, looking := false, crossings := 0, xSeen := false, rampAt := mticks s, stepAt := mticks s })
      (spnGo k 3 0 s))) s)

/-- RAMP_END: the ramp reaches OL_END_RPM, holds it, and the handover condition is looked for (R54). -/
def execRampEnd (h : Hda) (s : State) : Host.Outcome State Fault Refusal :=
  let k := h.toNat
  ok (onlyIf (spnState k s == 3) (fun s => rampShow k (modSpin k (fun x => { x with looking := true, crossings := 0 }) s)) s)

/-- A spindle enters CLOSED with its set-point at a measured speed in 1/16 rpm (R55). -/
def spnClose (h speed cause : Nat) (s : State) : State :=
  let s := modSpin h (fun x => { x with setpoint := 4096 * speed, looking := false, crossings := 0 }) (runEnd h s)
  (spnGo h 4 cause s).setf (SPN_SPEED0 h) F_SPN_SPEED0_RPM_X16 speed

/-- HANDOVER: six consecutive valid forward crossings after the ramp; CLOSED from the measured speed (R54, R55). Until the first wedge the demand is
the duty applied in the ramp, positive (the spec gives none; DESIGN CHOICE, log 103). -/
def execHandover (h : Hda) (speed : BitVec 20) (s : State) : Host.Outcome State Fault Refusal :=
  let k := h.toNat
  ok (onlyIf (spnState k s == 3 && (spin k s).looking && decide (6 ≤ (spin k s).crossings)) (fun s =>
    spnClose k speed.toNat 0 (modSpin k (fun x => { x with duty := s.fld (SPN_CURRENT1 k) F_SPN_CURRENT1_DUTY, neg := false }) s)) s)

/-- HANDOVER_TIMEOUT: 500 ms without handover; the motor is short-braked, and a second failure sets START_FAIL, ends the start,
emits 0x500D and faults the HDA's actuators (R54). -/
def execHandoverTimeout (h : Hda) (s : State) : Host.Outcome State Fault Refusal :=
  let k := h.toNat
  ok (onlyIf (spnState k s == 3 && (spin k s).looking) (fun s =>
    if (spin k s).attempts = 0 then
      spnGo k 8 5 (modSpin k (fun x => { x with attempts := 1, looking := false, crossings := 0 }) s)
    else
      let s := spnGo k 8 5 (endStart k s)
      let s := emit 0x500D (s.flag (SPN_FAULT k) F_SPN_FAULT_START_FAIL)
      hdaFault k 0x500D false s) s)

/-! ### PWM periods, current sampling and commutation (R41–R45, R59–R66) -/

/-- The smallest dead-time-free on-time that gives a valid sample, ns: 1.0 µs plus the dead time (R63). -/
def tMin (h : Nat) (s : State) : Nat := 1000 + 10 * s.fld (SPN_PWM h) F_SPN_PWM_DEAD_TIME

/-- A signed 16-bit current field. -/
def curOf (v : W32) (f : Fld) : Int := toSigned 16 (fget v f)

/-- Stores reported currents of phases U and V; W is −(U + V) (R63). -/
def setCurrents (h : Nat) (u v : Int) (s : State) : State :=
  let s := s.setf (SPN_CURRENT0 h) F_SPN_CURRENT0_I_U (ofSigned 16 u)
  let s := s.setf (SPN_CURRENT0 h) F_SPN_CURRENT0_I_V (ofSigned 16 v)
  s.setf (SPN_CURRENT1 h) F_SPN_CURRENT1_I_W (ofSigned 16 (-(u + v)))

/-- A sample is reported: it becomes I(n−1) and the report before it I(n−2); the run of skips ends (R63, R65). -/
def sampleTaken (h : Nat) (u v : Int) (s : State) : State :=
  let pu := curOf (s.rd (SPN_CURRENT0 h)) F_SPN_CURRENT0_I_U
  let pv := curOf (s.rd (SPN_CURRENT0 h)) F_SPN_CURRENT0_I_V
  let s := modSpin h (fun x => { x with prevU := pu, prevV := pv, skips := 0, skipTold := false }) s
  (setCurrents h u v s).setf (SPN_SPEED0 h) F_SPN_SPEED0_PREDICTED 0

/-- A period is skipped: the current is predicted as 2·I(n−1) − I(n−2), or held once MAX_SKIP periods have been skipped in a row (R65). -/
def samplePredicted (h : Nat) (s : State) : State :=
  let x := spin h s
  let pu := curOf (s.rd (SPN_CURRENT0 h)) F_SPN_CURRENT0_I_U
  let pv := curOf (s.rd (SPN_CURRENT0 h)) F_SPN_CURRENT0_I_V
  let hold := decide (s.fld (SPN_PWM h) F_SPN_PWM_MAX_SKIP ≤ x.skips)
  let s := (s.incSat (SPN_SKIP_COUNT h) 1).setf (SPN_SPEED0 h) F_SPN_SPEED0_PREDICTED 1
  let s := if hold then s else setCurrents h (2 * pu - x.prevU) (2 * pv - x.prevV) s
  modSpin h (fun y => { y with prevU := pu, prevV := pv, skips := x.skips + 1 }) s

/-- The group size of asymmetric pulse shift: the smallest k from 2 to 4 with k × t_on ≥ t_min (R66). -/
def shiftK (ton tmin : Nat) : Option Nat := [2, 3, 4].find? (fun k => decide (k * ton ≥ tmin))

/-- The on-times of the periods after the first of a shift group, and what is carried to the next group: the last takes
k × t_on − t_min, or zero when that is below the dead time (R66). -/
def shiftRest (k total tmin dead : Nat) : List Nat × Nat :=
  let last := total - tmin
  if last < dead then (List.replicate (k - 1) 0, last) else (List.replicate (k - 2) 0 ++ [last], 0)

/-- The duty applied in a period of 20 µs, as a fraction of 65,536 (SPN_CURRENT1.DUTY). -/
def dutyOf (ton : Nat) : Nat := ton * 65536 / 20000

/-- Speed in 1/16 rpm from an electrical period in 10 ns ticks: 60 s over pole pairs times the period (R58). -/
def rpmX16 (pp ticks : Nat) : Nat := min (96000000000 / (pp * ticks)) (2 ^ 20 - 1)

/-- Whether a spindle's steps are timed by zero crossings (R46). -/
def bemfTimed (n : Nat) : Bool := n == 4 || n == 5 || n == 6

/-- In SHORT_BRAKED each sample of the U-phase current is compared in sign with the one before it: the time between two changes is half an
electrical period, from which the speed is shown (R58). -/
def signSample (h : Nat) (u : Int) (s : State) : State :=
  let x := spin h s
  let pos := decide (0 ≤ u)
  match x.signPos with
  | none => modSpin h (fun y => { y with signPos := some pos }) s
  | some p =>
    if p = pos then s
    else
      let s := modSpin h (fun y => { y with signPos := some pos, signAt := some (mticks s) }) s
      match x.signAt with
      | none => s
      | some t =>
        s.setf (SPN_SPEED0 h) F_SPN_SPEED0_RPM_X16 (rpmX16 (s.fld (SPN_MOTOR h) F_SPN_MOTOR_POLE_PAIRS) (2 * (mticks s - t)))

/-- The largest phase current last reported, mA; phase W is −(U + V) (R63). -/
def phaseMa (h : Nat) (s : State) : Nat :=
  let u := curOf (s.rd (SPN_CURRENT0 h)) F_SPN_CURRENT0_I_U
  let v := curOf (s.rd (SPN_CURRENT0 h)) F_SPN_CURRENT0_I_V
  max (max u.natAbs v.natAbs) (u + v).natAbs

/-- In ALIGNING and RAMP the duty is regulated to hold the phase current at LIMIT_MA (R53): the on-time never falls while the reported current is
below it, never rises while it is above, and stays at the limit. By how much it changes the spec does not give: `given` is the on-time
that the period's step of the regulator aims at (DESIGN CHOICE, log 146). -/
def limitOn (h given : Nat) (s : State) : Nat :=
  let x := (spin h s).limOn
  let i := phaseMa h s
  let lim := s.fld (SPN_ILIMIT h) F_SPN_ILIMIT_LIMIT_MA
  if i < lim then max x given else if lim < i then min x given else x

/-- The regulator's step at the start of a period (R53). -/
def regulate (h given : Nat) (s : State) : State :=
  if spnState h s = 2 ∨ spnState h s = 3 then modSpin h (fun x => { x with limOn := min 20000 (limitOn h given s) }) s else s

/-- The commanded on-time of a period, ns: in CLOSED, AT_SPEED and BRAKING the duty demand in force of 20 µs (R59); in ALIGNING and RAMP that of
the regulator at the current limit (R53). -/
def onTime (h : Nat) (s : State) : Nat := if bemfTimed (spnState h s) then (spin h s).duty * 20000 / 65536 else (spin h s).limOn

/-- One PWM period with the currents the sensors would give, in mA. In SHORT_BRAKED and COASTING the current is sampled without a window
condition (R63); otherwise a narrow window is handled by SPN_PWM.CUR_MODE, whose change takes effect at the next wide window (R64–R66). A demand
that changes inside a shift group takes effect after the group, whose periods R66 fixes, though R59 says the next period (DESIGN CHOICE, log 146). -/
def pwmPeriod (h given : Nat) (u v : Int) (s : State) : State :=
  let s := regulate h given (rampShow h s)
  let st := spnState h s
  let x := spin h s
  let ton := onTime h s
  let tm := tMin h s
  let dead := 10 * s.fld (SPN_PWM h) F_SPN_PWM_DEAD_TIME
  let neg := b2n (x.neg && bemfTimed st)
  let show' := fun (t : State) (on : Nat) =>
    (t.setf (SPN_SPEED0 h) F_SPN_SPEED0_NEG neg).setf (SPN_CURRENT1 h) F_SPN_CURRENT1_DUTY (min (dutyOf on) 65535)
  if st = 7 then show' (sampleTaken h u v s) 0
  else if st = 8 then show' (signSample h u (sampleTaken h u v s)) 0
  else if st = 0 ∨ st = 1 then show' s 0
  else match x.group with
    | on :: rest =>
      let s := modSpin h (fun y => { y with group := rest }) s
      show' (if x.groupSkip then samplePredicted h s else s) on
    | [] =>
      if ton ≥ tm then
        let s := modSpin h (fun y => { y with mode := s.fld (SPN_PWM h) F_SPN_PWM_CUR_MODE }) s
        show' (sampleTaken h u v s) ton
      else if x.mode = 0 then show' (samplePredicted h s) ton
      else match shiftK ton tm with
        | some k =>
          let r := shiftRest k (k * ton + x.carry) tm dead
          let s := modSpin h (fun y => { y with group := r.1, groupSkip := false, carry := r.2 }) s
          show' (sampleTaken h u v (s.incSat (SPN_SHIFT_COUNT h) 1)) tm
        | none =>
          let s := modSpin h (fun y => { y with group := List.replicate 3 ton, groupSkip := true }) s
          show' (samplePredicted h (s.incSat (SPN_SHIFT_COUNT h) 1)) ton

/-- PWM_PERIOD (R41, R53, R59, R63–R66): `tonNs` is the on-time that the regulator of ALIGNING and RAMP aims at. -/
def execPwmPeriod (h : Hda) (tonNs : BitVec 16) (iu iv : BitVec 16) (s : State) : Host.Outcome State Fault Refusal :=
  ok (onlyIf (s.domOn 103) (pwmPeriod h.toNat tonNs.toNat iu.toInt iv.toInt) s)

/-- SKIP_RUN_LIMIT: a run of skips that reaches MAX_SKIP emits 0x500C once (R65). -/
def execSkipRunLimit (h : Hda) (s : State) : Host.Outcome State Fault Refusal :=
  let k := h.toNat
  ok (onlyIf (decide (s.fld (SPN_PWM k) F_SPN_PWM_MAX_SKIP ≤ (spin k s).skips) && !(spin k s).skipTold)
    (fun s => emit 0x500C (modSpin k (fun y => { y with skipTold := true }) s)) s)

/-- The floating phase of a step and the direction of its crossing (R42): phase 0 U, 1 V, 2 W; true rising. -/
def floatOf (step : Nat) : Nat × Bool :=
  match step with
  | 1 => (2, false)
  | 2 => (1, true)
  | 3 => (0, false)
  | 4 => (2, true)
  | 5 => (1, false)
  | 6 => (0, true)
  | _ => (3, false)

/-- The step that follows (R42). -/
def nextStep (n : Nat) : Nat := n % 6 + 1

/-- The comparator threshold of a phase, in 0.5 mV, as calibrated (R43; class 2 of R514). -/
def bemfThreshold (h p : Nat) (s : State) : Int := tget 0 s.cal.tap (2 * 4096 + 3 * h + p)

/-- Two successive samples of a floating phase against the neutral and the threshold, one PWM period of 2,000 ticks apart: whether they lie on
two sides, rising or falling, and how long before the later one the crossing lies by linear interpolation (R43). -/
def crossing (d0 d1 : Int) : Option (Bool × Nat) :=
  if d0 < 0 ∧ 0 ≤ d1 then some (true, 2000 * d1.natAbs / (d0.natAbs + d1.natAbs))
  else if 0 ≤ d0 ∧ d1 < 0 then some (false, 2000 * d1.natAbs / (d0.natAbs + d1.natAbs))
  else none

/-- Whether a speed in 1/16 rpm lies within a number of thousandths of the target (R48, R62). -/
def within (h speed perMille : Nat) (s : State) : Bool :=
  let t := 16 * s.fld (SPN_TARGET h) F_SPN_TARGET_RPM
  decide ((t - speed) * 1000 ≤ t * perMille ∧ (speed - t) * 1000 ≤ t * perMille)

/-- A measured speed outside ±0.1 % of the target ends the run of revolutions within it (R48). -/
def bandCheck (h : Nat) (s : State) : State :=
  if within h (s.fld (SPN_SPEED0 h) F_SPN_SPEED0_RPM_X16) 1 s then s else runEnd h s

/-- A measured speed has been stored: the run within ±0.1 % of the target goes on or ends (R48), and in AT_SPEED its error against the target is
sampled (R467). -/
def speedTaken (h : Nat) (s : State) : State :=
  let s := bandCheck h s
  if spnState h s = 5 then
    extAdd 7 ((s.fld (SPN_SPEED0 h) F_SPN_SPEED0_RPM_X16 : Int) - 16 * s.fld (SPN_TARGET h) F_SPN_TARGET_RPM) s
  else s

/-- A valid crossing at a time in ticks: the next step becomes due, the last full electrical period and the measured speed are taken, a
revolution is counted after six crossings per pole pair, and after the end of the ramp the run of valid crossings grows (R45, R48, R54, R58). -/
def crossed (h t : Nat) (s : State) : State :=
  let st := spnState h s
  let x := spin h s
  let pp := s.fld (SPN_MOTOR h) F_SPN_MOTOR_POLE_PAIRS
  let rev := decide (6 * pp ≤ x.revCross + 1)
  let period := if x.xs.length < 6 then 0 else t - x.xs.getD 5 0
  let s := modSpin h (fun y => { y with
    stepDue := true, xSeen := true, xAt := t, xs := (t :: y.xs).take 6,
    crossings := if st = 3 ∧ !x.looking then 0 else y.crossings + 1,
    revCross := if rev then 0 else y.revCross + 1, revOk := y.revOk || rev,
    revRun := if rev then (if y.revOk then y.revRun + 1 else 0) else y.revRun }) s
  let s := if rev then s.incWrap (SPN_REV_COUNT h) 1 else s
  let s := (s.wr (SPN_SPEED1 h) (BitVec.ofNat 32 period)).setf (SPN_STATE h) F_SPN_STATE_DIR 0
  if bemfTimed st ∧ s.fld (SPN_SPEED0 h) F_SPN_SPEED0_SOURCE = 1 ∧ period ≠ 0 then
    speedTaken h (s.setf (SPN_SPEED0 h) F_SPN_SPEED0_RPM_X16 (rpmX16 pp period))
  else bandCheck h s

/-- ZERO_CROSSING: the samples of a phase against the neutral, in 0.5 mV, at the end of the on-time of the last period and of this one. A
crossing of the step's floating phase in its direction is valid; during the blanking the comparator is ignored (the percentage is taken of
the step before, as R45 does; DEDUCED, log 104); any other crossing breaks the run of valid ones (R42–R45, R54, R58). -/
def execZeroCrossing (h : Hda) (phase : BitVec 2) (v0 v1 : BitVec 16) (s : State) : Host.Outcome State Fault Refusal :=
  let k := h.toNat
  let st := spnState k s
  let x := spin k s
  let th := bemfThreshold k phase.toNat s
  ok (onlyIf (bemfTimed st || st == 3) (fun s =>
    match crossing (v0.toInt - th) (v1.toInt - th) with
    | none => s
    | some (rising, back) =>
      let t := mticks s - back
      if (t - x.stepAt) * 100 < s.fld (SPN_COMM k) F_SPN_COMM_BLANK * x.prevDur then s
      else if floatOf x.step ≠ (phase.toNat, rising) then modSpin k (fun y => { y with crossings := 0 }) s
      else if x.xSeen then s
      else crossed k t s) s)

/-- The duration of a step at an open-loop rate in 1/16 rpm, ticks (R53). -/
def rampStep (h rate : Nat) (s : State) : Nat := 16000000000 / (s.fld (SPN_MOTOR h) F_SPN_MOTOR_POLE_PAIRS * rate)

/-- COMMUTATION_STEP: the next step is applied DELAY after the crossing, DELAY in quarter degrees of a step before that lasts 60° (R42, R45); in
RAMP steps follow the commanded rate (R53), and a step without a crossing breaks the run of consecutive ones (R54). R54 has the crossings come
"with the commutation delay set by R45" and OL_END_RPM held: while it is held the steps keep the commanded rate, and DELAY applies from CLOSED
on (DESIGN CHOICE, log 146). -/
def execCommutationStep (h : Hda) (s : State) : Host.Outcome State Fault Refusal :=
  let k := h.toNat
  ok (if bemfTimed (spnState k s) && (spin k s).stepDue then
      modSpin k (fun y =>
        let t := y.xAt + s.fld (SPN_COMM k) F_SPN_COMM_DELAY * y.prevDur / 240
        { y with step := nextStep y.step, stepDue := false, xSeen := false, stepAt := t, prevDur := t - y.stepAt }) s
    else if spnState k s = 3 then
      rampShow k (modSpin k (fun y => { y with
        step := nextStep y.step, stepDue := false, xSeen := false, crossings := if y.xSeen then y.crossings else 0,
        stepAt := mticks s, prevDur := rampStep k (rampRate k s) s }) s)
    else s)

/-- Whether a state drives the motor (R60). -/
def driving (n : Nat) : Bool := n == 2 || n == 3 || n == 4 || n == 5 || n == 6

/-- CURRENT_LIMIT: the high-side on-time of the period ends as soon as a phase current is above LIMIT_MA (R60); `tonNs` is the
on-time reached, which the applied duty shows. -/
def execCurrentLimit (h : Hda) (ma : BitVec 16) (tonNs : BitVec 16) (s : State) : Host.Outcome State Fault Refusal :=
  let k := h.toNat
  ok (onlyIf (driving (spnState k s) && decide (s.fld (SPN_ILIMIT k) F_SPN_ILIMIT_LIMIT_MA < ma.toNat))
    (fun s => s.setf (SPN_CURRENT1 k) F_SPN_CURRENT1_DUTY (min (dutyOf tonNs.toNat) 65535)) s)

/-- The over-current trip (R61): bridge off in COASTING, OVERCURRENT, any start ended, event 0x5006, and a fault of each actuator. A power-loss
brake ends so, and with it its forced state (R426). -/
def spnTrip (h : Nat) (inj : Bool) (s : State) : State :=
  let s := if inPowerBrake h s then setSpnForced h false s else s
  let s := spnGo h 7 5 (endStart h s)
  let s := emit 0x5006 (s.flag (SPN_FAULT h) F_SPN_FAULT_OVERCURRENT)
  hdaFault h 0x5006 inj s

/-- OVERCURRENT_TRIP: a phase current above TRIP_MA in ALIGNING, RAMP, CLOSED, AT_SPEED or BRAKING (R61). -/
def execOvercurrentTrip (h : Hda) (ma : BitVec 16) (s : State) : Host.Outcome State Fault Refusal :=
  let k := h.toNat
  ok (onlyIf (driving (spnState k s) && decide (s.fld (SPN_ILIMIT k) F_SPN_ILIMIT_TRIP_MA < ma.toNat)) (spnTrip k false) s)

/-! ### Catching (R67–R69) -/

/-- The catch is decided (R68): RESULT and the speed are shown and 0x5003 is emitted. -/
def catchShow (h result rpm : Nat) (s : State) : State :=
  emit 0x5003 ((s.setf (SPN_CATCH h) F_SPN_CATCH_RESULT result).setf (SPN_CATCH h) F_SPN_CATCH_RPM rpm)

/-- The forward speed of a catch in rpm from the time of six crossing intervals, 10 ns ticks (R68). -/
def catchRpm (pp ticks : Nat) : Nat := 6000000000 / (pp * ticks)

/-- CATCH_DECIDED: seven consecutive crossings, forward, reverse or of mixed order (`order` 0, 1, 2), with T from the first to the
seventh (R68). Forward at 300 rpm or more enters CLOSED at the measured speed, at the step after the last crossing, the six intervals giving
the duration of a step; anything else short-brakes. For a reverse or mixed order SPN_CATCH.RPM shows the value of the same formula, which the
spec gives for forward order only (DESIGN CHOICE, log 105). -/
def execCatchDecided (h : Hda) (order : BitVec 2) (ticks : W32) (lastStep : BitVec 3) (railMv : BitVec 16) (s : State) :
    Host.Outcome State Fault Refusal :=
  let k := h.toNat
  let pp := s.fld (SPN_MOTOR k) F_SPN_MOTOR_POLE_PAIRS
  let rpm := if ticks = 0 then 0 else min (catchRpm pp ticks.toNat) 65535
  ok (onlyIf (spnState k s == 1) (fun s =>
    if order.toNat = 0 ∧ rpm ≥ 300 then
      let duty := if railMv.toNat = 0 then 65535
        else min (rpm * s.fld (SPN_MOTOR k) F_SPN_MOTOR_KE * 65536 / (1000 * railMv.toNat)) 65535
      let s := (catchShow k 1 rpm s).setf (SPN_STATE k) F_SPN_STATE_DIR 0
      let s := modSpin k (fun y => { y with
        step := nextStep lastStep.toNat, duty := duty, neg := false, stepAt := mticks s, prevDur := ticks.toNat / 6, xSeen := false }) s
      spnClose k (min (rpmX16 pp ticks.toNat) (2 ^ 20 - 1)) 1 s
    else if order.toNat = 1 then
      spnGo k 8 1 ((catchShow k 3 rpm s).setf (SPN_STATE k) F_SPN_STATE_DIR 1)
    else spnGo k 8 1 (catchShow k 2 rpm s)) s)

/-- CATCH_WINDOW_EXPIRED: no decision within 0.4 / POLE_PAIRS seconds; SHORT_BRAKED (R67, R68). -/
def execCatchWindowExpired (h : Hda) (s : State) : Host.Outcome State Fault Refusal :=
  let k := h.toNat
  ok (onlyIf (spnState k s == 1) (fun s => spnGo k 8 1 (catchShow k 2 0 s)) s)

/-! ### Speed (R48, R55, R56, R62) -/

/-- A spindle enters AT_SPEED; its set-point stays (R48, R55). The start is over: the spindle stops counting as accelerating (R70). -/
def spnAtSpeed (h speed : Nat) (s : State) : State :=
  let s := modSpin h (fun x => { x with accel := false, attempts := 0 }) (spnGo h 5 0 s)
  emit 0x5002 (s.setf (SPN_SPEED0 h) F_SPN_SPEED0_RPM_X16 speed)

/-- SPEED_OUT_OF_TOLERANCE: the measured speed leaves ±1 % of the target; AT_SPEED returns to CLOSED with its set-point (R48, R55). -/
def execSpeedOutOfTolerance (h : Hda) (speed : BitVec 20) (s : State) : Host.Outcome State Fault Refusal :=
  let k := h.toNat
  ok (onlyIf (spnState k s == 5 && !within k speed.toNat 10 s)
    (fun s => (spnGo k 4 0 (runEnd k s)).setf (SPN_SPEED0 k) F_SPN_SPEED0_RPM_X16 speed.toNat) s)

/-- The speed leaves ±5 % of the target while the HDA is loaded (R62). -/
def spnBand (h : Nat) (inj : Bool) (s : State) : State :=
  hdaFault h 0x5007 inj (emit 0x5007 (s.flag (SPN_FAULT h) F_SPN_FAULT_SPEED_BAND))

/-- SPEED_BAND_FAULT (R62): the spindle itself stays in CLOSED and keeps regulating. -/
def execSpeedBandFault (h : Hda) (speed : BitVec 20) (s : State) : Host.Outcome State Fault Refusal :=
  let k := h.toNat
  ok (onlyIf (hdaLoaded k s && !within k speed.toNat 50 s) (fun s =>
    spnBand k false (if spnState k s = 5 then spnGo k 4 0 (runEnd k s) else s)) s)

/-- The spin-up timeout of an admitted start (R56): CATCHING, ALIGNING, RAMP and CLOSED move to BRAKING, SHORT_BRAKED stays. While regeneration is
inhibited the spec sends only a BRAKE straight to SHORT_BRAKED (R75): this way, and a negative demand in CLOSED, go on (DESIGN CHOICE, log 106). -/
def spnSpinupTmo (h : Nat) (inj : Bool) (s : State) : State :=
  let st := spnState h s
  let s := emit 0x5005 ((endStart h s).flag (SPN_FAULT h) F_SPN_FAULT_SPINUP_TMO)
  let s := if 1 ≤ st ∧ st ≤ 4 then spnBraking h 5 s else s
  hdaFault h 0x5005 inj s

/-- SPINUP_TIMEOUT: SPINUP_S seconds after its admission a start has not reached AT_SPEED (R56). -/
def execSpinupTimeout (h : Hda) (s : State) : Host.Outcome State Fault Refusal :=
  ok (onlyIf (spin h.toNat s).accel (spnSpinupTmo h.toNat false) s)

/-! ### Braking and rails (R73–R82, R435) -/

/-- BRAKE_HANDOFF: below HANDOFF_RPM a braking spindle, outside a power-loss brake, is short-braked (R48, R73). -/
def execBrakeHandoff (h : Hda) (speed : BitVec 20) (s : State) : Host.Outcome State Fault Refusal :=
  let k := h.toNat
  ok (onlyIf (spnState k s == 6 && !inPowerBrake k s &&
      decide (speed.toNat < 16 * s.fld (SPN_BRAKE k) F_SPN_BRAKE_HANDOFF_RPM))
    (fun s => spnGo k 8 (s.fld (SPN_STATE k) F_SPN_STATE_CAUSE) s) s)

/-- SHORT_BRAKE_TIMEOUT: SB_MAX_S in SHORT_BRAKED without falling below 30 rpm; it stays short-braked (R74). -/
def execShortBrakeTimeout (h : Hda) (s : State) : Host.Outcome State Fault Refusal :=
  let k := h.toNat
  ok (onlyIf (spnState k s == 8) (fun s => emit 0x5008 (s.flag (SPN_FAULT k) F_SPN_FAULT_BRAKE_TMO)) s)

/-- The voltage of a rail as read, with the highest and lowest since power-on (GH_RAIL, GH_RAIL_PEAK). -/
def railShow (r mv : Nat) (s : State) : State :=
  let s := s.setf (GH_RAIL r) F_GH_RAIL_MV mv
  let hi := s.fld (GH_RAIL_PEAK r) F_GH_RAIL_PEAK_MAX_MV
  let lo := s.fld (GH_RAIL_PEAK r) F_GH_RAIL_PEAK_MIN_MV
  (s.setf (GH_RAIL_PEAK r) F_GH_RAIL_PEAK_MAX_MV (max hi mv)).setf (GH_RAIL_PEAK r) F_GH_RAIL_PEAK_MIN_MV (min lo mv)

/-- CHOPPER_ON: a rail at 13.6 V or above turns its chopper on (R78). -/
def execChopperOn (r : Rail) (mv : BitVec 16) (s : State) : Host.Outcome State Fault Refusal :=
  let k := r.toNat
  ok (onlyIf (decide (13600 ≤ mv.toNat)) (fun s =>
    (railShow k mv.toNat s).flag (GH_RAIL k) F_GH_RAIL_CHOP_ON) s)

/-- CHOPPER_OFF: a rail at 13.0 V or below turns its chopper off (R78). -/
def execChopperOff (r : Rail) (mv : BitVec 16) (s : State) : Host.Outcome State Fault Refusal :=
  let k := r.toNat
  ok (onlyIf (decide (mv.toNat ≤ 13000)) (fun s =>
    (railShow k mv.toNat s).setf (GH_RAIL k) F_GH_RAIL_CHOP_ON 0) s)

/-- A chopper fault is declared on a rail (R79): Notice record, 0xA005, its regenerating spindles short-braked with CAUSE 2, and
regeneration inhibited. It is not declared again until CHOPPER_TEST passes. -/
def chopFault (r mv : Nat) (inj : Bool) (s : State) : State :=
  if s.fld (GH_RAIL r) F_GH_RAIL_CHOP_FAULT = 1 then s
  else
    let s := s.flag (GH_RAIL r) F_GH_RAIL_CHOP_FAULT
    let s := emit 0xA005 (lodge .notice 0xA005 r mv inj s)
    let s := each (hdasOf r) (fun h t => if regenerating h t then forceBrake h 2 t else t) s
    setInhibit r true s

/-- CHOPPER_FAULT: 50 µs after chopper-on at 13.6 V or above with less than 0.5 A, or 14.4 V reached (R79). -/
def execChopperFault (r : Rail) (mv ma : BitVec 16) (s : State) : Host.Outcome State Fault Refusal :=
  let k := r.toNat
  ok (onlyIf (decide (14400 ≤ mv.toNat) ||
      (decide (13600 ≤ mv.toNat ∧ ma.toNat < 500) && s.fld (GH_RAIL k) F_GH_RAIL_CHOP_ON == 1))
    (fun s => chopFault k mv.toNat false (railShow k mv.toNat s)) s)

/-- A rail at 15.2 V (R80): Grave with event code 0xA104. -/
def railGrave (r mv : Nat) (inj : Bool) (s : State) : State :=
  let s := s.flag (GH_RAIL r) F_GH_RAIL_GRAVE_OV
  grave 0xA104 r mv inj (emit 0xA104 s)

/-- RAIL_OVERVOLTAGE (R80). -/
def execRailOvervoltage (r : Rail) (mv : BitVec 16) (s : State) : Host.Outcome State Fault Refusal :=
  ok (onlyIf (decide (15200 ≤ mv.toNat))
    (fun s => railGrave r.toNat mv.toNat false (railShow r.toNat mv.toNat s)) s)

/-- Power-loss retract of a rail (R81): PWRLOSS, a Notice record, 0xA007, its loaded actuators retracted, its spindles in the
power-loss brake. -/
def powerLoss (r mv : Nat) (inj : Bool) (s : State) : State :=
  let s := s.flag (GH_RAIL r) F_GH_RAIL_PWRLOSS
  let s := emit 0xA007 (lodge .notice 0xA007 r mv inj s)
  let s := each (hdasOf r) powerBrake s
  each ((hdasOf r).flatMap actsOf) (fun a t => startRetract a false true false t) s

/-- Whether any retract of a rail's actuators runs. -/
def railRetracting (r : Nat) (s : State) : Bool := ((hdasOf r).flatMap actsOf).any (fun a => (retr a s).active)

/-- When no retract of a rail runs, its power-loss brakes end (R81). -/
def railBrakesEnd (r : Nat) (s : State) : State := if railRetracting r s then s else each (hdasOf r) powerBrakeEnd s

/-- POWER_LOSS_DETECTED: a rail has stayed below 10.8 V for more than 5 µs (R81); a dip while the last one is still in force acts again on the
actuators that are loaded and the spindles that turn. -/
def execPowerLossDetected (r : Rail) (mv : BitVec 16) (s : State) : Host.Outcome State Fault Refusal :=
  let k := r.toNat
  ok (onlyIf (decide (mv.toNat < 10800))
    (fun s => railBrakesEnd k (powerLoss k mv.toNat false (railShow k mv.toNat s))) s)

/-- POWER_LOSS_BRAKE_END: the rail's retracts have ended, or the spindle's speed falls below HANDOFF_RPM before they have; the
spindle enters COASTING (R81, R435). -/
def execPowerLossBrakeEnd (h : Hda) (speed : BitVec 20) (s : State) : Host.Outcome State Fault Refusal :=
  let k := h.toNat
  ok (onlyIf (inPowerBrake k s && (!railRetracting (railOf k) s ||
      decide (speed.toNat < 16 * s.fld (SPN_BRAKE k) F_SPN_BRAKE_HANDOFF_RPM))) (powerBrakeEnd k) s)

/-- RAIL_RECOVERED: every spindle of the rail has left the power-loss brake and the rail has been at 11.4 V or above for 10 ms;
PWRLOSS returns to 0 and 0xA008 is emitted (R435). -/
def execRailRecovered (r : Rail) (mv : BitVec 16) (s : State) : Host.Outcome State Fault Refusal :=
  let k := r.toNat
  ok (onlyIf (s.fld (GH_RAIL k) F_GH_RAIL_PWRLOSS == 1 && decide (11400 ≤ mv.toNat) && !(hdasOf k).any (fun h => inPowerBrake h s))
    (fun s => emit 0xA008 ((railShow k mv.toNat s).setf (GH_RAIL k) F_GH_RAIL_PWRLOSS 0)) s)

end Sys2Proof.Machine
end

