-- ==== Sys2Proof/Machine/Cache.lean ====
section
/-! DEFINITION. Buffer memory and the Orangery cache (spec/08_buffer_cache.md, R261–R300): the tag engine, write-back, read-ahead, classes,
ways, maintenance, DRAM errors. -/

namespace Sys2Proof.Machine

/-! ### Tag entries (R264–R266) -/

/-- A tag entry, by 16·set + way. -/
def tag (e : Nat) (s : State) : TagLine := tget {} s.buf.tags e

/-- Changes the tag engine. -/
def modBuf (f : BufSt → BufSt) (s : State) : State := { s with buf := f s.buf }

/-- Changes a tag entry. -/
def modTag (e : Nat) (f : TagLine → TagLine) (s : State) : State := modBuf (fun b => { b with tags := tmod {} b.tags e f }) s

/-- The set of a key (R265). -/
def setOf (key : Nat) : Nat := (key % 8192) ^^^ (key / 2 ^ 13 % 8192) ^^^ (key / 2 ^ 26 % 8192) ^^^ (key / 2 ^ 39 % 2)

/-- The entries of a set, by rising way. -/
def entsOf (set : Nat) : List Nat := (List.range 16).map (fun w => 16 * set + w)

/-- The address of the line that an entry holds, and of a sector of it (R264). -/
def lineAddr (e : Nat) : Nat := 0x2000000000 + e % 16 * 2 ^ 32 + e / 16 * 0x80000
def lineSector (e i : Nat) : Nat := lineAddr e + i * 4096

/-- Stores the state of a way. -/
def setWayState (w n : Nat) (s : State) : State :=
  s.wr BUF_WAY_STATE (fset (s.rd BUF_WAY_STATE) { lo := 2 * w, w := 2 } n)

/-- RD_EN, WR_EN and WR_DRAINING. -/
def rdEn (s : State) : Bool := s.fld BUF_CLASS_CTL F_BUF_CLASS_CTL_RD_EN == 1
def wrEn (s : State) : Bool := s.fld BUF_CLASS_CTL F_BUF_CLASS_CTL_WR_EN == 1
def wrDraining (s : State) : Bool := s.fld BUF_CLASS_STATUS F_BUF_CLASS_STATUS_WR_DRAINING == 1

/-- Counts a statistic of BUF_STATS (R302). -/
def bufStat (n : Nat) (s : State) : State := s.ctrWrap (BUF_STATS n) 64 1

/-- Whether a line belongs to the write class: DIRTY, WRITEBACK or a merge fill. -/
def TagLine.dirtyClass (x : TagLine) : Bool := x.st == 3 || x.st == 4 || (x.st == 1 && x.merge)

/-- The recency rank of an entry within its set, 0 most recent (R266). -/
def ageOf (e : Nat) (s : State) : Nat :=
  ((entsOf (e / 16)).filter (fun x => decide ((tag x s).stamp > (tag e s).stamp ∨ ((tag x s).stamp = (tag e s).stamp ∧ x < e)))).length

/-- The 64 bits of an entry (R266). -/
def tagBits (e : Nat) (s : State) : Nat :=
  let x := tag e s
  x.st * 2 ^ 61 + b2n x.doomed * 2 ^ 60 + b2n x.redirty * 2 ^ 59 + b2n (if x.st = 1 then x.merge else x.part) * 2 ^ 58 +
    x.first % 128 * 2 ^ 51 + x.last % 128 * 2 ^ 44 + ageOf e s % 16 * 2 ^ 40 + x.key % 2 ^ 40

/-! ### Waking and invalidating (R267, R275, R280) -/

/-- A task is placed in the wake queue of a core (R275). -/
def wake (failed : Bool) (w : Nat × Nat) (s : State) : State :=
  modBuf (fun b => { b with wakes := tmod [] b.wakes w.1 (fun q => q ++ [(w.2, failed)]) }) s

/-- The waiters on a set are woken: they look up again (R275). -/
def wakeSet (set : Nat) (s : State) : State :=
  let l := s.buf.setW.filter (fun x => x.1 == set)
  each l (fun x t => wake false x.2 t) (modBuf (fun b => { b with setW := b.setW.filter (fun x => x.1 != set) }) s)

/-- An entry becomes INVALID; an exclusion stays (R297). -/
def tagInvalid (e : Nat) (s : State) : State :=
  let x := tag e s
  let s := modTag e (fun y => { excl := y.excl }) s
  wakeSet (e / 16) (each x.drainW (wake false) s)

/-- A doomed line is released once it is neither FILLING nor WRITEBACK and unpinned (R280); an unpinned CLEAN line can be a victim. -/
def tagSettle (e : Nat) (s : State) : State :=
  let x := tag e s
  if x.pins ≠ 0 then s
  else if x.doomed ∧ x.st ≠ 0 ∧ x.st ≠ 1 ∧ x.st ≠ 4 then tagInvalid e s
  else if x.st = 2 then wakeSet (e / 16) s else s

/-- A line is doomed (R266, R280). -/
def tagDoom (e : Nat) (s : State) : State :=
  tagSettle e (if (tag e s).doomed then s else bufStat 10 (modTag e (fun x => { x with doomed := true }) s))

/-- A line becomes INVALID, or DOOMED while pinned (R267). -/
def tagDrop (e : Nat) (s : State) : State := if (tag e s).pins = 0 then tagInvalid e s else tagDoom e s

/-- A line becomes CLEAN; writes that waited for it are woken and find it pinned for them (R275, R284); while RD_EN is 0 it becomes INVALID
instead (R267). -/
def tagClean (e : Nat) (s : State) : State :=
  let w := (tag e s).drainW
  let s := modTag e (fun x => { x with st := 2, redirty := false, due := false, drainW := [] }) s
  let s := each w (wake false) s
  if rdEn s then tagSettle e s else tagDrop e s

/-! ### Write-back (R278, R279) -/

/-- Whether a line can be taken for write-back: DIRTY, its extent not empty, unpinned (R278) but for the writes that wait for that write-back
(R284). -/
def TagLine.takeable (x : TagLine) : Bool := x.st == 3 && decide (x.first ≤ x.last) && decide (x.pins ≤ x.drainW.length)

/-- The least recent of the entries that can be taken for write-back. -/
def leastDirty (l : List (Nat × TagLine)) : Option Nat :=
  (l.foldl (fun (b : Option (Nat × TagLine)) x =>
    if !x.2.takeable then b else match b with
      | none => some x
      | some y => if x.2.stamp < y.2.stamp then some x else some y) none).map Prod.fst

/-- A line moves to WRITEBACK and its request is posted; with the queue full the request is held back (R278, 0x6001). -/
def wbPost (e : Nat) (s : State) : State :=
  let x := tag e s
  if !x.takeable then modTag e (fun y => { y with due := y.due || y.st == 3 }) s
  else if s.buf.wbq.length ≥ 512 then
    if x.due then s else emit 0x6001 (modTag e (fun y => { y with due := true }) s)
  else
    let s := modTag e (fun y => { y with st := 4, redirty := false, due := false }) s
    modBuf (fun b => { b with wbq := b.wbq ++ [(e, x.key, x.first, x.last)],
                              mWait := b.mWait.map (fun m => if m.1 = e then (m.1, m.2.1, true) else m) }) s

/-- The counts of lines and what follows from them: CLASS_STATUS.DIRTY, the write-back run of R278, and the end of a drain (R284). -/
def bufShow (s : State) : State :=
  let d := (s.buf.tags.filter (fun x => x.2.st == 3)).length
  let dw := (s.buf.tags.filter (fun x => x.2.st == 3 || x.2.st == 4)).length
  let hi := 4 * s.fld BUF_WB_CTL F_BUF_WB_CTL_HIGH
  let lo := 4 * s.fld BUF_WB_CTL F_BUF_WB_CTL_LOW
  let s := s.setf BUF_CLASS_STATUS F_BUF_CLASS_STATUS_DIRTY dw
  let s := modBuf (fun b => { b with wbRun := if hi < d then true else if dw ≤ lo then false else b.wbRun }) s
  if wrDraining s && !s.buf.tags.any (fun x => x.2.dirtyClass) then
    emit 0x6002 (s.setf BUF_CLASS_STATUS F_BUF_CLASS_STATUS_WR_DRAINING 0)
  else s

/-- The next line to be taken for write-back: one that is due, one of a way that drains, any during a drain or while the run of R278 goes
on; the least recent of its kind. -/
def wbNext (s : State) : Option Nat :=
  let l := s.buf.tags
  match leastDirty (l.filter (fun x => x.2.due || wayState (x.1 % 16) s == 3)) with
  | some e => some e
  | none => if wrDraining s || s.buf.wbRun then leastDirty l else none

/-- WRITEBACK_REQUEST (R278). -/
def execWritebackRequest (s : State) : Host.Outcome State Fault Refusal :=
  ok (match wbNext s with
    | some e => bufShow (wbPost e s)
    | none => s)

/-- DIRTY_AGE_EXPIRED (R278). -/
def execDirtyAgeExpired (set : BitVec 13) (w : Way) (s : State) : Host.Outcome State Fault Refusal :=
  let e := 16 * set.toNat + w.toNat
  ok (onlyIf ((tag e s).st == 3) (fun s => bufShow (wbPost e s)) s)

/-- WB_REQUEST_READ: a read of BUF_WB_REQ0 removes the oldest request (R279). -/
def wbRead (s : State) : State :=
  match s.buf.wbq with
  | [] => { (s.wr BUF_WB_REQ1 0).wr BUF_WB_REQ2 0 with rdata := 0 }
  | (e, key, f, l) :: r =>
    let s := modBuf (fun b => { b with wbq := r }) s
    let s := (s.wr BUF_WB_REQ1 (BitVec.ofNat 32 key)).wr BUF_WB_REQ2 (BitVec.ofNat 32 (key / 2 ^ 32 % 256))
    { s with rdata := BitVec.ofNat 32 (2 ^ 31 + e % 16 * 2 ^ 27 + e / 16 % 8192 * 2 ^ 14 + l % 128 * 2 ^ 7 + f % 128) }

/-- WB_REQUEST_READ (R279). -/
def execWbRequestRead (s : State) : Host.Outcome State Fault Refusal := ok (wbRead s)

/-! ### Maintenance (R289, R290) -/

/-- A line skipped by an operation: SKIPPED saturates at 4,095. -/
def maintSkip (s : State) : State :=
  s.setf BUF_MAINT_STATUS F_BUF_MAINT_STATUS_SKIPPED (min 4095 (s.fld BUF_MAINT_STATUS F_BUF_MAINT_STATUS_SKIPPED + 1))

/-- The operation waits for a write-back of a line. -/
def maintWait (e : Nat) (s : State) : State := modBuf (fun b => { b with mWait := b.mWait ++ [(e, (tag e s).key, false)] }) s

/-- The action of INVAL on a line (R289). -/
def maintInvalLine (e : Nat) (s : State) : State :=
  match (tag e s).st with
  | 2 => tagDrop e s
  | 1 => tagDoom e s
  | 3 => maintSkip s
  | 4 => maintSkip s
  | _ => s

/-- The visit of a line by an operation: its state decides (R289). -/
def maintVisit (op e : Nat) (s : State) : State :=
  let x := tag e s
  if x.st = 0 then s
  else match op with
    | 1 => maintInvalLine e s
    | 3 => if x.st = 3 then wbPost e (maintWait e s) else if x.st = 4 then maintWait e s else maintInvalLine e s
    | 4 => if x.st = 3 then tagDrop e s else if x.st = 4 then tagDoom e s else maintInvalLine e s
    | 5 => if x.st = 2 then tagDrop e s else if x.st = 1 ∧ !x.merge then tagDoom e s else s
    | _ => if x.st = 3 then wbPost e (maintWait e s) else if x.st = 4 then maintWait e s else s

/-- The 40-bit key of BUF_MAINT_KEY0 and BUF_MAINT_KEY1. -/
def maintKey (s : State) : Nat := (s.rd BUF_MAINT_KEY0).toNat + s.fld BUF_MAINT_KEY1 F_BUF_MAINT_KEY1_KEY_HI * 2 ^ 32

/-- A write of BUF_MAINT_CTL (R289, R301): a start while BUSY is 1 is refused, and so is one with a reserved operation, a COUNT of 0 or a range
that crosses a namespace index; a field out of its range keeps its value, the others are stored. COUNT is ignored for operations 5 and 6. Every
visit is made at once. -/
def maintCtl (v : W32) (s : State) : State :=
  let op := fget v F_BUF_MAINT_CTL_OP
  let n := fget v F_BUF_MAINT_CTL_COUNT
  let k := maintKey s
  let whole := decide (op = 5 ∨ op = 6)
  let go := v.toNat.testBit 31
  let badOp := decide (op = 0 ∨ op = 7)
  let badN := !whole && n == 0
  let cross := go && !whole && decide (k / 2 ^ 34 ≠ (k + n - 1) / 2 ^ 34)
  if s.fld BUF_MAINT_STATUS F_BUF_MAINT_STATUS_BUSY = 1 ∧ go = true then deny s
  else
    let s := if badOp then s else s.setf BUF_MAINT_CTL F_BUF_MAINT_CTL_OP op
    let s := if badN then s else s.setf BUF_MAINT_CTL F_BUF_MAINT_CTL_COUNT n
    if badOp || badN || cross then deny s
    else if !go then s
    else
      let s := (s.setf BUF_MAINT_STATUS F_BUF_MAINT_STATUS_SKIPPED 0).flag BUF_MAINT_STATUS F_BUF_MAINT_STATUS_BUSY
      let s := modBuf (fun b => { b with mOp := op, mWait := [], cleans := if op = 6 then b.cleans + 1 else b.cleans }) s
      let l := s.buf.tags.filter (fun x => whole || (decide (k ≤ x.2.key) && decide (x.2.key < k + n)))
      bufShow (each (l.map Prod.fst) (maintVisit op) s)

/-- A maintenance command: BUF_MAINT_CTL written with GO and its operation. -/
def maintCmd (m : Master) (op : Nat) (v : W32) (s : State) : State :=
  if mayCmd m then maintCtl (fset (v ||| 0x80000000) F_BUF_MAINT_CTL_OP op) s else deny s

/-- INVAL (R289). -/
def execMaintInval (m : Master) (v : W32) (s : State) : Host.Outcome State Fault Refusal := ok (maintCmd m 1 v s)
/-- CLEAN (R289). -/
def execMaintClean (m : Master) (v : W32) (s : State) : Host.Outcome State Fault Refusal := ok (maintCmd m 2 v s)
/-- CLEAN_INVAL (R289). -/
def execMaintCleanInval (m : Master) (v : W32) (s : State) : Host.Outcome State Fault Refusal := ok (maintCmd m 3 v s)
/-- DISCARD (R289). -/
def execMaintDiscard (m : Master) (v : W32) (s : State) : Host.Outcome State Fault Refusal := ok (maintCmd m 4 v s)
/-- INVAL_CLASS (R289). -/
def execMaintInvalClass (m : Master) (v : W32) (s : State) : Host.Outcome State Fault Refusal := ok (maintCmd m 5 v s)
/-- CLEAN_ALL (R289, R290). -/
def execMaintCleanAll (m : Master) (v : W32) (s : State) : Host.Outcome State Fault Refusal := ok (maintCmd m 6 v s)

/-- Whether the operation still waits for a line: it holds the same key and has not been written back or lost. -/
def maintOpen (m : Nat × Nat × Bool) (s : State) : Bool := (tag m.1 s).key == m.2.1 && (tag m.1 s).dirtyClass

/-- MAINT_END (R285, R290). -/
def execMaintEnd (s : State) : Host.Outcome State Fault Refusal :=
  ok (onlyIf (s.fld BUF_MAINT_STATUS F_BUF_MAINT_STATUS_BUSY == 1 && !s.buf.mWait.any (fun m => maintOpen m s)) (fun s =>
    let s := if s.buf.mOp = 5 then s.setf BUF_CLASS_STATUS F_BUF_CLASS_STATUS_RD_STALE 0 else s
    emit 0x6007 ((modBuf (fun b => { b with mOp := 0, mWait := [], cleaned := if b.mOp = 6 then b.cleans else b.cleaned }) s).setf BUF_MAINT_STATUS F_BUF_MAINT_STATUS_BUSY 0)) s)

/-- The operation in progress takes note of a write-back that has ended (R290). -/
def maintNote (e result : Nat) (redirty : Bool) (s : State) : State :=
  match s.buf.mWait.find? (fun m => m.1 == e) with
  | none => s
  | some m =>
    if result = 0 ∧ (m.2.2 ∨ !redirty) then
      let s := modBuf (fun b => { b with mWait := b.mWait.filter (fun x => x.1 != e) }) s
      if s.buf.mOp = 3 then maintInvalLine e s else s
    else wbPost e s

/-- A write of BUF_WB_DONE (R267, R279). A report for a line that is not in WRITEBACK has no effect. -/
def wbDone (v : W32) (s : State) : State :=
  let s := s.wr BUF_WB_DONE (v &&& 0x4003DFFF)
  let e := 16 * fget v F_BUF_WB_DONE_SET + fget v F_BUF_WB_DONE_WAY
  let r := fget v F_BUF_WB_DONE_RESULT
  let x := tag e s
  if !v.toNat.testBit 31 ∨ x.st ≠ 4 then s
  else
    let s := bufStat 7 s
    let s := if x.doomed ∧ x.pins = 0 then tagInvalid e s
      else if r = 1 ∨ x.redirty then modTag e (fun y => { y with st := 3, redirty := false }) s
      else tagClean e s
    bufShow (maintNote e r x.redirty (wakeSet (e / 16) s))

/-- WB_DONE (R279). -/
def execWbDone (m : Master) (v : W32) (s : State) : Host.Outcome State Fault Refusal :=
  ok (if mayCmd m then wbDone (v ||| 0x80000000) s else deny s)

/-! ### Lookups (R269–R273, R283–R285) -/

/-- Whether a line holds what a lookup needs (R270): all of it, or an extent that contains a read's range, or joins or overlaps a write's. -/
def TagLine.covers (x : TagLine) (write : Bool) (f l : Nat) : Bool :=
  !x.part || (decide (x.first ≤ x.last) && (if write then decide (f ≤ x.last + 1 ∧ x.first ≤ l + 1) else decide (x.first ≤ f ∧ l ≤ x.last)))

/-- The line a lookup finds: not doomed, in the lowest way; while RD_EN is 0 CLEAN lines are skipped, and a read finds only lines of the write
class (R269, R285). -/
def lookFind (key : Nat) (write : Bool) (s : State) : Option Nat :=
  (entsOf (setOf key)).find? (fun e =>
    let x := tag e s
    x.st != 0 && x.key == key && !x.doomed && (rdEn s || (x.st != 2 && (write || x.dirtyClass))))

/-- The entry that an allocation takes (R273): the first INVALID one round-robin from the way after the one last allocated, else the least
recent unpinned CLEAN line, which no lookup touches while RD_EN is 0 (R285). Only ways that are ON, and not excluded, give lines. -/
def victim (set : Nat) (s : State) : Option Nat :=
  let on := fun e => wayState (e % 16) s == 2 && !(tag e s).excl
  let order := (List.range 16).map (fun i => 16 * set + (s.buf.rr + 1 + i) % 16)
  match order.find? (fun e => on e && (tag e s).st == 0) with
  | some e => some e
  | none =>
    if !rdEn s then none
    else ((entsOf set).filter (fun e => on e && (tag e s).st == 2 && (tag e s).pins == 0 && !(tag e s).doomed)).foldl
      (fun b e => match b with
        | none => some e
        | some y => if (tag e s).stamp < (tag y s).stamp then some e else some y) none

/-- A line becomes the most recent (R266). -/
def tagTouch (e : Nat) (s : State) : State :=
  let n := s.buf.stamp + 1
  modTag e (fun x => { x with stamp := n }) (modBuf (fun b => { b with stamp := n }) s)

/-- A lookup: key, range, core, task, whether a write, and whether a read marked RA. -/
structure Lookup where
  key   : Nat
  first : Nat
  last  : Nat
  core  : Nat
  task  : Nat
  write : Bool
  ra    : Bool
  deriving DecidableEq, Repr

/-- A pinned result; a lookup marked RA leaves the line unpinned (R269, R271, R282). -/
def lookPin (q : Lookup) (e : Nat) (waits : Bool) (s : State) : State :=
  modTag e (fun x => { x with pins := if q.ra then x.pins else min 4095 (x.pins + 1),
                              waiters := if waits then x.waiters ++ [(q.core, q.task)] else x.waiters }) s

/-- BUSY: the task waits on the set, and the least recent DIRTY line of it is taken for write-back unless one is in WRITEBACK (R273). -/
def lookBusy (q : Lookup) (s : State) : Nat × Option Nat × State :=
  let set := setOf q.key
  let s := modBuf (fun b => { b with setW := b.setW ++ [(set, q.core, q.task)] }) s
  let s := if (entsOf set).any (fun e => (tag e s).st == 4) then s
    else match leastDirty ((entsOf set).map (fun e => (e, tag e s))) with
      | some e => wbPost e s
      | none => s
  (6, none, s)

/-- The lines of the write class in a set. -/
def setWriteLines (set : Nat) (s : State) : Nat := ((entsOf set).filter (fun e => (tag e s).dirtyClass)).length

/-- An allocation (R273): MISS_ALLOC for a read, ALLOC for a write with an empty extent. -/
def lookAlloc (q : Lookup) (s : State) : Nat × Option Nat × State :=
  let set := setOf q.key
  if q.write && decide (setWriteLines set s ≥ s.fld BUF_WB_CTL F_BUF_WB_CTL_SET_MAX) then lookBusy q s
  else match victim set s with
    | none => lookBusy q s
    | some e =>
      let s := modTag e (fun _ => { st := if q.write then 3 else 1, part := q.write, first := 127, last := 0, key := q.key, pins := 1 }) s
      (if q.write then 3 else 2, some e, tagTouch e (modBuf (fun b => { b with rr := e % 16 }) s))

/-- A bypassed write invalidates the CLEAN lines that hold a sector of its range, unless RD_EN is 0 (R283, R285). -/
def bypassDrop (q : Lookup) (s : State) : State :=
  if !rdEn s then s
  else each (entsOf (setOf q.key)) (fun e t =>
    let x := tag e t
    if x.st = 2 ∧ x.key = q.key ∧ !x.doomed ∧ (!x.part ∨ (x.first ≤ q.last ∧ q.first ≤ x.last)) then tagDrop e t else t) s

/-- The result of a lookup on a line it finds (R269, R270, R284). A DIRTY line whose extent does not do becomes a merge fill, and so does any line for a
write. R267 lets a read turn no other line into one: a CLEAN line gives way to a new one, as a victim does, and one in WRITEBACK is waited for (log 45). -/
def lookHit (q : Lookup) (e : Nat) (s : State) : Nat × Option Nat × State :=
  let s := tagTouch e s
  let x := tag e s
  if q.write ∧ wrDraining s ∧ (x.st = 3 ∨ x.st = 4) then
    (4, some e, lookPin q e false (modTag e (fun y => { y with drainW := y.drainW ++ [(q.core, q.task)] }) s))
  else if x.st = 1 then (4, some e, lookPin q e true s)
  else if x.covers q.write q.first q.last then (1, some e, lookPin q e false s)
  else if q.write ∨ x.st = 3 then
    (5, some e, lookPin q e true (modTag e (fun y => { y with st := 1, merge := true, redirty := false }) s))
  else if x.st = 2 then lookAlloc q (tagDrop e s)
  else lookBusy q s

/-- A lookup (R269–R273, R283, R285). -/
def lookup (q : Lookup) (s : State) : Nat × Option Nat × State :=
  let f := lookFind q.key q.write s
  let dirty := match f with
    | some e => (tag e s).st == 3 || (tag e s).st == 4
    | none => false
  if q.write && !wrEn s && !dirty then (7, none, bypassDrop q s)
  else match f with
    | some e => lookHit q e s
    | none => if !q.write && !rdEn s then (7, none, s) else lookAlloc q s

/-! ### Stream detector (R281, R282) -/

/-- Whether a line is present and not DOOMED. -/
def linePresent (key : Nat) (s : State) : Bool :=
  (entsOf (setOf key)).any (fun e => (tag e s).st != 0 && (tag e s).key == key && !(tag e s).doomed)

/-- A read-ahead request is posted, its class lowered by one, or dropped when the queue is full (R282). -/
def raPost (key cls : Nat) (s : State) : State :=
  if s.buf.raq.length ≥ 256 then bufStat 9 (s.flag BUF_FLAGS F_BUF_FLAGS_RA_DROP)
  else bufStat 8 (modBuf (fun b => { b with raq := b.raq ++ [(key, min 3 (cls + 1))] }) s)

/-- A read lookup not marked RA feeds the detector (R281): every line up to DEPTH ahead of the key and beyond the mark is considered once. -/
def raFeed (key cls : Nat) (s : State) : State :=
  if s.fld BUF_RA_CTL F_BUF_RA_CTL_EN = 0 then s
  else
    let old := (s.buf.det.find? (fun d => d.1 == key)).getD (key, 0, key)
    let n := old.2.1 + 1
    let depth := s.fld BUF_RA_CTL F_BUF_RA_CTL_DEPTH
    let go := decide (s.fld BUF_RA_CTL F_BUF_RA_CTL_TRIGGER ≤ n)
    let ahead := ((List.range depth).map (fun i => key + 1 + i)).filter (fun k => go && decide (old.2.2 < k ∧ k < 2 ^ 40))
    let mark := max old.2.2 (ahead.getLastD 0)
    let rest := match s.buf.det.find? (fun d => d.1 == key) with
      | some d => s.buf.det.erase d
      | none => s.buf.det.take 4095
    let s := modBuf (fun b => { b with det := ((key + 1) % 2 ^ 40, n, mark) :: rest }) s
    each ahead (fun k t => if linePresent k t then t else raPost k cls t) s

/-- RA_REQUEST_READ: a read of BUF_RA_REQ0 removes the oldest request (R282). -/
def raRead (s : State) : State :=
  match s.buf.raq with
  | [] => { s.wr BUF_RA_REQ1 0 with rdata := 0 }
  | (k, c) :: r =>
    let s := (modBuf (fun b => { b with raq := r }) s).wr BUF_RA_REQ1 (BitVec.ofNat 32 k)
    { s with rdata := BitVec.ofNat 32 (2 ^ 31 + c % 4 * 256 + k / 2 ^ 32 % 256) }

/-- RA_REQUEST_READ (R282). -/
def execRaRequestRead (s : State) : Host.Outcome State Fault Refusal := ok (raRead s)

/-- A read of BUF_WAKE removes the oldest wake of the core's queue (R275, R277). -/
def wakeTake (c : Nat) (s : State) : State :=
  match tget [] s.buf.wakes c with
  | [] => { s with rdata := 0 }
  | (t, f) :: r =>
    { modBuf (fun b => { b with wakes := tput [] b.wakes c r }) s with rdata := BitVec.ofNat 32 (2 ^ 31 + b2n f * 2 ^ 30 + t % 2048) }

/-- WAKE_READ (R275). -/
def execWakeRead (c : CoreId) (s : State) : Host.Outcome State Fault Refusal := ok (wakeTake c.toNat s)

/-! ### The command windows (R268–R274) -/

/-- COMMIT (R267, R271): a CLEAN line becomes DIRTY with PART = 0. -/
def tagCommit (e f l : Nat) (s : State) : State :=
  let x := tag e s
  if x.st = 0 then s
  else
    let empty := decide (x.first > x.last)
    modTag e (fun y => { y with first := if empty then f else min y.first f, last := if empty then l else max y.last l,
                                redirty := y.redirty || y.st == 4, part := y.part && y.st != 2, st := if y.st = 2 then 3 else y.st }) s

/-- RELEASE (R271): a line left with an empty extent becomes INVALID once no task holds it. -/
def tagRelease (e : Nat) (s : State) : State :=
  let s := modTag e (fun x => { x with pins := x.pins - 1 }) s
  let x := tag e s
  if x.st = 3 ∧ x.last < x.first ∧ x.pins = 0 then tagInvalid e s else tagSettle e s

/-- FILL_DONE (R18, R19, R267, R274, R277). A line that is not FILLING is left. -/
def tagFillDone (e status : Nat) (s : State) : State :=
  let x := tag e s
  if x.st ≠ 1 then s
  else
    let s := if x.merge then
        modTag e (fun y => { y with st := 3, merge := false, part := if status = 2 then true else false, waiters := [] }) s
      else modTag e (fun y => { y with st := 2, waiters := [] }) s
    let s := each x.waiters (wake (status == 2)) s
    if x.merge then tagSettle e s
    else if status = 0 ∧ !x.doomed then tagClean e s
    else tagDoom e s

/-- The result of an operation is shown in the core's window (BUF_TE_RES0, BUF_TE_RES1). -/
def teShow (c code : Nat) (set : Nat) (e : Option Nat) (s : State) : State :=
  let x := match e with
    | some k => tag k s
    | none => {}
  let w := match e with
    | some k => k % 16
    | none => 0
  let s := s.wr (BUF_TE_RES0 c) (BitVec.ofNat 32 (code * 2 ^ 28 + x.st * 2 ^ 25 + w * 2 ^ 21 + set % 8192))
  s.wr (BUF_TE_RES1 c) (BitVec.ofNat 32 (b2n (if x.st = 1 then x.merge else x.part) * 2 ^ 31 + x.last % 128 * 2 ^ 7 + x.first % 128))

/-- One tag operation of a core's window (R268). -/
def teRun (c : Nat) (v : W32) (s : State) : State :=
  let op := fget v F_BUF_TE_CMD_OP
  let f := fget v F_BUF_TE_CMD_FIRST
  let l := fget v F_BUF_TE_CMD_LAST
  let key := (s.rd (BUF_TE_KEY0 c)).toNat + s.fld (BUF_TE_KEY1 c) F_BUF_TE_KEY1_KEY_HI * 2 ^ 32
  if op = 1 ∨ op = 2 then
    let q : Lookup := { key := key, first := f, last := l, core := c, task := s.fld (BUF_TE_KEY1 c) F_BUF_TE_KEY1_TASK, write := op == 2,
                        ra := op == 1 && v.toNat.testBit 30 }
    let r := lookup q s
    let s := bufStat (r.1 - 1) r.2.2
    let s := if op = 1 ∧ !q.ra then raFeed key (fget v F_BUF_TE_CMD_CLASS) s else s
    bufShow (teShow c r.1 (setOf key) r.2.1 s)
  else
    let e := 16 * (key % 8192) + key / 2 ^ 32 % 16
    let s := match op with
      | 3 => tagCommit e f l s
      | 4 => tagRelease e s
      | _ => tagFillDone e (s.fld (BUF_TE_CMD c) F_BUF_TE_CMD_STATUS) s
    bufShow (teShow c 0 (key % 8192) (some e) s)

/-- A write of BUF_TE_CMD (R268, R301): a reserved OP or STATUS leaves its field unchanged and is counted; GO is refused while the window's
operation is in progress, and with a reserved OP. -/
def teCmd (c : Nat) (v : W32) (s : State) : State :=
  let op := fget v F_BUF_TE_CMD_OP
  let st := fget v F_BUF_TE_CMD_STATUS
  let badOp := decide (op = 0 ∨ 5 < op)
  let go := v.toNat.testBit 31
  if go && s.fld (BUF_TE_RES0 c) F_BUF_TE_RES0_BUSY == 1 then deny s
  else
    let w := fset (v &&& 0x7F9FFF80) F_BUF_TE_CMD_STATUS (if st = 3 then s.fld (BUF_TE_CMD c) F_BUF_TE_CMD_STATUS else st)
    let s := s.wr (BUF_TE_CMD c) (fset w F_BUF_TE_CMD_OP (if badOp then s.fld (BUF_TE_CMD c) F_BUF_TE_CMD_OP else op))
    let s := if st = 3 ∨ badOp then deny s else s
    if go && !badOp then teRun c v s else s

/-- A command of a core's window. -/
def teExec (c : CoreId) (op : Nat) (v : W32) (s : State) : State := teCmd c.toNat (fset (v ||| 0x80000000) F_BUF_TE_CMD_OP op) s

/-- LOOKUP_READ (R270). -/
def execLookupRead (c : CoreId) (v : W32) (s : State) : Host.Outcome State Fault Refusal := ok (teExec c 1 v s)
/-- LOOKUP_WRITE (R270). -/
def execLookupWrite (c : CoreId) (v : W32) (s : State) : Host.Outcome State Fault Refusal := ok (teExec c 2 v s)
/-- COMMIT (R271). -/
def execTagCommit (c : CoreId) (v : W32) (s : State) : Host.Outcome State Fault Refusal := ok (teExec c 3 v s)
/-- RELEASE (R271). -/
def execTagRelease (c : CoreId) (v : W32) (s : State) : Host.Outcome State Fault Refusal := ok (teExec c 4 v s)
/-- FILL_DONE (R274). -/
def execFillDone (c : CoreId) (v : W32) (s : State) : Host.Outcome State Fault Refusal := ok (teExec c 5 v s)

/-! ### Classes and ways (R283–R288) -/

/-- A write of WR_EN (R284): 0 begins a drain, 1 ends one; tasks that wait for a line go on waiting until it is CLEAN. -/
def wrEnWrite (on : Bool) (s : State) : State :=
  bufShow ((s.setf BUF_CLASS_STATUS F_BUF_CLASS_STATUS_WR_DRAINING (b2n !on)).setf BUF_CLASS_CTL F_BUF_CLASS_CTL_WR_EN (b2n on))

/-- A write of RD_EN (R285, R286): 0 leaves the CLEAN lines in place and sets RD_STALE. -/
def rdEnWrite (on : Bool) (s : State) : State :=
  (if on then s else s.flag BUF_CLASS_STATUS F_BUF_CLASS_STATUS_RD_STALE).setf BUF_CLASS_CTL F_BUF_CLASS_CTL_RD_EN (b2n on)

/-- A write of BUF_CLASS_CTL writes both fields. -/
def classCtl (v : W32) (s : State) : State := wrEnWrite (v.toNat.testBit 1) (rdEnWrite (v.toNat.testBit 0) s)

/-- WR_EN (R284). -/
def execWrEn (m : Master) (on : Bool) (s : State) : Host.Outcome State Fault Refusal := ok (if mayCmd m then wrEnWrite on s else deny s)

/-- RD_EN (R285, R286). -/
def execRdEn (m : Master) (on : Bool) (s : State) : Host.Outcome State Fault Refusal := ok (if mayCmd m then rdEnWrite on s else deny s)

/-- The enable bit of a way is written (R261, R287, R288); an enable of a way of an absent rank is refused. -/
def wayWrite (w : Nat) (on : Bool) (s : State) : State :=
  let en := s.fld BUF_WAY_CTL F_BUF_WAY_CTL_EN
  let put := fun (t : State) => t.setf BUF_WAY_CTL F_BUF_WAY_CTL_EN (setBit en w on)
  if on && !(s.fld BUF_CFG F_BUF_CFG_RANK1_PRESENT).testBit (w / 2) then emit 0x6008 s
  else if on then
    match wayState w s with
    | 0 => setWayState w 1 ((put s).setDom (86 + w) true)
    | 3 => setWayState w 2 (put s)
    | _ => put s
  else if wayState w s = 2 then setWayState w 3 (put s) else put s

/-- A write of BUF_WAY_CTL: the bits that change take effect. -/
def wayCtl (v : W32) (s : State) : State :=
  let en := s.fld BUF_WAY_CTL F_BUF_WAY_CTL_EN
  each (List.range 16) (fun w t => if en.testBit w = v.toNat.testBit w then t else wayWrite w (v.toNat.testBit w) t) s

/-- WAY_DISABLE (R287). -/
def execWayDisable (m : Master) (w : Way) (s : State) : Host.Outcome State Fault Refusal :=
  ok (if mayCmd m then wayWrite w.toNat false s else deny s)

/-- WAY_ENABLE (R288). -/
def execWayEnable (m : Master) (w : Way) (s : State) : Host.Outcome State Fault Refusal :=
  ok (if mayCmd m then wayWrite w.toNat true s else deny s)

/-- WAY_OFF: a DRAINING way with no dirty, filling or pinned line is invalidated and switched off (R287). -/
def execWayOff (w : Way) (s : State) : Host.Outcome State Fault Refusal :=
  let k := w.toNat
  let mine := s.buf.tags.filter (fun x => x.1 % 16 == k)
  ok (onlyIf (wayState k s == 3 && mine.all (fun x => (x.2.st == 0 || x.2.st == 2) && x.2.pins == 0)) (fun s =>
    let s := each (mine.map Prod.fst) tagInvalid s
    emit 0x6003 (setWayState k 0 (s.setDom (86 + k) false))) s)

/-- WAY_ON: the entries of a WAKING way are INVALID; a disable written meanwhile takes effect now (R288). -/
def execWayOn (w : Way) (s : State) : Host.Outcome State Fault Refusal :=
  let k := w.toNat
  ok (onlyIf (wayState k s == 1) (fun s =>
    let s := setWayState k (if (s.fld BUF_WAY_CTL F_BUF_WAY_CTL_EN).testBit k then 2 else 3) s
    each (s.buf.setW.map Prod.fst) wakeSet s) s)

/-! ### DRAM (R261–R263, R292–R299) -/

/-- The number of one bits among the lowest `w`. -/
def ones (w n : Nat) : Nat := (bitsOf w n).length

/-- Eight bytes of memory from a word address with a mask applied. -/
def xorWord (a mask : Nat) (s : State) : State :=
  s.wrBytes a (leBytes (ofLe (s.rdBytes a 8) ^^^ mask) 8)

/-- DRAM_ECC_ERROR (R295): a correctable error is corrected and written back, an uncorrectable one poisons the granule with its data as
read. A word flipped by BUF_FLIPMASK in one bit is correctable, in two it is not (R294, R299). -/
def execDramEccError (addr : Addr) (corrected : Bool) (s : State) : Host.Outcome State Fault Refusal :=
  let a := addr.toNat / 8 * 8
  let c := dramChan a
  let f := tget (0, 0) s.flips (a / 8)
  let n := ones 64 f.1 + ones 8 f.2
  let fix := if n = 1 then true else if n = 2 then false else corrected
  ok (onlyIf (dramOn a s) (fun s =>
    if fix then
      let s := if n ≤ 1 then { s with flips := tput (0, 0) s.flips (a / 8) (0, 0) } else xorWord a f.1 s
      let s := { s with dram := tmod {} s.dram c (fun d => { d with fix := d.fix + 1 }) }
      (s.incSat (BUF_ECC_CORR c) 1).flag BUF_FLAGS F_BUF_FLAGS_DRAM_CORR
    else
      let s := if n = 0 then s else xorWord a f.1 s
      let s := (s.incSat (BUF_ECC_UNCORR c) 1).flag BUF_FLAGS F_BUF_FLAGS_DRAM_UNCORR
      let s := (s.wr (BUF_ECC_ADDR_LO c) (BitVec.ofNat 32 a)).wr (BUF_ECC_ADDR_HI c) (BitVec.ofNat 32 (a / 2 ^ 32 % 65536))
      emit 0x6004 (s.setPoison a true)) s)

/-- An uncorrectable error in a tag entry (R297): a Data-class fault with the way as source. -/
def tagUncorr (e : Nat) (inj : Bool) (s : State) : State := lodge .data 0x6005 (e % 16) 0 inj s

/-- A range whose write-cache data is lost enters the list, which holds 4,096 ranges (R353). -/
def lostAdd (ns lba n : Nat) (s : State) : State :=
  let s := modHif (fun h => { h with lost := if h.lost.length < 4096 then h.lost ++ [(ns, lba, n)] else h.lost }) s
  asyncHealth (emit 0x700A s)

/-- The data of a line of the write class, a merge fill among them, is lost with its entry: its extent becomes a lost range (R353). -/
def lineLost (x : TagLine) (s : State) : State :=
  if x.dirtyClass ∧ x.first ≤ x.last then
    lostAdd (x.key / 2 ^ 34 + 1) (x.key % 2 ^ 34 * 128 + x.first) (x.last + 1 - x.first) s
  else s

/-- TAG_ECC_ERROR (R297, R353). -/
def execTagEccError (set : BitVec 13) (w : Way) (corrected : Bool) (s : State) : Host.Outcome State Fault Refusal :=
  let e := 16 * set.toNat + w.toNat
  ok (if corrected then bufStat 11 s
    else
      let s := tagUncorr e false (emit 0x6005 (s.flag BUF_FLAGS F_BUF_FLAGS_TAG_UNCORR))
      let s := lineLost (tag e s) s
      bufShow (modTag e (fun x => { x with excl := true }) (tagInvalid e s)))

/-- The next granule of the scrubber from a position on: rank 1 of a channel whose two ways are OFF is passed over (R298). -/
def scrubSkip (s : State) : Nat → Nat → Nat
  | 0, p => p
  | f + 1, p =>
    let c := (p - 2 ^ 30) / 2 ^ 27
    if 2 ^ 30 ≤ p ∧ p < 2 ^ 31 ∧ wayState (2 * c) s = 0 ∧ wayState (2 * c + 1) s = 0 then scrubSkip s f (2 ^ 30 + (c + 1) * 2 ^ 27) else p

/-- SCRUB_READ: the scrubber reads the granule at POS (R298); poison there is counted (R296). -/
def execScrubRead (s : State) : Host.Outcome State Fault Refusal :=
  ok (onlyIf (s.fld BUF_SCRUB_CTL F_BUF_SCRUB_CTL_EN == 1) (fun s =>
    let p := (s.rd BUF_SCRUB_STATE0).toNat
    let a := 0x1000000000 + 64 * p
    let s := if s.poisoned a then s.incSat (BUF_ECC_UNCORR (dramChan a)) 1 else s
    let n := scrubSkip s 8 (p + 1)
    if n < 2 ^ 31 then s.wr BUF_SCRUB_STATE0 (BitVec.ofNat 32 n)
    else emit 0x6006 ((s.wr BUF_SCRUB_STATE0 0).incSat BUF_SCRUB_STATE1 1)) s)

/-- FLIPMASK_ARM: an armed BUF_FLIPMASK corrupts the DRAM write at an address of its channel, and ARM returns to 0 (R299). -/
def execFlipmaskArm (addr : Addr) (s : State) : Host.Outcome State Fault Refusal :=
  let a := addr.toNat
  ok (onlyIf (s.fld BUF_FLIPMASK2 F_BUF_FLIPMASK2_ARM == 1 && dramOn a s && dramChan a == s.fld BUF_FLIPMASK2 F_BUF_FLIPMASK2_CH) (fun s =>
    let d := (s.rd BUF_FLIPMASK0).toNat + (s.rd BUF_FLIPMASK1).toNat * 2 ^ 32
    { s.setf BUF_FLIPMASK2 F_BUF_FLIPMASK2_ARM 0 with
      flips := tput (0, 0) s.flips (a / 8) (d, s.fld BUF_FLIPMASK2 F_BUF_FLIPMASK2_CHECK) }) s)

end Sys2Proof.Machine
end

