-- ==== Sys2Proof/Machine/Icehouse.lean ====
section
/-! DEFINITION. The Sundial and the Icehouse (spec/13_sundial_icehouse.md): captures, the snapshot ring in flash, clears, folds,
the epoch offset and the compare values. -/

namespace Sys2Proof.Machine

/-! ### The Sundial -/

/-- The epoch offset as 64 bits (R460). -/
def epochBits (s : State) : Nat := (s.rd SDL_EPOCH_LO).toNat + 2 ^ 32 * (s.rd SDL_EPOCH_HI).toNat

/-- The Sundial counter plus the epoch offset, 64 bits (R460). -/
def hostTime (s : State) : Nat := (s.sdl.now + epochBits s) % 2 ^ 64

/-- Applies both words of the epoch offset and sets ORIGIN (R460). -/
def epochApply (lo : W32) (s : State) : State :=
  ((s.wr SDL_EPOCH_LO lo).wr SDL_EPOCH_HI s.sdl.epochHi).flag SDL_EPOCH_CTL F_SDL_EPOCH_CTL_ORIGIN

/-- The compare value of a core (R461). -/
def cmpValue (c : Nat) (s : State) : Nat := (s.rd (SDL_CMP_LO c)).toNat + 2 ^ 32 * (s.rd (SDL_CMP_HI c)).toNat

/-- Whether a core's Timer interrupt is asserted (R461). -/
def timerDue (c : Nat) (s : State) : Bool :=
  decide (s.fld (SDL_CMP_CTL c) F_SDL_CMP_CTL_ARM = 1 ∧ cmpValue c s ≤ s.sdl.now)

/-- A compare value or ARM is written: the interrupt stays asserted only while it is due (R461). -/
def timerShow (c : Nat) (s : State) : State := if timerDue c s then s else s.setf (SDL_CMP_CTL c) F_SDL_CMP_CTL_PENDING 0

/-- What a core's SDL_CMP_CTL.PENDING shows (R461). -/
def timerTick (c : Nat) (s : State) : State := if timerDue c s then s.flag (SDL_CMP_CTL c) F_SDL_CMP_CTL_PENDING else s

/-- SUNDIAL_READ: a master's read of its SDL_NOW_LO captures both words for that master alone (R459). The host does not reach the block (R30). -/
def execSundialRead (m : Master) (s : State) : Host.Outcome State Fault Refusal :=
  let k := m.toNat
  let lo := BitVec.ofNat 32 s.sdl.now
  let hi := BitVec.ofNat 32 (s.sdl.now / 2 ^ 32)
  ok (if m.toNat = 9 then { s with rdata := 0 } else { s with rdata := lo, snap := tput 0 (tput 0 s.snap (SDL_NOW_LO k).key lo) (SDL_NOW_HI k).key hi })

/-- EPOCH_HI_WRITE: the word is held (R460). Only cores write the block. -/
def execEpochHiWrite (m : Master) (v : W32) (s : State) : Host.Outcome State Fault Refusal :=
  ok (if m.toNat = 9 then deny s else { s with sdl := { s.sdl with epochHi := v } })

/-- EPOCH_LO_WRITE: both words are applied and ORIGIN is set (R460). -/
def execEpochLoWrite (m : Master) (v : W32) (s : State) : Host.Outcome State Fault Refusal :=
  ok (if m.toNat = 9 then deny s else epochApply v s)

/-- COMPARE_WRITE: the high word is held, the low word applies both (R461). -/
def execCompareWrite (m : Master) (c : CoreId) (lo : Bool) (v : W32) (s : State) : Host.Outcome State Fault Refusal :=
  ok (if m.toNat = 9 then deny s
    else if lo then timerShow c.toNat ((s.wr (SDL_CMP_LO c.toNat) v).wr (SDL_CMP_HI c.toNat) (tget 0 s.sdl.cmpHi c.toNat))
    else { s with sdl := { s.sdl with cmpHi := tput 0 s.sdl.cmpHi c.toNat v } })

/-- TIMER_COMPARE: an armed compare value that the counter has reached asserts the core's Timer interrupt, which
SDL_CMP_CTL.PENDING shows (R461). -/
def execTimerCompare (c : CoreId) (s : State) : Host.Outcome State Fault Refusal :=
  ok (onlyIf (timerDue c.toNat s) (fun s => s.setf (SDL_CMP_CTL c.toNat) F_SDL_CMP_CTL_PENDING 1) s)

/-! ### Captures -/

/-- The entries counted since the last capture, as (entry, INTERVAL, LAST) (R463, R468). -/
def iceEvents (s : State) : List (Nat × Nat × Nat) :=
  ((List.range 512).filter (fun i => decide (32 ≤ i ∧ (s.rd (ICE_EVT_INTERVAL i)).toNat ≠ 0))).map
    (fun i => (i, (s.rd (ICE_EVT_INTERVAL i)).toNat, s.ctr (ICE_EVT_LAST i)))

/-- The bins of the six histograms (R469). -/
def iceBins (s : State) : List Nat := (List.range 96).map (fun k => s.ctr (ICE_HIST (k / 16) (k % 16)))

/-- The eight extremes: MIN, MAX, MIN time, MAX time (R469). -/
def iceExtremes (s : State) : List (Nat × Nat × Nat × Nat) :=
  (List.range 8).map (fun e => ((s.rd (ICE_EXT_MIN e)).toNat, (s.rd (ICE_EXT_MAX e)).toNat,
    (s.rd (ICE_EXT_T e 0)).toNat + 2 ^ 32 * (s.rd (ICE_EXT_T e 1)).toNat,
    (s.rd (ICE_EXT_T e 2)).toNat + 2 ^ 32 * (s.rd (ICE_EXT_T e 3)).toNat))

/-- The whole state of the Icehouse in one cycle (R468). -/
def iceTake (reason : Nat) (s : State) : IceCapture :=
  { time := s.sdl.now, reason := reason, first := s.ice.first, epoch := epochBits s,
    origin := decide (s.fld SDL_EPOCH_CTL F_SDL_EPOCH_CTL_ORIGIN = 1), clears := (s.rd ICE_CLEAR_COUNT).toNat,
    bins := iceBins s, extremes := iceExtremes s, sat := s.fld ICE_SAT F_ICE_SAT_SAT, events := iceEvents s, skipped := 0 }

/-- The INTERVAL of an entry in a list of entries. -/
def ivOf (l : List (Nat × Nat × Nat)) (i : Nat) : Nat :=
  match l with
  | [] => 0
  | (j, n, _) :: r => if j = i then n else ivOf r i

/-- The LAST of an entry in a list of entries. -/
def lastOf (l : List (Nat × Nat × Nat)) (i : Nat) : Nat :=
  match l with
  | [] => 0
  | (j, _, t) :: r => if j = i then t else lastOf r i

/-- The entries of a buffer merged with those of a new capture: saturating sums of INTERVAL, and the new LAST (R472). -/
def mergeEvents (old new : List (Nat × Nat × Nat)) (last : Nat → Nat) : List (Nat × Nat × Nat) :=
  ((List.range 512).filter (fun i => decide (ivOf old i + ivOf new i ≠ 0))).map
    (fun i => (i, min (ivOf old i + ivOf new i) (2 ^ 32 - 1), last i))

/-- A new capture merged into a buffer (R472). -/
def mergeCapture (old new : IceCapture) (last : Nat → Nat) : IceCapture :=
  { old with time := new.time, bins := new.bins, extremes := new.extremes, sat := new.sat,
             events := mergeEvents old.events new.events last, skipped := old.skipped + 1 }

/-- Whether a capture can be written now: the store is on, and neither a clear nor another erase or engine holds the main bank (R408, R472). -/
def iceCanWrite (s : State) : Bool :=
  s.domOn 104 && s.ice.erase.isNone && (bankErase 0 s).isNone && s.nvs.prog.isNone && s.nvs.commit.isNone

/-- Shows in ICE_STATE the number of buffered captures, and whether one waits because its write cannot proceed (R472). -/
def iceShow (s : State) : State :=
  let s := s.setf ICE_STATE F_ICE_STATE_PENDING s.ice.bufs.length
  s.setf ICE_STATE F_ICE_STATE_NVS_WAIT (b2n (!s.ice.bufs.isEmpty && !iceCanWrite s))

/-- A capture merged into the newer of two buffers, the one with the later Sundial time; the older is never changed (R472). -/
def mergeNewer (a b c : IceCapture) (last : Nat → Nat) : List IceCapture :=
  if b.time < a.time then [mergeCapture a c last, b] else [a, mergeCapture b c last]

/-- A capture: it enters a free buffer, or is merged into the newer one when both are full, and zeroes every INTERVAL
(R468, R472). -/
def iceCapture (reason : Nat) (s : State) : State :=
  let c := iceTake reason s
  let last := fun i => s.ctr (ICE_EVT_LAST i)
  let full := decide (s.ice.bufs.length ≥ 2)
  let bufs := match s.ice.bufs with
    | [a, b] => mergeNewer a b c last
    | l => if l.length < 2 then l ++ [c] else l
  let s := { s with ice := { s.ice with bufs := bufs, first := false } }
  let s := each (List.range 512) (fun i t => t.clr (ICE_EVT_INTERVAL i)) s
  let s := iceShow s
  if full then emit 0x8102 (s.incSat ICE_SKIPPED 1) else s

/-- A capture whose moment has come (R468). -/
def iceDue (reason : Nat) (s : State) : State :=
  iceCapture reason { s with ice := { s.ice with due := s.ice.due.filter (fun r => r != reason) } }

/-- SNAPSHOT_CAPTURE: when the Sundial has crossed a 10-minute boundary (REASON 0) or GH_GRAVE.LATCHED has become 1 (REASON 2); the capture of a clear
(REASON 1) is part of ICEHOUSE_CLEAR (R468, R476). Without such a moment nothing is captured. -/
def execSnapshotCapture (reason : Slot) (s : State) : Host.Outcome State Fault Refusal :=
  ok (onlyIf (s.ice.due.contains reason.toNat) (iceDue reason.toNat) s)

/-! ### The snapshot ring -/

/-- Inserts an event entry by INTERVAL descending, then code ascending (R469). -/
def evInsert (x : Nat × Nat × Nat) : List (Nat × Nat × Nat) → List (Nat × Nat × Nat)
  | [] => [x]
  | y :: r => if x.2.1 > y.2.1 ∨ (x.2.1 = y.2.1 ∧ evtCode x.1 < evtCode y.1) then x :: y :: r else y :: evInsert x r

/-- The 12 bytes of an event entry: code, INTERVAL, AGE_MS saturating, 0 (R469). -/
def evBytes (time : Nat) (x : Nat × Nat × Nat) : List Byte :=
  leBytes (evtCode x.1) 2 ++ leBytes x.2.1 4 ++ leBytes (min ((time - x.2.2) / 1000000) (2 ^ 32 - 1)) 4 ++ leBytes 0 2

/-- The bytes of a slot after its CRC field: 12 to 1,023 (R469). -/
def slotTail (c : IceCapture) : List Byte :=
  let evs := c.events.foldr evInsert []
  leBytes (1 + c.reason * 2 ^ 16 + b2n c.first * 2 ^ 20 + c.sat * 2 ^ 24) 4 ++
  leBytes c.time 8 ++ leBytes c.epoch 8 ++ leBytes c.skipped 4 ++
  leBytes ((evs.length - 16) + b2n c.origin * 2 ^ 31) 4 ++ leBytes c.clears 4 ++
  leBytes PWR_FAMILY_ID.rst.toNat 4 ++ leBytes 0 16 ++
  c.bins.flatMap (fun b => leBytes b 6) ++
  c.extremes.flatMap (fun x => leBytes x.1 4 ++ leBytes x.2.1 4 ++ leBytes x.2.2.1 8 ++ leBytes x.2.2.2 8) ++
  ((evs.take 16).flatMap (evBytes c.time) ++ List.replicate 192 0).take 192

/-- The 1,024 bytes of a slot (R469). -/
def slotBytes (seq : Nat) (c : IceCapture) : List Byte :=
  let hd := leBytes 0x49434531 4 ++ leBytes seq 4
  let tl := slotTail c
  hd ++ leBytes (crc32 (hd ++ tl)) 4 ++ tl

/-- The window offset of a slot (R471). -/
def slotOff (i : Nat) : Nat := 0x1800000 + 0x400 * i

/-- Advances the head by one slot, wrapping from 2,047 to 0 (R471). -/
def iceAdvance (s : State) : State :=
  let h := s.fld ICE_STATE F_ICE_STATE_HEAD
  let s := if h = 2047 then s.setf ICE_STATE F_ICE_STATE_FILLED 1 else s
  let s := if h % 256 = 255 then { s with ice := { s.ice with ready := none } } else s
  s.setf ICE_STATE F_ICE_STATE_HEAD ((h + 1) % 2048)

/-- Whether the head stands at the first slot of a sector that is still to be erased before writing (R471). -/
def iceSectorUsed (s : State) : Bool :=
  let h := s.fld ICE_STATE F_ICE_STATE_HEAD
  h % 256 == 0 && s.ice.ready != some (h / 256)

/-- Passes over slots that are not blank, or whose program is refused because their sector is indeterminate (R399), with event 0x8106 for each (R470),
as far as a slot that is blank, or a sector that is erased first (R471). -/
def iceFind : Nat → State → State × Bool
  | 0, s => (s, false)
  | f + 1, s =>
    let h := s.fld ICE_STATE F_ICE_STATE_HEAD
    if iceSectorUsed s then (engineErase (96 + h / 256) s, false)
    else if nvIndet (96 + h / 256) s then iceFind f (emit 0x8106 (iceAdvance (indetProg s)))
    else if nvBlank s (slotOff h) 0x400 then (s, true)
    else iceFind f (emit 0x8106 (iceAdvance s))

/-- A snapshot's units 1 to 31 and then unit 0 are programmed (R470). -/
def slotProgram (h : Nat) (l : List Byte) (s : State) : State := nvUnit (slotOff h) (unitAt l 0) (nvUnits (slotOff h) l 1 31 s)

/-- A slot whose program fails: a free number of its units are programmed, and the one after them reads as blank or uncorrectable (R400, R470). -/
def slotSpoil (h : Nat) (l : List Byte) (s : State) : State :=
  let f := s.fresh
  let n := f.1 / 2 % 32
  let s := nvUnits (slotOff h) l 1 n f.2
  if f.1 % 2 = 0 then s else modNvs (fun x => { x with bad := tput false x.bad (slotOff h / 32 + (n + 1) % 32) true }) s

/-- A capture is written to the slot at the head; a slot whose program fails is passed over with event 0x8106 (R470, R471). -/
def icePut (c : IceCapture) (rest : List IceCapture) (fails : Bool) (s : State) : State :=
  let seq := (s.rd ICE_SLOT_SEQ).toNat + 1
  let h := s.fld ICE_STATE F_ICE_STATE_HEAD
  if fails then emit 0x8106 (iceAdvance (slotSpoil h (slotBytes seq c) s))
  else
    let s := { iceAdvance (slotProgram h (slotBytes seq c) s) with ice := { (iceAdvance s).ice with bufs := rest } }
    emit 0x8101 (s.wr ICE_SLOT_SEQ (BitVec.ofNat 32 seq))

/-- The older buffered capture is written to the next blank slot, once the sector that the head has reached is erased (R470–R472). -/
def iceWrite (fails : Bool) (s : State) : State :=
  iceShow (match s.ice.bufs with
    | [] => s
    | c :: rest =>
      if !iceCanWrite s then s
      else
        let p := iceFind 2048 s
        if p.2 then icePut c rest fails p.1 else p.1)

/-- SNAPSHOT_WRITE (R470–R472). While it cannot proceed the capture waits, which ICE_STATE.NVS_WAIT shows. -/
def execSnapshotWrite (fails : Bool) (s : State) : Host.Outcome State Fault Refusal := ok (iceWrite fails s)

/-- Whether a slot is valid: MAGIC and CRC match (R470). -/
def slotValid (s : State) (i : Nat) : Bool :=
  let b := s.rdNvs (slotOff i) 1024
  !nvBadAt (slotOff i) s && decide (ofLe (b.take 4) = 0x49434531 ∧ ofLe ((b.drop 8).take 4) = crc32 (b.take 8 ++ b.drop 12))

/-- The slots in which anything is written. -/
def slotsUsed (s : State) : List Nat :=
  (s.nv.filter (fun e => decide (0x1800000 ≤ e.1 ∧ e.1 < 0x1A00000 ∧ e.1 % 0x400 = 0))).map
    (fun e => (e.1 - 0x1800000) / 0x400)

/-- The newest valid slot: its number and SLOT_SEQ (R470). -/
def newestSlot (s : State) : Option (Nat × Nat) :=
  (slotsUsed s).foldl (fun acc i =>
    if slotValid s i then
      let q := ofLe (s.rdNvs (slotOff i + 4) 4)
      match acc with
      | none => some (i, q)
      | some (_, p) => if q > p then some (i, q) else acc
    else acc) none

/-- The scan at every CHIP reset: the head is set after the newest valid slot; with none SLOT_SEQ, which is not reset, stands (R473, R476). -/
def iceScan (s : State) : State :=
  match newestSlot s with
  | none => s.setf ICE_STATE F_ICE_STATE_HEAD 0
  | some (i, q) =>
    let s := (s.setf ICE_STATE F_ICE_STATE_HEAD ((i + 1) % 2048)).wr ICE_SLOT_SEQ (BitVec.ofNat 32 q)
    s.setf ICE_STATE F_ICE_STATE_FILLED (b2n (!nvBlank s (slotOff 2047) 0x400))

/-! ### Samples, folds and clearing -/

/-- HISTOGRAM_SAMPLE: a quantity sampled by time (R465, R467): the pool slots RETAINED and RETRYING, junction temperature or a motor rail in
millivolts into its histogram and extreme, the core supply or a front-end temperature into its extreme alone. The samples
of histograms 0 to 2 and of the speed error are taken by the commands that complete, decode, settle and measure. -/
def execHistogramSample (q : Quantity) (x : Int) (s : State) : Host.Outcome State Fault Refusal :=
  ok (match q with
    | .poolSlots =>
      let n := s.fld RCH_POOL_STATE1 F_RCH_POOL_STATE1_RETAINED + s.fld RCH_POOL_STATE1 F_RCH_POOL_STATE1_RETRYING
      extAdd 5 n (histAdd 3 (binPool n) s)
    | .junction => extAdd 0 x (histAdd 4 (binTj x) s)
    | .rail => extAdd 1 x (histAdd 5 (binRail x.toNat) s)
    | .coreSupply => extAdd 2 x s
    | .frontEnd => extAdd 6 x s)

/-- FOLD_ADD: a write of ICE_FOLD_ADD adds the value to the 48-bit saturating accumulator (R474). -/
def execFoldAdd (m : Master) (i : BitVec 5) (v : W32) (s : State) : Host.Outcome State Fault Refusal :=
  ok (if m.toNat = 9 then deny s else s.ctrSat (ICE_FOLD_SUM i.toNat) 48 v.toNat)

/-- Zeroes histograms, ICE_SAT, extremes, the event table, ICE_SKIPPED and the folds (step 2 of R476). -/
def iceZero (s : State) : State :=
  let s := each (List.range 96) (fun k t => t.setCtr (ICE_HIST (k / 16) (k % 16)) 0) s
  let s := each (List.range 8) (fun e t => each (List.range 4) (fun w u => u.clr (ICE_EXT_T e w))
    ((t.clr (ICE_EXT_MIN e)).clr (ICE_EXT_MAX e))) s
  let s := each (List.range 512) (fun i t => ((t.setCtr (ICE_EVT_COUNT i) 0).setCtr (ICE_EVT_LAST i) 0).clr (ICE_EVT_INTERVAL i)) s
  let s := each (List.range 32) (fun i t => t.setCtr (ICE_FOLD_SUM i) 0) s
  (s.clr ICE_SAT).clr ICE_SKIPPED

end Sys2Proof.Machine
end

