-- ==== Sys2Proof/Machine/Ldpc.lean ====
section
/-! DEFINITION. The LDPC code of the sectors (spec/05_reading.md, R169, R180, R182): the quasi-cyclic parity-check matrix of 19 × 190 circulants
of 192 × 192 bits, the systematic encoder, the syndrome, and the layered min-sum decoder. The shift table, whose shifts the toolkit supplies, is
an argument: the shift of each circulant, none for a zero block. Its 19 block rows are the layers of an iteration. -/

namespace Sys2Proof.Machine

/-- The circulant shifts, by block row and block column. -/
abbrev Shifts := List (List (Option Nat))

/-- Bits of a circulant, information bits, and bits of a codeword (R165, R169). -/
def ldpcZ : Nat := 192
def ldpcK : Nat := 32832
def ldpcN : Nat := 36480

/-- The columns in which check row r of the matrix has a one: row t of a circulant with shift c has it in column (t + c) mod 192 (R169). -/
def checkCols (t : Shifts) (r : Nat) : List Nat :=
  (t.getD (r / ldpcZ) []).zipIdx.filterMap (fun x => x.1.map (fun c => ldpcZ * x.2 + (r % ldpcZ + c) % ldpcZ))

/-- The check rows, layer by layer. -/
def checkRows (t : Shifts) : List (List Nat) := (List.range (ldpcZ * t.length)).map (checkCols t)

/-- Whether the bits fail a check. -/
def checkFails (bits : List Bool) (cols : List Nat) : Bool := cols.foldl (fun p c => p != bits.getD c false) false

/-- The number of unsatisfied checks: 0 when the syndrome is zero (R180, R182). -/
def unsatisfied (t : Shifts) (bits : List Bool) : Nat := ((checkRows t).filter (checkFails bits)).length

/-! ### The encoder -/

/-- An equation over the parity bits: the mask of the bits that occur, and their sum. -/
abbrev Equation := Nat × Bool

/-- The sum of two equations. -/
def Equation.plus (x y : Equation) : Equation := (x.1 ^^^ y.1, x.2 != y.2)

/-- The equation of a check row for given information bits. -/
def parityEquation (info : List Bool) (cols : List Nat) : Equation :=
  cols.foldl (fun e c => if c < ldpcK then (e.1, e.2 != info.getD c false) else (e.1 ^^^ 2 ^ (c - ldpcK), e.2)) (0, false)

/-- One step of the elimination: the first open equation with bit `c` becomes its pivot, and the bit leaves all others. -/
def eliminate (x : List Equation × List (Nat × Equation)) (c : Nat) : List Equation × List (Nat × Equation) :=
  match x.1.find? (fun e => e.1.testBit c) with
  | none => x
  | some p =>
    let out := fun (e : Equation) => if e.1.testBit c then e.plus p else e
    ((x.1.erase p).map out, (c, p) :: x.2.map (fun y => (y.1, out y.2)))

/-- The parity bits that make the syndrome zero (R169: the code is systematic). A parity bit that no equation fixes is 0. -/
def ldpcParity (t : Shifts) (info : List Bool) : List Bool :=
  let r := (List.range (ldpcN - ldpcK)).foldl eliminate ((checkRows t).map (parityEquation info), [])
  (List.range (ldpcN - ldpcK)).map (fun c => match r.2.find? (fun y => y.1 == c) with
    | some y => y.2.2
    | none => false)

/-! ### The decoder -/

/-- A decoder at work: the reliability of every bit, positive for 0, and the messages of the check rows. -/
structure MinSum where
  llr  : List Int
  msgs : List (List Int)
  deriving DecidableEq, Repr

/-- The decisions: a negative reliability is a 1. -/
def MinSum.bits (m : MinSum) : List Bool := m.llr.map (fun x => decide (x < 0))

/-- The message of a check to one of its bits: the sign of the product and the least magnitude of the others. -/
def minSumMsg (q : List Int) (i : Nat) : Int :=
  let o := q.eraseIdx i
  let mag := o.foldl (fun m x => match m with
    | none => some x.natAbs
    | some n => some (min n x.natAbs)) (none : Option Nat)
  let neg := o.foldl (fun p x => p != decide (x < 0)) false
  let v : Int := (mag.getD 0 : Nat)
  if neg then -v else v

/-- One check row of a pass: its old messages leave the reliabilities, its new ones enter them. -/
def minSumRow (m : MinSum) (x : List Nat × Nat) : MinSum :=
  let old := m.msgs.getD x.2 []
  let q := x.1.mapIdx (fun i c => m.llr.getD c 0 - old.getD i 0)
  let new := q.mapIdx (fun i _ => minSumMsg q i)
  { llr := m.llr.mapIdx (fun c v => match x.1.findIdx? (fun d => d == c) with
      | some i => q.getD i 0 + new.getD i 0
      | none => v)
    msgs := (List.range (max m.msgs.length (x.2 + 1))).map (fun r => if r = x.2 then new else m.msgs.getD r []) }

/-- One iteration: a layered min-sum pass over all block rows (R169). -/
def minSumPass (t : Shifts) (m : MinSum) : MinSum := (checkRows t).zipIdx.foldl minSumRow m

/-- What a decoding comes to: whether the syndrome became zero, after how many iterations, the bits, and their reliabilities. -/
structure Decoded where
  conv  : Bool
  iters : Nat
  bits  : List Bool
  llr   : List Int
  deriving DecidableEq, Repr

/-- Up to `f` further iterations, the next one numbered `i`: decoding ends when the syndrome is zero, and early when at the end of iteration
`es` more than `thr` checks are unsatisfied; a threshold of 0 disables that (R182). -/
def minSumRun (t : Shifts) (es thr : Nat) : Nat → Nat → MinSum → Decoded
  | 0, i, m => { conv := false, iters := i - 1, bits := m.bits, llr := m.llr }
  | f + 1, i, m =>
    let m := minSumPass t m
    let u := unsatisfied t m.bits
    if u = 0 then { conv := true, iters := i, bits := m.bits, llr := m.llr }
    else if i = es ∧ thr ≠ 0 ∧ thr < u then { conv := false, iters := i, bits := m.bits, llr := m.llr }
    else minSumRun t es thr f (i + 1) m

/-- A decoding of a codeword's log-likelihood ratios with an iteration limit (R180, R182). Positions that are missing have the ratio 0. -/
def ldpcDecode (t : Shifts) (llr : List Int) (maxIter es thr : Nat) : Decoded := minSumRun t es thr maxIter 1 { llr := llr, msgs := [] }

/-- Bytes of bits, each most significant bit first (R208). -/
def bytesOfBits : List Bool → List Byte
  | b7 :: b6 :: b5 :: b4 :: b3 :: b2 :: b1 :: b0 :: r =>
    BitVec.ofNat 8 ([b7, b6, b5, b4, b3, b2, b1, b0].foldl (fun n b => 2 * n + (if b then 1 else 0)) 0) :: bytesOfBits r
  | _ => []

end Sys2Proof.Machine
end

