-- ==== Sys2Proof/Machine/Map.lean ====
section
/-! DEFINITION. The placement map (spec/09_host_interface.md, R348): where on the media a logical block lies, and what the host commands and a
Sanitize take from the outcome of a sector (R331, R333, R335). -/

namespace Sys2Proof.Machine

/-! ### Zones of the media (R172, R244) -/

/-- Whether a zone is valid, and its first cylinder; zone 0 always is, from cylinder 0 (RCH_ZONE). -/
def zoneValid (a z : Nat) (s : State) : Bool := z == 0 || s.fld (RCH_ZONE0 a z) F_RCH_ZONE0_VALID == 1
def zoneStart (a z : Nat) (s : State) : Nat := if z = 0 then 0 else s.fld (RCH_ZONE0 a z) F_RCH_ZONE0_START_CYL

/-- The zone of a cylinder: the valid entry with the highest START_CYL not above it (R172). -/
def zoneOf (a cyl : Nat) (s : State) : Nat :=
  (List.range 32).foldl (fun b z => if zoneValid a z s ∧ zoneStart a z s ≤ cyl ∧ zoneStart a b s ≤ zoneStart a z s then z else b) 0

/-- The sectors per track of a zone (R244). -/
def zoneSpt (a z : Nat) (s : State) : Nat := s.fld (SEQ_FMT0 a z) F_SEQ_FMT0_SPT

/-- The sectors per track of a cylinder. -/
def cylSpt (a c : Nat) (s : State) : Nat := zoneSpt a (zoneOf a c s) s

/-! ### The map (R348) -/

/-- The heads of an actuator (R348). -/
def headsOn (a : Nat) (s : State) : Nat := s.fld (SRV_ACT_LIMIT a) F_SRV_ACT_LIMIT_HEADS_PRESENT

/-- A namespace by its identifier. -/
def nsAt (id : Nat) (s : State) : Option NsSt := tget none s.hif.nss id

/-- The actuators of a set (R346). -/
def NsSt.acts (n : NsSt) : List Nat := bitsOf 64 n.mask

/-- The index in the set of the actuator that holds a line of an actuator-sequential placement. -/
def seqIndex : List Nat → Nat → Nat
  | [], _ => 0
  | l :: r, line => if line < l then 0 else seqIndex r (line - l) + 1

/-- The actuator that a line lies on (R348). -/
def NsSt.actOf (n : NsSt) (line : Nat) : Nat :=
  let j := if n.mode = 0 then line % (max 1 n.acts.length) else seqIndex n.lines line
  n.acts.getD j 0

/-- What is left of a line number behind the actuators before the one that holds it, in an actuator-sequential placement. -/
def seqLine : List Nat → Nat → Nat
  | [], line => line
  | l :: r, line => if line < l then line else seqLine r (line - l)

/-- The cylinder that an offset on an actuator lies on, and what is left of the offset there; `n` cylinders are left from `c` on. -/
def cylFind (spt : Nat → Nat) (heads : Nat) : Nat → Nat → Nat → Option (Nat × Nat)
  | 0, _, _ => none
  | n + 1, c, off => if off < spt c * heads then some (c, off) else cylFind spt heads n (c + 1) (off - spt c * heads)

/-- The widths of the stripe groups of an actuator: WIDTH heads each, the last possibly fewer. -/
def groupWidths (heads w : Nat) : List Nat := List.replicate (heads / w) w ++ (if heads % w = 0 then [] else [heads % w])

/-- The head and the track sector of an offset on a cylinder, behind the groups before it, whose heads end at `h`. -/
def groupFind (spt : Nat) : List Nat → Nat → Nat → Option (Nat × Nat)
  | [], _, _ => none
  | w :: r, h, off => if off < spt * w then some (h + off % w, off / w) else groupFind spt r (h + w) (off - spt * w)

/-- A place on the media: actuator, cylinder, head and track sector. -/
abbrev MediaPlace := Nat × Nat × Nat × Nat

/-- Where a logical block of a namespace lies (R348). -/
def NsSt.place (n : NsSt) (lba : Nat) (s : State) : Option MediaPlace :=
  let line := lba / 128
  let a := n.actOf line
  let m := if n.mode = 0 then line / (max 1 n.acts.length) else seqLine n.lines line
  match cylFind (cylSpt a · s) (headsOn a s) (n.cylLast + 1 - n.cylFirst) n.cylFirst (m * 128 + lba % 128) with
  | none => none
  | some (c, off) => (groupFind (cylSpt a c s) (groupWidths (headsOn a s) n.width) 0 off).map (fun p => (a, c, p.1, p.2))

/-! ### Outcomes of sectors -/

/-- Whether a run of blocks has been moved (R20). -/
def HTask.movedBlock (x : HTask) (k : Nat) : Bool := x.moved.any (fun r => decide (r.1 ≤ k ∧ k < r.1 + r.2))

/-- What an outcome code of R249 says of a sector on the media: read, unrecoverable, written, or (3) nothing that holds; none for an outcome that
says nothing. -/
def mediaCode (oc : Nat) : Option Nat :=
  match oc with
  | 0 => some 0
  | 1 => some 0
  | 3 => some 1
  | 4 => some 2
  | 5 => some 3
  | 6 => some 3
  | _ => none

/-- Whether an outcome counts for a command: a Verify takes that of its own VERIFY operations alone (R333), and a write counts for a block whose data
had come from the host (R331). `op`: the gate mode and task tag of the operation. -/
def HTask.counts (x : HTask) (t : Nat) (op : Nat × Nat) (c k : Nat) : Bool :=
  (x.op != 0x0C || (op.1 == 1 && op.2 == t)) && (c != 2 || x.movedBlock k)

/-- A command takes an outcome of the sector at a place for its blocks there. -/
def HTask.note (p : MediaPlace) (op : Nat × Nat) (c : Nat) (s : State) (t : Nat) (x : HTask) : HTask :=
  match nsAt x.ns s with
  | none => x
  | some n =>
    let l := (List.range x.nlb).filter (fun k => n.place (x.lba + k) s == some p && x.counts t op c k)
    { x with media := l.foldl (fun t k => tput 3 t k c) x.media }

/-- The presented commands take an outcome. -/
def hostOutcome (p : MediaPlace) (op : Nat × Nat) (c : Nat) (s : State) : State :=
  modHif (fun h => { h with tasks := h.tasks.map (fun t => (t.1, t.2.map (fun x => if x.st = 2 ∧ x.lock ≠ 0 then x.note p op c s t.1 else x))) }) s

/-! ### Sanitize (R335) -/

/-- The cylinders of an actuator that namespaces lie on. -/
def sanCyls (a : Nat) (s : State) : List Nat :=
  s.hif.nss.flatMap (fun x => match x.2 with
    | some n => if n.acts.contains a then (List.range (n.cylLast + 1 - n.cylFirst)).map (fun i => n.cylFirst + i) else []
    | none => [])

/-- Whether every cylinder of every namespace has been done in the present pass. -/
def sanPassDone (j : SanJob) (s : State) : Bool := (List.range 64).all (fun a => decide ((sanCyls a s).length ≤ tget 0 j.cyls a))

/-- The user data of a pass: the pattern, inverted on every second pass where the command asks for it. -/
def sanData (j : SanJob) : List Byte :=
  let w := if j.invert ∧ j.pass % 2 = 1 then ~~~ j.pattern else j.pattern
  (List.replicate 1024 (wordBytes [w])).flatten

/-- A pass that is done gives way to the next; without namespaces every pass is done at once. -/
def sanNext (s : State) (j : SanJob) : SanJob :=
  if (List.range 64).all (fun a => (sanCyls a s).isEmpty) then { j with pass := j.passes }
  else if sanPassDone j s then { j with pass := j.pass + 1, cyls := [], secs := [], fresh := true } else j

/-- A sector has been written with the bytes at a DRAM address: it counts where it lies on the cylinder that the pass has come to and holds the
pattern; the cylinder ends with its last sector. -/
def SanJob.wrote (p : MediaPlace) (addr : Nat) (s : State) (j : SanJob) : SanJob :=
  let a := p.1
  let n := tget 0 j.cyls a
  if j.passes ≤ j.pass ∨ (sanCyls a s)[n]? ≠ some p.2.1 ∨ s.rdBytes addr 4096 ≠ sanData j then j
  else
    let l := tget [] j.secs a
    let l := if l.contains p.2.2 then l else p.2.2 :: l
    if l.length < cylSpt a p.2.1 s * headsOn a s then { j with secs := tput [] j.secs a l }
    else sanNext s { j with secs := tput [] j.secs a [], cyls := tput 0 j.cyls a (n + 1), fresh := true }

/-- The outcome of a sector whose data lie at a DRAM address reaches the host's commands and a Sanitize. -/
def mediaNote (p : MediaPlace) (op : Nat × Nat) (oc addr : Nat) (s : State) : State :=
  match mediaCode oc with
  | none => s
  | some c =>
    let s := hostOutcome p op c s
    if c = 2 then modHif (fun h => { h with sanit := h.sanit.map (fun j => j.wrote p addr s) }) s else s

end Sys2Proof.Machine
end

