-- ==== Sys2Proof/Machine/LoopMath.lean ====
section
/-! DEFINITION. The arithmetic of a loop slot (spec/03_servo.md, R96–R100): Q3.28 coefficients, 32-bit saturating signals, up to six
cascaded biquads in direct form I, the integrator and the clamped output. -/

namespace Sys2Proof.Machine

/-- Saturation to 32 signed bits (R98), and whether it occurred. -/
def sat32 (x : Int) : Int × Bool :=
  if x > 2147483647 then (2147483647, true) else if x < -2147483648 then (-2147483648, true) else (x, false)

/-- An exact sum of products rounded to Q0 by adding 2^27 and shifting right by 28, then saturated (R98). -/
def rnd28 (x : Int) : Int × Bool := sat32 ((x + 134217728) / 268435456)

/-- The coefficients of a slot's page in order of the words (SRV_COEF). -/
structure Coefs where
  nBq   : Nat
  shift : Nat
  lim   : Nat
  k     : Int
  ki    : Int
  kff   : Int
  ma    : Int
  bq    : List (Int × Int × Int × Int × Int)
  deriving DecidableEq, Repr

/-- One biquad (R96 step 2): its output, its new states, and whether it saturated. The stored states are the saturated values (R99). -/
def biquad (c : Int × Int × Int × Int × Int) (x : Int × Int × Int × Int) (v : Int) : Int × (Int × Int × Int × Int) × Bool :=
  let (b0, b1, b2, a1, a2) := c
  let (x1, x2, y1, y2) := x
  let r := rnd28 (b0 * v + b1 * x1 + b2 * x2 - a1 * y1 - a2 * y2)
  (r.1, (v, x1, r.1, y1), r.2)

/-- The cascade: stages above N_BQ pass their input through and keep their states (R88, R96). -/
def cascade : Nat → List (Int × Int × Int × Int × Int) → List (Int × Int × Int × Int) → Int →
    Int × List (Int × Int × Int × Int) × Bool
  | 0, _, st, v => (v, st, false)
  | _ + 1, [], st, v => (v, st, false)
  | n + 1, c :: cs, st, v =>
    let x := st.headD (0, 0, 0, 0)
    let r := biquad c x v
    let t := cascade n cs (st.drop 1) r.1
    (t.1, r.2.1 :: t.2.1, r.2.2 || t.2.2)

/-- The results of one computation of a slot. -/
structure LoopOut where
  bq    : List (Int × Int × Int × Int)
  integ : Int
  u     : Int
  o     : Int
  bqSat : Bool
  intSat : Bool
  hold  : Bool
  clamp : Bool
  deriving DecidableEq, Repr

/-- Clamps to ±limit (R96 step 5), and whether it did. -/
def clampTo (lim : Nat) (x : Int) : Int × Bool :=
  if x > (lim : Int) then ((lim : Int), true) else if x < -(lim : Int) then (-(lim : Int), true) else (x, false)

/-- The output for an integrator value: the saturated sum and the clamped output (R96 steps 4 and 5, R98). -/
def loopSum (c : Coefs) (v integ ff : Int) : Int × (Int × Bool) :=
  let u := (sat32 ((sat32 (v + integ)).1 + ff)).1
  (u, clampTo c.lim (u / (2 ^ c.shift : Nat)))

/-- One computation of a slot (R96–R100): pre-gain, biquads, integrator candidate, sum and output; with the candidate the output
would be clamped and the increment has the sign of the sum, the integrator is held. INT_SAT is set when the increment or the candidate
saturates, also a candidate that R100 then discards: R99 speaks only of saturation of the integrator (DESIGN CHOICE, log 110). -/
def loopCompute (c : Coefs) (bq : List (Int × Int × Int × Int)) (integ e ff : Int) : LoopOut :=
  let v0 := rnd28 (c.k * e)
  let cas := cascade (min c.nBq 6) c.bq bq v0.1
  let inc := rnd28 (c.ki * e)
  let cand := sat32 (integ + inc.1)
  let s1 := loopSum c cas.1 cand.1 ff
  let d := cand.1 - integ
  let hold := s1.2.2 && decide ((d > 0 ∧ s1.1 > 0) ∨ (d < 0 ∧ s1.1 < 0))
  let s2 := if hold then loopSum c cas.1 integ ff else s1
  { bq := cas.2.1, integ := if hold then integ else cand.1, u := s2.1, o := s2.2.1,
    bqSat := v0.2 || cas.2.2, intSat := inc.2 || cand.2, hold := hold, clamp := s2.2.2 }

end Sys2Proof.Machine
end

