-- ==== Sys2Proof/Machine/Profile.lean ====
section
/-! DEFINITION. The S-curve of a seek (spec/03_servo.md, R118): the number of wedges, planned exactly, and the set-points, in exact
rational arithmetic; the square root of the peak velocity is taken to 20 binary places, and the profile is scaled so that it
covers the distance exactly. -/

namespace Sys2Proof.Machine

/-- The integer square root by bits, from bit `f − 1` down. -/
def isqrtAux : Nat → Nat → Nat → Nat
  | 0, _, r => r
  | f + 1, n, r => isqrtAux f n (if (r + 2 ^ f) * (r + 2 ^ f) ≤ n then r + 2 ^ f else r)

/-- The largest r with r² at most n, for n below 2^160. -/
def isqrt (n : Nat) : Nat := isqrtAux 80 n 0

/-- The smallest r with r² at least n. -/
def isqrtUp (n : Nat) : Nat := let r := isqrt n; if r * r = n then r else r + 1

/-- The smallest number from `n` on, within `f` steps, that satisfies a test. -/
def leastFrom (p : Nat → Bool) : Nat → Nat → Nat
  | 0, n => n
  | f + 1, n => if p n then n else leastFrom p f (n + 1)

/-- A profile as segments (duration in wedges, jerk). -/
abbrev Segs := List (Rat × Rat)

/-- Position, velocity and acceleration after time t of a profile from rest. -/
def segsAt : Segs → Rat → Rat × Rat × Rat → Rat × Rat × Rat
  | [], _, x => x
  | (d, q) :: r, t, (p, v, a) =>
    let u := if t ≤ d then t else d
    segsAt r (t - u) (p + v * u + a * u * u / 2 + q * u * u * u / 6, v + a * u + q * u * u / 2, a + q * u)

/-- The time a profile takes. -/
def segsTime (l : Segs) : Rat := l.foldl (fun t x => t + x.1) 0

/-- Whether the distance is too short to reach A_MAX: d < 2·a_max·j² (R118). -/
def shortSeek (d a : Rat) (j : Nat) : Bool := decide (d < 2 * a * j * j)

/-- The peak velocity and the cruise time of a seek that reaches A_MAX (R118). -/
def peakCruise (d v a : Rat) (j : Nat) : Rat × Rat :=
  let full := v * (v / a + j)
  if d ≥ full then (v, (d - full) / v)
  else
    let root := ((isqrt (((a * j) * (a * j) + 4 * a * d) * 2 ^ 40).floor.toNat : Rat)) / 2 ^ 20
    ((root - a * j) / 2, 0)

/-- The shape of the profile (R118): acceleration rises over J, holds, falls over J, cruise, and the mirror image. A profile that does
not reach A_MAX has four ramps of equal length. Where V_MAX is below A_MAX × J the hold would be negative: it is left out, and the profile
is stretched to its n wedges (DESIGN CHOICE, log 112). -/
def seekSegs (d v a : Rat) (j : Nat) : Segs :=
  if shortSeek d a j then [(1, 1), (1, -1), (1, -1), (1, 1)]
  else
    let pc := peakCruise d v a j
    let h := pc.1 / a - j
    let hold := if h < 0 then 0 else h
    [(j, 1), (hold, 0), (j, -1), (pc.2, 0), (j, -1), (hold, 0), (j, 1)]

/-- The number of wedges n of a seek over `d` tracks with V_MAX and A_MAX as registers and J (R118). The ceilings are taken exactly:
4·τ ≤ n if and only if 64·d·j ≤ 2·a·n³; without a cruise, n ≥ j + √(j² + 4d/a); with one, n ≥ v/a + j + d/v. -/
def seekWedges (d : Rat) (vMax aMax j : Nat) : Nat :=
  let v : Rat := vMax / 16
  let a : Rat := aMax / 1024
  if shortSeek d a j then leastFrom (fun n => decide (64 * d * j ≤ 2 * a * n * n * n)) 257 0
  else if d ≥ v * (v / a + j) then (v / a + j + d / v).ceil.toNat
  else j + isqrtUp ((j * j + 4 * d / a).ceil.toNat)

/-- The set-point, its velocity and its acceleration k wedges into a seek of n wedges, as offsets from the start in 1/65,536 track, rounded down;
`dist` is the signed distance in 1/65,536 track. The profile is stretched in time to n wedges (R118). -/
def seekPoint (dist : Int) (vMax aMax j n k : Nat) : Int × Int × Int :=
  let d : Rat := (dist.natAbs : Rat) / 65536
  let segs := seekSegs d (vMax / 16) (aMax / 1024) j
  let total := segsTime segs
  let scale := total / n
  let x := segsAt segs (k * scale) (0, 0, 0)
  let full := (segsAt segs total (0, 0, 0)).1
  let gain : Rat := dist / full
  ((gain * x.1).floor, (gain * x.2.1 * scale).floor, (gain * x.2.2 * scale * scale).floor)

end Sys2Proof.Machine
end

