-- ==== Sys2Proof/Machine/Servo.lean ====
section
/-! DEFINITION. Servo (spec/03_servo.md, R84–R130): the wedge with its 21 loop slots, the fence, commands and seeks, settling, heads that
leave the stripe, coefficient pages. Positions are integers in 1/65,536 track (Q15.16); errors saturate to 32 bits. -/

namespace Sys2Proof.Machine

/-! ### Small helpers -/

/-- Entry `i` of a list of four, with a default. -/
def l4 {α : Type} (d : α) (l : List α) (i : Nat) : α := l.getD i d

/-- A list of four with entry `i` replaced. -/
def l4set {α : Type} (d : α) (l : List α) (i : Nat) (v : α) : List α :=
  [0, 1, 2, 3].map (fun j => if j = i then v else l.getD j d)

/-- A list by head number with entry `i` replaced. -/
def l8set {α : Type} (d : α) (l : List α) (i : Nat) (v : α) : List α :=
  (List.range 8).map (fun j => if j = i then v else l.getD j d)

/-- The mean of integers, rounded down; 0 of none. -/
def mean (l : List Int) : Int := if l.isEmpty then 0 else l.foldl (· + ·) 0 / (l.length : Int)

/-- The mask of the positions at which a test holds, among four. -/
def mask4 (p : Nat → Bool) : Nat := b2n (p 0) + 2 * b2n (p 1) + 4 * b2n (p 2) + 8 * b2n (p 3)

/-- A loop slot. -/
def loop (h l : Nat) (s : State) : LoopSt := tget {} s.loops (32 * h + l)

/-- Changes a loop slot. -/
def modLoop (h l : Nat) (f : LoopSt → LoopSt) (s : State) : State := { s with loops := tmod {} s.loops (32 * h + l) f }

/-- The VCM slot of an actuator, and the microactuator slot of a head slot (R84). -/
def vcmSlot (a : Nat) : Nat := a % 4
def maSlot (a i : Nat) : Nat := 4 + 4 * (a % 4) + i

/-- Whether a slot is open; SRV_OPEN shows it (R103). -/
def slotIsOpen (h l : Nat) (s : State) : Bool := (loop h l s).isOpen

/-- The slots of one actuator. -/
def actSlots (a : Nat) : List Nat := [vcmSlot a, maSlot a 0, maSlot a 1, maSlot a 2, maSlot a 3]

/-- A flag of SRV_ACT_STATE by head slot, 4 bits wide. -/
def actMask (a : Nat) (f : Fld) (s : State) : Nat := s.fld (SRV_ACT_STATE a) f

/-- Stores one bit of a field of SRV_ACT_STATE. -/
def setActBit (a : Nat) (f : Fld) (i : Nat) (b : Bool) (s : State) : State :=
  s.setf (SRV_ACT_STATE a) f (setBit (actMask a f s) i b)

/-- The link of an actuator besides its registers. -/
def lnk (a : Nat) (s : State) : LnkSt := tget {} s.lnks a

/-- Changes a link. -/
def modLnk (a : Nat) (f : LnkSt → LnkSt) (s : State) : State := { s with lnks := tmod {} s.lnks a f }

/-- LNK_STATE.MODE: 0 DOWN, 1 TRAINING, 2 FULL, 3 DEGRADED. -/
def linkMode (a : Nat) (s : State) : Nat := s.fld (LNK_STATE a) F_LNK_STATE_MODE

/-- The upstream and the downstream lane that carry a head slot, none for a slot out of service (R135, R155, R156). -/
def slotLanes (a i : Nat) (s : State) : Option (Nat × Nat) :=
  match linkMode a s with
  | 2 => some (i, i)
  | 3 =>
    if i = 0 then some (s.fld (LNK_STATE a) F_LNK_STATE_UP_SLOT0, s.fld (LNK_STATE a) F_LNK_STATE_DN_SLOT0)
    else if i = 1 then some (s.fld (LNK_STATE a) F_LNK_STATE_UP_SLOT1, s.fld (LNK_STATE a) F_LNK_STATE_DN_SLOT1)
    else none
  | _ => none

/-- Whether the upstream lane of a head slot has block lock (R137, R138). -/
def upOk (a i : Nat) (s : State) : Bool :=
  match slotLanes a i s with
  | some (u, _) => (s.fld (LNK_STATE a) F_LNK_STATE_LOCKED).testBit u
  | none => false

/-- Whether both lanes of a head slot have block lock (R153). -/
def laneOk (a i : Nat) (s : State) : Bool :=
  match slotLanes a i s with
  | some (_, d) => upOk a i s && (s.fld (LNK_SKEW a) F_LNK_SKEW_DN_LOCKED).testBit d
  | none => false

/-- The stripe: valid head slots of a SRV_SEEK1 word and their heads. -/
def stripeOf (w : W32) : Nat := mask4 (fun i => w.toNat.testBit (4 * i + 3))
def headsOf (w : W32) : List Nat := [0, 1, 2, 3].map (fun i => w.toNat / 2 ^ (4 * i) % 8)

/-- IN_STRIPE: valid in the stripe in force, not out of reach, no rejoin run outstanding (R126, R127). -/
def showStripe (a : Nat) (s : State) : State :=
  let x := act a s
  let out := actMask a F_SRV_ACT_STATE_REACH_OUT s
  s.setf (SRV_ACT_STATE a) F_SRV_ACT_STATE_IN_STRIPE
    (mask4 (fun i => x.stripe.testBit i && !out.testBit i && (l4 none x.rejoin i).isNone))

/-- The offset of a head slot, 1/1,024 track (SRV_OFFSET0, SRV_OFFSET1). -/
def offsetOf (a i : Nat) (s : State) : Int :=
  match i with
  | 0 => toSigned 16 (s.fld (SRV_OFFSET0 a) F_SRV_OFFSET0_OFS0)
  | 1 => toSigned 16 (s.fld (SRV_OFFSET0 a) F_SRV_OFFSET0_OFS1)
  | 2 => toSigned 16 (s.fld (SRV_OFFSET1 a) F_SRV_OFFSET1_OFS2)
  | _ => toSigned 16 (s.fld (SRV_OFFSET1 a) F_SRV_OFFSET1_OFS3)

/-- The set-point a head slot is to reach: target cylinder plus offset, 1/65,536 track (R93). In LOADING, before the cylinder read becomes the
target (R111), the target is the one before the load (DESIGN CHOICE, log 147). -/
def refCmd (a i : Nat) (s : State) : Int := (act a s).target * 65536 + 64 * offsetOf a i s

/-- SRV_SOFT.WEDGES of an actuator's engine. -/
def softLen (h : Nat) (s : State) : Nat := s.fld (SRV_SOFT h) F_SRV_SOFT_WEDGES

/-- The reference of a slot n wedges into its soft start (R109), rounded down. -/
def refAt (x : LoopSt) (w : Nat) : Int :=
  if x.refN ≥ w then x.refCmd else x.ref0 + (x.refCmd - x.ref0) * x.refN / w

/-- One wedge of a slot's soft start toward `cmd` from the measured position `y` if a close is fresh; a changed command starts a new
ramp from the present reference (R109). -/
def refStep (cmd y : Int) (w : Nat) (x : LoopSt) : LoopSt :=
  let x := if x.refPend then { x with ref0 := y, refCmd := cmd, refN := 0, refPend := false }
    else if x.refCmd ≠ cmd then { x with ref0 := refAt x w, refCmd := cmd, refN := 0 } else x
  { x with refN := min (x.refN + 1) w }

/-! ### States of an actuator -/

/-- Every bit of WSET and READ_SETTLED returns to 0 (R120, R121). -/
def unsettle (a : Nat) (s : State) : State :=
  let s := s.setf (SRV_ACT_STATE a) F_SRV_ACT_STATE_READ_SETTLED 0
  let s := s.setf (SRV_ACT_STATE a) F_SRV_ACT_STATE_WSET 0
  modAct a (fun x => { x with readRun := 0, wRun := [] }) s

/-- The fence withdraws the permission it holds on head slots (R125). -/
def withdraw (a mask cause : Nat) (s : State) : State :=
  let m := mask &&& (act a s).fence
  if m = 0 then s else fenceOff a m cause s

/-- The head slot of the stripe in force that holds the head which the next stripe has in slot `i`; none for a head new to the stripe. -/
def oldSlot (x : ActSt) (i : Nat) : Option Nat :=
  if x.nextStripe.testBit i then (bitsOf 4 x.stripe).find? (fun j => l4 0 x.heads j == l4 0 x.nextHeads i) else none

/-- A run kept for each head of the stripe, carried to the slots of the next stripe. -/
def carry4 {α : Type} (d : α) (x : ActSt) (l : List α) : List α :=
  [0, 1, 2, 3].map (fun i => match oldSlot x i with
    | some j => l4 d l j
    | none => d)

/-- What the head of slot `i` of the next stripe owes when it is new to the stripe: a head that has left the stripe in this revolution stays out of
reach, and one whose rejoin run has not ended begins it again (R126, R127). -/
def newOut (x : ActSt) (i : Nat) : Bool := x.nextStripe.testBit i && x.outNow.getD (l4 0 x.nextHeads i) false
def newRejoin (x : ActSt) (i : Nat) : Option Nat :=
  if x.nextStripe.testBit i && !newOut x i && x.owes.getD (l4 0 x.nextHeads i) false then some 0 else none

/-- The runs and positions that belong to a head, on the slots of the next stripe. Of a head that the stripe did not hold before the engine has
no earlier positions: y(n−1) and y(n−2) of R89 are free values (log 147). -/
def stripeTake (a : Nat) (s : State) : State :=
  let x := act a s
  let isNew := fun i => x.nextStripe.testBit i && (oldSlot x i).isNone
  let f := s.freshInt
  let g := f.2.freshInt
  let y := fun (l : List Int) (v : Int) => [0, 1, 2, 3].map (fun i => if isNew i then v else l4 0 (carry4 0 x l) i)
  modAct a (fun x => { x with
    missRun := carry4 0 x x.missRun, e1 := carry4 0 x x.e1, y1 := y x.y1 f.1, y2 := y x.y2 g.1,
    rejoin := [0, 1, 2, 3].map (fun i => if isNew i then newRejoin x i else l4 none (carry4 none x x.rejoin) i),
    stripe := x.nextStripe, heads := x.nextHeads, settleWedges := 0, settleTold := false, readRun := 0, wRun := [] }) g.2

/-- SETTLE is entered: the new stripe is in force and the settle runs start anew (R111, R119, R120, R122). A head out of reach stays so until the
next wedge 0, and a head keeps its rejoin run and its run of misses (R126, R127). A slot that gets another head takes its reference from the
measured position: R109 does not give the r0 of a slot new to the stripe at a micro-seek (DESIGN CHOICE, log 111). -/
def enterSettle (a : Nat) (s : State) : State :=
  let x := act a s
  let out := actMask a F_SRV_ACT_STATE_REACH_OUT s
  let new := [0, 1, 2, 3].filter (fun i => x.nextStripe.testBit i && oldSlot x i != some i)
  let s := stripeTake a s
  let s := each new (fun i t => modLoop (hdaOf a) (maSlot a i) (fun y => { y with refPend := true, clamps := 0, fade0 := 0 }) t) s
  let s := s.setf (SRV_ACT_STATE a) F_SRV_ACT_STATE_REACH_OUT
    (mask4 (fun i => match oldSlot x i with
      | some j => out.testBit j
      | none => newOut x i))
  showStripe a (setActState a 3 s)

/-- The microactuator slots of the stripe in force close, with soft start from the measured positions (R95, R109). No CLOSE_MODE is stated for
this close: the biquad states and the integrator stay as they were through SEEK (DESIGN CHOICE, log 147). -/
def closeMas (a : Nat) (s : State) : State :=
  each (bitsOf 4 (act a s).stripe) (fun i t => modLoop (hdaOf a) (maSlot a i) (fun x => { x with refPend := true, clamps := 0 }) t) s

/-! ### Commands (R112–R117) -/

/-- A LOAD, UNLOAD or SEEK is refused with a flag (R112, R115). -/
def actRefuse (a : Nat) (f : Fld) (s : State) : State := emit 0x4003 (s.flag (SRV_ACT_FLAGS a) f)

/-- Whether a degraded link cannot carry a stripe (R158). -/
def stripeDegraded (a : Nat) (w : W32) (s : State) : Bool := linkMode a s == 3 && decide (stripeOf w ≥ 4)

/-- An actuator that becomes loaded while the thermal condition is detected is retracted at once (R439). -/
def thermalLoaded (a : Nat) (s : State) : State :=
  if s.gh.thermal && loaded a s then actFault a 0xA00A a (s.fld GH_TEMP F_GH_TEMP_TJ - 40) false s else s

/-- LOAD (R111, R112, R52, R154, R158, R441): the stripe of SRV_SEEK1 is in force from here on, there being none before it to wait for, and the
profile of SRV_SEEK0 is kept. -/
def actLoad (a : Nat) (s : State) : State :=
  let w := s.rd (SRV_SEEK1 a)
  if actState a s ≠ 0 ∨ spnState (hdaOf a) s ≠ 5 ∨ linkMode a s < 2 ∨ graveLatched s then
    actRefuse a F_SRV_ACT_FLAGS_CMD_REFUSED s
  else if stripeDegraded a w s then actRefuse a F_SRV_ACT_FLAGS_SEEK_REFUSED s
  else
    let p := s.fld (SRV_SEEK0 a) F_SRV_SEEK0_PROFILE
    let s := modAct a (fun x => { x with
      stripe := stripeOf w, heads := headsOf w, nextStripe := stripeOf w, nextHeads := headsOf w, profile := p, syncRun := 0, lostRun := 0,
      missRun := [], rejoin := [], owes := [], seekNew := false, seekWedges := none, vcmClamps := 0 }) s
    let s := s.setf (SRV_ACT_STATE a) F_SRV_ACT_STATE_REACH_OUT 0
    thermalLoaded a (showStripe a (setActState a 1 s))

/-- UNLOAD (R111, R112, R120, R121, R125). -/
def actUnload (a : Nat) (s : State) : State :=
  let st := actState a s
  if st = 2 ∨ st = 3 ∨ st = 4 then
    let s := modAct a (fun x => { x with seekNew := false, seekWedges := none }) s
    setActState a 5 (unsettle a (withdraw a 15 causeFence s))
  else actRefuse a F_SRV_ACT_FLAGS_CMD_REFUSED s

/-- The profile that a SRV_SEEK0 word selects: V_MAX, A_MAX, J. -/
def profOf (a : Nat) (w0 : W32) (s : State) : Nat × Nat × Nat :=
  let p := fget w0 F_SRV_SEEK0_PROFILE
  let h := hdaOf a
  (s.fld (SRV_PROF h p) F_SRV_PROF_V_MAX, s.fld (SRV_PROF h p) F_SRV_PROF_A_MAX, s.fld (SRV_PROFJ h p) F_SRV_PROFJ_J)

/-- Whether a seek request is carried out (R115, R158). -/
def seekOk (a : Nat) (w0 w1 : W32) (s : State) : Bool :=
  let st := actState a s
  let hs := (bitsOf 4 (stripeOf w1)).map (fun i => (headsOf w1).getD i 0)
  let p := profOf a w0 s
  (st == 2 || st == 3 || st == 4) &&
    decide (fget w0 F_SRV_SEEK0_CYL ≤ s.fld (SRV_ACT_LIMIT a) F_SRV_ACT_LIMIT_MAX_CYL) && !hs.isEmpty &&
    hs.all (fun k => decide (k < s.fld (SRV_ACT_LIMIT a) F_SRV_ACT_LIMIT_HEADS_PRESENT)) && decide hs.Nodup &&
    decide (p.1 ≠ 0 ∧ p.2.1 ≠ 0) && !(actSlots a).any (fun l => slotIsOpen (hdaOf a) l s) && !stripeDegraded a w1 s

/-- The trajectory of a seek that is no micro-seek, from rest as R118 plans it. Accepted in SEEK while the set-point moves it goes on from the
present set-point, velocity and acceleration (R116) under the limits of its profile; the spec gives no number of wedges for it, so it ends
where it comes to rest on its target (log 113). A seek over a distance of 0, for which the formula gives n = 0, takes one wedge (DESIGN CHOICE,
log 112). -/
def planSeek (a : Nat) (w0 : W32) (s : State) : State :=
  let x := act a s
  let cyl := fget w0 F_SRV_SEEK0_CYL
  let p := profOf a w0 s
  if actState a s = 2 ∧ (x.traj.vel ≠ 0 ∨ x.traj.acc ≠ 0) then
    modAct a (fun x => { x with traj := { x.traj with start := x.traj.pos, target := cyl, vMax := p.1, aMax := p.2.1, j := p.2.2,
                                                       n := 0, k := 0, replan := true } }) s
  else
    let from' : Int := if actState a s = 2 then x.traj.pos else x.target * 65536
    let dist := (cyl : Int) * 65536 - from'
    let n := max 1 (seekWedges ((dist.natAbs : Rat) / 65536) p.1 p.2.1 p.2.2)
    modAct a (fun x => { x with traj := { start := from', pos := from', target := cyl, vMax := p.1, aMax := p.2.1, j := p.2.2, n := n } }) s

/-- A request replaced before its first set-point (R114); the sequencer sees its own request replaced (R232). -/
def seekReplace (a : Nat) (s : State) : State :=
  if (act a s).seekNew then
    let s := emit 0x4009 (s.incSat (SRV_SEEK_REPLACED a) 1)
    if (act a s).seekSeq then modSeq a (fun q => { q with seekReplaced := true }) s else s
  else s

/-- A seek is accepted (R111, R114–R119, R121, R125). -/
def seekAccept (a : Nat) (w0 w1 : W32) (bySeq : Bool) (s : State) : State :=
  let st := actState a s
  let cyl := fget w0 F_SRV_SEEK0_CYL
  let micro := s.fld (SRV_SOFT (hdaOf a)) F_SRV_SOFT_MICRO
  let s := (seekReplace a s).incSat (SRV_SEEK_COUNT a) 1
  let s := unsettle a (withdraw a 15 causeFence s)
  let isMicro := decide (st ≠ 2 ∧ micro ≠ 0 ∧ ((cyl : Int) - (act a s).target).natAbs ≤ micro)
  let s := if isMicro then s else planSeek a w0 s
  let s := modAct a (fun x => { x with
    nextStripe := stripeOf w1, nextHeads := headsOf w1, profile := fget w0 F_SRV_SEEK0_PROFILE, seekNew := true, seekSeq := bySeq,
    seekWedges := some 0, target := (if isMicro then cyl else x.target) }) s
  if isMicro then enterSettle a s else setActState a 2 s

/-- A seek request (R114, R115). -/
def seekRequest (a : Nat) (w0 w1 : W32) (bySeq : Bool) (s : State) : State :=
  if seekOk a w0 w1 s then seekAccept a w0 w1 bySeq s
  else
    let s := actRefuse a F_SRV_ACT_FLAGS_SEEK_REFUSED s
    if bySeq then modSeq a (fun q => { q with seekRefused := true }) s else s

/-- A write of SRV_ACT_CMD; one with several commands is refused whole, and so counted (R6, R112). -/
def actCmd (a : Nat) (v : W32) (s : State) : State :=
  match v.toNat % 8 with
  | 0 => s
  | 1 => actLoad a s
  | 2 => actUnload a s
  | 4 => seekRequest a (s.rd (SRV_SEEK0 a)) (s.rd (SRV_SEEK1 a)) false s
  | _ => deny (actRefuse a F_SRV_ACT_FLAGS_CMD_REFUSED s)

/-- SRV_LOAD (R112). -/
def execSrvLoad (m : Master) (a : Act) (s : State) : Host.Outcome State Fault Refusal :=
  ok (if mayCmd m then actLoad a.toNat s else deny s)

/-- SRV_UNLOAD (R112). -/
def execSrvUnload (m : Master) (a : Act) (s : State) : Host.Outcome State Fault Refusal :=
  ok (if mayCmd m then actUnload a.toNat s else deny s)

/-- SRV_SEEK (R114). -/
def execSrvSeek (m : Master) (a : Act) (s : State) : Host.Outcome State Fault Refusal :=
  ok (if mayCmd m then seekRequest a.toNat (s.rd (SRV_SEEK0 a.toNat)) (s.rd (SRV_SEEK1 a.toNat)) false s else deny s)

/-! ### Coefficient pages (R102–R105) -/

/-- The largest OUT_LIM of a slot (SRV_COEF, word 1). -/
def outLimMax (l : Nat) : Nat := if l < 4 then 32767 else if l < 20 then 2047 else 65535

/-- The actuator of a VCM or microactuator slot. -/
def slotAct (h l : Nat) : Nat := 4 * h + (if l < 4 then l else (l - 4) / 4)

/-- Whether a write of SRV_COEF_CTL is refused (R105). -/
def coefRefused (h : Nat) (v : W32) (s : State) : Bool :=
  let op := v.toNat.testBit 8
  let cl := v.toNat.testBit 9
  let l := fget v F_SRV_COEF_CTL_LOOP
  let st := actState (slotAct h l) s
  let x := loop h l s
  (op && cl) || decide (l > 20) || decide (fget v F_SRV_COEF_CTL_CLOSE_MODE > 2) ||
    (op && decide (l < 20) && (st == 1 || st == 2 || st == 3 || st == 5 || st == 6)) ||
    (cl && (decide ((s.rd (SRV_COEF h l 0)).toNat % 8 > 6) || decide ((s.rd (SRV_COEF h l 1)).toNat % 65536 > outLimMax l))) ||
    (cl && !x.isOpen && !x.pend.contains none)

/-- A write of SRV_COEF_CTL: the fields are stored, and OPEN or CLOSE waits for the next computation start (R103–R105), where the accepted
ones act in the order of their writes. -/
def coefCtl (h : Nat) (v : W32) (s : State) : State :=
  if coefRefused h v s then deny s
  else
    let l := fget v F_SRV_COEF_CTL_LOOP
    let mode := fget v F_SRV_COEF_CTL_CLOSE_MODE
    let s := (s.setf (SRV_COEF_CTL h) F_SRV_COEF_CTL_LOOP l).setf (SRV_COEF_CTL h) F_SRV_COEF_CTL_CLOSE_MODE mode
    let s := if v.toNat.testBit 8 then modLoop h l (fun x => { x with pend := x.pend ++ [none] }) s else s
    if v.toNat.testBit 9 then modLoop h l (fun x => { x with pend := x.pend ++ [some mode] }) s else s

/-- SLOT_OPEN: SRV_COEF_CTL written with OPEN (R103, R105). -/
def execSlotOpen (m : Master) (h : Hda) (v : W32) (s : State) : Host.Outcome State Fault Refusal :=
  ok (if mayCmd m then coefCtl h.toNat (v ||| 0x100) s else deny s)

/-- SLOT_CLOSE: SRV_COEF_CTL written with CLOSE (R104, R105). -/
def execSlotClose (m : Master) (h : Hda) (v : W32) (s : State) : Host.Outcome State Fault Refusal :=
  ok (if mayCmd m then coefCtl h.toNat (v ||| 0x200) s else deny s)

/-- The bits of a word of a page that hold anything (R5, SRV_COEF). -/
def coefBits (w : Nat) : W32 := if w = 0 then 0x1F07 else if w = 1 then 0xFFFF else if w < 36 then 0xFFFFFFFF else 0

/-- A write of a coefficient page (R102). -/
def coefWrite (h l w : Nat) (v : W32) (s : State) : State :=
  if slotIsOpen h l s then s.wr (SRV_COEF h l w) (v &&& coefBits w) else deny s

/-- COEF_PAGE_WRITE (R102). -/
def execCoefPageWrite (m : Master) (h : Hda) (l : BitVec 5) (w : BitVec 6) (v : W32) (s : State) : Host.Outcome State Fault Refusal :=
  ok (if mayCmd m then coefWrite h.toNat l.toNat w.toNat v s else deny s)

/-- Shows SRV_OPEN. -/
def showOpen (h l : Nat) (b : Bool) (s : State) : State :=
  s.setf (SRV_OPEN h) F_SRV_OPEN_SLOTS (setBit (s.fld (SRV_OPEN h) F_SRV_OPEN_SLOTS) l b)

/-- A slot closes with a mode: 0 keeps its states, 1 clears the biquads, 2 clears them all (R104); its reference starts from the
measured position (R109). -/
def closeSlot (h l mode : Nat) (s : State) : State :=
  showOpen h l false (modLoop h l (fun x =>
    { x with isOpen := false, refPend := true, clamps := 0, bq := (if mode = 0 then x.bq else []),
             integ := (if mode = 2 then 0 else x.integ) }) s)

/-- Pending opens and closes take effect at the computation start, in the order of their writes (R103, R104). -/
def slotPending (h l : Nat) (s : State) : State :=
  let p := (loop h l s).pend
  if p.isEmpty then s
  else
    each p (fun c t => match c with
      | none => showOpen h l true (modLoop h l (fun y => { y with isOpen := true }) t)
      | some mode => closeSlot h l mode t) (modLoop h l (fun y => { y with pend := [] }) s)

/-! ### One wedge of a loop slot (R84, R96–R100) -/

/-- A signed word of a coefficient page. -/
def coefWord (h l w : Nat) (s : State) : Int := toSigned 32 (s.rd (SRV_COEF h l w)).toNat

/-- The coefficients of a slot (SRV_COEF). -/
def coefsOf (h l : Nat) (s : State) : Coefs :=
  { nBq := (s.rd (SRV_COEF h l 0)).toNat % 8, shift := (s.rd (SRV_COEF h l 0)).toNat / 256 % 32,
    lim := (s.rd (SRV_COEF h l 1)).toNat % 65536, k := coefWord h l 2 s, ki := coefWord h l 3 s, kff := coefWord h l 4 s,
    ma := coefWord h l 5 s,
    bq := (List.range 6).map (fun i => (coefWord h l (6 + 5 * i) s, coefWord h l (7 + 5 * i) s, coefWord h l (8 + 5 * i) s,
      coefWord h l (9 + 5 * i) s, coefWord h l (10 + 5 * i) s)) }

/-- Shows SRV_STATE_E, U, I and O of a slot. -/
def showLoop (h l : Nat) (e u i o : Int) (s : State) : State :=
  let w := fun (x : Int) => BitVec.ofNat 32 (ofSigned 32 x)
  (((s.wr (SRV_STATE_E h l) (w e)).wr (SRV_STATE_U h l) (w u)).wr (SRV_STATE_I h l) (w i)).wr (SRV_STATE_O h l) (w o)

/-- A slot that is open holds its last output, and a run of clamped wedges ends (R103, R126). -/
def slotOpen (h l : Nat) (s : State) : State := modLoop h l (fun x => { x with clamps := 0 }) s

/-- A slot computes with an error and an acceleration (R96–R100); an open slot holds its last output (R103). -/
def slotRun (h l : Nat) (e acc : Int) (s : State) : State :=
  let x := loop h l s
  if x.isOpen then slotOpen h l s
  else
    let c := coefsOf h l s
    let e := (sat32 e).1
    let ff := if l < 4 then (rnd28 (c.kff * acc)).1 else 0
    let r := loopCompute c x.bq x.integ e ff
    let fl := s.rd (SRV_LOOP_FLAGS h l)
    let fl := if r.bqSat then fset fl F_SRV_LOOP_FLAGS_BQ_SAT 1 else fl
    let fl := if r.intSat then fset fl F_SRV_LOOP_FLAGS_INT_SAT 1 else fl
    let fl := if r.hold then fset fl F_SRV_LOOP_FLAGS_INT_HOLD 1 else fl
    let fl := if r.clamp then fset fl F_SRV_LOOP_FLAGS_OUT_SAT 1 else fl
    let s := modLoop h l (fun y => { y with bq := r.bq, integ := r.integ, out := r.o, clamps := (if r.clamp then y.clamps + 1 else 0) }) s
    showLoop h l e r.u r.integ r.o (s.wr (SRV_LOOP_FLAGS h l) fl)

/-- A slot that takes input 0 with its states cleared; its output is not sent (R84). -/
def slotIdle (h l : Nat) (s : State) : State :=
  if slotIsOpen h l s then slotOpen h l s
  else showLoop h l 0 0 0 0 (modLoop h l (fun x => { x with bq := [], integ := 0, out := 0, clamps := 0 }) s)

/-- A microactuator slot held with output 0 in SEEK (R95). -/
def slotHold (h l : Nat) (s : State) : State :=
  if slotIsOpen h l s then slotOpen h l s
  else
    let x := loop h l s
    showLoop h l 0 0 x.integ 0 (modLoop h l (fun x => { x with out := 0, clamps := 0, fade0 := 0 }) s)

/-- The output of a slot out of reach goes to 0 over SOFT.WEDGES, its reference and integrator held (R126). -/
def slotFade (h l : Nat) (s : State) : State :=
  if slotIsOpen h l s then slotOpen h l s
  else
    let x := loop h l s
    let w := softLen h s
    let n := min (x.fadeN + 1) w
    let o := x.fade0 * ((w - n : Nat) : Int) / (w : Int)
    (modLoop h l (fun y => { y with fadeN := n, out := o, clamps := 0 }) s).wr (SRV_STATE_O h l) (BitVec.ofNat 32 (ofSigned 32 o))

/-! ### One wedge of an actuator -/

/-- Whether an actuator's servo is closed on its heads: SEEK, SETTLE or TRACK. -/
def moving (a : Nat) (s : State) : Bool := actState a s == 2 || actState a s == 3 || actState a s == 4

/-- The head slots of the stripe that are not out of reach. -/
def headsIn (a : Nat) (s : State) : List Nat :=
  (bitsOf 4 (act a s).stripe).filter (fun i => !(actMask a F_SRV_ACT_STATE_REACH_OUT s).testBit i)

/-- Positions are latched: a head that did not demodulate, or whose servo frame did not arrive intact, misses, and its position is
2·y(n−1) − y(n−2) (R89, R138). -/
def latch (a : Nat) (pos : List (Option Int)) (s : State) : State :=
  let x := act a s
  let up := fun i => upOk a i s && !x.frameMiss.testBit i
  let miss := mask4 (fun i => x.stripe.testBit i && ((pos.getD i none).isNone || !up i))
  let y := fun i => match pos.getD i none with
    | some v => if up i then v else 2 * l4 0 x.y1 i - l4 0 x.y2 i
    | none => 2 * l4 0 x.y1 i - l4 0 x.y2 i
  let s := s.setf (SRV_ACT_STATE a) F_SRV_ACT_STATE_MISS miss
  modAct a (fun x => { x with y2 := [0, 1, 2, 3].map (l4 0 x.y1), y1 := [0, 1, 2, 3].map y, frameMiss := 0 }) s

/-- A whole number held between −m and m. -/
def limitTo (m q : Int) : Int := max (-m) (min m q)

/-- One wedge of a replanned seek (R116): the spec gives no formula, so the change of the acceleration in the wedge is a free value, held to
A_MAX / J; acceleration and velocity stay within A_MAX and V_MAX, or within what they already were, and position follows (R118). -/
def trajFree (t : Traj) (q : Int) : Traj :=
  let aM : Int := 64 * (t.aMax : Int)
  let vM : Int := 4096 * (t.vMax : Int)
  let dq := limitTo (aM / (max t.j 1 : Nat)) q
  let acc := limitTo (max aM t.acc.natAbs) (t.acc + dq)
  let vel := limitTo (max vM t.vel.natAbs) (t.vel + (t.acc + acc) / 2)
  { t with k := t.k + 1, acc := acc, vel := vel, pos := t.pos + (t.vel + vel) / 2 }

/-- A replanned seek is at its end when it rests on its target (R116, R118). -/
def Traj.rests (t : Traj) : Bool := decide (t.pos = t.target * 65536 ∧ t.vel = 0 ∧ t.acc = 0)

/-- The trajectory advances by one wedge (R118, R119): the set-point of wedge n is exactly the target. A replanned seek keeps velocity and
acceleration continuous (R116); n is then the wedge in which it comes to rest on the target. -/
def trajStep (a : Nat) (s : State) : State :=
  let t := (act a s).traj
  let k := t.k + 1
  let goal : Int := t.target * 65536
  if t.replan then
    let q := s.freshInt
    let u := trajFree t q.1
    modAct a (fun x => if u.rests then { x with traj := { u with n := u.k, replan := false }, target := t.target } else { x with traj := u }) q.2
  else if k ≥ t.n then modAct a (fun x => { x with traj := { t with k := min k t.n, pos := goal, vel := 0, acc := 0 }, target := t.target }) s
  else
    let p := seekPoint (goal - t.start) t.vMax t.aMax t.j t.n k
    modAct a (fun x => { x with traj := { t with k := k, pos := t.start + p.1, vel := p.2.1, acc := p.2.2 } }) s

/-- The error of a head slot, saturated to 32 bits: its reference minus its position (R93). -/
def errOf (a i : Nat) (s : State) : Int :=
  (sat32 (refAt (loop (hdaOf a) (maSlot a i) s) (softLen (hdaOf a) s) - l4 0 (act a s).y1 i)).1

/-- Thresholds are in 1/1,024 track: 64 units of an error each. -/
def thr (n : Nat) : Int := 64 * (n : Int)

/-- A head within a threshold and not missed. -/
def good (miss i : Nat) (e : Int) (t : Nat) : Bool := !miss.testBit i && decide ((e.natAbs : Int) ≤ thr t)

/-- The rejoin run of a head is its own: a wedge missed or outside READ_THR starts it again, in whatever loaded state (R127). -/
def rejoinRuns (a : Nat) (s : State) : State :=
  let miss := actMask a F_SRV_ACT_STATE_MISS s
  let rt := s.fld (SRV_SETTLE (hdaOf a)) F_SRV_SETTLE_READ_THR
  modAct a (fun y => { y with
    rejoin := [0, 1, 2, 3].map (fun i => (l4 none y.rejoin i).map (fun n => if good miss i (errOf a i s) rt then n + 1 else 0)) }) s

/-- The settle runs of SETTLE and TRACK grow or break (R120–R122); a head's rejoin run does not affect READ_SETTLED (R127). While no head of the
stripe counts, all of them out of reach or in their rejoin runs, the read settle run is broken, not met by none (DESIGN CHOICE, log 147). -/
def settleRuns (a : Nat) (s : State) : State :=
  let h := hdaOf a
  let x := act a s
  let miss := actMask a F_SRV_ACT_STATE_MISS s
  let ins := headsIn a s
  let e := fun i => errOf a i s
  let rt := s.fld (SRV_SETTLE h) F_SRV_SETTLE_READ_THR
  let wt := s.fld (SRV_SETTLE h) F_SRV_SETTLE_WRITE_THR
  let own := ins.filter (fun i => (l4 none x.rejoin i).isNone)
  let all := !own.isEmpty && own.all (fun i => good miss i (e i) rt)
  modAct a (fun y => { y with
    readRun := (if all then x.readRun + 1 else 0),
    wRun := [0, 1, 2, 3].map (fun i => if ins.contains i && good miss i (e i) wt then l4 0 x.wRun i + 1 else 0),
    settleWedges := x.settleWedges + 1 }) s

/-- The condition of R123 that only the head's own servo decides: TRACK, WSET, in the stripe, not missed, within PES_THR and DELTA_THR. -/
def fenceServo (a i : Nat) (s : State) : Bool :=
  let h := hdaOf a
  let e := errOf a i s
  actState a s == 4 && (actMask a F_SRV_ACT_STATE_WSET s).testBit i && !(actMask a F_SRV_ACT_STATE_MISS s).testBit i &&
    (headsIn a s).contains i && decide ((e.natAbs : Int) ≤ thr (s.fld (SRV_FENCE h) F_SRV_FENCE_PES_THR)) &&
    decide (((e - l4 0 (act a s).e1 i).natAbs : Int) ≤ thr (s.fld (SRV_FENCE h) F_SRV_FENCE_DELTA_THR)) &&
    !slotIsOpen h (vcmSlot a) s && !slotIsOpen h (maSlot a i) s

/-- Why the fence denies a head slot, by the order of R542; none when it permits (R123, R148, R153, R156). -/
def fenceDenies (a i : Nat) (s : State) : Option Nat :=
  if s.fld (SRV_ACT_STATE a) F_SRV_ACT_STATE_FORCED = 1 then some causeForced
  else if (s.fld (LNK_FLAGS a) F_LNK_FLAGS_WFAULT).testBit i then some causeWfault
  else if !laneOk a i s || (lnk a s).remap.isSome then some causeLane
  else if !fenceServo a i s then some causeFence
  else none

/-- A failure of PES_THR, DELTA_THR or a miss clears WSET of the head, whose run starts anew (R124). -/
def wsetDrop (a i : Nat) (s : State) : State :=
  let h := hdaOf a
  let e := errOf a i s
  let bad := (actMask a F_SRV_ACT_STATE_MISS s).testBit i ||
    decide ((e.natAbs : Int) > thr (s.fld (SRV_FENCE h) F_SRV_FENCE_PES_THR)) ||
    decide (((e - l4 0 (act a s).e1 i).natAbs : Int) > thr (s.fld (SRV_FENCE h) F_SRV_FENCE_DELTA_THR))
  if bad && (actMask a F_SRV_ACT_STATE_WSET s).testBit i then
    modAct a (fun x => { x with wRun := l4set 0 x.wRun i 0 }) (setActBit a F_SRV_ACT_STATE_WSET i false s)
  else s

/-- The fence decision at the latch for the data segment that follows (R123, R124). -/
def fenceDecide (a : Nat) (s : State) : State :=
  let s := each (bitsOf 4 (act a s).stripe) (wsetDrop a) s
  let s := each [0, 1, 2, 3] (fun i t =>
    match fenceDenies a i t with
    | some c => modAct a (fun x => { x with offCause := l4set 0 x.offCause i c }) (withdraw a (2 ^ i) c t)
    | none => modAct a (fun x => { x with fence := setBit x.fence i true, offCause := l4set 0 x.offCause i 0 }) t) s
  let e := [0, 1, 2, 3].map (fun i => errOf a i s)
  modAct a (fun x => { x with e1 := e }) s

/-- At wedge 0 the runs of revolutions with a departure go on or end, head by head (R128). -/
def outRevolution (x : ActSt) : ActSt :=
  { x with outRevs := (List.range 8).map (fun n => if x.outNow.getD n false then x.outRevs.getD n 0 else 0), outNow := [] }

/-- The runs of missed wedges grow or break: by head slot, and of every head of the stripe together (R90, R126). -/
def missRuns (a : Nat) (s : State) : State :=
  let miss := actMask a F_SRV_ACT_STATE_MISS s
  let ins := headsIn a s
  let all := bitsOf 4 (act a s).stripe
  let lost := !all.isEmpty && all.all (fun i => miss.testBit i)
  modAct a (fun x => { x with
    missRun := [0, 1, 2, 3].map (fun i => if ins.contains i && miss.testBit i then l4 0 x.missRun i + 1 else 0),
    lostRun := if lost then x.lostRun + 1 else 0 }) s

/-- The wedge of one actuator up to the computation: latch, trajectory, references, settle runs, fence (R87, R89–R91, R109, R120–R128). -/
def actWedge (a w : Nat) (pos : List (Option Int)) (sync : Bool) (s : State) : State :=
  let h := hdaOf a
  let s := if s.domOn a then s.incWrap (SRV_WEDGE_COUNT a) 1 else s
  let s := modAct a (fun x => { x with seekNew := false, seekWedges := x.seekWedges.map (· + 1), leftNow := 0 }) s
  let s := if w = 0 then modAct a outRevolution s else s
  let s := latch a pos s
  if !loaded a s then s
  else
    let st := actState a s
    let s := if st = 1 then modAct a (fun x => { x with syncRun := (if sync then x.syncRun + 1 else 0) }) s else s
    let s := if st = 2 then trajStep a s else s
    let s := each (headsIn a s) (fun i t =>
      modLoop h (maSlot a i) (refStep (refCmd a i t) (l4 0 (act a t).y1 i) (softLen h t)) t) s
    let s := if st = 3 ∨ st = 4 then settleRuns a s else s
    let s := rejoinRuns a s
    fenceDecide a (missRuns a s)

/-- The displacement of a head slot's microactuator in 1/65,536 track, from its output of the previous wedge (R94), rounded down. -/
def displacement (a i : Nat) (s : State) : Int :=
  let h := hdaOf a
  (loop h (maSlot a i) s).out * coefWord h (maSlot a i) 5 s * 65536 / 268435456

/-- The heads whose errors count for the VCM: those of the stripe that did not miss, or all of it when every head missed (R89, R126). -/
def vcmHeads (a : Nat) (s : State) : List Nat :=
  let ins := headsIn a s
  let hit := ins.filter (fun i => !(actMask a F_SRV_ACT_STATE_MISS s).testBit i)
  if hit.isEmpty then ins else hit

/-- The VCM slot of an actuator (R84, R94). After a close its set-point starts from the measured position (R109): the difference then
found fades over SOFT.WEDGES. When no head of the stripe counts, all of them out of reach, the mean is taken as 0 (DESIGN CHOICE, log 147). -/
def vcmWedge (a : Nat) (s : State) : State :=
  let h := hdaOf a
  let l := vcmSlot a
  let hs := vcmHeads a s
  if !loaded a s then slotIdle h l s
  else if actState a s = 2 then
    slotRun h l ((act a s).traj.pos - mean (hs.map (fun i => l4 0 (act a s).y1 i))) (act a s).traj.acc s
  else if actState a s = 3 ∨ actState a s = 4 then
    let e := mean (hs.map (fun i => errOf a i s + displacement a i s))
    let s := if slotIsOpen h l s then s else modLoop h l (refStep 0 (-e) (softLen h s)) s
    slotRun h l (e + refAt (loop h l s) (softLen h s)) 0 s
  else slotRun h l 0 0 s

/-- The microactuator slot of a head slot (R84, R93, R95, R126): idle when the actuator is not loaded or the head is not in the stripe, held in
SEEK. -/
def maWedge (a i : Nat) (s : State) : State :=
  let h := hdaOf a
  let l := maSlot a i
  if !loaded a s || !(act a s).stripe.testBit i then slotIdle h l s
  else if actState a s = 2 then slotHold h l s
  else if (actMask a F_SRV_ACT_STATE_REACH_OUT s).testBit i then slotFade h l s
  else slotRun h l (errOf a i s) 0 s

/-- Whether the VCM output of an actuator is sent (R94), and the mask of its microactuator slots that are (R84, R142): those of the stripe while
the actuator is loaded, but none in a retract (R430 step 2). -/
def vcmSent (a : Nat) (s : State) : Bool := moving a s
def maSent (a : Nat) (s : State) : Nat := if loaded a s && actState a s != 6 then (act a s).stripe else 0

/-- The three blocks of the servo command frame of a wedge (spec/04_sloas_link.md, R141, R142). -/
def scmdFrame (a w : Nat) (s : State) : List Nat :=
  let h := hdaOf a
  let out := fun l => (loop h l s).out
  let ma := fun i => if (maSent a s).testBit i then ofSigned 12 (out (maSlot a i)) else 0
  let vcm := if vcmSent a s then ofSigned 16 (out (vcmSlot a)) else 0
  let hd := 0x66 + w % 1024 * 2 ^ 8 + maSent a s * 2 ^ 18 + b2n (vcmSent a s) * 2 ^ 22 + (lnk a s).scmdSeq * 2 ^ 24
  let da := vcm + ma 0 * 2 ^ 16 + ma 1 * 2 ^ 28 + ma 2 * 2 ^ 40 + ma 3 * 2 ^ 52
  let c := crc 16 0x1021 0xFFFF (leBytes hd 8 ++ leBytes da 8)
  [hd, da, 0x69 + c * 2 ^ 8]

/-- The frame starts on every downstream lane that has block lock; a frame not yet sent is overtaken (R142). -/
def scmdSend (a w : Nat) (s : State) : State :=
  if !s.domOn a then s
  else
    let fr := scmdFrame a w s
    let s := each (dnLocked a s) (fun i t => modDn a i (fun l => { l with scmd := fr }) t) s
    modLnk a (fun x => { x with scmdSeq := (x.scmdSeq + 1) % 4096, scmdErr := (if x.scmdNow then x.scmdErr + 1 else 0), scmdNow := false }) s

/-- After the computation: clamped microactuators lose permission at the output instant (R125), and the runs of R101 and R107 go on. -/
def actAfter (a w : Nat) (s : State) : State :=
  let h := hdaOf a
  let clamped := mask4 (fun i => (actState a s == 3 || actState a s == 4) && (act a s).stripe.testBit i &&
    decide (0 < (loop h (maSlot a i) s).clamps))
  let s := withdraw a clamped causeClamp s
  let own := loaded a s && (slotIsOpen h 20 s || (actSlots a).any (fun l => slotIsOpen h l s))
  let vc := (actState a s == 3 || actState a s == 4) && !slotIsOpen h (vcmSlot a) s && decide (0 < (loop h (vcmSlot a) s).clamps)
  let s := modAct a (fun x => { x with vcmClamps := (if vc then x.vcmClamps + 1 else 0), openRun := (if own then x.openRun + 1 else 0) }) s
  let s := modSeq a (fun q => { q with wdog := (if q.allot.isSome then q.wdog + 1 else q.wdog) }) s
  scmdSend a w s

/-- A mapping of head slots that has been declared takes effect at the sample instant (R155, R156): slots 2 and 3 are out of the stripe. -/
def remapApply (a : Nat) (s : State) : State :=
  match (lnk a s).remap with
  | none => s
  | some m =>
    let s := s.setf (LNK_STATE a) F_LNK_STATE_UP_SLOT0 (m % 4)
    let s := s.setf (LNK_STATE a) F_LNK_STATE_UP_SLOT1 (m / 4 % 4)
    let s := s.setf (LNK_STATE a) F_LNK_STATE_DN_SLOT0 (m / 16 % 4)
    let s := s.setf (LNK_STATE a) F_LNK_STATE_DN_SLOT1 (m / 64 % 4)
    let s := modAct a (fun x => { x with stripe := x.stripe % 4, nextStripe := x.nextStripe % 4 }) s
    showStripe a (modLnk a (fun x => { x with remap := none }) s)

/-- The speed set-point advances toward the target at SPN_RAMP.RATE while the measured speed is within LEAD of it; in BRAKING it
descends (R55, R73). One wedge lasts 60 / (rpm × WEDGES) seconds; the step is rounded down. -/
def setpointStep (h : Nat) (s : State) : State :=
  let x := spin h s
  let sp16 := x.setpoint / 4096
  let cur := if sp16 = 0 then 16 else sp16
  let step := s.fld (SPN_RAMP h) F_SPN_RAMP_RATE * 65536 * 960 / (cur * s.fld (SRV_WEDGE h) F_SRV_WEDGE_WEDGES)
  let goal := s.fld (SPN_TARGET h) F_SPN_TARGET_RPM * 65536
  let v := s.fld (SPN_SPEED0 h) F_SPN_SPEED0_RPM_X16
  let lead := decide (((v : Int) - sp16).natAbs ≤ 16 * s.fld (SPN_RAMP h) F_SPN_RAMP_LEAD)
  match spnState h s with
  | 4 => if !lead then s
         else modSpin h (fun y => { y with setpoint := if x.setpoint < goal then min (x.setpoint + step) goal else max (x.setpoint - step) goal }) s
  | 6 => modSpin h (fun y => { y with setpoint := x.setpoint - step }) s
  | _ => s

/-- The spindle slot (R57, R73, R84): its input is set-point minus measured speed in 1/16 rpm (the spec gives the slot no unit), its output
the signed duty demand. In a power-loss brake the Gatehouse sets the demand that holds the rail, a value the spec does not give (R435). Outside
CLOSED, AT_SPEED and BRAKING, and in a power-loss brake, the slot idles with its states cleared, as R84 lays down for head slots (DESIGN
CHOICE, log 107). -/
def spnWedge (h : Nat) (s : State) : State :=
  let st := spnState h s
  if inPowerBrake h s then
    let f := s.fresh
    slotIdle h 20 (modSpin h (fun x => { x with duty := f.1 % 65536, neg := true }) f.2)
  else if st = 4 ∨ st = 5 ∨ st = 6 then
    let s := setpointStep h s
    let e : Int := (spin h s).setpoint / 4096 - s.fld (SPN_SPEED0 h) F_SPN_SPEED0_RPM_X16
    let s := slotRun h 20 e 0 s
    let o := (loop h 20 s).out
    modSpin h (fun x => { x with duty := min o.natAbs 65535, neg := decide (o < 0) }) s
  else slotIdle h 20 s

/-- The wedge timer's runs: for each local actuator the wedges in which it, loaded, read a valid sync mark, and the wedges in which none did
(R91). -/
def timerRuns (h : Nat) (sync : Nat) (s : State) : State :=
  let hit := fun k => loaded (4 * h + k) s && sync.testBit k
  { s with engs := tmod {} s.engs h (fun e =>
      { e with
        syncRun := [0, 1, 2, 3].map (fun k => if hit k then l4 0 e.syncRun k + 1 else 0),
        lossRun := if [0, 1, 2, 3].any hit then 0 else e.lossRun + 1 }) }

/-- The interval since the last sample instant, ns, joins those of the last revolution (R58). -/
def wedgeInterval (h ns : Nat) (s : State) : State :=
  let n := s.fld (SRV_WEDGE h) F_SRV_WEDGE_WEDGES
  { s with engs := tmod {} s.engs h (fun e => { e with ivals := (ns :: e.ivals).take n, lastAt := s.sdl.now }) }

/-- The speed in 1/16 rpm from the mean wedge interval over the last revolution, rounded down (R58). -/
def wedgeRpm (h : Nat) (s : State) : Nat :=
  let l := (tget {} s.engs h).ivals
  min (960000000000 * l.length / (s.fld (SRV_WEDGE h) F_SRV_WEDGE_WEDGES * l.sum)) (2 ^ 20 - 1)

/-- Once the timer is locked, the measured speed is that of the wedges (R58). -/
def wedgeSpeed (h : Nat) (s : State) : State :=
  let st := spnState h s
  if s.fld (SRV_STATUS h) F_SRV_STATUS_LOCKED = 1 ∧ (st = 4 ∨ st = 5) then
    speedTaken h (s.setf (SPN_SPEED0 h) F_SPN_SPEED0_RPM_X16 (wedgeRpm h s))
  else s

/-- One wedge of an HDA (R87): the positions of head slots 0–3 of actuators 0–3, none where the field did not demodulate. -/
def wedge (h ns : Nat) (pos : List (Option Int)) (sync : Nat) (s : State) : State :=
  let w := (s.fld (SRV_STATUS h) F_SRV_STATUS_INDEX + 1) % s.fld (SRV_WEDGE h) F_SRV_WEDGE_WEDGES
  let s := s.setf (SRV_STATUS h) F_SRV_STATUS_INDEX w
  let s := wedgeSpeed h (wedgeInterval h ns (timerRuns h sync s))
  let s := each (actsOf h) remapApply s
  let s := each (List.range 21) (slotPending h) s
  let s := each (actsOf h) (fun a t => actWedge a w ((pos.drop (4 * (a % 4))).take 4) (sync.testBit (a % 4)) t) s
  let s := each (actsOf h) vcmWedge s
  let s := each (actsOf h) (fun a t => each [0, 1, 2, 3] (maWedge a) t) s
  let s := spnWedge h s
  each (actsOf h) (fun a t => actAfter a w t) s

/-- SERVO_WEDGE (R87). `ns` is the time since the last sample instant, `sync` the local actuators that read the sync mark and wedge
number within ±150 ns of the predicted instant. -/
def execServoWedge (h : Hda) (ns : BitVec 20) (pos : List (Option Int)) (sync : BitVec 4) (s : State) : Host.Outcome State Fault Refusal :=
  ok (wedge h.toNat ns.toNat pos sync.toNat s)

/-! ### Faults and the wedge timer -/

/-- A servo fault of one actuator: its flag, its event, the Actuator-class fault (R90, R101, R107, R111). -/
def servoFault (a code : Nat) (f : Fld) (inj : Bool) (s : State) : State :=
  actFault a code a 0 inj (emit code (s.flag (SRV_ACT_FLAGS a) f))

/-- SERVO_LOST: every head of a loaded actuator missed 8 consecutive wedges (R90). In LOADING, where R111 allows 500 ms for the first sync mark,
and on the way to the ramp the command reports it only where it is sent (log 28). -/
def execServoLost (a : Act) (s : State) : Host.Outcome State Fault Refusal :=
  let k := a.toNat
  ok (onlyIf (loaded k s && decide (8 ≤ (act k s).lostRun))
    (fun s => servoFault k 0x4006 F_SRV_ACT_FLAGS_SERVO_LOST false (modAct k (fun x => { x with lostRun := 0 }) s)) s)

/-- TIMER_LOCK: four consecutive wedges with sync marks in the window; the timer takes the wedge number read (R91). -/
def execTimerLock (h : Hda) (wedge : BitVec 10) (s : State) : Host.Outcome State Fault Refusal :=
  let k := h.toNat
  ok (onlyIf (s.fld (SRV_STATUS k) F_SRV_STATUS_LOCKED == 0 && (tget {} s.engs k).syncRun.any (fun n => decide (4 ≤ n))) (fun s =>
    let s := s.setf (SRV_STATUS k) F_SRV_STATUS_INDEX (wedge.toNat % s.fld (SRV_WEDGE k) F_SRV_WEDGE_WEDGES)
    let s := s.flag (SRV_STATUS k) F_SRV_STATUS_LOCKED
    emit 0x4001 (if spnState k s = 4 ∨ spnState k s = 5 then s.setf (SPN_SPEED0 k) F_SPN_SPEED0_SOURCE 2 else s)) s)

/-- TIMER_LOCK_LOST: eight consecutive wedges without a valid sync mark (R91). -/
def execTimerLockLost (h : Hda) (s : State) : Host.Outcome State Fault Refusal :=
  let k := h.toNat
  ok (onlyIf (s.fld (SRV_STATUS k) F_SRV_STATUS_LOCKED == 1 && decide (8 ≤ (tget {} s.engs k).lossRun)) (fun s =>
    let s := s.setf (SRV_STATUS k) F_SRV_STATUS_LOCKED 0
    emit 0x4002 (if spnState k s = 4 ∨ spnState k s = 5 then s.setf (SPN_SPEED0 k) F_SPN_SPEED0_SOURCE 1 else s)) s)

/-- VCM_SAT_FAULT: the VCM output clamped in 256 consecutive wedges of SETTLE or TRACK (R101). -/
def execVcmSatFault (a : Act) (s : State) : Host.Outcome State Fault Refusal :=
  let k := a.toNat
  ok (onlyIf ((actState k s == 3 || actState k s == 4) && decide (256 ≤ (act k s).vcmClamps))
    (fun s => servoFault k 0x400A F_SRV_ACT_FLAGS_VCM_SAT false (modAct k (fun x => { x with vcmClamps := 0 }) s)) s)

/-- OPEN_LIMIT_FAULT: 64 consecutive open wedges while loaded (R107). -/
def execOpenLimitFault (a : Act) (s : State) : Host.Outcome State Fault Refusal :=
  let k := a.toNat
  ok (onlyIf (loaded k s && decide (64 ≤ (act k s).openRun))
    (fun s => servoFault k 0x4005 F_SRV_ACT_FLAGS_OPEN_LIMIT false (modAct k (fun x => { x with openRun := 0 }) s)) s)

/-! ### Transitions (R111, R120–R122) -/

/-- LOAD_ACQUIRED: sync marks in 4 consecutive wedges; the cylinder read becomes the target (R111). -/
def execLoadAcquired (a : Act) (cyl : BitVec 21) (s : State) : Host.Outcome State Fault Refusal :=
  let k := a.toNat
  ok (onlyIf (actState k s == 1 && decide (4 ≤ (act k s).syncRun))
    (fun s => closeMas k (enterSettle k (modAct k (fun x => { x with target := cyl.toNat }) s))) s)

/-- The servo is not acquired within 500 ms of LOAD (R111): LOAD_TMO, 0x400B, an Actuator-class fault, and the actuator is isolated: it is
loaded, so the Gatehouse retracts it first (R427, R428). -/
def loadTimeout (a : Nat) (inj : Bool) (s : State) : State := servoFault a 0x400B F_SRV_ACT_FLAGS_LOAD_TMO inj s

/-- LOADING_TIMEOUT (R111). -/
def execLoadingTimeout (a : Act) (s : State) : Host.Outcome State Fault Refusal :=
  ok (onlyIf (actState a.toNat s == 1) (loadTimeout a.toNat false) s)

/-- TRAJECTORY_END: the final set-point has been given; SEEK moves to SETTLE with the stripe of the seek (R95, R111, R118, R119). -/
def execTrajectoryEnd (a : Act) (s : State) : Host.Outcome State Fault Refusal :=
  let k := a.toNat
  ok (onlyIf (actState k s == 2 && !(act k s).traj.replan && decide ((act k s).traj.n ≤ (act k s).traj.k)) (fun s => closeMas k (enterSettle k s)) s)

/-- READ_SETTLED (R111, R120); the wedges since the seek's acceptance are sampled (R465, R467). -/
def execReadSettled (a : Act) (s : State) : Host.Outcome State Fault Refusal :=
  let k := a.toNat
  ok (onlyIf (actState k s == 3 && decide (s.fld (SRV_SETTLE (hdaOf k)) F_SRV_SETTLE_READ_COUNT ≤ (act k s).readRun)) (fun s =>
    let s := setActState k 4 (s.flag (SRV_ACT_STATE k) F_SRV_ACT_STATE_READ_SETTLED)
    match (act k s).seekWedges with
    | none => s
    | some n => modAct k (fun x => { x with seekWedges := none }) (extAdd 4 (n : Int) (histAdd 2 (binSeek n) s))) s)

/-- WRITE_SETTLED (R121). -/
def execWriteSettled (a : Act) (i : Slot) (s : State) : Host.Outcome State Fault Refusal :=
  let k := a.toNat
  ok (onlyIf (moving k s && (headsIn k s).contains i.toNat &&
      decide (s.fld (SRV_SETTLE (hdaOf k)) F_SRV_SETTLE_WRITE_COUNT ≤ l4 0 (act k s).wRun i.toNat))
    (setActBit k F_SRV_ACT_STATE_WSET i.toNat true) s)

/-- SETTLE_TIMEOUT: READ_SETTLED not reached within TMO × 8 wedges; the actuator stays in SETTLE (R122). -/
def execSettleTimeout (a : Act) (s : State) : Host.Outcome State Fault Refusal :=
  let k := a.toNat
  ok (onlyIf (actState k s == 3 && !(act k s).settleTold &&
      decide (8 * s.fld (SRV_SETTLE (hdaOf k)) F_SRV_SETTLE_TMO ≤ (act k s).settleWedges)) (fun s =>
    emit 0x4004 ((modAct k (fun x => { x with settleTold := true }) s).flag (SRV_ACT_FLAGS k) F_SRV_ACT_FLAGS_SETTLE_TMO)) s)

/-! ### Heads that leave the stripe (R126–R128) -/

/-- HEAD_LEAVES_STRIPE: two consecutive clamped wedges, or four missed ones, of a head of a loaded actuator; the third revolution in a row in which the head leaves is
reported once (R126, R128). -/
def execHeadLeavesStripe (a : Act) (i : Slot) (s : State) : Host.Outcome State Fault Refusal :=
  let k := a.toNat
  let j := i.toNat
  let l := maSlot k j
  ok (onlyIf (loaded k s && (headsIn k s).contains j && (decide (2 ≤ (loop (hdaOf k) l s).clamps) || decide (4 ≤ l4 0 (act k s).missRun j)))
    (fun s =>
      let s := setActBit k F_SRV_ACT_STATE_REACH_OUT j true (setActBit k F_SRV_ACT_STATE_WSET j false s)
      let s := modLoop (hdaOf k) l (fun x => { x with fade0 := x.out, fadeN := 0, clamps := 0 }) s
      let hd := l4 0 (act k s).heads j
      let first := !(act k s).outNow.getD hd false
      let n := (act k s).outRevs.getD hd 0 + 1
      let s := modAct k (fun x => { x with missRun := l4set 0 x.missRun j 0, wRun := l4set 0 x.wRun j 0,
                                            rejoin := l4set none x.rejoin j none, leftNow := setBit x.leftNow j true,
                                            outNow := l8set false x.outNow hd true, owes := l8set false x.owes hd true,
                                            outRevs := if first then l8set 0 x.outRevs hd n else x.outRevs }) s
      let s := emit 0x4007 (showStripe k s)
      if first && n == 3 then emit 0x4008 (s.flag (SRV_ACT_FLAGS k) F_SRV_ACT_FLAGS_REACH) else s) s)

/-- HEAD_REJOINS: at the next wedge 0 after its departure a head closes with CLOSE_MODE 1 and soft start, and runs its own read settle run
(R127). -/
def execHeadRejoins (a : Act) (i : Slot) (s : State) : Host.Outcome State Fault Refusal :=
  let k := a.toNat
  let j := i.toNat
  ok (onlyIf ((actMask k F_SRV_ACT_STATE_REACH_OUT s).testBit j && s.fld (SRV_STATUS (hdaOf k)) F_SRV_STATUS_INDEX == 0 &&
      !(act k s).leftNow.testBit j) (fun s =>
    let s := setActBit k F_SRV_ACT_STATE_REACH_OUT j false s
    let s := modLoop (hdaOf k) (maSlot k j) (fun x => { x with bq := [], refPend := true }) s
    showStripe k (modAct k (fun x => { x with rejoin := l4set none x.rejoin j (some 0) }) s)) s)

/-- REJOIN_RUN_END: the head's own run is complete; IN_STRIPE becomes 1 (R127). -/
def execRejoinRunEnd (a : Act) (i : Slot) (s : State) : Host.Outcome State Fault Refusal :=
  let k := a.toNat
  let j := i.toNat
  ok (onlyIf (match l4 none (act k s).rejoin j with
      | some n => decide (s.fld (SRV_SETTLE (hdaOf k)) F_SRV_SETTLE_READ_COUNT ≤ n)
      | none => false)
    (fun s => showStripe k (modAct k (fun x => { x with
      rejoin := l4set none x.rejoin j none, owes := l8set false x.owes (l4 0 x.heads j) false }) s)) s)

end Sys2Proof.Machine
end

