-- ==== Sys2Proof/Machine/Fly.lean ====
section
/-! DEFINITION. The in-flight table of a track sequencer and the outcomes of gated sectors (spec/07_track_sequencers.md, R247–R250), which
the link, the read channel, the write channel and the sequencer share. -/

namespace Sys2Proof.Machine

/-- The entries of an actuator's in-flight table. -/
def fly (a : Nat) (s : State) : List FlyEnt := (seq a s).fly

/-- An entry by its number. -/
def flyGet (a id : Nat) (s : State) : Option FlyEnt := (fly a s).find? (fun e => e.id == id)

/-- Changes an entry. -/
def modFly (a id : Nat) (f : FlyEnt → FlyEnt) (s : State) : State :=
  modSeq a (fun q => { q with fly := q.fly.map (fun e => if e.id = id then f e else e) }) s

/-- The outcome codes of R249. -/
def ocDecoded : Nat := 0
def ocRecovered : Nat := 1
def ocSlip : Nat := 2
def ocUnrec : Nat := 3
def ocWritten : Nat := 4
def ocPartial : Nat := 5
def ocNotWritten : Nat := 6
def ocNotGated : Nat := 7

/-- The causes of NOT_GATED (R249). -/
def ngOut : Nat := 1
def ngState : Nat := 2
def ngLane : Nat := 3
def ngFlush : Nat := 4
def ngRevs : Nat := 5

/-- An outcome word (R249). -/
def outcomeWord (oc cause slot iter k : Nat) : W32 :=
  BitVec.ofNat 32 (2 ^ 31 + oc % 8 * 2 ^ 28 + cause % 16 * 2 ^ 24 + slot % 4 * 2 ^ 22 + iter % 64 * 2 ^ 16 + k % 65536)

/-- The outcome of an entry is decided: its word joins the outcome words in order of decision (R250), and its gate queue place is free;
an entry whose operation was ended by a fault is discarded (R252). What it says of the media reaches the commands that its sector belongs to. -/
def settle (a id oc cause iter : Nat) (s : State) : State :=
  match flyGet a id s with
  | none => s
  | some e =>
    if e.dead then modSeq a (fun q => { q with fly := q.fly.filter (fun x => x.id != id) }) s
    else
      let s := mediaNote (a, e.cyl, e.head, e.sector) (e.mode, e.tag) oc (e.base + e.k * 4096) s
      let s := modFly a id (fun x => { x with st := .done, inQ := false, word := outcomeWord oc cause e.slot iter e.k }) s
      modSeq a (fun q => { q with outq := q.outq ++ [id] }) s

/-- The last cell of an entry's sector has passed: its gate queue place is free (R247). -/
def queueFree (a id : Nat) (s : State) : State :=
  modSeq a (fun q =>
    let l := q.fly.map (fun e => if e.id = id then { e with inQ := false } else e)
    { q with fly := l.filter (fun e => e.inQ || !e.taken) }) s

/-- Entries that have not opened and satisfy a test come back NOT_GATED with a cause (R249). -/
def notGated (a : Nat) (p : FlyEnt → Bool) (cause : Nat) (s : State) : State :=
  each ((fly a s).filter (fun e => e.st == .queued && p e)) (fun e t => settle a e.id ocNotGated cause 0 t) s

/-- The read entry of a head slot whose gate is open: the newest one. -/
def readingEnt (a slot : Nat) (s : State) : Option FlyEnt :=
  ((fly a s).filter (fun e => e.slot == slot && e.mode != 2 && (e.st == .open || e.st == .filling))).getLast?

/-- Whether a read gate of an actuator is open, or a read gate on one head slot. -/
def readGateOpen (a : Nat) (s : State) : Bool := (fly a s).any (fun e => e.mode != 2 && (e.st == .open || e.st == .filling))
def readGateOn (a slot : Nat) (s : State) : Bool := (readingEnt a slot s).isSome

/-- The zone of an actuator's format unit (R234). -/
def zoneNow (a : Nat) (s : State) : Nat := ((seq a s).zone).getD 0

/-- The usable cells U = DA_CELLS − 80 of a wedge's data area (R244). -/
def zoneU (a z : Nat) (s : State) : Nat := s.fld (SEQ_FMT1 a z) F_SEQ_FMT1_DA_CELLS - 80

/-- The lengths of the parts of a sector's written cells (R209, R244). -/
def partsOf (u p : Nat) : List Nat :=
  let n := 36736
  let r := u - p % u
  if u = 0 ∨ n ≤ r then [n]
  else if n ≤ r + u then [r, n - r]
  else if n ≤ r + 2 * u then [r, u, n - r - u]
  else [r, u, u, n - r - 2 * u]

/-- Whether a write gate of an actuator is open. -/
def writeGateOpen (a : Nat) (s : State) : Bool := s.fld (WCH_STATE a) F_WCH_STATE_GATE != 0

/-- The write entry of a head slot whose gate has been reached. -/
def writingEnt (a slot : Nat) (s : State) : Option FlyEnt := (fly a s).find? (fun e => e.slot == slot && e.writing)

end Sys2Proof.Machine
end

