-- ==== Sys2Proof/Machine/Chain.lean ====
section
/-! DEFINITION. The chain of a head slot from samples to log-likelihood ratios (spec/05_reading.md, R171–R177, R184): zones, the interpolator and
its timing loop, the equaliser, the detector, the search for sync and resync marks, and the capture into a retention slot. -/

namespace Sys2Proof.Machine

/-! ### Zones and targets (R172) -/

/-- The sample rate of a zone, MHz. -/
def zoneRate (a z : Nat) (s : State) : Nat := s.fld (RCH_ZONE1 a z) F_RCH_ZONE1_RATE_MHZ

/-- The target index that a selector names in a zone: 0 the zone's target, 1 to 4 its alternatives (R172, R190). -/
def targetIndex (a z sel : Nat) (s : State) : Nat :=
  s.fld (RCH_ZONE1 a z) (match sel with
    | 1 => F_RCH_ZONE1_ALT1
    | 2 => F_RCH_ZONE1_ALT2
    | 3 => F_RCH_ZONE1_ALT3
    | 4 => F_RCH_ZONE1_ALT4
    | _ => F_RCH_ZONE1_TARGET)

/-- The taps G0 to G4 of a target, in 1/32 (RCH_TARGET). -/
def targetTaps (i : Nat) (s : State) : List Int :=
  [s.fld (RCH_TARGET0 i) F_RCH_TARGET0_G0, s.fld (RCH_TARGET0 i) F_RCH_TARGET0_G1, s.fld (RCH_TARGET0 i) F_RCH_TARGET0_G2,
   s.fld (RCH_TARGET0 i) F_RCH_TARGET0_G3, s.fld (RCH_TARGET1 i) F_RCH_TARGET1_G4].map (toSigned 8)

/-! ### Marks (R166, R170, R177) -/

/-- The sync marks and the resync mark, as 32 and 16 bits, first bit first. -/
def dataMark : List Bool := (List.range 32).map (fun i => (0x9E6A3F15 : Nat).testBit (31 - i))
def poisonMark : List Bool := (List.range 32).map (fun i => (0x6E9ACFE9 : Nat).testBit (31 - i))
def resyncMark : List Bool := (List.range 16).map (fun i => (0xB38E : Nat).testBit (15 - i))

/-- The hard decision of a channel bit. -/
def ChBit.hard (b : ChBit) : Bool := decide (b.llr < 0)

/-- The positions in which the hard decisions from bit `p` on differ from a mark; a bit that has not come differs. -/
def markDist (bits : List ChBit) (mark : List Bool) (p : Nat) : Nat :=
  (mark.zipIdx.filter (fun x => match bits[p + x.2]? with
    | some b => b.hard != x.1
    | none => true)).length

/-- Where a mark is found within `win` bits of its expected position with at most `tol` mismatches: the place with the fewest, the earliest
of them (R177, R174). -/
def markFind (bits : List ChBit) (mark : List Bool) (exp win tol : Nat) : Option (Nat × Nat) :=
  ((List.range (2 * win + 1)).map (fun i => exp + i - win)).foldl (fun b p =>
    let d := markDist bits mark p
    let better := match b with
      | some y => decide (d < y.2)
      | none => true
    if decide (d ≤ tol) && better then some (p, d) else b) none

/-! ### The chain of a head slot -/

/-- The chain of head slot `i` of an actuator. -/
def chain (a i : Nat) (s : State) : Chain := tget {} s.chains (4 * a + i)

/-- Changes a chain. -/
def modChain (a i : Nat) (f : Chain → Chain) (s : State) : State := { s with chains := tmod {} s.chains (4 * a + i) f }

/-- What the registers give a chain while it works: gains and limits of RCH_TR, the step MU, 0 where adaptation is stopped, the target, the
tolerances of the marks and the window of the sync mark. -/
structure ChainPar where
  acqKp : Nat
  acqKf : Nat
  trkKp : Nat
  trkKf : Nat
  acqLen : Nat
  coastMax : Nat
  mu : Nat
  target : List Int
  resyncTol : Nat
  syncTol : Nat
  syncWin : Nat

/-- The parameters of a head slot that reads cylinder `cyl` (R172–R176). -/
def chainPar (a i cyl : Nat) (s : State) : ChainPar :=
  let r := RCH_TR a
  { acqKp := s.fld r F_RCH_TR_ACQ_KP, acqKf := s.fld r F_RCH_TR_ACQ_KF, trkKp := s.fld r F_RCH_TR_TRK_KP, trkKf := s.fld r F_RCH_TR_TRK_KF,
    acqLen := s.fld r F_RCH_TR_ACQ_LEN, coastMax := s.fld r F_RCH_TR_COAST_MAX,
    mu := if (s.fld (RCH_EQ_CTL a) F_RCH_EQ_CTL_FREEZE).testBit i then 0 else s.fld (RCH_EQ_CTL a) F_RCH_EQ_CTL_MU,
    target := targetTaps (targetIndex a (zoneOf a cyl s) 0 s) s, resyncTol := s.fld (RCH_SYNC a) F_RCH_SYNC_RESYNC_TOL,
    syncTol := s.fld (RCH_SYNC a) F_RCH_SYNC_SYNC_TOL, syncWin := s.fld (RCH_SYNC a) F_RCH_SYNC_SYNC_WIN }

/-- Channel bits as signal levels: a 1 is +1, a 0 is −1. -/
def levelOf (b : Bool) : Int := if b then 1 else -1

/-- The output of a target, in 1/32, over decisions, newest first. -/
def targetOut (g : List Int) (d : List Bool) : Int := (List.zipWith (fun x b => x * levelOf b) g d).foldl (· + ·) 0

/-- One step of the detector's 16 states, the last four bits: the better of the two ways into each, with the squared distance of the equalised
value, in 1/256 sample step, from the target's output (R176). The least metric is taken off, so that they stay bounded. -/
def viterbi (g : List Int) (m : List Int) (z : Int) : List Int :=
  let into := fun (t p : Nat) =>
    let d := z - 8 * Config.signalUnit * targetOut g [t.testBit 0, p.testBit 0, p.testBit 1, p.testBit 2, p.testBit 3]
    m.getD p 0 + d * d
  let v := (List.range 16).map (fun t => min (into t (t / 2)) (into t (t / 2 + 8)))
  let low := v.foldl min (v.headD 0)
  v.map (fun x => x - low)

/-- The largest frequency offset that the loop corrects: 2 % (R173). -/
def freqMax : Int := 1311

/-- The timing loop after a bit: over erased positions and while unlocked it coasts; else the timing error corrects frequency and phase with the
gains of acquisition or tracking (R173, R174). The answer holds the time to the next bit. -/
def loopStep (p : ChainPar) (c : Chain) (erased : Bool) : Chain :=
  if erased then { c with next := c.next + 65536 + c.freq }
  else
    let err := Config.timingError c.zs c.dec
    let acq := decide (c.field < p.acqLen)
    let f := c.freq + err / (2 ^ (if acq then p.acqKf else p.trkKf) : Nat)
    let f := max (-freqMax) (min freqMax f)
    { c with freq := f, next := c.next + 65536 + f + err / (2 ^ (if acq then p.acqKp else p.trkKp) : Nat) }

/-- A tap with its fraction, in 1/2^16 of a step of the register, kept within the register's range (R175). -/
def tapClamp (x : Int) : Int := max (-512 * 65536) (min (512 * 65536 - 1) x)

/-- The LMS step of the taps: MU × 2^−16 times the error, the target's output less the equalised value, times the input (R175). -/
def lmsStep (p : ChainPar) (full : List Int) (c : Chain) (z : Int) : List Int :=
  let e := (8 * Config.signalUnit * targetOut p.target c.dec - z) / 256
  full.mapIdx (fun i w => tapClamp (w + p.mu * e * (c.eq.getD i {}).v))

/-- Whether the sync mark of the sector is still looked for. -/
def Chain.hunting (c : Chain) : Bool := c.phase == .hunt || (c.phase == .resync && c.back == .hunt)

/-- The bit, from the start of a sector, at which its sync mark is expected: after the preamble (R165). -/
def syncExpected : Nat := 192

/-- A written cell of the sector enters the hunt for the sync mark or the codeword; cells beyond those of the part do not (R165, R170). A sync mark
that has passed in the window is noted: codeword positions follow it (R175, R177). -/
def cellBit (p : ChainPar) (c : Chain) (b : ChBit) : Chain :=
  if c.room = 0 then c
  else
    let c := { c with room := c.room - 1 }
    match c.phase with
    | .hunt =>
      let bits := c.bits ++ [b]
      let inWin := decide (syncExpected + 32 ≤ bits.length + p.syncWin ∧ bits.length ≤ syncExpected + 32 + p.syncWin)
      { c with bits := bits, seen := c.seen || (inWin && decide (markDist bits dataMark (bits.length - 32) ≤ p.syncTol)) }
    | .data => if ldpcN ≤ c.n then c
               else { c with code := b.llr :: c.code, n := c.n + 1, bad := c.bad + b2n b.erased, last := b.pos }
    | _ => c

/-- The rest of a resync field once its mark is looked for: the mark within ±8 bits of its place after 64 bits of tone, else the place that the
held timing predicts. The bits after it are cells of the sector again, erasures when the loop was or came to be unlocked and no mark was
found (R174). -/
def resyncEnd (p : ChainPar) (c : Chain) : Chain :=
  let hit := markFind c.rs resyncMark 64 8 p.resyncTol
  let at' := (match hit with
    | some x => x.1
    | none => 64) + 16
  let out := (c.wasOut || c.unlocked) && hit.isNone
  let r := (c.rs.drop at').map (fun b => if out then { b with llr := 0, erased := true } else b)
  r.foldl (cellBit p) { c with phase := c.back, rs := [], unlocked := out, wasOut := false }

/-- A bit out of the detector goes where the chain's phase wants it (R170, R174, R177). -/
def placeBit (p : ChainPar) (c : Chain) (b : ChBit) : Chain :=
  match c.phase with
  | .ended => c
  | .resync =>
    let c := { c with rs := c.rs ++ [b] }
    if c.rs.length = 88 then resyncEnd p c else c
  | _ => cellBit p c b

/-- Whether the bit that comes out next is a codeword or resync position, on which the taps adapt (R175). -/
def Chain.adapts (p : ChainPar) (c : Chain) : Bool :=
  match c.phase with
  | .data => decide (0 < c.room ∧ c.n < ldpcN)
  | .resync => true
  | .hunt => c.seen || decide (syncExpected + 32 + p.syncWin ≤ c.bits.length)
  | .ended => false

/-- One input of the equaliser and the channel bit that comes out, which is that of its main tap, tap 9: the detector, the timing loop, and the
taps' adaptation (R173–R176). An erased position has the ratio 0. A bit that is no part of what is being read changes nothing but the delay
line. -/
def chainIn (p : ChainPar) (x : List Int × Chain) (i : ChIn) : List Int × Chain :=
  let c := { x.2 with eq := (i :: x.2.eq).take 20 }
  let o := c.eq.getD 9 {}
  if !o.mine then (x.1, { c with next := c.next + 65536 + c.freq })
  else
    let erased := o.erased || (c.unlocked && c.phase != .resync)
    let z := (List.zipWith (fun w y => w / 65536 * ChIn.v y) x.1 c.eq).foldl (· + ·) 0
    let m := if erased then c.metrics else viterbi p.target c.metrics z
    let llr := if erased then 0 else (Config.softValue m).toInt
    let coast := if erased then c.coast + 1 else 0
    let c := { c with metrics := m, zs := (z :: c.zs).take 5, dec := (decide (llr < 0) :: c.dec).take 5, coast := coast }
    let full := if !erased && p.mu != 0 && c.adapts p then lmsStep p x.1 c z else x.1
    let c := loopStep p c erased
    let c := { c with field := c.field + 1, unlocked := c.unlocked || decide (8 * p.coastMax < coast) }
    (full, placeBit p c { llr := llr, erased := erased, pos := o.pos })

/-- The interpolator's output at the present instant, which lies between the fourth and the fifth last position (R173). An instant before the
first position of the part belongs to none. -/
def interpolated (c : Chain) : ChIn :=
  let erased := (c.hist.getD 3 none).isNone || (c.hist.getD 4 none).isNone
  let y := Config.interpolate (c.next / 1024).toNat ((List.range 8).map (fun i => (c.hist.getD (7 - i) none).getD 0))
  { v := if erased then 0 else y, erased := erased, pos := c.pos - 4, mine := decide (c.part + 5 ≤ c.pos) }

/-- Up to `f` bits whose instants lie within the present sample. -/
def chainBits (p : ChainPar) : Nat → List Int × Chain → List Int × Chain
  | 0, x => x
  | f + 1, x => if x.2.next < 65536 then chainBits p f (chainIn p x (interpolated x.2)) else x

/-- One position through the chain: none where the sample did not arrive (R137, R173). -/
def chainSample (p : ChainPar) (x : List Int × Chain) (v : Option Int) : List Int × Chain :=
  let y := chainBits p 2 (x.1, { x.2 with hist := (v :: x.2.hist).take 8, pos := x.2.pos + 1 })
  (y.1, { y.2 with next := y.2.next - 65536 })

/-- What still lies in the interpolator and the equaliser comes out at the end of a part: its last four positions and nine inputs. The count of the
sector's samples stays. -/
def chainFlush (p : ChainPar) (x : List Int × Chain) : List Int × Chain :=
  let y := (List.replicate 4 none).foldl (chainSample p) x
  let y := (List.replicate 9 ({} : ChIn)).foldl (fun z i =>
    let u := chainIn p z i
    (u.1, { u.2 with next := z.2.next })) y
  (y.1, { y.2 with pos := x.2.pos })

/-- A head slot's taps with their fractions. -/
def tapsFull (a i : Nat) (s : State) : List Int :=
  (List.range 20).map (fun t => toSigned 10 (s.fld (RCH_EQ_TAPS a i t) F_RCH_EQ_TAPS_TAP) * 65536 + (chain a i s).frac.getD t 0)

/-- A head slot's chain works; the registers show the adapted taps (R175). -/
def chainWork (a i : Nat) (f : List Int × Chain → List Int × Chain) (s : State) : State :=
  let r := f (tapsFull a i s, chain a i s)
  let s := modChain a i (fun _ => { r.2 with frac := r.1.map (fun w => w % 65536) }) s
  each (List.range 20) (fun k t => t.setf (RCH_EQ_TAPS a i k) F_RCH_EQ_TAPS_TAP (ofSigned 10 (r.1.getD k 0 / 65536))) s

/-- Positions pass through a head slot's chain. -/
def chainRun (a i cyl : Nat) (pos : List (Option Int)) (s : State) : State :=
  chainWork a i (fun x => pos.foldl (chainSample (chainPar a i cyl s)) x) s

/-- The lengths of the parts in which a sector's cells are written: the breaks of the format (R170, R209, R244). -/
def sectorParts (a sector : Nat) (s : State) : List Nat := partsOf (zoneU a (zoneNow a s) s) (sector * 36800)

/-- The chain of a head slot begins a sector (R170): its loop keeps its frequency from the sectors before. -/
def chainStart (a i sector : Nat) (s : State) : State :=
  let l := sectorParts a sector s
  modChain a i (fun c => { c with phase := .hunt, bits := [], seen := false, code := [], n := 0, bad := 0, pos := 0, last := 0, field := 0, coast := 0,
                                  unlocked := false, wasOut := false, part := 0, room := l.headD 0, parts := l.drop 1, rs := [] }) s

/-- The cells of a part that never came, at the end of its gate for instance, are erasures (R137). -/
def partFill (p : ChainPar) (c : Chain) : Chain :=
  (List.replicate c.room ({ llr := 0, erased := true, pos := c.pos } : ChBit)).foldl (cellBit p) c

/-- A gate opens again in the middle of a sector, after a split: what was left of the part before comes out, up to the format's break, and a resync
field begins, with phase and frequency held (R170, R174). -/
def chainPart (a i cyl : Nat) (s : State) : State :=
  let c := chain a i s
  if c.phase = .ended ∨ c.parts = [] ∨ c.pos = c.part then s
  else
    let p := chainPar a i cyl s
    let s := chainWork a i (chainFlush p) s
    modChain a i (fun c =>
      let c := if c.phase = .resync then resyncEnd p c else c
      let c := partFill p c
      { c with back := c.phase, phase := .resync, rs := [], field := 0, wasOut := c.unlocked, unlocked := false, part := c.pos,
               room := c.parts.headD 0, parts := c.parts.drop 1 }) s

/-- The codeword begins at bit `p` of the bits searched for the sync mark (R177). -/
def codeBegin (a i p : Nat) (s : State) : State :=
  modChain a i (fun c =>
    let r := c.bits.drop p
    let c := if c.phase = .resync then { c with back := .data } else { c with phase := .data }
    { c with bits := [], code := (r.map ChBit.llr).reverse, n := r.length, bad := (r.filter ChBit.erased).length,
             last := (r.getLast?.map ChBit.pos).getD c.last }) s

/-- The sample position of bit `p` of the bits searched for a mark. -/
def bitPos (a i p : Nat) (s : State) : Nat := (((chain a i s).bits[p]?).map ChBit.pos).getD p

/-! ### Capture (R137, R184) -/

/-- Samples that a retention slot holds at most (R184). -/
def windowMax : Nat := 37449

/-- Samples from position `from'` of the sector on join a retention slot, up to its last one (R184). -/
def capture (from' : Nat) (pos : List (Option Int)) (x : PoolSlot) : PoolSlot :=
  let l := pos.drop (x.base - from')
  let l := match x.stop with
    | some n => l.take (n + 1 - max from' x.base)
    | none => l
  { x with samples := (x.samples ++ l).take windowMax }

/-- The retention slot that captures from a head slot: that of the sector being read, else that of the last one, whose postamble may still
be coming (R184). -/
def captureSlot (a slot : Nat) (s : State) : Option Nat :=
  match readingEnt a slot s with
  | some e => e.pool
  | none => (((fly a s).filter (fun e => e.slot == slot && e.mode != 2 && e.st == .coded)).getLast?).bind FlyEnt.pool

/-- Positions of a read gate are delivered to the chain of the head slot (R137): the sector's retention slot captures them, and the chain works
on them. `part`: the gate has just opened. -/
def deliver (a slot head : Nat) (part : Bool) (pos : List (Option Int)) (erasedBlks : Nat) (s : State) : State :=
  let s := if head < 6 then s.ctrSat (RCH_STAT a (8 * head + 7)) 48 erasedBlks else s
  let from' := (chain a slot s).pos
  let s := match captureSlot a slot s with
    | none => s
    | some p => { s with pool := tmod {} s.pool p (capture from' pos) }
  match readingEnt a slot s with
  | none => modChain a slot (fun c => { c with pos := c.pos + pos.length }) s
  | some e => chainRun a slot e.cyl pos (if part then chainPart a slot e.cyl s else s)

end Sys2Proof.Machine
end

