-- ==== Sys2Proof/Machine/Link.lean ====
section
/-! DEFINITION. The Sloas link (spec/04_sloas_link.md, R131–R164, R541): frames and blocks received, lanes, training, degraded mode,
front-end register accesses and the blocks sent downstream. Upstream payloads arrive descrambled. -/

namespace Sys2Proof.Machine

/-- A field of a 64-bit payload. -/
def q64 (v : BitVec 64) (lo w : Nat) : Nat := v.toNat / 2 ^ lo % 2 ^ w

/-- An upstream lane. -/
def upLane (a i : Nat) (s : State) : UpLane := tget {} s.up (4 * a + i)

/-- Changes an upstream lane. -/
def modUp (a i : Nat) (f : UpLane → UpLane) (s : State) : State := { s with up := tmod {} s.up (4 * a + i) f }

/-! ### Frames (R136–R140) -/

/-- Whether a number of 64 bits has even parity (the sample block's PAR bit included). -/
def evenParity (v : BitVec 64) : Bool := (List.range 64).foldl (fun p i => p != v.toNat.testBit i) false == false

/-- The nine samples of a data block, or the first `n` of them. -/
def blockSamples (v : BitVec 64) (n : Nat) : List (Option Int) := (List.range n).map (fun k => some (toSigned 7 (q64 v (7 * k) 7)))

/-- The positions of a frame's data blocks: a block with a sync error or a parity error is erased (R137). -/
def framePos (nlast : Nat) : List (Bool × BitVec 64) → List (Option Int)
  | [] => []
  | [(ok, v)] => if ok && evenParity v then blockSamples v nlast else List.replicate nlast none
  | (ok, v) :: r => (if ok && evenParity v then blockSamples v 9 else List.replicate 9 none) ++ framePos nlast r

/-- The CRC-32 of a frame, over the payloads of its header and data blocks, least significant byte first. -/
def frameCrc (hdr : BitVec 64) (data : List (Bool × BitVec 64)) : Nat :=
  crc32 (leBytes hdr.toNat 8 ++ data.flatMap (fun d => leBytes d.2.toNat 8))

/-- What the check of a frame finds (R137): the positions of the gap before it, its own positions and erasures, the erased blocks, whether the
frame itself is intact, and the frames missing before it. -/
structure FrameCheck where
  pos    : List (Option Int)
  erased : Nat
  intact : Bool
  crcBad : Bool
  parBad : Nat
  sync   : Nat
  gap    : Nat
  deriving DecidableEq, Repr

/-- The positions missing before a frame (R137): those of frames lost or with a bad CRC, whose own header says nothing that could be trusted, are found
here, from the next good frame. What is missing at the end of a gate the chain fills up (`partFill`). SCNT counts from the opening of the gate: in a
gate whose first frames were lost the gap runs from 0. A count far behind the one expected belongs to a gate that opened in the gap. -/
def frameLost (l : UpLane) (servo : Bool) (hdr : BitVec 64) : Nat :=
  let scnt := q64 hdr 28 24
  if q64 hdr 13 1 = 1 then 0
  else if !l.synced || l.closed || l.servo != servo then scnt
  else
    let d := (scnt + 2 ^ 24 - l.scnt) % 2 ^ 24
    if d < 2 ^ 23 then d else scnt

/-- Checks a frame against the sequence expected on its lane. FE_OVF in the TRAILER erases every position back to the last intact sample of the
lane: the frame's own and the gap before it (R137). A frame whose CRC fails delivers nothing itself: its positions are the gap that SCNT of the next
frame shows (R137). -/
def frameCheck (l : UpLane) (servo : Bool) (hdr : BitVec 64) (data : List (Bool × BitVec 64)) (tail : BitVec 64) : FrameCheck :=
  let crcBad := frameCrc hdr data != q64 tail 16 32 || data.length != q64 hdr 52 6
  let missing := if l.synced && !crcBad then (q64 hdr 16 12 + 4096 - l.fseq) % 4096 else 0
  let lost := if crcBad then 0 else frameLost l servo hdr
  let ovf := q64 tail 12 1 == 1
  let pos := framePos (q64 tail 8 4) data
  let bad := (data.filter (fun d => !(d.1 && evenParity d.2))).length
  let par := (data.filter (fun d => d.1 && !evenParity d.2)).length
  { pos := if crcBad then [] else List.replicate lost none ++ (if ovf then pos.map (fun _ => none) else pos)
    erased := if crcBad then 0 else lost / 9 + (if ovf then data.length else bad)
    intact := !crcBad && !ovf && bad == 0
    crcBad := crcBad, parBad := par, sync := (data.filter (fun d => !d.1)).length
    gap := if missing = 0 ∧ lost ≠ 0 then 1 else missing }

/-- The counters and flags of a received frame, and the sequence expected next (R136, R137, R164). -/
def frameCount (a i : Nat) (servo : Bool) (c : FrameCheck) (hdr tail : BitVec 64) (n : Nat) (s : State) : State :=
  let s := s.incSat (LNK_UP_SYNC_ERR a i) c.sync
  let s := s.incSat (LNK_UP_PAR_ERR a i) c.parBad
  let s := s.incSat (LNK_UP_CRC_ERR a i) (b2n c.crcBad)
  let s := s.incSat (LNK_UP_SEQ_GAP a i) c.gap
  let s := if c.intact then s.ctrWrap (LNK_UP_FRAMES a i) 48 1 else s
  let s := modUp a i (fun l => if c.crcBad then { l with fseq := (l.fseq + 1) % 4096 } else { l with
    synced := true, servo := servo, closed := q64 hdr 14 1 == 1, fseq := (q64 hdr 16 12 + 1) % 4096, scnt := (q64 hdr 28 24 + n) % 2 ^ 24 }) s
  if q64 tail 12 1 = 1 then emit 0x100A (s.flag (LNK_FLAGS a) F_LNK_FLAGS_FE_OVF) else s

/-- SAMPLE_FRAME (R137). -/
def execSampleFrame (a : Act) (lane : Slot) (hdr : BitVec 64) (data : List (Bool × BitVec 64)) (tail : BitVec 64) (s : State) :
    Host.Outcome State Fault Refusal :=
  let k := a.toNat
  let i := lane.toNat
  let c := frameCheck (upLane k i s) false hdr data tail
  let n := 9 * (data.length - 1) + q64 tail 8 4
  let part := q64 hdr 13 1 == 1 || (upLane k i s).closed
  ok (onlyIf ((s.fld (LNK_STATE k) F_LNK_STATE_LOCKED).testBit i) (fun s =>
    let t := frameCount k i false c hdr tail n s
    if c.crcBad then t else deliver k (q64 hdr 8 2) (q64 hdr 10 3) part c.pos c.erased t) s)

/-- The head slot of a servo frame: the one its header names, or, when the CRC fails and the header says nothing that can be trusted, the one whose lane it
came on by the mapping in effect (R137, R138, R155). -/
def frameSlot (a i : Nat) (crcBad : Bool) (hdr : BitVec 64) (s : State) : Nat :=
  if crcBad then ([0, 1, 2, 3].find? (fun j => (slotLanes a j s).any (fun l => l.1 == i))).getD i else q64 hdr 8 2

/-- SERVO_FRAME: one that is not intact counts as a missed wedge for its head (R138). A servo gate fits into one frame (R140), so frames lost
before it are no part of it. -/
def execServoFrame (a : Act) (lane : Slot) (hdr : BitVec 64) (data : List (Bool × BitVec 64)) (tail : BitVec 64) (s : State) :
    Host.Outcome State Fault Refusal :=
  let k := a.toNat
  let i := lane.toNat
  let c := frameCheck (upLane k i s) true hdr data tail
  let n := 9 * (data.length - 1) + q64 tail 8 4
  ok (onlyIf ((s.fld (LNK_STATE k) F_LNK_STATE_LOCKED).testBit i) (fun s =>
    let s := frameCount k i true c hdr tail n s
    if c.intact then s else modAct k (fun x => { x with frameMiss := setBit x.frameMiss (frameSlot k i c.crcBad hdr s) true }) s) s)

/-- INVALID_BLOCK: an invalid sync header or block type (R132, R133). -/
def execInvalidBlock (a : Act) (lane : Slot) (s : State) : Host.Outcome State Fault Refusal :=
  ok (s.incSat (LNK_UP_SYNC_ERR a.toNat lane.toNat) 1)

/-! ### STATUS (R147, R148) -/

/-- A write fault of a head slot (R148). -/
def wfault (a i : Nat) (s : State) : State :=
  let s := s.setf (LNK_FLAGS a) F_LNK_FLAGS_WFAULT (setBit (s.fld (LNK_FLAGS a) F_LNK_FLAGS_WFAULT) i true)
  emit 0x1008 (fenceOff a (2 ^ i) causeWfault s)

/-- The front-end retracts by itself while the actuator is loaded (R147). -/
def feRetract (a : Nat) (inj : Bool) (s : State) : State :=
  actFault a 0x100B a 0 inj (emit 0x100B (s.flag (LNK_FLAGS a) F_LNK_FLAGS_FE_RETRACT))

/-- STATUS: the block is kept in LNK_FE_STATUS, and its fields act (R147, R148, R164, R467). A STATUS block comes every 256 blocks: RETRACTING is
reported once, until a block comes without it (DEDUCED, log 114). -/
def execStatus (a : Act) (v : BitVec 64) (s : State) : Host.Outcome State Fault Refusal :=
  let k := a.toNat
  let lane := q64 v 8 2
  let s := (s.wr (LNK_FE_STATUS0 k) (BitVec.ofNat 32 v.toNat)).wr (LNK_FE_STATUS1 k) (BitVec.ofNat 32 (v.toNat / 2 ^ 32))
  let s := (s.incSat (LNK_DN_SYNC_ERR k lane) (q64 v 24 8)).incSat (LNK_DN_SCMD_CRC k lane) (q64 v 32 8)
  let s := extAdd 6 ((q64 v 10 8 : Int) - 40) s
  let s := each (bitsOf 4 (q64 v 18 4)) (wfault k) s
  let s := if q64 v 22 1 = 1 then modLnk k (fun x => { x with scmdNow := true }) s else s
  let told := (lnk k s).retTold
  let hit := q64 v 23 1 == 1 && loaded k s
  let s := modLnk k (fun x => { x with retTold := q64 v 23 1 == 1 && (told || hit) }) s
  ok (onlyIf (hit && !told) (feRetract k false) s)

/-- Servo command frames lost for 8 wedges (R147). -/
def scmdLostFault (a : Nat) (inj : Bool) (s : State) : State :=
  actFault a 0x1009 a 0 inj (emit 0x1009 (s.flag (LNK_FLAGS a) F_LNK_FLAGS_SCMD_LOST))

/-- SCMD_LOST: STATUS.SCMD_ERR in 8 consecutive wedges (R147). -/
def execScmdLost (a : Act) (s : State) : Host.Outcome State Fault Refusal :=
  let k := a.toNat
  ok (onlyIf (decide (8 ≤ (lnk k s).scmdErr)) (fun s => scmdLostFault k false (modLnk k (fun x => { x with scmdErr := 0 }) s)) s)

/-! ### Front-end register access (R160–R163) -/

/-- The block of an access goes onto the lowest-numbered locked downstream lane with the next TAG, 0 to 14 (R160, R431). -/
def feSend (a : Nat) (acc : FeAcc) (s : State) : State :=
  let t := (lnk a s).tag
  let s := modLnk a (fun x => { x with fe := some { acc with tag := t, held := false }, tag := (t + 1) % 15 }) s
  match (dnLocked a s).head? with
  | none => s
  | some i => modDn a i (fun l => { l with reg := l.reg ++ [fePayload acc.write acc.addr acc.data t] }) s

/-- An access is sent: a write is held while a write gate of the actuator is open (R161). -/
def feBegin (a : Nat) (acc : FeAcc) (s : State) : State :=
  if acc.write && writeGateOpen a s then modLnk a (fun x => { x with fe := some { acc with held := true } }) s else feSend a acc s

/-- An access begins, or waits until the one outstanding ends (R160). -/
def feStart (a : Nat) (acc : FeAcc) (s : State) : State :=
  if (lnk a s).fe.isSome then modLnk a (fun x => { x with feNext := x.feNext ++ [acc] }) s else feBegin a acc s

/-- The access that waits longest begins. -/
def feFollow (a : Nat) (s : State) : State :=
  match (lnk a s).feNext with
  | [] => s
  | acc :: r => feBegin a acc (modLnk a (fun x => { x with feNext := r }) s)

/-- The end of an access with an error code and data (R160, R162): software sees LNK_FE_RESULT, ZONE the error and the rate in force (R234),
the link hardware takes the rate that it reads (R541). -/
def feEnd (a err data : Nat) (s : State) : State :=
  match (lnk a s).fe with
  | none => s
  | some f =>
    let s := modLnk a (fun x => { x with fe := none }) s
    let s := match f.kind with
      | .soft =>
        let s := (s.setf (LNK_FE_RESULT a) F_LNK_FE_RESULT_BUSY 0).setf (LNK_FE_RESULT a) F_LNK_FE_RESULT_DONE 1
        (s.setf (LNK_FE_RESULT a) F_LNK_FE_RESULT_ERR err).setf (LNK_FE_RESULT a) F_LNK_FE_RESULT_DATA data
      | .zone => modLnk a (fun x => { x with feErr := err != 0, rate := (if err = 0 then f.data % 4096 else x.rate) }) s
      | .rate => if err = 0 then modLnk a (fun x => { x with rate := data % 4096 }) s else s
      | .map | .cal => s
    feFollow a s

/-- REG_DATA: a reply with a valid CRC and the TAG of the access outstanding ends it; TAG 15 answers the Gatehouse's retract command; any
other is discarded (R162, R430). -/
def execRegData (a : Act) (v : BitVec 64) (s : State) : Host.Outcome State Fault Refusal :=
  let k := a.toNat
  let good := q64 v 0 8 == 0x3C && crc 8 0x07 0x00 (leBytes v.toNat 7) == q64 v 56 8
  ok (onlyIf good (fun s =>
    if q64 v 36 4 = 15 then
      (if (retr k s).active then modRetr k (fun r => { r with acked := true }) s else s)
    else match (lnk k s).fe with
      | some f => if !f.held && f.tag == q64 v 36 4 then feEnd k (if q64 v 40 1 = 1 then 3 else 0) (q64 v 20 16) s else s
      | none => s) s)

/-- A write of LNK_FE_CMD (R160, R161, R163). -/
def feCmd (a : Nat) (v : W32) (s : State) : State :=
  let busy := s.fld (LNK_FE_RESULT a) F_LNK_FE_RESULT_BUSY == 1
  let write := v.toNat.testBit 30
  let addr := fget v F_LNK_FE_CMD_ADDR
  let put := fun (t : State) => t.wr (LNK_FE_CMD a) (v &&& 0x4FFFFFFF)
  if !v.toNat.testBit 31 then put s
  else if busy then deny s
  else if write && decide (0xF00 ≤ addr) then
    let s := ((put s).setf (LNK_FE_RESULT a) F_LNK_FE_RESULT_DONE 1).setf (LNK_FE_RESULT a) F_LNK_FE_RESULT_ERR 2
    deny s
  else
    let s := (put s).setf (LNK_FE_RESULT a) F_LNK_FE_RESULT_BUSY 1
    feStart a { write := write, addr := addr, data := fget v F_LNK_FE_CMD_DATA, kind := .soft } s

/-- FE_REG_WRITE: LNK_FE_CMD with GO and WRITE (R160, R161, R163). -/
def execFeRegWrite (m : Master) (a : Act) (v : W32) (s : State) : Host.Outcome State Fault Refusal :=
  ok (if mayCmd m && s.domOn a.toNat then feCmd a.toNat (v ||| 0xC0000000) s else if mayCmd m then badAccess s else deny s)

/-- FE_REG_READ: LNK_FE_CMD with GO and without WRITE (R160). -/
def execFeRegRead (m : Master) (a : Act) (v : W32) (s : State) : Host.Outcome State Fault Refusal :=
  ok (if mayCmd m && s.domOn a.toNat then feCmd a.toNat (v &&& 0xBFFFFFFF ||| 0x80000000) s
    else if mayCmd m then badAccess s else deny s)

/-- FE_REG_WRITE_RELEASE: the last write gate of the actuator has closed and a held access goes out (R161). -/
def execFeRegWriteRelease (a : Act) (s : State) : Host.Outcome State Fault Refusal :=
  let k := a.toNat
  ok (match (lnk k s).fe with
    | some f => if f.held && !writeGateOpen k s then feSend k f s else s
    | none => s)

/-- FE_REG_TIMEOUT: no matching reply within 4 µs; once more with the next TAG, a write once no write gate is open (R161), then ERR 1 and 0x1007
(R162); DATA of the result is then 0, for which R162 gives no value (DESIGN CHOICE, log 148). -/
def execFeRegTimeout (a : Act) (s : State) : Host.Outcome State Fault Refusal :=
  let k := a.toNat
  ok (match (lnk k s).fe with
    | none => s
    | some f => if f.held then s else if f.again then emit 0x1007 (feEnd k 1 0 s) else feBegin k { f with again := true } s)

/-! ### Lanes (R150–R159) -/

/-- The lanes of a direction that have not been declared failed (R155, R159). -/
def lanesLeft (a : Nat) (down : Bool) (s : State) : List Nat :=
  bitsOf 4 (15 - s.fld (LNK_STATE a) (if down then F_LNK_STATE_DN_FAILED else F_LNK_STATE_UP_FAILED))

/-- Sets or clears the block lock of a lane. -/
def setLock (a : Nat) (down : Bool) (i : Nat) (b : Bool) (s : State) : State :=
  if down then s.setf (LNK_SKEW a) F_LNK_SKEW_DN_LOCKED (setBit (s.fld (LNK_SKEW a) F_LNK_SKEW_DN_LOCKED) i b)
  else s.setf (LNK_STATE a) F_LNK_STATE_LOCKED (setBit (s.fld (LNK_STATE a) F_LNK_STATE_LOCKED) i b)

/-- Whether a lane has block lock. -/
def lockOf (a : Nat) (down : Bool) (i : Nat) (s : State) : Bool :=
  if down then (s.fld (LNK_SKEW a) F_LNK_SKEW_DN_LOCKED).testBit i else (s.fld (LNK_STATE a) F_LNK_STATE_LOCKED).testBit i

/-- The head slots that a lane carries. -/
def slotsOn (a : Nat) (down : Bool) (i : Nat) (s : State) : Nat :=
  mask4 (fun k => match slotLanes a k s with
    | some (u, d) => decide ((if down then d else u) = i)
    | none => false)

/-- The mapping of head slots 0 and 1 onto the two lowest-numbered lanes not declared failed, as LNK_STATE holds it (R155). -/
def degradedMap (a : Nat) (s : State) : Nat :=
  let u := lanesLeft a false s
  let d := lanesLeft a true s
  u.getD 0 0 + 4 * u.getD 1 0 + 16 * d.getD 0 0 + 64 * d.getD 1 0

/-- The controller writes the front-end's lane map with a mapping of slots 0 and 1; the other fields keep their value (R155, R541). -/
def laneMapWrite (a m : Nat) (s : State) : State :=
  let old := (lnk a s).laneMap
  let new := old / 16 % 16 * 16 + m % 16 + (old / 4096 % 16 * 16 + m / 16 % 16) * 256
  feStart a { write := true, addr := 0xF00, data := new, kind := .map } (modLnk a (fun x => { x with laneMap := new }) s)

/-- The link enters DOWN mode; an actuator that is loaded has an Actuator-class fault (R159). -/
def linkDown (a : Nat) (inj : Bool) (s : State) : State :=
  let s := (s.setf (LNK_STATE a) F_LNK_STATE_MODE 0).flag (LNK_FLAGS a) F_LNK_FLAGS_DOWN
  let s := emit 0x1005 (fenceOff a 15 causeLane s)
  if loaded a s then actFault a 0x1005 a 0 inj s else s

/-- A mapping is declared: from now until it is in effect the fence denies every head (R155, R156). -/
def remapDeclare (a : Nat) (s : State) : State :=
  let m := degradedMap a s
  let s := fenceOff a 15 causeLane s
  let s := modLnk a (fun x => { x with remap := some m }) s
  emit 0x1004 (laneMapWrite a m s)

/-- A lane is declared failed (R152, R155, R157, R159); one that has been stays so until the link is trained again. Whether it carried a slot is judged
by the mapping in effect, not by one declared and not yet in effect (DESIGN CHOICE, log 148). -/
def laneFailed (a : Nat) (down : Bool) (i : Nat) (s : State) : State :=
  let f := if down then F_LNK_STATE_DN_FAILED else F_LNK_STATE_UP_FAILED
  if (s.fld (LNK_STATE a) f).testBit i then s
  else
  let carried := slotsOn a down i s
  let s := setLock a down i false (s.setf (LNK_STATE a) f (setBit (s.fld (LNK_STATE a) f) i true))
  let s := if down then s else modUp a i (fun l => { l with retrain := false, attempts := 0 }) s
  let s := if down then modLnk a (fun x => { x with dnAttempts := tdel i x.dnAttempts }) s else s
  let s := emit 0x1003 (s.flag (LNK_FLAGS a) F_LNK_FLAGS_LANE_FAIL)
  let mode := linkMode a s
  if mode ≠ 2 ∧ mode ≠ 3 then s
  else if (lanesLeft a false s).length < 2 ∨ (lanesLeft a true s).length < 2 then linkDown a false s
  else if mode = 2 then
    let s := notGated a (fun e => decide (2 ≤ e.slot)) ngLane s
    remapDeclare a ((s.setf (LNK_STATE a) F_LNK_STATE_MODE 3).flag (LNK_FLAGS a) F_LNK_FLAGS_DEGRADED)
  else if carried % 4 ≠ 0 then remapDeclare a s
  else s

/-- A retrain attempt of a lane begins; RETRAIN counts it (R152). -/
def retrainStart (a : Nat) (down : Bool) (i : Nat) (s : State) : State :=
  if down then
    let s := s.incSat (LNK_DN_RETRAIN a i) 1
    modLnk a (fun x => { x with dnAttempts := tmod 0 x.dnAttempts i (· + 1) }) s
  else modUp a i (fun l => { l with retrain := true, attempts := l.attempts + 1 }) (s.incSat (LNK_UP_RETRAIN a i) 1)

/-- The attempts of a lane that retrains, 0 when it does not. -/
def attemptsOf (a : Nat) (down : Bool) (i : Nat) (s : State) : Nat :=
  if down then tget 0 (lnk a s).dnAttempts i else (upLane a i s).attempts

/-- A lane is out of lock and retrains: its loss is counted, and the fence denies the heads it carries (R139, R152, R153). -/
def laneLost (a : Nat) (down : Bool) (i : Nat) (s : State) : State :=
  let s := s.incSat (if down then LNK_DN_LOCK_LOSS a i else LNK_UP_LOCK_LOSS a i) 1
  let hit := slotsOn a down i s
  retrainStart a down i (withdraw a hit causeLane (setLock a down i false s))

/-- The losses of block lock of a lane within the last second, the present one included (R152). -/
def lossNote (a : Nat) (down : Bool) (i : Nat) (s : State) : Nat × State :=
  let recent := fun (l : List Nat) => s.sdl.now :: l.filter (fun t => decide (s.sdl.now < t + 1000000000))
  if down then
    let l := recent (tget [] (lnk a s).dnLosses i)
    (l.length, modLnk a (fun x => { x with dnLosses := tput [] x.dnLosses i l }) s)
  else
    let l := recent (upLane a i s).losses
    (l.length, modUp a i (fun x => { x with losses := l }) s)

/-- BLOCK_LOCK_LOST: 16 of 64 headers invalid; the lane retrains by itself, and the sixteenth loss within a second declares it failed
(R152). -/
def execBlockLockLost (a : Act) (down : Bool) (lane : Slot) (s : State) : Host.Outcome State Fault Refusal :=
  let k := a.toNat
  let i := lane.toNat
  ok (onlyIf (lockOf k down i s) (fun s =>
    let s := emit 0x1002 (laneLost k down i s)
    let r := lossNote k down i s
    if 16 ≤ r.1 then laneFailed k down i r.2 else r.2) s)

/-- LANE_QUEUE_OVERFLOW: a deskew or dual-clock queue overflows (R139). -/
def execLaneQueueOverflow (a : Act) (lane : Slot) (s : State) : Host.Outcome State Fault Refusal :=
  ok (onlyIf (lockOf a.toNat false lane.toNat s) (laneLost a.toNat false lane.toNat) s)

/-- RETRAIN_ATTEMPT_END: the lane has locked, or the attempt failed; the third failure declares the lane failed (R152). -/
def execRetrainAttemptEnd (a : Act) (down : Bool) (lane : Slot) (locked : Bool) (s : State) : Host.Outcome State Fault Refusal :=
  let k := a.toNat
  let i := lane.toNat
  let n := attemptsOf k down i s
  ok (onlyIf (decide (0 < n)) (fun s =>
    if locked then
      let s := setLock k down i true s
      if down then modLnk k (fun x => { x with dnAttempts := tdel i x.dnAttempts }) s
      else modUp k i (fun l => { l with retrain := false, attempts := 0 }) s
    else if 3 ≤ n then laneFailed k down i s
    else retrainStart k down i s) s)

/-- ALIGN_BLOCK: the marker of a lane arrives `skew` blocks after the first of its direction; outside the window of 8 blocks the lane
is treated as failed (R151). -/
def execAlignBlock (a : Act) (lane : Slot) (skew : BitVec 8) (s : State) : Host.Outcome State Fault Refusal :=
  let k := a.toNat
  let i := lane.toNat
  ok (onlyIf (linkMode k s != 0) (fun s =>
    if 8 < skew.toNat then laneFailed k false i s
    else s.setf (LNK_SKEW k) ⟨4 * i, 4⟩ skew.toNat) s)

/-! ### Training (R146, R149, R150, R541) -/

/-- Training begins: every lane is to be locked anew, and lanes that had been declared failed are tried again (R149, R152). Register accesses that are
outstanding or wait end as R162 says, by a reply or by their second timeout. -/
def startTraining (a : Nat) (s : State) : State :=
  let s := (s.setf (LNK_STATE a) F_LNK_STATE_MODE 1).setf (LNK_STATE a) F_LNK_STATE_LOCKED 0
  let s := (s.setf (LNK_STATE a) F_LNK_STATE_UP_FAILED 0).setf (LNK_STATE a) F_LNK_STATE_DN_FAILED 0
  let s := s.setf (LNK_SKEW a) F_LNK_SKEW_DN_LOCKED 0
  let s := each [0, 1, 2, 3] (fun i t => modDn a i (fun l => { scr := l.scr, level := l.level }) (modUp a i (fun _ => {}) t)) s
  modLnk a (fun x => { x with remap := none, trainWait := false, dnAttempts := [], dnLosses := [] }) s

/-- TRAIN: LNK_CTL.TRAIN, refused unless the actuator is in PARKED or ISOLATED (R149). -/
def lnkTrain (a : Nat) (s : State) : State := if actState a s = 0 ∨ actState a s = 7 then startTraining a s else deny s

/-- TRAIN (R149). -/
def execTrain (m : Master) (a : Act) (s : State) : Host.Outcome State Fault Refusal :=
  ok (if !mayCmd m then deny s else if s.domOn a.toNat then lnkTrain a.toNat s else badAccess s)

/-- The mapping of a trained link takes effect at once; the lane map is written and the rate in force is read (R155, R541). -/
def trainMap (a m : Nat) (s : State) : State :=
  let s := remapApply a (modLnk a (fun x => { x with remap := some m }) s)
  feStart a { write := false, addr := 0xF04, kind := .rate } (laneMapWrite a m s)

/-- The read of register 0x000 goes out with the next TAG, once more with the TAG after it when its reply did not come in time (R146, R162). -/
def identRead (a reply : Nat) (s : State) : State :=
  let read := fun (t : State) =>
    let g := (lnk a t).tag
    let t := modLnk a (fun x => { x with tag := (g + 1) % 15 }) t
    match (dnLocked a t).head? with
    | none => t
    | some i => modDn a i (fun l => { l with reg := l.reg ++ [fePayload false 0x000 0 g] }) t
  if reply = 1 then read (read s) else read s

/-- The identity read failed: the link stays DOWN (R146). `reply` is 1 when it timed out. -/
def identBad (a reply : Nat) (s : State) : State :=
  let s := (s.setf (LNK_STATE a) F_LNK_STATE_MODE 0).flag (LNK_FLAGS a) F_LNK_FLAGS_FE_ID_BAD
  let s := emit 0x1006 s
  if reply = 1 then emit 0x1007 s else s

/-- The end of training (R150): the lanes with block lock (upstream in bits 0–3, downstream in bits 4–7), the reply of the identity read
(0 a value, 1 a timeout, 2 a NACK), and its value. -/
def endTraining (a locked reply ident : Nat) (s : State) : State :=
  if linkMode a s ≠ 1 then s
  else
    let up := locked % 16 &&& (15 - s.fld (LNK_STATE a) F_LNK_STATE_UP_FAILED)
    let dn := locked / 16 % 16
    let s := (s.setf (LNK_STATE a) F_LNK_STATE_LOCKED up).setf (LNK_SKEW a) F_LNK_SKEW_DN_LOCKED dn
    let s := each (bitsOf 4 (15 - up)) (laneFailed a false) s
    let s := each (bitsOf 4 (15 - dn)) (laneFailed a true) s
    if (bitsOf 4 up).length < 2 ∨ (bitsOf 4 dn).length < 2 then linkDown a false s
    else
    let s := identRead a reply s
    if reply ≠ 0 ∨ ident ≠ 0xB046 then identBad a reply s
    else if up = 15 ∧ dn = 15 then
      let s := modLnk a (fun x => { x with laneMap := 0xE4E4 }) (s.setf (LNK_STATE a) F_LNK_STATE_MODE 2)
      emit 0x1001 (trainMap a 0x44 s)
    else
      let s := (s.setf (LNK_STATE a) F_LNK_STATE_MODE 3).flag (LNK_FLAGS a) F_LNK_FLAGS_DEGRADED
      emit 0x1004 (trainMap a (degradedMap a s) s)

end Sys2Proof.Machine
end

