-- ==== Sys2Proof/Machine/Sector.lean ====
section
/-! DEFINITION. The sector as it stands on the media (spec/05_reading.md, R165–R168): the address word, the internal check, the scrambler,
and sectors in DRAM. -/

namespace Sys2Proof.Machine

/-- The physical address word (R167). -/
def addressWord (a head cyl sector : Nat) : Nat :=
  a / 4 % 16 * 2 ^ 52 + a % 4 * 2 ^ 50 + head % 8 * 2 ^ 47 + cyl % 2 ^ 21 * 2 ^ 26 + sector % 65536 * 2 ^ 10

/-- The 8-byte internal check over the user bytes and the address word: CRC-64 without reflection, initial value and final XOR all ones,
stored most significant byte first (R167). -/
def checkBytes (user : List Byte) (aw : Nat) : List Byte :=
  let c := crc 64 0x42F0E1EBA9EA3693 (2 ^ 64 - 1) (user ++ leBytes aw 8) ^^^ (2 ^ 64 - 1)
  (leBytes c 8).reverse

/-- Eight bits of the sequence x^31 + x^28 + 1 as a byte, most significant bit first, and the register after them. -/
def seqByte : Nat → Nat → Nat → Nat × Nat
  | 0, st, acc => (st, acc)
  | n + 1, st, acc =>
    let b := st.testBit 30
    let st' := (2 * st + b2n (b != st.testBit 27)) % 2 ^ 31
    seqByte n st' (2 * acc + b2n b)

/-- The bytes with the scrambling sequence applied (R168). -/
def scrambleFrom : Nat → List Byte → List Byte
  | _, [] => []
  | st, b :: r => let x := seqByte 8 st 0; (b ^^^ BitVec.ofNat 8 x.2) :: scrambleFrom x.1 r

/-- The scrambler's seed: bits [40:10] of the address word, or 1 (R168). -/
def scrambleSeed (aw : Nat) : Nat := let v := aw / 2 ^ 10 % 2 ^ 31; if v = 0 then 1 else v

/-- Scrambling, which is its own inverse (R168). -/
def scramble (aw : Nat) (l : List Byte) : List Byte := scrambleFrom (scrambleSeed aw) l

/-- The address word of an in-flight entry. -/
def FlyEnt.aw (e : FlyEnt) (a : Nat) : Nat := addressWord a e.head e.cyl e.sector

/-- The DRAM address of an entry's sector (R235). -/
def FlyEnt.addr (e : FlyEnt) : Nat := e.base + e.k * 4096

/-- The user bytes of decoded information bits whose check matches (R180); none when it does not. -/
def decodeInfo (aw : Nat) (info : List Byte) : Option (List Byte) :=
  let l := scramble aw info
  if info.length = 4104 ∧ l.drop 4096 = checkBytes (l.take 4096) aw then some (l.take 4096) else none

/-- A sector of 4,096 bytes is written to DRAM; its granules carry no poison (R296). -/
def sectorWrite (addr : Nat) (l : List Byte) (s : State) : State := s.wrGood addr l

/-- Every granule of a sector's 4,096 bytes is written poisoned (R178, R299). -/
def sectorPoison (addr : Nat) (s : State) : State :=
  if wayOff addr s then badAccess s
  else flipTake addr 4096 (each (List.range 64) (fun g t => t.setPoison (addr + 64 * g) true) s)

/-- Whether any granule of a sector carries poison (R222); a way that is OFF reads 0 (R262). -/
def sectorPoisoned (addr : Nat) (s : State) : Bool := !wayOff addr s && (List.range 64).any (fun g => s.poisoned (addr + 64 * g))

end Sys2Proof.Machine
end

