-- ==== Sys2Proof/Machine/Write.lean ====
section
/-! DEFINITION. Zones and formats, and the write channel (spec/05_reading.md R172; spec/06_writing.md R204–R223; spec/07_track_sequencers.md
R244, R245). -/

namespace Sys2Proof.Machine

/-! ### Zones and formats -/

/-- The number of splits of the sector at stream position p with U cells per area: the ends of areas that its first 36,736 cells cross (R244). -/
def splitsAt (u p : Nat) : Nat := if u = 0 then 0 else (p + 36735) / u - p / u

/-- The most splits of any of `spt` sectors. -/
def maxSplits (u spt : Nat) : Nat := (List.range spt).foldl (fun m i => max m (splitsAt u (i * 36800))) 0

/-- Whether an entry with SPT and DA_CELLS keeps the limits of R245 at a number of wedges per revolution. -/
def fmtLimits (spt cells wedges : Nat) : Bool :=
  spt == 0 || (cells != 0 && decide (spt * 36800 ≤ wedges * (cells - 80)) && decide (maxSplits (cells - 80) spt ≤ 3))

/-- The wedge in whose data area a sector starts, and the cell offset there (R244). -/
def sectorWedge (u i : Nat) : Nat := i * 36800 / u
def sectorOfs (u i : Nat) : Nat := 80 + i * 36800 % u

/-! ### Cells and codes (R208–R214) -/

/-- The tone 0b1100 repeated over n cells. -/
def tone (n : Nat) : List Bool := (List.range n).map (fun i => i % 4 < 2)

/-- The `w` bits of a number, most significant first. -/
def msbBits (w n : Nat) : List Bool := (List.range w).map (fun i => n.testBit (w - 1 - i))

/-- The bits of bytes, each most significant bit first. -/
def byteBits (l : List Byte) : List Bool := l.flatMap (fun b => msbBits 8 b.toNat)

/-- The written cells of a sector: preamble, sync mark, which is the poison mark for poisoned data (R23), information bits, parity bits, postamble
(R165, R166, R208, R222). -/
def sectorCells (t : Shifts) (info : List Byte) (poison : Bool) : List Bool :=
  tone 192 ++ (if poison then poisonMark else dataMark) ++ byteBits info ++ ldpcParity t (byteBits info) ++ tone 32

/-- The cells cut into the parts; every part but the first begins with the resync field and mark (R209). -/
def cutCells : List Nat → List Bool → Bool → List (List Bool)
  | [], _, _ => []
  | n :: r, l, first => ((if first then [] else tone 64 ++ msbBits 16 0xB38E) ++ l.take n) :: cutCells r (l.drop n) false

/-- The length of the run of the first cell's level within the first four cells. -/
def runOf (l : List Bool) : Nat := ((l.take 4).takeWhile (fun b => b == l.headD false)).length

/-- The code of every cell of a data segment part (R212, R214): `prev` is the cell before, none at the start of the segment, and `b` the
length of its run, limited to 4. -/
def cellCodes (code : Nat → Nat) : Option Bool → Nat → List Bool → List (Bool × Nat)
  | _, _, [] => []
  | prev, b, c :: r =>
    let same := prev == some c || prev.isNone
    let pc := if same then 0 else code (16 * b2n c + 4 * (b - 1) + (runOf (c :: r) - 1))
    (c, pc) :: cellCodes code (some c) (if prev == some c then min (b + 1) 4 else 1) r

/-- The precompensation code of an index for a head in a zone (R212, R213). -/
def pctCode (a head z idx : Nat) (s : State) : Nat :=
  let t := (s.rd (WCH_ZONE_PCT a (z / 16))).toNat / 4 ^ (z % 16) % 4
  (s.rd (WCH_PCT a head t (idx / 8))).toNat / 16 ^ (idx % 8) % 16

/-- One block of up to twelve cells, each with whether it is a cell of the sector itself; cells beyond the end hold the last level (R142, R211). -/
def packBlock (id : Nat) (cs : List ((Bool × Nat) × Bool)) : WBlk :=
  let last := (cs.getLastD ((false, 0), false)).1.1
  let full := cs ++ List.replicate (12 - cs.length) ((last, 0), false)
  { id := id, pay := (full.foldr (fun c n => 32 * n + b2n c.1.1 + 2 * c.1.2) 0), cells := (cs.filter (fun c => c.2)).length, last := last }

/-- Blocks of twelve cells, the last one possibly shorter. -/
def packAll (id : Nat) : Nat → List ((Bool × Nat) × Bool) → List WBlk
  | 0, _ => []
  | _, [] => []
  | f + 1, l => packBlock id (l.take 12) :: packAll id f (l.drop 12)

/-- The blocks of a part of a stream and the gap cells that remain for the next sector (R210): `r` gap cells of the sector before it, its own cells,
and the gap of 64 cells when the next sector of the data segment follows. Gap cells hold the level of the last postamble cell with code 0; they
continue the run of that level, so the last transition of the postamble looks across the sector boundary (R212). -/
def packPart (code : Nat → Nat) (id r : Nat) (cont : Bool) (cells : List Bool) (next : Bool) : List WBlk × Option Nat :=
  let own := cells.length
  let gap := if next then List.replicate 64 false else []
  let coded := if cont then cellCodes code (some false) 4 (cells ++ gap) else cellCodes code none 1 (cells ++ gap)
  let l := List.replicate r ((false, 0), false) ++ coded.mapIdx (fun i c => (c, decide (i < own)))
  let keep := if next then l.length % 12 else 0
  (packAll id (l.length / 12 + 1) (l.take (l.length - keep)), if next then some keep else none)

/-- Whether the sectors on both sides of stream position p, with the gap before it, lie in one data segment with U cells per area (R210, R244). -/
def sameSegment (u p : Nat) : Bool := u == 0 || decide (64 ≤ p % u)

/-- The entry whose sector is written right before that of an entry (R210). -/
def entBefore (a : Nat) (e : FlyEnt) (s : State) : Option FlyEnt :=
  (fly a s).find? (fun x => x.slot == e.slot && x.mode == 2 && (x.st == .sending || x.st == .done) && !x.cut && x.sector + 1 == e.sector)

/-- Whether the sector after an entry's is gated to be written right after it (R210). -/
def streamed (a : Nat) (e : FlyEnt) (s : State) : Bool :=
  (fly a s).any (fun x => x.slot == e.slot && x.mode == 2 && !x.cut && (x.st == .queued || x.st == .open || x.st == .sending) && x.sector == e.sector + 1)

/-- The gap cells that the sector before an entry's left over for its first block, where their stream is one (R210). -/
def gapBefore (a : Nat) (e : FlyEnt) (s : State) : Option Nat :=
  if sameSegment (zoneU a (zoneNow a s) s) (e.sector * 36800) then (entBefore a e s).bind FlyEnt.gap else none

/-- The write data blocks of an entry's sector, part by part, and the gap cells left to the next sector; `g`: the gap cells left by the
stream before, if one runs on; `next`: the gap is streamed, as the next
sector of the data segment follows. The first cell follows a gap when the sector before it streamed one (R209, R210, R212, R214). -/
def sectorBlocks (a : Nat) (e : FlyEnt) (g : Option Nat) (next : Bool) (s : State) : List (List WBlk) × Option Nat :=
  let z := zoneNow a s
  let off := (s.fld (WCH_PC_CTL a) F_WCH_PC_CTL_PC_OFF).testBit e.slot
  let code := fun idx => if off then 0 else pctCode a e.head (zoneOf a e.cyl s) idx s
  let parts := cutCells (partsOf (zoneU a z s) (e.sector * 36800)) (sectorCells s.ldpc e.info e.poison) true
  let packed := parts.mapIdx (fun j p =>
    packPart code e.id (if j = 0 then g.getD 0 else 0) (decide (j = 0) && g.isSome) p (next && decide (j + 1 = parts.length)))
  (packed.map Prod.fst, (packed.getLast?.map Prod.snd).getD none)

/-! ### The write channel (R205–R207, R215–R219) -/

/-- FETCH and READY of a head slot follow its entries (WCH_STATE). -/
def wchShow (a i : Nat) (s : State) : State :=
  let l := (fly a s).filter (fun e => e.slot == i && e.mode == 2 && e.st != .done)
  let f := l.any (fun e => e.fetched && !e.ready)
  let r := l.any (fun e => e.ready)
  let s := s.setf (WCH_STATE a) F_WCH_STATE_FETCH (setBit (s.fld (WCH_STATE a) F_WCH_STATE_FETCH) i f)
  s.setf (WCH_STATE a) F_WCH_STATE_READY (setBit (s.fld (WCH_STATE a) F_WCH_STATE_READY) i r)

/-- SECTOR_FETCH: a sector buffer is free and the next sector of the slot is fetched, with its check, scrambled (R204, R205, R222). -/
def execSectorFetch (a : Act) (i : Slot) (s : State) : Host.Outcome State Fault Refusal :=
  let k := a.toNat
  let l := (fly k s).filter (fun e => e.slot == i.toNat && e.mode == 2 && e.st != .done)
  ok (match l.find? (fun e => !e.fetched) with
    | none => s
    | some e =>
      if 3 ≤ (l.filter (fun x => x.fetched)).length then s
      else
        let bad := sectorPoisoned e.addr s
        let user := if bad then List.replicate 4096 0 else s.rdMem e.addr 4096
        let aw := e.aw k
        wchShow k i.toNat (modFly k e.id (fun x => { x with fetched := true, poison := bad,
                                                              info := scramble aw (user ++ checkBytes user aw) }) s))

/-- CODEWORD_ENCODED: the encoder completes the oldest fetched sector (R205). -/
def execCodewordEncoded (a : Act) (i : Slot) (s : State) : Host.Outcome State Fault Refusal :=
  let k := a.toNat
  ok (match (fly k s).find? (fun e => e.slot == i.toNat && e.mode == 2 && e.fetched && !e.ready && e.st != .done) with
    | none => s
    | some e => wchShow k i.toNat (modFly k e.id (fun x => { x with ready := true }) s))

/-- The wedge count that a cut records (R219). -/
def wedgeCount (a : Nat) (s : State) : Nat := (s.rd (SRV_WEDGE_COUNT a)).toNat

/-- The earliest media time in ns of a cell of an entry's sector after its part's sample instant (R215). -/
def firstCellNs (a : Nat) (e : FlyEnt) (s : State) : Nat :=
  let z := zoneNow a s
  let u := zoneU a z s
  let p := e.sector * 36800
  let ds := s.fld (SEQ_FMT0 a z) F_SEQ_FMT0_DA_START_NS
  if u = 0 ∨ splitsAt u p ≠ 0 ∨ zoneRate a z s = 0 then ds else ds + sectorOfs u e.sector * 1000 / zoneRate a z s

/-- Whether a sector's format places a cell earlier than 420 ns plus LEAD after the sample instant (R215). -/
def tooEarly (a : Nat) (e : FlyEnt) (s : State) : Bool :=
  decide (firstCellNs a e s < 420 + s.fld (WCH_TIMING a) F_WCH_TIMING_LEAD)

/-- A sector is not started for lateness (R206, R215). -/
def writeLate (a id : Nat) (s : State) : State :=
  emit 0x2003 (modFly a id (fun e => e.blame causeLate (wedgeCount a s)) (s.flag (WCH_FLAGS a) F_WCH_FLAGS_LATE))

/-- Blocks that carry cells of the sector. -/
def ownBlocks (bl : List WBlk) : Nat := (bl.filter (fun b => decide (0 < b.cells))).length

/-- The sector after an entry's follows in the same data segment: what is still to be sent of the entry's last part is formed with the gap behind it
(R210, R212). -/
def gapJoin (a : Nat) (e : FlyEnt) (s : State) : State :=
  match slotLanes a e.slot s with
  | none => s
  | some (_, d) =>
    let b := sectorBlocks a e e.lead true s
    let all := b.1.getLastD []
    let left := ((tget {} s.dn (4 * a + d)).wblk.filter (fun x => x.id == e.id && decide (0 < x.cells))).length
    let own := ownBlocks all
    let new := all.drop (own - left)
    modFly a e.id (fun x => { x with gap := b.2 }) (modDn a d (fun l =>
      { l with wblk := l.wblk.takeWhile (fun x => x.id != e.id) ++ new ++ (l.wblk.dropWhile (fun x => x.id != e.id)).filter (fun x => x.id != e.id) }) s)

/-- Whether an entry's sector lies before another of the same data segment (R210, R244). -/
def gapDue (a : Nat) (e : FlyEnt) (s : State) : Bool :=
  e.gap.isNone && e.rest.isEmpty && !e.cut && streamed a e s && sameSegment (zoneU a (zoneNow a s) s) ((e.sector + 1) * 36800)

/-- The blocks of a part join their lane's queue. -/
def sendPart (a i : Nat) (bl : List WBlk) (s : State) : State :=
  match slotLanes a i s with
  | some (_, d) => modDn a d (fun l => { l with wblk := l.wblk ++ bl }) s
  | none => s

/-- When a sector's turn comes it is settled whether the one before it and this one are one stream (R210). -/
def gapSettle (a : Nat) (e : FlyEnt) (s : State) : State :=
  match entBefore a e s with
  | some x => if gapDue a x s then gapJoin a x s else s
  | none => s

/-- SECTOR_SEND_START: the send time of the first cell of a part. A sector is started only if its whole codeword is complete, its format places no cell
too early, and the fence permits; otherwise the next one of the slot is judged in its turn (R206, R215, R217). A later part is sent in a data
segment of its own, after a further fence decision has left permission in force (R209). -/
def execSectorSendStart (a : Act) (i : Slot) (s : State) : Host.Outcome State Fault Refusal :=
  let k := a.toNat
  let n := wedgeCount k s
  ok (match (fly k s).find? (fun e => e.slot == i.toNat && e.mode == 2 && !e.cut &&
      (e.st == .open || (e.st == .sending && !e.rest.isEmpty))) with
    | none => s
    | some e =>
      match e.st, e.rest with
      | .sending, bl :: r =>
        if e.partAt = n then s
        else sendPart k i.toNat bl (modFly k e.id (fun x => { x with rest := r, partAt := n }) s)
      | _, _ =>
        if !e.ready || tooEarly k e s then writeLate k e.id s
        else
          let s := gapSettle k e s
          let g := gapBefore k e s
          let b := sectorBlocks k e g false s
          let s := modFly k e.id (fun x => { x with
            st := .sending, lead := g, left := ownBlocks b.1.flatten, rest := b.1.drop 1, partAt := n }) s
          sendPart k i.toNat (b.1.headD []) s)

/-- SERVO_GUARD_CUT: a cell still to be sent would lie beyond the guard before the servo field; its sector is cut (R216). -/
def execServoGuardCut (a : Act) (i : Slot) (s : State) : Host.Outcome State Fault Refusal :=
  let k := a.toNat
  ok (match (fly k s).find? (fun e => e.slot == i.toNat && e.mode == 2 && e.st == .sending && !e.cut && decide (0 < e.left)) with
    | none => s
    | some e => emit 0x2004 (modFly k e.id (fun x => x.blame causeGuard (wedgeCount k s)) (s.flag (WCH_FLAGS k) F_WCH_FLAGS_GUARD)))

/-- The record of a PARTIAL sector (R219). -/
def partialNote (a : Nat) (e : FlyEnt) (s : State) : State :=
  let s := s.wr (WCH_PARTIAL0 a) (BitVec.ofNat 32 (e.cause % 16 * 2 ^ 28 + e.slot % 4 * 2 ^ 24 + e.head % 8 * 2 ^ 21 + e.cyl % 2 ^ 21))
  let s := s.wr (WCH_PARTIAL1 a) (BitVec.ofNat 32 (e.sector % 65536 * 65536 + min e.cells 36800))
  let s := s.wr (WCH_PARTIAL2 a) (BitVec.ofNat 32 e.wedge)
  emit 0x2001 (s.flag (WCH_FLAGS a) F_WCH_FLAGS_PARTIAL)

/-- Counts a statistic of the write channel (R223). -/
def wchStat (a n : Nat) (s : State) : State := s.ctrSat (WCH_STAT a n) 48 1

/-- The gate of a head slot is open while an entry of it is being written with permission (R22). -/
def gateShow (a i : Nat) (s : State) : State :=
  s.setf (WCH_STATE a) F_WCH_STATE_GATE (setBit (s.fld (WCH_STATE a) F_WCH_STATE_GATE) i
    ((fly a s).any (fun e => e.slot == i && e.writing && !e.off)))

/-- The outcome of a write entry (R218, R219, R222). -/
def writeEnd (a : Nat) (e : FlyEnt) (s : State) : State :=
  let h := 4 * e.head
  let written := e.st == .sending && e.left == 0 && !e.cut
  let oc := if written then ocWritten else if 0 < e.cells then ocPartial else ocNotWritten
  let s := wchStat a (h + (oc - 4)) s
  let s := if written ∨ e.cause = 0 then s else wchStat a (23 + e.cause) s
  let s := if oc = ocPartial then partialNote a e s else s
  let s := if written && e.poison then emit 0x2002 (wchStat a (h + 3) (s.flag (WCH_FLAGS a) F_WCH_FLAGS_POISON)) else s
  let s := { s with dn := [0, 1, 2, 3].foldl (fun t i => tmod {} t (4 * a + i) (fun l =>
    { l with wblk := l.wblk.filter (fun b => b.id != e.id) })) s.dn }
  let s := settle a e.id oc (if written then 0 else e.cause) 0 s
  wchShow a e.slot (gateShow a e.slot s)

/-- WRITE_SECTOR_OUTCOME: the media time of the last postamble cell of the slot's oldest sector whose gate was reached (R218). While blocks
of a sector that has permission are still to be sent, that time has not come. -/
def execWriteSectorOutcome (a : Act) (i : Slot) (s : State) : Host.Outcome State Fault Refusal :=
  let k := a.toNat
  ok (match writingEnt k i.toNat s with
    | none => s
    | some e => if e.cut || (e.st == .sending && e.left == 0) then writeEnd k e s else s)

/-! ### Blocks sent downstream (R131–R134, R141–R144) -/

/-- The self-synchronising scrambler x^58 + x^39 + 1 over the bits of a payload, bit 0 first (R132): the scrambled payload and the new
state, whose bit 0 is the bit sent last. -/
def scrambleBits : Nat → Nat → Nat → Nat → Nat × Nat
  | 0, _, st, _ => (0, st)
  | f + 1, v, st, i =>
    let b := (v.testBit i) != (st.testBit 38 != st.testBit 57)
    let r := scrambleBits f v ((2 * st + b2n b) % 2 ^ 58) (i + 1)
    (r.1 + (if b then 2 ^ i else 0), r.2)

/-- A block leaves on a lane with its header: 1 for data, 2 for control (R131, R132). -/
def sendBlock (a i hdr v : Nat) (s : State) : State :=
  modDn a i (fun l =>
    let r := scrambleBits 64 v l.scr 0
    { l with hdr := hdr, sent := r.1, scr := r.2, since := (l.since + 1) % 16384 }) s

/-- The head slot that a downstream lane carries. -/
def slotOfDn (a i : Nat) (s : State) : Option Nat := [0, 1, 2, 3].find? (fun k => match slotLanes a k s with
  | some (_, d) => d == i
  | none => false)

/-- Twelve cells of one level, code 0 (R211). -/
def flatCells (level : Bool) : Nat := if level then (List.range 12).foldl (fun n j => n + 2 ^ (5 * j)) 0 else 0

/-- Stores the WE bit of a head slot. -/
def setWe (a slot : Nat) (b : Bool) (s : State) : State :=
  s.setf (WCH_STATE a) F_WCH_STATE_WE (setBit (s.fld (WCH_STATE a) F_WCH_STATE_WE) slot b)

/-- An uncorrectable error in the sector buffer of a write entry (R207). -/
def bufEcc (a id : Nat) (s : State) : State :=
  emit 0x2005 (modFly a id (fun e => e.blame causeBufEcc (s.rd (SRV_WEDGE_COUNT a)).toNat) (s.flag (WCH_FLAGS a) F_WCH_FLAGS_BUF_ECC))

/-- The next write data block of a lane (R142, R144, R207, R211, R217): with WE = 1 while its sector has permission, otherwise a constant
level with WE = 0. -/
def sendWrite (a i : Nat) (b : WBlk) (rest : List WBlk) (eccBad : Bool) (s : State) : State :=
  let slot := (slotOfDn a i s).getD i
  let l := tget {} s.dn (4 * a + i)
  let cutNow := match flyGet a b.id s with
    | some e => e.cut
    | none => true
  let s := if eccBad && !cutNow then bufEcc a b.id s else s
  let we := !cutNow && !eccBad
  let pay := (if we then b.pay else flatCells l.level) + l.bseq * 2 ^ 60 + b2n we * 2 ^ 63
  let s := modDn a i (fun x => { x with wblk := rest, bseq := (x.bseq + 1) % 8, level := (if we then b.last else x.level) }) s
  let s := modFly a b.id (fun e => { e with left := e.left - (if b.cells = 0 then 0 else 1), cells := (if we then e.cells + b.cells else e.cells) }) s
  sendBlock a i 1 pay (setWe a slot we s)

/-- Before one of the last two blocks of a sector leaves it is settled whether the next sector follows it in one stream (R210, R212). -/
def gapSoon (a : Nat) (b : WBlk) (s : State) : State :=
  match flyGet a b.id s with
  | some e => if e.left ≤ 2 ∧ 0 < b.cells ∧ gapDue a e s then gapJoin a e s else s
  | none => s

/-- The block of one downstream slot: the first of the kinds of R141 that is waiting; TRAIN in training (R149). The retract write of the
Gatehouse takes the place of WRITE_OFF, behind one that waits (R430). ALIGN falls due in every 16,384th block slot of each lane (R134), in
training as well, where the front-end needs it for its deskew. -/
def blockSlot (a i : Nat) (eccBad : Bool) (s : State) : State :=
  let s := modDn a i (fun x => { x with align := x.align || x.since == 16383 }) s
  let l := tget {} s.dn (4 * a + i)
  let off := tget 0 s.wOff (4 * a + i)
  let sendAlign := fun t => modDn a i (fun x => { x with align := false }) (sendBlock a i 2 0x7E t)
  if linkMode a s = 1 then (if l.align then sendAlign s else sendBlock a i 2 0x55 s)
  else if off ≠ 0 then sendBlock a i 2 (0x78 + off % 16 * 2 ^ 8) { s with wOff := tdel (4 * a + i) s.wOff }
  else match l.ret with
    | p :: r => sendBlock a i 2 p (modDn a i (fun x => { x with ret := r }) s)
    | [] => match l.scmd with
      | p :: r => sendBlock a i (if r.length = 1 then 1 else 2) p (modDn a i (fun x => { x with scmd := r }) s)
      | [] =>
        if l.align then sendAlign s
        else match l.wblk with
          | b :: _ =>
            let s := gapSoon a b s
            match (tget {} s.dn (4 * a + i)).wblk with
            | b :: r => sendWrite a i b r eccBad s
            | [] => s
          | [] => match l.reg with
            | p :: r => sendBlock a i 2 p (modDn a i (fun x => { x with reg := r }) s)
            | [] => sendBlock a i 2 0x1E s

/-- DOWNSTREAM_BLOCK_SLOT (R141). `eccBad`: the word read out for a write block has an uncorrectable error (R207). -/
def execDownstreamBlockSlot (a : Act) (lane : Slot) (eccBad : Bool) (s : State) : Host.Outcome State Fault Refusal :=
  ok (onlyIf (s.domOn a.toNat) (blockSlot a.toNat lane.toNat eccBad) s)

end Sys2Proof.Machine
end

