-- ==== Sys2Proof/Machine/Sequencer.lean ====
section
/-! DEFINITION. Track sequencers (spec/07_track_sequencers.md, R225–R255): microwords, waits, gates, operations, results, faults. A microword
command says which word executes; the model keeps the machine that words act on. -/

namespace Sys2Proof.Machine

/-! ### State of a sequencer -/

/-- SEQ_STATE.STATE: 1 IDLE, 2 RUNNING, 3 WAITING, 4 STALLED, 5 HALTED, 6 LOADING. -/
def seqState (a : Nat) (s : State) : Nat := s.fld (SEQ_STATE a) F_SEQ_STATE_STATE

/-- Stores SEQ_STATE.STATE. -/
def setSeqState (a n : Nat) (s : State) : State := s.setf (SEQ_STATE a) F_SEQ_STATE_STATE n

/-- The word executing or last executed. -/
def seqPc (a : Nat) (s : State) : Nat := s.fld (SEQ_STATE a) F_SEQ_STATE_PC

/-- Whether the word executing is one of the Allotment. -/
def inAllot (a : Nat) (s : State) : Bool := decide (6144 ≤ seqPc a s)

/-- A general register; g0 reads 0. -/
def gGet (a : Nat) (r : BitVec 5) (s : State) : W32 := if r = 0 then 0 else tget 0 (seq a s).g r.toNat

/-- A write of a general register; writes to g0 are ignored. -/
def gPut (a r : Nat) (v : W32) (s : State) : State :=
  if r = 0 then s else modSeq a (fun q => { q with g := tput 0 q.g r v }) s

/-- The sequencer goes on at an address after the present word. -/
def goTo (a n : Nat) (s : State) : State := modSeq a (fun q => { q with npc := n % 8192 }) s

/-- The running operation's descriptor slot. -/
def runSlot (a : Nat) (s : State) : Option Nat :=
  if s.fld (SEQ_SLOTS a) F_SEQ_SLOTS_RUN_VALID = 1 then some (s.fld (SEQ_SLOTS a) F_SEQ_SLOTS_RUN_SLOT) else none

/-- Whether a descriptor slot is busy: queued, suspended or running. -/
def slotBusy (a d : Nat) (s : State) : Bool := (s.fld (SEQ_SLOTS a) F_SEQ_SLOTS_BUSY).testBit d

/-- A field of a descriptor word. -/
def descW (a d w : Nat) (s : State) : Nat := (s.rd (SEQ_DESC a d w)).toNat
def descKind (a d : Nat) (s : State) : Nat := descW a d 0 s % 16
def descClass (a d : Nat) (s : State) : Nat := descW a d 0 s / 16 % 4
def descTag (a d : Nat) (s : State) : Nat := descW a d 0 s / 65536 % 2048
def descCyl (a d : Nat) (s : State) : Nat := descW a d 1 s % 2 ^ 21
def descLimit (a d : Nat) (s : State) : Nat := descW a d 6 s % 65536
def descBase (a d : Nat) (s : State) : Nat := descW a d 4 s + descW a d 5 s % 65536 * 2 ^ 32

/-- The sequencer is free of its operation: RUN_VALID 0, the slot no longer busy. -/
def slotFree (a d : Nat) (s : State) : State :=
  let s := s.setf (SEQ_SLOTS a) F_SEQ_SLOTS_BUSY (setBit (s.fld (SEQ_SLOTS a) F_SEQ_SLOTS_BUSY) d false)
  let s := if runSlot a s = some d then
      (s.setf (SEQ_SLOTS a) F_SEQ_SLOTS_RUN_VALID 0).setf (SEQ_SLOTS a) F_SEQ_SLOTS_RUN_SLOT 0 else s
  modSeq a (fun q => { q with ops := q.ops.filter (fun o => o.slot != d) }) s

/-! ### Results (R241–R243) -/

/-- Changes the operation of a slot. -/
def modOp (a d : Nat) (f : SeqOp → SeqOp) (s : State) : State :=
  modSeq a (fun q => { q with ops := q.ops.map (fun o => if o.slot = d then f o else o) }) s

/-- A SECTOR record has been posted during the running operation (R253); in the reports at its end it is the oldest of those due (R241). -/
def recPosted (a typ : Nat) (s : State) : State :=
  match runSlot a s with
  | some d =>
    let rep := match (seq a s).phase with
      | .records _ => true
      | _ => false
    if typ = 2 then modOp a d (fun o => { o with posted := o.posted + 1, exc := if rep then o.exc.drop 1 else o.exc }) s else s
  | none => s

/-- A record enters the result queue. -/
def resPost (a : Nat) (w0 w1 : W32) (s : State) : State :=
  let s := if (seq a s).res.isEmpty then s.flag (SEQ_EVENTS a) F_SEQ_EVENTS_RESULT else s
  let s := modSeq a (fun q => { q with res := q.res ++ [(w0, w1)] }) s
  s.setf (SEQ_RES_COUNT a) F_SEQ_RES_COUNT_COUNT (seq a s).res.length

/-- Word 0 of a record. -/
def resW0 (typ tag field : Nat) : W32 := BitVec.ofNat 32 (typ % 16 * 2 ^ 28 + tag % 2048 * 2 ^ 16 + field % 65536)

/-- Word 1 of a DONE record. -/
def doneW1 (code : Nat) (trunc reset : Bool) (slot count : Nat) : W32 :=
  BitVec.ofNat 32 (code % 256 * 2 ^ 24 + b2n trunc * 2 ^ 21 + b2n reset * 2 ^ 20 + slot % 16 * 2 ^ 16 + count % 65536)

/-- The number of busy descriptor slots. -/
def busyCount (a : Nat) (s : State) : Nat := (bitsOf 16 (s.fld (SEQ_SLOTS a) F_SEQ_SLOTS_BUSY)).length

/-- Whether a POST finds room: more free records than busy descriptor slots (R243). -/
def resRoom (a : Nat) (s : State) : Bool := decide (busyCount a s + (seq a s).res.length < 256)

/-- DONE for the operation of a slot, whose slot is freed (R241). -/
def opDone (a d status code : Nat) (trunc reset : Bool) (count : Nat) (s : State) : State :=
  slotFree a d (resPost a (resW0 1 (descTag a d s) (status % 16)) (doneW1 code trunc reset d count) s)

/-! ### Starting, halting, faults (R225, R249, R251, R252) -/

/-- Execution starts at word 0 (R225). -/
def seqStart (a : Nat) (s : State) : State :=
  let s := modSeq a (fun q => { q with g := [], stack := [], tmo := 20000, block := .none, allot := none, wdog := 0, npc := 0, phase := .dispatch }) s
  setSeqState a 2 (s.setf (SEQ_STATE a) F_SEQ_STATE_PC 0)

/-- The halt itself: gates not yet opened come back NOT_GATED with cause FLUSH (R249). -/
def seqStop (a : Nat) (s : State) : State :=
  setSeqState a 5 (modSeq a (fun q => { q with block := .none, allot := none }) (notGated a (fun _ => true) ngFlush s))

/-- SEQ_CTL.HALT (R251). -/
def seqHalt (a : Nat) (s : State) : State :=
  if seqState a s = 5 ∨ seqState a s = 6 then s
  else emit 0x3002 ((seqStop a s).flag (SEQ_EVENTS a) F_SEQ_EVENTS_HALTED)

/-- An entry of the operation of slot `d`, which has ended, whose outcome is not decided. -/
def FlyEnt.kill (d : Nat) (e : FlyEnt) : FlyEnt := if e.st = .done ∨ e.op ≠ d then e else { e with dead := true }

/-- A sequencer fault with the cause of a bit of SEQ_FAULT (R252): the running operation ends with DONE FAULT and its open entries are
discarded when they end; a Notice-class record with the cause's bit number. -/
def seqFault (a : Nat) (cause : Fld) (s : State) : State :=
  let s := (s.setf (SEQ_FAULT a) F_SEQ_FAULT_FAULT_PC (seqPc a s)).flag (SEQ_FAULT a) cause
  let s := seqStop a s
  let s := match runSlot a s with
    | some d =>
      let s := modSeq a (fun q => { q with fly := q.fly.map (FlyEnt.kill d) }) s
      opDone a d 4 0 false false 0 s
    | none => s
  lodge .notice 0x3003 a cause.lo false (emit 0x3003 (s.flag (SEQ_EVENTS a) F_SEQ_EVENTS_FAULT))

/-! ### Executing a word (R229, R230) -/

/-- A word executes in a running sequencer whose domain is on: it takes one cycle, PC shows it and the next word follows it, modulo 8,192. -/
def uword (a : Nat) (f : State → State) (s : State) : State :=
  if s.domOn a && seqState a s == 2 && (seq a s).block == .none then
    let n := (seq a s).npc
    let s := (s.incWrap (SEQ_CYCLES a) 1).incWrap (SEQ_BUSY a) 1
    f (goTo a (n + 1) (s.setf (SEQ_STATE a) F_SEQ_STATE_PC n))
  else s

/-- A word whose effect is a new value of gA computed from gA and gB (R227). -/
def ualu (a : Act) (ra rb : BitVec 5) (f : W32 → W32 → W32) (s : State) : State :=
  uword a.toNat (fun t => gPut a.toNat ra.toNat (f (gGet a.toNat ra t) (gGet a.toNat rb t)) t) s

/-- A branch, CALL or JMP to an address, under its condition: IMM[15:13] not 0 is ILLEGAL; from the Allotment a resident target outside 0
to 63 is a fault with cause ALLOT, whether the branch is taken or not (R227, R254). -/
def ctlWord (a : Nat) (imm : BitVec 16) (f : Nat → State → State) (s : State) : State :=
  uword a (fun t =>
    if imm.toNat ≥ 8192 then seqFault a F_SEQ_FAULT_ILLEGAL t
    else if inAllot a t ∧ 63 < imm.toNat ∧ imm.toNat < 6144 then seqFault a F_SEQ_FAULT_ALLOT t
    else f imm.toNat t) s

/-- A conditional branch on gA and gB (R227). -/
def ubranch (a : Act) (ra rb : BitVec 5) (imm : BitVec 16) (c : W32 → W32 → Bool) (s : State) : State :=
  ctlWord a.toNat imm (fun n t => if c (gGet a.toNat ra t) (gGet a.toNat rb t) then goTo a.toNat n t else t) s

/-- An immediate, zero-extended and sign-extended. -/
def immZ (imm : BitVec 16) : W32 := imm.zeroExtend 32
def immS (imm : BitVec 16) : W32 := imm.signExtend 32

/-- A mask of w ones at bit p; bits at 32 and above are dropped (INSF, EXTF). -/
def fieldMask (p w : Nat) : W32 := BitVec.ofNat 32 ((2 ^ w - 1) * 2 ^ p)
def fieldP (imm : BitVec 16) : Nat := imm.toNat % 32
def fieldW (imm : BitVec 16) : Nat := imm.toNat / 32 % 32 + 1

/-- INSF (R227). -/
def insf (imm : BitVec 16) (x y : W32) : W32 :=
  let m := fieldMask (fieldP imm) (fieldW imm)
  (x &&& ~~~m) ||| ((y <<< fieldP imm) &&& m)

/-- EXTF (R227). -/
def extf (imm : BitVec 16) (y : W32) : W32 := (y >>> fieldP imm) &&& fieldMask 0 (fieldW imm)

/-- NOP (R227). -/
def execUwNop (a : Act) (s : State) : Host.Outcome State Fault Refusal := ok (uword a.toNat id s)
/-- LDI (R227). -/
def execUwLdi (a : Act) (ra : BitVec 5) (imm : BitVec 16) (s : State) : Host.Outcome State Fault Refusal :=
  ok (ualu a ra 0 (fun _ _ => immZ imm) s)
/-- LUI (R227). -/
def execUwLui (a : Act) (ra : BitVec 5) (imm : BitVec 16) (s : State) : Host.Outcome State Fault Refusal :=
  ok (ualu a ra 0 (fun x _ => (immZ imm <<< 16) ||| (x &&& 0xFFFF)) s)
/-- MOV (R227). -/
def execUwMov (a : Act) (ra rb : BitVec 5) (s : State) : Host.Outcome State Fault Refusal := ok (ualu a ra rb (fun _ y => y) s)
/-- ADD (R227). -/
def execUwAdd (a : Act) (ra rb : BitVec 5) (s : State) : Host.Outcome State Fault Refusal := ok (ualu a ra rb (fun x y => x + y) s)
/-- ADDI (R227). -/
def execUwAddi (a : Act) (ra : BitVec 5) (imm : BitVec 16) (s : State) : Host.Outcome State Fault Refusal :=
  ok (ualu a ra 0 (fun x _ => x + immS imm) s)
/-- SUB (R227). -/
def execUwSub (a : Act) (ra rb : BitVec 5) (s : State) : Host.Outcome State Fault Refusal := ok (ualu a ra rb (fun x y => x - y) s)
/-- AND (R227). -/
def execUwAnd (a : Act) (ra rb : BitVec 5) (s : State) : Host.Outcome State Fault Refusal := ok (ualu a ra rb (fun x y => x &&& y) s)
/-- ANDI (R227). -/
def execUwAndi (a : Act) (ra : BitVec 5) (imm : BitVec 16) (s : State) : Host.Outcome State Fault Refusal :=
  ok (ualu a ra 0 (fun x _ => x &&& immZ imm) s)
/-- OR (R227). -/
def execUwOr (a : Act) (ra rb : BitVec 5) (s : State) : Host.Outcome State Fault Refusal := ok (ualu a ra rb (fun x y => x ||| y) s)
/-- ORI (R227). -/
def execUwOri (a : Act) (ra : BitVec 5) (imm : BitVec 16) (s : State) : Host.Outcome State Fault Refusal :=
  ok (ualu a ra 0 (fun x _ => x ||| immZ imm) s)
/-- XOR (R227). -/
def execUwXor (a : Act) (ra rb : BitVec 5) (s : State) : Host.Outcome State Fault Refusal := ok (ualu a ra rb (fun x y => x ^^^ y) s)
/-- SHLI (R227). -/
def execUwShli (a : Act) (ra : BitVec 5) (imm : BitVec 16) (s : State) : Host.Outcome State Fault Refusal :=
  ok (ualu a ra 0 (fun x _ => x <<< fieldP imm) s)
/-- SHRI (R227). -/
def execUwShri (a : Act) (ra : BitVec 5) (imm : BitVec 16) (s : State) : Host.Outcome State Fault Refusal :=
  ok (ualu a ra 0 (fun x _ => x >>> fieldP imm) s)
/-- INSF (R227). -/
def execUwInsf (a : Act) (ra rb : BitVec 5) (imm : BitVec 16) (s : State) : Host.Outcome State Fault Refusal :=
  ok (ualu a ra rb (insf imm) s)
/-- EXTF (R227). -/
def execUwExtf (a : Act) (ra rb : BitVec 5) (imm : BitVec 16) (s : State) : Host.Outcome State Fault Refusal :=
  ok (ualu a ra rb (fun _ y => extf imm y) s)
/-- BEQ (R227). -/
def execUwBeq (a : Act) (ra rb : BitVec 5) (imm : BitVec 16) (s : State) : Host.Outcome State Fault Refusal :=
  ok (ubranch a ra rb imm (fun x y => x == y) s)
/-- BNE (R227). -/
def execUwBne (a : Act) (ra rb : BitVec 5) (imm : BitVec 16) (s : State) : Host.Outcome State Fault Refusal :=
  ok (ubranch a ra rb imm (fun x y => x != y) s)
/-- BLTU (R227). -/
def execUwBltu (a : Act) (ra rb : BitVec 5) (imm : BitVec 16) (s : State) : Host.Outcome State Fault Refusal :=
  ok (ubranch a ra rb imm (fun x y => decide (x.toNat < y.toNat)) s)
/-- BGEU (R227). -/
def execUwBgeu (a : Act) (ra rb : BitVec 5) (imm : BitVec 16) (s : State) : Host.Outcome State Fault Refusal :=
  ok (ubranch a ra rb imm (fun x y => decide (y.toNat ≤ x.toNat)) s)
/-- BBS (R227). -/
def execUwBbs (a : Act) (ra n : BitVec 5) (imm : BitVec 16) (s : State) : Host.Outcome State Fault Refusal :=
  ok (ubranch a ra 0 imm (fun x _ => x.toNat.testBit n.toNat) s)
/-- BBC (R227). -/
def execUwBbc (a : Act) (ra n : BitVec 5) (imm : BitVec 16) (s : State) : Host.Outcome State Fault Refusal :=
  ok (ubranch a ra 0 imm (fun x _ => !x.toNat.testBit n.toNat) s)
/-- JMP (R227). -/
def execUwJmp (a : Act) (imm : BitVec 16) (s : State) : Host.Outcome State Fault Refusal := ok (ctlWord a.toNat imm (goTo a.toNat) s)

/-- CALL: a ninth push is a fault (R228). A resident word that calls a word of the Allotment enters it (R253); a CALL of word 8 inside it
starts the watchdog anew (R255). -/
def seqCall (a n : Nat) (s : State) : State :=
  let q := seq a s
  if q.stack.length ≥ 8 then seqFault a F_SEQ_FAULT_STACK s
  else
    let s := modSeq a (fun q => { q with stack := q.npc :: q.stack }) s
    let s := if !inAllot a s && decide (6144 ≤ n) && q.allot.isNone then
        modSeq a (fun q => { q with allot := some q.stack.length, wdog := 0 }) s
      else if q.allot.isSome && n == 8 then modSeq a (fun q => { q with wdog := 0 }) s else s
    goTo a n s

/-- CALL (R227, R228). -/
def execUwCall (a : Act) (imm : BitVec 16) (s : State) : Host.Outcome State Fault Refusal := ok (ctlWord a.toNat imm (seqCall a.toNat) s)

/-- RET (R227, R228): the matching return of the entry leaves the Allotment, with its code in g1 (R253); another return from a word of the
Allotment to a resident word is a fault (R254). -/
def seqRet (a : Nat) (s : State) : State :=
  let q := seq a s
  match q.stack with
  | [] => seqFault a F_SEQ_FAULT_STACK s
  | n :: r =>
    let leave := decide (q.allot = some q.stack.length)
    if inAllot a s && !leave && decide (n < 6144) then seqFault a F_SEQ_FAULT_ALLOT s
    else
      let s := if leave then modSeq a (fun q => { q with allot := none, wdog := 0, allotCode := (gGet a 1 s).toNat % 256 }) s else s
      goTo a n (modSeq a (fun q => { q with stack := r }) s)

/-- RET (R227, R228). -/
def execUwRet (a : Act) (imm : BitVec 16) (s : State) : Host.Outcome State Fault Refusal :=
  ok (uword a.toNat (fun t => if imm.toNat ≥ 8192 then seqFault a.toNat F_SEQ_FAULT_ILLEGAL t else seqRet a.toNat t) s)

/-! ### Scratch memory, descriptors, ports -/

/-- The scratch word that gB + IMM names. -/
def scratchIx (a : Nat) (rb : BitVec 5) (imm : BitVec 16) (s : State) : Nat := (gGet a rb s + immZ imm).toNat % 1024

/-- LD (R227). -/
def execUwLd (a : Act) (ra rb : BitVec 5) (imm : BitVec 16) (s : State) : Host.Outcome State Fault Refusal :=
  ok (uword a.toNat (fun t => gPut a.toNat ra.toNat (t.rd (SEQ_SCRATCH a.toNat (scratchIx a.toNat rb imm t))) t) s)

/-- ST: from the Allotment, words 0 to 767 are a fault (R227, R254). -/
def execUwSt (a : Act) (ra rb : BitVec 5) (imm : BitVec 16) (s : State) : Host.Outcome State Fault Refusal :=
  ok (uword a.toNat (fun t =>
    let i := scratchIx a.toNat rb imm t
    if inAllot a.toNat t ∧ i < 768 then seqFault a.toNat F_SEQ_FAULT_ALLOT t
    else t.wr (SEQ_SCRATCH a.toNat i) (gGet a.toNat ra t)) s)

/-- A value the spec does not state goes to a register. -/
def gFree (a r : Nat) (s : State) : State := gPut a r (BitVec.ofNat 32 s.fresh.1) s.fresh.2

/-- LDD: with no running operation the value is not stated (R227). -/
def execUwLdd (a : Act) (ra : BitVec 5) (imm : BitVec 16) (s : State) : Host.Outcome State Fault Refusal :=
  ok (uword a.toNat (fun t => match runSlot a.toNat t with
    | some d => gPut a.toNat ra.toNat (t.rd (SEQ_DESC a.toNat d (imm.toNat % 16))) t
    | none => gFree a.toNat ra.toNat t) s)

/-- STD: words 12 to 15 only (R227, R228). -/
def execUwStd (a : Act) (ra : BitVec 5) (imm : BitVec 16) (s : State) : Host.Outcome State Fault Refusal :=
  ok (uword a.toNat (fun t =>
    if imm.toNat % 16 < 12 then seqFault a.toNat F_SEQ_FAULT_BOUND t
    else match runSlot a.toNat t with
      | some d => t.wr (SEQ_DESC a.toNat d (imm.toNat % 16)) (gGet a.toNat ra t)
      | none => t) s)

/-- The entries of a slot that hold a place of its gate queue (R247). -/
def gateDepth (a i : Nat) (s : State) : Nat := ((fly a s).filter (fun e => e.slot == i && e.inQ)).length

/-- The in-flight entries in use (R247). -/
def inflight (a : Nat) (s : State) : Nat := ((fly a s).filter (fun e => !e.taken)).length

/-- Whether an operation of a class is queued or suspended (R238). -/
def classQueued (a c : Nat) (s : State) : Bool := (seq a s).ops.any (fun o => o.cls == c && runSlot a s != some o.slot)

/-- The lowest sector that starts in a wedge's data area or later; 0 when none does. -/
def fmtFirst (u spt w : Nat) : Nat :=
  let i := (w * u + 36799) / 36800
  if i < spt then i else 0

/-- The value of a port; 0 for one not in the table (R231), none where the zone's format gives no value. -/
def portRead (a p : Nat) (s : State) : Option Nat :=
  let h := hdaOf a
  let q := seq a s
  let u := zoneU a (zoneNow a s) s
  let i := q.fmtSec.toNat
  match p with
  | 0x00 => some (s.fld (SRV_STATUS h) F_SRV_STATUS_INDEX)
  | 0x01 => some (s.fld (SRV_WEDGE h) F_SRV_WEDGE_WEDGES)
  | 0x02 => some (s.rd (SRV_ACT_STATE a)).toNat
  | 0x03 => some (s.rd (LNK_STATE a)).toNat
  | 0x05 => if u = 0 then none else some (sectorWedge u i)
  | 0x06 => if u = 0 then none else some (sectorOfs u i)
  | 0x07 => if u = 0 then none else some (splitsAt u (i * 36800))
  | 0x09 => some (fmtFirst u (zoneSpt a (zoneNow a s) s) q.fmtFirstW.toNat)
  | 0x0A => some (zoneSpt a (zoneNow a s) s)
  | 0x0B => some (mask4 (fun c => classQueued a c s))
  | 0x0C => some q.tmo
  | 0x0D => some (inflight a s + 256 * (gateDepth a 0 s + 16 * (gateDepth a 1 s + 16 * (gateDepth a 2 s + 16 * gateDepth a 3 s))))
  | 0x0E => some (s.rd (SEQ_CYCLES a)).toNat
  | _ => some 0

/-- RDP (R227, R231). -/
def execUwRdp (a : Act) (ra : BitVec 5) (imm : BitVec 16) (s : State) : Host.Outcome State Fault Refusal :=
  ok (uword a.toNat (fun t => match portRead a.toNat (imm.toNat % 256) t with
    | some v => gPut a.toNat ra.toNat (BitVec.ofNat 32 v) t
    | none => gFree a.toNat ra.toNat t) s)

/-- A write of a port; one not in the table is ignored, and so is a TMO outside its range (R231). -/
def portWrite (a p : Nat) (v : W32) (s : State) : State :=
  match p with
  | 0x04 => modSeq a (fun q => { q with fmtSec := v }) s
  | 0x08 => modSeq a (fun q => { q with fmtFirstW := v }) s
  | 0x0C => if 1 ≤ v.toNat ∧ v.toNat ≤ 65535 then modSeq a (fun q => { q with tmo := v.toNat }) s else s
  | 0x10 => (s.wr (SEQ_USER a) v).flag (SEQ_EVENTS a) F_SEQ_EVENTS_USER
  | _ => s

/-- WRP: from the Allotment only TMO, FMT_SEC, FMT_FIRSTW and USER_IRQ (R227, R254). -/
def execUwWrp (a : Act) (ra : BitVec 5) (imm : BitVec 16) (s : State) : Host.Outcome State Fault Refusal :=
  ok (uword a.toNat (fun t =>
    let p := imm.toNat % 256
    if inAllot a.toNat t && !(p == 0x0C || p == 0x04 || p == 0x08 || p == 0x10) then seqFault a.toNat F_SEQ_FAULT_ALLOT t
    else portWrite a.toNat p (gGet a.toNat ra t) t) s)

/-! ### Waits (R230, R232) -/

/-- The sequencer resumes after an occupation with a result in a register. -/
def seqResume (a dst : Nat) (v : W32) (s : State) : State :=
  gPut a dst v (setSeqState a 2 (modSeq a (fun q => { q with block := .none }) s))

/-- WAIT begins: IDLE for an operation, WAITING otherwise; WAIT OP is for resident words only. -/
def execUwWait (a : Act) (ra rb : BitVec 5) (imm : BitVec 16) (s : State) : Host.Outcome State Fault Refusal :=
  ok (uword a.toNat (fun t =>
    let k := a.toNat
    let ev := imm.toNat % 256
    if ev = 5 ∧ inAllot k t then seqFault k F_SEQ_FAULT_ALLOT t
    else
      let b : SeqBlock := .wait ev (gGet k rb t).toNat ra.toNat (t.rd (SEQ_CYCLES k)).toNat (t.rd (SRV_WEDGE_COUNT k)).toNat
      setSeqState k (if ev = 5 then 1 else 3) (modSeq k (fun q => { q with block := b }) t)) s)

/-- The oldest outcome word is removed with its in-flight entry (R247, R250); 0 when none is ready. An entry whose sector is still passing keeps
its gate queue place. -/
def outTake (a : Nat) (s : State) : W32 × State :=
  match (seq a s).outq with
  | [] => (0, s)
  | i :: r =>
    let w := match flyGet a i s with
      | some e => e.word
      | none => 0
    (w, modSeq a (fun q =>
      let l := q.fly.map (fun e => if e.id = i then { e with taken := true } else e)
      { q with outq := r, fly := l.filter (fun e => e.id != i || e.inQ) }) s)

/-- OUTQ (R227). -/
def execUwOutq (a : Act) (ra : BitVec 5) (s : State) : Host.Outcome State Fault Refusal :=
  ok (uword a.toNat (fun t => let r := outTake a.toNat t; gPut a.toNat ra.toNat r.1 r.2) s)

/-- The result of an awaited event that has completed, with the state after it; none while it has not (R232). A number that is no event
of the table never completes. -/
def waitResult (a ev arg cyc wedge : Nat) (s : State) : Option (W32 × State) :=
  let h := hdaOf a
  let q := seq a s
  let st := actState a s
  match ev with
  | 1 =>
    let i := s.fld (SRV_STATUS h) F_SRV_STATUS_INDEX
    if (s.rd (SRV_WEDGE_COUNT a)).toNat ≠ wedge ∧ i = arg % s.fld (SRV_WEDGE h) F_SRV_WEDGE_WEDGES then
      some (BitVec.ofNat 32 ((act a s).fence % 16 * 2 ^ 20 + actMask a F_SRV_ACT_STATE_MISS s * 2 ^ 16 + i), s)
    else none
  | 2 =>
    let rs := s.fld (SRV_ACT_STATE a) F_SRV_ACT_STATE_READ_SETTLED
    if q.seekRefused ∨ q.seekReplaced ∨ rs = 1 ∨ !moving a s then
      some (BitVec.ofNat 32 (b2n q.seekReplaced * 64 + b2n q.seekRefused * 32 + rs * 16 + st), s)
    else none
  | 3 => if q.outq.isEmpty then none else some (outTake a s)
  | 4 => if ((s.rd (SEQ_CYCLES a)).toNat + 2 ^ 32 - cyc) % 2 ^ 32 ≥ arg then some (0, s) else none
  | 5 => if [0, 1, 2, 3].any (fun c => classQueued a c s) then some (0, s) else none
  | 6 => if q.fly.isEmpty then some (0, s) else none
  | _ => none

/-- WAIT_END: the awaited event completes and its result is written to gA (R232). -/
def execWaitEnd (a : Act) (s : State) : Host.Outcome State Fault Refusal :=
  ok (match (seq a.toNat s).block with
    | .wait ev arg dst cyc wedge =>
      match waitResult a.toNat ev arg cyc wedge s with
      | some r => seqResume a.toNat dst r.1 r.2
      | none => s
    | _ => s)

/-- WAIT_TIMEOUT: the limit of port TMO runs out (R230). -/
def execWaitTimeout (a : Act) (s : State) : Host.Outcome State Fault Refusal :=
  ok (match (seq a.toNat s).block with
    | .wait _ _ dst _ _ => seqResume a.toNat dst 0x80000000 s
    | .gate _ _ => seqFault a.toNat F_SEQ_FAULT_STALL s
    | .post _ _ _ => seqFault a.toNat F_SEQ_FAULT_STALL s
    | _ => s)

/-! ### Gates (R246–R248) -/

/-- Whether the running operation's kind allows a gate mode (R543). -/
def modeAllowed (kind mode : Nat) : Bool :=
  match kind with
  | 1 => mode == 0 || mode == 1
  | 2 => mode == 2
  | 3 => mode == 1
  | 4 => false
  | _ => decide (8 ≤ kind) && (mode == 0 || mode == 1)

/-- Whether there is a place on a slot's gate queue and an in-flight entry (R247). -/
def gateRoom (a i : Nat) (s : State) : Bool := decide (gateDepth a i s < 4 ∧ inflight a s < 64)

/-- An entry is placed on the gate queue of its slot (R247). -/
def gatePlace (a : Nat) (w : W32) (k : Nat) (s : State) : State :=
  let d := (runSlot a s).getD 0
  let slot := w.toNat / 2 ^ 28 % 4
  let x := act a s
  let e : FlyEnt := { id := (seq a s).nextId, slot := slot, mode := w.toNat / 2 ^ 30, reread := w.toNat / 2 ^ 24 % 16, sector := w.toNat % 65536, k := k,
                      op := d, cls := descClass a d s, tag := descTag a d s, cyl := x.target, head := x.heads.getD slot 0, base := descBase a d s }
  modSeq a (fun q => { q with fly := q.fly ++ [e], nextId := q.nextId + 1 }) s

/-- Why a GATE is a fault (R246, R254, R543): its bounds are judged first, then its mode. -/
def gateBad (a : Nat) (w : W32) (k : Nat) (s : State) : Option Fld :=
  let mode := w.toNat / 2 ^ 30
  match runSlot a s with
  | none => some F_SEQ_FAULT_BOUND
  | some d =>
    if mode = 3 ∨ w.toNat % 65536 ≥ zoneSpt a (zoneNow a s) s ∨ (mode ≠ 1 ∧ k ≥ descLimit a d s) then some F_SEQ_FAULT_BOUND
    else if modeAllowed (descKind a d s) mode then none
    else if inAllot a s then some F_SEQ_FAULT_ALLOT else some F_SEQ_FAULT_BOUND

/-- GATE (R246, R247); the logical index is gB[15:0] in the outcome word and is compared whole with LIMIT. -/
def seqGate (a : Nat) (w : W32) (k : Nat) (s : State) : State :=
  match gateBad a w k s with
  | some f => seqFault a f s
  | none =>
    if gateRoom a (w.toNat / 2 ^ 28 % 4) s then gatePlace a w k s
    else setSeqState a 4 (modSeq a (fun q => { q with block := .gate w k }) s)

/-- GATE (R246, R247). -/
def execUwGate (a : Act) (ra rb : BitVec 5) (s : State) : Host.Outcome State Fault Refusal :=
  ok (uword a.toNat (fun t => seqGate a.toNat (gGet a.toNat ra t) (gGet a.toNat rb t).toNat t) s)

/-- GATE_STALL_END: a stalled GATE or POST finds room and completes (R230, R243, R247). -/
def execGateStallEnd (a : Act) (s : State) : Host.Outcome State Fault Refusal :=
  let k := a.toNat
  ok (match (seq k s).block with
    | .gate w n => if gateRoom k (w.toNat / 2 ^ 28 % 4) s then seqResume k 0 0 (gatePlace k w n s) else s
    | .post t w1 f =>
      if resRoom k s then seqResume k 0 0 (recPosted k t (resPost k (resW0 t (descTag k ((runSlot k s).getD 0) s) f) w1 s)) else s
    | _ => s)

/-- Why a head slot has no permission at a gate's opening (R542): the first cause since the last fence decision, else what denies it now. -/
def denyCause (a i : Nat) (s : State) : Nat :=
  let c := l4 0 (act a s).offCause i
  if c ≠ 0 then c else (fenceDenies a i s).getD causeFence

/-- GATE_ENTRY_OPEN: the sector's start passes for the entry at the head of a slot's queue (R248). A write opens its gate only where the
fence permits (R22, R217). -/
def execGateEntryOpen (a : Act) (i : Slot) (s : State) : Host.Outcome State Fault Refusal :=
  let k := a.toNat
  ok (match (fly k s).find? (fun e => e.slot == i.toNat && e.inQ && e.st == .queued) with
    | none => s
    | some e =>
      if e.mode = 2 then
        let s := modFly k e.id (fun x => { x with st := .open }) s
        let out := !(actMask k F_SRV_ACT_STATE_IN_STRIPE s).testBit i.toNat
        let s := if (act k s).fence.testBit i.toNat then s
          else modFly k e.id (fun x => { x.blame (denyCause k i.toNat s) (wedgeCount k s) with off := true, outAt := out }) s
        gateShow k i.toNat s
      else if !(actMask k F_SRV_ACT_STATE_IN_STRIPE s).testBit i.toNat then settle k e.id ocNotGated ngOut 0 s
      else if actState k s ≠ 4 ∨ s.fld (SRV_ACT_STATE k) F_SRV_ACT_STATE_READ_SETTLED = 0 then settle k e.id ocNotGated ngState 0 s
      else modFly k e.id (fun x => { x with st := .open }) s)

/-! ### Seeks and zones (R233, R234) -/

/-- The sequencer's seek request (R233): REFUSED and REPLACED of WAIT SETTLED are those of this request, so one of its own that it replaces
leaves no mark (R232). -/
def seqSeek (a : Nat) (w0 w1 : W32) (s : State) : State :=
  modSeq a (fun q => { q with seekReplaced := false }) (seekRequest a w0 w1 true (modSeq a (fun q => { q with seekRefused := false }) s))

/-- SEEK (R233): its result is observed through WAIT SETTLED. -/
def execUwSeek (a : Act) (ra rb : BitVec 5) (s : State) : Host.Outcome State Fault Refusal :=
  ok (uword a.toNat (fun t => seqSeek a.toNat (gGet a.toNat ra t) (gGet a.toNat rb t) t) s)

/-- Whether the SEQ_FMT entry of a zone is valid at the present number of wedges (R234). -/
def fmtValid (a z : Nat) (s : State) : Bool :=
  decide (0 < zoneSpt a z s) &&
    fmtLimits (zoneSpt a z s) (s.fld (SEQ_FMT1 a z) F_SEQ_FMT1_DA_CELLS) (s.fld (SRV_WEDGE (hdaOf a)) F_SRV_WEDGE_WEDGES)

/-- Whether no gate of an actuator is open and every gate queue is empty (R234). -/
def gatesClear (a : Nat) (s : State) : Bool :=
  (fly a s).all (fun e => !e.inQ && !(e.st == .open || e.st == .filling || e.st == .sending || e.st == .queued))

/-- ZONE ends with its status (R234). -/
def zoneEnd (a dst z : Nat) (err : Bool) (s : State) : State :=
  seqResume a dst (BitVec.ofNat 32 (b2n (err || !fmtValid a z s) * 2 ^ 31 + z)) s

/-- ZONE goes on as far as it can: it waits for the gates, selects the zone, and writes the rate when it differs from the one in force,
once no software access is outstanding (R160, R234). -/
def zoneRun (a dst cyl : Nat) (sent : Bool) (s : State) : State :=
  let z := zoneOf a cyl s
  if sent then
    match (lnk a s).fe with
    | some f => if f.kind == .zone then s else zoneEnd a dst z (lnk a s).feErr s
    | none => zoneEnd a dst z (lnk a s).feErr s
  else if !gatesClear a s then s
  else
    let s := modSeq a (fun q => { q with zone := some z }) s
    let r := zoneRate a z s
    if r = (lnk a s).rate then zoneEnd a dst z false s
    else if (lnk a s).fe.isSome then s
    else
      let s := modSeq a (fun q => { q with block := .zone dst cyl true }) s
      feSend a { write := true, addr := 0xF04, data := r, kind := .zone }
        (modLnk a (fun x => { x with feErr := false }) s)

/-- ZONE (R234). -/
def execUwZone (a : Act) (ra rb : BitVec 5) (s : State) : Host.Outcome State Fault Refusal :=
  ok (uword a.toNat (fun t =>
    let k := a.toNat
    let cyl := (gGet k rb t).toNat
    zoneRun k ra.toNat cyl false (setSeqState k 3 (modSeq k (fun q => { q with block := .zone ra.toNat cyl false }) t))) s)

/-- ZONE_COMPLETE: the gates have drained, or the reply of the rate write has arrived (R234). -/
def execZoneComplete (a : Act) (s : State) : Host.Outcome State Fault Refusal :=
  ok (match (seq a.toNat s).block with
    | .zone dst cyl sent => zoneRun a.toNat dst cyl sent s
    | _ => s)

/-! ### Operations (R236–R243) -/

/-- POST (R243): the record's TAG is that of the running operation, not stated without one; a stall emits 0x3007 once. -/
def seqPostRec (a typ : Nat) (w1 : W32) (field : Nat) (s : State) : State :=
  if !resRoom a s then emit 0x3007 (setSeqState a 4 (modSeq a (fun q => { q with block := .post typ w1 field }) s))
  else match runSlot a s with
    | some d => recPosted a typ (resPost a (resW0 typ (descTag a d s) field) w1 s)
    | none => resPost a (resW0 typ s.fresh.1 field) w1 s.fresh.2

/-- POST: the Allotment posts USER records only (R227, R243, R254). -/
def execUwPost (a : Act) (ra rb : BitVec 5) (imm : BitVec 16) (s : State) : Host.Outcome State Fault Refusal :=
  ok (uword a.toNat (fun t =>
    let typ := imm.toNat % 4
    if inAllot a.toNat t ∧ typ ≠ 3 then seqFault a.toNat F_SEQ_FAULT_ALLOT t
    else seqPostRec a.toNat typ (gGet a.toNat ra t) ((gGet a.toNat rb t).toNat % 65536) t) s)

/-- The operation dispatched next: the most urgent class, and within it the order of posting; the running one keeps its place (R238). -/
def nextOp (ops : List SeqOp) : Option SeqOp :=
  ops.foldl (fun b o => match b with
    | none => some o
    | some x => if o.cls < x.cls then some o else some x) none

/-- NEXT (R238). -/
def seqNext (a r : Nat) (s : State) : State :=
  match nextOp (seq a s).ops with
  | none => gPut a r 0xFFFFFFFF s
  | some o =>
    let s := (s.setf (SEQ_SLOTS a) F_SEQ_SLOTS_RUN_VALID 1).setf (SEQ_SLOTS a) F_SEQ_SLOTS_RUN_SLOT o.slot
    gPut a r (BitVec.ofNat 32 o.slot)
      (modSeq a (fun q => { q with phase := .dispatch, ops := q.ops.map (fun x => if x.slot = o.slot then { x with ran := true } else x) }) s)

/-- NEXT: resident words only (R238, R254). -/
def execUwNext (a : Act) (ra : BitVec 5) (s : State) : Host.Outcome State Fault Refusal :=
  ok (uword a.toNat (fun t => if inAllot a.toNat t then seqFault a.toNat F_SEQ_FAULT_ALLOT t else seqNext a.toNat ra.toNat t) s)

/-- DONE: ends the running operation (R241, R242, R253). -/
def seqDone (a status count : Nat) (s : State) : State :=
  match runSlot a s with
  | none => s
  | some d =>
    let s := opDone a d status (if status = 5 then (seq a s).allotCode else 0) false false count s
    if status = 2 then emit 0x3008 s else s

/-- DONE: resident words only (R241, R254). -/
def execUwDone (a : Act) (ra rb : BitVec 5) (s : State) : Host.Outcome State Fault Refusal :=
  ok (uword a.toNat (fun t =>
    if inAllot a.toNat t then seqFault a.toNat F_SEQ_FAULT_ALLOT t
    else seqDone a.toNat ((gGet a.toNat ra t).toNat % 16) ((gGet a.toNat rb t).toNat % 65536) t) s)

/-- TRAP (R227). -/
def execUwTrap (a : Act) (imm : BitVec 16) (s : State) : Host.Outcome State Fault Refusal :=
  ok (uword a.toNat (fun t => seqFault a.toNat F_SEQ_FAULT_TRAP (t.setf (SEQ_FAULT a.toNat) F_SEQ_FAULT_TRAP_CODE (imm.toNat % 256))) s)

/-- Whether a microword is illegal: an opcode that is not in the table, or a control word with IMM[15:13] not 0 (R227). -/
def wordIllegal (w : W32) : Bool :=
  let op := w.toNat / 2 ^ 26
  (decide (0x27 ≤ op) && op != 0x3F) || (decide (0x10 ≤ op ∧ op ≤ 0x18) && decide (w.toNat / 2 ^ 13 % 8 ≠ 0))

/-- ILLEGAL (R227): a word that is legal is the command of its own row. -/
def execUwIllegal (a : Act) (w : W32) (s : State) : Host.Outcome State Fault Refusal :=
  ok (if wordIllegal w then uword a.toNat (seqFault a.toNat F_SEQ_FAULT_ILLEGAL) s else s)

/-- ALLOT_WATCHDOG (R255). -/
def execAllotWatchdog (a : Act) (s : State) : Host.Outcome State Fault Refusal :=
  let k := a.toNat
  ok (if (seq k s).allot.isSome && decide (s.fld (SEQ_ALLOT k) F_SEQ_ALLOT_MAX_WEDGES < (seq k s).wdog) then
      emit 0x3004 (seqFault k F_SEQ_FAULT_WDOG s) else s)

/-- STORE_ECC_ERROR: a correctable error is corrected and written back; an uncorrectable one is a fault in every state (R226). -/
def execStoreEccError (a : Act) (corrected : Bool) (s : State) : Host.Outcome State Fault Refusal :=
  let k := a.toNat
  ok (if corrected || !s.domOn k then s else seqFault k F_SEQ_FAULT_STORE_ECC s)

/-! ### Posting and cancelling (R236, R242) -/

/-- Whether a buffer lies within rank 0 or within the cache ways (R236); a LIMIT of 0 assigns none. -/
def bufferOk (base limit : Nat) : Bool :=
  limit == 0 || decide (0x1000000000 ≤ base ∧ base + limit * 4096 ≤ 0x2000000000) ||
    decide (0x2000000000 ≤ base ∧ base + limit * 4096 ≤ 0x3000000000)

/-- Whether a kind may be posted (R236). -/
def kindOk (a k : Nat) (s : State) : Bool :=
  if 8 ≤ k then
    (s.fld (SEQ_ALLOT a) F_SEQ_ALLOT_ENTRY_VALID).testBit (k - 8) && (s.fld (SEQ_ALLOT a) F_SEQ_ALLOT_KIND_EN).testBit (k - 8)
  else decide (1 ≤ k ∧ k ≤ 4)

/-- Whether the sectors of an operation lie on the track and in its buffer (R236); a stripe with no valid slot carries none, and its seek is
refused later. -/
def countOk (a d : Nat) (s : State) : Bool :=
  let w := (bitsOf 4 (stripeOf (s.rd (SEQ_DESC a d 2)))).length
  let start := descW a d 3 s % 65536
  let count := descW a d 3 s / 65536
  (w == 0 || decide (start + (count + w - 1) / w ≤ zoneSpt a (zoneOf a (descCyl a d s) s) s)) && decide (count ≤ descLimit a d s)

/-- Whether a post is accepted (R236). -/
def postOk (a d : Nat) (s : State) : Bool :=
  let k := descKind a d s
  !slotBusy a d s && kindOk a k s && (decide (3 < k) || countOk a d s) && bufferOk (descBase a d s) (descLimit a d s) &&
    seqState a s != 5 && s.fld (SEQ_STATE a) F_SEQ_STATE_RELOAD_PENDING == 0

/-- A post of a descriptor slot (R236). -/
def postSlot (a d : Nat) (s : State) : State :=
  if postOk a d s then
    let s := s.setf (SEQ_SLOTS a) F_SEQ_SLOTS_BUSY (setBit (s.fld (SEQ_SLOTS a) F_SEQ_SLOTS_BUSY) d true)
    modSeq a (fun q => { q with ops := q.ops ++ [{ slot := d, cls := descClass a d s }] }) s
  else emit 0x3001 (deny (s.flag (SEQ_EVENTS a) F_SEQ_EVENTS_POST_REFUSED))

/-- A write of SEQ_POST. -/
def seqPostWrite (a : Nat) (v : W32) (s : State) : State :=
  let s := s.setf (SEQ_POST a) F_SEQ_POST_SLOT (v.toNat % 16)
  if v.toNat.testBit 8 then postSlot a (v.toNat % 16) s else s

/-- A cancel of a descriptor slot (R242): an operation that has never run ends at once, one that has run is marked for the resident
microcode. A slot that holds none is left. -/
def cancelSlot (a d : Nat) (s : State) : State :=
  match (seq a s).ops.find? (fun o => o.slot == d) with
  | none => s
  | some o =>
    if o.ran then modSeq a (fun q => { q with ops := q.ops.map (fun x => if x.slot = d then { x with cancel := true } else x) }) s
    else emit 0x3008 (opDone a d 2 0 false false 0 s)

/-- A write of SEQ_CANCEL. -/
def seqCancelWrite (a : Nat) (v : W32) (s : State) : State :=
  let s := s.setf (SEQ_CANCEL a) F_SEQ_CANCEL_SLOT (v.toNat % 16)
  if v.toNat.testBit 8 then cancelSlot a (v.toNat % 16) s else s

/-- A write of a descriptor word: refused while the slot is busy, without an event (R236). -/
def descWrite (a d w : Nat) (v : W32) (s : State) : State :=
  if slotBusy a d s then deny (s.flag (SEQ_EVENTS a) F_SEQ_EVENTS_POST_REFUSED) else s.wr (SEQ_DESC a d w) v

/-- A write of SEQ_CTL (R225, R251, R257): of several bits the halt comes first, and a reload is accepted in HALTED only. -/
def seqCtl (a : Nat) (v : W32) (s : State) : State :=
  let s := if v.toNat.testBit 1 then seqHalt a s else s
  if v.toNat.testBit 2 then (if seqState a s = 5 then setSeqState a 6 s else deny s)
  else if v.toNat.testBit 0 && seqState a s == 5 then seqStart a s else s

/-- A register of an actuator's blocks is written: by a master that may, in a domain that is on (R6, R27, R37). -/
def actWrite (m : Master) (a : Nat) (f : State → State) (s : State) : State :=
  if !mayCmd m then deny s else if s.domOn a then f s else badAccess s

/-- SEQ_POST: written with GO (R236). -/
def execSeqPost (m : Master) (a : Act) (v : W32) (s : State) : Host.Outcome State Fault Refusal :=
  ok (actWrite m a.toNat (seqPostWrite a.toNat (v ||| 0x100)) s)
/-- SEQ_CANCEL: written with GO (R242). -/
def execSeqCancel (m : Master) (a : Act) (v : W32) (s : State) : Host.Outcome State Fault Refusal :=
  ok (actWrite m a.toNat (seqCancelWrite a.toNat (v ||| 0x100)) s)
/-- SEQ_RUN (R225, R251). -/
def execSeqRun (m : Master) (a : Act) (s : State) : Host.Outcome State Fault Refusal := ok (actWrite m a.toNat (seqCtl a.toNat 1) s)
/-- SEQ_HALT (R251). -/
def execSeqHalt (m : Master) (a : Act) (s : State) : Host.Outcome State Fault Refusal := ok (actWrite m a.toNat (seqCtl a.toNat 2) s)
/-- SEQ_RELOAD (R257). -/
def execSeqReload (m : Master) (a : Act) (s : State) : Host.Outcome State Fault Refusal := ok (actWrite m a.toNat (seqCtl a.toNat 4) s)

/-- A read of SEQ_RES0 removes the oldest record; SEQ_RES1 then holds its word 1 (SEQ_RES0, SEQ_RES1). -/
def resRead (a : Nat) (s : State) : State :=
  match (seq a s).res with
  | [] => { s.wr (SEQ_RES1 a) 0 with rdata := 0 }
  | (w0, w1) :: r =>
    let s := modSeq a (fun q => { q with res := r }) (s.wr (SEQ_RES1 a) w1)
    { s.setf (SEQ_RES_COUNT a) F_SEQ_RES_COUNT_COUNT r.length with rdata := w0 }

/-- RESULT_RECORD_READ (R242); in a domain that is off the read is a bad access (R37). -/
def execResultRecordRead (m : Master) (a : Act) (s : State) : Host.Outcome State Fault Refusal :=
  ok (if m.toNat = 9 then { s with rdata := 0 } else if s.domOn a.toNat then resRead a.toNat s else { badAccess s with rdata := 0 })

/-- A write of a word of a SEQ_FMT entry, judged on the entry after it (R245, R259). A field outside its stated range keeps its value and
the write counts as refused. -/
def fmtWrite (a z : Nat) (hi : Bool) (v : W32) (s : State) : State :=
  let ds := fget v F_SEQ_FMT0_DA_START_NS
  let dc := fget v F_SEQ_FMT1_DA_CELLS
  let badDs := !hi && decide (ds < 200 ∨ 4000 < ds)
  let badDc := hi && decide (dc ≠ 0 ∧ dc < 4096)
  let spt := if hi then zoneSpt a z s else fget v F_SEQ_FMT0_SPT
  let cells := if hi && !badDc then dc else s.fld (SEQ_FMT1 a z) F_SEQ_FMT1_DA_CELLS
  let queued := (fly a s).any (fun e => e.inQ)
  if queued || !fmtLimits spt cells (s.fld (SRV_WEDGE (hdaOf a)) F_SRV_WEDGE_WEDGES) then deny s
  else
    let s := if badDs || badDc then deny s else s
    if hi then s.setf (SEQ_FMT1 a z) F_SEQ_FMT1_DA_CELLS cells
    else
      let s := s.setf (SEQ_FMT0 a z) F_SEQ_FMT0_SPT spt
      if badDs then s else s.setf (SEQ_FMT0 a z) F_SEQ_FMT0_DA_START_NS ds

/-- SEQ_FMT_WRITE (R245). -/
def execSeqFmtWrite (m : Master) (a : Act) (z : BitVec 5) (hi : Bool) (v : W32) (s : State) : Host.Outcome State Fault Refusal :=
  ok (actWrite m a.toNat (fmtWrite a.toNat z.toNat hi v) s)

end Sys2Proof.Machine
end

