-- ==== Sys2Proof/Machine/Nvs.lean ====
section
/-! DEFINITION. The NV store (spec/11_nonvolatile_store.md): direct commands, the read window, the parameter area and the commit engine. -/

namespace Sys2Proof.Machine

/-! ### Direct commands (R391, R397–R408) -/

/-- Whether a commit works on the main bank (R417). -/
def commitRuns (s : State) : Bool :=
  match s.nvs.commit with
  | some c => c.2.1 != 2
  | none => false

/-- A direct command ends with a result. -/
def nvEnd (r : Nat) (s : State) : State :=
  nvBusyShow ((s.flag NVS_STATUS F_NVS_STATUS_DONE).setf NVS_STATUS F_NVS_STATUS_RESULT r)

/-- Whether a master's direct commands reach a sector: those of cores the spare ones, and any the factory ones while the Potting Shed is open with scope
FACTORY (R391). -/
def nvOpen (m : Master) (n : Nat) (s : State) : Bool :=
  decide (m.toNat < 8 ∧ 108 ≤ n ∧ n < 120) || (decide (104 ≤ n ∧ n < 108) && (s.fld SEC_SHED F_SEC_SHED_SCOPE).testBit 3)

/-- A direct command aimed at a sector that is not open to it (R391). -/
def nvProtected (s : State) : State := deny (nvEnd 3 (s.flag NVS_ERR F_NVS_ERR_PROTECTED))

/-- The data of NVS_DATA0 to NVS_DATA7. -/
def nvData (s : State) : List Byte := wordBytes ((List.range 8).map (fun i => s.rd (NVS_DATA i)))

/-- PROGRAM (R391, R397–R399). -/
def nvProgram (m : Master) (off : Nat) (s : State) : State :=
  let n := nvSector off
  if !nvOpen m n s then nvProtected s
  else if off % 32 ≠ 0 then nvEnd 6 s
  else if nvIndet n s then nvEnd 2 (indetProg s)
  else if !nvBlank s off 32 then emit 0x9002 (nvEnd 1 (s.flag NVS_ERR F_NVS_ERR_NOT_BLANK))
  else nvBusyShow (modNvs (fun x => { x with prog := some (off, nvData s) }) s)

/-- ERASE (R391, R401, R407): one erase to a bank, a commit's among them (R408). -/
def nvEraseCmd (m : Master) (off : Nat) (s : State) : State :=
  let n := nvSector off
  if !nvOpen m n s then nvProtected s
  else if (bankErase (bankOf n) s).isSome || commitRuns s then nvEnd 4 s
  else eraseStart n true s

/-- SUSPEND: a running erase is held (R406); with none running nothing is held. -/
def nvSuspend (s : State) : State :=
  match [0, 1].find? (fun b => match bankErase b s with
    | some e => !e.susp
    | none => false) with
  | some b => nvEnd 0 (setErase b ((bankErase b s).map (fun e => { e with susp := true })) s)
  | none => nvEnd 0 s

/-- RESUME (R406, R407). -/
def nvResume (s : State) : State :=
  match [0, 1].find? (fun b => match bankErase b s with
    | some e => e.susp
    | none => false) with
  | some b => nvEnd 0 (setErase b ((bankErase b s).map (fun e => { e with susp := false })) s)
  | none => nvEnd 7 s

/-- The first unit of a stretch of n units that is not blank. -/
def firstUsed (s : State) (off n : Nat) : Option Nat := (List.range n).findSome? (fun i => if nvBlank s (off + 32 * i) 32 then none else some (off + 32 * i))

/-- BLANK_CHECK of the sector that holds an offset (R391). -/
def nvBlankCheck (m : Master) (off : Nat) (s : State) : State :=
  let n := nvSector off
  if !nvOpen m n s then nvProtected s
  else nvEnd 0 (s.wr NVS_BLANK (match firstUsed s (sectorBase n) (sectorSize n / 32) with
    | some u => BitVec.ofNat 32 (2 ^ 31 + u)
    | none => 0))

/-- Whether a direct command runs: a program, or a direct erase that is not suspended (R408). -/
def nvRunning (s : State) : Bool :=
  s.nvs.prog.isSome || [0, 1].any (fun b => match bankErase b s with
    | some e => e.direct && !e.susp
    | none => false)

/-- A write of NVS_CMD (R408). While a direct erase runs only SUSPEND is taken; a reserved operation is refused, and ADDR is taken (R421). -/
def nvCmd (m : Master) (v : W32) (s : State) : State :=
  let op := fget v F_NVS_CMD_OP
  let off := fget v F_NVS_CMD_ADDR
  if v.toNat.testBit 31 && nvRunning s && !(op == 3 && s.nvs.prog.isNone) then deny s
  else if op = 0 ∨ 5 < op then deny (s.setf NVS_CMD F_NVS_CMD_ADDR off)
  else if !v.toNat.testBit 31 then s.wr NVS_CMD (v &&& 0x71FFFFFF)
  else
    let s := (s.wr NVS_CMD (v &&& 0x71FFFFFF)).setf NVS_STATUS F_NVS_STATUS_DONE 0
    match op with
    | 1 => nvProgram m off s
    | 2 => nvEraseCmd m off s
    | 3 => nvSuspend s
    | 4 => nvResume s
    | _ => nvBlankCheck m off s

/-- A register of the NV store is written by a master that may, while its domain is on (R6, R37). -/
def nvWrite (m : Master) (f : State → State) (s : State) : State :=
  if !mayCmd m then deny s else if s.domOn 104 then f s else badAccess s

/-- A direct command: NVS_CMD written with GO and its operation. -/
def nvOp (m : Master) (op : Nat) (v : W32) (s : State) : State := nvWrite m (nvCmd m (fset (v ||| 0x80000000) F_NVS_CMD_OP op)) s

/-- PROGRAM (R397). -/
def execNvProgram (m : Master) (v : W32) (s : State) : Host.Outcome State Fault Refusal := ok (nvOp m 1 v s)
/-- ERASE (R401). -/
def execNvErase (m : Master) (v : W32) (s : State) : Host.Outcome State Fault Refusal := ok (nvOp m 2 v s)
/-- SUSPEND (R406). -/
def execNvSuspend (m : Master) (v : W32) (s : State) : Host.Outcome State Fault Refusal := ok (nvOp m 3 v s)
/-- RESUME (R407). -/
def execNvResume (m : Master) (v : W32) (s : State) : Host.Outcome State Fault Refusal := ok (nvOp m 4 v s)
/-- BLANK_CHECK (R391). -/
def execNvBlankCheck (m : Master) (v : W32) (s : State) : Host.Outcome State Fault Refusal := ok (nvOp m 5 v s)

/-- The unit of a direct PROGRAM is programmed (R397). -/
def nvProgDone (s : State) : State :=
  match s.nvs.prog with
  | none => s
  | some p => nvEnd 0 (modNvs (fun x => { x with prog := none }) (nvUnit p.1 p.2 s))

/-- PROGRAM_END: the unit in progress is programmed (R397). -/
def execNvProgramEnd (s : State) : Host.Outcome State Fault Refusal := ok (nvProgDone s)

/-- The clear's next erase starts when the main bank is free (R408, R476). -/
def iceEraseStart (s : State) : State :=
  match s.ice.erase with
  | some n => engineErase (96 + n) s
  | none => s

/-- An erase of the ring has ended: one that the head needed leaves its sector ready (R471); of the clear, the next sector follows, or the clear ends
with the head at slot 0 (R476). -/
def iceEraseNext (sec : Nat) (s : State) : State :=
  let ready := fun (t : State) (n : Nat) => { t with ice := { t.ice with ready := if nvIndet (96 + n) t then none else some n } }
  match s.ice.erase with
  | some n =>
    if sec ≠ 96 + n then nvBusyShow s
    else if n < 7 then { s with ice := { s.ice with erase := some (n + 1) } }
    else
      let s := (s.setf ICE_STATE F_ICE_STATE_CLEARING 0).setf ICE_STATE F_ICE_STATE_HEAD 0
      nvBusyShow (ready { s.setf ICE_STATE F_ICE_STATE_FILLED 0 with ice := { s.ice with erase := none } } 0)
  | none => nvBusyShow (ready s (sec - 96))

/-! ### The parameter area (R410–R414) -/

/-- The window offset of a record position: sector of the ring and place in it. -/
def recOff (sec pos : Nat) : Nat := 0x1E00000 + sec * 0x10000 + pos * 0x100

/-- The bytes of a record (R410): header, CRC-32 over bytes 0 to 7 and the payload, MARK, payload; the rest of its units stays blank. -/
def recBytes (id seq : Nat) (p : List Byte) : List Byte :=
  let hd := leBytes id 2 ++ leBytes p.length 1 ++ leBytes 0 1 ++ leBytes seq 4
  hd ++ leBytes (crc32 (hd ++ p)) 4 ++ leBytes 0x52454331 4 ++ p

/-- A valid record at a position: ID, LEN and SEQ (R411). -/
def recAt (sec pos : Nat) (s : State) : Option (Nat × Nat × Nat) :=
  let o := recOff sec pos
  let len := ofLe (s.rdNvs (o + 2) 1)
  let b := s.rdNvs o 8
  if !nvBadAt o s ∧ ofLe (s.rdNvs (o + 12) 4) = 0x52454331 ∧ ofLe (s.rdNvs (o + 8) 4) = crc32 (b ++ s.rdNvs (o + 16) len) then
    some (ofLe (s.rdNvs o 2) % 1024, len, ofLe (s.rdNvs (o + 4) 4))
  else none

/-- Whether a sector of the ring lies in the window: the head and the seven behind it. -/
def inParWindow (head sec : Nat) : Bool := decide ((head + 32 - sec) % 32 < 8)

/-- The current record of an ID: ring position (256·sector + place) and LEN. -/
def recOf (id : Nat) (s : State) : Option (Nat × Nat) := tget none s.nvs.idx id

/-- F and G of R412. -/
def parFree (s : State) : Nat := 256 - s.nvs.next
def inOldest (id : Nat) (s : State) : Bool :=
  match recOf id s with
  | some (p, len) => decide (0 < len) && p / 256 == (s.nvs.head + 25) % 32
  | none => false
def parAged (s : State) : Nat := (s.nvs.idx.filter (fun x => inOldest x.1 s)).length

/-- NVS_PAR_STATE and NVS_PAR_SEQ. -/
def parShow (s : State) : State :=
  let s := s.wr NVS_PAR_STATE (BitVec.ofNat 32 (s.nvs.head % 32 * 2 ^ 27 + parFree s % 512 * 2 ^ 18 + parAged s % 512 * 2 ^ 9))
  s.wr NVS_PAR_SEQ (BitVec.ofNat 32 s.nvs.seq)

/-- The scan of all headers that rebuilds the index (R413, R414). -/
def parScan (s : State) : State :=
  let recs := (List.range 8192).filterMap (fun p => (recAt (p / 256) (p % 256) s).map (fun r => (p, r)))
  let top := recs.foldl (fun (b : Nat × Nat) x => if x.2.2.2 ≥ b.2 then (x.1, x.2.2.2) else b) (0, 0)
  let head := if recs.isEmpty then 0 else top.1 / 256
  let used := (List.range 256).filter (fun i => !nvBlank s (recOff head i) 256)
  let idx := recs.foldl (fun (t : List (Nat × Option (Nat × Nat))) x =>
    if !inParWindow head (x.1 / 256) then t
    else match tget none t x.2.1 with
      | some (p, _) => if x.2.2.2 > ((recAt (p / 256) (p % 256) s).map (fun r => r.2.2)).getD 0 then tput none t x.2.1 (some (x.1, x.2.2.1)) else t
      | none => tput none t x.2.1 (some (x.1, x.2.2.1))) []
  parShow (modNvs (fun n => { n with head := head, next := (used.getLast?.map (· + 1)).getD 0, seq := top.2, idx := idx, recw := none, recHold := false, recOwn := false }) s)

/-- A record operation ends. -/
def recEnd (r : Nat) (s : State) : State :=
  let s := (s.setf NVS_REC_STATUS F_NVS_REC_STATUS_BUSY 0).flag NVS_REC_STATUS F_NVS_REC_STATUS_DONE
  nvBusyShow (s.setf NVS_REC_STATUS F_NVS_REC_STATUS_RESULT r)

/-- READ: the current record of a live ID goes to NVS_REC_DATA (R411). -/
def recRead (id : Nat) (s : State) : State :=
  match recOf id s with
  | some (p, len) =>
    if len = 0 then recEnd 1 s
    else
      let b := s.rdNvs (recOff (p / 256) (p % 256) + 16) len ++ List.replicate (240 - len) 0
      let s := each (List.range 60) (fun i t => t.wr (NVS_REC_DATA i) (BitVec.ofNat 32 (ofLe ((b.drop (4 * i)).take 4)))) s
      recEnd 0 (s.setf NVS_REC_STATUS F_NVS_REC_STATUS_LEN len)
  | none => recEnd 1 s

/-- The head advances to the next sector of the ring, and the erase of the one after it begins (R413). -/
def parAdvance (s : State) : State :=
  let h := (s.nvs.head + 1) % 32
  let s := modNvs (fun x => { x with head := h, next := 0,
                                     idx := x.idx.filter (fun e => match e.2 with
                                       | some (p, _) => inParWindow h (p / 256)
                                       | none => false) }) s
  engineErase (120 + (h + 1) % 32) s

/-- A record write is accepted: an ID counted in G at all times, any other only while F is greater than G (R412). -/
def recAccept (id : Nat) (p : List Byte) (s : State) : State :=
  if inOldest id s || decide (parAged s < parFree s) then
    nvBusyShow ((modNvs (fun x => { x with recw := some (id, p), recUnits := 0 }) s).flag NVS_REC_STATUS F_NVS_REC_STATUS_BUSY)
  else emit 0x9008 (parShow (recEnd 2 s))

/-- A record write waits, for its own erase of the new head or for another (R413). -/
def recWait (id : Nat) (p : List Byte) (own : Bool) (s : State) : State :=
  nvBusyShow ((modNvs (fun x => { x with recw := some (id, p), recHold := true, recOwn := own }) s).flag NVS_REC_STATUS F_NVS_REC_STATUS_BUSY)

/-- Whether a sector of the ring has to be erased before the head enters it (R413). -/
def parUsed (h : Nat) (s : State) : Bool := nvIndet (120 + h) s || !nvBlank s (sectorBase (120 + h)) 0x10000

/-- A record write with a full head advances it first, once the erase that runs in the parameter bank has ended and the new head, where it is
indeterminate or not blank, has been erased (R413). -/
def recEnter (id : Nat) (p : List Byte) (s : State) : State :=
  let h := (s.nvs.head + 1) % 32
  if s.nvs.next < 256 then recAccept id p s
  else if (bankErase 1 s).isSome then recWait id p false s
  else if parUsed h s then recWait id p true (engineErase (120 + h) s)
  else recAccept id p (parAdvance s)

/-- WRITE (R412). -/
def recWrite (id len : Nat) (s : State) : State :=
  recEnter id ((wordBytes ((List.range 60).map (fun i => s.rd (NVS_REC_DATA i)))).take len) s

/-- An erase of the parameter bank has ended: a write that waits for it goes on; when its own erase of the new head failed, it ends with RESULT 4
(R413; the failure is a DESIGN CHOICE, log 150). -/
def recResume (fail : Bool) (s : State) : State :=
  match s.nvs.recw, s.nvs.recHold with
  | some (id, p), true =>
    let own := s.nvs.recOwn
    let s := modNvs (fun x => { x with recw := none, recHold := false, recOwn := false }) s
    if fail && own then recEnd 4 s else recEnter id p s
  | _, _ => nvBusyShow s

/-- A write of NVS_REC_CTL: refused while the engine is busy (R421). LEN above 240 and a reserved operation leave their field as it was, and with GO
the operation ends with RESULT 3. -/
def recCtl (v : W32) (s : State) : State :=
  if s.nvs.recw.isSome then deny s
  else
    let len := fget v F_NVS_REC_CTL_LEN
    let id := fget v F_NVS_REC_CTL_ID
    let op := fget v F_NVS_REC_CTL_OP
    let goodOp := decide (op = 1 ∨ op = 2)
    let goodLen := decide (len ≤ 240)
    let s := s.setf NVS_REC_CTL F_NVS_REC_CTL_ID id
    let s := if goodLen then s.setf NVS_REC_CTL F_NVS_REC_CTL_LEN len else s
    let s := if goodOp then s.setf NVS_REC_CTL F_NVS_REC_CTL_OP op else s
    let s := if goodLen && goodOp then s else deny s
    if !v.toNat.testBit 31 then s
    else
      let s := s.setf NVS_REC_STATUS F_NVS_REC_STATUS_DONE 0
      if op = 1 then recRead id s
      else if op = 2 ∧ len ≤ 240 then recWrite id len s
      else recEnd 3 s

/-- RECORD_READ (R411). -/
def execRecordRead (m : Master) (v : W32) (s : State) : Host.Outcome State Fault Refusal :=
  ok (nvWrite m (recCtl (fset (v ||| 0x80000000) F_NVS_REC_CTL_OP 1)) s)

/-- RECORD_WRITE (R412). -/
def execRecordWrite (m : Master) (v : W32) (s : State) : Host.Outcome State Fault Refusal :=
  ok (nvWrite m (recCtl (fset (v ||| 0x80000000) F_NVS_REC_CTL_OP 2)) s)

/-- A record is programmed at the next position of the head, units 1 to 7 and then unit 0, and becomes the current record of its ID (R410, R411). -/
def recStore (id : Nat) (p : List Byte) (s : State) : State :=
  let o := recOff s.nvs.head s.nvs.next
  let l := recBytes id (s.nvs.seq + 1) p
  let s := nvUnit o (unitAt l 0) (nvUnits o l 1 7 s)
  parShow (modNvs (fun x => { x with next := x.next + 1, seq := x.seq + 1, idx := tput none x.idx id (some (256 * x.head + x.next, p.length)) }) s)

/-- So many further of the units 1 to 7 of the record in progress are programmed (R410). -/
def recStep (n : Nat) (s : State) : State :=
  match s.nvs.recw with
  | none => s
  | some (id, p) =>
    modNvs (fun x => { x with recUnits := x.recUnits + n }) (nvUnits (recOff s.nvs.head s.nvs.next) (recBytes id (s.nvs.seq + 1) p) (s.nvs.recUnits + 1) n s)

/-- The unit of the record in progress that comes next: one of 1 to 7, then unit 0 (R410). -/
def recUnit (s : State) : Nat := (s.nvs.recUnits + 1) % 8

/-- The record write in progress ends well; in an indeterminate head nothing is programmed (R399, R410). -/
def recDone (s : State) : State :=
  match s.nvs.recw with
  | none => s
  | some (id, p) =>
    let s := modNvs (fun x => { x with recw := none, recUnits := 0 }) s
    if nvIndet (120 + s.nvs.head) s then recEnd 4 (indetProg s) else recEnd 0 (recStore id p s)

/-- A unit of the record in progress fails to program: a free number of units before it are programmed, it reads as blank or uncorrectable, and the
position is used (R410, R414). -/
def recFails (s : State) : State :=
  let f := s.fresh
  let s := recStep (f.1 / 2 % (8 - s.nvs.recUnits)) f.2
  let u := (recOff s.nvs.head s.nvs.next) / 32 + recUnit s
  let s := if f.1 % 2 = 0 then s else modNvs (fun x => { x with bad := tput false x.bad u true }) s
  recEnd 4 (parShow (modNvs (fun x => { x with recw := none, recUnits := 0, next := x.next + 1 }) s))

/-- RECORD_WRITE_END: the record is programmed, its valid mark last; one whose program fails leaves its position used (R410, R413, R414). -/
def execRecordWriteEnd (fail : Bool) (s : State) : Host.Outcome State Fault Refusal :=
  ok (if s.nvs.recw.isNone || s.nvs.recHold then s
    else if fail && !nvIndet (120 + s.nvs.head) s then recFails s
    else recDone s)

/-! ### Firmware slots (R416–R420) -/

/-- The first sector of a slot, and the window offsets of its mark units. -/
def slotSec (k : Nat) : Nat := 48 * k
def markOff (k : Nat) : Nat := sectorBase (slotSec k) + 0x3F000
def revokeOff (k : Nat) : Nat := markOff k + 0x20
def actOff (k i : Nat) : Nat := markOff k + 0x40 + 0x20 * i

/-- The sectors of a slot. -/
def slotSectors (k : Nat) : List Nat := (List.range 48).map (fun i => slotSec k + i)

/-- Whether VALID of a slot is valid: its MAGIC and its CRC-32 over the bytes before it. -/
def slotValidMark (k : Nat) (s : State) : Bool :=
  let b := s.rdNvs (markOff k) 28
  !nvBadAt (markOff k) s && ofLe (b.take 4) == 0x56414C44 && ofLe (b.drop 24) == crc32 (b.take 24)

/-- Whether REVOKE of a slot is not blank. -/
def slotRevoked (k : Nat) (s : State) : Bool := !nvBlank s (revokeOff k) 32

/-- Whether a slot is bootable (R416). -/
def slotBootable (k : Nat) (s : State) : Bool :=
  slotValidMark k s && !slotRevoked k s && (slotSectors k).all (fun n => !nvIndet n s)

/-- The activation sequence of an ACT unit that is valid. -/
def actSeq (k i : Nat) (s : State) : Option Nat :=
  let b := s.rdNvs (actOff k i) 8
  if !nvBlank s (actOff k i) 32 ∧ !nvBadAt (actOff k i) s ∧ ofLe (b.drop 4) = crc32 (b.take 4) then some (ofLe (b.take 4)) else none

/-- The rank of a slot (R416), the ACT units not blank, and the highest activation sequence of either slot. -/
def slotRank (k : Nat) (s : State) : Nat := ((List.range 64).filterMap (fun i => actSeq k i s)).foldl max 0
def actUsed (k : Nat) (s : State) : Nat := ((List.range 64).filter (fun i => !nvBlank s (actOff k i) 32)).length
def actTop (s : State) : Nat := max (slotRank 0 s) (slotRank 1 s)

/-- NVS_BOOT and NVS_RANK but for SLOT. -/
def bootShow (s : State) : State :=
  let s := (s.setf NVS_BOOT F_NVS_BOOT_ACT_USED0 (actUsed 0 s)).setf NVS_BOOT F_NVS_BOOT_ACT_USED1 (actUsed 1 s)
  let s := s.setf NVS_BOOT F_NVS_BOOT_REVOKED (b2n (slotRevoked 0 s) + 2 * b2n (slotRevoked 1 s))
  let s := s.setf NVS_BOOT F_NVS_BOOT_VALID (b2n (slotValidMark 0 s) + 2 * b2n (slotValidMark 1 s))
  (s.wr (NVS_RANK 0) (BitVec.ofNat 32 (slotRank 0 s))).wr (NVS_RANK 1) (BitVec.ofNat 32 (slotRank 1 s))

/-- The slots that can be booted, in descending rank, slot 0 first when the ranks are equal (R416). -/
def bootOrder (s : State) : List Nat :=
  (if slotRank 0 s < slotRank 1 s then [1, 0] else [0, 1]).filter (fun k => slotBootable k s)

/-- REVOKE of a slot is programmed if it is blank (R343, R417). -/
def slotRevoke (k : Nat) (s : State) : State :=
  bootShow (if slotRevoked k s then s else engineUnit (revokeOff k) (List.replicate 32 0) s)

/-- The first ACT unit of a slot that is blank. -/
def actBlank (k : Nat) (s : State) : Option Nat := (List.range 64).find? (fun i => nvBlank s (actOff k i) 32)

/-- An ACT unit is programmed with an activation sequence one higher than any in either slot (R417, R419). -/
def actProgram (k i : Nat) (s : State) : State :=
  let b := leBytes (actTop s + 1) 4
  engineUnit (actOff k i) (b ++ leBytes (crc32 b) 4) s

/-- The image digest D (R480): header bytes 0 to 2,047 and the bytes from 4,096 on. -/
def imageDigest (img : List Byte) : List Byte := Config.sha512 (img.take 2048 ++ img.drop 4096)

/-- The bytes of a slot's VALID unit. -/
def validUnit (img : List Byte) : List Byte :=
  let b := leBytes 0x56414C44 4 ++ leBytes img.length 4 ++ (imageDigest img).take 16
  b ++ leBytes (crc32 b) 4

/-- The engine ends (R417, R419). -/
def commitDone (r : Nat) (s : State) : State :=
  let s := (s.setf NVS_COMMIT_STATUS F_NVS_COMMIT_STATUS_BUSY 0).flag NVS_COMMIT_STATUS F_NVS_COMMIT_STATUS_DONE
  nvBusyShow (bootShow ((modNvs (fun x => { x with commit := none }) s).setf NVS_COMMIT_STATUS F_NVS_COMMIT_STATUS_RESULT r))

/-- Whether the source and length of a staged image are good: 4 KiB aligned, in shared SRAM or rank 0, a length of R417. -/
def commitArgs (a n : Nat) : Bool :=
  a % 4096 == 0 && decide (4096 ≤ n ∧ n ≤ 12324864) && n % 32 == 0 &&
    (decide (0x20000000 ≤ a ∧ a + n ≤ 0x20800000) || decide (0x1000000000 ≤ a ∧ a + n ≤ 0x2000000000))

/-- The source address of a commit. -/
def commitSrc (s : State) : Nat := (s.rd NVS_COMMIT_SRC_LO).toNat + s.fld NVS_COMMIT_SRC_HI F_NVS_COMMIT_SRC_HI_ADDR_HI * 2 ^ 32

/-- The slot sector of a place in the order of R417: 1 to 47, then 0. -/
def slotOrder (p : Nat) : Nat := (p + 1) % 48

/-- The slot sector that the engine erases next, when one is left: none in step 1, after the erase of sector 0, and while a sector that was erased
again is programmed without overlap (R417). -/
def commitSector (s : State) : Option Nat :=
  let c := s.nvs.cpos
  match s.nvs.commit with
  | some (k, act, _, _) =>
    if act = 2 ∨ c.step < 2 ∨ 48 ≤ c.pos ∨ (c.again && c.fill.isSome) then none else some (slotSec k + slotOrder c.pos)
  | none => none

/-- NVS_COMMIT_STATUS shows the step, the slot sector and the repeats (R417). -/
def commitShow (s : State) : State :=
  match s.nvs.commit with
  | none => s
  | some (_, act, _, _) =>
    let p := s.nvs.cpos
    let s := s.setf NVS_COMMIT_STATUS F_NVS_COMMIT_STATUS_STEP (if p.step = 7 then (if act = 0 then 5 else 6) else p.step)
    let s := s.setf NVS_COMMIT_STATUS F_NVS_COMMIT_STATUS_SECTOR (if act = 2 then 0 else slotOrder (min p.pos 47))
    s.setf NVS_COMMIT_STATUS F_NVS_COMMIT_STATUS_REPEATS p.rep.length

/-- The erase of the engine's present sector starts when the main bank is free (R408, R417). -/
def commitErase (s : State) : State :=
  match commitSector s with
  | some n => engineErase n (commitShow s)
  | none => commitShow s

/-- The step that goes with a place in the order of R417. -/
def stepOf (p : Nat) : Nat := if p < 47 then 2 else if p = 47 then 3 else 4

/-- The engine starts (R417 step 1, R419). -/
def commitStart (k act : Nat) (s : State) : State :=
  let a := commitSrc s
  let n := s.fld NVS_COMMIT_LEN F_NVS_COMMIT_LEN_BYTES
  let s := (s.wr NVS_COMMIT_STATUS 0)
  let run := fun (step : Nat) (t : State) =>
    commitShow ((nvBusyShow (modNvs (fun x => { x with commit := some (k, act, a, n), cpos := { step := step } }) t)).flag NVS_COMMIT_STATUS
      F_NVS_COMMIT_STATUS_BUSY)
  if act = 2 then
    if !slotBootable k s then commitDone 4 s
    else if (actBlank k s).isNone then commitDone 5 s else run 6 s
  else if !commitArgs a n then commitDone 1 s
  else run 1 (slotRevoke k s)

/-- A write of NVS_COMMIT_CTL: refused while the engine is busy (R420, R421). -/
def commitCtl (v : W32) (s : State) : State :=
  let act := fget v F_NVS_COMMIT_CTL_ACTION
  if s.nvs.commit.isSome then deny s
  else if act = 3 then deny (s.setf NVS_COMMIT_CTL F_NVS_COMMIT_CTL_SLOT (fget v F_NVS_COMMIT_CTL_SLOT))
  else
    let s := s.wr NVS_COMMIT_CTL (v &&& 0x30000001)
    if v.toNat.testBit 31 then commitStart (fget v F_NVS_COMMIT_CTL_SLOT) act s else s

/-- A commit command: NVS_COMMIT_CTL written with GO. -/
def commitCmd (m : Master) (act : Nat) (slot : Bool) (s : State) : State :=
  nvWrite m (commitCtl (BitVec.ofNat 32 (2 ^ 31 + act * 2 ^ 28 + b2n slot))) s

/-- SLOT_COMMIT: ACTION 0 (R417). -/
def execSlotCommit (m : Master) (slot : Bool) (s : State) : Host.Outcome State Fault Refusal := ok (commitCmd m 0 slot s)
/-- SLOT_COMMIT_ACTIVATE: ACTION 1 (R417). -/
def execSlotCommitActivate (m : Master) (slot : Bool) (s : State) : Host.Outcome State Fault Refusal := ok (commitCmd m 1 slot s)
/-- SLOT_ACTIVATE: ACTION 2 (R419). -/
def execSlotActivate (m : Master) (slot : Bool) (s : State) : Host.Outcome State Fault Refusal := ok (commitCmd m 2 slot s)

/-- The part of an image that slot sector i holds: the header and its signature in sector 0, the body from sector 1 on (R416). -/
def slotPart (img : List Byte) (i : Nat) : List Byte := if i = 0 then img.take 4096 else (img.drop (4096 + (i - 1) * 0x40000)).take 0x40000

/-- The units that slot sector i's part of an image fills, and units of it programmed from unit u on, n of them. -/
def partUnits (img : List Byte) (i : Nat) : Nat := unitsOf (slotPart img i)
def slotFill (k i u n : Nat) (img : List Byte) (s : State) : State := nvUnits (sectorBase (slotSec k + i)) (slotPart img i) u n s

/-- The sectors of a slot from a place in the order on are erased; the engine's own erase that runs ends. -/
def slotErase (k p : Nat) (s : State) : State :=
  each ((List.range 48).drop p) (fun q t =>
    let n := slotSec k + slotOrder q
    match bankErase 0 t with
    | some e => if e.sector = n then (if e.begun then eraseDone n else eraseSector n) (setErase 0 none t) else eraseSector n t
    | none => eraseSector n t) s

/-- The rest of a commit (R417): every sector from a place in the order on erased, the body in sectors 1 on, the header, VALID, and ACT 0. -/
def commitWrite (k act p : Nat) (img : List Byte) (s : State) : State :=
  let s := slotErase k p s
  let s := each (List.range 48) (fun q t => slotFill k (slotOrder q) 0 (partUnits img (slotOrder q)) img t) s
  let s := nvUnit (markOff k) (validUnit img) s
  if act = 1 then actProgram k 0 s else s

/-- The program of a sector that is under way: so many further units, and all that are left. -/
def fillStep (n : Nat) (s : State) : State :=
  match s.nvs.commit, s.nvs.cpos.fill with
  | some (k, _, a, m), some (p, u) =>
    modNvs (fun x => { x with cpos := { x.cpos with fill := some (p, u + n) } }) (slotFill k (slotOrder p) u n (s.rdBytes a m) s)
  | _, _ => s
def fillLeft (s : State) : Nat :=
  match s.nvs.commit, s.nvs.cpos.fill with
  | some (_, _, a, m), some (p, u) => partUnits (s.rdBytes a m) (slotOrder p) - u
  | _, _ => 0
def fillDone (s : State) : State := modNvs (fun x => { x with cpos := { x.cpos with fill := none } }) (fillStep (fillLeft s) s)

/-- The engine's place moves on. -/
def commitMove (s : State) : State :=
  modNvs (fun x => { x with cpos := { x.cpos with pos := x.cpos.pos + 1, again := false, step := stepOf (x.cpos.pos + 1) } }) s

/-- The first blank ACT unit of the slot, of a new commit ACT 0, is programmed (R417 step 6, R419). -/
def commitAct (k act : Nat) (s : State) : State :=
  match if act = 2 then actBlank k s else some 0 with
  | some i => actProgram k i s
  | none => s

/-- What the engine does next by itself (R417): after REVOKE the erases; a sector erased again is programmed before the next erase; the header,
VALID and ACT in turn. -/
def commitTick (s : State) : State :=
  let c := s.nvs.cpos
  let go := fun (n : Nat) (t : State) => commitShow (modNvs (fun x => { x with cpos := { x.cpos with step := n } }) t)
  match s.nvs.commit with
  | none => s
  | some (k, act, a, n) =>
    if c.step = 1 then commitErase (go 2 s)
    else if c.step = 4 then go 5 (fillDone s)
    else if c.step = 5 then go (if act = 1 then 6 else 7) (bootShow (engineUnit (markOff k) (validUnit (s.rdBytes a n)) s))
    else if c.step = 6 then go 7 (bootShow (commitAct k act s))
    else if c.again && c.fill.isSome then commitErase (commitMove (fillDone s))
    else s

/-- A slot sector ends a commit (R417): its erase failed, and it stays indeterminate (R401), or its compare did, and it holds a free byte. -/
def commitBad (res k i : Nat) (img : List Byte) (s : State) : State :=
  let n := slotSec k + i
  let s := s.setf NVS_COMMIT_STATUS F_NVS_COMMIT_STATUS_SECTOR i
  if res = 2 then (if nvIndet n s then s else eraseBegin n (jClear s)).flag NVS_ERR F_NVS_ERR_ERASE_FAIL
  else
    let s := if nvIndet n s then eraseDone n s else s
    let f := s.fresh
    ((slotFill k i 0 (partUnits img i) img f.2).wrNv (sectorBase n + f.1 / 256 % (if i = 0 then 4096 else 0x40000)) (BitVec.ofNat 8 f.1))

/-- The slot sector at which a commit fails: the one programmed last when a compare fails, else the present one. -/
def commitAt (res : Nat) (s : State) : Nat :=
  match res, s.nvs.cpos.fill with
  | 3, some (p, _) => slotOrder p
  | _, _ => slotOrder (min s.nvs.cpos.pos 47)

/-- A commit fails: the failing erase is over, and the slot is not bootable, since REVOKE is programmed or VALID missing (R417). -/
def commitFail (res : Nat) (s : State) : State :=
  match s.nvs.commit with
  | none => s
  | some (k, _, a, n) =>
    let i := commitAt res s
    let s := match bankErase 0 s with
      | some e => if e.sector = slotSec k + i ∧ !e.direct then setErase 0 none s else s
      | none => s
    emit 0x9006 (commitDone res (commitBad res k i (s.rdBytes a n) s))

/-- An erase of the engine has ended: the program of the sector before it, which overlaps it, has too, and its own begins; one that failed is erased
once more, and a second failure of one sector, or a ninth repeat, ends the commit (R417). -/
def commitNext (fail : Bool) (s : State) : State :=
  if s.nvs.commit.isNone then nvBusyShow s
  else
    let s := fillDone s
    let c := s.nvs.cpos
    if !fail then
      let s := modNvs (fun x => { x with cpos := { c with fill := some (c.pos, 0) } }) s
      if c.again && decide (c.pos < 47) then s else commitMove s
    else if c.again || decide (8 ≤ c.rep.length) then commitFail 2 s
    else modNvs (fun x => { x with cpos := { c with rep := c.rep ++ [c.pos], again := true } }) s

/-- The erase of a bank verifies blank, or fails at its maximum (R401, R403); one that is suspended, or waits for the journal, does not end (R402,
R407). What an engine does next follows, the clear's and the commit's erases in turn (R408). -/
def nvEraseEnd (par fail : Bool) (s : State) : State :=
  let b := b2n par
  match bankErase b s with
    | none => s
    | some e =>
      if eraseHeld e s || !e.begun then s
      else
        let s := setErase b none s
        let s := if fail then emit 0x9004 (s.flag NVS_ERR F_NVS_ERR_ERASE_FAIL) else eraseDone e.sector s
        if e.direct then commitErase (iceEraseStart (nvEnd (if fail then 5 else 0) s))
        else if par then recResume fail s
        else if e.sector < 96 then commitErase (iceEraseStart (nvBusyShow (commitNext fail s)))
        else iceEraseStart (commitErase (nvBusyShow (iceEraseNext e.sector s)))

/-- Further places at which a commit repeated a sector: free ones, each once (R417). -/
def repeatPlaces : Nat → List Nat → State → List Nat × State
  | 0, l, s => (l, s)
  | n + 1, l, s =>
    let c := (List.range 48).filter (fun p => !l.contains p)
    let f := s.fresh
    repeatPlaces n (l ++ [c.getD (f.1 % c.length) 0]) f.2

/-- The repeats that COMMIT_END reports beyond those known: each sector is erased once more (R417). -/
def commitRepeats (k n : Nat) (s : State) : State :=
  let old := s.nvs.cpos.rep
  let r := repeatPlaces (min 8 n - old.length) old s
  let s := modNvs (fun x => { x with cpos := { x.cpos with rep := r.1 } }) r.2
  each (r.1.drop old.length) (fun p t => eraseSector (slotSec k + slotOrder p) t) (commitShow s)

/-- Whether the engine's erases cannot have ended: another erase holds the main bank, or its own is suspended (R407, R408). -/
def commitBlocked (s : State) : Bool :=
  match bankErase 0 s with
  | some e => decide (s.nvs.cpos.pos < 48) && (e.susp || e.direct || decide (96 ≤ e.sector))
  | none => false

/-- The commit engine ends: `res` 0 OK, 2 ERASE_FAIL, 3 COMPARE_FAIL, with the number of sectors erased again, at most 8 (R417, R419). From VALID on
every sector has been compared, and the end is OK. -/
def commitEnd (res repeats : Nat) (s : State) : State :=
  match s.nvs.commit with
  | none => s
  | some (k, act, a, n) =>
    if act = 2 then commitDone 0 (if s.nvs.cpos.step = 7 then s else commitShow (commitAct k 2 s))
    else if 5 ≤ s.nvs.cpos.step then emit 0x9005 (commitDone 0 (commitTick (commitTick s)))
    else if commitBlocked s then s
    else
      let s := commitRepeats k repeats s
      if res < 2 then
        emit 0x9005 (commitDone 0 ((commitWrite k act s.nvs.cpos.pos (s.rdBytes a n) s).setf NVS_COMMIT_STATUS F_NVS_COMMIT_STATUS_SECTOR 0))
      else commitFail res (if res = 2 then emit 0x9004 s else s)

/-- A whole commit of the boot ROM's that fails (R512): the sectors before one of free number hold the image. -/
def commitFailAt (res k : Nat) (img : List Byte) (s : State) : State :=
  let f := s.fresh
  let j := f.1 % 48
  let s := each (List.range j) (fun p t => slotFill k (slotOrder p) 0 (partUnits img (slotOrder p)) img (eraseSector (slotSec k + slotOrder p) t)) f.2
  commitBad res k (slotOrder j) img (if res = 2 then emit 0x9004 s else s)

/-! ### The read window (R393–R396, R404) -/

/-- A read waits until the unit in progress in its plane ends (R396): a direct PROGRAM's, or one of the programs of the record or commit engine, of
which a free number of units end before it. -/
def nvReadWait (off : Nat) (s : State) : State :=
  let pl := planeOf (nvSector off)
  let s := match s.nvs.prog with
    | some p => if planeOf (nvSector p.1) = pl then nvProgDone s else s
    | none => s
  let f := s.fresh
  let s := if pl = 2 && s.nvs.recw.isSome && !s.nvs.recHold && decide (s.nvs.recUnits < 7) then recStep (1 + f.1 % (7 - s.nvs.recUnits)) f.2 else s
  match s.nvs.commit, s.nvs.cpos.fill with
  | some (_, _, _, _), some (p, _) =>
    if slotOrder p % 2 = pl ∧ 0 < fillLeft s then (let g := s.fresh; fillStep (1 + g.1 % fillLeft s) g.2) else s
  | some (_, _, _, _), none => if pl = 0 ∧ 5 ≤ s.nvs.cpos.step then commitTick s else s
  | none, _ => s

/-- Poisoned data reaches the reader: a core takes its precise data exception (R296, R394). -/
def nvPoisoned (m : Master) (s : State) : State :=
  let f := s.fresh
  { f.2 with rdata := BitVec.ofNat 32 f.1, dataExc := decide (m.toNat < 8) }

/-- A core's read of an indeterminate sector is recorded (R404). -/
def nvIndetRead (m : Master) (off : Nat) (s : State) : State :=
  if m.toNat < 8 ∧ nvIndet (nvSector off) s then
    emit 0x900A ((s.wr NVS_LAST (BitVec.ofNat 32 (2 ^ 31 + off))).flag NVS_ERR F_NVS_ERR_INDET_READ)
  else s

/-- A read of 32 bits of the window. `ecc`: 0 no error, 1 corrected, 2 uncorrectable. An uncorrectable unit poisons its 64-byte granule (R394); what an
indeterminate sector holds (R404), and a read with too few wait states (R395), deliver a free value. -/
def nvRead (m : Master) (off ecc : Nat) (s : State) : State :=
  if !s.domOn 104 then { badAccess s with rdata := 0, dataExc := false }
  else
    let s := { nvReadWait off s with dataExc := false }
    let s := if ecc = 1 then s.incSat NVS_ECC_CORR 1 else s
    if ecc = 2 ∨ nvBadGran off s then nvIndetRead m off (nvUncorr off (nvPoisoned m s))
    else if nvIndet (nvSector off) s || !nvWsOk s then
      let f := s.fresh
      nvIndetRead m off { f.2 with rdata := BitVec.ofNat 32 f.1 }
    else { s with rdata := BitVec.ofNat 32 (ofLe (s.rdNvs (off / 4 * 4) 4)) }

/-- NVS_WINDOW_READ (R393, R396): cores and DMA channels read the array through the window. An erase of the plane is suspended for the duration of the
access, which ends with the step (R406). -/
def execNvsWindowRead (m : Master) (off : BitVec 25) (ecc : BitVec 2) (s : State) : Host.Outcome State Fault Refusal :=
  ok (if m.toNat < 9 then nvRead m off.toNat ecc.toNat s else { badAccess s with rdata := 0, busErr := true })

/-! ### Resets and the replay (R400, R403, R407, R414, R418) -/

/-- The programs of a commit that are cut short (R400, R418): a free number of units of the sector under way, and the unit after them; or a mark. -/
def commitCut (s : State) : State :=
  match s.nvs.commit with
  | none => s
  | some (k, act, a, n) =>
    let c := s.nvs.cpos
    match c.fill with
    | some (p, _) =>
      let f := s.fresh
      let m := f.1 % (fillLeft s + 1)
      let left := fillLeft s
      let s := fillStep m f.2
      let u := match s.nvs.cpos.fill with
        | some (_, u) => u
        | none => 0
      if m < left then unitCut (sectorBase (slotSec k + slotOrder p) + 32 * u) (unitAt (slotPart (s.rdBytes a n) (slotOrder p)) u) s else s
    | none =>
      if c.step = 5 then unitCut (markOff k) (validUnit (s.rdBytes a n)) s
      else if c.step = 6 then
        match if act = 2 then actBlank k s else some 0 with
        | some i => unitCut (actOff k i) (unitAt ((actProgram k i s).rdNvs (actOff k i) 32) 0) s
        | none => s
      else s

/-- A record write that is cut short (R400, R414): a free number of its units 1 to 7 are programmed, one at least, and the next unit is cut. -/
def recCut (s : State) : State :=
  if s.nvs.recw.isNone || s.nvs.recHold || nvIndet (120 + s.nvs.head) s then s
  else
    let f := s.fresh
    let s := recStep (max (1 - s.nvs.recUnits) (f.1 % (8 - s.nvs.recUnits))) f.2
    match s.nvs.recw with
    | some (id, p) => unitCut (recOff s.nvs.head s.nvs.next + 32 * recUnit s) (unitAt (recBytes id (s.nvs.seq + 1) p) (recUnit s)) s
    | none => s

/-- The row in use with its last entry changed. -/
def jLastMap (f : JEntry → JEntry) (r : JRow) : JRow := { r with entries := r.entries.dropLast ++ (r.entries.getLast?.map f).toList }

/-- An erase that is cut short (R402, R403). Which of its entries was being programmed is a free value: BEGIN, or the summary of the row opened for it,
and no pulse has started; END, and the sector is blank; or none, and its cells hold what they may. An entry or summary cut short fails its CRC. -/
def eraseCut (b : Nat) (s : State) : State :=
  match bankErase b s, jRowAt s.nvs.jrow s with
  | some e, some r =>
    if !e.begun then s
    else
      let f := s.fresh
      let put := fun (r : JRow) (t : State) => modNvs (fun x => { x with jrows := tput none x.jrows x.jrow (some r) }) t
      let last : Bool := match r.entries.getLast? with
        | some x => !x.done && x.sector == e.sector
        | none => false
      let spoil := fun (x : JEntry) => { x with crc := (x.crc + 1) % 2 ^ 32 }
      if f.1 % 4 = 0 ∧ last ∧ !e.susp then put (jLastMap spoil r) f.2
      else if f.1 % 4 = 1 ∧ last ∧ !e.susp ∧ f.2.nvs.jold ∧ r.entries.length = 1 then put { r with entries := [], crc := (r.crc + 1) % 2 ^ 32 } f.2
      else if f.1 % 4 = 2 ∧ !eraseHeld e s ∧ r.entries.length < jRowUnits then
        let s := jAppend true e.sector (nvClear (sectorBase e.sector) (sectorSize e.sector) f.2)
        match jRowAt s.nvs.jrow s with
        | some r => put (jLastMap spoil r) s
        | none => s
      else f.2
  | _, _ => s

/-- Whether the NV store cannot be switched off (R409). -/
def nvBusy (s : State) : Bool :=
  s.nvs.prog.isSome || s.nvs.recw.isSome || s.nvs.commit.isSome || [0, 1].any (fun b => (bankErase b s).isSome) || s.ice.erase.isSome || s.nvs.jold

/-- Operations are cut short by SYS_RST_N, power loss or a switch-off: erases leave their sectors indeterminate. -/
def nvCut (s : State) : State :=
  let s := match s.nvs.prog with
    | some p => unitCut p.1 p.2 s
    | none => s
  let s := eraseCut 1 (eraseCut 0 (commitCut (recCut s)))
  let s := match s.ice.erase with
    | some _ => { s.setf ICE_STATE F_ICE_STATE_CLEARING 0 with ice := { s.ice with erase := none } }
    | none => s
  modNvs (fun x => { x with prog := none, recw := none, recUnits := 0, recHold := false, recOwn := false, commit := none, cpos := {}, erase := [] })
    { s with ice := { s.ice with ready := none } }

/-- The replay of the journal at a CHIP reset, with event 0x9003 for each indeterminate sector, and the scan of the parameter area. -/
def nvReplay (s : State) : State :=
  let s := jReplay s
  let s := each (s.nvs.indet.filter (fun x => x.2)) (fun _ t => emit 0x9003 t) s
  bootShow (parScan (nvShow s))

end Sys2Proof.Machine
end

