-- ==== Sys2Proof/Machine/Trust.lean ====
section
/-! DEFINITION. The security engine (spec/14_trust.md, R477–R495): image verification, measurement registers and their log, enrolment, and
the Potting Shed. -/

namespace Sys2Proof.Machine

/-- Changes the security engine. -/
def modSec (f : SecSt → SecSt) (s : State) : State := { s with sec := f s.sec }

/-- Word `w` of a byte string, least significant byte first. -/
def bytesWord (b : List Byte) (w : Nat) : W32 := BitVec.ofNat 32 (ofLe ((b.drop (4 * w)).take 4))

/-- Stores a byte string in consecutive registers. -/
def putWords (r : Nat → Reg) (n : Nat) (b : List Byte) (s : State) : State :=
  each (List.range n) (fun w t => t.wr (r w) (bytesWord b w)) s

/-- The bytes of consecutive registers. -/
def getWords (r : Nat → Reg) (n : Nat) (s : State) : List Byte := wordBytes ((List.range n).map (fun w => s.rd (r w)))

/-- The device ID (R479). -/
def deviceId : List Byte := (Config.sha512 Config.identityPk).take 16

/-! ### Measurement registers (R487–R489) -/

/-- The value of a measurement register. -/
def meas (i : Nat) (s : State) : List Byte := getWords (SEC_MEAS i) 16 s

/-- The log takes an extend, or is full: OVERFLOW, with event 0xB007 when it becomes 1 (R489). -/
def mlog (i src master : Nat) (d : List Byte) (s : State) : State :=
  let n := s.fld SEC_MLOG_COUNT F_SEC_MLOG_COUNT_COUNT
  if n < 64 then
    let s := s.wr (SEC_MLOG n 0) (BitVec.ofNat 32 (master * 2 ^ 24 + src * 16 + i))
    let s := s.wr (SEC_MLOG n 1) (BitVec.ofNat 32 s.sdl.now)
    let s := s.wr (SEC_MLOG n 2) (BitVec.ofNat 32 (s.sdl.now / 2 ^ 32))
    let s := putWords (fun w => SEC_MLOG n (4 + w)) 16 d s
    s.setf SEC_MLOG_COUNT F_SEC_MLOG_COUNT_COUNT (n + 1)
  else if s.fld SEC_MLOG_COUNT F_SEC_MLOG_COUNT_OVERFLOW = 1 then s
  else emit 0xB007 (s.flag SEC_MLOG_COUNT F_SEC_MLOG_COUNT_OVERFLOW)

/-- Sources of extends in the log. -/
def srcRom : Nat := 1
def srcEngine : Nat := 2
def srcSeqLoad : Nat := 3
def srcCore : Nat := 4

/-- An extend: Mi becomes SHA-512 of Mi and the digest, and the log takes it (R487, R489). -/
def extend (i src master : Nat) (d : List Byte) (s : State) : State :=
  mlog i src master d (putWords (SEC_MEAS i) 16 (Config.sha512 (meas i s ++ d)) s)

/-- The customer key, or 32 zero bytes (M0 of the table under R487). -/
def custBytes (s : State) : List Byte := s.sec.custKey.getD (List.replicate 32 0)

/-- M0 and M2, extended by the boot ROM; the boot ROM's version word is that of GH_ID (R487). -/
def romExtends (s : State) : State :=
  let gid := s.rd GH_ID
  let s := extend 0 srcRom 0 (Config.sha512 (leBytes (gid.toNat / 65536) 4 ++ Config.vendorKeyHash ++ custBytes s)) s
  extend 2 srcRom 0 (Config.sha512 (leBytes gid.toNat 4)) s

/-- M5 is extended again at a CHIP reset for each opening in force (R487). -/
def shedExtends (s : State) : State := each s.sec.opened (fun m t => extend 5 srcEngine 0 (Config.sha512 m) t) s

/-- A register of the block is written by a master that may, while the engine's domain is on (R6, R37). -/
def secWrite (m : Master) (f : State → State) (s : State) : State :=
  if !mayCmd m then deny s else if s.domOn 105 then f s else badAccess s

/-- SEC_EXTEND with GO: M6 and M7 only; an INDEX from 0 to 5 is refused (R488). -/
def secExtend (m : Nat) (v : W32) (s : State) : State :=
  let i := fget v F_SEC_EXTEND_CTL_INDEX
  if i < 6 then deny s
  else extend i srcCore m (getWords SEC_EXTEND_DATA 16 s) (s.setf SEC_EXTEND_CTL F_SEC_EXTEND_CTL_INDEX i)

/-- A write of SEC_EXTEND_CTL. -/
def secExtendCtl (m : Nat) (v : W32) (s : State) : State :=
  if v.toNat.testBit 31 then secExtend m v s
  else if fget v F_SEC_EXTEND_CTL_INDEX < 6 then deny s
  else s.setf SEC_EXTEND_CTL F_SEC_EXTEND_CTL_INDEX (fget v F_SEC_EXTEND_CTL_INDEX)

/-- MEASUREMENT_EXTEND (R488). -/
def execMeasurementExtend (m : Master) (v : W32) (s : State) : Host.Outcome State Fault Refusal := ok (secWrite m (secExtend m.toNat v) s)

/-! ### Images (R480–R483) -/

/-- Whether every byte of a stretch is 0. -/
def zeros (b : List Byte) (off n : Nat) : Bool := ((b.drop off).take n).all (fun x => x == 0)

/-- A field of an image header. -/
def imgField (img : List Byte) (off n : Nat) : Nat := ofLe ((img.drop off).take n)

/-- Whether LENGTH of an image is valid. -/
def imgLenOk (n : Nat) : Bool := decide (4096 ≤ n ∧ n ≤ 12324864) && n % 32 == 0

/-- VENDOR_PK of an image. -/
def imgPk (img : List Byte) : List Byte := (img.drop 64).take 32

/-- Whether an image verifies (R480): bit 3 of PARTS is this part's. -/
def imgVerifies (img : List Byte) (s : State) : Bool :=
  let d := imageDigest img
  imgField img 0 4 == 0x49464E54 && imgField img 4 2 == 1 && imgLenOk (imgField img 12 4) && imgField img 12 4 == img.length &&
    zeros img 20 44 && zeros img 96 1952 && zeros img 2176 1920 && (imgField img 6 2).testBit 3 &&
    decide (Config.sha512 (imgPk img) = Config.vendorKeyHash) && Config.ed25519Verify (imgPk img) d ((img.drop 2048).take 64) &&
    (match s.sec.custKey with
     | none => true
     | some k => Config.ed25519Verify k d ((img.drop 2112).take 64))

/-- The image that a slot holds, at its place in the NV store read window. -/
def slotAddr (k : Nat) : Nat := 0x10000000 + sectorBase (slotSec k)

/-- The address of byte i of an image: in a slot the header and signature stand in sector 0 and the body from slot sector 1 on (R416, R417); a staged
image is contiguous. -/
def imgByteAt (a i : Nat) : Nat := if (a = slotAddr 0 ∨ a = slotAddr 1) ∧ 4096 ≤ i then a + 0x40000 + (i - 4096) else a + i

/-- An image in memory: as many bytes as its LENGTH says, when that is valid, else its header. -/
def imgAt (a : Nat) (s : State) : List Byte :=
  let rd := fun n => (List.range n).map (fun i => s.rdAny (imgByteAt a i))
  let n := ofLe ((List.range 4).map (fun i => s.rdAny (imgByteAt a (12 + i))))
  if imgLenOk n then rd n else rd 4096

/-- Whether an image may lie there: 4 KiB aligned, within shared SRAM, rank 0 or the NV store read window. -/
def imgPlace (a n : Nat) : Bool :=
  a % 4096 == 0 && (decide (0x20000000 ≤ a ∧ a + n ≤ 0x20800000) || decide (0x1000000000 ≤ a ∧ a + n ≤ 0x2000000000) ||
    decide (0x10000000 ≤ a ∧ a + n ≤ 0x12000000))

/-- Whether the image at an address verifies. -/
def imgGood (a : Nat) (s : State) : Bool := let img := imgAt a s; imgPlace a img.length && imgVerifies img s

/-- SEC_VERIFY with GO (R483). -/
def secVerify (s : State) : State :=
  if s.sec.verify.isSome then deny s
  else
    let a := (s.rd SEC_VERIFY_LO).toNat + 2 ^ 32 * s.fld SEC_VERIFY_HI F_SEC_VERIFY_HI_ADDR_HI
    ((modSec (fun x => { x with verify := some a }) s).flag SEC_VERIFY_CTL F_SEC_VERIFY_CTL_BUSY).setf SEC_VERIFY_CTL F_SEC_VERIFY_CTL_RESULT 0

/-- IMAGE_VERIFY (R483). -/
def execImageVerify (m : Master) (s : State) : Host.Outcome State Fault Refusal := ok (secWrite m secVerify s)

/-- A verification ends (R483). -/
def verifyDone (a : Nat) (s : State) : State :=
  let good := imgGood a s
  let d := imageDigest (imgAt a s)
  let s := (modSec (fun x => { x with verify := none }) s).setf SEC_VERIFY_CTL F_SEC_VERIFY_CTL_BUSY 0
  if good then (s.setf SEC_VERIFY_CTL F_SEC_VERIFY_CTL_RESULT 1).wr SEC_VERIFY_DIGEST (bytesWord d 0)
  else emit 0xB001 (s.setf SEC_VERIFY_CTL F_SEC_VERIFY_CTL_RESULT 2)

/-! ### Enrolment (R484, R485) -/

/-- Whether a scope bit of the Potting Shed is open (R492). -/
def shedOpen (i : Nat) (s : State) : Bool := (s.fld SEC_SHED F_SEC_SHED_SCOPE).testBit i

/-- The ASCII bytes of a string. -/
def ascii (l : List Nat) : List Byte := l.map (BitVec.ofNat 8)

/-- "ENROLL" and "ICECLEAR" (R475, R484). -/
def txtEnroll : List Byte := ascii [0x45, 0x4E, 0x52, 0x4F, 0x4C, 0x4C]
def txtIceClear : List Byte := ascii [0x49, 0x43, 0x45, 0x43, 0x4C, 0x45, 0x41, 0x52]

/-- An enrolment ends. -/
def enrollEnd (r : Nat) (s : State) : State := s.setf SEC_ENROLL_CTL F_SEC_ENROLL_CTL_RESULT r

/-- SEC_ENROLL with GO (R484). -/
def secEnroll (s : State) : State :=
  let k := getWords SEC_ENROLL_KEY 8 s
  if !shedOpen 2 s then deny s
  else if s.sec.custKey.isSome then enrollEnd 3 s
  else if Config.ed25519Verify k (txtEnroll ++ deviceId ++ k) (getWords SEC_ENROLL_SIG 16 s) then
    emit 0xB006 (enrollEnd 1 ((modSec (fun x => { x with custKey := some k }) s).flag SEC_FUSE F_SEC_FUSE_CUST_KEY))
  else enrollEnd 2 s

/-- KEY_ENROLL (R484). -/
def execKeyEnroll (m : Master) (s : State) : Host.Outcome State Fault Refusal := ok (secWrite m secEnroll s)

/-! ### The Potting Shed (R492–R495) -/

/-- SEC_SHED_CTL with CLOSE (R495). -/
def shedCloseAll (s : State) : State :=
  emit 0xB005 ((modSec (fun x => { x with opened := [] }) s).setf SEC_SHED F_SEC_SHED_SCOPE 0)

/-- SHED_CLOSE (R495). -/
def execShedClose (m : Master) (s : State) : Host.Outcome State Fault Refusal := ok (secWrite m shedCloseAll s)

/-- The held nonce is discarded. -/
def nonceDrop (s : State) : State := (modSec (fun x => { x with nonce := none }) s).setf SEC_SHED F_SEC_SHED_NONCE_HELD 0

/-- NONCE_EXPIRED (R492). -/
def execNonceExpired (s : State) : Host.Outcome State Fault Refusal := ok (nonceDrop s)

/-- `n` bytes of a random source: free values. -/
def drawBytes : Nat → State → List Byte × State
  | 0, s => ([], s)
  | n + 1, s =>
    let f := s.fresh
    let r := drawBytes n f.2
    (BitVec.ofNat 8 f.1 :: r.1, r.2)

/-- The words of a byte string. -/
def bytesWords (n : Nat) (b : List Byte) : List W32 := (List.range n).map (bytesWord b)

/-- SHED_CHALLENGE (R492, R494). -/
def shedChallenge (ch q : Nat) (p : List W32) (s : State) : State :=
  match p with
  | [sc] =>
    if 32 ≤ sc.toNat then hostReply ch 0x09 q 2 [] s
    else if s.fld SEC_SHED F_SEC_SHED_FAILS = 4 then hostReply ch 0x09 q 3 [1] s
    else
      let r := drawBytes 32 s
      let s := (modSec (fun x => { x with nonce := some (r.1, sc.toNat) }) r.2).flag SEC_SHED F_SEC_SHED_NONCE_HELD
      hostReply ch 0x09 q 0 (bytesWords 8 r.1) s
  | _ => hostReply ch 0x09 q 2 [] s

/-- The message a shed response signs (R493). -/
def shedMsg (n : List Byte) (sc : Nat) : List Byte := n ++ deviceId ++ leBytes sc 4

/-- Whether a response is accepted: a nonce is held, the scope is the held one, every required signature is valid (R493). -/
def shedAccept (p : List W32) (s : State) : Option (List Byte × Nat) :=
  match s.sec.nonce with
  | none => none
  | some (n, sc) =>
    let msg := shedMsg n sc
    let sig := fun k => wordBytes ((p.drop k).take 16)
    let cust : Bool := match s.sec.custKey with
      | none => true
      | some k => Config.ed25519Verify k msg (sig 17)
    if (p.headD 0).toNat = sc ∧ Config.ed25519Verify s.sec.bootPk msg (sig 1) ∧ cust then some (msg, sc) else none

/-- SHED_RESPONSE (R493, R494). -/
def shedResponse (ch q : Nat) (p : List W32) (s : State) : State :=
  if p.length ≠ (if s.sec.custKey.isSome then 33 else 17) then hostReply ch 0x0A q 2 [] s
  else match shedAccept p s with
    | some (msg, sc) =>
      let s := (nonceDrop s).setf SEC_SHED F_SEC_SHED_SCOPE (s.fld SEC_SHED F_SEC_SHED_SCOPE ||| sc)
      let s := modSec (fun x => { x with opened := x.opened ++ [msg] }) (s.setf SEC_SHED F_SEC_SHED_FAILS 0)
      hostReply ch 0x0A q 0 [] (emit 0xB003 (extend 5 srcEngine 0 (Config.sha512 msg) s))
    | none =>
      let s := (nonceDrop s).setf SEC_SHED F_SEC_SHED_FAILS (min 4 (s.fld SEC_SHED F_SEC_SHED_FAILS + 1))
      hostReply ch 0x0A q 5 [] (emit 0xB004 s)

/-! ### Clear tokens (R475) -/

/-- Whether a clear token verifies (R475, R478). -/
def tokenGood (p : List W32) (s : State) : Bool :=
  let q := s.rd ICE_CLEAR_COUNT
  p.headD 0 == q && Config.ed25519Verify (s.sec.custKey.getD s.sec.bootPk) (txtIceClear ++ deviceId ++ leBytes q.toNat 4) (wordBytes ((p.drop 1).take 16))

/-- ICE_CLEAR: a verified token accepts one ICE_CLEAR_CTL.GO; its message is answered in step 4 of the clear (R475, R476). -/
def iceClear (ch q : Nat) (p : List W32) (s : State) : State :=
  if p.length ≠ 17 then hostReply ch 0x08 q 2 [] s
  else if s.ice.erase.isSome then hostReply ch 0x08 q 3 [1] s
  else if !s.domOn 104 then hostReply ch 0x08 q 3 [2] s
  else if tokenGood p s then { s with ice := { s.ice with tokens := s.ice.tokens ++ [(ch, q)] } }
  else hostReply ch 0x08 q 5 [] (emit 0x8103 s)

/-- A request to the engine, by its OP. -/
def secServe (ch q op : Nat) (p : List W32) (s : State) : State :=
  if op = 0x08 then iceClear ch q p s else if op = 0x09 then shedChallenge ch q p s else shedResponse ch q p s

/-- A request waits while the engine's domain is off, and a token check or shed response while a verification runs (R483, R498). -/
def secRequest (ch q op : Nat) (p : List W32) (s : State) : State :=
  if !s.domOn 105 || (s.sec.verify.isSome && op != 0x09) then modSec (fun x => { x with waits := x.waits ++ [(ch, q, op, p)] }) s
  else secServe ch q op p s

/-! ### SPDM messages (R490) -/

/-- A response of version 1.2 with its code, two parameters and the rest. -/
def spdmMsg (code p1 p2 : Nat) (rest : List Byte) : List Byte := ascii [0x12, code, p1, p2] ++ rest

/-- ERROR with an error code. -/
def spdmError (e : Nat) : List Byte := spdmMsg 0x7F e 0 []

/-- Error codes. -/
def eInvalid : Nat := 0x01
def eUnexpected : Nat := 0x04
def eUnsupported : Nat := 0x07
def eVersion : Nat := 0x41

/-- The codes of the supported requests: GET_DIGESTS, GET_CERTIFICATE, CHALLENGE, GET_VERSION, GET_MEASUREMENTS, GET_CAPABILITIES,
NEGOTIATE_ALGORITHMS. -/
def spdmCodes : List Nat := [0x81, 0x82, 0x83, 0x84, 0xE0, 0xE1, 0xE3]

/-- The code and parameters of a request. -/
def reqByte (b : List Byte) (i : Nat) : Nat := (b.getD i 0).toNat

/-- A response is pending. -/
def spdmReply (r : List Byte) (s : State) : State := modSec (fun x => { x with req := none, rsp := some r }) s

/-- A pending request with a code that is not supported is answered with ERROR UnsupportedRequest (R490). -/
def spdmUnknown (s : State) : State :=
  match s.sec.req with
  | some b => if spdmCodes.contains (reqByte b 1) then s else spdmReply (spdmError eUnsupported) s
  | none => s

/-- The requests that waited are taken in order. -/
def secWake (s : State) : State :=
  let s := spdmUnknown s
  each s.sec.waits (fun w t => secServe w.1 w.2.1 w.2.2.1 w.2.2.2 t) (modSec (fun x => { x with waits := [] }) s)

/-- Resident firmware verifies an image through SEC_VERIFY before a commit or an activation, with the engine switched on and once its verification in
progress has ended (R483, R498). -/
def fwVerify (a : Nat) (s : State) : State :=
  let s := if s.domOn 105 then s else secWake (s.setDom 105 true)
  let s := match s.sec.verify with
    | some b => secWake (verifyDone b s)
    | none => s
  verifyDone a ((s.wr SEC_VERIFY_LO (BitVec.ofNat 32 a)).setf SEC_VERIFY_HI F_SEC_VERIFY_HI_ADDR_HI (a / 2 ^ 32))

/-- Whether the last verification found the image good (R483). -/
def verifiedOk (s : State) : Bool := s.fld SEC_VERIFY_CTL F_SEC_VERIFY_CTL_RESULT == 1

/-- IMAGE_VERIFY_END (R483). -/
def execImageVerifyEnd (s : State) : Host.Outcome State Fault Refusal :=
  ok (match s.sec.verify with
    | none => s
    | some a => secWake (verifyDone a s))

/-- ICE_CLEAR as a message (R475, R376). -/
def execIceClear (ch : Chan) (seq : Seq) (payload : List W32) (s : State) : Host.Outcome State Fault Refusal :=
  ok (hostMsg ch.toNat 0x08 seq.toNat payload (secRequest ch.toNat seq.toNat 0x08 payload) s)
/-- SHED_CHALLENGE (R492). -/
def execShedChallenge (ch : Chan) (seq : Seq) (payload : List W32) (s : State) : Host.Outcome State Fault Refusal :=
  ok (hostMsg ch.toNat 0x09 seq.toNat payload (secRequest ch.toNat seq.toNat 0x09 payload) s)
/-- SHED_RESPONSE (R493). -/
def execShedResponse (ch : Chan) (seq : Seq) (payload : List W32) (s : State) : Host.Outcome State Fault Refusal :=
  ok (hostMsg ch.toNat 0x0A seq.toNat payload (secRequest ch.toNat seq.toNat 0x0A payload) s)

/-! ### The clear (R476) -/

/-- The capture of a clear (R476): it stands before a buffered one; when both buffers are full it is merged into the newer (R472), which then stands
first, with REASON 1. -/
def clearCapture (s : State) : State :=
  let c := iceTake 1 s
  let last := fun i => s.ctr (ICE_EVT_LAST i)
  let full := decide (s.ice.bufs.length ≥ 2)
  let bufs := match s.ice.bufs with
    | [a, b] => if b.time < a.time then [{ mergeCapture a c last with reason := 1 }, b] else [{ mergeCapture b c last with reason := 1 }, a]
    | l => c :: l
  let s := iceShow { s with ice := { s.ice with bufs := bufs, first := false } }
  if full then emit 0x8102 (s.incSat ICE_SKIPPED 1) else s

/-- The payload of parameter record 1,007. -/
def clearRecord (seq t : Nat) (s : State) : List Byte :=
  leBytes seq 4 ++ leBytes t 8 ++ leBytes (epochBits s) 8 ++ leBytes (s.rd ICE_SLOT_SEQ).toNat 4 ++ leBytes (b2n s.sec.custKey.isSome) 4 ++ leBytes 0 4

/-- The payload of a live record. -/
def parGet (id : Nat) (s : State) : Option (List Byte) :=
  match recOf id s with
  | some (p, len) => if len = 0 then none else some (s.rdNvs (recOff (p / 256) (p % 256) + 16) len)
  | none => none

/-- The IDs counted in G are written again: their records move from the oldest sector of the window to the head (R412). -/
def parRefresh (s : State) : State :=
  each ((s.nvs.idx.map (fun x => x.1)).filter (fun i => inOldest i s)) (fun i t => if t.nvs.next < 256 then recStore i ((parGet i t).getD []) t else t) s

/-- The head advances for a record of resident firmware's own, which waits for the erases it needs (R413). -/
def parAdvanceNow (s : State) : State :=
  let h := (s.nvs.head + 1) % 32
  let s := match bankErase 1 s with
    | some e => (if e.begun then eraseDone e.sector else eraseSector e.sector) (setErase 1 none s)
    | none => s
  parAdvance (if parUsed h s then eraseSector (120 + h) s else s)

/-- A record of resident firmware's own finds room: it waits for the record in progress; a full head advances; a WRITE that comes back AGED is
written again once the aged records have been (R412, R413). -/
def parRoom (id : Nat) : Nat → State → State
  | 0, s => s
  | f + 1, s =>
    if 256 ≤ s.nvs.next then parRoom id f (parAdvanceNow s)
    else if inOldest id s || decide (parAged s < parFree s) then s
    else parRoom id f (parRefresh (emit 0x9008 s))

/-- Writes a record of resident firmware's own (R410–R413). -/
def parPut (id : Nat) (p : List Byte) (s : State) : State :=
  recStore id p (parRoom id 16 (if s.nvs.recHold then s else recDone s))

/-- Steps 1 to 5 of a clear (R476); the erases go on at ERASE_END. -/
def clearRun (ch q : Nat) (s : State) : State :=
  let t := s.sdl.now
  let s := emit 0x8104 (iceZero (clearCapture s))
  let n := (s.rd ICE_CLEAR_COUNT).toNat + 1
  let s := parPut 1007 (clearRecord n t s) s
  let s := hostReply ch 0x08 q 0 [] (s.wr ICE_CLEAR_COUNT (BitVec.ofNat 32 n))
  let s := s.flag ICE_STATE F_ICE_STATE_CLEARING
  iceEraseStart { s with ice := { s.ice with erase := some 0 } }

/-- A write of ICE_CLEAR_CTL with GO: accepted once after each verified token (R475). -/
def iceClearGo (s : State) : State :=
  match s.ice.tokens with
  | (ch, q) :: r => if s.ice.erase.isSome then deny s else clearRun ch q { s with ice := { s.ice with tokens := r } }
  | [] => deny s

/-- ICEHOUSE_CLEAR (R475, R476). -/
def execIcehouseClear (m : Master) (s : State) : Host.Outcome State Fault Refusal := ok (if mayCmd m then iceClearGo s else deny s)

end Sys2Proof.Machine
end

