-- ==== Sys2Proof/Machine/Loader.lean ====
section
/-! DEFINITION. Loading of microcode (spec/07_track_sequencers.md, R256–R258): verification of an Allotment image, the commit of a master
copy, and the reload of a store. -/

namespace Sys2Proof.Machine

/-- The source addresses of the resident words and of the Allotment image. -/
def loadRes (s : State) : Nat := (s.rd SEQ_LOAD_RES_LO).toNat + 2 ^ 32 * s.fld SEQ_LOAD_RES_HI F_SEQ_LOAD_RES_HI_ADDR_HI
def loadAllot (s : State) : Nat := (s.rd SEQ_LOAD_ALLOT_LO).toNat + 2 ^ 32 * s.fld SEQ_LOAD_ALLOT_HI F_SEQ_LOAD_ALLOT_HI_ADDR_HI

/-- Whether a source lies 8-byte aligned in shared SRAM or rank 0. -/
def loadPlace (a n : Nat) : Bool :=
  a % 8 == 0 && (decide (0x20000000 ≤ a ∧ a + n ≤ 0x20800000) || decide (0x1000000000 ≤ a ∧ a + n ≤ 0x2000000000))

/-- `n` words from an address. -/
def memWords (a n : Nat) (s : State) : List W32 := (List.range n).map (fun i => BitVec.ofNat 32 (ofLe (s.rdBytes (a + 4 * i) 4)))

/-- The word that fills an Allotment. -/
def fillWord : W32 := 0xFC000000#32

/-- Entry addresses in an Allotment header. -/
def allotEntries (h : List Byte) : List Nat := (List.range 8).map (fun i => imgField h (16 + 2 * i) 2)

/-- Whether the format of an Allotment image is good: MAGIC, FORMAT, ABI, entries, and the body words beyond LENGTH (R256). -/
def allotFormat (h : List Byte) (body res : List W32) : Bool :=
  imgField h 0 4 == 0x414C4F54 && imgField h 4 2 == 1 && imgField h 6 2 == Config.residentAbi res &&
    (allotEntries h).all (fun e => e == 0 || decide (6144 ≤ e ∧ e ≤ 8191)) && (body.drop (imgField h 12 4)).all (fun w => w == fillWord)

/-- The verification of the image named by the load registers: RESULT, and the image when it is good (R256). -/
def loadCheck (s : State) : Nat × Option SeqImage :=
  let ra := loadRes s
  let aa := loadAllot s
  if !loadPlace ra 24576 || (aa != 0 && !loadPlace aa 8320) then (5, none)
  else
    let res := memWords ra 6144 s
    if aa = 0 then (2, some { words := res ++ List.replicate 2048 fillWord, allot := false, imageId := 0, entries := [] })
    else
      let h := s.rdBytes aa 64
      let body := memWords (aa + 64) 2048 s
      if !allotFormat h body res then (4, none)
      else if !Config.ed25519Verify (s.sec.custKey.getD s.sec.bootPk) (Config.sha512 (s.rdBytes aa 8256)) (s.rdBytes (aa + 8256) 64) then (3, none)
      else (2, some { words := res ++ body, allot := true, imageId := bytesWord h 2, entries := allotEntries h,
                      digest := Config.sha512 (s.rdBytes aa 8256) })

/-- SEQ_LOAD_STATUS.RESULT. -/
def loadResult (s : State) : Nat := s.fld SEQ_LOAD_STATUS F_SEQ_LOAD_STATUS_RESULT

/-- SEQ_LOAD_CTL.VERIFY: refused while a verification or a commit is in progress (R258). -/
def loadVerify (s : State) : State :=
  if loadResult s = 1 ∨ loadResult s = 6 then deny s
  else { s.setf SEQ_LOAD_STATUS F_SEQ_LOAD_STATUS_RESULT 1 with seqStaged := none }

/-- LOAD_VERIFY (R256). -/
def execLoadVerify (m : Master) (s : State) : Host.Outcome State Fault Refusal := ok (if mayCmd m then loadVerify s else deny s)

/-- LOAD_VERIFY_END: a failure leaves the master copy unchanged and emits 0x3006 (R256). -/
def execLoadVerifyEnd (s : State) : Host.Outcome State Fault Refusal :=
  ok (onlyIf (loadResult s == 1) (fun s =>
    let r := loadCheck s
    let s := { s.setf SEQ_LOAD_STATUS F_SEQ_LOAD_STATUS_RESULT r.1 with seqStaged := r.2 }
    if r.1 = 2 then s else emit 0x3006 s) s)

/-- The digest of a committed image's resident words (M3), and of its Allotment image (M4). -/
def residentDigest (i : SeqImage) : List Byte := Config.sha512 (wordBytes (i.words.take 6144))

/-- The commit: the master copy is replaced, each powered sequencer sets RELOAD_PENDING, and M3 and M4 are extended (R257, R487). -/
def loadCommit (s : State) : State :=
  match s.seqStaged with
  | some i =>
    if loadResult s ≠ 2 then deny s
    else
      let s := { s.setf SEQ_LOAD_STATUS F_SEQ_LOAD_STATUS_RESULT 7 with seqMaster := some i, seqStaged := none }
      let s := s.setf SEQ_LOAD_STATUS F_SEQ_LOAD_STATUS_GENERATION (satAdd 16 (s.fld SEQ_LOAD_STATUS F_SEQ_LOAD_STATUS_GENERATION) 1)
      let s := (s.setf SEQ_LOAD_STATUS F_SEQ_LOAD_STATUS_ALLOT_PRESENT (b2n i.allot)).wr SEQ_IMAGE_ID i.imageId
      let s := each (List.range 64) (fun a t => if t.domOn a then t.flag (SEQ_STATE a) F_SEQ_STATE_RELOAD_PENDING else t) s
      let s := extend 3 srcSeqLoad 0 (residentDigest i) s
      if i.allot then extend 4 srcSeqLoad 0 i.digest s else s
  | none => deny s

/-- LOAD_COMMIT (R257, R258). -/
def execLoadCommit (m : Master) (s : State) : Host.Outcome State Fault Refusal := ok (if mayCmd m then loadCommit s else deny s)

/-- A store is loaded from the master copy: its image and the entries valid in it. -/
def storeLoad (a : Nat) (s : State) : State :=
  let e := match s.seqMaster with
    | some i => i.entries
    | none => []
  let s := modSeq a (fun q => { q with img := s.seqMaster.map (fun i => i.words), entries := e }) s
  let v := match s.seqMaster with
    | some i => ((List.range 8).map (fun k => if i.entries.getD k 0 = 0 then 0 else 2 ^ k)).foldl (· + ·) 0
    | none => 0
  (s.setf (SEQ_ALLOT a) F_SEQ_ALLOT_ENTRY_VALID v).setf (SEQ_STATE a) F_SEQ_STATE_RELOAD_PENDING 0

/-- Whether a sequencer may take the master copy: it is LOADING, or a reload is pending and it is IDLE with nothing queued or HALTED. -/
def reloadReady (a : Nat) (s : State) : Bool :=
  seqState a s == 6 || (s.fld (SEQ_STATE a) F_SEQ_STATE_RELOAD_PENDING == 1 &&
    ((seqState a s == 1 && (seq a s).ops.isEmpty) || seqState a s == 5))

/-- SEQ_STORE_RELOAD (R257): the store is copied and the sequencer starts at word 0. -/
def execSeqStoreReload (a : Act) (s : State) : Host.Outcome State Fault Refusal :=
  let k := a.toNat
  ok (onlyIf (s.domOn k && reloadReady k s) (fun s => seqStart k (emit 0x3005 (storeLoad k s))) s)

end Sys2Proof.Machine
end

