-- ==== Sys2Proof/Machine/Read.lean ====
section
/-! DEFINITION. The read channel, the retention pool and deep retry (spec/05_reading.md, R171–R199): decisions on the bits that the chain of a
head slot delivers, decoding on the fly, the sector output queue, and the attempts of deep retry, whose results are operands. -/

namespace Sys2Proof.Machine

/-! ### The pool (R183–R188) -/

/-- The states of a pool slot (R183). -/
def poolFree : Nat := 0
def poolCapture : Nat := 1
def poolPending : Nat := 2
def poolRetained : Nat := 3
def poolRetrying : Nat := 4

/-- A pool slot. -/
def poolSlot (p : Nat) (s : State) : PoolSlot := tget {} s.pool p

/-- The number of pool slots in a state other than FREE. -/
def poolCount (st : Nat) (s : State) : Nat := (s.pool.filter (fun x => x.2.st == st)).length

/-- The pool's registers follow its slots (RCH_POOL_STATE, RCH_DR_STATE). -/
def poolShow (s : State) : State :=
  let c := poolCount poolCapture s
  let p := poolCount poolPending s
  let r := poolCount poolRetained s
  let t := poolCount poolRetrying s
  let free := 512 - (c + p + r + t)
  let s := ((s.setf RCH_POOL_STATE0 F_RCH_POOL_STATE0_FREE free).setf RCH_POOL_STATE0 F_RCH_POOL_STATE0_CAPTURE c).setf
    RCH_POOL_STATE0 F_RCH_POOL_STATE0_PENDING p
  let s := (s.setf RCH_POOL_STATE1 F_RCH_POOL_STATE1_RETAINED r).setf RCH_POOL_STATE1 F_RCH_POOL_STATE1_RETRYING t
  let s := s.setf RCH_POOL_STATE2 F_RCH_POOL_STATE2_MIN_FREE (min free (s.fld RCH_POOL_STATE2 F_RCH_POOL_STATE2_MIN_FREE))
  (s.setf RCH_DR_STATE F_RCH_DR_STATE_BUSY t).setf RCH_DR_STATE F_RCH_DR_STATE_QUEUED r

/-- Changes a pool slot. -/
def modPool (p : Nat) (f : PoolSlot → PoolSlot) (s : State) : State := poolShow { s with pool := tmod {} s.pool p f }

/-- A pool slot returns to FREE. -/
def poolRelease (p : Nat) (s : State) : State := poolShow { s with pool := tdel p s.pool }

/-- The slot of an entry, if it has one, returns to FREE (R194). -/
def entRelease (a id : Nat) (s : State) : State :=
  match flyGet a id s with
  | some e => (match e.pool with
    | some p => modFly a id (fun x => { x with pool := none }) (poolRelease p s)
    | none => s)
  | none => s

/-- The lowest-numbered FREE slot of a bank that is powered and not being drained (R185, R187). -/
def poolPick (s : State) : Option Nat :=
  (List.range 512).find? (fun p => (poolSlot p s).st == poolFree && s.domOn (82 + p / 128) &&
    !(s.fld RCH_POOL_CTL F_RCH_POOL_CTL_BANK_DRAIN).testBit (p / 128))

/-- Counts a statistic of the read channel (R200), or one of the pool. -/
def rchStat (a n : Nat) (s : State) : State := s.ctrSat (RCH_STAT a n) 48 1
def poolStat (n : Nat) (s : State) : State := s.ctrSat (RCH_POOL_STAT n) 48 1

/-! ### Outcomes (R178, R193–R195) -/

/-- Read causes (R249). -/
def rcSyncMiss : Nat := 1
def rcErasures : Nat := 2
def rcUnheld : Nat := 3
def rcRetFull : Nat := 4
def rcWaitAge : Nat := 5
def rcExhausted : Nat := 6
def rcCheck : Nat := 7
def rcQueue : Nat := 8
def rcPoison : Nat := 9
def rcAbandoned : Nat := 10

/-- A failure that was not recovered (R193): SLIP below RCH_RETRY.MAX_REVS, else UNRECOVERABLE, a Data-class fault whose data in the line
is poisoned (R195). The slot has returned to FREE before (R194). -/
def readFail (a id cause : Nat) (s : State) : State :=
  match flyGet a id s with
  | none => s
  | some e =>
    let s := rchStat a (55 + cause) (entRelease a id s)
    if e.reread < s.fld (RCH_RETRY a) F_RCH_RETRY_MAX_REVS then
      let s := emit 0x1102 (rchStat a (8 * e.head + 4) (s.flag (RCH_FLAGS a) F_RCH_FLAGS_SLIP))
      settle a id ocSlip cause 0 s
    else
      let s := rchStat a (8 * e.head + 5) (s.flag (RCH_FLAGS a) F_RCH_FLAGS_UNREC)
      let s := emit 0x1103 (lodge .data 0x1103 a cause false s)
      let s := if e.mode = 0 then sectorPoison e.addr s else s
      settle a id ocUnrec cause 0 s

/-- A sector whose poison sync mark was accepted (R178): it keeps its gate queue place until its last cell has passed
(R247); the word of one whose operation was ended by a fault is discarded (R252). -/
def readPoison (a id : Nat) (s : State) : State :=
  match flyGet a id s with
  | none => s
  | some e =>
    let s := emit 0x1104 ((entRelease a id s).flag (RCH_FLAGS a) F_RCH_FLAGS_POISON)
    let s := if e.mode = 0 then sectorPoison e.addr s else s
    if e.dead then modFly a id (fun x => { x with st := .done, taken := true }) s
    else modFly a id (fun x => { x with inQ := true }) (settle a id ocUnrec rcPoison 0 s)

/-! ### The sector output queue (R191, R197, R198) -/

/-- The sector output queue of an actuator, oldest first. -/
def outq (a : Nat) (s : State) : List OutSec := tget [] s.outqs a

/-- The sectors that an output queue holds (R197). -/
def outqMax : Nat := 16

/-- Changes an output queue. -/
def modOutq (a : Nat) (f : List OutSec → List OutSec) (s : State) : State := { s with outqs := tmod [] s.outqs a f }

/-- A decoded sector enters the output queue. -/
def outPush (a id oc iters : Nat) (user : List Byte) (s : State) : State :=
  modOutq a (fun q => q ++ [{ id := id, oc := oc, iters := iters, user := user }]) (modFly a id (fun x => { x with st := .out }) s)

/-- A decoded sector has left the output queue: its data are in DRAM unless they are discarded (mode 1), and its outcome is decided. -/
def readDone (a id oc iter : Nat) (user : List Byte) (s : State) : State :=
  match flyGet a id s with
  | none => s
  | some e =>
    let s := if e.mode = 0 then sectorWrite e.addr user s else s
    settle a id oc 0 iter s

/-- The oldest sector of an output queue leaves it. -/
def outDrain (a : Nat) (s : State) : State :=
  match outq a s with
  | [] => s
  | x :: r => readDone a x.id x.oc x.iters x.user (modOutq a (fun _ => r) s)

/-- A sector is lost at the output queue (R198). -/
def outLost (a id : Nat) (s : State) : State := readFail a id rcQueue (emit 0x1109 s)

/-- Why a sector that failed on the fly and is not retained has failed (R180, R185, R186): a mismatched check comes first; a sector without a
slot is UNHELD while deep retry is enabled. -/
def otfCause (e : FlyEnt) (chk : Bool) (drEn : Nat) : Nat :=
  if chk then rcCheck else if drEn ≠ 0 then rcUnheld else if e.syncMiss then rcSyncMiss else rcExhausted

/-- On-the-fly decoding has failed (R186): the slot is retained, or the outcome is decided. `chk`: it converged with a mismatched check. -/
def otfFail (a id : Nat) (chk : Bool) (s : State) : State :=
  match flyGet a id s with
  | none => s
  | some e =>
    let en := s.fld (RCH_RETRY a) F_RCH_RETRY_DR_EN
    if e.unheld ∨ e.pool = none ∨ en = 0 then readFail a id (otfCause e chk en) s
    else if poolCount poolRetained s + poolCount poolRetrying s < s.fld RCH_POOL_CTL F_RCH_POOL_CTL_RET_MAX then
      let n := s.poolOrd
      let s := modPool (e.pool.getD 0) (fun x => { x with st := poolRetained, cls := e.cls, ord := n, plan := [], conv := false }) s
      let s := rchStat a (8 * e.head + 2) { s with poolOrd := n + 1 }
      modFly a id (fun x => { x with st := .retained }) s
    else readFail a id rcRetFull (emit 0x1106 (poolStat 1 s))

/-! ### The commands -/

/-- READ_GATE_SECTOR_START (R185): a FREE slot is taken unless the head holds four, none is to be had, or the window is too long. -/
def execReadGateSectorStart (a : Act) (i : Slot) (tooLong : Bool) (s : State) : Host.Outcome State Fault Refusal :=
  let k := a.toNat
  ok (match readingEnt k i.toNat s with
    | none => s
    | some e =>
      if e.st ≠ .open ∨ e.pool.isSome ∨ e.unheld then s
      else
        let held := ((fly k s).filter (fun x => x.slot == i.toNat && x.pool.isSome &&
          (x.st == .open || x.st == .filling || x.st == .coded))).length
        let s := chainStart k i.toNat e.sector (rchStat k (8 * e.head) s)
        match (if tooLong ∨ held ≥ 4 then none else poolPick s) with
        | some p =>
          let s := modPool p (fun _ => { st := poolCapture, act := k, id := e.id, cls := e.cls }) s
          modFly k e.id (fun x => { x with pool := some p }) s
        | none =>
          let s := emit 0x1105 (poolStat 0 (s.flag (RCH_FLAGS k) F_RCH_FLAGS_UNHELD))
          modFly k e.id (fun x => { x with unheld := true }) s)

/-- Where the sync search of a head slot finds a mark (R177): whether it is the poison mark, and the first bit of the mark. -/
def syncFind (a i : Nat) (s : State) : Option (Bool × Nat) :=
  let b := (chain a i s).bits
  let win := s.fld (RCH_SYNC a) F_RCH_SYNC_SYNC_WIN
  let tol := s.fld (RCH_SYNC a) F_RCH_SYNC_SYNC_TOL
  match markFind b dataMark syncExpected win tol, markFind b poisonMark syncExpected win tol with
  | some d, some p => if p.2 < d.2 then some (true, p.1) else some (false, d.1)
  | some d, none => some (false, d.1)
  | none, some p => some (true, p.1)
  | none, none => none

/-- The retention slot keeps what lies from sample `from'` of the sector on (R184). -/
def captureTrim (e : FlyEnt) (from' : Nat) (s : State) : State :=
  match e.pool with
  | none => s
  | some p => modPool p (fun x => { x with base := max x.base from', samples := x.samples.drop (from' - x.base) }) s

/-- SYNC_MARK_DECISION: the search window has passed (R177, R178). The codeword begins after the mark, on a sync miss at its expected place; the
capture keeps the last 64 samples before the mark, on a sync miss those from SYNC_WIN bits before its expected place on (R184). -/
def execSyncMarkDecision (a : Act) (i : Slot) (s : State) : Host.Outcome State Fault Refusal :=
  let k := a.toNat
  let j := i.toNat
  ok (match readingEnt k j s with
    | none => s
    | some e =>
      if e.st ≠ .open ∨ !(chain k j s).hunting then s
      else match syncFind k j s with
        | some (true, _) => readPoison k e.id (modChain k j (fun c => { c with phase := .ended }) s)
        | some (false, p) => codeBegin k j (p + 32) (captureTrim e (bitPos k j p s - 64) s)
        | none =>
          let p := syncExpected - s.fld (RCH_SYNC k) F_RCH_SYNC_SYNC_WIN
          let s := codeBegin k j (syncExpected + 32) (captureTrim e (bitPos k j p s) s)
          emit 0x110C (rchStat k (8 * e.head + 6) (modFly k e.id (fun x => { x with syncMiss := true }) s)))

/-- SAMPLE_QUEUE_OVERFLOW: the positions that the sample queue cannot accept become erasures (R171). -/
def execSampleQueueOverflow (a : Act) (i : Slot) (n : BitVec 8) (s : State) : Host.Outcome State Fault Refusal :=
  let k := a.toNat
  ok (deliver k i.toNat 7 false (List.replicate n.toNat none) 0 (emit 0x110B (s.flag (RCH_FLAGS k) F_RCH_FLAGS_Q_OVF)))

/-- The codewords in a head slot's buffers, oldest first (R181). -/
def codewords (a slot : Nat) (s : State) : List FlyEnt :=
  (fly a s).filter (fun e => e.slot == slot && e.mode != 2 && (e.st == .filling || e.st == .coded))

/-- The bin of a converged codeword's iterations (the table of statistics). -/
def iterBin (n : Nat) : Nat := if n ≤ 8 then (n - 1) / 2 else if n ≤ 12 then 4 else if n ≤ 16 then 5 else 6

/-- A codeword has ended without converging, or with a mismatched check: it is counted and has failed (R180, R186, R465). -/
def otfEnd (a id : Nat) (conv chk : Bool) (iters : Nat) (s : State) : State :=
  let s := histAdd 1 (binIter (if conv then some iters else none)) s
  let s := rchStat a (48 + if conv then iterBin iters else 7) s
  otfFail a id chk s

/-- CODEWORD_START: with no free buffer the codeword under decoding is stopped and fails (R181). -/
def execCodewordStart (a : Act) (i : Slot) (s : State) : Host.Outcome State Fault Refusal :=
  let k := a.toNat
  ok (match readingEnt k i.toNat s with
    | none => s
    | some e =>
      if e.st ≠ .open then s
      else
        let cw := codewords k i.toNat s
        let s := if 4 ≤ cw.length then
            match cw.find? (fun x => x.st == .coded) with
            | some f => otfEnd k f.id false false 0 (emit 0x1108 ((modFly k f.id (fun x => { x with forced := true }) s).flag
                (RCH_FLAGS k) F_RCH_FLAGS_FORCED_STOP))
            | none => s
          else s
        modFly k e.id (fun x => { x with st := .filling }) s)

/-- The erased positions of a codeword (R179): those the chain marked and those that never came, at the end of a gate for instance (R137). -/
def codeErased (c : Chain) : Nat := (ldpcN - c.n) + c.bad

/-- CODEWORD_COMPLETE: the codeword's ratios stand in their buffer (R181); one with more than ERASE_MAX erased positions is not decoded (R179). The
capture ends with the postamble (R184), and the sector's last cell has passed, so its gate queue place is free (R247); of a poisoned sector that is
all (R178). -/
def execCodewordComplete (a : Act) (i : Slot) (s : State) : Host.Outcome State Fault Refusal :=
  let k := a.toNat
  let j := i.toNat
  ok (match (fly k s).find? (fun e => e.slot == j && e.mode != 2 && e.st == .done && e.inQ) with
    | some e => queueFree k e.id s
    | none => match readingEnt k j s with
    | none => s
    | some e =>
      if e.st ≠ .filling then s
      else
        let s := chainWork k j (chainFlush (chainPar k j e.cyl s)) s
        let s := if (chain k j s).phase = .resync then modChain k j (resyncEnd (chainPar k j e.cyl s)) s else s
        let c := chain k j s
        let s := modChain k j (fun c => { c with phase := .ended, bits := [], code := [] }) s
        let s := modFly k e.id (fun x => { x with st := .coded, inQ := false, code := c.code.reverse, erased := codeErased c }) s
        if s.fld (RCH_SYNC k) F_RCH_SYNC_ERASE_MAX < codeErased c then readFail k e.id rcErasures s
        else match e.pool with
          | some p =>
            let stop := c.last + 32
            modPool p (fun x => { x with st := poolPending, stop := some stop, samples := x.samples.take (stop + 1 - x.base) }) s
          | none => s)

/-- The decoding of a codeword on the fly, within the limits of RCH_OTF (R180, R182). -/
def otfRun (a : Nat) (e : FlyEnt) (s : State) : Decoded :=
  ldpcDecode s.ldpc e.code (s.fld (RCH_OTF a) F_RCH_OTF_MAX_ITER) (s.fld (RCH_OTF a) F_RCH_OTF_ES_ITER) (s.fld (RCH_OTF a) F_RCH_OTF_ES_THR)

/-- The information bytes of a decoded codeword. -/
def Decoded.info (d : Decoded) : List Byte := bytesOfBits (d.bits.take ldpcK)

/-- OTF_DECODE_END: the oldest complete codeword of a head slot is decoded and enters the output queue, is lost where that is full, or has failed
(R180, R182, R186, R198). -/
def execOtfDecodeEnd (a : Act) (i : Slot) (s : State) : Host.Outcome State Fault Refusal :=
  let k := a.toNat
  ok (match (codewords k i.toNat s).find? (fun x => x.st == .coded) with
    | none => s
    | some e =>
      let r := otfRun k e s
      match (if r.conv then decodeInfo (e.aw k) r.info else none) with
      | none => otfEnd k e.id r.conv r.conv r.iters s
      | some user =>
        let s := histAdd 1 (binIter (some r.iters)) s
        let s := rchStat k (8 * e.head + 1) (rchStat k (48 + iterBin r.iters) (entRelease k e.id s))
        if (outq k s).length < outqMax then outPush k e.id ocDecoded r.iters user s else outLost k e.id s)

/-- Whether ratio `j` of a codeword, 5 bits each, lies partly in 64-bit word `w` of its buffer (R199). -/
def inCodeWord (w j : Nat) : Bool := decide (64 * w / 5 ≤ j ∧ j ≤ (64 * w + 63) / 5)

/-- An uncorrectable word of a codeword buffer: its ratios become 0 (R199). Buffer `b` of a head slot counts its codewords, oldest first. -/
def codeEcc (a slot b w : Nat) (s : State) : State :=
  match (codewords a slot s)[b]? with
  | none => s
  | some e =>
    if e.st = .filling then
      modChain a slot (fun c => { c with code := c.code.mapIdx (fun j v => if inCodeWord w (c.code.length - 1 - j) then 0 else v) }) s
    else modFly a e.id (fun x => { x with code := x.code.mapIdx (fun j v => if inCodeWord w j then 0 else v) }) s

/-- An uncorrectable word of an output queue: its sector is lost before it reaches DRAM (R198). -/
def outEcc (a n : Nat) (s : State) : State :=
  match (outq a s)[n]? with
  | none => s
  | some x => outLost a x.id (modOutq a (fun q => q.eraseIdx n) s)

/-- An uncorrectable word of a pool slot: its samples, at most 10, become erasures (R188). -/
def poolEcc (p w : Nat) (s : State) : State :=
  { s with pool := tmod {} s.pool p (fun x => { x with
      samples := x.samples.mapIdx (fun j v => if 64 * w / 7 ≤ j ∧ j ≤ (64 * w + 63) / 7 then none else v) }) }

/-- POOL_ECC_ERROR (R188, R198, R199): `place` 0 is word `word` of pool slot `p`; 1 that word of codeword buffer `p` mod 4 of head slot `p` / 4; 2 a
word of the sector at place `p` of the output queue. -/
def execPoolEccError (a : Act) (place : BitVec 2) (p : BitVec 9) (word : BitVec 12) (corrected : Bool) (s : State) :
    Host.Outcome State Fault Refusal :=
  let k := a.toNat
  ok (if corrected then poolStat 6 s
    else
      let s := emit 0x110A (poolStat 7 (s.flag (RCH_FLAGS k) F_RCH_FLAGS_ECC_UNCORR))
      match place.toNat with
      | 0 => poolEcc p.toNat word.toNat s
      | 1 => codeEcc k (p.toNat / 4 % 4) (p.toNat % 4) word.toNat s
      | 2 => outEcc k p.toNat s
      | _ => s)

/-- The plan of deep retry of a sector at its dispatch (R172, R190): the target in the zone of its cylinder, passes and iterations of each enabled
entry in order. -/
def drPlan (a cyl : Nat) (s : State) : List (Nat × Nat × Nat) :=
  ((List.range 5).filter (fun k => s.fld (RCH_DR_PLAN k) F_RCH_DR_PLAN_EN == 1)).map (fun k =>
    (targetIndex a (zoneOf a cyl s) (s.fld (RCH_DR_PLAN k) F_RCH_DR_PLAN_TSEL) s,
     s.fld (RCH_DR_PLAN k) F_RCH_DR_PLAN_PASSES, s.fld (RCH_DR_PLAN k) F_RCH_DR_PLAN_ITERS))

/-- The retained slot dispatched next: by class, then in order of failure (R189). -/
def drNext (s : State) : Option Nat :=
  (s.pool.filter (fun x => x.2.st == poolRetained)).foldl (fun best x =>
    match best with
    | none => some x.1
    | some b =>
      let y := poolSlot b s
      if x.2.cls < y.cls ∨ (x.2.cls = y.cls ∧ x.2.ord < y.ord) then some x.1 else some b) none

/-- A sector's plan has ended without recovery (R191). -/
def drExhausted (p : Nat) (s : State) : State :=
  let x := poolSlot p s
  readFail x.act x.id (if x.conv then rcCheck else rcExhausted) s

/-- The attempt at the head of a sector's plan begins (R190): the taps are trained toward its target from those of the head slot, the ratios of the
first detector pass over the window follow, and the sync mark of a sector that missed it is searched for with a tolerance of 8; not found, the
codeword is taken at its expected place. -/
def drBegin (p : Nat) (s : State) : State :=
  let x := poolSlot p s
  match x.plan, flyGet x.act x.id s with
  | (t, _, _) :: _, some e =>
    let g := targetTaps t s
    let own := (List.range 20).map (fun k => toSigned 10 (s.fld (RCH_EQ_TAPS x.act e.slot k) F_RCH_EQ_TAPS_TAP))
    let taps := Config.retryTaps g own x.samples
    let llrs := Config.retryLlrs g taps x.samples []
    let win := s.fld (RCH_SYNC x.act) F_RCH_SYNC_SYNC_WIN
    let exp := if e.syncMiss then win else 64
    let hit := if e.syncMiss then markFind (llrs.map (fun v => { llr := v, erased := false, pos := 0 })) dataMark exp win 8 else none
    modPool p (fun y => { y with taps := taps, llrs := llrs, start := (match hit with
      | some h => h.1
      | none => exp) + 32 }) (poolStat 5 s)
  | _, _ => s

/-- What an attempt comes to: the pass, the iteration and the information bytes with which the sector is recovered, if it is, and whether some
decoding converged. -/
structure Retried where
  found : Option (Nat × Nat × List Byte)
  conv  : Bool
  deriving DecidableEq, Repr

/-- The detector passes of an attempt, the next one numbered `n`, each followed by at most `is` iterations: a pass whose decoding converges with a
matching check recovers the sector; the next pass has the decoder's extrinsic information, what the decoding added to the ratios (R190). -/
def drPasses (t : Shifts) (g : List Int) (x : PoolSlot) (aw is : Nat) : Nat → Nat → List Int → Bool → Retried
  | 0, _, _, conv => { found := none, conv := conv }
  | f + 1, n, llrs, conv =>
    let ch := (llrs.drop x.start).take ldpcN
    let d := ldpcDecode t ch is 0 0
    if d.conv && (decodeInfo aw d.info).isSome then { found := some (n, d.iters, d.info), conv := true }
    else
      let ext := List.zipWith (· - ·) d.llr ch
      drPasses t g x aw is f (n + 1) (Config.retryLlrs g x.taps x.samples ext) (conv || d.conv)

/-- The attempt that runs on a pool slot (R190). -/
def drAttempt (p : Nat) (s : State) : Retried :=
  let x := poolSlot p s
  match x.plan, flyGet x.act x.id s with
  | (t, ps, is) :: _, some e => drPasses s.ldpc (targetTaps t s) x (e.aw x.act) is ps 1 x.llrs false
  | _, _ => { found := none, conv := false }

/-- DR_DISPATCH (R189, R190). -/
def execDrDispatch (s : State) : Host.Outcome State Fault Refusal :=
  ok (match drNext s with
    | none => s
    | some p =>
      if poolCount poolRetrying s ≥ 32 then s
      else
        let x := poolSlot p s
        let plan := match flyGet x.act x.id s with
          | some e => drPlan x.act e.cyl s
          | none => []
        let s := modFly x.act x.id (fun e => { e with st := .retrying }) (poolStat 3 s)
        let s := modPool p (fun y => { y with st := poolRetrying, plan := plan }) s
        if plan.isEmpty then drExhausted p s else drBegin p s)

/-- DR_ATTEMPT_END: an attempt has ended without recovery, its passes done; `conv` when it converged and failed the check (R190, R191). What the
attempt comes to is computed from the slot's ratios; a row that says otherwise has no effect. -/
def execDrAttemptEnd (p : BitVec 9) (conv : Bool) (s : State) : Host.Outcome State Fault Refusal :=
  let k := p.toNat
  let r := drAttempt k s
  ok (onlyIf ((poolSlot k s).st == poolRetrying && r.found.isNone && r.conv == conv) (fun s =>
    let s := modPool k (fun x => { x with plan := x.plan.drop 1, conv := x.conv || conv }) s
    if (poolSlot k s).plan.isEmpty then drExhausted k s else drBegin k s) s)

/-- DR_RECOVERED: in the pass and the iteration named the syndrome is zero and the check of the information bytes matches, as the attempt on the
slot's ratios gives them; while the output queue is full the decoder holds the sector (R190, R191). -/
def execDrRecovered (p : BitVec 9) (pass : BitVec 3) (iters : BitVec 5) (info : List Byte) (s : State) : Host.Outcome State Fault Refusal :=
  let k := p.toNat
  let x := poolSlot k s
  ok (if x.st ≠ poolRetrying ∨ (drAttempt k s).found ≠ some (pass.toNat, iters.toNat, info) ∨ outqMax ≤ (outq x.act s).length then s
    else match flyGet x.act x.id s with
      | none => s
      | some e => match decodeInfo (e.aw x.act) info with
        | none => s
        | some user =>
          let s := emit 0x1101 (rchStat x.act (8 * e.head + 3) (poolStat 4 (entRelease x.act x.id s)))
          outPush x.act x.id ocRecovered 0 user s)

/-- RETAINED_WAIT_AGE: MAX_WAIT × 100 µs without dispatch (R192). -/
def execRetainedWaitAge (p : BitVec 9) (s : State) : Host.Outcome State Fault Refusal :=
  let k := p.toNat
  let x := poolSlot k s
  ok (onlyIf (x.st == poolRetained) (fun s => readFail x.act x.id rcWaitAge (emit 0x1107 (poolStat 2 s))) s)

/-- An actuator reset takes away every sector gated for reading whose outcome is not decided; their slots return to FREE, and what waits in the
output queue is gone (R196). -/
def readAbandon (a : Nat) (s : State) : State :=
  let s := modOutq a (fun _ => []) s
  let l := (fly a s).filter (fun e => e.mode != 2 && e.st != .queued && e.st != .done)
  each l (fun e t => settle a e.id ocSlip rcAbandoned 0 (entRelease a e.id t)) s

end Sys2Proof.Machine
end

