-- ==== Sys2Proof/Machine/Regs.lean ====
section
/-! DEFINITION. Registers by address: the entry of the register map that holds a key, and the return of reset domains to their reset values
(R4, R8, R503, R544). -/

namespace Sys2Proof.Machine

/-- Whether an offset is one of those that strides, outermost first, reach. -/
def strideHas : List (Nat × Nat) → Nat → Bool
  | [], off => off == 0
  | (st, n) :: r, off => decide (off / st < n) && strideHas r (off % st)

/-- Whether an entry of the map covers a key. -/
def RegSpec.covers (r : RegSpec) (k : Nat) : Bool := decide (r.base ≤ k) && strideHas r.strides (k - r.base)

/-- The entry of a key, among the 32-bit registers. -/
def specOf (k : Nat) : Option RegSpec := regTable.find? (fun r => r.covers k)

/-- The counter that holds a word: the key of its low word and its width (R33, R464). -/
def ctrOf (k : Nat) : Option (Nat × Nat) :=
  match ctrTable.find? (fun c => c.1.covers k) with
  | some c => some (k, c.2)
  | none =>
    match ctrTable.find? (fun c => c.1.covers (k - 4)) with
    | some c => some (k - 4, c.2)
    | none => none

/-- The reset domain of a key. -/
def domOf (k : Nat) : Option Dom :=
  match specOf k with
  | some r => some r.dom
  | none => (ctrTable.find? (fun c => c.1.covers k || c.1.covers (k - 4))).map (fun c => c.1.dom)

/-- The register of a key with its reset value: tap 9 of an equaliser and the five words of the deep-retry plan have values of their own
(RCH_EQ_TAPS, RCH_DR_PLAN of spec/05_reading.md). -/
def keyReg (k : Nat) (r : RegSpec) : Reg :=
  if r.base = 0x40006120 then RCH_DR_PLAN ((k - 0x40006120) / 4)
  else if r.base = 0x40002400 then RCH_EQ_TAPS ((k - 0x40000000) / 0x40000) (k % 0x200 / 0x80) (k % 0x80 / 4)
  else ⟨k, BitVec.ofNat 32 r.rst⟩

/-- Whether a key is reset with a set of domains. -/
def inDoms (ds : List Dom) (k : Nat) : Bool :=
  match domOf (k % 2 ^ 56) with
  | some d => ds.contains d
  | none => false

/-- The registers, counters and captured words whose keys satisfy a test return to reset with a set of domains (R8, R544). -/
def resetKeys (p : Nat → Bool) (ds : List Dom) (s : State) : State :=
  { s with regs := s.regs.filter (fun e => !(p e.1 && inDoms ds e.1)),
           ctrs := s.ctrs.filter (fun e => !(p e.1 && inDoms ds e.1)),
           snap := s.snap.filter (fun e => !(p e.1 && inDoms ds e.1)) }

/-- Whether a key belongs to an actuator's ACT instance or to its SRV registers of R130 (R4, R498). -/
def actKey (a k : Nat) : Bool :=
  decide (0x40000000 + 0x40000 * a ≤ k ∧ k < 0x40040000 + 0x40000 * a) ||
    decide (0x41100100 + 0x10000 * (a / 4) + 0x40 * (a % 4) ≤ k ∧ k < 0x41100140 + 0x10000 * (a / 4) + 0x40 * (a % 4))

end Sys2Proof.Machine
end

