-- ==== Sys2Proof/Machine/Stile.lean ====
section
/-! DEFINITION. Stile locks (spec/10_firmware_platform.md, R379–R381). -/

namespace Sys2Proof.Machine

/-- A lock. -/
def lockAt (i : Nat) (s : State) : LockSt := tget {} s.locks i

/-- Stores a lock. -/
def setStile (i : Nat) (l : LockSt) (s : State) : State := { s with locks := tput {} s.locks i l }

/-- The word of STL_LOCK or STL_PEEK for a lock: HELD, BROKEN and, when held, OWNER in bits 3:1. -/
def lockWord (held broken : Bool) (owner : Nat) : W32 :=
  BitVec.ofNat 32 (b2n held * 2 ^ 31 + b2n broken * 2 ^ 30 + owner * 2)

/-- What STL_PEEK reads (R379): nothing changes. -/
def peekWord (i : Nat) (s : State) : W32 :=
  let l := lockAt i s
  lockWord l.held l.broken (if l.held then l.owner else 0)

/-- A lock freed by the reset of its holder or by STL_BREAK is marked BROKEN (R380). -/
def lockFreeBroken (i : Nat) (code : Nat) (s : State) : State :=
  emit code (setStile i { held := false, broken := true, owner := 0 } s)

/-- Every lock a core holds is freed and marked broken by its reset, with event 0x8004 for each (R362, R380). -/
def locksOfCore (n : Nat) (s : State) : State :=
  each (List.range 128) (fun i t => if (lockAt i t).held ∧ (lockAt i t).owner = n then lockFreeBroken i 0x8004 t else t) s

/-- LOCK_ACQUIRE: a core's read of a free lock acquires it and returns HELD 0 with BROKEN as it stood, which the acquire
clears; a read of a held lock returns HELD 1 and the holder and is counted; a read by another master acts as a read of
STL_PEEK (R379, R380); the host does not reach the block (R30). -/
def execLockAcquire (m : Master) (i : Lock) (s : State) : Host.Outcome State Fault Refusal :=
  let l := lockAt i.toNat s
  ok (if m.toNat = 9 then { s with rdata := 0 }
    else if !isCore m.toNat then { s with rdata := peekWord i.toNat s }
    else if l.held then
      { (s.incWrap STL_CONTEND 1) with rdata := lockWord true l.broken l.owner }
    else
      { setStile i.toNat { held := true, broken := false, owner := m.toNat } s with
        rdata := lockWord false l.broken m.toNat })

/-- LOCK_RELEASE: by the holder it frees the lock; by any other master it is refused and counted (R380). -/
def execLockRelease (m : Master) (i : Lock) (s : State) : Host.Outcome State Fault Refusal :=
  let l := lockAt i.toNat s
  ok (if l.held ∧ l.owner = m.toNat then setStile i.toNat { l with held := false, owner := 0 } s else deny s)

/-- LOCK_BREAK: STL_BREAK with GO frees a held lock, marks it BROKEN and emits 0x8005; a free lock is not touched (R380). -/
def execLockBreak (m : Master) (i : Lock) (s : State) : Host.Outcome State Fault Refusal :=
  if m.toNat ≠ 9 then
    let s := s.setf STL_BREAK F_STL_BREAK_LOCK i.toNat
    ok (if (lockAt i.toNat s).held then lockFreeBroken i.toNat 0x8005 s else s)
  else ok (deny s)

end Sys2Proof.Machine
end

