-- ==== Sys2Proof/Machine/Reset.lean ====
section
/-! DEFINITION. Resets (spec/15_bring_up.md, R497–R507; spec/12_gatehouse.md, R430–R434, R443, R451, R453): power-up of an actuator domain,
actuator resets, core resets, the internal reset, and what happens when a retract ends. -/

namespace Sys2Proof.Machine

/-- Changes power, clocks and resets. -/
def modPlat (f : PlatSt → PlatSt) (s : State) : State := { s with plat := f s.plat }

/-- Changes the Gatehouse. -/
def modGh (f : GhSt → GhSt) (s : State) : State := { s with gh := f s.gh }

/-! ### Calibration items (R514) -/

/-- An item begins to move to a target, unless it is there; CAL_STATUS.APPLYING shows that items are stepping. -/
def calMoveTo (cls item : Nat) (target : Int) (s : State) : State :=
  let l := s.cal.moves.filter (fun m => !(m.cls == cls && m.item == item))
  let l := if tget 0 s.cal.tap (4096 * cls + item) = target then l else l ++ [⟨cls, item, target⟩]
  { s with cal := { s.cal with moves := l } }.setf CAL_STATUS F_CAL_STATUS_APPLYING (b2n !l.isEmpty)

/-- Items of a class are applied: each moves to its accepted value, or to its default. -/
def calApply (cls : Nat) (items : List Nat) (s : State) : State := each items (fun i t => calMoveTo cls i (tget 0 t.cal.vals (4096 * cls + i)) t) s

/-- The items of an actuator: upstream lanes (class 0) and heads (class 1). -/
def calActItems (cls a : Nat) : List Nat := if cls = 0 then (List.range 4).map (fun i => 4 * a + i) else (List.range 6).map (fun i => 6 * a + i)

/-! ### An actuator's domain (R498, R504, R505) -/

/-- What of an actuator is neither a register of domain ACTPWR nor its result queue returns to its state after reset. -/
def actState0 (a : Nat) (res : List (W32 × W32)) (s : State) : State :=
  { s with acts := tput {} s.acts a {}, lnks := tput {} s.lnks a {}, seqs := tput {} s.seqs a { res := res },
           dn := s.dn.filter (fun e => e.1 / 4 != a), up := s.up.filter (fun e => e.1 / 4 != a), wOff := s.wOff.filter (fun e => e.1 / 4 != a),
           pool := s.pool.filter (fun e => !(e.2.st != 0 && e.2.act == a)), chains := s.chains.filter (fun e => e.1 / 4 != a),
           outqs := tdel a s.outqs }

/-- Whether lane deskew items of an actuator still step. -/
def deskewing (a : Nat) (s : State) : Bool := s.cal.moves.any (fun m => m.cls == 0 && m.item / 4 == a)

/-- The link of an actuator whose domain comes up trains when its lane deskew has been applied (R514). -/
def trainUp (a : Nat) (s : State) : State := if deskewing a s then modLnk a (fun x => { x with trainWait := true }) s else startTraining a s

/-- An actuator's domain comes up: its registers are at reset, isolation is imposed again, its items of class 0 and 1 are applied and its
link trains; its store is loaded from the master copy (R149, R257, R498, R514, R540). -/
def actPowerUp (a : Nat) (s : State) : State :=
  let s := actState0 a [] (resetKeys (actKey a) [.act, .actpwr] s)
  let s := reimposeIsolation a (showLoaded (hdaOf a) s)
  let s := refreshForced a s
  trainUp a (calApply 1 (calActItems 1 a) (calApply 0 (calActItems 0 a) s))

/-- The sectors of the running operation taken away by an actuator reset get SECTOR records with outcome SLIP and cause ABANDONED while there
is room; the answer tells how many were left out (R505). -/
def abandonRecords (a d : Nat) : List FlyEnt → State → Nat × State
  | [], s => (0, s)
  | e :: r, s =>
    if resRoom a s then abandonRecords a d r (resPost a (resW0 2 (descTag a d s) e.k) (outcomeWord ocSlip rcAbandoned e.slot 0 e.k) s)
    else
      let x := abandonRecords a d r s
      (x.1 + 1, x.2)

/-- The operations of a sequencer end with DONE CANCELLED, RESET = 1 (R505). -/
def opsCancelled (a : Nat) (taken : List FlyEnt) (s : State) : State :=
  let run := runSlot a s
  let s := each ((seq a s).ops.filter (fun o => some o.slot != run)) (fun o t => opDone a o.slot 2 0 false true 0 t) s
  match run with
  | none => s
  | some d =>
    let mine := taken.filter (fun e => e.op == d)
    let r := abandonRecords a d mine s
    opDone a d 2 0 (decide (0 < r.1)) true mine.length r.2

/-- The loop slots of an actuator close with CLOSE_MODE 2 (R108, R504). An open or close that still waits for its computation start stays pending
(DESIGN CHOICE, log 147). -/
def actSlotsClose (a : Nat) (s : State) : State :=
  each (vcmSlot a :: [0, 1, 2, 3].map (maSlot a)) (fun l t => closeSlot (hdaOf a) l 2 t) s

/-- An actuator reset after its heads are on the ramp (R504, R505): halt, flush, slots freed and closed, registers of domain ACT at reset,
the store loaded again, and the link trained. -/
def actReinit (a : Nat) (s : State) : State :=
  let taken := (fly a s).filter (fun e => e.mode != 2 && e.st != .queued && e.st != .done && !e.dead)
  let s := readAbandon a (seqStop a s)
  let s := actSlotsClose a (opsCancelled a taken s)
  let s := actState0 a (seq a s).res (resetKeys (actKey a) [.act] s)
  startTraining a (refreshForced a (reimposeIsolation a (showLoaded (hdaOf a) s)))

/-- PWR_ACT_RST_BUSY. -/
def actRstShow (a : Nat) (b : Bool) (s : State) : State :=
  let r := PWR_ACT_RST_BUSY (a / 32)
  s.wr r (BitVec.ofNat 32 (setBit (s.rd r).toNat (a % 32) b))

/-- Whether an actuator reset of an actuator is in progress. -/
def actRstBusy (a : Nat) (s : State) : Bool := s.plat.actRst.any (fun x => x.1 == a)

/-- An actuator reset begins (R504); `recover`: under RECOVER (R443). -/
def actReset (a : Nat) (recover : Bool) (s : State) : State :=
  let s := actRstShow a true (modPlat (fun p => { p with actRst := p.actRst ++ [(a, recover)] }) s)
  let s := fenceOff a 15 causeFence s
  if loaded a s then startRetract a false false true s else actReinit a s

/-- An actuator reset is over. -/
def actRstDone (a : Nat) (s : State) : State :=
  actRstShow a false (modPlat (fun p => { p with actRst := p.actRst.filter (fun x => x.1 != a) }) s)

/-- The answer to RECOVER (R443): status 0, or 4 with GH_ACT_STATUS. -/
def recoverReply (a : Nat) (good : Bool) (s : State) : State :=
  let w := s.gh.waits.filter (fun x => x.op == 4 && x.acts == [a])
  let s := modGh (fun g => { g with waits := g.waits.filter (fun x => !(x.op == 4 && x.acts == [a])) }) s
  each w (fun x t => ghReply x.core 4 x.seq (if good then 0 else 4) (if good then [] else [t.rd (GH_ACT_STATUS a)]) t) s

/-- Isolation of an actuator is released (R540). -/
def releaseIsolation (a : Nat) (s : State) : State :=
  let r := GH_ISOLATED (a / 32)
  let s := s.wr r (BitVec.ofNat 32 (setBit (s.rd r).toNat (a % 32) false))
  refreshForced a (setActState a 0 s)

/-- Training has ended: an actuator reset in progress ends (R443, R504). Isolation is released by the Gatehouse cores, if they execute (R424). -/
def actTrained (a : Nat) (s : State) : State :=
  match s.plat.actRst.find? (fun x => x.1 == a) with
  | none => s
  | some (_, false) => emit 0x8009 (actRstDone a s)
  | some (_, true) =>
    if (linkMode a s = 2 ∨ linkMode a s = 3) ∧ ghRunning s then
      recoverReply a true (emit 0xA00B (emit 0x8009 (releaseIsolation a (actRstDone a s))))
    else recoverReply a false (actRstDone a s)

/-- TRAINING_END (R146, R149, R150, R504). -/
def execTrainingEnd (a : Act) (locked : BitVec 8) (reply : Slot) (ident : BitVec 16) (s : State) : Host.Outcome State Fault Refusal :=
  let k := a.toNat
  ok (onlyIf (linkMode k s == 1)
    (fun s => actTrained k (endTraining k locked.toNat reply.toNat ident.toNat s)) s)

/-- Refusals of PWR_ACT_RST (R506): the code, or none. -/
def actRstRefusal (a : Nat) (s : State) : Option Nat :=
  if actState a s = 7 ∨ isolated a s then some 1 else if graveLatched s then some 2 else if actRstBusy a s then some 3 else none

/-- PWR_ACT_RST with GO (R504, R506). -/
def actRstReq (v : W32) (s : State) : State :=
  let a := fget v F_PWR_ACT_RST_ACT
  let s := (s.setf PWR_ACT_RST F_PWR_ACT_RST_ACT a).setf PWR_ACT_RST_RESULT F_PWR_ACT_RST_RESULT_ACT a
  let res := fun (n : Nat) (t : State) => t.setf PWR_ACT_RST_RESULT F_PWR_ACT_RST_RESULT_RESULT n
  match actRstRefusal a s with
  | some c => deny (res c s)
  | none => actReset a false (res 0 s)

/-- A write of PWR_ACT_RST. -/
def actRstWrite (v : W32) (s : State) : State :=
  if v.toNat.testBit 31 then actRstReq v s else s.setf PWR_ACT_RST F_PWR_ACT_RST_ACT (fget v F_PWR_ACT_RST_ACT)

/-- ACTUATOR_RESET (R504). -/
def execActuatorReset (m : Master) (v : W32) (s : State) : Host.Outcome State Fault Refusal :=
  ok (if mayCmd m then actRstReq v s else deny s)

/-! ### Core resets (R362) -/

/-- Requests of cores that are reset run to their end without a reply (R449). -/
def ghForget (cores : List Nat) (s : State) : State :=
  let s := { s with held := s.held.map (fun m => if 36 ≤ m.chan ∧ cores.contains (m.chan - 36) then { m with dead := true } else m) }
  modGh (fun g => { g with
    waits := g.waits.filter (fun w => !cores.contains w.core),
    chopTest := g.chopTest.map (fun x => (x.1, x.2.map (fun y => if cores.contains y.1 then (8, y.2) else y))) }) s

/-- The messages that the firmware of cores has under way are not resumed (R375): long operations, those that wait for the security engine or
for the clear of the Icehouse, and those not yet taken. -/
def msgForget (cores : List Nat) (s : State) : State :=
  let mine := fun (c : Nat) => decide (c < 8) && cores.contains (routedCore c s)
  let s := { s with asm := s.asm.filter (fun x => !mine x.1), held := s.held.filter (fun m => !mine m.chan),
                    ice := { s.ice with tokens := s.ice.tokens.filter (fun t => !mine t.1) },
                    sec := { s.sec with waits := s.sec.waits.filter (fun w => !mine w.1) } }
  modHif (fun h => { h with jobs := h.jobs.filter (fun j => !mine j.chan) }) s

/-- Cores are reset in one cycle: their Kiosk ends, the replies on their way to them or from them, the messages their firmware has under way
(R375, R449), their Stile locks, their registers of domain CORE. What spindles, loaded actuators and write gates do goes on (R14). -/
def coresReset (cores : List Nat) (s : State) : State :=
  let ends := coreEnds cores s
  let s := { s with replies := s.replies.filter (fun r => !ends.any (fun e => e.1 == r.chan && (e.2 == r.toEnd || decide (r.chan < 8)))) }
  let s := kResetEnds ends (ghForget cores (msgForget cores s))
  each cores (fun n t => coreRegsReset n (locksOfCore n t)) s

/-- A write of PWR_CORE_RST. -/
def coreRstWrite (v : W32) (s : State) : State :=
  let m := fget v F_PWR_CORE_RST_MASK
  let s := s.setf PWR_CORE_RST F_PWR_CORE_RST_MASK m
  if v.toNat.testBit 31 then coresReset (bitsOf 8 m) s else s

/-- CORE_RESET: PWR_CORE_RST with GO (R362). -/
def execCoreReset (m : Master) (v : W32) (s : State) : Host.Outcome State Fault Refusal :=
  ok (if mayCmd m then coreRstWrite (v ||| 0x80000000) s else deny s)

/-! ### SYS_RST_N (R453, R503) -/

/-- The reset domains of SYS_RST_N. -/
def sysDoms : List Dom := [.chip, .pcie, .nvme, .core, .act, .actpwr]

/-- Every Kiosk end but the Gatehouse's is reset (R368–R371). -/
def kioskSysReset (s : State) : State :=
  let ends := (List.range 44).flatMap (fun c => if c < 36 then [(c, 0), (c, 1)] else [(c, 0)])
  let s := { s with replies := s.replies.filter (fun r => !(decide (r.chan < 36) || r.toEnd == 0)),
                    asm := s.asm.filter (fun x => decide (8 ≤ x.1)), held := s.held.filter (fun m => decide (8 ≤ m.chan)),
                    ice := { s.ice with tokens := [] } }
  let s := ghForget (List.range 8) s
  each ends (fun p t => kEndReset p.1 p.2 (decide (p.1 < 36)) t) s

/-- The host interface at an internal reset: commands are removed and the controller is as after power-on, but for what the parameter area
keeps (R339, R511). -/
def hifSysReset (s : State) : State :=
  modHif (fun h => { nss := h.nss.map (fun x => (x.1, x.2.map (fun n => { n with up := false }))), lost := h.lost, sanDone := h.sanDone, ssid := h.ssid, shut := h.shut }) s

/-- The security engine at an internal reset. -/
def secSysReset (s : State) : State :=
  modSec (fun x => { custKey := x.custKey, bootPk := x.bootPk, nonce := x.nonce, opened := x.opened }) s

/-- The internal reset: every domain but the Gatehouse's returns to reset; shared memory, the NV store and what is in domain POR stay;
programs and erases of the NV store are cut short; spindles are COASTING, with the regeneration inhibits shown; the straps keep what
was sampled until they are sampled again (R47, R453, R499, R503). -/
def internalReset (s : State) : State :=
  let straps := s.rd PWR_STRAPS
  let s := kioskSysReset (nvCut s)
  let s := (resetKeys (fun _ => true) sysDoms s).wr PWR_STRAPS straps
  let s := secSysReset (hifSysReset s)
  let s := { s with locks := [], dmaLast := (63, 63), spn := [], spnQueue := [], loops := [], acts := [], engs := [], wOff := [], dn := [], up := [],
                    lnks := [], seqs := [], seqMaster := none, seqStaged := none, pool := [], poolOrd := 0, buf := {},
                    cal := { s.cal with moves := [], run := none } }
  let s := modPlat (fun p => { p with doms := [(102, true)], coreOffReq := [], domPend := none, actRst := [] }) s
  let s := modGh (fun g => { g with retracts := [] }) s
  each [0, 1, 2, 3] (fun r t => setInhibit r (t.fld (GH_RAIL r) F_GH_RAIL_REGEN_INHIBIT == 1) t) s

/-- Whether any retract runs. -/
def retracting (s : State) : Bool := (List.range 64).any (fun a => (retr a s).active)

/-- Stage 2 of start-up begins: the core supply's code is set from the fuses (R508, R521). -/
def stage2 (s : State) : State :=
  let s := s.setf PWR_BOOT F_PWR_BOOT_STAGE 2
  { s with pins := { s.pins with vid := Config.vidCode % 11 } }

/-- Stage 2 begins when every supply has been within its window for 1 ms; until then start-up stays in stage 1 (R522). -/
def stage2Enter (s : State) : State :=
  if s.fld GH_SUPPLY F_GH_SUPPLY_NOW = 0 then stage2 s else s.setf PWR_BOOT F_PWR_BOOT_STAGE 1

/-- The internal reset is released: forced brakes and isolation are imposed again, and the Grave reaction while a Grave fault is latched
(R47, R442, R453, R540); stage 1 is empty, so stage 2 begins (R508). -/
def internalRelease (s : State) : State :=
  let keep := s.plat.brakeKeep
  let s := modPlat (fun p => { p with rst := .run, brakeKeep := [] }) s
  let s := each keep (fun b t => spnGo b.1 b.2.1 b.2.2 (setSpnForced b.1 true t)) s
  let s := each (List.range 64) (fun a t => refreshForced a (reimposeIsolation a t)) s
  let s := if graveLatched s then graveReaction s else s
  stage2Enter s

/-- Whether a spindle is under a forced short brake: SHORT_BRAKED or, below 30 rpm, STOPPED with FORCED (R47). -/
def shortForced (h : Nat) (s : State) : Bool := spnForced h s && (spnState h s == 8 || spnState h s == 0)

/-- The Gatehouse steps of R453 have ended when no retract runs: the internal reset is applied, and held or released; the forced short brakes that stand
then are kept through it, those imposed during the steps among them (R47, R426). -/
def rstSteps (s : State) : State :=
  match s.plat.rst with
  | .steps release =>
    if retracting s then s
    else
      let keep := ((List.range 16).filter (fun h => shortForced h s)).map (fun h => (h, spnState h s, s.fld (SPN_STATE h) F_SPN_STATE_CAUSE))
      let s := internalReset (modPlat (fun p => { p with rst := .held, brakeKeep := keep }) s)
      if release then internalRelease s else s
  | _ => s

/-- Coasting at the assertion of SYS_RST_N (R48, R453). -/
def sysCoast (h : Nat) (s : State) : State :=
  if spnState h s = 0 ∨ shortForced h s ∨ inPowerBrake h s then s else spnGo h 7 6 (endStart h s)

/-- SYS_RST_N or PWR_CHIP_RST: write gates off, every loaded actuator retracted, spindles coasting; then the internal reset (R453, R507). One that
comes during these steps is recorded, and the reset is released after them only if neither holds it. -/
def sysReset (release : Bool) (s : State) : State :=
  let cause := if release then F_PWR_RESET_CAUSE_CHIP_RST else F_PWR_RESET_CAUSE_SYS_RST
  match s.plat.rst with
  | .run =>
    let s := modPlat (fun p => { p with rst := .steps release, brakeKeep := [] }) (s.flag PWR_RESET_CAUSE cause)
    let s := each (List.range 64) (fun a t => fenceOff a 15 causeForced t) s
    let s := each (List.range 64) (fun a t => startRetract a false false false t) s
    rstSteps (each (List.range 16) sysCoast s)
  | .steps r => modPlat (fun p => { p with rst := .steps (r && release) }) (s.flag PWR_RESET_CAUSE cause)
  | .held => s

/-! ### The end of a retract (R432–R434, R443, R451) -/

/-- Requests that wait for retracts are answered when every named one has ended (R451). -/
def retractAnswers (s : State) : State :=
  let done := s.gh.waits.filter (fun w => w.op == 3 && w.acts.all (fun a => !(retr a s).active))
  let s := modGh (fun g => { g with waits := g.waits.filter (fun w => !done.contains w) }) s
  each done (fun w t =>
    let m := fun k => BitVec.ofNat 32 ((w.acts.filter (fun a => a / 32 == k && isolated a t)).map (fun a => 2 ^ (a % 32))).sum
    ghReply w.core 3 w.seq 0 [m 0, m 1] t) s

/-- What follows once a retract has ended, with the actuator in PARKED or ISOLATED: the power-loss brakes of its rail, its actuator reset, the
answers that wait, and the steps of SYS_RST_N. -/
def retractOver (a : Nat) (reset : Bool) (s : State) : State :=
  let s := modRetr a (fun _ => {}) s
  let s := railBrakesEnd (railOf (hdaOf a)) s
  let s := if !reset then s
    else if actState a s = 7 then
      let rec' := s.plat.actRst.any (fun x => x.1 == a && x.2)
      (if rec' then recoverReply a false else id) (actRstDone a s)
    else actReinit a s
  rstSteps (retractAnswers s)

/-- Register 0xF08 reads 0x0000: PARKED, or ISOLATED when an Actuator-class fault is recorded or a Grave fault is latched (R432, R440). -/
def retractEnd (a : Nat) (s : State) : State :=
  let r := retr a s
  let s := if r.isolate ∨ graveLatched s then enterIsolated a s else refreshForced a (setActState a 0 s)
  retractOver a r.reset s

/-- A retract fails: an Actuator-class record of 0xA004, isolation, and RETIRED unless its command was never sent, for want of a locked lane, and 0x8000
was not read (R433, R434). An injected failure is that of R433 (R455). -/
def retractFail (a : Nat) (timeout inj : Bool) (s : State) : State :=
  let r := retr a s
  let link := !inj && r.tried.isEmpty && r.lastRead != 0x8000
  let s := actRecord a 0xA004 a (b2n link * 2 ^ 17 + b2n timeout * 2 ^ 16 + r.lastRead) inj s
  let s := enterIsolated a (emit 0xA004 s)
  let s := if link then s else s.flag (GH_ACT_STATUS a) F_GH_ACT_STATUS_RETIRED
  retractOver a r.reset s

/-- RETRACT_REG_TIMEOUT: no reply with TAG 15 in 4 µs; the next locked lane is tried (R430). -/
def execRetractRegTimeout (a : Act) (s : State) : Host.Outcome State Fault Refusal :=
  ok (onlyIf ((retr a.toNat s).active && !(retr a.toNat s).acked) (retractSend a.toNat) s)

/-- The Gatehouse's read of register 0xF08 with TAG 15 is queued on the lowest-numbered locked downstream lane (R431, R432). -/
def retractRead (a : Nat) (s : State) : State :=
  match (dnLocked a s).head? with
  | none => s
  | some i => modDn a i (fun l => { l with reg := l.reg ++ [fePayload false 0xF08 0 15] }) s

/-- RETRACT_POLL: register 0xF08 is read, and the value it answers; 0x0000 ends the retract (R432). With no locked downstream lane nothing is
read. -/
def execRetractPoll (a : Act) (value : BitVec 16) (s : State) : Host.Outcome State Fault Refusal :=
  let k := a.toNat
  ok (onlyIf ((retr k s).active && !(dnLocked k s).isEmpty) (fun s =>
    let s := modRetr k (fun r => { r with lastRead := value.toNat }) (retractRead k s)
    if value = 0 then retractEnd k s else s) s)

/-- RETRACT_TIMEOUT: 0x8000 was read (`failed`), or 40 ms have passed (R433, R434). -/
def execRetractTimeout (a : Act) (failed : Bool) (s : State) : Host.Outcome State Fault Refusal :=
  let k := a.toNat
  ok (onlyIf ((retr k s).active && (!failed || (retr k s).lastRead == 0x8000)) (retractFail k (!failed) false) s)

/-- SYS_RST_N_ASSERT (R453). -/
def execSysRstNAssert (s : State) : Host.Outcome State Fault Refusal := ok (sysReset false s)

/-- A write of PWR_CHIP_RST: KEY must be 0xA5C3 in the same write (R507). -/
def chipRstWrite (v : W32) (s : State) : State :=
  if !v.toNat.testBit 31 then s.setf PWR_CHIP_RST F_PWR_CHIP_RST_KEY (fget v F_PWR_CHIP_RST_KEY)
  else if fget v F_PWR_CHIP_RST_KEY ≠ 0xA5C3 then deny s
  else sysReset true (s.setf PWR_CHIP_RST F_PWR_CHIP_RST_KEY 0xA5C3)

/-- CHIP_RESET: PWR_CHIP_RST with GO (R507). -/
def execChipReset (m : Master) (v : W32) (s : State) : Host.Outcome State Fault Refusal :=
  ok (if mayCmd m then chipRstWrite (v ||| 0x80000000) s else deny s)

/-- The straps as sampled (R538). -/
def sampleStraps (smba : Nat) (pclk : Bool) (s : State) : State :=
  (s.setf PWR_STRAPS F_PWR_STRAPS_SMBA smba).setf PWR_STRAPS F_PWR_STRAPS_PCLK (b2n pclk)

/-- SYS_RST_N_RELEASE: held back until the Gatehouse steps end; the straps are sampled (R453, R508, R538). -/
def execSysRstNRelease (smba : Slot) (pclk : Bool) (s : State) : Host.Outcome State Fault Refusal :=
  ok (match s.plat.rst with
    | .run => s
    | .steps _ => sampleStraps smba.toNat pclk (modPlat (fun p => { p with rst := .steps true }) s)
    | .held => sampleStraps smba.toNat pclk (internalRelease s))

end Sys2Proof.Machine
end

