-- ==== Sys2Proof/Machine/Calib.lean ====
section
/-! DEFINITION. Factory calibration (spec/15_bring_up.md, R513–R515): the table in sector 105, the steps of items, and calibration runs. -/

namespace Sys2Proof.Machine

/-- The items of a class, its default tap and its plausibility limits (R514). -/
def calCount (cls : Nat) : Nat := [256, 384, 48, 32, 160].getD cls 0
def calDefault (cls : Nat) : Int := [64, 32, 0, 0, 256].getD cls 0
def calLow (cls : Nat) : Int := [24, 8, -50, -120, 160].getD cls 0
def calHigh (cls : Nat) : Int := [104, 56, 50, 120, 352].getD cls 0

/-- The items of each instance of a class. -/
def calPer (cls : Nat) : Nat := [4, 6, 3, 2, 20].getD cls 1

/-- The first item of a class in the table of sector 105, whose layout the spec leaves to the factory: MAGIC, CAL_COUNT and CAL_LAST_TIME,
then two bytes for each item in the order of R514, then the CRC-32. -/
def calFirst (cls : Nat) : Nat := [0, 256, 640, 688, 720].getD cls 880

/-- The length of the table before its CRC. -/
def calLen : Nat := 16 + 2 * 880

/-- The table as it stands in sector 105. -/
def calTable (s : State) : List Byte := s.rdNvs (sectorBase 105) (calLen + 4)

/-- Whether the table is valid: its sector not in an erase that was cut short, every unit of it readable, MAGIC and CRC-32 (R399, R513). -/
def calTableOk (s : State) : Bool :=
  let b := calTable s
  !nvIndet 105 s && (List.range (calLen / 32 + 1)).all (fun i => !nvBadAt (sectorBase 105 + 32 * i) s) &&
    imgField b 0 4 == 0x43414C31 && ofLe (b.drop calLen) == crc32 (b.take calLen)

/-- The values of a table as distances from the defaults. -/
def calVals (b : List Byte) : List (Nat × Int) :=
  [0, 1, 2, 3, 4].foldl (fun t cls =>
    (List.range (calCount cls)).foldl (fun t i =>
      tput 0 t (4096 * cls + i) (toSigned 16 (imgField b (16 + 2 * (calFirst cls + i)) 2) - calDefault cls)) t) []

/-- The table is loaded in stage 3; one that is absent or fails its CRC selects the defaults, with event 0x800E (R513). -/
def calLoad (s : State) : State :=
  let b := calTable s
  if calTableOk s then
    let s := (s.flag CAL_STATUS F_CAL_STATUS_TABLE_OK).wr CAL_COUNT (bytesWord b 1)
    let s := (s.wr CAL_LAST_TIME_LO (bytesWord b 2)).wr CAL_LAST_TIME_HI (bytesWord b 3)
    { s with cal := { s.cal with vals := calVals b } }
  else emit 0x800E { s.setf CAL_STATUS F_CAL_STATUS_TABLE_OK 0 with cal := { s.cal with vals := [] } }

/-- Every item of a class is applied. -/
def calApplyAll (cls : Nat) (s : State) : State := calApply cls (List.range (calCount cls)) s

/-- A step of class 1 is one front-end register write (R514); the item's register comes from the front-end's data sheet. -/
def calSend (item : Nat) (tap : Int) (s : State) : State :=
  feStart (item / 6) { write := true, addr := Config.delayRegister item, data := (tap + calDefault 1).toNat, kind := .cal } s

/-- Whether a class 1 step of an actuator still waits for its reply. -/
def calOut (a : Nat) (s : State) : Bool := ((lnk a s).fe.toList ++ (lnk a s).feNext).any (fun f => f.kind == .cal)

/-- The link whose training waits for its lane deskew trains once the last of its items has been applied (R514). -/
def calTrain (cls item : Nat) (s : State) : State :=
  if cls = 0 ∧ (lnk (item / 4) s).trainWait = true ∧ deskewing (item / 4) s = false then startTraining (item / 4) s else s

/-- The items of a class reach their targets: what a stage of start-up has done by its end (R508, R514). -/
def calReach (cls : Nat) (s : State) : State :=
  each (s.cal.moves.filter (fun m => m.cls == cls))
    (fun m t => calMoveTo cls m.item m.target { t with cal := { t.cal with tap := tput 0 t.cal.tap (4096 * cls + m.item) m.target } }) s

/-- One step of an item: one tap toward its target; a class 1 step goes only after the reply to the previous one (R514). -/
def calStep (cls item : Nat) (s : State) : State :=
  match s.cal.moves.find? (fun m => m.cls == cls && m.item == item) with
  | none => s
  | some m =>
    if cls = 1 ∧ calOut (item / 6) s then s else
    let k := 4096 * cls + item
    let x := tget 0 s.cal.tap k
    let y := if x < m.target then x + 1 else if m.target < x then x - 1 else x
    let s := if cls = 1 then calSend item y s else s
    calTrain cls item (calMoveTo cls item m.target { s with cal := { s.cal with tap := tput 0 s.cal.tap k y } })

/-- CAL_STEP (R514). -/
def execCalStep (cls : BitVec 3) (item : BitVec 9) (s : State) : Host.Outcome State Fault Refusal := ok (calStep cls.toNat item.toNat s)

/-! ### Runs (R515) -/

/-- The instances of a class. -/
def calInst (cls : Nat) : Nat := calCount cls / calPer cls

/-- The items a run measures. -/
def calRunItems (cls index : Nat) : List Nat :=
  if index = 0xFF then List.range (calCount cls) else (List.range (calPer cls)).map (fun i => calPer cls * index + i)

/-- Whether a run may start: classes 0 and 1 need their actuators in PARKED, class 4 the boot ROM's idle channels before the booted image
runs. -/
def calReady (cls index : Nat) (s : State) : Bool :=
  if cls < 2 then (List.range 64).all (fun a => !(index == 0xFF || index == a) || actState a s == 0)
  else if cls = 4 then s.fld PWR_BOOT F_PWR_BOOT_STAGE == 4 || s.fld PWR_BOOT F_PWR_BOOT_RECOVERY == 1
  else true

/-- A write of CAL_RUN: reserved classes leave CLASS unchanged; a run starts only with scope CAL open (R515). -/
def calRunWrite (v : W32) (s : State) : State :=
  let cls := fget v F_CAL_RUN_CLASS
  let ix := fget v F_CAL_RUN_INDEX
  let go := v.toNat.testBit 31
  if 5 ≤ cls then deny (s.setf CAL_RUN F_CAL_RUN_INDEX ix)
  else if go && (!shedOpen 4 s || s.fld CAL_STATUS F_CAL_STATUS_RUN_BUSY == 1 || !(ix == 0xFF || decide (ix < calInst cls)) || !calReady cls ix s) then deny s
  else
    let s := (s.setf CAL_RUN F_CAL_RUN_CLASS cls).setf CAL_RUN F_CAL_RUN_INDEX ix
    if go then { (s.setf CAL_RUN F_CAL_RUN_RESULT 1).flag CAL_STATUS F_CAL_STATUS_RUN_BUSY with cal := { s.cal with run := some (cls, ix) } } else s

/-- CAL_RUN (R515). -/
def execCalRun (m : Master) (v : W32) (s : State) : Host.Outcome State Fault Refusal :=
  ok (if mayCmd m then calRunWrite (v ||| 0x80000000) s else deny s)

/-- The first result that is not plausible: outside its limits, or of class 0 more than 48 from another lane of its actuator (R514). -/
def calBad (cls : Nat) (l : List (Nat × Int)) : Option (Nat × Int) :=
  l.find? (fun x => decide (x.2 < calLow cls ∨ calHigh cls < x.2) ||
    (cls == 0 && l.any (fun y => y.1 / 4 == x.1 / 4 && decide (48 < x.2 - y.2 ∨ 48 < y.2 - x.2))))

/-- The end of a run with its results, in rising item order. -/
def calRunEnd (cls ix : Nat) (l : List (Nat × Int)) (s : State) : State :=
  let items := calRunItems cls ix
  let l := l.filter (fun x => items.contains x.1)
  let s := { s.setf CAL_STATUS F_CAL_STATUS_RUN_BUSY 0 with cal := { s.cal with run := none } }
  match calBad cls l with
  | none =>
    let s := { s with cal := { s.cal with vals := l.foldl (fun (t : List (Nat × Int)) (x : Nat × Int) => tput 0 t (4096 * cls + x.1) (x.2 - calDefault cls)) s.cal.vals } }
    let s := calApply cls (l.map Prod.fst) (s.setf CAL_RUN F_CAL_RUN_RESULT 2)
    let s := s.setf CAL_COUNT F_CAL_COUNT_ACCEPTED (satAdd 16 (s.fld CAL_COUNT F_CAL_COUNT_ACCEPTED) 1)
    emit 0x8107 ((s.wr CAL_LAST_TIME_LO (BitVec.ofNat 32 (hostTime s))).wr CAL_LAST_TIME_HI (BitVec.ofNat 32 (hostTime s / 2 ^ 32)))
  | some (i, x) =>
    let s := s.setf CAL_COUNT F_CAL_COUNT_REJECTED (satAdd 16 (s.fld CAL_COUNT F_CAL_COUNT_REJECTED) 1)
    let s := ((s.setf CAL_REJECT F_CAL_REJECT_CLASS cls).setf CAL_REJECT F_CAL_REJECT_ITEM i).setf CAL_REJECT F_CAL_REJECT_VALUE (ofSigned 10 x)
    emit 0x800F (s.setf CAL_RUN F_CAL_RUN_RESULT 3)

/-- CAL_RUN_END: the results measured, by item (R515). -/
def execCalRunEnd (results : List (Nat × Int)) (s : State) : Host.Outcome State Fault Refusal :=
  ok (match s.cal.run with
    | none => s
    | some (cls, ix) => calRunEnd cls ix results s)

end Sys2Proof.Machine
end

