-- ==== Sys2Proof/Machine/Power.lean ====
section
/-! DEFINITION. Power domains, clocks and bring-up (spec/15_bring_up.md, R497–R502, R508–R512; spec/12_gatehouse.md, R438, R454). -/

namespace Sys2Proof.Machine

/-! ### Domains (R497–R499) -/

/-- A request of PWR_DOM_REQ ends (R497): 1 is refused, with event 0x8008. -/
def domEnd (r : Nat) (s : State) : State :=
  let s := ((s.setf PWR_DOM_RESULT F_PWR_DOM_RESULT_BUSY 0).flag PWR_DOM_RESULT F_PWR_DOM_RESULT_DONE).setf PWR_DOM_RESULT F_PWR_DOM_RESULT_RESULT r
  if r = 1 then emit 0x8008 s else s

/-- Whether a retention bank may be switched off: its drain bit is 1 and its 128 slots are FREE (R187). -/
def bankFree (k : Nat) (s : State) : Bool :=
  (s.fld RCH_POOL_CTL F_RCH_POOL_CTL_BANK_DRAIN).testBit k && s.pool.all (fun e => e.1 / 128 != k || e.2.st == 0)

/-- Whether the security engine is at work: a verification, a token check or shed response that waits for it, or an SPDM exchange. -/
def secAtWork (s : State) : Bool := s.sec.verify.isSome || s.sec.req.isSome || s.sec.rsp.isSome || !s.sec.waits.isEmpty

/-- Whether a switch-off is refused (the table of R497); an actuator's domain while its heads are loaded is (R38). -/
def domRefused (m d : Nat) (s : State) : Bool :=
  if d < 64 then loaded d s || actRstBusy d s
  else if d < 72 then true
  else if d < 80 then m != d - 72
  else if d = 80 then s.domOn 81 || (List.range 8).any (fun c => c != m && s.domOn (72 + c))
  else if d = 81 then !s.plat.perst
  else if d < 86 then !bankFree (d - 82) s
  else if d = 103 then (List.range 16).any (fun h => spnState h s != 0)
  else if d = 104 then nvBusy s
  else if d = 105 then secAtWork s
  else false

/-- A request of PWR_DOM_REQ: the master, the domain, ON (R497). A core's own domain goes off when the core next waits. -/
def domReq (m d : Nat) (on : Bool) (s : State) : State :=
  if s.fld PWR_DOM_RESULT F_PWR_DOM_RESULT_BUSY = 1 ∨ 105 < d then deny s
  else
    let s := (s.setf PWR_DOM_REQ F_PWR_DOM_REQ_ON (b2n on)).setf PWR_DOM_REQ F_PWR_DOM_REQ_DOMAIN d
    let s := (s.setf PWR_DOM_RESULT F_PWR_DOM_RESULT_DOMAIN d).setf PWR_DOM_RESULT F_PWR_DOM_RESULT_DONE 0
    if (86 ≤ d ∧ d < 102) ∨ d = 102 then domEnd 2 s
    else if s.domOn d = on then domEnd 0 s
    else if on then (modPlat (fun p => { p with domPend := some d }) s).flag PWR_DOM_RESULT F_PWR_DOM_RESULT_BUSY
    else if domRefused m d s then domEnd 1 s
    else if 72 ≤ d ∧ d < 80 then domEnd 0 (modPlat (fun p => { p with coreOffReq := tput false p.coreOffReq (d - 72) true }) s)
    else domEnd 0 (s.setDom d false)

/-- A write of PWR_DOM_REQ; without GO only its fields change, DOMAIN within 0 to 105. -/
def domReqWrite (m : Nat) (v : W32) (s : State) : State :=
  let d := fget v F_PWR_DOM_REQ_DOMAIN
  let on := fget v F_PWR_DOM_REQ_ON
  if v.toNat.testBit 31 then domReq m d (on == 1) s
  else
    let s := s.setf PWR_DOM_REQ F_PWR_DOM_REQ_ON on
    if 105 < d then deny s else s.setf PWR_DOM_REQ F_PWR_DOM_REQ_DOMAIN d

/-- DOMAIN_ON (R497). -/
def execDomainOn (m : Master) (d : BitVec 7) (s : State) : Host.Outcome State Fault Refusal :=
  ok (if mayCmd m then domReq m.toNat d.toNat true s else deny s)

/-- DOMAIN_OFF (R497). -/
def execDomainOff (m : Master) (d : BitVec 7) (s : State) : Host.Outcome State Fault Refusal :=
  ok (if mayCmd m then domReq m.toNat d.toNat false s else deny s)

/-- What comes with a domain that is up: an actuator's registers, load and training; a core's registers; the NV store's replay and index; the
requests that waited for the security engine (R403, R414, R498). -/
def domUp (d : Nat) (s : State) : State :=
  if d < 64 then actPowerUp d s
  else if 72 ≤ d ∧ d < 80 then coreRegsReset (d - 72) s
  else if d = 104 then nvReplay s
  else if d = 105 then secWake s
  else s

/-- DOMAIN_ON_COMPLETE: the domain of the request is up (R497, R498). -/
def execDomainOnComplete (s : State) : Host.Outcome State Fault Refusal :=
  ok (match s.plat.domPend with
    | none => s
    | some d => domEnd 0 (domUp d ((modPlat (fun p => { p with domPend := none }) s).setDom d true)))

/-- CORE_WAIT_POWER_OFF (R497). -/
def execCoreWaitPowerOff (c : CoreId) (s : State) : Host.Outcome State Fault Refusal :=
  let k := c.toNat
  ok (onlyIf (tget false s.plat.coreOffReq k)
    (fun s => (modPlat (fun p => { p with coreOffReq := tput false p.coreOffReq k false }) s).setDom (72 + k) false) s)

/-! ### Clocks (R501, R502) -/

/-- The fabric clock changes; each change emits 0x8108 (R501). -/
def fabricFreq (f : Nat) (s : State) : State :=
  let s := s.setf CLK_FABRIC F_CLK_FABRIC_FREQ f
  if s.fld CLK_STATUS F_CLK_STATUS_FREQ_NOW = f then s else emit 0x8108 (s.setf CLK_STATUS F_CLK_STATUS_FREQ_NOW f)

/-- FABRIC_FREQ_CHANGE: a write of CLK_FABRIC.FREQ (R501). -/
def execFabricFreqChange (m : Master) (f : BitVec 2) (s : State) : Host.Outcome State Fault Refusal :=
  ok (if mayCmd m then fabricFreq f.toNat s else deny s)

/-- REFERENCE_LOST (R502). -/
def execReferenceLost (s : State) : Host.Outcome State Fault Refusal :=
  ok (onlyIf (s.fld CLK_STATUS F_CLK_STATUS_REF_LOST == 0)
    (fun s => emit 0x800A ((s.flag CLK_STATUS F_CLK_STATUS_REF_LOST).flag CLK_STATUS F_CLK_STATUS_REF_LOST_STICKY)) s)

/-- REFERENCE_RESTORED: 1,000 good edges (R502). -/
def execReferenceRestored (s : State) : Host.Outcome State Fault Refusal :=
  ok (onlyIf (s.fld CLK_STATUS F_CLK_STATUS_REF_LOST == 1) (fun s => emit 0x800B (s.setf CLK_STATUS F_CLK_STATUS_REF_LOST 0)) s)

/-! ### Power (R438, R454) -/

/-- After power is lost without a normal shutdown every Open zone becomes Full (R351). -/
def zonesLoss (n : NsSt) : NsSt := { n with zones := n.zones.map (fun z => if z.2.1 = 1 then (z.1, 3, z.2.2) else z) }

/-- The state that is left when power is lost: the NV store with its programs and erases cut short, the fuses, and what resident firmware
keeps in the parameter area; the model's own counter and queue go on. -/
def powerLost (s : State) : State :=
  let s := nvCut s
  let h := s.hif
  let nss := h.nss.map (fun x => (x.1, x.2.map (fun n => { (if h.shut then n else zonesLoss n) with up := false })))
  { State.reset with
    nv := s.nv, nvs := { indet := s.nvs.indet, erases := s.nvs.erases, jrows := s.nvs.jrows, jrow := s.nvs.jrow, bad := s.nvs.bad, ones := s.nvs.ones },
    sec := { custKey := s.sec.custKey },
    hif := { nss := nss, lost := h.lost, sanDone := h.sanDone, ssid := h.ssid },
    freeCtr := s.freeCtr, pending := s.pending }

/-- GATEHOUSE_SUPPLY_LOST: VDD_GH below 0.72 V; the Gatehouse is held in power-on reset (R438). -/
def execGatehouseSupplyLost (s : State) : Host.Outcome State Fault Refusal :=
  ok (modPlat (fun p => { p with ghDown := true, doms := [] }) (powerLost s))

/-- A Grave fault of the Gatehouse itself (R425): its event, the Grave reaction, and the cores stop. The reaction logic acts without the cores, and
only power-on starts them again (R422–R424). -/
def ghSelfFault (code : Nat) (s : State) : State :=
  (grave code 0 0 false (emit code s)).setf GH_ID F_GH_ID_RUNNING 0

/-- POWER_ON: everything starts from power-on reset; the straps are sampled; a ROM check that fails is a Grave fault; stage 1 is reached
(R425, R454, R508, R538). -/
def execPowerOn (romOk : Bool) (smba : Slot) (pclk : Bool) (s : State) : Host.Outcome State Fault Refusal :=
  let s := sampleStraps smba.toNat pclk (powerLost s)
  let s := if s.sec.custKey.isSome then s.flag SEC_FUSE F_SEC_FUSE_CUST_KEY else s
  let s := s.setf PWR_BOOT F_PWR_BOOT_STAGE 1
  ok (if romOk then s else ghSelfFault 0xA103 s)

/-! ### Stages of start-up (R508, R509, R512) -/

/-- Switches several domains on. -/
def domsOn (l : List Nat) (s : State) : State := each l (fun d t => t.setDom d true) s

/-- Recovery mode (R512). -/
def recovery (fail : Nat) (s : State) : State :=
  let s := (s.setf PWR_BOOT F_PWR_BOOT_FAIL fail).flag PWR_BOOT F_PWR_BOOT_RECOVERY
  emit 0x800D (modHif (fun h => { h with cfs := true }) s)

/-- ICE_CLEAR_COUNT is loaded from parameter record 1,007, and SLOT_SEQ, which is not reset, while no slot holds it (R476). -/
def clearCountLoad (s : State) : State :=
  match parGet 1007 s with
  | some b =>
    let s := s.wr ICE_CLEAR_COUNT (bytesWord b 0)
    if (newestSlot s).isNone && (s.rd ICE_SLOT_SEQ).toNat < (bytesWord b 5).toNat then s.wr ICE_SLOT_SEQ (bytesWord b 5) else s
  | none => s.wr ICE_CLEAR_COUNT 0

/-- Stage 3: core 0 with the blocks it needs; replay and scans; the calibration table and classes 2 and 3; M5 again for what is open. -/
def stage3 (s : State) : State :=
  let s := domsOn [80, 72, 104, 105, 103, 82, 83, 84, 85, 81] s
  let s := iceWrite false (iceWrite false (clearCountLoad (iceScan (nvReplay s))))
  let s := shedExtends (calApplyAll 3 (calApplyAll 2 (calLoad s)))
  s.setf PWR_BOOT F_PWR_BOOT_STAGE 3

/-- Stage 4: DRAM channels and their PHY items. -/
def stage4 (s : State) : State := (calApplyAll 4 (domsOn [64, 65, 66, 67, 68, 69, 70, 71] s)).setf PWR_BOOT F_PWR_BOOT_STAGE 4

/-- The end of DRAM training: the attempts, whether rank 0 of every channel trained at the last rate, and the rank 1s that trained (R509). -/
def dramTrained (tries : Nat) (good : Bool) (rank1 : Nat) (s : State) : State :=
  let n := max 1 tries
  let s := each (List.range (n - 1)) (fun _ t => emit 0x800C t) (s.setf CLK_DRAM F_CLK_DRAM_TRIES n)
  if good then
    let s := (s.setf CLK_DRAM F_CLK_DRAM_RATE (4 - n)).setf BUF_CFG F_BUF_CFG_RANK1_PRESENT rank1
    s.setf PWR_BOOT F_PWR_BOOT_STAGE 5
  else recovery 1 s

/-- A slot is booted: SEC_BOOT, M1 (R482, R487). -/
def bootSlot (k tried : Nat) (s : State) : State :=
  let img := imgAt (slotAddr k) s
  let s := (s.setf SEC_BOOT F_SEC_BOOT_TRIED tried).setf SEC_BOOT F_SEC_BOOT_CUST_CHECKED (b2n s.sec.custKey.isSome)
  let s := (s.setf SEC_BOOT F_SEC_BOOT_SLOT k).setf SEC_BOOT F_SEC_BOOT_RESULT 1
  let s := s.setf NVS_BOOT F_NVS_BOOT_SLOT k
  let s := modHif (fun h => { h with runSlot := some k }) (modSec (fun x => { x with bootPk := imgPk img }) s)
  extend 1 srcRom 0 (imageDigest img) s

/-- Stage 5: slots are verified in the order of R416 and the first that verifies is booted; with none, recovery mode (R482, R512). -/
def slotsVerify (s : State) : State :=
  let s := romExtends s
  let l := bootOrder s
  match l.find? (fun k => imgGood (slotAddr k) s) with
  | some k =>
    let s := fabricFreq 3 (bootSlot k ((l.takeWhile (fun j => j != k)).length + 1) s)
    (domsOn [73, 74, 75, 76, 77, 78, 79] s).setf PWR_BOOT F_PWR_BOOT_STAGE 6
  | none =>
    let s := (s.setf SEC_BOOT F_SEC_BOOT_TRIED l.length).setf SEC_BOOT F_SEC_BOOT_RESULT 3
    recovery 2 (emit 0xB002 s)

/-- BOOT_STAGE_END: the stage reached ends and the next one begins (R508); stage 2 begins only with every supply in its window and sets the core
supply's code from the fuses (R521, R522); the items applied in stages 3 and 4 have reached their targets at its end (R514). -/
def execBootStageEnd (tries : Slot) (dramOk : Bool) (rank1 : Byte) (s : State) : Host.Outcome State Fault Refusal :=
  ok (if s.plat.rst ≠ .run ∨ s.plat.ghDown ∨ s.fld PWR_BOOT F_PWR_BOOT_RECOVERY = 1 then s
    else match s.fld PWR_BOOT F_PWR_BOOT_STAGE with
      | 1 => stage2Enter s
      | 2 => stage3 s
      | 3 => stage4 (calReach 3 (calReach 2 s))
      | 4 => dramTrained tries.toNat dramOk rank1.toNat (calReach 4 s)
      | 5 => slotsVerify s
      | 6 => s.setf PWR_BOOT F_PWR_BOOT_STAGE 7
      | _ => s)

/-- CSTS.RDY becomes 1 once CC.EN is 1, firmware start-up has ended, no activation holds it, and not in recovery mode (R313, R345, R512). -/
def rdyShow (s : State) : State :=
  modHif (fun h => { h with rdy := h.rdy || (h.en && h.act == .none && s.fld PWR_BOOT F_PWR_BOOT_FW_READY == 1 &&
    s.fld PWR_BOOT F_PWR_BOOT_RECOVERY == 0) }) s

/-- The parameter record of a Sanitize in progress (R335). -/
def sanRecord : Nat := 1001

/-- Its payload: passes, pass, inversion, pattern, and the cylinders done by each actuator. -/
def sanBytes (j : SanJob) : List Byte :=
  leBytes j.passes 1 ++ leBytes j.pass 1 ++ leBytes (b2n j.invert) 2 ++ leBytes j.pattern.toNat 4 ++
    (List.range 64).flatMap (fun a => leBytes (tget 0 j.cyls a) 3)

/-- Resident firmware records the last cylinder that has ended (R335). -/
def sanKeep (s : State) : State :=
  match s.hif.sanit with
  | some j => if j.fresh then parPut sanRecord (sanBytes j) (modHif (fun h => { h with sanit := some { j with fresh := false } }) s) else s
  | none => s

/-- The Sanitize that a record describes. -/
def sanOf (b : List Byte) : SanJob :=
  let num := fun o n => ofLe ((b.drop o).take n)
  { passes := num 0 1, pass := num 1 1, invert := num 2 1 == 1, pattern := BitVec.ofNat 32 (num 4 4),
    cyls := (List.range 64).foldl (fun t a => tput 0 t a (num (8 + 3 * a) 3)) [] }

/-- After start-up a Sanitize that was interrupted resumes from the last cylinder recorded, with every spindle started (R335). -/
def sanResume (s : State) : State :=
  match s.hif.sanit, parGet sanRecord s with
  | none, some b =>
    let s := each (List.range 16) (fun h u => if spnState h u = 5 then u else spnStart h u) s
    modHif (fun h => { h with sanit := some (sanOf b) }) s
  | _, _ => s

/-- The parameter record with the HDAs whose requested state is spun up, and its mask; all of them while there is none (DESIGN CHOICE, log 127). -/
def upRecord : Nat := 1002
def upMask (s : State) : Nat := match parGet upRecord s with
  | some b => ofLe b % 65536
  | none => 0xFFFF

/-- The requested state of HDAs is kept (R511). -/
def upKeep (mask : Nat) (s : State) : State := parPut upRecord (leBytes mask 4) s

/-- The steps that resident firmware takes after FW_READY (R511): a piece of work of no channel. -/
def upJob (s : State) : HJob := { chan := 64, seq := 0, op := 0x0C, named := bitsOf 16 (Config.hdasFitted.toNat &&& upMask s) }

/-- Resident firmware ends its start-up; what it then resumes and begins (R335, R511). -/
def fwReady (s : State) : State :=
  let was := s.fld PWR_BOOT F_PWR_BOOT_FW_READY
  let s := s.flag PWR_BOOT F_PWR_BOOT_FW_READY
  rdyShow (if was = 1 then s else modHif (fun h => { h with jobs := h.jobs ++ [upJob s] }) (sanResume s))

/-- FW_READY (R511). -/
def execFwReady (m : Master) (s : State) : Host.Outcome State Fault Refusal :=
  ok (if mayCmd m then fwReady s else deny s)

/-! ### Recovery messages (R512) -/

/-- A recovery message on host channel 0; outside recovery mode its OP is unknown to resident firmware (R375). -/
def recMsg (op q : Nat) (f : State → State) (s : State) : State :=
  if s.fld PWR_BOOT F_PWR_BOOT_RECOVERY = 1 then f s else hostReply 0 op q 1 [] s

/-- REC_INFO (R512). -/
def execRecInfo (seq : Seq) (len : Nat) (s : State) : Host.Outcome State Fault Refusal :=
  ok (recMsg 0x20 seq.toNat (fun s =>
    if len = 0 then hostReply 0 0x20 seq.toNat 0 [s.rd PWR_BOOT, s.rd SEC_BOOT, s.rd CLK_DRAM] s else hostReply 0 0x20 seq.toNat 2 [] s) s)

/-- Where images are staged in recovery mode (R512). -/
def recBase : Nat := 0x1000000000

/-- REC_WRITE: 56 bytes of image at an offset (R512). -/
def execRecWrite (seq : Seq) (payload : List W32) (s : State) : Host.Outcome State Fault Refusal :=
  ok (recMsg 0x21 seq.toNat (fun s =>
    let off := (payload.headD 0).toNat
    if payload.length ≠ 15 ∨ off % 56 ≠ 0 ∨ 12324864 < off then hostReply 0 0x21 seq.toNat 2 [] s
    else if s.fld PWR_BOOT F_PWR_BOOT_FAIL = 1 then hostReply 0 0x21 seq.toNat 3 [7] s
    else hostReply 0 0x21 seq.toNat 0 [] (s.wrMem (recBase + off) (wordBytes (payload.drop 1)))) s)

/-- The staged image is committed with ACTION 1: `res` is how the commit engine ends (R417, R512). -/
def recCommitRun (k n res : Nat) (s : State) : State :=
  let s := slotRevoke k (s.wr NVS_COMMIT_STATUS 0)
  if res < 2 then emit 0x9005 (commitDone 0 (commitWrite k 1 0 (s.rdBytes recBase n) s)) else emit 0x9006 (commitDone res (commitFailAt res k (s.rdBytes recBase n) s))

/-- REC_COMMIT: verifies the staged image, commits it with ACTION 1 and, on success, acts as PWR_CHIP_RST (R512). A length that differs from the
image's own fails the verification. -/
def execRecCommit (seq : Seq) (payload : List W32) (res : Slot) (s : State) : Host.Outcome State Fault Refusal :=
  ok (recMsg 0x22 seq.toNat (fun s =>
    let n := (payload.getD 0 0).toNat
    let k := (payload.getD 1 0).toNat
    if payload.length ≠ 2 ∨ 2 ≤ k then hostReply 0 0x22 seq.toNat 2 [] s
    else if s.fld PWR_BOOT F_PWR_BOOT_FAIL = 1 then hostReply 0 0x22 seq.toNat 3 [7] s
    else if !(imgGood recBase s && (imgAt recBase s).length == n) then hostReply 0 0x22 seq.toNat 5 [] s
    else
      let s := recCommitRun k n res.toNat s
      let good := decide (res.toNat < 2)
      let s := hostReply 0 0x22 seq.toNat (if good then 0 else 4) [s.rd NVS_COMMIT_STATUS] s
      if good then sysReset true s else s) s)

end Sys2Proof.Machine
end

