-- ==== Sys2Proof/Machine/Gate.lean ====
section
/-! DEFINITION. The Gatehouse (spec/12_gatehouse.md): requests of the cores through Kiosk (R437, R443, R449–R452), supplies and temperature
(R438, R439), faults of the Gatehouse itself (R425), fault injection (R455), and the reads that clear (R448, R457). -/

namespace Sys2Proof.Machine

/-! ### Requests (R449) -/

/-- A request is served while the Gatehouse cores execute (R425), if its payload has the stated number of words; otherwise it is answered with
status 2. -/
def ghReq (c : CoreId) (op : Nat) (seq : Seq) (n : Nat) (payload : List W32) (arg : Nat) (f : State → State) (s : State) : State :=
  ghMsg c.toNat op seq.toNat payload arg (fun s => if payload.length = n then f s else ghReply c.toNat op seq.toNat 2 [] s) s

/-- An answer with a refusal reason (status 3). -/
def ghRefuse (c op seq reason : Nat) (s : State) : State := ghReply c op seq 3 [BitVec.ofNat 32 reason] s

/-- The number in a word of a payload. -/
def pw (l : List W32) (i : Nat) : Nat := (l.getD i 0).toNat

/-- GH_INFO (R449): `len` is the number of payload words it came with. -/
def execGhInfo (c : CoreId) (seq : Seq) (len : Nat) (s : State) : Host.Outcome State Fault Refusal :=
  ok (ghReq c 1 seq 0 (List.replicate len 0) 0 (fun s => ghReply c.toNat 1 seq.toNat 0 [s.rd GH_ID, s.rd GH_GRAVE] s) s)

/-- New fence thresholds for HDAs (R450). -/
def fenceSet (hs : List Nat) (delta pes : Nat) (s : State) : State :=
  each hs (fun h t => (t.setf (SRV_FENCE h) F_SRV_FENCE_DELTA_THR delta).setf (SRV_FENCE h) F_SRV_FENCE_PES_THR pes) s

/-- SET_FENCE (R450). -/
def execSetFence (c : CoreId) (seq : Seq) (payload : List W32) (s : State) : Host.Outcome State Fault Refusal :=
  ok (ghReq c 2 seq 2 payload 0 (fun s =>
    let hs := bitsOf 16 (pw payload 0)
    let pes := pw payload 1 % 256
    let delta := pw payload 1 / 256 % 256
    if pes < 20 ∨ 205 < pes ∨ delta < 10 ∨ 128 < delta then ghReply c.toNat 2 seq.toNat 2 [] s
    else if hs.any (fun h => decide (pes < s.fld (SRV_SETTLE h) F_SRV_SETTLE_WRITE_THR)) then ghRefuse c.toNat 2 seq.toNat 8 s
    else ghReply c.toNat 2 seq.toNat 0 [] (emit 0xA00D (fenceSet hs delta pes s))) s)

/-- RETRACT: every named actuator that is loaded, with no fault recorded; answered when every named retract has ended (R451). -/
def execRetract (c : CoreId) (seq : Seq) (payload : List W32) (s : State) : Host.Outcome State Fault Refusal :=
  ok (ghReq c 3 seq 2 payload 0 (fun s =>
    let acts := bitsOf 32 (pw payload 0) ++ (bitsOf 32 (pw payload 1)).map (fun a => a + 32)
    if graveLatched s then ghRefuse c.toNat 3 seq.toNat 1 s
    else
      let s := each acts (startRetract · false false false) s
      retractAnswers (modGh (fun g => { g with waits := g.waits ++ [⟨c.toNat, seq.toNat, 3, acts⟩] }) s)) s)

/-- The reason for which RECOVER is refused (R443): `reg` is what register 0xF08 reads. -/
def recoverReason (a reg : Nat) (s : State) : Option Nat :=
  if graveLatched s then some 1
  else if actState a s ≠ 7 then some 2
  else if 8 ≤ (faults24 a s).length then some 3
  else if s.fld (GH_ACT_STATUS a) F_GH_ACT_STATUS_RETIRED = 1 then some 4
  else if !(linkMode a s == 2 || linkMode a s == 3) || reg ≠ 0 then some 6
  else none

/-- RECOVER (R443): an actuator reset, and the answer when it has ended. -/
def execRecover (c : CoreId) (seq : Seq) (payload : List W32) (reg0xF08 : BitVec 16) (s : State) : Host.Outcome State Fault Refusal :=
  ok (ghReq c 4 seq 1 payload reg0xF08.toNat (fun s =>
    let a := pw payload 0
    if 64 ≤ a then ghReply c.toNat 4 seq.toNat 2 [] s
    else match recoverReason a reg0xF08.toNat s with
      | some r => ghRefuse c.toNat 4 seq.toNat r s
      | none => actReset a true (modGh (fun g => { g with waits := g.waits ++ [⟨c.toNat, seq.toNat, 4, [a]⟩] }) s)) s)

/-- Whether RELEASE_SPINDLE releases a spindle: CAUSE 2 and STOPPED, with FORCED set, and no Grave fault latched (R441, R452). -/
def releasable (h : Nat) (s : State) : Bool :=
  !graveLatched s && spnForced h s && s.fld (SPN_STATE h) F_SPN_STATE_CAUSE == 2 && spnState h s == 0

/-- RELEASE_SPINDLE (R452). -/
def execReleaseSpindle (c : CoreId) (seq : Seq) (payload : List W32) (s : State) : Host.Outcome State Fault Refusal :=
  ok (ghReq c 5 seq 1 payload 0 (fun s =>
    let hs := (bitsOf 16 (pw payload 0)).filter (fun h => releasable h s)
    let s := each hs (fun h t => emit 0xA00C (setSpnForced h false t)) s
    ghReply c.toNat 5 seq.toNat 0 [BitVec.ofNat 32 (hs.map (fun h => 2 ^ h)).sum] s) s)

/-- The requests that wait for a chopper test of a rail. -/
def chopTests (r : Nat) (s : State) : List (Nat × Nat) := tget [] s.gh.chopTest r

/-- CHOPPER_TEST (R437, R441): the chopper is switched on for 20 µs, or the test is refused. -/
def execChopperTest (c : CoreId) (seq : Seq) (payload : List W32) (s : State) : Host.Outcome State Fault Refusal :=
  ok (ghReq c 6 seq 1 payload 0 (fun s =>
    let r := pw payload 0
    let mv := s.fld (GH_RAIL r) F_GH_RAIL_MV
    if 4 ≤ r then ghReply c.toNat 6 seq.toNat 2 [] s
    else if graveLatched s then ghRefuse c.toNat 6 seq.toNat 1 s
    else if mv < 11400 ∨ 12600 < mv ∨ (hdasOf r).any (fun h => spnState h s == 6) then ghRefuse c.toNat 6 seq.toNat 9 s
    else
      let s := modGh (fun g => { g with chopTest := tput [] g.chopTest r (chopTests r s ++ [(c.toNat, seq.toNat)]) }) s
      s.flag (GH_RAIL r) F_GH_RAIL_CHOP_ON) s)

/-- The chopper-fault detection of a rail is armed again (R437). -/
def chopPass (r : Nat) (s : State) : State :=
  emit 0xA006 (setInhibit r false (s.setf (GH_RAIL r) F_GH_RAIL_CHOP_FAULT 0))

/-- CHOPPER_TEST_END: the 20 µs are over; the peak current and whether it was reached within 10 µs (R437). The chopper stays on where its rail
is at 13.6 V or above (R78). The inhibit is released by the Gatehouse cores, if they execute (R424). -/
def execChopperTestEnd (r : Rail) (peakMa : BitVec 16) (within10us : Bool) (s : State) : Host.Outcome State Fault Refusal :=
  let k := r.toNat
  let pass := decide (500 ≤ peakMa.toNat) && within10us
  ok (match chopTests k s with
    | [] => s
    | l =>
      let s := modGh (fun g => { g with chopTest := tput [] g.chopTest k [] }) s
      let s := if 13600 ≤ s.fld (GH_RAIL k) F_GH_RAIL_MV then s else s.setf (GH_RAIL k) F_GH_RAIL_CHOP_ON 0
      let s := if pass && ghRunning s then chopPass k s else s
      each (l.filter (fun x => decide (x.1 < 8))) (fun x t => ghReply x.1 6 x.2 (if pass then 0 else 4) [BitVec.ofNat 32 peakMa.toNat] t) s)

/-- SET_NOTICE: the cores that receive notices (R448, R449). -/
def execSetNotice (c : CoreId) (seq : Seq) (payload : List W32) (s : State) : Host.Outcome State Fault Refusal :=
  ok (ghReq c 7 seq 1 payload 0 (fun s =>
    ghReply c.toNat 7 seq.toNat 0 [] (s.setf GH_NOTICE_EN F_GH_NOTICE_EN_EN (pw payload 0 % 256))) s)

/-! ### Supplies (R438) -/

/-- The window of a supply in mV. -/
def supplyWindow (b : Nat) : Nat × Nat :=
  match b with
  | 0 => (670, 830)
  | 1 => (810, 890)
  | 2 => (1140, 1260)
  | 3 => (1050, 1160)
  | 4 => (1710, 1890)
  | _ => (3130, 3470)

/-- Whether a voltage lies outside a supply's window. -/
def supplyOutside (b mv : Nat) : Bool := decide (b < 6 ∧ (mv < (supplyWindow b).1 ∨ (supplyWindow b).2 < mv))

/-- Write inhibit over every actuator (R426, R438). -/
def writeInhibitAll (s : State) : State :=
  let s := s.flag GH_SUPPLY F_GH_SUPPLY_WRITE_INHIBIT
  each (List.range 64) (fun a t => refreshForced a (fenceOff a 15 causeForced t)) s

/-- An excursion of more than 2 µs: STICKY, a Notice record with the voltage, event 0xA009 and write inhibit. -/
def supplyExc (b mv : Nat) (inj : Bool) (s : State) : State :=
  let s := s.setf GH_SUPPLY F_GH_SUPPLY_STICKY (setBit (s.fld GH_SUPPLY F_GH_SUPPLY_STICKY) b true)
  emit 0xA009 (writeInhibitAll (lodge .notice 0xA009 b mv inj s))

/-- Whether a supply is shown outside its window. -/
def supplyNow (b : Nat) (s : State) : Bool := (s.fld GH_SUPPLY F_GH_SUPPLY_NOW).testBit b

/-- SUPPLY_EXCURSION: a supply outside its window for more than 2 µs, once for each excursion (R438): a further one, before every supply has been back
for 1 ms, too, and its own 100 µs count. -/
def execSupplyExcursion (b : BitVec 3) (mv : BitVec 16) (s : State) : Host.Outcome State Fault Refusal :=
  let k := b.toNat
  ok (onlyIf (supplyOutside k mv.toNat) (fun s =>
    let s := modGh (fun g => { g with supplyOut := tput false g.supplyOut k false }) s
    supplyExc k mv.toNat false (s.setf GH_SUPPLY F_GH_SUPPLY_NOW (setBit (s.fld GH_SUPPLY F_GH_SUPPLY_NOW) k true))) s)

/-- Every loaded actuator is retracted with an Actuator-class fault (R438, R439). -/
def loadedFault (code detail : Nat) (inj : Bool) (s : State) : State :=
  each ((List.range 64).filter (fun a => loaded a s)) (fun a t => actFault a code a detail inj t) s

/-- SUPPLY_FAULT: the excursion lasts for more than 100 µs (R438, R444). -/
def execSupplyFault (b : BitVec 3) (mv : BitVec 16) (s : State) : Host.Outcome State Fault Refusal :=
  let k := b.toNat
  ok (onlyIf (supplyOutside k mv.toNat && supplyNow k s && !tget false s.gh.supplyOut k)
    (fun s => loadedFault 0xA009 (k * 2 ^ 24 + mv.toNat) false (modGh (fun g => { g with supplyOut := tput false g.supplyOut k true }) s)) s)

/-- SUPPLY_RECOVERED: every supply has been back within its window for 1 ms; the Gatehouse cores, if they execute, release write inhibit (R424,
R438). -/
def execSupplyRecovered (s : State) : Host.Outcome State Fault Refusal :=
  let s := (modGh (fun g => { g with supplyOut := [] }) s).setf GH_SUPPLY F_GH_SUPPLY_NOW 0
  ok (onlyIf (ghRunning s) (fun s => each (List.range 64) refreshForced (s.setf GH_SUPPLY F_GH_SUPPLY_WRITE_INHIBIT 0)) s)

/-! ### Temperature (R439) -/

/-- TEMPERATURE_SAMPLE: Tj in °C plus 40; below 110 °C the thermal condition ends. -/
def execTemperatureSample (tj : Byte) (s : State) : Host.Outcome State Fault Refusal :=
  let n := tj.toNat
  let s := (s.setf GH_TEMP F_GH_TEMP_TJ n).setf GH_TEMP F_GH_TEMP_MAX (max n (s.fld GH_TEMP F_GH_TEMP_MAX))
  ok (if n < 150 then modGh (fun g => { g with thermal := false }) s else s)

/-- Tj as last read, in °C. -/
def tjNow (s : State) : Nat := s.fld GH_TEMP F_GH_TEMP_TJ - 40

/-- THERMAL_DETECTED: Tj at or above 110 °C for 100 ms. -/
def execThermalDetected (s : State) : Host.Outcome State Fault Refusal :=
  ok (onlyIf (decide (110 ≤ tjNow s) && !s.gh.thermal)
    (fun s => loadedFault 0xA00A (tjNow s) false (emit 0xA00A (modGh (fun g => { g with thermal := true }) s))) s)

/-- THERMAL_GRAVE: Tj at or above 125 °C for 10 ms. -/
def execThermalGrave (s : State) : Host.Outcome State Fault Refusal :=
  ok (onlyIf (decide (125 ≤ tjNow s)) (fun s => grave 0xA00A 0 (tjNow s) false (emit 0xA00A s)) s)

/-! ### The Gatehouse's own faults (R425) -/

/-- LOCKSTEP_MISMATCH. -/
def execLockstepMismatch (s : State) : Host.Outcome State Fault Refusal :=
  ok (onlyIf (ghRunning s) (fun s => ghSelfFault 0xA101 (s.setf GH_ID F_GH_ID_LOCKSTEP_OK 0)) s)

/-- GH_SRAM_UNCORRECTABLE. -/
def execGhSramUncorrectable (s : State) : Host.Outcome State Fault Refusal :=
  ok (onlyIf (ghRunning s) (ghSelfFault 0xA102) s)

/-! ### Injection (R455) -/

/-- The number of sources of a condition code; 0 for a code that is none. -/
def injSources (code : Nat) : Nat :=
  if code = 0 then 0
  else if code ≤ 4 then 16
  else if code ≤ 0x0C then 64
  else if code ≤ 0x0E then 6
  else if code = 0x0F then 1
  else if code ≤ 0x11 then 4
  else if code = 0x12 then 64
  else if code = 0x13 then 152
  else if code = 0x14 then 64
  else if code = 0x15 then 16
  else if code = 0x16 then 4
  else if code ≤ 0x1A then 1
  else 0

/-- The event code of conditions 0x01 to 0x0B. -/
def injCode (code : Nat) : Nat :=
  [0, 0x500D, 0x5005, 0x5006, 0x5007, 0x4006, 0x400A, 0x4005, 0x400B, 0x1009, 0x100B, 0x1005].getD code 0

/-- The reaction logic treats a condition as detected at a source (R428, R455). The blocks themselves detect nothing: their own flags and events
stay. `mv`: the voltage that the Gatehouse reads on the supply named. -/
def injectAt (code src mv : Nat) (s : State) : State :=
  if code ≤ 4 then hdaFault src (injCode code) true s
  else if code ≤ 0x0B then actFault src (injCode code) src 0 true s
  else match code with
    | 0x0C => retractFail src false true (fenceOff src 15 causeForced s)
    | 0x0D => supplyExc src mv true s
    | 0x0E => loadedFault 0xA009 (src * 2 ^ 24 + mv) true s
    | 0x0F => loadedFault 0xA00A (tjNow s) true (emit 0xA00A s)
    | 0x10 => chopFault src (s.fld (GH_RAIL src) F_GH_RAIL_MV) true s
    | 0x11 => railBrakesEnd src (powerLoss src (s.fld (GH_RAIL src) F_GH_RAIL_MV) true s)
    | 0x12 => lodge .notice 0x3003 src 0 true s
    | 0x13 => lodge .notice 0x9007 src 0 true s
    | 0x14 => lodge .data 0x1103 src 0 true s
    | 0x15 => lodge .data 0x6005 src 0 true s
    | 0x16 => railGrave src (s.fld (GH_RAIL src) F_GH_RAIL_MV) true s
    | 0x17 => grave 0xA00A 0 (tjNow s) true (emit 0xA00A s)
    | 0x18 => grave 0xA101 0 0 true s
    | 0x19 => grave 0xA102 0 0 true s
    | _ => grave 0xA103 0 0 true s

/-- INJECT (R455): the scope first, then the condition code and source. Nothing else makes a condition count as detected that is not there (R456). -/
def execInject (c : CoreId) (seq : Seq) (payload : List W32) (mv : BitVec 16) (s : State) : Host.Outcome State Fault Refusal :=
  ok (ghReq c 8 seq 2 payload mv.toNat (fun s =>
    let code := pw payload 0 % 65536
    let src := pw payload 1 % 256
    if !shedOpen 1 s then ghRefuse c.toNat 8 seq.toNat 5 s
    else if injSources code ≤ src then ghReply c.toNat 8 seq.toNat 2 [] s
    else ghReply c.toNat 8 seq.toNat 0 [] (emit 0xA00F (injectAt code src mv.toNat s))) s)

/-! ### Reads that clear, and ageing (R443, R448, R457) -/

/-- NOTICE_READ: the word is returned; a core's read clears PENDING (R448, R457). -/
def execNoticeRead (m : Master) (c : CoreId) (s : State) : Host.Outcome State Fault Refusal :=
  let s := { s with rdata := s.rd (GH_NOTICE c.toNat) }
  ok (if isCore m.toNat then s.setf (GH_NOTICE c.toNat) F_GH_NOTICE_PENDING 0 else s)

/-- SUPPLY_STICKY_READ: the word is returned; a core's read clears STICKY (R457). -/
def execSupplyStickyRead (m : Master) (s : State) : Host.Outcome State Fault Refusal :=
  let s := { s with rdata := s.rd GH_SUPPLY }
  ok (if isCore m.toNat then s.setf GH_SUPPLY F_GH_SUPPLY_STICKY 0 else s)

/-- FAULT_AGED_OUT: faults older than 24 h by Sundial no longer count (R443). -/
def execFaultAgedOut (s : State) : Host.Outcome State Fault Refusal := ok (each (List.range 64) showFaults s)

end Sys2Proof.Machine
end

