-- ==== Sys2Proof/Machine/Place.lean ====
section
/-! DEFINITION. Namespaces and placement (spec/09_host_interface.md, R346–R351): which actuator a logical block lies on, and when a namespace is
ready. -/

namespace Sys2Proof.Machine

/-- The whole lines an actuator holds in a range of cylinders (R348). -/
def linesOn (a first last : Nat) (s : State) : Nat :=
  (((List.range (last + 1 - first)).map (fun i => cylSpt a (first + i) s)).sum * headsOn a s) / 128

/-- The capacity of a placement in logical blocks (R348). -/
def NsSt.capacity (n : NsSt) : Nat :=
  if n.mode = 0 then
    match n.lines with
    | [] => 0
    | l :: r => n.lines.length * (r.foldl min l) * 128
  else n.lines.sum * 128

/-- The actuators that a range of logical blocks touches. -/
def NsSt.touched (n : NsSt) (lba nlb : Nat) : List Nat :=
  ((List.range ((lba + nlb - 1) / 128 + 1 - lba / 128)).map (fun i => n.actOf (lba / 128 + i))).eraseDups

/-- Changes a namespace. -/
def modNs (id : Nat) (f : NsSt → NsSt) (s : State) : State :=
  modHif (fun h => { h with nss := tput none h.nss id ((tget none h.nss id).map f) }) s

/-- Whether an HDA's spindle is in AT_SPEED. -/
def atSpeed (h : Nat) (s : State) : Bool := spnState h s == 5

/-- The actuator that a cache line lies on, by its key (R264, R348). -/
def lineAct (key : Nat) (s : State) : Option Nat := (nsAt (key / 2 ^ 34 + 1) s).map (fun n => n.actOf (key % 2 ^ 34))

/-- Whether an actuator cannot write: it is isolated or its spindle is not in AT_SPEED (R330). -/
def cannotWrite (a : Nat) (s : State) : Bool := isolated a s || actState a s == 7 || !atSpeed (hdaOf a) s

/-- Whether a dirty line waits for an actuator that cannot write; a line of no namespace has none. -/
def lineStuck (key : Nat) (s : State) : Bool :=
  match lineAct key s with
  | some a => cannotWrite a s
  | none => false

/-! ### Readiness (R349, R511) -/

/-- Whether the actuators of an HDA that a placement touches are loaded; one that is isolated is left out. -/
def actUp (a : Nat) (s : State) : Bool := isolated a s || loaded a s

/-- Whether a namespace returns Namespace Not Ready somewhere: it has not been ready since start-up, or an HDA of its set is not in AT_SPEED. -/
def nsUnready (n : NsSt) (s : State) : Bool := !n.up || n.acts.any (fun a => !atSpeed (hdaOf a) s)

/-- A namespace that has become ready after start-up (R511). -/
def nsUp (s : State) (n : NsSt) : NsSt := { n with up := n.up || n.acts.all (fun a => atSpeed (hdaOf a) s && actUp a s) }

/-- A namespace enters the Changed Namespace List, and a Namespace Attribute Changed notice is posted (R349). -/
def nsChanged (id : Nat) (s : State) : State :=
  asyncPost 2 0 4 (modHif (fun h => { h with changed := if h.changed.contains id then h.changed else h.changed ++ [id] }) s)

/-- The attached namespaces as they are known to be ready or not; each change is noticed (R349). -/
def readyShow (s : State) : State :=
  let s := modHif (fun h => { h with nss := h.nss.map (fun x => (x.1, x.2.map (nsUp s))) }) s
  let now := s.hif.nss.filterMap (fun x => x.2.bind (fun n => if n.attached && nsUnready n s then some x.1 else none))
  let old := s.hif.unready
  let diff := (now.filter (fun i => !old.contains i)) ++ (old.filter (fun i => !now.contains i && (nsAt i s).isSome))
  each diff nsChanged (modHif (fun h => { h with unready := now }) s)

end Sys2Proof.Machine
end

