-- ==== Sys2Proof/Machine/Mgmt.lean ====
section
/-! DEFINITION. Host management messages (spec/10_firmware_platform.md, R376–R378; spec/15_bring_up.md, R516), and the commands that their long
operations wait for: UNLOAD_COMPLETE, BELOW_30_RPM and AT_SPEED_REACHED (R48, R111). Resident firmware takes the next steps of a
long operation at the reference edges at which no command waits. -/

namespace Sys2Proof.Machine

/-- A message with a stated number of payload words (R375). -/
def mgmtMsg (ch : Chan) (op : Nat) (seq : Seq) (n : Nat) (payload : List W32) (f : State → State) (s : State) : State :=
  hostMsg ch.toNat op seq.toNat payload (fun s => if payload.length = n then f s else hostReply ch.toNat op seq.toNat 2 [] s) s

/-- A mask of numbers below 32. -/
def maskOf (l : List Nat) : W32 := BitVec.ofNat 32 (l.map (fun i => 2 ^ i)).sum

/-! ### Immediate messages -/

/-- The version of the running image (bytes 8 to 11 of its header); 0 while none runs. -/
def fwVersion (s : State) : W32 :=
  match s.hif.runSlot with
  | some k => BitVec.ofNat 32 (ofLe (s.rdNvs (slotAddr k - 0x10000000 + 8) 4))
  | none => 0

/-- GET_INFO (R376). -/
def execGetInfo (ch : Chan) (seq : Seq) (len : Nat) (s : State) : Host.Outcome State Fault Refusal :=
  ok (mgmtMsg ch 1 seq 0 (List.replicate len 0) (fun s =>
    hostReply ch.toNat 1 seq.toNat 0 [s.rd PWR_FAMILY_ID, fwVersion s, Config.hdasFitted.zeroExtend 32, s.rd SEQ_IMAGE_ID] s) s)

/-- The states of eight spindles, 4 bits each. -/
def stateWord (first : Nat) (s : State) : W32 :=
  BitVec.ofNat 32 ((List.range 8).map (fun i => spnState (first + i) s * 16 ^ i)).sum

/-- HDA_STATE (R376). -/
def execHdaState (ch : Chan) (seq : Seq) (len : Nat) (s : State) : Host.Outcome State Fault Refusal :=
  ok (mgmtMsg ch 2 seq 0 (List.replicate len 0) (fun s =>
    hostReply ch.toNat 2 seq.toNat 0 [stateWord 0 s, stateWord 8 s, s.rd (GH_ISOLATED 0), s.rd (GH_ISOLATED 1)] s) s)

/-- The parameter record that holds the subsystem IDs (R303). -/
def ssidRecord : Nat := 1000

/-- SET_SUBSYS: in force from the next PERST# (R303, R378). -/
def execSetSubsys (ch : Chan) (seq : Seq) (payload : List W32) (s : State) : Host.Outcome State Fault Refusal :=
  ok (mgmtMsg ch 6 seq 1 payload (fun s => hostReply ch.toNat 6 seq.toNat 0 [] (parPut ssidRecord (wordBytes payload) s)) s)

/-- SET_ACCEL: 1 to 16 spindles accelerating at once (R378). -/
def execSetAccel (ch : Chan) (seq : Seq) (payload : List W32) (s : State) : Host.Outcome State Fault Refusal :=
  ok (mgmtMsg ch 7 seq 1 payload (fun s =>
    let n := pw payload 0
    if n < 1 ∨ 16 < n then hostReply ch.toNat 7 seq.toNat 2 [] s
    else hostReply ch.toNat 7 seq.toNat 0 [] (s.setf SPN_ACCEL_MAX F_SPN_ACCEL_MAX_MAX n)) s)

/-- ECHO (R376). -/
def execEcho (ch : Chan) (seq : Seq) (payload : List W32) (s : State) : Host.Outcome State Fault Refusal :=
  ok (hostMsg ch.toNat 0x0B seq.toNat payload (fun s =>
    if payload.length ≤ 15 then hostReply ch.toNat 0x0B seq.toNat 0 payload s else hostReply ch.toNat 0x0B seq.toNat 2 [] s) s)

/-- The operations of host channels, with those of recovery mode, and of Gatehouse channels (R376, R449, R512). -/
def knownOp (c op : Nat) : Bool :=
  if c < 8 then decide (1 ≤ op ∧ op ≤ 0x0B) || decide (0x20 ≤ op ∧ op ≤ 0x22) else decide (1 ≤ op ∧ op ≤ 8)

/-- UNKNOWN_OP: answered with status 1 on host channels and on core–Gatehouse channels (R375, R449). Messages between cores are the firmware's
own. -/
def execUnknownOp (ch : Chan) (op : Byte) (seq : Seq) (s : State) : Host.Outcome State Fault Refusal :=
  let c := ch.toNat
  ok (if knownOp c op.toNat then s
    else if c < 8 then hostMsg c op.toNat seq.toNat [] (hostReply c op.toNat seq.toNat 1 []) s
    else if 36 ≤ c ∧ c < 44 then ghMsg (c - 36) op.toNat seq.toNat [] 0 (ghReply (c - 36) op.toNat seq.toNat 1 []) s
    else s)

/-! ### Long operations -/

/-- The first of the long operations that holds a channel and sequence number is replaced, or ends. -/
def jobPut (j : HJob) (new : Option HJob) (s : State) : State :=
  modHif (fun h => { h with jobs := h.jobs.flatMap (fun x => if x.chan = j.chan ∧ x.seq = j.seq ∧ x.op = j.op then new.toList else [x]) }) s

/-- The phase of an HDA. -/
def HJob.at (j : HJob) (h : Nat) : Nat := tget 0 j.phase h

/-- An HDA's phase, and whether it failed. -/
def HJob.set (j : HJob) (h n : Nat) : HJob := { j with phase := tput 0 j.phase h n }
def HJob.fail (j : HJob) (h : Nat) : HJob := { j with phase := tput 0 j.phase h 9, failed := j.failed ++ [h] }

/-- Media work for an HDA is held while it is named by a SPIN_DOWN that has not unloaded it yet (R377). -/
def hdaHeld (h : Nat) (s : State) : Bool := s.hif.jobs.any (fun j => j.op == 3 && j.named.contains h && decide (j.at h < 3))

/-- The dirty lines with sectors on an HDA. -/
def hdaDirty (h : Nat) (s : State) : List (Nat × TagLine) :=
  s.buf.tags.filter (fun x => x.2.dirtyClass && (match lineAct x.2.key s with
    | some a => hdaOf a == h
    | none => false))

/-- A job and the state it goes on from. -/
abbrev JobStep := HJob × State

/-- Running and queued track operations of an HDA. -/
def hdaOps (h : Nat) (s : State) : Bool := (actsOf h).any (fun a => !(seq a s).ops.isEmpty)

/-- Resident firmware folds an actuator's counters into the Icehouse before its domain is switched off (R164, R474): those of the upstream and the
downstream lanes, then the causes of the read and the write channel. -/
def foldActuator (a : Nat) (s : State) : State :=
  let lanes := [0, 1, 2, 3]
  let up : List (Nat → Reg) := [LNK_UP_SYNC_ERR a, LNK_UP_CRC_ERR a, LNK_UP_PAR_ERR a, LNK_UP_SEQ_GAP a, LNK_UP_LOCK_LOSS a, LNK_UP_RETRAIN a]
  let dn : List (Nat → Reg) := [LNK_DN_SYNC_ERR a, LNK_DN_SCMD_CRC a, LNK_DN_LOCK_LOSS a, LNK_DN_RETRAIN a]
  let regs := (up ++ dn).map (fun r => (lanes.map (fun i => (s.rd (r i)).toNat)).foldl (· + ·) 0)
  let ctrs := (List.range 8).map (fun n => s.ctr (RCH_STAT a (56 + n))) ++ (List.range 8).map (fun n => s.ctr (WCH_STAT a (24 + n)))
  each ((regs ++ ctrs).zipIdx) (fun x t => t.ctrSat (ICE_FOLD_SUM x.2) 48 x.1) s

/-- The track operations of an HDA are cancelled: one that runs ends at its segment end, one that never ran ends at once (R242, R377). -/
def hdaOpsEnd (h : Nat) (s : State) : State :=
  each (actsOf h) (fun a t => each ((seq a t).ops.filter (fun o => !o.cancel)) (fun o u => cancelSlot a o.slot u) t) s

/-- One HDA of a SPIN_DOWN goes on by one step (R377). Phases: 0 the running operations end at their segment ends; 1 the write-backs; 2 the unload; 3 the brake; 9 over. -/
def downHda (h : Nat) (x : JobStep) : JobStep :=
  let j := x.1
  let s := x.2
  match j.at h with
  | 0 => if hdaOps h s then (j, hdaOpsEnd h s) else (j.set h 1, each ((hdaDirty h s).map Prod.fst) wbPost s)
  | 1 =>
    let l := hdaDirty h s
    if l.isEmpty then (j.set h 2, each (actsOf h) (fun a t => if 2 ≤ actState a t ∧ actState a t ≤ 4 then actUnload a t else t) s)
    else if l.all (fun e => lineStuck e.2.key s) then (j.fail h, s)
    else (j, each (l.map Prod.fst) (fun e t => if (tag e t).due then t else wbPost e t) s)
  | 2 =>
    if hdaLoaded h s then (j, each (actsOf h) (fun a t => if 2 ≤ actState a t ∧ actState a t ≤ 4 then actUnload a t else t) s)
    else (j.set h 3, spnBrake h s)
  | 3 =>
    let stopped := (spnState h s != 6 && spnState h s != 8) || s.fld (SPN_FAULT h) F_SPN_FAULT_BRAKE_TMO == 1
    if !stopped ∨ s.fld PWR_DOM_RESULT F_PWR_DOM_RESULT_BUSY = 1 then x
    else
      let s := each ((actsOf h).filter (fun a => s.domOn a)) (fun a t => domReq (routedCore j.chan t) a false (foldActuator a t)) s
      if spnState h s = 0 then (j.set h 9, s) else (j.fail h, s)
  | _ => x

/-- One HDA of a SPIN_UP goes on by one step (R378). Phases: 0 the actuator domains come up; 1 the start; 2 the loads; 3 the actuators come to rest;
9 over. An HDA fails when an actuator's link is down, its LOAD is refused, or it ends neither in TRACK nor in PARKED with its link up (R376). -/
def upHda (h : Nat) (x : JobStep) : JobStep :=
  let j := x.1
  let s := x.2
  match j.at h with
  | 0 =>
    match (actsOf h).find? (fun a => !s.domOn a) with
    | some a => (j, if s.fld PWR_DOM_RESULT F_PWR_DOM_RESULT_BUSY = 1 then s else domReq (routedCore j.chan s) a true s)
    | none => (j.set h 1, if atSpeed h s then s else spnStart h s)
  | 1 =>
    if atSpeed h s then (j.set h 2, s)
    else if spnState h s = 4 ∨ (spin h s).accel ∨ s.spnQueue.contains h then x
    else (j.fail h, s)
  | 2 =>
    if (actsOf h).any (fun a => linkMode a s == 1) then x
    else
      let s := each (actsOf h) (fun a t => if actState a t = 0 ∧ 2 ≤ linkMode a t then actLoad a t else t) s
      if (actsOf h).any (fun a => actState a s == 0) then (j.fail h, s) else (j.set h 3, s)
  | 3 =>
    if (actsOf h).any (fun a => actState a s == 1 || actState a s == 2 || actState a s == 3 || actState a s == 5 || actState a s == 6) then x
    else if (actsOf h).any (fun a => actState a s != 4 && !(actState a s == 0 && decide (2 ≤ linkMode a s))) then (j.fail h, s)
    else (j.set h 9, s)
  | _ => x

/-- The start-up work of R511: the actuator domains of every HDA come up, the spindles are started in one cycle, and each HDA goes on as in
SPIN_UP from there. -/
def bootStep (x : JobStep) : JobStep :=
  let j := x.1
  let s := x.2
  if j.begun then j.named.foldl (fun (b : JobStep) h => upHda h b) (j, s)
  else match (j.named.flatMap actsOf).find? (fun a => !s.domOn a) with
    | some a => (j, if s.fld PWR_DOM_RESULT F_PWR_DOM_RESULT_BUSY = 1 then s else domReq 0 a true s)
    | none =>
      let t := each j.named (fun h u => if atSpeed h u then u else spnStart h u) s
      ({ j with begun := true, phase := j.named.map (fun h => (h, 1)) }, t)

/-- The state that a way is to reach: 2 ON or 0 OFF. -/
def pairDone (p : Nat) (on : Bool) (s : State) : Bool :=
  [2 * p, 2 * p + 1].all (fun w => if on then wayState w s == 2 || !(s.fld BUF_WAY_CTL F_BUF_WAY_CTL_EN).testBit w
    else wayState w s == 0 || (s.fld BUF_WAY_CTL F_BUF_WAY_CTL_EN).testBit w)

/-- The ways of a mask that are to be changed in a pair. -/
def pairWays (p : Nat) (on : Bool) (j : HJob) : List Nat := [2 * p, 2 * p + 1].filter (fun w => j.named.contains w == on)

/-- A WAYS message goes on: the present pair, once it has reached its state, gives way to the next (R516). -/
def waysStep (x : JobStep) : JobStep :=
  let j := x.1
  let s := x.2
  match j.pairs with
  | [] => x
  | (p, on) :: r =>
    if !j.begun then
      ({ j with begun := true }, each (pairWays p on j) (fun w t => if (t.fld BUF_WAY_CTL F_BUF_WAY_CTL_EN).testBit w = on then t else wayWrite w on t) s)
    else if pairDone p on s then ({ j with begun := false, pairs := r }, s)
    else x

/-- The answer of a job that is over (R376); start-up has none. -/
def jobAnswer (j : HJob) (s : State) : State :=
  if j.op = 0x0C then s
  else if j.op = 5 then
    let bad := j.named.any (fun w => wayState w s != 2)
    hostReply j.chan 5 j.seq (if bad then 4 else 0) [s.rd BUF_WAY_STATE] s
  else
    let good := j.named.filter (fun h => !j.failed.contains h)
    hostReply j.chan j.op j.seq (if j.failed.isEmpty then 0 else 4) [maskOf good, maskOf (j.named.filter (fun h => j.failed.contains h))] s

/-- Whether a job is over. -/
def HJob.ended (j : HJob) : Bool := if j.op = 0x0C ∧ !j.begun then false else if j.op = 5 then j.pairs.isEmpty else j.named.all (fun h => j.at h == 9)

/-- A job goes on by one step for each of its HDAs, and is answered when it is over. -/
def jobRun (j : HJob) (s : State) : State :=
  let x := if j.op = 3 then j.named.foldl (fun (b : JobStep) h => downHda h b) (j, s)
    else if j.op = 4 then j.named.foldl (fun (b : JobStep) h => upHda h b) (j, s)
    else if j.op = 5 then waysStep (j, s)
    else bootStep (j, s)
  if x.1.ended then jobAnswer x.1 (jobPut j none x.2) else jobPut j (some x.1) x.2

/-- Resident firmware goes on with the messages under way. -/
def jobsRun (s : State) : State := each s.hif.jobs jobRun s

/-- A long operation begins. -/
def jobStart (j : HJob) (s : State) : State := jobRun j (modHif (fun h => { h with jobs := h.jobs ++ [j] }) s)

/-- SPIN_DOWN (R377); the requested state is kept in the parameter area (R511). -/
def execSpinDown (ch : Chan) (seq : Seq) (payload : List W32) (s : State) : Host.Outcome State Fault Refusal :=
  ok (mgmtMsg ch 3 seq 1 payload (fun s =>
    jobStart { chan := ch.toNat, seq := seq.toNat, op := 3, named := bitsOf 16 (pw payload 0) }
      (upKeep (upMask s &&& (65535 - pw payload 0 % 65536)) s)) s)

/-- SPIN_UP (R378); the requested state is kept in the parameter area (R511). -/
def execSpinUp (ch : Chan) (seq : Seq) (payload : List W32) (s : State) : Host.Outcome State Fault Refusal :=
  ok (mgmtMsg ch 4 seq 1 payload (fun s =>
    jobStart { chan := ch.toNat, seq := seq.toNat, op := 4, named := bitsOf 16 (pw payload 0) }
      (upKeep (upMask s ||| pw payload 0 % 65536) s)) s)

/-- The pairs that a mask changes, in the order of R516: off from ways 14 and 15 down, then on from ways 0 and 1 up. -/
def wayPairs (mask en : Nat) : List (Nat × Bool) :=
  let diff := fun (on : Bool) (p : Nat) => [2 * p, 2 * p + 1].any (fun w => mask.testBit w == on && en.testBit w != on)
  ((List.range 8).reverse.filter (diff false)).map (fun p => (p, false)) ++ ((List.range 8).filter (diff true)).map (fun p => (p, true))

/-- WAYS (R516). -/
def execWays (ch : Chan) (seq : Seq) (payload : List W32) (s : State) : Host.Outcome State Fault Refusal :=
  ok (mgmtMsg ch 5 seq 1 payload (fun s =>
    let m := pw payload 0 % 65536
    jobStart { chan := ch.toNat, seq := seq.toNat, op := 5, named := bitsOf 16 m,
               pairs := wayPairs m (s.fld BUF_WAY_CTL F_BUF_WAY_CTL_EN) } s) s)

/-! ### What they wait for (R48, R111) -/

/-- UNLOAD_COMPLETE: the heads reach the ramp (R111). -/
def execUnloadComplete (a : Act) (s : State) : Host.Outcome State Fault Refusal :=
  ok (onlyIf (actState a.toNat s == 5) (setActState a.toNat 0) s)

/-- AT_SPEED_REACHED: the set-point equals the target and the speed has stayed within ±0.1 % of it for 32 revolutions (R48, R55). -/
def execAtSpeedReached (h : Hda) (speed : BitVec 20) (s : State) : Host.Outcome State Fault Refusal :=
  let k := h.toNat
  ok (onlyIf (spnState k s == 4 && within k speed.toNat 1 s && decide (32 ≤ (spin k s).revRun) &&
      (spin k s).setpoint == 65536 * s.fld (SPN_TARGET k) F_SPN_TARGET_RPM) (spnAtSpeed k speed.toNat) s)

/-- A spindle below 30 rpm (R48, R54, R69): ALIGNING when an admitted start is in progress, else STOPPED. -/
def spnBelow (h : Nat) (s : State) : State :=
  if (spin h s).accel then
    modSpin h (fun x => { x with step := 1 }) (spnGo h 2 0 s)
  else spnGo h 0 (s.fld (SPN_STATE h) F_SPN_STATE_CAUSE) s

/-- BELOW_30_RPM: the U-phase current has not changed sign for the stated time (R48). -/
def execBelow30Rpm (h : Hda) (s : State) : Host.Outcome State Fault Refusal :=
  ok (onlyIf (spnState h.toNat s == 8) (spnBelow h.toNat) s)

end Sys2Proof.Machine
end

