-- ==== Sys2Proof/Machine/Pcie.lean ====
section
/-! DEFINITION. The PCI configuration space and the AER log (spec/09_host_interface.md, R303, R306, R308). The spec gives the features and their
values; the places of the registers are those of the PCI Express standard, and the offsets of the capabilities are the model's own choice. -/

namespace Sys2Proof.Machine

/-- The reset value of a dword of the structures of R303's capabilities beyond their headers: lane equalization control of an endpoint, whose presets
have not been received; the modified TS usage mode of PCI Express; the margining command No Command of each lane; scaled flow control and
the exchange of its feature. -/
def cfgBody (d : Nat) : W32 :=
  if 0x5B ≤ d ∧ d ≤ 0x62 then 0x7F007F00
  else if (0x70 ≤ d ∧ d ≤ 0x73) ∨ (0x7C ≤ d ∧ d ≤ 0x7F) ∨ (0x84 ≤ d ∧ d ≤ 0x87) then 0xF0F0F0F0
  else if d = 0x75 then 0x00000100
  else if 0x92 ≤ d ∧ d ≤ 0xA1 then 0x00009C38
  else if d = 0xA5 then 0x80000001
  else 0

/-- The reset value of a dword of the configuration space: header, BARs (R30 to R32), power management, MSI-X, PCI Express. -/
def cfgRst (d : Nat) : W32 :=
  match d with
  | 0x01 => 0x00100000
  | 0x04 => 0x00000004
  | 0x06 => 0x00000004
  | 0x08 => 0x00000004
  | 0x0D => 0x00000040
  | 0x10 => 0x00035001
  | 0x11 => 0x00000008
  | 0x14 => 0x07FF6011
  | 0x15 => 0x00000004
  | 0x16 => 0x00008004
  | 0x18 => 0x00020010
  | 0x19 => 0x10008022
  | 0x1A => 0x00002810
  | 0x1B => 0x00000906
  | 0x21 => 0x0003001F
  | 0x23 => 0x0000007E
  | 0x24 => 0x00000006
  | 0x40 => 0x15020001
  | 0x42 => 0x00400000
  | 0x43 => 0x00462030
  | 0x45 => 0x00006000
  | 0x46 => 0x00000200
  | 0x54 => 0x16010003
  | 0x58 => 0x1A010019
  | 0x68 => 0x1D010026
  | 0x74 => 0x2001002A
  | 0x80 => 0x24010031
  | 0x90 => 0x29010027
  | 0xA4 => 0x2A010025
  | 0xA8 => 0x00010032
  | _ => cfgBody d

/-- The bits of a dword that a write stores. -/
def cfgRw (d : Nat) : W32 :=
  match d with
  | 0x01 => 0x00000546
  | 0x03 => 0x000000FF
  | 0x04 => 0xFFFFC000
  | 0x05 => 0xFFFFFFFF
  | 0x06 => 0xFFC00000
  | 0x07 => 0xFFFFFFFF
  | 0x08 => 0xFFFF0000
  | 0x09 => 0xFFFFFFFF
  | 0x0F => 0x000000FF
  | 0x11 => 0x00000003
  | 0x14 => 0xC0000000
  | 0x1A => 0x000079FF
  | 0x1C => 0x000000CB
  | 0x22 => 0x0000131F
  | 0x24 => 0x0000000F
  | 0x42 => 0x07FFFFF0
  | 0x43 => 0x07FFFFF0
  | 0x45 => 0x0000F1C1
  | 0x46 => 0x00000400
  | 0x59 => 0x0000FE00
  | 0xAB => 0x0000FF0F
  | 0xAC => 0x0000000F
  | _ => if 0x92 ≤ d ∧ d ≤ 0xA1 then 0x0000FF7F else 0

/-- The bits of a dword that a 1 written clears: the error bits of Status and Device Status, the AER status registers, and the status bits of the lanes
and of equalization. -/
def cfgW1c (d : Nat) : W32 :=
  match d with
  | 0x01 => 0xF9000000
  | 0x1A => 0x000F0000
  | 0x41 => 0xFFFFFFFF
  | 0x44 => 0xFFFFFFFF
  | 0x5A => 0x0000FFFF
  | 0x6B => 0x00000010
  | 0x6C => 0x0000FFFF
  | 0x6D => 0x0000FFFF
  | 0x6E => 0x0000FFFF
  | 0x77 => 0x00000010
  | 0x83 => 0x00000010
  | 0xA9 => 0x00000001
  | 0xAB => 0xFFFF0000
  | _ => 0

/-- The stored value of a dword. -/
def cfgGet (d : Nat) (s : State) : W32 := tget (cfgRst d) s.hif.cfg d

/-- Stores a dword. -/
def cfgPut (d : Nat) (v : W32) (s : State) : State := modHif (fun h => { h with cfg := tput (cfgRst d) h.cfg d v }) s

/-- Bits that follow the link: equalization complete at each rate above 8 GT/s that the link has reached, receiver margining ready, and the
partner's scaled flow control, which links at 16 GT/s and above use. -/
def cfgLink (d : Nat) (s : State) : Nat :=
  let r := s.fld HIF_LINK F_HIF_LINK_RATE
  let up := s.fld HIF_LINK F_HIF_LINK_L0 == 1
  match d with
  | 0x24 => if 3 ≤ r then 0x1E0000 else 0
  | 0x6B => if 4 ≤ r then 0xF else 0
  | 0x77 => if 5 ≤ r then 0xF else 0
  | 0x83 => if 6 ≤ r then 0xF else 0
  | 0x91 => if up ∧ 4 ≤ r then 0x30000 else 0
  | 0xA6 => if up ∧ 4 ≤ r then 0x80000001 else 0
  | _ => 0

/-- A dword as the host reads it: identifiers and the link's state are shown from their registers (R303). -/
def cfgRead (d : Nat) (s : State) : W32 :=
  match d with
  | 0x00 => s.rd HIF_ID
  | 0x02 => BitVec.ofNat 32 (0x01080200 + s.fld PWR_FAMILY_ID F_PWR_FAMILY_ID_STEPPING)
  | 0x0B => s.hif.ssid
  | 0x1C => BitVec.ofNat 32 ((cfgGet d s).toNat + s.fld HIF_LINK F_HIF_LINK_RATE * 2 ^ 16 + s.fld HIF_LINK F_HIF_LINK_WIDTH * 2 ^ 20)
  | 0x55 => BitVec.ofNat 32 Config.serialNumber.toNat
  | 0x56 => BitVec.ofNat 32 (Config.serialNumber.toNat / 2 ^ 32)
  | _ => cfgGet d s ||| BitVec.ofNat 32 (cfgLink d s)

/-- A field of a dword keeps its value where a write would give it one that is not supported: a power state other than D0 and D3hot, L0s, a payload
above 512 bytes, a read request above 4,096, a rate that does not exist (R303). -/
def cfgKeep (d : Nat) (v : W32) : W32 :=
  let n := v.toNat
  match d with
  | 0x11 => if n % 4 = 1 ∨ n % 4 = 2 then 0x00000003 else 0
  | 0x1C => if n % 2 = 1 then 0x00000003 else 0
  | 0x1A => (if 2 < n / 32 % 8 then 0x000000E0 else 0) ||| (if 5 < n / 4096 % 8 then 0x00007000 else 0)
  | 0x24 => if n % 16 = 0 ∨ 6 < n % 16 then 0x0000000F else 0
  | _ => 0

/-- The First Error Pointer and the header log show an error. -/
def aerLoad (err : Nat) (hdr : List W32) (s : State) : State :=
  each (List.range 4) (fun i t => cfgPut (0x47 + i) (hdr.getD i 0) t) (cfgPut 0x46 ((cfgGet 0x46 s &&& 0xFFFFFFE0) ||| BitVec.ofNat 32 err) s)

/-- Whether the first error's status bit stands. -/
def aerHolds (s : State) : Bool := (cfgGet 0x41 s).toNat.testBit ((cfgGet 0x46 s).toNat % 32)

/-- Once the first error's status bit is cleared, the next recorded error takes its place; its own bit stands again (multiple header recording of the
standard, R306). -/
def aerNext (s : State) : State :=
  match s.hif.aerQ with
  | [] => s
  | (e, hdr) :: r =>
    if aerHolds s then s
    else
      let s := modHif (fun h => { h with aerQ := r }) s
      aerLoad e hdr (cfgPut 0x41 (cfgGet 0x41 s ||| BitVec.ofNat 32 (2 ^ e)) s)

/-- A configuration write of a dword. -/
def cfgWrite (d : Nat) (v : W32) (s : State) : State :=
  let old := cfgGet d s
  let m := cfgRw d &&& ~~~ cfgKeep d v
  let c := cfgW1c d
  aerNext (cfgPut d ((old &&& ~~~ m &&& ~~~ (c &&& v)) ||| (v &&& m)) s)

/-- Whether the function is in D3hot, where it takes no memory request. -/
def inD3 (s : State) : Bool := (cfgGet 0x11 s).toNat % 4 == 3

/-- The width of tags: 14 bits in Flit mode, 10 otherwise (R303). -/
def tagBitsPcie (s : State) : Nat := if s.fld HIF_LINK F_HIF_LINK_FLIT = 1 then 14 else 10

/-- Whether an error, by its bit of the AER status registers, is one that the standard defines for an endpoint and that belongs to no feature that R303
excludes: not those of downstream ports (surprise down, ACS, blocked egress), of multicast, AtomicOps, TLP prefixes, deferrable memory writes
and ECRC, nor those of IDE (R306; DEDUCED, log 136). -/
def aerKnown (cor : Bool) (err : Nat) : Bool :=
  if cor then [0, 6, 7, 8, 12, 13, 14, 15].contains err else [4, 12, 13, 14, 15, 16, 17, 18, 20, 22].contains err

/-- An error by its bit of the AER status registers: an uncorrectable one enters its status, the header log or, behind an error that stands there, the
errors recorded for it, and emits event 0x7002; a correctable one enters its status (R306). -/
def aerReport (cor : Bool) (err : Nat) (hdr : List W32) (s : State) : State :=
  let bit := BitVec.ofNat 32 (2 ^ err)
  if !aerKnown cor err then s
  else if cor then cfgPut 0x44 (cfgGet 0x44 s ||| bit) s
  else
    let s := if aerHolds s then modHif (fun h => { h with aerQ := h.aerQ ++ [(err, hdr)] }) s else aerLoad err hdr s
    emit 0x7002 (modHif (fun h => { h with aerLog := h.aerLog + 1 }) (cfgPut 0x41 (cfgGet 0x41 s ||| bit) s))

end Sys2Proof.Machine
end

