-- ==== Sys2Proof/Machine/HostQueue.lean ====
section
/-! DEFINITION. The command intake, the task table, the range-lock table, the data mover and completions (spec/09_host_interface.md, R311–R327,
R350, R353), and the resets of the NVMe controller (R307, R308, R313, R339, R340). -/

namespace Sys2Proof.Machine

/-! ### Queues and doorbells (R310–R315, R321) -/

/-- Whether the host reaches the BARs: PERST# is not asserted, the function is not in D3hot, and firmware start-up has ended or recovery mode is
entered (R303, R510, R512). -/
def barOk (s : State) : Bool :=
  !s.plat.perst && !inD3 s && (s.fld PWR_BOOT F_PWR_BOOT_FW_READY == 1 || s.fld PWR_BOOT F_PWR_BOOT_RECOVERY == 1)

/-- Stores a submission queue, and a completion queue. -/
def setSq (i : Nat) (x : Option SqSt) (s : State) : State := modHif (fun h => { h with sqs := tput none h.sqs i x }) s
def setCq (i : Nat) (x : Option CqSt) (s : State) : State := modHif (fun h => { h with cqs := tput none h.cqs i x }) s

/-- An invalid doorbell write: counted, event 0x700D, and an asynchronous event of type Error (0 a queue that does not exist, 1 a bad value). -/
def doorbellBad (info : Nat) (s : State) : State := asyncPost 0 info 1 (emit 0x700D (hifStat 8 1 s))

/-- SQ_TAIL_DOORBELL (R315). -/
def execSqTailDoorbell (q : BitVec 16) (v : W32) (s : State) : Host.Outcome State Fault Refusal :=
  ok (if !barOk s then s
    else match sq q.toNat s with
      | none => doorbellBad 0 s
      | some x => if v.toNat < x.size then setSq q.toNat (some { x with tail := v.toNat }) s else doorbellBad 1 s)

/-- CQ_HEAD_DOORBELL: entries are freed for waiting completions (R321). -/
def execCqHeadDoorbell (q : BitVec 16) (v : W32) (s : State) : Host.Outcome State Fault Refusal :=
  ok (if !barOk s then s
    else match cq q.toNat s with
      | none => doorbellBad 0 s
      | some x => if v.toNat < x.size then setCq q.toNat (some { x with head := v.toNat }) s else doorbellBad 1 s)

/-- The level of a queue in the intake's order: the admin queue, then Urgent, then High, Medium and Low (R312). -/
def sqLevel (i : Nat) (x : SqSt) : Nat := if i = 0 then 0 else 1 + x.prio % 4

/-- Whether one more entry of a queue can be placed: the slots reserved for admin and for urgent entries hold those alone (R314). -/
def slotRoom (admin urgent : Bool) (s : State) : Bool :=
  let l := tasksOf s
  let na := (l.filter (fun x => x.2.admin)).length + b2n admin
  let nu := (l.filter (fun x => !x.2.admin && x.2.cls == 0)).length + b2n (!admin && urgent)
  let no := (l.filter (fun x => !x.2.admin && x.2.cls != 0)).length + b2n (!admin && !urgent)
  let ra := s.fld HIF_RESERVE F_HIF_RESERVE_ADMIN
  let ru := s.fld HIF_RESERVE F_HIF_RESERVE_URGENT
  decide (no + (na - ra) + (nu - ru) ≤ 2048 - ra - ru)

/-- Whether a queue holds an entry that can be placed. -/
def sqReady (i : Nat) (x : SqSt) (s : State) : Bool := x.head != x.tail && slotRoom (i == 0) (x.prio == 0) s

/-- The queues of a level that hold an entry which can be placed, by number: 0 the admin queue, 1 Urgent, 2 High, 3 Medium, 4 Low (R312). -/
def readyQueues (l : Nat) (s : State) : List Nat :=
  s.hif.sqs.filterMap (fun y => match y.2 with
    | some x => if sqLevel y.1 x = l ∧ sqReady y.1 x s = true then some y.1 else none
    | none => none)

/-- The arbitration burst: 2^AB entries of a queue in one turn; AB 7 sets no limit (R312, NVM Express). -/
def arbBurst (s : State) : Option Nat := let ab := feat 1 0 s % 8; if ab = 7 then none else some (2 ^ ab)

/-- The weight of a weighted level: HPW, MPW or LPW of the Arbitration feature, plus 1 (R312). -/
def arbWeight (l : Nat) (s : State) : Nat := feat 1 0 s / 2 ^ (8 * (5 - l)) % 256 + 1

/-- The queue last served at a level and the entries taken in its turn. -/
def arbAt (l : Nat) (s : State) : Nat × Nat := tget (0, 0) s.hif.arb l

/-- Whether the turn of the queue last served at a level goes on: it has a ready entry and its burst is not used up. -/
def arbGoes (l : Nat) (s : State) : Bool :=
  (readyQueues l s).contains (arbAt l s).1 && decide (0 < (arbAt l s).2) && (match arbBurst s with
    | some b => decide ((arbAt l s).2 < b)
    | none => true)

/-- The queue whose turn it is at a level: round robin, a burst at a time (R312). -/
def arbQueue (l : Nat) (s : State) : Option Nat :=
  let r := readyQueues l s
  if arbGoes l s then some (arbAt l s).1
  else match r.find? (fun q => decide ((arbAt l s).1 < q)) with
    | some q => some q
    | none => r.head?

/-- The weighted level whose turn it is: the one last served while its burst or its weight lasts, else the next that holds a ready entry (R312). -/
def arbLevel (s : State) : Option Nat :=
  let c := s.hif.arbCls.1
  let next := ([1, 2, 3].map (fun i => 2 + (c - 2 + i) % 3)).filter (fun l => !(readyQueues l s).isEmpty)
  if (readyQueues c s).isEmpty then next.head?
  else if arbGoes c s || decide (s.hif.arbCls.2 < arbWeight c s) then some c
  else next.head?

/-- The queue from which the intake takes the next entry (R312): the admin queue, then the Urgent queues in round robin, then the weighted levels. -/
def arbPick (s : State) : Option Nat :=
  if !(readyQueues 0 s).isEmpty then some 0
  else if !(readyQueues 1 s).isEmpty then arbQueue 1 s
  else (arbLevel s).bind (fun l => arbQueue l s)

/-- The arbitration after an entry of a queue has been taken. -/
def arbTake (q : Nat) (x : SqSt) (s : State) : State :=
  let l := sqLevel q x
  if l = 0 then s
  else
    let more := arbGoes l s
    let cls := if l < 2 then s.hif.arbCls
      else if more then s.hif.arbCls
      else if s.hif.arbCls.1 = l ∧ s.hif.arbCls.2 < arbWeight l s then (l, s.hif.arbCls.2 + 1) else (l, 1)
    modHif (fun h => { h with arb := tput (0, 0) h.arb l (q, if more then (arbAt l s).2 + 1 else 1), arbCls := cls }) s

/-! ### Zones at entry (R350) -/

/-- A zone as its state and the blocks written. -/
def NsSt.zone (n : NsSt) (z : Nat) : Nat × Nat := tget (0, 0) n.zones z

/-- Stores a zone. -/
def NsSt.putZone (n : NsSt) (z : Nat) (x : Nat × Nat) : NsSt := { n with zones := tput (0, 0) n.zones z x }

/-- The size of a zone, its first block and its capacity; the last holds the remainder (R349). -/
def NsSt.zsize (n : NsSt) : Nat := 2 ^ n.shift
def NsSt.zcap (n : NsSt) (z : Nat) : Nat := min n.zsize (n.nsze - z * n.zsize)

/-- The zones that are Open or Closed. -/
def NsSt.active (n : NsSt) : Nat := (n.zones.filter (fun z => z.2.1 == 1 || z.2.1 == 2)).length

/-- The zones that are Open. -/
def NsSt.opened (n : NsSt) : Nat := (n.zones.filter (fun z => z.2.1 == 1)).length

/-- The runs of a range's blocks that lie below the write pointers of a zoned namespace, as first block and count: the rest reads as zeros without media
access (R350). -/
def liveRuns (n : NsSt) (lba nlb : Nat) : List (Nat × Nat) :=
  if !n.zoned then [(lba, nlb)]
  else ((List.range ((lba + nlb - 1) / n.zsize + 1 - lba / n.zsize)).map (fun i =>
    let z := lba / n.zsize + i
    let a := max lba (z * n.zsize)
    (a, min (lba + nlb) (z * n.zsize + (n.zone z).2) - a))).filter (fun r => decide (0 < r.2))

/-- Whether block `k` of a command is at or above its zone's write pointer, where it reads as zeros (R350). -/
def HTask.blank (x : HTask) (n : NsSt) (k : Nat) : Bool := (liveRuns n (x.lba + k) 1).isEmpty

/-- Whether two ranges overlap. -/
def overlap (a n b m : Nat) : Bool := decide (a < b + m ∧ b < a + n)

/-- The zones of a namespace. -/
def NsSt.zoneCount (n : NsSt) : Nat := if n.zoned then (n.nsze + n.zsize - 1) / n.zsize else 0

/-- The parameter record of a zone's states: 960 zones at 2 bits each (R351). -/
def NsSt.zoneRecordId (n : NsSt) (z : Nat) : Nat := n.recs + z / 960

/-- The records of zone states that the namespaces have, as first and number. -/
def recsUsed (s : State) : List (Nat × Nat) :=
  s.hif.nss.filterMap (fun x => x.2.map (fun n => (n.recs, (n.zoneCount + 959) / 960)))

/-- The identifiers from which on `k` records are free of those of other namespaces. -/
def recFree (k : Nat) (s : State) : Nat :=
  let l := recsUsed s
  ((0 :: l.map (fun r => r.1 + r.2)).find? (fun b => l.all (fun r => !overlap b k r.1 r.2))).getD 0

/-- The payload of that record. -/
def zoneRecord (n : NsSt) (g : Nat) : List Byte :=
  (List.range 240).map (fun i => BitVec.ofNat 8 ((List.range 4).map (fun j => (n.zone (960 * g + 4 * i + j)).1 * 4 ^ j)).sum)

/-- A zone's state and write pointer are stored; a change of its state is recorded in the parameter area (R351). -/
def zonePut (ns z : Nat) (x : Nat × Nat) (s : State) : State :=
  match nsAt ns s with
  | none => s
  | some n =>
    let m := n.putZone z x
    let s := modNs ns (fun _ => m) s
    if (n.zone z).1 = x.1 then s else parPut (m.zoneRecordId z) (zoneRecord m (z / 960)) s

/-- The status of a zoned write at its entry, and the blocks it is given (R350): the zone's write pointer decides. -/
def zoneEntry (n : NsSt) (append : Bool) (lba nlb : Nat) : Option (Nat × Nat) :=
  let z := lba / n.zsize
  let x := n.zone z
  if x.1 = 3 then some (1, 0xB9)
  else if !append && lba % n.zsize != x.2 then some (1, 0xBC)
  else if n.zcap z < x.2 + nlb then some (1, 0xB8)
  else if x.1 = 0 ∧ 256 ≤ n.active then some (1, 0xBD)
  else if x.1 ≠ 1 ∧ 256 ≤ n.opened then some (1, 0xBE)
  else none

/-! ### Entry of the range-lock table (R322–R325) -/

/-- The lock kind of an I/O opcode: 0 none, 1 read, 2 write. -/
def lockKind (op : Nat) : Nat :=
  if op = 0x01 ∨ op = 0x08 ∨ op = 0x7D ∨ op = 0x79 then 2 else if op = 0x02 ∨ op = 0x05 ∨ op = 0x0C then 1 else 0

/-- First block and blocks that an I/O command names; a Zone Management Send acts on whole zones. -/
def cmdRange (x : HTask) (s : State) : Nat × Nat :=
  let lba := x.dw 10 + x.dw 11 * 2 ^ 32
  match nsAt x.nsid s with
  | some n =>
    if x.op = 0x79 then
      if x.dw 13 / 256 % 2 = 1 then (0, n.nsze) else (lba / n.zsize * n.zsize, n.zcap (lba / n.zsize))
    else if x.op = 0x7D then (lba / n.zsize * n.zsize + (n.zone (lba / n.zsize)).2, x.dw 12 % 65536 + 1)
    else (lba, x.dw 12 % 65536 + 1)
  | none => (lba, x.dw 12 % 65536 + 1)

/-- Whether two commands conflict (R322). -/
def conflict (x y : HTask) : Bool :=
  x.lock != 0 && y.lock != 0 && (x.lock == 2 || y.lock == 2) && x.ns == y.ns && overlap x.lba x.nlb y.lba y.nlb

/-- The lines in FILLING that a write's range overlaps, with their keys (R276, R324). -/
def fillsOf (x : HTask) (s : State) : List (Nat × Nat) :=
  if x.lock ≠ 2 then []
  else s.buf.tags.filterMap (fun e =>
    if e.2.st == 1 && e.2.key / 2 ^ 34 + 1 == x.ns && overlap x.lba x.nlb (e.2.key % 2 ^ 34 * 128) 128 then some (e.1, e.2.key) else none)

/-- Whether a fill still runs. -/
def fillOpen (f : Nat × Nat) (s : State) : Bool := (tag f.1 s).st == 1 && (tag f.1 s).key == f.2

/-- Whether a command's range lock can be granted: no earlier command that conflicts is in the table, and the fills have ended (R322, R324). -/
def grantable (x : HTask) (s : State) : Bool :=
  (tasksOf s).all (fun y => !(decide (y.2.ord < x.ord) && conflict x y.2)) && x.fills.all (fun f => !fillOpen f s)

/-- A zoned write or append takes its blocks, and the write pointer advances (R350). -/
def zoneTake (x : HTask) (s : State) : HTask × State :=
  match nsAt x.nsid s with
  | none => (x, s)
  | some n =>
    if !n.zoned || !(x.op == 0x01 || x.op == 0x08 || x.op == 0x7D) || decide (n.nsze < x.lba + x.nlb) && x.op != 0x7D then (x, s)
    else match zoneEntry n (x.op == 0x7D) x.lba x.nlb with
      | some e => ({ x with bad := some e }, s)
      | none =>
        let z := x.lba / n.zsize
        let wp := (n.zone z).2 + x.nlb
        (x, zonePut x.nsid z (if wp = n.zcap z then 3 else 1, wp) s)

/-- A command enters the task table in a slot: its class, its lock with its range, its fills, and its grant at once when nothing conflicts
(R314, R316, R322, R324, R325). -/
def taskEnter (q : Nat) (x : SqSt) (t : Nat) (sqe : List W32) (s : State) : State :=
  let admin := q == 0
  let y : HTask := { sqid := q, cls := if admin then 1 else x.prio, admin := admin, sqe := sqe, fetched := s.sdl.now, st := 1, ord := s.hif.ord,
                     cleans := s.buf.cleans }
  let s := modHif (fun h => { h with ord := h.ord + 1 }) s
  let kind := if admin then 0 else lockKind y.op
  if kind = 0 then hifShow (setTask t (some y) s)
  else
    let r := cmdRange y s
    let y := { y with lock := kind, ns := y.nsid, lba := r.1, nlb := r.2 }
    let p := zoneTake { y with fills := fillsOf y s } s
    let go := grantable p.1 p.2
    let s := if go then p.2 else hifStat 4 1 p.2
    hifShow (setTask t (some { p.1 with st := if go then 1 else 0 }) s)

/-- The slot that an entry takes at the head of its queue. -/
def fetchOk (q t : Nat) (s : State) : Option SqSt :=
  match sq q s with
  | some x => if s.hif.en && (task t s).isNone && arbPick s == some q then some x else none
  | none => none

/-- The queue's head moves past an entry that is fetched, with what is counted (R314, R316, R356). -/
def fetchCount (q : Nat) (x : SqSt) (s : State) : State :=
  let s := setSq q (some { x with head := (x.head + 1) % max 1 x.size }) (arbTake q x s)
  let s := hifStat 0 1 s
  let s := if q ≠ 0 ∧ x.prio = 0 then hifStat 1 1 s else s
  if s.fld HIF_ACT F_HIF_ACT_HOLD = 1 then s.setf HIF_ACT F_HIF_ACT_HELD (satAdd 12 (s.fld HIF_ACT F_HIF_ACT_HELD) 1) else s

/-- ENTRY_FETCH: the entry's 16 dwords come from host memory (R312, R314). -/
def execEntryFetch (q : Byte) (t : Tag) (sqe : List W32) (s : State) : Host.Outcome State Fault Refusal :=
  ok (match fetchOk q.toNat t.toNat s with
    | none => s
    | some x => taskEnter q.toNat x t.toNat sqe (fetchCount q.toNat x s))

/-- RANGE_LOCK_GRANT (R322, R324). -/
def execRangeLockGrant (t : Tag) (s : State) : Host.Outcome State Fault Refusal :=
  ok (match task t.toNat s with
    | none => s
    | some x => if x.st = 0 ∧ grantable x s = true then hifShow (modTask t.toNat (fun y => { y with st := 1 }) s) else s)

/-! ### Presentation (R316, R317) -/

/-- The order of presentation: Urgent queues, admin, the others. -/
def HTask.group (x : HTask) : Nat := if x.admin then 1 else if x.cls = 0 then 0 else 2

/-- The entry to be presented next. -/
def nextTask (s : State) : Option (Nat × HTask) :=
  if s.fld HIF_ACT F_HIF_ACT_HOLD = 1 then none
  else ((tasksOf s).filter (fun x => x.2.st == 1)).foldl (fun (b : Option (Nat × HTask)) x =>
    match b with
    | none => some x
    | some y => if x.2.group < y.2.group ∨ (x.2.group = y.2.group ∧ x.2.ord < y.2.ord) then some x else b) none

/-- A read of HIF_TASK0. -/
def taskTake (s : State) : State :=
  match nextTask s with
  | none => { s.wr HIF_TASK0 0 with rdata := 0 }
  | some (t, x) =>
    let w := BitVec.ofNat 32 (2 ^ 31 + x.cls * 2 ^ 29 + b2n x.admin * 2 ^ 28 + x.sqid * 2 ^ 16 + t)
    let s := hifShow (modTask t (fun y => { y with st := 2 }) s)
    let s := each (List.range 16) (fun i u => u.wr (HIF_TASKN i) (x.sqe.getD i 0)) (s.wr HIF_TASK0 w)
    { s.wr HIF_TASK17 (BitVec.ofNat 32 x.fetched) with rdata := w }

/-- TASK_READ (R317). -/
def execTaskRead (m : Master) (s : State) : Host.Outcome State Fault Refusal :=
  ok (if mayCmd m then taskTake s else { s with rdata := 0 })

/-- Whether a tag's slot holds a presented command. -/
def presented (t : Nat) (s : State) : Bool :=
  match task t s with
  | some x => x.st == 2
  | none => false

/-! ### The data mover (R318, R319, R539) -/

/-- GO in a core's copy of HIF_XFER3. -/
def xferGo (c : Nat) (v : W32) (s : State) : State :=
  let s := s.wr (HIF_XFER3 c) (v &&& 0x400007FF)
  let t := fget v F_HIF_XFER3_TAG
  let n := s.fld (HIF_XFER2 c) F_HIF_XFER2_COUNT
  if 256 ≤ s.hif.xfers.length + s.hif.xres.length ∨ presented t s = false ∨ n = 0 then deny s
  else
    let a := (s.rd (HIF_XFER0 c)).toNat + s.fld (HIF_XFER1 c) F_HIF_XFER1_ADDR_HI * 2 ^ 32
    let x : HXfer := { tag := t, addr := a, dir := v.toNat.testBit 30, first := s.fld (HIF_XFER2 c) F_HIF_XFER2_FIRST, count := n }
    modHif (fun h => { h with xfers := h.xfers ++ [x] }) s

/-- XFER_REQUEST (R318, R539). -/
def execXferRequest (c : CoreId) (v : W32) (s : State) : Host.Outcome State Fault Refusal := ok (xferGo c.toNat v s)

/-- A request leaves the data mover, and its result enters the queue. -/
def xferDone (i : Nat) (x : HXfer) (status skipped first : Nat) (s : State) : State :=
  modHif (fun h => { h with xfers := h.xfers.eraseIdx i, xres := h.xres ++ [(x.tag, status, skipped, first)] }) s

/-- The blocks of a request have been transferred or skipped (R20); what the media held of them before stands for other data. -/
def xferMoved (x : HXfer) (s : State) : State :=
  modTask x.tag (fun y => { y with moved := y.moved ++ [(x.first, x.count)],
                                   media := if x.dir then y.media.filter (fun m => decide (m.1 < x.first ∨ x.first + x.count ≤ m.1)) else y.media }) s

/-- The host's page size: 4 KiB shifted by CC.MPS (R310). -/
def hostPage (s : State) : Nat := 4096 * 2 ^ ((tget 0 s.hif.regs 0x14).toNat / 128 % 16)

/-- The host address of byte `b` of the data of a command of `n` bytes, from its PRP entries (NVM Express): PRP1 holds the first page from its offset
on; PRP2 is the second page where two pages do, else it leads to the list. None where the list, as far as it was read, does not reach. -/
def prpAddr (x : HTask) (prps : List (BitVec 64)) (page n b : Nat) : Option Nat :=
  let p1 := x.dw 6 + x.dw 7 * 2 ^ 32
  let p2 := x.dw 8 + x.dw 9 * 2 ^ 32
  let one := page - p1 % page
  if b < one then some (p1 + b)
  else if n ≤ one + page then some (p2 + (b - one))
  else (prps[(b - one) / page]?).map (fun e => e.toNat + (b - one) % page)

/-- The pieces in which a block of 4,096 bytes goes to the host: address and bytes; a block crosses at most one page boundary. -/
def prpPieces (x : HTask) (prps : List (BitVec 64)) (page n k : Nat) (data : List Byte) : Option (List (Nat × List Byte)) :=
  let b := 4096 * k
  let cut := min 4096 (page - (x.dw 6 + b) % page)
  match prpAddr x prps page n b with
  | none => none
  | some a =>
    if cut = 4096 then some [(a, data)]
    else (prpAddr x prps page n (b + cut)).map (fun a2 => [(a, data.take cut), (a2, data.drop cut)])

/-- Toward the host, blocks with a poisoned granule are not sent (R319); the others go to the host's pages that the command names (R318). Blocks of a Read
at or above a zone's write pointer are zeros (R350). -/
def xferToHost (i : Nat) (x : HXfer) (y : HTask) (prps : List (BitVec 64)) (s : State) : State :=
  let zero := fun k => match nsAt y.nsid s with
    | some n => y.op == 0x02 && y.blank n (x.first + k)
    | none => false
  let bad := (List.range x.count).filter (fun k => !zero k && sectorPoisoned (x.addr + 4096 * k) s)
  let good := (List.range x.count).filter (fun k => !bad.contains k)
  let out := good.map (fun k => prpPieces y prps (hostPage s) (4096 * y.nlb) (x.first + k)
    (if zero k then List.replicate 4096 0 else s.rdMem (x.addr + 4096 * k) 4096))
  if out.any Option.isNone then s
  else
    let s := modHif (fun h => { h with sent := (out.filterMap id).flatten }) (xferMoved x (hifStat 5 good.length s))
    match bad with
    | [] => xferDone i x 0 0 0 s
    | k :: _ =>
      let s := modTask x.tag (fun y => { y with skip := some (min (x.first + k) (y.skip.getD (x.first + k))) }) s
      xferDone i x 1 bad.length ((x.first + k) % 1024) (emit 0x7009 (hifStat 7 bad.length s))

/-- From the host, the data is written to DRAM and its granules are good. -/
def xferFromHost (i : Nat) (x : HXfer) (data : List Byte) (s : State) : State :=
  let d := data.take (4096 * x.count)
  xferDone i x 0 0 0 ((hifStat 6 x.count (xferMoved x s)).wrGood x.addr d)

/-- XFER_END: a request ends, with the data that came from the host, or an error of the host's data; `prps` are the entries of the command's PRP list
as the controller read them, where it has one (R306, R318, R319). A request toward the host whose list has not been read as far as it needs goes on;
one of a tag whose slot is empty sends nothing. -/
def execXferEnd (i : Byte) (hostErr : Bool) (data : List Byte) (prps : List (BitVec 64)) (s : State) : Host.Outcome State Fault Refusal :=
  let k := i.toNat
  ok (match s.hif.xfers[k]? with
    | none => s
    | some x =>
      if hostErr then xferDone k x 2 0 0 s
      else if x.dir then xferFromHost k x data s
      else match task x.tag s with
        | none => xferDone k x 0 0 0 s
        | some y => xferToHost k x y prps s)

/-- A read of HIF_XFER_RES0. -/
def xferTake (s : State) : State :=
  match s.hif.xres with
  | [] => { s.wr HIF_XFER_RES0 0 with rdata := 0 }
  | (t, st, n, f) :: r =>
    let w := BitVec.ofNat 32 (2 ^ 31 + st * 2 ^ 28 + n % 1024 * 2 ^ 16 + t % 2048)
    let s := modHif (fun h => { h with xres := r }) s
    { (s.wr HIF_XFER_RES0 w).wr HIF_XFER_RES1 (BitVec.ofNat 32 f) with rdata := w }

/-- XFER_RESULT_READ (R318). -/
def execXferResultRead (m : Master) (s : State) : Host.Outcome State Fault Refusal :=
  ok (if mayCmd m then xferTake s else { s with rdata := 0 })

/-! ### Completions (R320, R321, R327) -/

/-- GO in a core's copy of HIF_CPL2. -/
def cplGo (c : Nat) (v : W32) (s : State) : State :=
  let s := s.wr (HIF_CPL2 c) (v &&& 0x7FFF07FF)
  let t := fget v F_HIF_CPL2_TAG
  if presented t s then postCpl t (v &&& 0x7FFF0000).toNat (s.rd (HIF_CPL0 c)) (s.rd (HIF_CPL1 c)) s else deny s

/-- COMPLETION_POST (R320, R321, R539). -/
def execCompletionPost (c : CoreId) (v : W32) (s : State) : Host.Outcome State Fault Refusal := ok (cplGo c.toNat v s)

/-- A completion that can be written now: the first of its queue, with no data mover request of its tag and room in its queue. -/
def cplReady (t : Nat) (s : State) : Option (HCpl × CqSt) :=
  match s.hif.cpls.find? (fun c => c.tag == t) with
  | none => none
  | some c =>
    match cq c.cq s with
    | none => none
    | some q =>
      let first := match s.hif.cpls.find? (fun d => d.cq == c.cq) with
        | some d => d.tag == t
        | none => false
      if first && !s.hif.xfers.any (fun x => x.tag == t) && (q.tail + 1) % max 1 q.size != q.head then some (c, q) else none

/-- The four dwords of a completion entry (R320). -/
def cplEntry (c : HCpl) (q : CqSt) : List W32 :=
  [c.dw0, c.dw1, BitVec.ofNat 32 (c.sqid * 65536 + c.sqhd),
   BitVec.ofNat 32 (c.status / 2 ^ 16 % 2 ^ 15 * 2 ^ 17 + b2n q.phase * 2 ^ 16 + c.cid % 65536)]

/-- Whether interrupt coalescing holds a vector's message: features 08h and 09h (R320). The admin queue's is never held. -/
def coalesced (i : Nat) (q : CqSt) (s : State) : Bool :=
  let f := feat 8 0 s
  i != 0 && decide (0 < f / 256 % 256) && decide (0 < f % 256) && feat 9 q.vec s / 65536 % 2 == 0

/-- The vector of a completion queue is signalled, at once or when the aggregation threshold is reached. -/
def cqSignal (i : Nat) (q : CqSt) (s : State) : State :=
  if !q.ien then setCq i (some q) s
  else if coalesced i q s && decide (q.agg + 1 < feat 8 0 s % 256 + 1) then setCq i (some { q with agg := q.agg + 1 }) s
  else msixSignal q.vec (setCq i (some { q with agg := 0 }) s)

/-- The time of an urgent command from fetch to completion (R327, R465, R467). -/
def urgentTime (us : Nat) (s : State) : State :=
  let s := extAdd 3 us (histAdd 0 (binUrgent us) s)
  let s := s.wr HIF_URG1 (BitVec.ofNat 32 (max (s.rd HIF_URG1).toNat (min us (2 ^ 32 - 1))))
  if s.fld HIF_URG0 F_HIF_URG0_LIMIT_US < us then emit 0x7008 (hifStat 9 1 s) else s

/-- A range without the blocks of another. -/
def rangeLess (a n b m : Nat) : List (Nat × Nat) :=
  if !overlap a n b m then [(a, n)]
  else (if a < b then [(a, b - a)] else []) ++ (if b + m < a + n then [(b + m, a + n - (b + m))] else [])

/-- Lost ranges end where they are written again (R353). -/
def lostLess (ns lba nlb : Nat) (s : State) : State :=
  modHif (fun h => { h with lost := h.lost.flatMap (fun l =>
    if l.1 = ns then (rangeLess l.2.1 l.2.2 lba nlb).map (fun r => (ns, r.1, r.2)) else [l]) }) s

/-- The counts of SMART / Health: Read, Compare and Verify; Write and Zone Append; and sectors or data that could not be recovered (NVM Express). -/
def smartCount (x : HTask) (st : Nat) (s : State) : State :=
  modHif (fun h => { h with
    rdCmds := h.rdCmds + b2n (!x.admin && [0x02, 0x05, 0x0C].contains x.op), wrCmds := h.wrCmds + b2n (!x.admin && [0x01, 0x7D].contains x.op),
    mediaErrs := h.mediaErrs + b2n (st == 0x281 || st == 0x782) }) s

/-- What the end of a command changes besides its entry: counters, the urgent measure, lost ranges (R327, R353, R356). -/
def cplCount (x : HTask) (status : Nat) (s : State) : State :=
  let good := decide (status / 2 ^ 16 % 2 ^ 11 = 0)
  let s := hifStat 2 1 s
  let s := if good then s else hifStat 3 1 s
  let s := if !x.admin ∧ x.cls = 0 then urgentTime ((s.sdl.now - x.fetched) / 1000) s else s
  let s := smartCount x (status / 2 ^ 16 % 2 ^ 11) s
  if good ∧ x.lock = 2 ∧ x.op ≠ 0x79 then lostLess x.ns x.lba x.nlb s else s

/-- The entry is written; the lock and the slot are released and the vector is signalled (R320, R323). -/
def cplWrite (t : Nat) (c : HCpl) (q : CqSt) (s : State) : State :=
  let s := match task t s with
    | some x => cplCount x c.status s
    | none => s
  let q' := { q with tail := (q.tail + 1) % max 1 q.size, phase := if q.tail + 1 = q.size then !q.phase else q.phase }
  let s := modHif (fun h => { h with cqe := some (c.cq, cplEntry c q), cpls := h.cpls.erase c }) s
  cqSignal c.cq q' (hifShow (setTask t none s))

/-- COMPLETION_WRITE (R320, R321). -/
def execCompletionWrite (t : Tag) (s : State) : Host.Outcome State Fault Refusal :=
  ok (match cplReady t.toNat s with
    | none => s
    | some (c, q) => cplWrite t.toNat c q s)

/-- INTERRUPT_COALESCING_TIMEOUT (R320). -/
def execInterruptCoalescingTimeout (q : Byte) (s : State) : Host.Outcome State Fault Refusal :=
  ok (match cq q.toNat s with
    | none => s
    | some x => if x.agg = 0 then s else msixSignal x.vec (setCq q.toNat (some { x with agg := 0 }) s))

/-- A read of HIF_URG0 captures and clears MAX_US. -/
def urgTake (s : State) : State :=
  let s := { s with snap := tput HIF_URG1.rst s.snap HIF_URG1.key (s.rd HIF_URG1), rdata := s.rd HIF_URG0 }
  s.wr HIF_URG1 0

/-- URG_READ (R327). -/
def execUrgRead (m : Master) (s : State) : Host.Outcome State Fault Refusal :=
  ok (if mayCmd m then urgTake s else { s with rdata := 0 })

/-! ### The link (R304, R306) -/

/-- LINK_L0_ENTRY (R304). -/
def execLinkL0Entry (rate : BitVec 4) (width : BitVec 5) (flit : Bool) (s : State) : Host.Outcome State Fault Refusal :=
  let r := rate.toNat
  let w := width.toNat
  ok (onlyIf (!s.plat.perst && decide (1 ≤ r ∧ r ≤ 6) && (w == 1 || w == 4 || w == 8 || w == 16)) (fun s =>
    let s := (s.setf HIF_LINK F_HIF_LINK_RATE r).setf HIF_LINK F_HIF_LINK_WIDTH w
    let s := (s.setf HIF_LINK F_HIF_LINK_FLIT (b2n flit)).flag HIF_LINK F_HIF_LINK_L0
    if r = 6 ∧ w = 16 then s else emit 0x7001 s) s)

/-- The entry of a queue that could not be read is discarded: it completes with Internal Error, and an asynchronous event of type Error is posted;
its command identifier, which was not read, is a free value (R306). -/
def sqReadFailed (q t : Nat) (s : State) : State :=
  match fetchOk q t s with
  | none => s
  | some x =>
    let s := fetchCount q x s
    let f := s.fresh
    let s := taskEnter q x t [BitVec.ofNat 32 (f.1 % 65536 * 65536)] f.2
    let g := s.fresh
    asyncPost 0 (g.1 % 256) 1 (complete t 0 0x06 g.2)

/-- AER_ERROR: an error by its bit of the AER status registers, with the header of its TLP; `kind` says whom it affects: 0 write data, 1 a PRP list, 2 a
submission-queue entry, 3 nothing else. A correctable error affects no command, and an
error that is none of this endpoint's does not occur (R306). -/
def execAerError (kind : Slot) (q : Byte) (t : Tag) (cor : Bool) (err : BitVec 5) (hdr : List W32) (s : State) : Host.Outcome State Fault Refusal :=
  let s := aerReport cor err.toNat hdr s
  ok (if cor || !aerKnown cor err.toNat then s
    else match kind.toNat with
      | 0 => onlyIf (presented t.toNat s) (complete t.toNat 0 0x04) s
      | 1 => onlyIf (presented t.toNat s) (complete t.toNat 0 0x04) s
      | 2 => sqReadFailed q.toNat t.toNat s
      | _ => s)

/-- POISONED_TLP_WRITE: the write is discarded; the error is reported as any other, under the status bit of a poisoned TLP, with the TLP's header, which the
command does not give: a free value (R306). -/
def execPoisonedTlpWrite (_bar : Slot) (s : State) : Host.Outcome State Fault Refusal :=
  let f := s.fresh
  ok (aerReport false 12 ((List.range 4).map (fun i => BitVec.ofNat 32 (f.1 / 2 ^ (32 * i)))) f.2)

/-! ### Presentation held, and the end of an activation (R316, R341, R343) -/

/-- The commit command's tag of an activation; 2,048 is no tag. -/
def actTag : HAct → Nat
  | .none => 2048
  | .drain t _ => t
  | .fresh t _ => t
  | .back t => t

/-- The end of an activation at the release of HOLD. -/
def actReleased (s : State) : State :=
  match s.hif.act with
  | .fresh t k =>
    let s := modHif (fun h => { h with act := .none, runSlot := some k }) s
    rdyShow (emit 0x7006 (complete t 0 0 (s.setf HIF_ACT F_HIF_ACT_PP 0)))
  | .back t =>
    let s := modHif (fun h => { h with act := .none }) s
    rdyShow (complete t 1 0x07 (s.setf HIF_ACT F_HIF_ACT_PP 0))
  | _ => s

/-- HIF_ACT.HOLD is written. -/
def holdWrite (on : Bool) (s : State) : State :=
  let was := s.fld HIF_ACT F_HIF_ACT_HOLD
  let s := s.setf HIF_ACT F_HIF_ACT_HOLD (b2n on)
  if on then (if was = 0 then s.setf HIF_ACT F_HIF_ACT_HELD 0 else s) else actReleased s

/-- HOLD (R316, R341). -/
def execHold (m : Master) (on : Bool) (s : State) : Host.Outcome State Fault Refusal :=
  ok (if mayCmd m then holdWrite on s else deny s)

/-! ### Enabling and resets (R307, R308, R313, R339, R345, R351) -/

/-- A BAR0 register of the NVMe controller. -/
def nvReg (off : Nat) (s : State) : W32 := tget 0 s.hif.regs off

/-- CC_ENABLE: CC is written with EN = 1; the admin queues take the sizes of AQA (R313). -/
def ccEnable (v : W32) (s : State) : State :=
  let s := modHif (fun h => { h with regs := tput 0 h.regs 0x14 v }) s
  if s.hif.en then s
  else
    let aqa := (nvReg 0x24 s).toNat
    let s := setSq 0 (some { cq := 0, prio := 1, size := aqa % 4096 + 1 }) s
    let s := setCq 0 (some { vec := 0, ien := true, size := aqa / 65536 % 4096 + 1 }) s
    rdyShow (modHif (fun h => { h with en := true, shut := false }) s)

/-- CC_ENABLE (R313). -/
def execCcEnable (v : W32) (s : State) : Host.Outcome State Fault Refusal := ok (onlyIf (barOk s) (ccEnable (v ||| 1)) s)

/-- The track operations of commands, by the task tag of their descriptors, as actuator and descriptor slot. -/
def taskOps (p : Nat → Bool) (s : State) : List (Nat × Nat) :=
  (List.range 64).flatMap (fun a => ((seq a s).ops.filter (fun o => p (descTag a o.slot s))).map (fun o => (a, o.slot)))

/-- Resident firmware ends the media work of removed commands with SEQ_CANCEL; those that run end at their segment end (R340). -/
def cancelOps (l : List (Nat × Nat)) (s : State) : State := each l (fun x => cancelSlot x.1 x.2) s

/-- The controller reset of R339: commands are removed and their media work is cancelled, and the registers of domain NVME return to reset; an activation
goes on without its command (R340, R345). -/
def nvmeReset (s : State) : State :=
  let tags := (tasksOf s).map Prod.fst
  let ops := taskOps tags.contains s
  let s := cancelOps ops (resetKeys (fun _ => true) [.nvme] (hostReset s))
  modHif (fun h => { h with ends := ops, act := match h.act with
    | .none => .none
    | .drain _ k => .drain 2048 k
    | .fresh _ k => .fresh 2048 k
    | .back _ => .back 2048 }) s

/-- The track operations of removed commands that still run (R340). -/
def endsOpen (s : State) : List (Nat × Nat) := s.hif.ends.filter (fun x => (seq x.1 s).ops.any (fun o => o.slot == x.2 && o.cancel))

/-- CSTS.RDY becomes 0 after a controller reset once no removed command's track operation is still running (R340). -/
def resetShow (s : State) : State :=
  if s.hif.ends.isEmpty then s
  else
    let l := endsOpen s
    modHif (fun h => { h with ends := l, rdy := h.rdy && (h.en || !l.isEmpty) }) s

/-- CC.EN goes from 1 to 0; CSTS.RDY follows when the media work of the removed commands has ended (R340). -/
def controllerReset (s : State) : State :=
  if s.hif.en then
    let rdy := s.hif.rdy
    let s := nvmeReset s
    modHif (fun h => { h with regs := tput 0 h.regs 0x14 (tget 0 h.regs 0x14 &&& 0xFFFFFFFE), rdy := rdy && !(endsOpen s).isEmpty }) s
  else s

/-- CONTROLLER_RESET (R339). -/
def execControllerReset (s : State) : Host.Outcome State Fault Refusal := ok (onlyIf (barOk s) controllerReset s)

/-- A function-level reset: a controller reset, and the configuration space and the MSI-X table return to their reset values (R308). -/
def flr (s : State) : State := modHif (fun h => { h with regs := [], msixTab := [], msixPba := [], crs := none, cfg := [], aerQ := [] }) (nvmeReset s)

/-- FUNCTION_LEVEL_RESET (R308). -/
def execFunctionLevelReset (s : State) : Host.Outcome State Fault Refusal := ok (onlyIf (!s.plat.perst) flr s)

/-- The host ends of the host channels. -/
def hostEnds : List (Nat × Nat) := (List.range 8).map (fun c => (c, 1))

/-- PERST: the domains PCIE and NVME are reset, commands are removed as by a controller reset, and the host ends of Kiosk channels are reset
(R307, R339, R371). -/
def execPerst (s : State) : Host.Outcome State Fault Refusal :=
  ok (onlyIf (!s.plat.perst) (fun s =>
    let s := resetKeys (fun _ => true) [.pcie] (nvmeReset s)
    let ids := match parGet ssidRecord s with
      | some b => bytesWord b 0
      | none => 0
    let s := modHif (fun h => { h with regs := [], msixTab := [], msixPba := [], crs := none, aerLog := 0, ssid := ids, cfg := [], aerQ := [] }) s
    let s := { s with replies := s.replies.filter (fun r => !(decide (r.chan < 8) && r.toEnd == 1)) }
    let s := kResetEnds hostEnds s
    modPlat (fun p => { p with perst := true }) (s.flag PWR_RESET_CAUSE F_PWR_RESET_CAUSE_PERST)) s)

/-- PERST_RELEASE: the host ends leave reset and the link retrains, which ends with LINK_L0_ENTRY (R307). -/
def execPerstRelease (s : State) : Host.Outcome State Fault Refusal := ok (modPlat (fun p => { p with perst := false }) s)

/-- Numbers of seven bytes, 34 to a record. -/
def packRecords (l : List Nat) (g : Nat) : List Byte := ((l.drop (34 * g)).take 34).flatMap (fun v => leBytes v 7)

/-- The write pointers that are neither 0 nor the zone's capacity by its state: those of the Open and the Closed zones, as namespace, zone and blocks
written; the other zones' follow from their states. -/
def zonePointers (s : State) : List Nat :=
  s.hif.nss.flatMap (fun x => match x.2 with
    | some n => (n.zones.filter (fun z => z.2.1 == 1 || z.2.1 == 2)).map (fun z => (x.1 - 1) * 2 ^ 50 + z.1 * 2 ^ 25 + z.2.2)
    | none => [])

/-- The records of lost ranges begin at 879, those of write pointers go down from 878 (DESIGN CHOICE, log 149). -/
def lostRecord : Nat := 879
def pointerRecord (g : Nat) : Nat := 878 - g

/-- A normal shutdown: every write pointer is recorded, which the parameter area then holds (R351). -/
def hostShutdown (s : State) : State :=
  let l := zonePointers s
  let s := each (List.range ((l.length + 33) / 34)) (fun g t => parPut (pointerRecord g) (packRecords l g) t) s
  modHif (fun h => { h with shut := true }) s

/-- A lost range as key and extent: namespace, first block and blocks. -/
def lostNum (r : Nat × Nat × Nat) : Nat := (r.1 - 1) * 2 ^ 50 + r.2.1 % 2 ^ 42 * 2 ^ 8 + r.2.2 % 2 ^ 8

/-- The parameter area follows the list of lost ranges: each record whose entries have changed is written (R353). -/
def lostKeep (s : State) : State :=
  if s.hif.lost = s.hif.lostKept then s
  else
    let new := s.hif.lost.map lostNum
    let old := s.hif.lostKept.map lostNum
    let n := (max new.length old.length + 33) / 34
    let s := each (List.range n) (fun g t => if packRecords new g = packRecords old g then t else parPut (lostRecord + g) (packRecords new g) t) s
    modHif (fun h => { h with lostKept := h.lost }) s

/-- NORMAL_SHUTDOWN (R351). -/
def execNormalShutdown (s : State) : Host.Outcome State Fault Refusal := ok (onlyIf (barOk s && s.hif.en) hostShutdown s)

/-- A configuration read or write of a dword; Initiate Function Level Reset in Device Control is one (R303, R308). -/
def cfgAccess (d : Nat) (w : Bool) (v : W32) (s : State) : State :=
  if !w then { s with rdata := cfgRead d s }
  else if d = 0x1A ∧ v.toNat.testBit 15 then flr s
  else cfgWrite d v s

/-- CONFIGURATION_REQUEST: a read, or with `w` a write of `v`, of a dword of the configuration space; answered with Configuration Request Retry Status
until firmware start-up has ended, normally in recovery mode (R303, R510, R512). -/
def execConfigurationRequest (d : BitVec 10) (w : Bool) (v : W32) (s : State) : Host.Outcome State Fault Refusal :=
  let retry := s.fld PWR_BOOT F_PWR_BOOT_FW_READY == 0 && s.fld PWR_BOOT F_PWR_BOOT_RECOVERY == 0
  let s := modHif (fun h => { h with crs := some retry }) s
  ok (if retry then s else cfgAccess d.toNat w v s)

end Sys2Proof.Machine
end

