-- ==== Sys2Proof/Machine/Access.lean ====
section
/-! DEFINITION. What registers read as, the power domain that holds a register, and snapshot groups (R4, R7, R27, R33–R37, R457, R544). -/

namespace Sys2Proof.Machine

/-! ### Power domains of registers (R37, R497) -/

/-- Whether an ACT address belongs to a register present in instance 0 only: the shared pool and the microcode loader, which no actuator's
domain holds (R187, R259). -/
def inst0Key (k : Nat) : Bool := decide ((0x40006000 ≤ k ∧ k < 0x40006400) ∨ (0x4000F000 ≤ k ∧ k < 0x40010000))

/-- The power domain that holds a register, if it can be switched off. -/
def gateDom (k : Nat) : Option Nat :=
  if inst0Key k then none
  else if 0x40000000 ≤ k ∧ k < 0x41000000 then some ((k - 0x40000000) / 0x40000)
  else if 0x41000000 ≤ k ∧ k < 0x41010000 then some 103
  else if 0x45000000 ≤ k ∧ k < 0x46000000 then some 104
  else if 0x48000000 ≤ k ∧ k < 0x49000000 then some 105
  else none

/-- Whether an address is in a domain that is switched off; a cache way that is OFF counts as one (R262). -/
def gatedOff (k : Nat) (s : State) : Bool :=
  if inDram k then !dramOn k s else match gateDom k with
  | some d => !s.domOn d
  | none => false

/-! ### Words as they read -/

/-- Word `i` of a set of flags. -/
def flagWord (p : Nat → Bool) (i : Nat) : W32 := BitVec.ofNat 32 ((List.range 32).map (fun b => if p (32 * i + b) then 2 ^ b else 0)).sum

/-- A word of the entry that BUF_TAG_SEL names (R266). -/
def tagWord (i : Nat) (s : State) : W32 :=
  let e := 16 * s.fld BUF_TAG_SEL F_BUF_TAG_SEL_SET + s.fld BUF_TAG_SEL F_BUF_TAG_SEL_WAY
  if i = 0 then BitVec.ofNat 32 (tagBits e s) else if i = 1 then BitVec.ofNat 32 (tagBits e s / 2 ^ 32) else BitVec.ofNat 32 ((tag e s).pins % 4096)

/-- KSK_STAT of an end: the words it has posted and not yet delivered, the words and marker that wait for it, and a marker at the head (R369, R390). -/
def kskStat (c e : Nat) (s : State) : W32 :=
  let mark := match kq c e s with
    | .marker _ :: _ => true
    | _ => false
  BitVec.ofNat 32 (kwords (kq c (1 - e) s) * 2 ^ 16 + (kq c e s).length * 2 ^ 8 + b2n mark)

/-- A word of a Kiosk window. -/
def kskWord (k : Nat) (s : State) : W32 :=
  let c := (k - 0x44000000) / 0x800
  let e := (k - 0x44000000) % 0x800 / 0x400
  match k % 0x400 with
  | 0x08 => kskStat c e s
  | 0x0C => fset (s.rd (KSK_IRQ c e)) F_KSK_IRQ_RX (b2n (!(kq c e s).isEmpty))
  | 0x10 => s.rd (KSK_IRQ_EN c e)
  | 0x14 => s.rd (KSK_DISC c e)
  | _ => 0

/-- A word of the microcode store of a sequencer by its address (R29). -/
def storeWord (k : Nat) (s : State) : W32 := storeAt ((k - 0x40000000) / 0x40000) (k % 0x10000 / 4) s

/-- SPN_ACCEL_NOW: starts queued, spindles accelerating (R70). -/
def accelWord (s : State) : W32 := BitVec.ofNat 32 (s.spnQueue.length % 32 * 2 ^ 8 + (accelerating s).length % 32)

/-- The banks of the retention pool that are on. -/
def banksOn (s : State) : Nat := ((List.range 4).map (fun b => if s.domOn (82 + b) then 2 ^ b else 0)).sum

/-- A word of a two-word counter. -/
def ctrWord (k : Nat) (s : State) : W32 :=
  match ctrOf k with
  | some c => if k = c.1 then BitVec.ofNat 32 (s.ctr c.1) else BitVec.ofNat 32 (s.ctr c.1 / 2 ^ 32)
  | none => 0

/-- The stored word of a register; an unassigned offset reads 0 (R7). -/
def storedWord (k : Nat) (s : State) : W32 :=
  match specOf k with
  | some r => s.rd (keyReg k r)
  | none => ctrWord k s

/-- The registers of which every core has its own copy: HIF_CPL and HIF_XFER (R539). -/
def bankedKey (k : Nat) : Bool := decide ((0x43000200 ≤ k ∧ k < 0x4300020C) ∨ (0x43000300 ≤ k ∧ k < 0x43000310))

/-- A core's copy of a banked register. -/
def bankReg (m k : Nat) (r : RegSpec) : Reg := ⟨k + 2 ^ 48 * m, BitVec.ofNat 32 r.rst⟩

/-- What a banked register reads as for a master: a core reads its own copy, any other master 0 (R539). -/
def bankWord (m k : Nat) (s : State) : W32 :=
  if !isCore m then 0 else match specOf k with
    | some r => s.rd (bankReg m k r)
    | none => 0

/-- The word that a register reads as, with no effect on it: registers that show other state are computed. -/
def regWord (k : Nat) (s : State) : W32 :=
  if 0x44000000 ≤ k ∧ k < 0x44016000 then kskWord k s
  else if 0x44100000 ≤ k ∧ k < 0x44100800 then peekWord (k % 0x400 / 4) s
  else if 0x44100900 ≤ k ∧ k < 0x44100910 then flagWord (fun i => (lockAt i s).held) ((k - 0x44100900) / 4)
  else if k = 0x44208000 ∨ k = 0x44208004 then flagWord (fun n => decide (n < 64) && dmaBusy n s) ((k - 0x44208000) / 4)
  else if 0x49000030 ≤ k ∧ k < 0x49000040 then flagWord (fun d => decide (d < 106) && s.domOn d) ((k - 0x49000030) / 4)
  else if 0x48000010 ≤ k ∧ k < 0x48000020 then bytesWord deviceId ((k - 0x48000010) / 4)
  else if 0x42000064 ≤ k ∧ k < 0x42000070 then tagWord ((k - 0x42000064) / 4) s
  else if k = 0x41000804 then accelWord s
  else if k = 0x4000610C then fset (s.rd RCH_POOL_STATE2) F_RCH_POOL_STATE2_BANKS_ON (banksOn s)
  else if 0x47000000 ≤ k ∧ k < 0x470000C0 then (if k % 16 = 0 then BitVec.ofNat 32 s.sdl.now else if k % 16 = 4 then BitVec.ofNat 32 (s.sdl.now / 2 ^ 32) else 0)
  else if k = 0x45000084 then BitVec.ofNat 32 (nvErases (s.fld NVS_WEAR_SEL F_NVS_WEAR_SEL_SECTOR) s % 2 ^ 20)
  else if 0x40000000 ≤ k ∧ k < 0x41000000 ∧ 0x10000 ≤ k % 0x40000 then (if k % 0x40000 < 0x18000 then storeWord k s else 0)
  else if 0x40000000 ≤ k ∧ k < 0x41000000 ∧ k % 0x40000 = 0x2100 then storedWord k s ||| 0x80000000
  else storedWord k s

/-! ### Snapshot groups (R33–R35, R457, R459) -/

/-- The groups whose first word captures and changes nothing else: the address of the first word, the strides of its instances, and the words. -/
def snapTable : List (Nat × List (Nat × Nat) × Nat) := [
  (0x41000040, [(0x1000, 16)], 4),
  (0x41103000, [(0x10000, 16), (0x40, 21)], 4),
  (0x40001020, [(0x40000, 64)], 2),
  (0x40001118, [(0x40000, 64), (0x20, 4)], 2),
  (0x40003000, [(0x40000, 64)], 128),
  (0x40006104, [], 3),
  (0x40006200, [], 16),
  (0x40008030, [(0x40000, 64)], 3),
  (0x40009000, [(0x40000, 64)], 64),
  (0x4000A040, [(0x40000, 64)], 2),
  (0x42000064, [], 3),
  (0x42001010, [(0x40, 8)], 2),
  (0x42005000, [(0x80, 8)], 32),
  (0x42006000, [(0x10, 8)], 4),
  (0x42006100, [], 24),
  (0x42007004, [], 2)]

/-- The other groups. -/
def snapTable2 : List (Nat × List (Nat × Nat) × Nat) := [
  (0x43001000, [], 20),
  (0x44100900, [], 4),
  (0x44208000, [], 2),
  (0x45000060, [], 5),
  (0x46000040, [], 2),
  (0x46000048, [], 2),
  (0x46000110, [], 10),
  (0x46001000, [(0x20, 128)], 8),
  (0x47000000, [(0x10, 12)], 2),
  (0x47101000, [(0x80, 6)], 32),
  (0x47102000, [(0x20, 8)], 6),
  (0x47104000, [(0x20, 512)], 5),
  (0x47108004, [(0x10, 32)], 2),
  (0x48001000, [(0x40, 8)], 16),
  (0x48002000, [(0x60, 64)], 20),
  (0x49000030, [], 4),
  (0x49000044, [], 2),
  (0x49020008, [], 2)]

/-- The number of words of the group whose lowest-addressed word a key is. -/
def snapWords (k : Nat) : Option Nat :=
  ((snapTable ++ snapTable2).find? (fun g => decide (g.1 ≤ k) && strideHas g.2.1 (k - g.1))).map (fun g => g.2.2)

/-- The reset value of a word, which a group that has not been captured returns (R544). -/
def resetWord (k : Nat) : W32 :=
  match specOf k with
  | some r => (keyReg k r).rst
  | none => 0

/-- One word is captured; `off` tells the captures of the host's mirror from those that the masters share (R35, R457). -/
def snapPut (off k : Nat) (v : W32) (s : State) : State := { s with snap := tput (resetWord k) s.snap (k + off) v }

/-- A group is captured in one cycle: every word as it stands at the read. -/
def snapTake (off k n : Nat) (s : State) : State :=
  each (List.range n) (fun i t => snapPut off (k + 4 * i) (regWord (k + 4 * i) s) t) s

/-- What a captured word reads as. -/
def snapRead (off k : Nat) (s : State) : W32 := tget (resetWord k) s.snap (k + off)

/-- MIN_FREE starts again from the present count when its group is captured (RCH_POOL_STATE2). -/
def minFreeAgain (k : Nat) (s : State) : State :=
  if k = 0x40006104 then s.setf RCH_POOL_STATE2 F_RCH_POOL_STATE2_MIN_FREE (s.fld RCH_POOL_STATE0 F_RCH_POOL_STATE0_FREE) else s

/-- A read of the first word of a group. -/
def snapCapture (off k : Nat) (s : State) : State :=
  match snapWords k with
  | none => s
  | some n => { minFreeAgain k (snapTake off k n s) with rdata := regWord k s }

/-- Whether a key lies in the status mirror of BAR2 (R457). -/
def inMirror (k : Nat) : Bool := decide (0x46000000 ≤ k ∧ k < 0x46010000)

/-- Whether a word belongs to a snapshot group without being its lowest-addressed word. -/
def snapInner (k : Nat) : Bool :=
  (List.range 128).any (fun i => decide (0 < i ∧ 4 * i ≤ k) && (match snapWords (k - 4 * i) with
    | some n => decide (i < n)
    | none => false))

/-- Whether a read of a register changes it: its read has a row of its own (RC and RS fields of R4). -/
def readActs (k : Nat) : Bool :=
  match specOf k with
  | some r => r.fields.any (fun f => f.acc == .rc || f.acc == .rs)
  | none => false

/-- What a master reads of a register whose value depends on who reads: a Kiosk window reads 0 for a master that does not own its end (R364),
banked registers are those of the core (R539). -/
def ownWord (m k : Nat) (s : State) : W32 :=
  if 0x44000000 ≤ k ∧ k < 0x44016000 then
    (if ownsEnd m ((k - 0x44000000) / 0x800) ((k - 0x44000000) % 0x800 / 0x400) then kskWord k s else 0)
  else if bankedKey k then bankWord m k s
  else regWord k s

/-- A read of a register word: the first word of a snapshot group captures the group, another word of a group returns its captured value
(R33), that of HIF_URG captures and clears HIF_URG1 (R327), any other register reads as it stands for the master, an unassigned offset 0 (R7). -/
def regRead (m off k : Nat) (s : State) : State :=
  if k = HIF_URG0.key then urgTake s
  else if k = HIF_URG1.key then { s with rdata := snapRead 0 k s }
  else if (snapWords k).isSome then snapCapture off k s
  else if snapInner k then { s with rdata := snapRead off k s }
  else { s with rdata := ownWord m k s }

/-- CAP (R310): MQES 4,095, CQR, weighted round robin with urgent, TO 30, DSTRD 0, NVM and I/O command sets, MPSMIN 0 and MPSMAX 4. -/
def capReg : Nat := 4095 + 2 ^ 16 + 2 ^ 17 + 30 * 2 ^ 24 + 2 ^ 37 + 2 ^ 43 + 4 * 2 ^ 52

/-- CSTS: RDY, CFS, a shutdown that is complete, PP (R313, R341, R351). -/
def cstsReg (s : State) : W32 :=
  BitVec.ofNat 32 (b2n s.hif.rdy + 2 * b2n s.hif.cfs + 8 * b2n s.hif.shut + 32 * s.fld HIF_ACT F_HIF_ACT_PP)

/-- A word of the NVMe controller registers in BAR0, at the offsets of NVM Express (R310). -/
def nvWord (off : Nat) (s : State) : W32 :=
  match off with
  | 0x00 => BitVec.ofNat 32 capReg
  | 0x04 => BitVec.ofNat 32 (capReg / 2 ^ 32)
  | 0x08 => 0x00020000
  | 0x1C => cstsReg s
  | _ => if off % 4 = 0 ∧ 0x14 ≤ off ∧ off < 0x38 then nvReg off s else 0

/-- Whether a key lies in the window of a host end, which BAR2 holds too (R32, R390). -/
def hostWin (k : Nat) : Bool := decide (0x44000000 ≤ k ∧ k < 0x44004000 ∧ 0x400 ≤ k % 0x800)

/-- SNAPSHOT_CAPTURE_READ: `mirror` is a read by the host through BAR2, of the status mirror, which has captures of its own (R33, R35, R457), or of its
Kiosk windows (R390); another read by the host is one
of BAR0 by its offset, and nothing else of the internal map (R30); any other master reads the internal address. SDL_NOW_HI holds the capture of the master that reads (R459). In a domain that is off the read returns 0
and is counted (R37). -/
def execSnapshotCaptureRead (m : Master) (addr : Addr) (mirror : Bool) (s : State) : Host.Outcome State Fault Refusal :=
  let k := addr.toNat
  ok (if mirror then (if m.toNat = 9 ∧ barOk s = true ∧ (inMirror k || (hostWin k && !readActs k)) = true ∧ k % 4 = 0 then
      regRead 9 (2 ^ 56) k s else s)
    else if m.toNat = 9 then { s with rdata := if barOk s ∧ k < 0x1000 then nvWord k s else 0 }
    else if inRegs k = false ∨ k % 4 ≠ 0 then s
    else if gatedOff k s then { badAccess s with rdata := 0 }
    else if readActs k then s
    else regRead m.toNat 0 k s)

end Sys2Proof.Machine
end

