-- ==== Sys2Proof/Machine/Spdm.lean ====
section
/-! DEFINITION. SPDM requests (spec/14_trust.md, R486, R490, R491). The layouts and codes of messages are those of SPDM 1.2, which R490 names.
PRESUMED: taken from that standard, not from the spec. -/

namespace Sys2Proof.Machine

/-- A request arrives by Security Send: it takes the place of an earlier one; an unsupported code is answered once no verification runs and the
engine's domain is on (R483, R490, R498). -/
def spdmArrive (b : List Byte) (s : State) : State :=
  let s := modSec (fun x => { x with req := some b, rsp := none }) s
  if s.sec.verify.isSome || !s.domOn 105 then s else spdmUnknown s

/-- The response pending is delivered by Security Receive: at most 4,096 bytes, none when none is pending (R490). -/
def spdmTake (s : State) : List Byte × State :=
  match s.sec.rsp with
  | some r => (r.take 4096, modSec (fun x => { x with rsp := none }) s)
  | none => ([], s)

/-- The request of a code is served: the engine's domain is on, no verification runs (R483, R498), and it comes in the order that SPDM
requires, from stage `need` on; another version is an error. A request other than GET_MEASUREMENTS ends the measurement transcript. -/
def spdmServe (code need : Nat) (f : List Byte → State → State) (s : State) : State :=
  match s.sec.req with
  | none => s
  | some b =>
    if reqByte b 1 ≠ code ∨ !s.domOn 105 ∨ s.sec.verify.isSome then s
    else if s.sec.stage < need ∨ (need < 3 ∧ s.sec.stage ≠ need) then spdmReply (spdmError eUnexpected) s
    else if reqByte b 0 ≠ 0x12 then spdmReply (spdmError eVersion) s
    else f b (if code = 0xE0 then s else modSec (fun x => { x with tMeas := [] }) s)

/-- GET_VERSION: version 1.2 only; every earlier exchange ends. -/
def execSpdmGetVersion (s : State) : Host.Outcome State Fault Refusal :=
  ok (match s.sec.req with
    | none => s
    | some b =>
      if reqByte b 1 ≠ 0x84 ∨ !s.domOn 105 ∨ s.sec.verify.isSome then s
      else
        let r := ascii [0x10, 0x04, 0, 0, 0, 1, 0x00, 0x12]
        spdmReply r (modSec (fun x => { x with stage := 1, tNeg := b ++ r, tCert := [], tMeas := [] }) s))

/-- GET_CAPABILITIES: CTExponent 17; CERT_CAP, CHAL_CAP and MEAS_CAP with signature. -/
def execSpdmGetCapabilities (s : State) : Host.Outcome State Fault Refusal :=
  ok (spdmServe 0xE1 1 (fun b s =>
    let r := spdmMsg 0x61 0 0 (ascii [0, 17, 0, 0] ++ leBytes 0x16 4 ++ leBytes 4096 4 ++ leBytes 4096 4)
    spdmReply r (modSec (fun x => { x with stage := 2, tNeg := x.tNeg ++ b ++ r }) s)) s)

/-- NEGOTIATE_ALGORITHMS: Ed25519, SHA-512 and the DMTF measurement specification, or ERROR when the request excludes one of them. -/
def execSpdmNegotiateAlgorithms (s : State) : Host.Outcome State Fault Refusal :=
  ok (spdmServe 0xE3 2 (fun b s =>
    if (reqByte b 6).testBit 0 ∧ (imgField b 8 4).testBit 10 ∧ (imgField b 12 4).testBit 2 then
      let r := spdmMsg 0x63 0 0 (leBytes 36 2 ++ ascii [1, 0] ++ leBytes 8 4 ++ leBytes 0x400 4 ++ leBytes 4 4 ++ List.replicate 16 0)
      spdmReply r (modSec (fun x => { x with stage := 3, tNeg := x.tNeg ++ b ++ r }) s)
    else spdmReply (spdmError eInvalid) s) s)

/-! ### Certificates (R486) -/

/-- The length of a DER element with a two-byte length, at a window offset. -/
def derLen (o : Nat) (s : State) : Nat :=
  let b := (s.rdNvs o 4).map BitVec.toNat
  if b.take 2 = [0x30, 0x82] then 4 + 256 * b.getD 2 0 + b.getD 3 0 else 0

/-- The chain: three certificates one after the other from the start of sector 104, at most 6 KiB. -/
def certChain (s : State) : List Byte :=
  let o := sectorBase 104
  let n1 := derLen o s
  let n2 := derLen (o + n1) s
  let n3 := derLen (o + n1 + n2) s
  s.rdNvs o (min (n1 + n2 + n3) 6144)

/-- GET_DIGESTS: slot 0 only. -/
def execSpdmGetDigests (s : State) : Host.Outcome State Fault Refusal :=
  ok (spdmServe 0x81 3 (fun b s =>
    let r := spdmMsg 0x01 0 1 (Config.sha512 (certChain s))
    spdmReply r (modSec (fun x => { x with tCert := x.tCert ++ b ++ r }) s)) s)

/-- GET_CERTIFICATE: slot 0, by offset and length. -/
def execSpdmGetCertificate (s : State) : Host.Outcome State Fault Refusal :=
  ok (spdmServe 0x82 3 (fun b s =>
    let c := certChain s
    let off := imgField b 4 2
    if reqByte b 2 % 16 ≠ 0 ∨ c.length ≤ off then spdmReply (spdmError eInvalid) s
    else
      let part := ((c.drop off).take (imgField b 6 2)).take 4088
      let r := spdmMsg 0x02 0 0 (leBytes part.length 2 ++ leBytes (c.length - off - part.length) 2 ++ part)
      spdmReply r (modSec (fun x => { x with tCert := x.tCert ++ b ++ r }) s)) s)

/-! ### Signed responses -/

/-- The signature over the digest of a transcript, with the prefix of SPDM 1.2 and its context text. -/
def spdmSign (context transcript : List Byte) : List Byte :=
  let v := ascii [0x64, 0x6D, 0x74, 0x66, 0x2D, 0x73, 0x70, 0x64, 0x6D, 0x2D, 0x76, 0x31, 0x2E, 0x32, 0x2E, 0x2A]
  Config.identitySign (v ++ v ++ v ++ v ++ List.replicate (36 - context.length) 0 ++ context ++ Config.sha512 transcript)

/-- "responder-challenge_auth signing" and "responder-measurements signing". -/
def ctxChallenge : List Byte := ascii [0x72, 0x65, 0x73, 0x70, 0x6F, 0x6E, 0x64, 0x65, 0x72, 0x2D, 0x63, 0x68, 0x61, 0x6C, 0x6C, 0x65, 0x6E,
  0x67, 0x65, 0x5F, 0x61, 0x75, 0x74, 0x68, 0x20, 0x73, 0x69, 0x67, 0x6E, 0x69, 0x6E, 0x67]
def ctxMeasure : List Byte := ascii [0x72, 0x65, 0x73, 0x70, 0x6F, 0x6E, 0x64, 0x65, 0x72, 0x2D, 0x6D, 0x65, 0x61, 0x73, 0x75, 0x72, 0x65,
  0x6D, 0x65, 0x6E, 0x74, 0x73, 0x20, 0x73, 0x69, 0x67, 0x6E, 0x69, 0x6E, 0x67]

/-- A measurement block: register i as a digest; which kind of component its type names is a constant of the configuration. -/
def measBlock (i : Nat) (s : State) : List Byte :=
  ascii [i + 1, 1] ++ leBytes 67 2 ++ leBytes (Config.measType i % 128) 1 ++ leBytes 64 2 ++ meas i s

/-- The blocks that an index names (R490). -/
def measBlocks (ix : Nat) (s : State) : List (List Byte) :=
  if ix = 0 then [] else if ix = 0xFF then (List.range 8).map (fun i => measBlock i s) else [measBlock (ix - 1) s]

/-- CHALLENGE: slot 0, signed by the identity key over the transcript; a summary of the measurements when asked for. -/
def execSpdmChallenge (s : State) : Host.Outcome State Fault Refusal :=
  ok (spdmServe 0x83 3 (fun b s =>
    if reqByte b 2 % 16 ≠ 0 then spdmReply (spdmError eInvalid) s
    else
      let n := drawBytes 32 s
      let s := n.2
      let sum := if reqByte b 3 = 0 then [] else Config.sha512 ((measBlocks 0xFF s).flatten)
      let r := spdmMsg 0x03 0 1 (Config.sha512 (certChain s) ++ n.1 ++ sum ++ leBytes 0 2)
      let sig := spdmSign ctxChallenge (s.sec.tNeg ++ s.sec.tCert ++ b ++ r)
      spdmReply (r ++ sig) (modSec (fun x => { x with tCert := [] }) s)) s)

/-- GET_MEASUREMENTS: index 0 the count 8, 1 to 8 one register, 0xFF all of them captured in one cycle, signed when requested (R490, R491). -/
def execSpdmGetMeasurements (s : State) : Host.Outcome State Fault Refusal :=
  ok (spdmServe 0xE0 3 (fun b s =>
    let ix := reqByte b 3
    let signed := (reqByte b 2).testBit 0
    if 8 < ix ∧ ix ≠ 0xFF then spdmReply (spdmError eInvalid) s
    else
      let n := drawBytes 32 s
      let s := n.2
      let bl := measBlocks ix s
      let r := spdmMsg 0x60 (if ix = 0 then 8 else 0) 0 (leBytes bl.length 1 ++ leBytes bl.flatten.length 3 ++ bl.flatten ++ n.1 ++ leBytes 0 2)
      let t := s.sec.tMeas ++ b ++ r
      if signed then
        spdmReply (r ++ spdmSign ctxMeasure (s.sec.tNeg ++ t)) (modSec (fun x => { x with tMeas := [] }) s)
      else spdmReply r (modSec (fun x => { x with tMeas := t }) s)) s)

end Sys2Proof.Machine
end

