-- ==== Sys2Proof/Machine/HostAdmin.lean ====
section
/-! DEFINITION. Admin commands (spec/09_host_interface.md, R305, R309–R312, R328, R335–R347, R352). Each row is the service of a presented
command by resident firmware; one whose tag holds no presented command of its opcode does nothing. -/

namespace Sys2Proof.Machine

/-! ### Serving a command -/

/-- The admin commands that go on during a Sanitize (R335). -/
def sanitFree (op : Nat) : Bool := op == 0x02 || op == 0x06 || op == 0x08 || op == 0x0A || op == 0x0C

/-- A completion with success. -/
def done (t : Nat) (s : State) : State := complete t 0 0 s

/-- Invalid Field in Command. -/
def badField (t : Nat) (s : State) : State := complete t 0 0x02 s

/-- A presented admin command of an opcode is served; during a Sanitize the others complete with Sanitize In Progress (R335), but Firmware Commit has
a status of its own then (R344). Fused operations and SGLs are not supported (R309). -/
def adminCmd (t : Tag) (op : Nat) (f : Nat → HTask → State → State) (s : State) : State :=
  match task t.toNat s with
  | none => s
  | some x =>
    if x.st ≠ 2 ∨ x.admin = false ∨ x.op ≠ op then s
    else if s.hif.sanit.isSome && !sanitFree op && op != 0x10 then complete t.toNat 0 0x1D s
    else if x.odd then badField t.toNat s
    else f t.toNat x s

/-- The data of a command that the spec states: bytes from an offset, and a number of some bytes. -/
def dataAt (off : Nat) (l : List Byte) : List (Nat × Byte) := l.zipIdx.map (fun x => (off + x.2, x.1))
def dataNum (off n v : Nat) : List (Nat × Byte) := dataAt off (leBytes v n)

/-- The data goes to the host. -/
def giveData (l : List (Nat × Byte)) (s : State) : State := modHif (fun h => { h with data := l }) s

/-! ### Queues (R305, R311, R339) -/

/-- CREATE_IO_SUBMISSION_QUEUE (R311, R312). -/
def createSq (t : Nat) (x : HTask) (s : State) : State :=
  let q := x.dw 10 % 65536
  let n := x.dw 10 / 65536 + 1
  let c := x.dw 11 / 65536
  if q = 0 ∨ 128 < q ∨ (sq q s).isSome then complete t 1 0x01 s
  else if n < 2 ∨ 4096 < n then complete t 1 0x02 s
  else if c = 0 ∨ (cq c s).isNone then complete t 1 0x00 s
  else if x.dw 11 % 2 = 0 then badField t s
  else done t (setSq q (some { cq := c, prio := x.dw 11 / 2 % 4, size := n }) s)

/-- CREATE_IO_SUBMISSION_QUEUE (R311). -/
def execCreateIoSubmissionQueue (t : Tag) (s : State) : Host.Outcome State Fault Refusal := ok (adminCmd t 0x01 createSq s)

/-- CREATE_IO_COMPLETION_QUEUE (R305, R311). -/
def createCq (t : Nat) (x : HTask) (s : State) : State :=
  let q := x.dw 10 % 65536
  let n := x.dw 10 / 65536 + 1
  let v := x.dw 11 / 65536
  if q = 0 ∨ 128 < q ∨ (cq q s).isSome then complete t 1 0x01 s
  else if n < 2 ∨ 4096 < n then complete t 1 0x02 s
  else if 2039 < v then complete t 1 0x08 s
  else if x.dw 11 % 2 = 0 then badField t s
  else done t (setCq q (some { vec := v, ien := x.dw 11 / 2 % 2 == 1, size := n }) s)

/-- CREATE_IO_COMPLETION_QUEUE (R305). -/
def execCreateIoCompletionQueue (t : Tag) (s : State) : Host.Outcome State Fault Refusal := ok (adminCmd t 0x05 createCq s)

/-- The commands of a queue that are removed complete with Command Aborted due to SQ Deletion, and their media work is cancelled (R339, R340). -/
def sqRemove (q : Nat) (s : State) : State :=
  let l := ((tasksOf s).filter (fun x => x.2.sqid == q && x.2.st != 3)).map Prod.fst
  if l.isEmpty then s else emit 0x7004 (each l (fun u r => complete u 0 0x08 r) (cancelOps (taskOps l.contains s) s))

/-- DELETE_IO_SUBMISSION_QUEUE: nothing more is fetched from the queue, its commands are removed, and once their completions are written the
queue is gone and the command completes (R339, R340). -/
def deleteSq (t : Nat) (x : HTask) (s : State) : State :=
  let q := x.dw 10 % 65536
  match sq q s with
  | none => complete t 1 0x01 s
  | some y =>
    if q = 0 then complete t 1 0x01 s
    else
      let s := sqRemove q (setSq q (some { y with head := y.tail }) s)
      if (tasksOf s).any (fun z => z.2.sqid == q) then s else done t (setSq q none s)

/-- DELETE_IO_SUBMISSION_QUEUE (R339). -/
def execDeleteIoSubmissionQueue (t : Tag) (s : State) : Host.Outcome State Fault Refusal := ok (adminCmd t 0x00 deleteSq s)

/-- DELETE_IO_COMPLETION_QUEUE (R309). -/
def deleteCq (t : Nat) (x : HTask) (s : State) : State :=
  let q := x.dw 10 % 65536
  if q = 0 ∨ (cq q s).isNone then complete t 1 0x01 s
  else if s.hif.sqs.any (fun y => match y.2 with
      | some z => z.cq == q
      | none => false) then complete t 1 0x0C s
  else done t (setCq q none s)

/-- DELETE_IO_COMPLETION_QUEUE (R309). -/
def execDeleteIoCompletionQueue (t : Tag) (s : State) : Host.Outcome State Fault Refusal := ok (adminCmd t 0x04 deleteCq s)

/-! ### Log pages (R309, R335, R352–R354) -/

/-- The critical warning of SMART / Health: bit 2 of a Grave fault or lost data, bit 3 of a full lost-range list (R353, R354, R441). -/
def criticalWarning (s : State) : Nat :=
  4 * b2n (graveLatched s || !s.hif.lost.isEmpty) + 8 * b2n (decide (4096 ≤ s.hif.lost.length))

/-- The opcodes supported (R309): admin and I/O. -/
def adminOps : List Nat := [0x00, 0x01, 0x02, 0x04, 0x05, 0x06, 0x08, 0x09, 0x0A, 0x0C, 0x0D, 0x10, 0x11, 0x15, 0x81, 0x82, 0x84]
def ioOps : List Nat := [0x00, 0x01, 0x02, 0x05, 0x08, 0x09, 0x0C, 0x79, 0x7A, 0x7D]

/-- Error Information (01h): error count, queue, command, status, block and namespace of each entry, newest first. -/
def logErrors (s : State) : List (Nat × Byte) :=
  s.hif.errs.zipIdx.flatMap (fun x =>
    let o := 64 * x.2
    dataNum o 8 (s.hif.errCnt - x.2) ++ dataNum (o + 8) 2 x.1.1 ++ dataNum (o + 10) 2 x.1.2.1 ++ dataNum (o + 12) 2 (2 * x.1.2.2.1) ++ dataNum (o + 16) 8 x.1.2.2.2.1 ++
      dataNum (o + 24) 4 x.1.2.2.2.2)

/-- SMART / Health (02h): the critical warning; the composite temperature, which is taken to be that of the junction, in kelvins; data units of 1,000 × 512
bytes read and written by the host, by the blocks of HIF_STATS; read and write commands; unrecovered errors; and the number of Error
Information entries (NVM Express). The spec states no other field. -/
def logSmart (s : State) : List (Nat × Byte) :=
  let units := fun (n : Nat) => (8 * s.ctr (HIF_STATS n) + 999) / 1000
  dataNum 0 1 (criticalWarning s) ++ dataNum 1 2 (s.fld GH_TEMP F_GH_TEMP_TJ + 233) ++ dataNum 32 16 (units 5) ++ dataNum 48 16 (units 6) ++
    dataNum 64 16 s.hif.rdCmds ++ dataNum 80 16 s.hif.wrCmds ++ dataNum 160 16 s.hif.mediaErrs ++ dataNum 176 16 s.hif.errCnt

/-- The Commands Supported and Effects of an opcode: supported; blocks may change by Write, Write Zeroes, Zone Management Send, Zone Append and Sanitize; the
inventory of namespaces by Namespace Management and Attachment (NVM Express). -/
def effectsOf (admin : Bool) (op : Nat) : Nat :=
  1 + (if (if admin then [0x84] else [0x01, 0x08, 0x79, 0x7D]).contains op then 2 else 0) + (if admin && [0x0D, 0x15].contains op then 8 else 0)

/-- The 4-byte version of a slot's image (bytes 8 to 11 of its header). -/
def slotVersion (k : Nat) (s : State) : List Byte := s.rdNvs (slotAddr k - 0x10000000 + 8) 4

/-- Firmware Slot Information (03h): the running slot and the one of the next boot. -/
def logFirmware (s : State) : List (Nat × Byte) :=
  let run := match s.hif.runSlot with
    | some k => k + 1
    | none => 0
  let next := match bootOrder s with
    | k :: _ => k + 1
    | [] => 0
  dataNum 0 1 (run + 16 * next) ++ dataAt 8 (slotVersion 0 s) ++ dataAt 16 (slotVersion 1 s)

/-- The sectors of the media that a Sanitize writes in one pass, and those it has written in the present one, by whole cylinders. -/
def sanTotal (s : State) : Nat := ((List.range 64).map (fun a => (sanCyls a s).length)).sum
def sanCount (j : SanJob) (s : State) : Nat := ((List.range 64).map (fun a => min (sanCyls a s).length (tget 0 j.cyls a))).sum

/-- Sanitize Status (81h): progress in 1/65,536 over all passes, status with the passes that have ended, and the command's dword 10; 1 completed, 2 in
progress (R335, NVM Express). -/
def logSanitize (s : State) : List (Nat × Byte) :=
  match s.hif.sanit with
  | some j =>
    let all := max 1 (j.passes * sanTotal s)
    dataNum 0 2 (min 0xFFFF ((j.pass * sanTotal s + sanCount j s) * 65536 / all)) ++ dataNum 2 2 (2 + j.pass % 32 * 8) ++
      dataNum 4 4 (3 + j.passes % 16 * 16 + b2n j.invert * 256)
  | none => dataNum 0 2 0xFFFF ++ dataNum 2 2 (b2n s.hif.sanDone)

/-- The Icehouse summary (C0h). -/
def logIce (s : State) : List (Nat × Byte) :=
  let newest := match newestSlot s with
    | some (i, _) => s.rdNvs (slotOff i) 1024
    | none => List.replicate 1024 0
  let folds := (List.range 32).flatMap (fun i => leBytes (s.ctr (ICE_FOLD_SUM i)) 8)
  let ev := fun (i : Nat) =>
    let last := s.ctr (ICE_EVT_LAST i)
    leBytes (s.ctr (ICE_EVT_COUNT i)) 6 ++ leBytes (if last = 0 then 65535 else min 65535 ((s.sdl.now - last) / 1000000000)) 2
  dataAt 0 (newest ++ folds ++ (List.range 352).flatMap (fun i => ev (32 + i)))

/-- The Sundial time of a Lodge record, and how far its SEQ lies behind the last one's, modulo 2^32 (R444). -/
def lodgeTime (p : Nat) (s : State) : Nat := (s.rd (GH_LODGE_REC p 1)).toNat + 2 ^ 32 * (s.rd (GH_LODGE_REC p 2)).toNat
def lodgeBehind (p : Nat) (s : State) : Nat := (s.rd GH_LODGE_SEQ - s.rd (GH_LODGE_REC p 0)).toNat

/-- The ring positions of the Lodge from oldest to newest: the unused ones, whose event code is 0, and then the others by Sundial time, records of one
time by SEQ, which wraps (R446, R447). -/
def lodgeOrder (s : State) : List Nat :=
  let used := fun (p : Nat) => s.rd (GH_LODGE_REC p 3) != 0
  let le := fun (p q : Nat) => decide (lodgeTime p s < lodgeTime q s ∨ (lodgeTime p s = lodgeTime q s ∧ lodgeBehind q s ≤ lodgeBehind p s))
  ((List.range 128).filter (fun p => !used p)) ++ (((List.range 128).filter used).mergeSort le)

/-- The Lodge page (C2h). -/
def logLodge (s : State) : List (Nat × Byte) :=
  dataAt 0 ((lodgeOrder s).flatMap (fun p => wordBytes ((List.range 8).map (fun w => s.rd (GH_LODGE_REC p w)))))

/-- A placement descriptor (R346). -/
def descriptor (n : NsSt) : List Byte :=
  leBytes 0x4C50 2 ++ leBytes n.mode 1 ++ leBytes n.width 1 ++ leBytes n.cylFirst 4 ++ leBytes n.cylLast 4 ++ leBytes n.shift 1 ++
    leBytes 0 3 ++ leBytes n.mask 8 ++ leBytes 0 40

/-- The placement page (C3h). -/
def logPlacement (s : State) : List (Nat × Byte) :=
  dataAt 0 ((List.range 64).flatMap (fun i => match nsAt (i + 1) s with
    | some n => descriptor n
    | none => List.replicate 64 0))

/-- The content of a log page, from an offset for a number of bytes, as far as the spec states it; none for an identifier not supported. -/
def logPage (id off n : Nat) (s : State) : Option (List (Nat × Byte) × State) :=
  let cut := fun (l : List (Nat × Byte)) => (l.filter (fun x => decide (off ≤ x.1 ∧ x.1 < off + n))).map (fun x => (x.1 - off, x.2))
  match id with
  | 0x01 => some (cut (logErrors s), s)
  | 0x02 => some (cut (logSmart s), s)
  | 0x03 => some (cut (logFirmware s), s)
  | 0x04 => some (cut (s.hif.changed.zipIdx.flatMap (fun x => dataNum (4 * x.2) 4 x.1)), modHif (fun h => { h with changed := [] }) s)
  | 0x05 => some (cut (adminOps.flatMap (fun o => dataNum (4 * o) 4 (effectsOf true o)) ++ ioOps.flatMap (fun o => dataNum (1024 + 4 * o) 4 (effectsOf false o))), s)
  | 0x81 => some (cut (logSanitize s), s)
  | 0xC0 => some (cut (logIce s), s)
  | 0xC1 => some (dataAt 0 (s.rdNvs (0x1800000 + off) (min n (0x200000 - off))), s)
  | 0xC2 => some (cut (logLodge s), s)
  | 0xC3 => some (cut (logPlacement s), s)
  | _ => none

/-- GET_LOG_PAGE (R309, R352). -/
def getLog (t : Nat) (x : HTask) (s : State) : State :=
  let n := 4 * (x.dw 10 / 65536 + x.dw 11 % 65536 * 65536 + 1)
  match logPage (x.dw 10 % 256) (x.dw 12 + x.dw 13 * 2 ^ 32) n s with
  | none => badField t s
  | some (d, s) => done t (giveData d s)

/-- GET_LOG_PAGE (R352). -/
def execGetLogPage (t : Tag) (s : State) : Host.Outcome State Fault Refusal := ok (adminCmd t 0x02 getLog s)

/-! ### Identify (R310, R334, R346, R350) -/

/-- Identify Controller: the values of R310, at the places of NVM Express. -/
def idController (s : State) : List (Nat × Byte) :=
  dataNum 0 2 (s.fld HIF_ID F_HIF_ID_VENDOR) ++ dataNum 2 2 (s.hif.ssid.toNat % 65536) ++ dataNum 77 1 9 ++ dataNum 80 4 0x00020000 ++
    dataNum 256 2 0x0D ++ dataNum 258 1 3 ++ dataNum 259 1 7 ++ dataNum 260 1 0x14 ++ dataNum 270 2 4 ++ dataNum 319 1 1 ++
    dataNum 328 4 0x4 ++ dataNum 512 1 0x66 ++ dataNum 513 1 0x44 ++ dataNum 514 2 2048 ++ dataNum 516 4 64 ++ dataNum 520 2 0xCD ++
    dataNum 525 1 1

/-- Identify Namespace: its size, one format of 4,096 bytes without metadata, DLFEAT 0. -/
def idNamespace (n : NsSt) : List (Nat × Byte) :=
  dataNum 0 8 n.nsze ++ dataNum 8 8 n.nsze ++ dataNum 25 1 0 ++ dataNum 26 1 0 ++ dataNum 33 1 0 ++ dataNum 128 4 0x000C0000

/-- The zoned part of Identify Namespace: reads across zone boundaries permitted, MAR, MOR and the zone size (R350). -/
def idZoned (n : NsSt) : List (Nat × Byte) := dataNum 0 2 0 ++ dataNum 2 2 1 ++ dataNum 4 4 255 ++ dataNum 8 4 255 ++ dataNum 2816 8 n.zsize

/-- The identifiers above one that satisfy a test, in rising order. -/
def nsList (above : Nat) (p : NsSt → Bool) (s : State) : List (Nat × Byte) :=
  ((s.hif.nss.filter (fun x => decide (above < x.1) && (match x.2 with
    | some n => p n
    | none => false))).map Prod.fst).zipIdx.flatMap (fun x => dataNum (4 * x.2) 4 x.1)

/-- A namespace belongs to a command set. -/
def inSet (csi : Nat) (n : NsSt) : Bool := if csi = 2 then n.zoned else csi == 0 && !n.zoned

/-- A controller list: controller 0 alone, or none, from an identifier on. -/
def ctrlList (from_ : Nat) (has : Bool) : List (Nat × Byte) := if has ∧ from_ = 0 then dataNum 0 2 1 ++ dataNum 2 2 0 else dataNum 0 2 0

/-- The data of a namespace: zeros for one that is not allocated, or not attached where an active one is asked for; none for an identifier that no namespace
can have (NVM Express). -/
def idOf (ns : Nat) (active : Bool) (f : NsSt → List (Nat × Byte)) (s : State) : Option (List (Nat × Byte)) :=
  if ns = 0 ∨ 64 < ns then none
  else match nsAt ns s with
    | some n => some (if active ∧ n.attached = false then dataAt 0 (List.replicate 4096 0) else f n)
    | none => some (dataAt 0 (List.replicate 4096 0))

/-- The data of Identify for a CNS value, as far as the spec and NVM Express state it; none for one not supported. -/
def idData (cns csi ns ctrl : Nat) (s : State) : Option (List (Nat × Byte)) :=
  match cns with
  | 0x00 => idOf ns true idNamespace s
  | 0x01 => some (idController s)
  | 0x02 => some (nsList ns (fun n => n.attached) s)
  | 0x03 => (nsAt ns s).map (fun n => dataNum 0 4 0x0104 ++ dataNum 4 1 (2 * b2n n.zoned))
  | 0x05 => idOf ns true (fun n => if csi = 2 ∧ n.zoned = true then idZoned n else []) s
  | 0x06 => some (if csi = 2 then dataNum 0 1 9 else [])
  | 0x07 => some (nsList ns (fun n => n.attached && inSet csi n) s)
  | 0x08 => idOf ns true (fun _ => []) s
  | 0x10 => some (nsList ns (fun _ => true) s)
  | 0x11 => idOf ns false idNamespace s
  | 0x12 => (nsAt ns s).map (fun n => ctrlList ctrl n.attached)
  | 0x13 => some (ctrlList ctrl true)
  | 0x1A => some (nsList ns (inSet csi) s)
  | 0x1B => idOf ns false (fun n => if csi = 2 ∧ n.zoned = true then idZoned n else []) s
  | 0x1C => some (dataNum 0 8 5)
  | _ => none

/-- IDENTIFY (R310). -/
def identifyRun (t : Nat) (x : HTask) (s : State) : State :=
  let cns := x.dw 10 % 256
  match idData cns (x.dw 11 / 2 ^ 24) x.nsid (x.dw 10 / 65536) s with
  | some d => done t (giveData d s)
  | none => if [0x00, 0x03, 0x05, 0x08, 0x11, 0x12, 0x1B].contains cns then complete t 0 0x0B s else badField t s

/-- IDENTIFY (R310). -/
def execIdentify (t : Tag) (s : State) : Host.Outcome State Fault Refusal := ok (adminCmd t 0x06 identifyRun s)

/-- ABORT: completes with bit 0 of dword 0 set and aborts nothing (R328). -/
def execAbort (t : Tag) (s : State) : Host.Outcome State Fault Refusal := ok (adminCmd t 0x08 (fun u _ r => completeDw u 0 0 1 r) s)

/-! ### Features (R309–R312, R337, R338) -/

/-- The feature identifiers supported (R309). -/
def featIds : List Nat := [0x01, 0x02, 0x04, 0x06, 0x07, 0x08, 0x09, 0x0B, 0x0E]

/-- The selector of a feature's value: the threshold for 04h, the vector for 09h. -/
def featSel (id v : Nat) : Nat := if id = 0x04 then v / 65536 % 64 else if id = 0x09 then v % 65536 else 0

/-- SET_FEATURES: features other than 06h and 0Eh (R309, R311). -/
def setFeature (t : Nat) (x : HTask) (s : State) : State :=
  let id := x.dw 10 % 256
  let v := x.dw 11
  if id = 0x06 ∨ id = 0x0E then s
  else if !featIds.contains id then badField t s
  else if id = 0x07 then completeDw t 0 0 0x007F007F s
  else if id = 0x02 ∧ v % 32 ≠ 0 then badField t s
  else done t (modHif (fun h => { h with feats := tput (if id = 1 then 0x03010003 else 0) h.feats (65536 * id + featSel id v) v }) s)

/-- SET_FEATURES (R309). -/
def execSetFeatures (t : Tag) (s : State) : Host.Outcome State Fault Refusal := ok (adminCmd t 0x09 setFeature s)

/-- The present value of a feature. -/
def featValue (id v : Nat) (s : State) : Nat :=
  if id = 0x06 then b2n (wrEn s) else if id = 0x07 then 0x007F007F else feat id (featSel id v) s

/-- GET_FEATURES: features other than 0Eh (R309, R310). -/
def getFeature (t : Nat) (x : HTask) (s : State) : State :=
  let id := x.dw 10 % 256
  if id = 0x0E then s
  else if !featIds.contains id then badField t s
  else completeDw t 0 0 (BitVec.ofNat 32 (featValue id (x.dw 11) s)) s

/-- GET_FEATURES (R309). -/
def execGetFeatures (t : Tag) (s : State) : Host.Outcome State Fault Refusal := ok (adminCmd t 0x0A getFeature s)

/-- SET_FEATURES_VOLATILE_WRITE_CACHE: enabling completes at once; disabling when the drain has ended, or has come to wait only for lines that
cannot be written (R338). -/
def setVwc (t : Nat) (x : HTask) (s : State) : State :=
  if x.dw 10 % 256 ≠ 0x06 then s
  else if x.dw 11 % 2 = 1 then done t (if wrEn s then s else wrEnWrite true s)
  else
    let s := if wrEn s then wrEnWrite false s else s
    if !wrDraining s then done t s
    else if (s.buf.tags.filter (fun e => e.2.dirtyClass)).all (fun e => lineStuck e.2.key s) then complete t 7 0x81 s
    else s

/-- SET_FEATURES_VOLATILE_WRITE_CACHE (R338). -/
def execSetFeaturesVolatileWriteCache (t : Tag) (s : State) : Host.Outcome State Fault Refusal := ok (adminCmd t 0x09 setVwc s)

/-- SET_FEATURES_TIMESTAMP: `ms` is the 8-byte data structure; the epoch offset is set so that the sum gives the host's time (R337, R460). -/
def setTime (ms : Nat) (t : Nat) (x : HTask) (s : State) : State :=
  if x.dw 10 % 256 ≠ 0x0E then s
  else
    let off := (ms % 2 ^ 48 * 1000000 + 2 ^ 64 - s.sdl.now) % 2 ^ 64
    let s := { s with sdl := { s.sdl with epochHi := BitVec.ofNat 32 (off / 2 ^ 32) } }
    done t (epochApply (BitVec.ofNat 32 off) s)

/-- SET_FEATURES_TIMESTAMP (R337). -/
def execSetFeaturesTimestamp (t : Tag) (ms : BitVec 64) (s : State) : Host.Outcome State Fault Refusal := ok (adminCmd t 0x09 (setTime ms.toNat) s)

/-- GET_FEATURES_TIMESTAMP: the sum in milliseconds, and Origin 1 once a Set has been made (R337). -/
def getTime (t : Nat) (x : HTask) (s : State) : State :=
  if x.dw 10 % 256 ≠ 0x0E then s
  else
    let origin := s.fld SDL_EPOCH_CTL F_SDL_EPOCH_CTL_ORIGIN
    done t (giveData (dataNum 0 8 (hostTime s / 1000000 % 2 ^ 48 + origin * 2 ^ 49)) s)

/-- GET_FEATURES_TIMESTAMP (R337). -/
def execGetFeaturesTimestamp (t : Tag) (s : State) : Host.Outcome State Fault Refusal := ok (adminCmd t 0x0A getTime s)

/-- ASYNCHRONOUS_EVENT_REQUEST: at most AERL + 1 = 8 are held (R309, R310). -/
def aerRun (t : Nat) (_x : HTask) (s : State) : State :=
  if s.hif.aers.contains t then s
  else if 8 ≤ s.hif.aers.length then complete t 1 0x05 s
  else asyncFlush (modHif (fun h => { h with aers := h.aers ++ [t] }) s)

/-- ASYNCHRONOUS_EVENT_REQUEST (R309). -/
def execAsynchronousEventRequest (t : Tag) (s : State) : Host.Outcome State Fault Refusal := ok (adminCmd t 0x0C aerRun s)

/-! ### Namespaces (R346, R347) -/

/-- The number that bytes of a data structure spell. -/
def fieldOf (d : List Byte) (off n : Nat) : Nat := ofLe ((d.drop off).take n)

/-- Whether a placement descriptor keeps every range and reserved byte (R346, R347). -/
def descOk (zoned : Bool) (d : List Byte) : Bool :=
  let w := fieldOf d 3075 1
  let sh := fieldOf d 3084 1
  decide (3136 ≤ d.length) && fieldOf d 3072 2 == 0x4C50 && decide (fieldOf d 3074 1 < 2) && (w == 1 || w == 2 || w == 4) &&
    decide (fieldOf d 3076 4 ≤ fieldOf d 3080 4) && decide (fieldOf d 3080 4 < 2 ^ 21) &&
    (if zoned then decide (17 ≤ sh ∧ sh ≤ 24) else sh == 0) && zeros d 3085 3 && fieldOf d 3088 8 != 0 && zeros d 3096 40

/-- The namespace that a data structure describes; its lines are those of the formats as they stand (R346, R348). -/
def descNs (zoned : Bool) (d : List Byte) (s : State) : NsSt :=
  let mask := fieldOf d 3088 8
  let first := fieldOf d 3076 4
  let last := fieldOf d 3080 4
  { zoned := zoned, nsze := fieldOf d 0 8, mode := fieldOf d 3074 1, width := fieldOf d 3075 1, cylFirst := first, cylLast := last,
    shift := fieldOf d 3084 1, mask := mask, lines := (bitsOf 64 mask).map (fun a => linesOn a first last s) }

/-- Whether two namespaces share a cylinder of one actuator (R347). -/
def nsShare (n m : NsSt) : Bool := decide (n.mask &&& m.mask ≠ 0 ∧ n.cylFirst ≤ m.cylLast ∧ m.cylFirst ≤ n.cylLast)

/-- NAMESPACE_CREATE: `data` is the host-specified data structure (R346, R347). -/
def nsCreate (d : List Byte) (t : Nat) (x : HTask) (s : State) : State :=
  let csi := x.dw 11 / 2 ^ 24
  let zoned := csi == 2
  if x.dw 10 % 16 ≠ 0 then s
  else if (csi ≠ 0 ∧ csi ≠ 2) ∨ fieldOf d 8 8 ≠ fieldOf d 0 8 ∨ fieldOf d 26 1 ≠ 0 ∨ fieldOf d 0 8 = 0 then badField t s
  else if !descOk zoned d then complete t 7 0x83 s
  else
    let n := descNs zoned d s
    if s.hif.nss.any (fun y => match y.2 with
        | some m => nsShare n m
        | none => false) then complete t 7 0x84 s
    else if n.capacity < n.nsze then complete t 1 0x15 s
    else match (List.range 64).find? (fun i => (nsAt (i + 1) s).isNone) with
      | none => complete t 1 0x16 s
      | some i => completeDw t 0 0 (BitVec.ofNat 32 (i + 1)) (modHif (fun h => { h with nss := tput none h.nss (i + 1) (some { n with recs := recFree ((n.zoneCount + 959) / 960) s }) }) s)

/-- NAMESPACE_CREATE (R347). -/
def execNamespaceCreate (t : Tag) (data : List Byte) (s : State) : Host.Outcome State Fault Refusal := ok (adminCmd t 0x0D (nsCreate data) s)

/-- The lines of namespaces are discarded (R289, R335, R347). -/
def nsDiscard (p : Nat → Bool) (s : State) : State :=
  bufShow (each ((s.buf.tags.filter (fun e => p (e.2.key / 2 ^ 34 + 1))).map Prod.fst) (maintVisit 4) s)

/-- A namespace is deleted: its lines are discarded and its cylinders are free (R347). -/
def nsDrop (id : Nat) (s : State) : State :=
  modHif (fun h => { h with nss := tput none h.nss id none, lost := h.lost.filter (fun l => l.1 != id),
                            changed := h.changed.filter (fun i => i != id), unready := h.unready.filter (fun i => i != id) }) (nsDiscard (fun i => i == id) s)

/-- NAMESPACE_DELETE; FFFFFFFFh names all (R347). -/
def nsDelete (t : Nat) (x : HTask) (s : State) : State :=
  if x.dw 10 % 16 ≠ 1 then s
  else if x.nsid = 0xFFFFFFFF then done t (each (s.hif.nss.map Prod.fst) nsDrop s)
  else if (nsAt x.nsid s).isNone then complete t 0 0x0B s
  else done t (nsDrop x.nsid s)

/-- NAMESPACE_DELETE (R347). -/
def execNamespaceDelete (t : Tag) (s : State) : Host.Outcome State Fault Refusal := ok (adminCmd t 0x0D nsDelete s)

/-- NAMESPACE_ATTACHMENT: `data` is the controller list, which must name controller 0 alone (R346). -/
def nsAttach (d : List Byte) (t : Nat) (x : HTask) (s : State) : State :=
  let detach := x.dw 10 % 16 == 1
  match nsAt x.nsid s with
  | none => complete t 0 0x0B s
  | some n =>
    if 1 < x.dw 10 % 16 then badField t s
    else if fieldOf d 0 2 ≠ 1 ∨ fieldOf d 2 2 ≠ 0 then complete t 1 0x1C s
    else if detach = !n.attached then complete t 1 (if detach then 0x1A else 0x18) s
    else done t (modNs x.nsid (fun m => { m with attached := !detach }) s)

/-- NAMESPACE_ATTACHMENT (R346). -/
def execNamespaceAttachment (t : Tag) (data : List Byte) (s : State) : Host.Outcome State Fault Refusal := ok (adminCmd t 0x15 (nsAttach data) s)

/-! ### Firmware (R341–R344) -/

/-- FIRMWARE_IMAGE_DOWNLOAD: a part of an image, staged in rank 0 (R309). -/
def fwDownload (d : List Byte) (t : Nat) (x : HTask) (s : State) : State :=
  let n := 4 * (x.dw 10 + 1)
  let off := 4 * x.dw 11
  if d.length ≠ n ∨ 12324864 < off + n then badField t s
  else if s.hif.image.any (fun p => overlap off n p.1 p.2) then complete t 1 0x14 s
  else done t (modHif (fun h => { h with image := h.image ++ [(off, n)] }) (s.wrMem (recBase + off) d))

/-- FIRMWARE_IMAGE_DOWNLOAD (R309). -/
def execFirmwareImageDownload (t : Tag) (data : List Byte) (s : State) : Host.Outcome State Fault Refusal :=
  ok (adminCmd t 0x11 (fwDownload data) s)

/-- A Firmware Commit is prohibited while a Sanitize, another commit or an activation is in progress (R344). -/
def fwBusy (s : State) : Bool := s.hif.sanit.isSome || s.hif.commit.isSome || s.nvs.commit.isSome || s.hif.act != .none

/-- The store slot that a Firmware Slot field names; 0 leaves the choice to the controller, which takes the one that does not run. -/
def fwSlot (fs : Nat) (s : State) : Nat := if fs = 0 then (if s.hif.runSlot = some 0 then 1 else 0) else fs - 1

/-- The status of a Firmware Commit by the engine's RESULT: 1 and 4 an image or slot that is not valid, 2, 3 and 5 a failure (R417, R419). -/
def commitStatus (r : Nat) : Nat × Nat := if r = 0 then (0, 0) else if r = 1 ∨ r = 4 then (1, 0x07) else (0, 0x06)

/-- A Firmware Commit that waits completes when the engine has ended (R344). -/
def commitAnswer (s : State) : State :=
  match s.hif.commit with
  | none => s
  | some t =>
    if s.nvs.commit.isSome then s
    else
      let r := commitStatus (s.fld NVS_COMMIT_STATUS F_NVS_COMMIT_STATUS_RESULT)
      complete t r.1 r.2 (modHif (fun h => { h with commit := none, image := [] }) s)

/-- Commit Action 0, 1 or 2: the slot commit begins, with the image verified first (R344, R420). -/
def fwCommit (t : Nat) (x : HTask) (s : State) : State :=
  let ca := x.dw 10 / 8 % 8
  let fs := x.dw 10 % 8
  let k := fwSlot fs s
  if ca = 3 then s
  else if 3 < ca then badField t s
  else if fwBusy s then complete t 1 0x13 s
  else if 2 < fs ∨ s.hif.runSlot = some k then complete t 1 0x06 s
  else
    let s := if ca < 2 then fwVerify recBase s else s
    if ca < 2 && !verifiedOk s then complete t 1 0x07 s
    else
    let n := (imgAt recBase s).length
    let s := (s.wr NVS_COMMIT_SRC_LO (BitVec.ofNat 32 recBase)).setf NVS_COMMIT_SRC_HI F_NVS_COMMIT_SRC_HI_ADDR_HI (recBase / 2 ^ 32)
    let s := if ca < 2 then s.setf NVS_COMMIT_LEN F_NVS_COMMIT_LEN_BYTES n else s
    commitAnswer (commitStart k ca (modHif (fun h => { h with commit := some t }) s))

/-- FIRMWARE_COMMIT (R344). -/
def execFirmwareCommit (t : Tag) (s : State) : Host.Outcome State Fault Refusal := ok (adminCmd t 0x10 fwCommit s)

/-- ERASE_END (R401, R403, R407); a Firmware Commit whose commit fails with it completes (R344). -/
def execNvEraseEnd (par fail : Bool) (s : State) : Host.Outcome State Fault Refusal := ok (commitAnswer (nvEraseEnd par fail s))

/-- COMMIT_END (R417); a Firmware Commit that waited for it completes (R344). -/
def execCommitEnd (res : BitVec 2) (repeats : BitVec 4) (s : State) : Host.Outcome State Fault Refusal :=
  ok (commitAnswer (commitEnd res.toNat repeats.toNat s))

/-- The queued write-back operations, and the lines they write: operations that have not run and write from the cache (R264, R341). -/
def queuedWb (s : State) : List (Nat × Nat) :=
  (List.range 64).flatMap (fun a => ((seq a s).ops.filter (fun o => !o.ran && descKind a o.slot s == 2 &&
    decide (0x2000000000 ≤ descBase a o.slot s ∧ descBase a o.slot s < 0x3000000000))).map (fun o => (a, o.slot)))

/-- The line that a DRAM address of the cache lies in (R264). -/
def lineAt (b : Nat) : Nat := (b - 0x2000000000) % 2 ^ 32 / 0x80000 * 16 + (b - 0x2000000000) / 2 ^ 32

/-- The drain of an activation cancels queued write-back operations; their lines stay DIRTY under R279 (R341). -/
def drainWb (s : State) : State :=
  each (queuedWb s) (fun x t =>
    let e := lineAt (descBase x.1 x.2 s)
    wbDone (BitVec.ofNat 32 (2 ^ 31 + 2 ^ 30 + e % 16 * 2 ^ 14 + e / 16)) (cancelSlot x.1 x.2 t)) s

/-- Steps 1 and 2 of an activation, with ACTION 2 of the commit engine, which ends before the cores reset (R341, R419, R487). -/
def activate (t k : Nat) (s : State) : State :=
  let s := commitStart k 2 (extend 1 srcEngine 0 (imageDigest (imgAt (slotAddr k) s)) s)
  let s := (holdWrite true s).setf HIF_ACT F_HIF_ACT_PP 1
  let s := if (feat 0x0B 0 s).testBit 9 then asyncPost 2 1 3 s else s
  drainWb (emit 0x7005 (modHif (fun h => { h with act := .drain t k }) s))

/-- Commit Action 3 (R341, R344). -/
def fwActivate (t : Nat) (x : HTask) (s : State) : State :=
  let fs := x.dw 10 % 8
  let k := fwSlot fs s
  if x.dw 10 / 8 % 8 ≠ 3 then s
  else if s.hif.act = .drain t k then s
  else if fwBusy s then complete t 1 0x13 s
  else if 2 < fs ∨ s.hif.runSlot = some k then complete t 1 0x06 s
  else
    let s := fwVerify (slotAddr k) s
    if !(slotBootable k s && verifiedOk s) then complete t 1 0x07 s
    else if (actBlank k s).isNone then complete t 1 0x07 (commitStart k 2 s)
    else activate t k s

/-- FIRMWARE_ACTIVATE (R341). -/
def execFirmwareActivate (t : Tag) (s : State) : Host.Outcome State Fault Refusal := ok (adminCmd t 0x10 fwActivate s)

/-- Whether the drain of an activation has ended: no presented command is left but the Firmware Commit and waiting event requests (R341). -/
def drained (t : Nat) (s : State) : Bool := (tasksOf s).all (fun x => x.2.st != 2 || x.1 == t || s.hif.aers.contains x.1)

/-- ACTIVATION_DRAIN_END: the cores reset into the new image, and the sequencers are to reload (R257, R341). -/
def execActivationDrainEnd (s : State) : Host.Outcome State Fault Refusal :=
  ok (match s.hif.act with
    | .drain t k =>
      if drained t s then
        let s := if s.nvs.commit.isSome then commitEnd 0 0 s else s
        let s := coresReset (List.range 8) s
        let s := each (List.range 64) (fun a u => if u.domOn a then u.flag (SEQ_STATE a) F_SEQ_STATE_RELOAD_PENDING else u) s
        modHif (fun h => { h with act := .fresh t k }) s
      else s
    | _ => s)

/-- ACTIVATION_TIMEOUT: the activation is abandoned (R342). -/
def execActivationTimeout (s : State) : Host.Outcome State Fault Refusal :=
  ok (match s.hif.act with
    | .drain t _ =>
      let s := modHif (fun h => { h with act := .none }) s
      let s := (s.setf HIF_ACT F_HIF_ACT_HOLD 0).setf HIF_ACT F_HIF_ACT_PP 0
      rdyShow (complete t 1 0x12 (emit 0x7007 s))
    | _ => s)

/-- ACTIVATION_HOLD_TIMEOUT: the slot is marked not bootable and the cores restart from the previous image (R343). -/
def execActivationHoldTimeout (s : State) : Host.Outcome State Fault Refusal :=
  ok (match s.hif.act with
    | .fresh t k => modHif (fun h => { h with act := .back t }) (coresReset (List.range 8) (bootShow (slotRevoke k s)))
    | _ => s)

/-! ### Security and Sanitize (R335, R336) -/

/-- SECURITY_SEND: protocol E8h carries one SPDM request; 00h is supported and takes nothing (R336, R490). -/
def secSend (d : List Byte) (t : Nat) (x : HTask) (s : State) : State :=
  match x.dw 10 / 2 ^ 24 with
  | 0xE8 => done t (spdmArrive d s)
  | 0x00 => done t s
  | _ => badField t s

/-- SECURITY_SEND (R490). -/
def execSecuritySend (t : Tag) (data : List Byte) (s : State) : Host.Outcome State Fault Refusal := ok (adminCmd t 0x81 (secSend data) s)

/-- SECURITY_RECEIVE: the pending response, or zero bytes; protocol 00h lists 00h and E8h (R336, R490). -/
def secReceive (t : Nat) (x : HTask) (s : State) : State :=
  match x.dw 10 / 2 ^ 24 with
  | 0xE8 =>
    let r := spdmTake s
    done t (giveData (dataAt 0 r.1) r.2)
  | 0x00 => done t (giveData (dataNum 0 6 0 ++ dataNum 6 2 0x0200 ++ dataNum 8 1 0x00 ++ dataNum 9 1 0xE8) s)
  | _ => badField t s

/-- SECURITY_RECEIVE (R490). -/
def execSecurityReceive (t : Tag) (s : State) : Host.Outcome State Fault Refusal := ok (adminCmd t 0x82 secReceive s)

/-- SANITIZE: Overwrite only; the cache is discarded and the spindles are started (R335). -/
def sanitizeRun (t : Nat) (x : HTask) (s : State) : State :=
  let n := x.dw 10 / 16 % 16
  if x.dw 10 % 8 ≠ 3 then badField t s
  else
    let s := nsDiscard (fun _ => true) s
    let s := each (List.range 16) (fun h u => if atSpeed h u then u else spnStart h u) s
    let j : SanJob := { passes := if n = 0 then 16 else n, pattern := BitVec.ofNat 32 (x.dw 11), invert := (x.dw 10).testBit 8, fresh := true }
    let s := modHif (fun h => { h with sanit := some (sanNext s j), sanDone := false }) s
    done t (emit 0x700B s)

/-- SANITIZE (R335). -/
def execSanitize (t : Tag) (s : State) : Host.Outcome State Fault Refusal := ok (adminCmd t 0x84 sanitizeRun s)

/-- SANITIZE_END: the last sector of the last pass has been overwritten; no range is lost any more (R335, R353). -/
def execSanitizeEnd (s : State) : Host.Outcome State Fault Refusal :=
  ok (match s.hif.sanit with
    | none => s
    | some j =>
      if j.pass < j.passes then s
      else emit 0x700C (parPut sanRecord [] (modHif (fun h => { h with sanit := none, sanDone := true, lost := [] }) s)))

end Sys2Proof.Machine
end

