-- ==== Sys2Proof/Machine/Bus.lean ====
section
/-! DEFINITION. Accesses by address (R5–R7, R26, R27, R30–R32, R37): what a write of a register does, block by block, and the accesses that
have no effect. A register that has a row of its own acts here as that row does. -/

namespace Sys2Proof.Machine

/-! ### Fields (R5, R6, and the range rules R83, R129, R201, R224, R259, R301, R356, R389, R421, R496) -/

/-- Whether a master may write a field: RW, W1C and W1P fields, a PS field while the Potting Shed is open with scope REGS, a GH field for the
Gatehouse alone (R6, R492). -/
def mayField (m : Master) (s : State) (f : FieldSpec) : Bool :=
  match f.acc with
  | .rw => mayCmd m
  | .w1c => mayCmd m
  | .w1p => mayCmd m
  | .ps => mayCmd m && shedOpen 0 s
  | .gh => m.toNat == 10
  | _ => false

/-- One field of a write, and whether a value outside its stated range was refused. -/
def fieldPut (v : W32) (x : W32 × Bool) (f : FieldSpec) : W32 × Bool :=
  let n := fget v f.fld
  match f.acc with
  | .w1c => (x.1 &&& ~~~ (v &&& fmask f.fld), x.2)
  | .w1p => x
  | _ => if f.min ≤ n ∧ n ≤ f.max then (fset x.1 f.fld n, x.2) else (x.1, true)

/-- A register's word with the fields that a master may write. -/
def wordPut (m : Master) (r : RegSpec) (w v : W32) (s : State) : W32 × Bool := (r.fields.filter (mayField m s)).foldl (fieldPut v) (w, false)

/-- A plain write: the fields that the master may write are updated; a write that updates none, or whose value a field refuses, is counted. -/
def plain (m : Master) (r : RegSpec) (reg : Reg) (v : W32) (s : State) : State :=
  if r.fields.any (mayField m s) then
    let p := wordPut m r (s.rd reg) v s
    if p.2 then deny (s.wr reg p.1) else s.wr reg p.1
  else deny s

/-- The state that a row's meaning gives. -/
def viaRow (o : Host.Outcome State Fault Refusal) (s : State) : State :=
  match o with
  | .next t => t
  | _ => s

/-! ### Spindles and servo -/

/-- A write in the spindle block; LIMIT_MA and TRIP_MA are judged together (R83). -/
def wrSpn (m : Master) (r : RegSpec) (k : Nat) (v : W32) (s : State) : State :=
  let h := k % 0x10000 / 0x1000
  match r.base with
  | 0x41000000 => spnCmd h v s
  | 0x41000008 => spnTarget h v s
  | 0x41000808 => each (bitsOf 16 v.toNat) spnStart s
  | 0x41000020 =>
    let t := plain m r (keyReg k r) v s
    if t.fld (SPN_ILIMIT h) F_SPN_ILIMIT_LIMIT_MA < t.fld (SPN_ILIMIT h) F_SPN_ILIMIT_TRIP_MA then t else deny s
  | _ => plain m r (keyReg k r) v s

/-- A write in the servo block (R102, R105, R112, R129). -/
def wrSrv (m : Master) (r : RegSpec) (k : Nat) (v : W32) (s : State) : State :=
  let h := (k - 0x41100000) / 0x10000
  let o := k % 0x10000
  match r.base with
  | 0x41100000 => if hdaLoaded h s then deny s else plain m r (keyReg k r) v s
  | 0x41100020 => coefCtl h v s
  | 0x41101000 => coefWrite h ((o - 0x1000) / 0x100) (o % 0x100 / 4) v s
  | 0x41100100 => actCmd (4 * h + (o - 0x100) / 0x40) v s
  | _ => plain m r (keyReg k r) v s

/-! ### Actuator blocks -/

/-- Whether the START_CYL of the valid zones rise strictly with the zone number (RCH_ZONE0). -/
def zonesRise (a : Nat) (s : State) : Bool :=
  let l := ((List.range 32).filter (fun z => zoneValid a z s)).map (fun z => zoneStart a z s)
  (l.zip (l.drop 1)).all (fun p => decide (p.1 < p.2))

/-- A write of a word 0 of RCH_ZONE: zone 0 keeps its values; one that would break the order is refused (R201). -/
def zoneWrite (m : Master) (r : RegSpec) (a k : Nat) (v : W32) (s : State) : State :=
  if k % 0x40000 = 0x2100 then s
  else
    let t := plain m r (keyReg k r) v s
    if zonesRise a t then t else deny s

/-- A refused write of the write channel's configuration (R224). -/
def wchRefuse (a : Nat) (s : State) : State := emit 0x2006 (deny (s.flag (WCH_FLAGS a) F_WCH_FLAGS_WRITE_REFUSED))

/-- A write of WCH_TIMING, WCH_ZONE_PCT, WCH_PC_CTL or WCH_PCT (R224). -/
def wchWrite (m : Master) (r : RegSpec) (a k : Nat) (v : W32) (s : State) : State :=
  if writeGateOpen a s then wchRefuse a s
  else
    let p := wordPut m r (s.rd (keyReg k r)) v s
    let s := s.wr (keyReg k r) p.1
    if p.2 then wchRefuse a s else s

/-- A write of SEQ_LOAD_CTL (R256–R258). -/
def loadCtl (v : W32) (s : State) : State :=
  let s := if v.toNat.testBit 2 then loadCommit s else s
  if v.toNat.testBit 1 then loadVerify s else s

/-- A write in the LNK and RCH registers of an ACT instance (R149, R160, R175, R201). -/
def wrRch (m : Master) (r : RegSpec) (a k : Nat) (v : W32) (s : State) : State :=
  match r.base with
  | 0x40001000 => if v.toNat.testBit 0 then lnkTrain a s else s
  | 0x40001010 => feCmd a v s
  | 0x40002000 => if readGateOpen a s then deny s else plain m r (keyReg k r) v s
  | 0x40002004 => if readGateOpen a s then deny s else plain m r (keyReg k r) v s
  | 0x40002100 => if readGateOpen a s then deny s else zoneWrite m r a k v s
  | 0x40002104 => if readGateOpen a s then deny s else plain m r (keyReg k r) v s
  | 0x40002400 =>
    if readGateOn a (k % 0x200 / 0x80) s then deny (s.flag (RCH_FLAGS a) F_RCH_FLAGS_WRITE_REFUSED) else plain m r (keyReg k r) v s
  | 0x40006000 => if (List.range 64).any (fun b => readGateOpen b s) then deny s else plain m r (keyReg k r) v s
  | 0x40006004 => if (List.range 64).any (fun b => readGateOpen b s) then deny s else plain m r (keyReg k r) v s
  | _ => plain m r (keyReg k r) v s

/-- A write in the WCH and SEQ registers of an ACT instance (R224, R236, R242, R245, R251, R256). -/
def wrSeq (m : Master) (r : RegSpec) (a k : Nat) (v : W32) (s : State) : State :=
  let o := k % 0x40000
  match r.base with
  | 0x40008000 => wchWrite m r a k v s
  | 0x40008010 => wchWrite m r a k v s
  | 0x40008018 => wchWrite m r a k v s
  | 0x40008100 => wchWrite m r a k v s
  | 0x4000A000 => seqCtl a v s
  | 0x4000A020 => seqPostWrite a v s
  | 0x4000A024 => seqCancelWrite a v s
  | 0x4000A100 => fmtWrite a ((o - 0xA100) / 8) false v s
  | 0x4000A104 => fmtWrite a ((o - 0xA104) / 8) true v s
  | 0x4000B000 => descWrite a ((o - 0xB000) / 0x40) (o % 0x40 / 4) v s
  | 0x4000F000 => loadCtl v s
  | _ => plain m r (keyReg k r) v s

/-- A write in an ACT instance. -/
def wrAct (m : Master) (r : RegSpec) (k : Nat) (v : W32) (s : State) : State :=
  let a := (k - 0x40000000) / 0x40000
  if k % 0x40000 < 0x8000 then wrRch m r a k v s else wrSeq m r a k v s

/-! ### Buffer, host interface, Kiosk, Stile, DMA -/

/-- A write in the buffer block; LOW stays below HIGH (R268, R278, R279, R289, R301). -/
def wrBuf (m : Master) (r : RegSpec) (k : Nat) (v : W32) (s : State) : State :=
  match r.base with
  | 0x42000010 => classCtl v s
  | 0x42000020 => wayCtl v s
  | 0x42000030 =>
    let t := plain m r (keyReg k r) v s
    if fget v F_BUF_WB_CTL_LOW < t.fld BUF_WB_CTL F_BUF_WB_CTL_HIGH then t
    else (if t.rd PWR_DENIED_WRITES = s.rd PWR_DENIED_WRITES then deny t else t).setf BUF_WB_CTL F_BUF_WB_CTL_LOW (s.fld BUF_WB_CTL F_BUF_WB_CTL_LOW)
  | 0x42001000 => teCmd ((k - 0x42001000) / 0x40) v s
  | 0x42003010 => wbDone v s
  | 0x42004000 => maintCtl v s
  | _ => plain m r (keyReg k r) v s

/-- A write in the host interface; the banked registers reach the copy of the core that writes (R539), GO posts or
starts (R318, R320), and the address of a request is 4 KiB aligned (R356). -/
def wrHif (m : Master) (r : RegSpec) (k : Nat) (v : W32) (s : State) : State :=
  if bankedKey k then
    if !isCore m.toNat then deny s
    else match r.base with
      | 0x43000208 => if v.toNat.testBit 31 then cplGo m.toNat v s else plain m r (bankReg m.toNat k r) v s
      | 0x4300030C => if v.toNat.testBit 31 then xferGo m.toNat v s else plain m r (bankReg m.toNat k r) v s
      | 0x43000300 => if v.toNat % 4096 ≠ 0 then deny s else plain m r (bankReg m.toNat k r) v s
      | _ => plain m r (bankReg m.toNat k r) v s
  else if r.base = 0x43000020 then holdWrite (v.toNat.testBit 31) s
  else plain m r (keyReg k r) v s

/-- A write in the window of a channel end: only its owner's acts (R364, R365). -/
def wrKskWin (m : Master) (r : RegSpec) (k : Nat) (v : W32) (s : State) : State :=
  let c := (k - 0x44000000) / 0x800
  let e := (k - 0x44000000) % 0x800 / 0x400
  if !ownsEnd m.toNat c e then deny s
  else if k % 0x400 = 0 then kPost c e v s
  else plain 0 r (keyReg k r) v s

/-- A write in the Kiosk block. -/
def wrKsk (m : Master) (r : RegSpec) (k : Nat) (v : W32) (s : State) : State :=
  if k < 0x44016000 then wrKskWin m r k v s else plain m r (keyReg k r) v s

/-- A write in the Stile block (R379, R380). -/
def wrStl (m : Master) (r : RegSpec) (k : Nat) (v : W32) (s : State) : State :=
  match r.base with
  | 0x44100000 => if v.toNat.testBit 0 then viaRow (execLockRelease m (BitVec.ofNat 7 ((k - 0x44100000) / 4)) s) s else s
  | 0x44100800 =>
    if v.toNat.testBit 31 then viaRow (execLockBreak m (BitVec.ofNat 7 (v.toNat % 128)) s) s else plain m r (keyReg k r) v s
  | _ => plain m r (keyReg k r) v s

/-- A write of DMA_CTL: STOP, START, and the fields (R387, R389). On a BUSY channel STOP alone acts, and a START is refused and counted; on an idle channel STOP does nothing and the rest of the write is as without it. -/
def dmaWrite (m : Master) (n : Nat) (v : W32) (s : State) : State :=
  let go := v.toNat.testBit 31
  if dmaBusy n s then
    let stop := v.toNat.testBit 30
    let t := if stop then viaRow (execDmaStop m (BitVec.ofNat 6 n) s) s else s
    if !stop || go then deny t else t
  else if go then viaRow (execDmaStart m (BitVec.ofNat 6 n) v s) s
  else dmaCtlWrite n v s

/-- A write in the DMA block; COUNT is 8 to FFFF_FFF8h, a multiple of 8, and bits 2 to 0 of an address are 0 (R382, R389). -/
def wrDma (m : Master) (r : RegSpec) (k : Nat) (v : W32) (s : State) : State :=
  let n := (k - 0x44200000) / 0x40
  if 0x44201000 ≤ k then plain m r (keyReg k r) v s
  else if r.base = 0x44200000 then dmaWrite m n v s
  else if dmaBusy n s then deny s
  else if r.base = 0x44200018 ∧ (v.toNat = 0 ∨ v.toNat % 8 ≠ 0) then deny s
  else if (r.base = 0x44200008 ∨ r.base = 0x44200010) ∧ v.toNat % 8 ≠ 0 then deny s
  else plain m r (keyReg k r) v s

/-! ### Store, security, platform -/

/-- A write in the NV store block: the registers of a busy engine are refused (R408, R421). -/
def wrNvs (m : Master) (r : RegSpec) (k : Nat) (v : W32) (s : State) : State :=
  match r.base with
  | 0x45000010 => nvCmd m v s
  | 0x45000100 => recCtl v s
  | 0x45000300 => commitCtl v s
  | 0x45000304 => if s.nvs.commit.isSome ∨ v.toNat % 4096 ≠ 0 then deny s else plain m r (keyReg k r) v s
  | 0x4500030C => if s.nvs.commit.isSome ∨ v.toNat % 2 ^ 24 % 32 ≠ 0 ∨ v.toNat % 2 ^ 24 < 4096 ∨ 12324864 < v.toNat % 2 ^ 24 then deny s
    else plain m r (keyReg k r) v s
  | _ =>
    let busy := (decide (0x45000020 ≤ k ∧ k < 0x45000040) && nvRunning s) || (decide (0x45000104 ≤ k ∧ k < 0x45000300) && s.nvs.recw.isSome) ||
      (decide (0x45000304 ≤ k ∧ k < 0x45000320) && s.nvs.commit.isSome)
    if busy then deny s else plain m r (keyReg k r) v s

/-- A write in the Sundial and the Icehouse (R460, R461, R474, R475). -/
def wrTime (m : Master) (r : RegSpec) (k : Nat) (v : W32) (s : State) : State :=
  let c := BitVec.ofNat 3 ((k - 0x47000200) / 0x10)
  match r.base with
  | 0x47000100 => epochApply v s
  | 0x47000104 => viaRow (execEpochHiWrite m v s) s
  | 0x47000200 => viaRow (execCompareWrite m c true v s) s
  | 0x47000204 => viaRow (execCompareWrite m c false v s) s
  | 0x47000208 => timerShow c.toNat (plain m r (keyReg k r) v s)
  | 0x47100020 => if v.toNat.testBit 0 then iceClearGo s else s
  | 0x47108000 => viaRow (execFoldAdd m (BitVec.ofNat 5 ((k - 0x47108000) / 0x10)) v s) s
  | _ => plain m r (keyReg k r) v s

/-- A write in the security block (R483, R484, R488, R495). -/
def wrSec (m : Master) (r : RegSpec) (k : Nat) (v : W32) (s : State) : State :=
  match r.base with
  | 0x48000044 => if v.toNat.testBit 0 then shedCloseAll s else s
  | 0x48000100 => if v.toNat % 4096 ≠ 0 then deny s else plain m r (keyReg k r) v s
  | 0x48000108 => if v.toNat.testBit 31 then secVerify s else s
  | 0x48000240 => secExtendCtl m.toNat v s
  | 0x48000360 => if v.toNat.testBit 31 then secEnroll s else s
  | _ => plain m r (keyReg k r) v s

/-- A write in the PWR, CLK and CAL blocks; a write of 0 to FW_READY is ignored (R497, R501, R504, R507, R511, R515). -/
def wrPwr (m : Master) (r : RegSpec) (k : Nat) (v : W32) (s : State) : State :=
  match r.base with
  | 0x49000014 => if v.toNat.testBit 31 then viaRow (execFwReady m s) s else s
  | 0x49000018 => chipRstWrite v s
  | 0x49000020 => domReqWrite m.toNat v s
  | 0x49000040 => actRstWrite v s
  | 0x49000050 => coreRstWrite v s
  | 0x49010000 => viaRow (execFabricFreqChange m (BitVec.ofNat 2 v.toNat) s) s
  | 0x49020010 => calRunWrite v s
  | _ => plain m r (keyReg k r) v s

/-! ### A write by address -/

/-- A write of a register by a master that may write it, in a domain that is on. -/
def wrBlock (m : Master) (r : RegSpec) (k : Nat) (v : W32) (s : State) : State :=
  if k < 0x41000000 then wrAct m r k v s
  else if k < 0x41100000 then wrSpn m r k v s
  else if k < 0x42000000 then wrSrv m r k v s
  else if k < 0x43000000 then wrBuf m r k v s
  else if k < 0x44000000 then wrHif m r k v s
  else if k < 0x44100000 then wrKsk m r k v s
  else if k < 0x44200000 then wrStl m r k v s
  else if k < 0x45000000 then wrDma m r k v s
  else if k < 0x46000000 then wrNvs m r k v s
  else if k < 0x47000000 then plain m r (keyReg k r) v s
  else if k < 0x48000000 then wrTime m r k v s
  else if k < 0x49000000 then wrSec m r k v s
  else wrPwr m r k v s

/-- Whether any field of a register can be written by the master at all. -/
def writable (m : Master) (r : RegSpec) (s : State) : Bool := r.fields.any (mayField m s)

/-- Whether an address lies in the microcode store of an ACT instance, which is read only (R29). -/
def inStore (k : Nat) : Bool := decide (0x40000000 ≤ k ∧ k < 0x41000000 ∧ 0x10000 ≤ k % 0x40000 ∧ k % 0x40000 < 0x18000)

/-- A write of a register address: a read-only register counts (R6), an unassigned offset does nothing (R7), a domain that is off counts as a bad
access (R37). -/
def regWrite (m : Master) (k : Nat) (v : W32) (s : State) : State :=
  if gatedOff k s then badAccess s
  else match specOf k with
    | none => if (ctrOf k).isSome || inStore k then deny s else s
    | some r =>
      if decide (0x44000000 ≤ k) && decide (k < 0x44016000) then wrKskWin m r k v s
      else if writable m r s then wrBlock m r k v s else deny s

/-- A store of a word in memory: shared SRAM, and DRAM; a way that is OFF counts a bad access (R262), the NV store window refuses and counts
(R393). -/
def memWrite (a : Nat) (v : W32) (s : State) : State :=
  if inNvWin a then deny s
  else if inSram a || dramOn a s then s.wrMem a (leBytes v.toNat 4)
  else if inDram a then badAccess s
  else s

/-- A write of a 32-bit word at an internal address. -/
def busWrite (m : Master) (a : Nat) (v : W32) (s : State) : State :=
  if inRegs a then (if a % 4 = 0 then regWrite m a v s else s)
  else if mayCmd m then memWrite a v s else s

/-! ### Writes by the host (R30–R32, R305, R310–R315, R351) -/

/-- A write of an NVMe register of BAR0. The queue attributes are held for the next enable; the others of the standard that hold nothing for this
controller, and read-only ones, do nothing. -/
def nvRegWrite (off : Nat) (v : W32) (s : State) : State :=
  match off with
  | 0x14 =>
    let s := if v.toNat.testBit 0 then (if s.hif.en then modHif (fun h => { h with regs := tput 0 h.regs 0x14 v }) s else ccEnable v s)
      else modHif (fun h => { h with regs := tput 0 h.regs 0x14 v }) (controllerReset s)
    if v.toNat / 2 ^ 14 % 4 = 0 ∨ s.hif.en = false then s else hostShutdown s
  | 0x24 => modHif (fun h => { h with regs := tput 0 h.regs off (v &&& 0x0FFF0FFF) }) s
  | 0x28 => modHif (fun h => { h with regs := tput 0 h.regs off (v &&& 0xFFFFF000) }) s
  | 0x2C => modHif (fun h => { h with regs := tput 0 h.regs off v }) s
  | 0x30 => modHif (fun h => { h with regs := tput 0 h.regs off (v &&& 0xFFFFF000) }) s
  | 0x34 => modHif (fun h => { h with regs := tput 0 h.regs off v }) s
  | _ => s

/-- A write in BAR0: registers, doorbells, or a reserved offset (R31, R315). -/
def bar0Write (off : Nat) (v : W32) (s : State) : State :=
  if off < 0x1000 then nvRegWrite off v s
  else if 0x1408 ≤ off then deny s
  else
    let i := (off - 0x1000) / 4
    let q := BitVec.ofNat 16 (i / 2)
    if i % 2 = 0 then viaRow (execSqTailDoorbell q v s) s else viaRow (execCqHeadDoorbell q v s) s

/-- A write in BAR2: the Kiosk windows of the host ends; any other offset is refused and counted (R31, R390). -/
def bar2Write (off : Nat) (v : W32) (s : State) : State :=
  if off < 0x2000 then
    let k := 0x44000000 + 0x800 * (off / 0x400) + 0x400 + off % 0x400
    match specOf k with
    | some r => wrKskWin 9 r k v s
    | none => s
  else deny s

/-- A vector that is unmasked while its message waits is signalled (PCIe, MSI-X). -/
def msixUnmask (n : Nat) (s : State) : State :=
  if tget false s.hif.msixPba n && !msixMasked n s then msixSignal n (modHif (fun h => { h with msixPba := tput false h.msixPba n false }) s) else s

/-- A write in BAR4: the MSI-X table; the pending bits are read only (PCIe); a reserved offset is refused (R31, R305). -/
def bar4Write (off : Nat) (v : W32) (s : State) : State :=
  if off < 0x8000 then
    let i := off / 4
    msixUnmask (i / 4) (modHif (fun h => { h with msixTab := tput (if i % 4 = 3 then 1 else 0) h.msixTab i v }) s)
  else if off < 0x8100 then s
  else deny s

/-- A write of a 32-bit word by the host, whose address is an offset plus 2^32 times 0 for BAR0/1, 1 for BAR2/3, 2 for BAR4/5; discarded until the
BARs answer (R510). -/
def hostWrite (a : Nat) (v : W32) (s : State) : State :=
  let off := a % 2 ^ 32
  if !barOk s || off % 4 != 0 then s
  else match a / 2 ^ 32 with
    | 0 => if off < 0x4000 then bar0Write off v s else s
    | 1 => if off < 0x400000 then bar2Write off v s else s
    | 2 => if off < 0x10000 then bar4Write off v s else s
    | _ => s

/-- REGISTER_WRITE: a 32-bit write by a master (R6, R7, R31, R37). An address in no region has a row of its own. -/
def execRegisterWrite (m : Master) (addr : Addr) (v : W32) (s : State) : Host.Outcome State Fault Refusal :=
  ok (if m.toNat = 9 then hostWrite addr.toNat v s else busWrite m addr.toNat v s)

/-! ### Accesses without effect -/

/-- UNMAPPED_ACCESS: a bus error to the master (R26). -/
def execUnmappedAccess (m : Master) (addr : Addr) (s : State) : Host.Outcome State Fault Refusal :=
  ok (if m.toNat ≠ 9 ∧ mapped addr.toNat = false then { s with busErr := true, rdata := 0 } else { s with busErr := false })

/-- Whether an access of a register has a width and an alignment that R27 allows. -/
def widthOk (a n : Nat) : Bool := (n == 4 && a % 4 == 0) || (n == 8 && a % 8 == 0)

/-- BAD_WIDTH_ACCESS (R27). -/
def execBadWidthAccess (m : Master) (addr : Addr) (bytes : Nat) (s : State) : Host.Outcome State Fault Refusal :=
  ok (if m.toNat ≠ 9 ∧ inRegs addr.toNat = true ∧ widthOk addr.toNat bytes = false then { badAccess s with rdata := 0, busErr := false } else s)

/-- POWERED_OFF_ACCESS (R37). -/
def execPoweredOffAccess (m : Master) (addr : Addr) (s : State) : Host.Outcome State Fault Refusal :=
  ok (if m.toNat ≠ 9 ∧ gatedOff addr.toNat s = true then { badAccess s with rdata := 0, busErr := false } else s)

/-- What a host access without effect is: 0 none of these, 1 discarded, 2 counted as well when it is a write (R31, R32). -/
def hostVoid (bar off bytes : Nat) : Nat :=
  match bar with
  | 0 => if 0x1408 ≤ off ∧ off < 0x4000 then 2 else 0
  | 1 => if 0x400000 ≤ off then 0 else if bytes ≠ 4 ∨ off % 4 ≠ 0 then 1 else if 0x2000 ≤ off then 2 else 0
  | 2 => if 0x8100 ≤ off ∧ off < 0x10000 then 2 else 0
  | _ => 0

/-- Whether an offset of BAR2 lies in a window that can be read: the status mirror or the Icehouse window. -/
def readWindow (bar off : Nat) : Bool := bar == 1 && decide ((0x10000 ≤ off ∧ off < 0x20000) ∨ 0x200000 ≤ off)

/-- HOST_RESERVED_ACCESS: a reserved offset, a write to a read-only window of BAR2, or an access to BAR2 of another size (R31, R32). -/
def execHostReservedAccess (bar : Slot) (off : W32) (bytes : Nat) (write : Bool) (s : State) : Host.Outcome State Fault Refusal :=
  let c := hostVoid bar.toNat off.toNat bytes
  ok (if c = 0 ∨ (write = false ∧ c = 2 ∧ readWindow bar.toNat off.toNat = true) then s
    else if !write then { s with rdata := 0 }
    else if c = 2 ∧ barOk s = true then deny s
    else s)

end Sys2Proof.Machine
end

