-- ==== Sys2Proof/Machine/Dram.lean ====
section
/-! DEFINITION. The command slots of a DRAM channel (spec/01_architecture.md, R25; spec/08_buffer_cache.md, R291–R293). -/

namespace Sys2Proof.Machine

/-- The requesters of a slot in the order of R292: urgent host transfers, media side, high-class host transfers, medium-class ones, cores, low-class
ones, DMA engine, scrubber and housekeeping; and their weights. -/
def rqUrgent : Nat := 0
def rqMedia : Nat := 1
def rqScrub : Nat := 7
def slotWeight (r : Nat) : Nat := [16, 8, 8, 4, 4, 2, 2, 1].getD r 1

/-- The weighted round robin (R292): the group whose turn it is has the slot while it has something to send and slots left; otherwise the turn
passes on. -/
def slotTurn (req : Byte) : Nat → Nat → Nat → Option (Nat × Nat × Nat)
  | 0, _, _ => none
  | f + 1, t, l =>
    if 0 < l ∧ req.toNat.testBit t = true then some (t, t, l - 1) else slotTurn req f ((t + 1) % 8) (slotWeight ((t + 1) % 8))

/-- The counter of BUF_BW that a slot is counted in, and the channel's state with the slot given (R25, R292, R293): every fourth slot of a window
belongs to the media slice and every eighth to the urgent slice; one that its class does not use passes first to urgent host transfers, then to
all others. A corrected word is written back in the first slot outside the media slice, before any other requester, and the scrubber is served
once in 64 windows. -/
def slotGive (req : Byte) (d : DramCh) : Nat × DramCh :=
  let media := d.pos % 4 == 0
  let urgent := d.pos % 8 == 1
  if media && req.toNat.testBit rqMedia then (0, d)
  else if !media && decide (0 < d.fix) then (9, { d with fix := d.fix - 1 })
  else if (media || urgent) && req.toNat.testBit rqUrgent then (if urgent then 1 else 2, d)
  else if decide (63 ≤ d.scrub) && req.toNat.testBit rqScrub then (9, { d with scrub := 0 })
  else match slotTurn req 10 d.turn d.left with
    | some (r, t, l) => (2 + r, { d with turn := t, left := l, scrub := if r = rqScrub then 0 else d.scrub })
    | none => (11, d)

/-- A slot of the window has passed. -/
def slotNext (d : DramCh) : DramCh :=
  if d.pos = 1023 then { d with pos := 0, scrub := d.scrub + 1 } else { d with pos := d.pos + 1 }

/-- The actuators whose output queue's oldest sector goes to a channel (R197). -/
def outOn (c : Nat) (s : State) : List Nat :=
  (List.range 64).filter (fun a => match outq a s with
    | x :: _ => (match flyGet a x.id s with
      | some e => e.mode == 0 && dramChan e.addr == c
      | none => false)
    | [] => false)

/-- A media slot carries one granule of the oldest sector of an output queue; with its last granule the sector is in DRAM (R197). -/
def outCarry (a : Nat) (s : State) : State :=
  match outq a s with
  | [] => s
  | x :: r => if x.left ≤ 1 then outDrain a s else modOutq a (fun _ => { x with left := x.left - 1 } :: r) s

/-- DRAM_SLOT: a command slot of a channel, with the requesters that have something to send. A slot taken by a turnaround or a row change is counted in
the class whose access caused it, one taken by refresh is charged as the slot of the class that would have been served and counted as REFRESH;
neither carries a write-back of a corrected word or a read of the scrubber (R25, R291–R293). -/
def execDramSlot (c : BitVec 3) (req : Byte) (refresh gap : Bool) (s : State) : Host.Outcome State Fault Refusal :=
  let k := c.toNat
  let wait := outOn k s
  let req := if wait.isEmpty then req else req ||| 2
  let d := tget {} s.dram k
  let r := slotGive req d
  let d := if refresh || gap then { r.2 with fix := d.fix, scrub := d.scrub } else r.2
  let s := { s with dram := tput {} s.dram k (slotNext d) }
  let s := s.ctrWrap (BUF_BW k (if refresh ∧ r.1 ≠ 11 then 10 else r.1)) 64 1
  ok (if refresh || gap || !(r.1 == 0 || r.1 == 3) then s else match wait with
    | a :: _ => outCarry a s
    | [] => s)

end Sys2Proof.Machine
end

