-- ==== Sys2Proof/Machine/HostIo.lean ====
section
/-! DEFINITION. I/O commands (spec/09_host_interface.md, R309, R329–R334, R349, R350, R353–R355). Each row is resident firmware's service of a
presented command: the checks, and the completion. The lookups, transfers and track operations that move its data are rows of their own; `res`
says how they went. A row whose command must still wait changes nothing. -/

namespace Sys2Proof.Machine

/-! ### Serving a command -/

/-- A presented I/O command whose opcode satisfies a test is served; during a Sanitize each one completes with Sanitize In Progress (R335); fused operations
and SGLs are not supported (R309). -/
def ioCmd (t : Tag) (p : HTask → Bool) (f : Nat → HTask → State → State) (s : State) : State :=
  match task t.toNat s with
  | none => s
  | some x =>
    if x.st ≠ 2 ∨ x.admin = true ∨ p x = false then s
    else if s.hif.sanit.isSome then complete t.toNat 0 0x1D s
    else if x.odd then badField t.toNat s
    else f t.toNat x s

/-- An I/O opcode. -/
def isOp (op : Nat) (x : HTask) : Bool := x.op == op

/-- The command acts on an attached namespace; any other identifier completes with Invalid Namespace or Format. -/
def onNs (f : NsSt → Nat → HTask → State → State) (t : Nat) (x : HTask) (s : State) : State :=
  match nsAt x.nsid s with
  | none => complete t 0 0x0B s
  | some n => if n.attached then f n t x s else complete t 0 0x0B s

/-- Whether a range lies on an actuator that is isolated; while LATCHED every media command counts as such (R349, R428). -/
def rangeIsolated (n : NsSt) (lba nlb : Nat) (s : State) : Bool :=
  graveLatched s || (n.touched lba nlb).any (fun a => isolated a s || actState a s == 7)

/-- Whether a range returns Namespace Not Ready: an HDA of it is not in AT_SPEED, or the namespace has not been ready since start-up (R349, R511). -/
def rangeUnready (n : NsSt) (lba nlb : Nat) (s : State) : Bool :=
  !n.up || (n.touched lba nlb).any (fun a => !atSpeed (hdaOf a) s)

/-- Whether new media work for a range is held by a spin-down (R377). -/
def rangeHeld (n : NsSt) (lba nlb : Nat) (s : State) : Bool := (n.touched lba nlb).any (fun a => hdaHeld (hdaOf a) s)

/-- The key of a line of a namespace, and the part of the line that a range takes in (R264). -/
def lineKey (ns line : Nat) : Nat := (ns - 1) * 2 ^ 34 + line
def partFirst (lba line : Nat) : Nat := lba - 128 * line
def partLast (lba nlb line : Nat) : Nat := min 127 (lba + nlb - 1 - 128 * line)

/-- The lines of a range. -/
def linesOf (lba nlb : Nat) : List Nat := (List.range ((lba + nlb - 1) / 128 + 1 - lba / 128)).map (fun i => lba / 128 + i)

/-- Whether the whole range hits the buffer cache (R349): each line is found, not in FILLING, and holds its part. -/
def rangeHits (ns lba nlb : Nat) (s : State) : Bool :=
  (linesOf lba nlb).all (fun l => match lookFind (lineKey ns l) false s with
    | some e => (tag e s).st != 1 && (tag e s).covers false (partFirst lba l) (partLast lba nlb l)
    | none => false)

/-- Whether a DIRTY or WRITEBACK line holds a sector of a range (R331). -/
def rangeDirty (ns lba nlb : Nat) (s : State) : Bool :=
  s.buf.tags.any (fun e => (e.2.st == 3 || e.2.st == 4) && e.2.key / 2 ^ 34 + 1 == ns && decide (e.2.first ≤ e.2.last) &&
    overlap lba nlb (e.2.key % 2 ^ 34 * 128 + e.2.first) (e.2.last + 1 - e.2.first))

/-- Whether a range holds lost data (R353). -/
def rangeLost (ns lba nlb : Nat) (s : State) : Bool := s.hif.lost.any (fun l => l.1 == ns && overlap lba nlb l.2.1 l.2.2)

/-- The FUA bit of a command, and whether a write waits for the media (R24, R331). -/
def HTask.fua (x : HTask) : Bool := (x.dw 12).testBit 30
def toMedia (x : HTask) (s : State) : Bool := x.fua || !wrEn s

/-- Whether all data of a command has been transferred or skipped (R20). -/
def HTask.allMoved (x : HTask) : Bool := (List.range x.nlb).all x.movedBlock

/-- Whether every sector of a command has been written to the media, and none is dirty again (R24, R331). -/
def allWritten (x : HTask) (s : State) : Bool :=
  (List.range x.nlb).all (fun k => tget 3 x.media k == 2) && !rangeDirty x.nsid x.lba x.nlb s

/-- The range of a command is judged: beyond the namespace, and, for a command that transfers data, MDTS of 512 blocks (R310). -/
def ranged (data : Bool) (f : NsSt → Nat → HTask → State → State) (n : NsSt) (t : Nat) (x : HTask) (s : State) : State :=
  if n.nsze < x.lba + x.nlb then complete t 0 0x80 s
  else if data && decide (512 < x.nlb) then badField t s
  else f n t x s

/-- Completes with the status of runs of blocks whose media cannot be used, if one is such; else goes on, unless the work is held (R349, R377). -/
def reachable (l : List (Nat × Nat)) (f : Nat → HTask → State → State) (n : NsSt) (t : Nat) (x : HTask) (s : State) : State :=
  if l.any (fun r => rangeIsolated n r.1 r.2 s) then complete t 7 0x80 s
  else if l.any (fun r => rangeUnready n r.1 r.2 s) then complete t 0 0x82 s
  else if l.any (fun r => rangeHeld n r.1 r.2 s) then s
  else f t x s

/-! ### Flush (R329, R330) -/

/-- Whether a CLEAN_ALL in progress still waits only for lines that cannot be written. -/
def cleanStuck (s : State) : Bool :=
  s.buf.mOp == 6 && (s.buf.mWait.filter (fun m => maintOpen m s)).all (fun m => lineStuck m.2.1 s)

/-- A Flush: done at once with the cache disabled or when a CLEAN_ALL that began after its fetch has ended; it starts one when the engine is free. While the
one in progress waits only for lines that cannot be written, every waiting Flush completes with the status for that (R329, R330). -/
def flushRun (t : Nat) (x : HTask) (s : State) : State :=
  if !wrEn s then done t s
  else if x.cleans < s.buf.cleaned then done t s
  else if cleanStuck s && s.buf.mWait.any (fun m => maintOpen m s) then complete t 7 0x81 s
  else if x.cleans < s.buf.cleans ∨ s.fld BUF_MAINT_STATUS F_BUF_MAINT_STATUS_BUSY = 1 then s
  else maintCtl (fset 0x80000000 F_BUF_MAINT_CTL_OP 6) s

/-- FLUSH (R329). -/
def execFlush (t : Tag) (s : State) : Host.Outcome State Fault Refusal := ok (ioCmd t (isOp 0x00) flushRun s)

/-! ### Reads (R20, R331, R333, R350, R353, R355) -/

/-- An Error Information entry names the first skipped block (R355). -/
def errBlock (lba : Nat) (s : State) : State :=
  modHif (fun h => { h with errs := match h.errs with
    | (q, c, st, _, n) :: r => (q, c, st, lba, n) :: r
    | [] => [] }) s

/-- Whether a sector of a command was unrecoverable: an operand says so, or the outcome of a track operation (R20). -/
def HTask.unrec (x : HTask) (res : Nat) : Bool := res == 1 || (List.range x.nlb).any (fun k => tget 3 x.media k == 1)

/-- The end of a Read by how its data went: 1 a sector was unrecoverable, 2 the data was poisoned otherwise, 3 an error of the host's transfer; but for
the last it waits until every block has been transferred or skipped (R20, R306, R355). -/
def readEnd (res t : Nat) (x : HTask) (s : State) : State :=
  let first := x.lba + x.skip.getD 0
  if res = 3 then complete t 0 0x04 s
  else if !x.allMoved then s
  else if x.unrec res then errBlock first (complete t 2 0x81 s)
  else if res = 2 ∨ x.skip.isSome = true then errBlock first (complete t 7 0x82 s)
  else done t s

/-- A read of a range: lost data, a hit of all that is not zeros, or the media (R331, R349, R350, R353). -/
def readLive (f : Nat → HTask → State → State) (n : NsSt) (t : Nat) (x : HTask) (s : State) : State :=
  let l := liveRuns n x.lba x.nlb
  if l.isEmpty then f t x s
  else if l.any (fun r => rangeLost x.nsid r.1 r.2 s) then complete t 7 0x85 s
  else if x.fua && l.any (fun r => rangeDirty x.nsid r.1 r.2 s) then s
  else if l.all (fun r => rangeHits x.nsid r.1 r.2 s) then f t x s
  else reachable l f n t x s

/-- A Read (R20, R350). -/
def readRun (res : Nat) (n : NsSt) (t : Nat) (x : HTask) (s : State) : State := readLive (readEnd res) n t x s

/-- READ (R20, R331, R349). -/
def execRead (t : Tag) (res : Slot) (s : State) : Host.Outcome State Fault Refusal :=
  ok (ioCmd t (isOp 0x02) (onNs (ranged true (readRun res.toNat))) s)

/-- The data of block `k` of a command: zeros above the write pointer, what the buffer cache holds, else what was read from the media to a buffer (R333,
R350). -/
def blockData (n : NsSt) (x : HTask) (med k : Nat) (s : State) : List Byte :=
  let lba := x.lba + k
  if x.blank n k then List.replicate 4096 0
  else match lookFind (lineKey x.nsid (lba / 128)) false s with
    | some e =>
      if (tag e s).st != 1 && (tag e s).covers false (lba % 128) (lba % 128) then s.rdMem (lineSector e (lba % 128)) 4096
      else s.rdMem (med + 4096 * k) 4096
    | none => s.rdMem (med + 4096 * k) 4096

/-- Whether the host's data, staged at `buf`, equals the range (R333). -/
def compareSame (n : NsSt) (x : HTask) (buf med : Nat) (s : State) : Bool :=
  (List.range x.nlb).all (fun k => s.rdMem (buf + 4096 * k) 4096 == blockData n x med k s)

/-- The end of a Compare: 1 a sector was unrecoverable, 3 an error of the host's transfer; else the bytes decide, once the host's data has been
transferred (R333). -/
def compareEnd (n : NsSt) (buf med res t : Nat) (x : HTask) (s : State) : State :=
  if res = 3 then complete t 0 0x04 s
  else if x.unrec res then complete t 2 0x81 s
  else if !x.allMoved then s
  else if compareSame n x buf med s then done t s
  else complete t 2 0x85 s

/-- A Compare reads as a Read does (R333). -/
def compareRun (buf med res : Nat) (n : NsSt) (t : Nat) (x : HTask) (s : State) : State := readLive (compareEnd n buf med res) n t x s

/-- COMPARE: `buf` is where the host's data is staged in DRAM, `med` where what is not cached was read from the media (R333). -/
def execCompare (t : Tag) (buf med : Addr) (res : Slot) (s : State) : Host.Outcome State Fault Refusal :=
  ok (ioCmd t (isOp 0x05) (onNs (ranged true (compareRun buf.toNat med.toNat res.toNat))) s)

/-- The blocks that a Verify reads with VERIFY track operations: those of the media that no DIRTY or WRITEBACK line holds (R333, R350). -/
def verifyBlocks (n : NsSt) (x : HTask) (s : State) : List Nat :=
  (List.range x.nlb).filter (fun k => !x.blank n k && !rangeDirty x.nsid (x.lba + k) 1 s)

/-- A track operation for a part of a line: actuator, cylinder, first head and heads of its stripe, first track sector, and logical sectors (R235, R348). -/
structure LineOp where
  act   : Nat
  cyl   : Nat
  head  : Nat
  width : Nat
  start : Nat
  count : Nat
  deriving DecidableEq, Repr

/-- A block at a place joins the operation that it follows, or begins one on slot 0 of its row (R348). -/
def lineOpAdd (n : NsSt) (p : MediaPlace) (s : State) (l : List LineOp) : List LineOp :=
  let h := p.2.2.1 / n.width * n.width
  let w := min n.width (headsOn p.1 s - h)
  match l with
  | o :: r =>
    if o.act = p.1 ∧ o.cyl = p.2.1 ∧ o.head = h then { o with count := (p.2.2.2 - o.start) * w + (p.2.2.1 - h) + 1 } :: r
    else { act := p.1, cyl := p.2.1, head := h, width := w, start := p.2.2.2, count := p.2.2.1 - h + 1 } :: l
  | [] => [{ act := p.1, cyl := p.2.1, head := h, width := w, start := p.2.2.2, count := p.2.2.1 - h + 1 }]

/-- The track operations that serve blocks of one line, in its order (R348). -/
def lineOps (n : NsSt) (lbas : List Nat) (s : State) : List LineOp :=
  ((lbas.filterMap (fun b => n.place b s)).foldl (fun l p => lineOpAdd n p s l) []).reverse

/-- The descriptor of a VERIFY operation (R235): class and task tag of its command, its stripe in the lowest slots, no data. The motion profile,
which the spec leaves to firmware, is 0 (DESIGN CHOICE, log 149). -/
def LineOp.words (o : LineOp) (cls tag : Nat) : List W32 :=
  [BitVec.ofNat 32 (3 + cls % 4 * 2 ^ 4 + tag % 2048 * 2 ^ 16), BitVec.ofNat 32 (o.cyl % 2 ^ 21),
   BitVec.ofNat 32 (((List.range o.width).map (fun i => (8 + (o.head + i) % 8) * 16 ^ i)).sum),
   BitVec.ofNat 32 (o.start % 65536 + o.count % 65536 * 65536), 0, 0x10, BitVec.ofNat 32 (o.count % 65536)]

/-- Whether an operation stands in its sequencer already. -/
def LineOp.there (o : LineOp) (cls tag : Nat) (s : State) : Bool :=
  (seq o.act s).ops.any (fun q => (List.range 4).map (fun w => s.rd (SEQ_DESC o.act q.slot w)) == (o.words cls tag).take 4)

/-- Resident firmware posts an operation in a free descriptor slot of a sequencer that takes one; without one it waits (R236). -/
def LineOp.post (o : LineOp) (cls tag : Nat) (s : State) : State :=
  let a := o.act
  if o.there cls tag s || !s.domOn a || seqState a s == 5 || s.fld (SEQ_STATE a) F_SEQ_STATE_RELOAD_PENDING == 1 then s
  else match (List.range 16).find? (fun d => !slotBusy a d s) with
    | none => s
    | some d => postSlot a d (each (o.words cls tag).zipIdx (fun w t => t.wr (SEQ_DESC a d w.2) w.1) s)

/-- Resident firmware posts the VERIFY operations of a command's blocks that have no outcome, line by line (R333, R348); during the drain of an activation it
posts none (R341). -/
def verifyPost (n : NsSt) (t : Nat) (x : HTask) (l : List Nat) (s : State) : State :=
  if s.hif.act ≠ .none then s
  else
    let todo := (l.filter (fun k => tget 3 x.media k == 3)).map (fun k => x.lba + k)
    let ops := (todo.map (fun b => b / 128)).eraseReps.flatMap (fun i => lineOps n (todo.filter (fun b => b / 128 == i)) s)
    each ops (fun o u => o.post x.cls t u) s

/-- The end of a Verify, once every sector that it reads has an outcome (R333). -/
def verifyEnd (n : NsSt) (t : Nat) (x : HTask) (s : State) : State :=
  let l := verifyBlocks n x s
  if l.any (fun k => tget 3 x.media k == 1) then complete t 2 0x81 s
  else if l.all (fun k => tget 3 x.media k == 0) then done t s
  else verifyPost n t x l s

/-- A Verify reads the media, but for sectors held in dirty lines (R333). -/
def verifyRun (n : NsSt) (t : Nat) (x : HTask) (s : State) : State :=
  let l := liveRuns n x.lba x.nlb
  if l.isEmpty then done t s
  else if l.any (fun r => rangeLost x.nsid r.1 r.2 s) then complete t 7 0x85 s
  else reachable l (verifyEnd n) n t x s

/-- VERIFY (R333). -/
def execVerify (t : Tag) (s : State) : Host.Outcome State Fault Refusal := ok (ioCmd t (isOp 0x0C) (onNs (ranged false verifyRun)) s)

/-! ### Writes (R24, R331, R332, R350, R354) -/

/-- The end of a write-kind command: once its data has come from the host, and with FUA or the cache disabled every sector of it has been written; 3 an
error of the host's transfer (R24, R306, R331). The first block of a Zone Append is reported in dwords 0 and 1. -/
def hostWriteEnd (res t : Nat) (x : HTask) (s : State) : State :=
  if res = 3 then complete t 0 0x04 s
  else if !x.allMoved then s
  else if toMedia x s && !allWritten x s then s
  else if x.op = 0x7D then postCpl t 0 (BitVec.ofNat 32 x.lba) (BitVec.ofNat 32 (x.lba / 2 ^ 32)) s
  else done t s

/-- A write of a range: its judgement, then what ends it (R349, R350, R354). -/
def writeJudged (f : Nat → HTask → State → State) (n : NsSt) (t : Nat) (x : HTask) (s : State) : State :=
  match x.bad with
  | some e => complete t e.1 e.2 s
  | none => if 4096 ≤ s.hif.lost.length then complete t 0 0x20 s else reachable [(x.lba, x.nlb)] f n t x s

/-- A write of a range (R349, R350, R354). -/
def writeRun (res : Nat) (n : NsSt) (t : Nat) (x : HTask) (s : State) : State := writeJudged (hostWriteEnd res) n t x s

/-- WRITE (R24, R331, R349, R350). -/
def execWrite (t : Tag) (res : Slot) (s : State) : Host.Outcome State Fault Refusal :=
  ok (ioCmd t (isOp 0x01) (onNs (ranged true (writeRun res.toNat))) s)

/-- The blocks of a command on a line, as first block and count. -/
def linePart (x : HTask) (l : Nat) : Nat × Nat :=
  (128 * l + partFirst x.lba l - x.lba, partLast x.lba x.nlb l + 1 - partFirst x.lba l)

/-- Zeros are written to sectors of a line, committed, and the line is released. -/
def zeroPut (e f n : Nat) (s : State) : State :=
  let s := each (List.range n) (fun i u => sectorWrite (lineSector e (f + i)) (List.replicate 4096 0) u) s
  bufShow (tagRelease e (tagCommit e f (f + n - 1) s))

/-- The staging buffer in rank 0 of a line of a command (R283); its address is the implementation's (log 149). -/
def stageAddr (t l : Nat) : Nat := 0x1000000000 + Config.stageLine t l % 2 ^ 17 * 2 ^ 19

/-- A lookup for zero-filled blocks of a line by its result (R269): written at once, entered as a waiter, or staged where the class is disabled. -/
def zeroLook (t : Nat) (x : HTask) (l : Nat) (s : State) : State :=
  let f := partFirst x.lba l
  let p := linePart x l
  let moved := modTask t (fun y => { y with moved := y.moved ++ [p] })
  let r := lookup { key := lineKey x.nsid l, first := f, last := f + p.2 - 1, core := 0, task := t, write := true, ra := false } s
  let s := bufStat (r.1 - 1) r.2.2
  match r.1, r.2.1 with
  | 1, some e => zeroPut e f p.2 (moved s)
  | 3, some e => zeroPut e f p.2 (moved s)
  | 7, _ => moved (s.wrGood (stageAddr t l + 4096 * f) (List.replicate (4096 * p.2) 0))
  | _, some e => bufShow (modTask t (fun y => { y with waits := some (l, e) }) s)
  | _, none => bufShow s

/-- A line for which a command waits: while the task is entered there it goes on waiting; once woken it finds the line pinned for it (R275) and its blocks
are written, or, where the fill was abandoned, the line is released (R277). -/
def zeroWait (t : Nat) (x : HTask) (l e : Nat) (s : State) : State :=
  let f := partFirst x.lba l
  let p := linePart x l
  let y := tag e s
  if y.st = 1 ∨ y.waiters.contains (0, t) ∨ y.drainW.contains (0, t) then s
  else
    let s := modTask t (fun z => { z with waits := none }) s
    if y.st = 0 ∨ y.key ≠ lineKey x.nsid l then s
    else if !y.covers true f (f + p.2 - 1) then bufShow (tagRelease e s)
    else zeroPut e f p.2 (modTask t (fun z => { z with moved := z.moved ++ [p] }) s)

/-- Zero-filled blocks enter a line of the buffer cache, as a Write's would (R269, R271, R275, R283, R332); a task waits on one line or set at a time. -/
def zeroLine (t : Nat) (l : Nat) (s : State) : State :=
  match task t s with
  | none => s
  | some x =>
    if x.movedBlock (linePart x l).1 || s.buf.setW.any (fun w => w.2 == (0, t)) then s
    else match x.waits with
      | some (m, e) => if m = l then zeroWait t x l e s else s
      | none => zeroLook t x l s

/-- A Write Zeroes: its blocks enter the cache, and it ends as a Write does (R332). -/
def zeroEnd (t : Nat) (x : HTask) (s : State) : State :=
  let s := each (linesOf x.lba x.nlb) (zeroLine t) s
  match task t s with
  | some y => hostWriteEnd 0 t y s
  | none => s

/-- WRITE_ZEROES: a Write of zero-filled blocks through the buffer cache (R332). -/
def execWriteZeroes (t : Tag) (s : State) : Host.Outcome State Fault Refusal :=
  ok (ioCmd t (isOp 0x08) (onNs (ranged false (writeJudged zeroEnd))) s)

/-- A command of the zoned command set on a namespace that is not zoned has an invalid opcode (R309). -/
def onZoned (f : NsSt → Nat → HTask → State → State) (n : NsSt) (t : Nat) (x : HTask) (s : State) : State :=
  if n.zoned then f n t x s else complete t 0 0x01 s

/-- A Zone Append names the first block of its zone (NVM Express). -/
def appendRun (res : Nat) (n : NsSt) (t : Nat) (x : HTask) (s : State) : State :=
  if (x.dw 10 + x.dw 11 * 2 ^ 32) % n.zsize ≠ 0 then badField t s else writeRun res n t x s

/-- The zone of an append lies in the namespace; MDTS holds (R310, R350). -/
def appendRange (res : Nat) (n : NsSt) (t : Nat) (x : HTask) (s : State) : State :=
  if n.nsze ≤ x.dw 10 + x.dw 11 * 2 ^ 32 then complete t 0 0x80 s
  else if 512 < x.nlb then badField t s
  else appendRun res n t x s

/-- ZONE_APPEND (R350). -/
def execZoneAppend (t : Tag) (res : Slot) (s : State) : Host.Outcome State Fault Refusal :=
  ok (ioCmd t (isOp 0x7D) (onNs (onZoned (appendRange res.toNat))) s)

/-- DATASET_MANAGEMENT: a hint that changes no block (R334). -/
def execDatasetManagement (t : Tag) (s : State) : Host.Outcome State Fault Refusal :=
  ok (ioCmd t (isOp 0x09) (onNs (fun _ t _ s => done t s)) s)

/-! ### Zone management (R322, R350, R351) -/

/-- The send action of a Zone Management Send: 1 close, 2 finish, 3 open, 4 reset (NVM Express). -/
def isZsa (a : Nat) (x : HTask) : Bool := x.op == 0x79 && x.dw 13 % 256 == a

/-- The status of an action on a zone, by the states of R351 and the limits of 256 zones: 0 good. -/
def zoneStatus (a : Nat) (n : NsSt) (z : Nat) : Nat :=
  let x := (n.zone z).1
  if a = 1 then (if x = 1 ∨ x = 2 then 0 else 0xBF)
  else if a = 3 then
    if x = 3 then 0xBF
    else if x = 0 ∧ 256 ≤ n.active then 0xBD
    else if x ≠ 1 ∧ 256 ≤ n.opened then 0xBE
    else 0
  else 0

/-- A zone is reset: its lines are discarded and the write pointer returns to its start (R350). -/
def zoneReset (ns z : Nat) (s : State) : State :=
  match nsAt ns s with
  | none => s
  | some n =>
    let lo := lineKey ns (z * n.zsize / 128)
    let hi := lineKey ns ((z * n.zsize + n.zcap z + 127) / 128)
    let l := (s.buf.tags.filter (fun e => decide (lo ≤ e.2.key ∧ e.2.key < hi))).map Prod.fst
    zonePut ns z (0, 0) (bufShow (each l (maintVisit 4) s))

/-- The effect of an action on a zone. -/
def zoneAct (a ns z : Nat) (s : State) : State :=
  match nsAt ns s with
  | none => s
  | some n =>
    let wp := (n.zone z).2
    match a with
    | 1 => zonePut ns z (2, wp) s
    | 2 => zonePut ns z (3, wp) s
    | 3 => zonePut ns z (1, wp) s
    | _ => zoneReset ns z s

/-- Whether Select All applies an action to a zone in a state (NVM Express). -/
def zoneSelected (a st : Nat) : Bool :=
  match a with
  | 1 => st == 1
  | 2 => st == 1 || st == 2
  | 3 => st == 2
  | _ => st != 0

/-- The zones that Select All acts on. -/
def zonesSelected (a : Nat) (n : NsSt) : List Nat := (n.zones.filter (fun z => zoneSelected a z.2.1)).map Prod.fst

/-- A Zone Management Send over all zones; Open needs room for every Closed zone. -/
def zoneAll (a : Nat) (n : NsSt) (t : Nat) (x : HTask) (s : State) : State :=
  if a = 3 ∧ 256 < n.active then complete t 1 0xBE s
  else reachable [(0, n.nsze)] (fun t x s => done t (each (zonesSelected a n) (zoneAct a x.nsid) s)) n t x s

/-- A Zone Management Send on one zone, named by its first block. -/
def zoneOne (a : Nat) (n : NsSt) (t : Nat) (x : HTask) (s : State) : State :=
  let lba := x.dw 10 + x.dw 11 * 2 ^ 32
  let z := lba / n.zsize
  if n.nsze ≤ lba then complete t 0 0x80 s
  else if lba % n.zsize ≠ 0 then badField t s
  else if zoneStatus a n z ≠ 0 then complete t 1 (zoneStatus a n z) s
  else reachable [(lba, n.zcap z)] (fun t x s => done t (zoneAct a x.nsid z s)) n t x s

/-- A Zone Management Send with a send action. -/
def zoneSend (a : Nat) (n : NsSt) (t : Nat) (x : HTask) (s : State) : State :=
  if (x.dw 13).testBit 8 then zoneAll a n t x s else zoneOne a n t x s

/-- ZONE_OPEN (R350). -/
def execZoneOpen (t : Tag) (s : State) : Host.Outcome State Fault Refusal := ok (ioCmd t (isZsa 3) (onNs (onZoned (zoneSend 3))) s)

/-- ZONE_CLOSE (R350). -/
def execZoneClose (t : Tag) (s : State) : Host.Outcome State Fault Refusal := ok (ioCmd t (isZsa 1) (onNs (onZoned (zoneSend 1))) s)

/-- ZONE_FINISH (R350). -/
def execZoneFinish (t : Tag) (s : State) : Host.Outcome State Fault Refusal := ok (ioCmd t (isZsa 2) (onNs (onZoned (zoneSend 2))) s)

/-- ZONE_RESET (R350). -/
def execZoneReset (t : Tag) (s : State) : Host.Outcome State Fault Refusal := ok (ioCmd t (isZsa 4) (onNs (onZoned (zoneSend 4))) s)

/-- Whether the reporting option of Report Zones takes in a zone in a state: 0 all, 1 Empty, 2 and 3 Open, 4 Closed, 5 Full, others none. -/
def zoneListed (opt st : Nat) : Bool :=
  match opt with
  | 0 => true
  | 1 => st == 0
  | 2 => st == 1
  | 3 => st == 1
  | 4 => st == 2
  | 5 => st == 3
  | _ => false

/-- A zone descriptor: type, state, capacity, start, and the write pointer of a zone that is not Full; of an Open zone, which of the two open
states is not stated (NVM Express). -/
def zoneDescriptor (n : NsSt) (o z : Nat) : List (Nat × Byte) :=
  let x := n.zone z
  let code := match x.1 with
    | 0 => dataNum (o + 1) 1 0x10
    | 2 => dataNum (o + 1) 1 0x40
    | 3 => dataNum (o + 1) 1 0xE0
    | _ => []
  let wp := if x.1 = 3 then [] else dataNum (o + 24) 8 (z * n.zsize + x.2)
  dataNum o 1 2 ++ code ++ dataNum (o + 8) 8 (n.zcap z) ++ dataNum (o + 16) 8 (z * n.zsize) ++ wp

/-- The zones that a report lists, from the one that holds a block. -/
def zonesListed (n : NsSt) (lba opt : Nat) : List Nat :=
  ((List.range (n.zoneCount - lba / n.zsize)).map (fun i => lba / n.zsize + i)).filter (fun z => zoneListed opt (n.zone z).1)

/-- Report Zones; Extended Report Zones is not supported, since there are no zone descriptor extensions (R309). -/
def reportRun (n : NsSt) (t : Nat) (x : HTask) (s : State) : State :=
  let lba := x.dw 10 + x.dw 11 * 2 ^ 32
  let room := (4 * (x.dw 12 + 1) - 64) / 64
  let all := zonesListed n lba (x.dw 13 / 256 % 256)
  let l := all.take room
  let count := if (x.dw 13).testBit 16 then l.length else all.length
  if x.dw 13 % 256 ≠ 0 then badField t s
  else if n.nsze ≤ lba then complete t 0 0x80 s
  else done t (giveData (dataNum 0 8 count ++ l.zipIdx.flatMap (fun z => zoneDescriptor n (64 + 64 * z.2) z.1)) s)

/-- REPORT_ZONES (R350). -/
def execReportZones (t : Tag) (s : State) : Host.Outcome State Fault Refusal := ok (ioCmd t (isOp 0x7A) (onNs (onZoned reportRun)) s)

/-! ### Opcodes that are not supported (R309) -/

/-- Whether the controller supports the opcode and action of a command. -/
def supported (x : HTask) : Bool :=
  if x.admin then adminOps.contains x.op
  else ioOps.contains x.op && (x.op != 0x79 || (decide (1 ≤ x.dw 13 % 256) && decide (x.dw 13 % 256 ≤ 4)))

/-- INVALID_COMMAND_OPCODE: an opcode that is not supported completes with Invalid Command Opcode; an action of Zone Management Send that is not
supported completes with Invalid Field (R309, R335). -/
def execInvalidCommandOpcode (t : Tag) (s : State) : Host.Outcome State Fault Refusal :=
  ok (match task t.toNat s with
    | none => s
    | some x =>
      if x.st ≠ 2 ∨ supported x = true then s
      else if s.hif.sanit.isSome then complete t.toNat 0 0x1D s
      else if x.admin = false ∧ x.op = 0x79 then badField t.toNat s
      else complete t.toNat 0 0x01 s)

end Sys2Proof.Machine
end

