-- ==== Sys2Proof/Machine/Pins.lean ====
section
/-! DEFINITION. The SMBus target, the output pins of the mechanics and the test access port (spec/16_package_electrical.md, R521, R525, R532, R535–R537). -/

namespace Sys2Proof.Machine

/-- Changes the SMBus target and the test access port. -/
def modPins (f : PinSt → PinSt) (s : State) : State := { s with pins := f s.pins }

/-! ### SMBus (R535) -/

/-- Whether the target answers: from stage 1 of start-up on, also through resets and in recovery mode, while the Gatehouse has its supply. -/
def smbOn (s : State) : Bool :=
  !s.plat.ghDown && (s.fld PWR_BOOT F_PWR_BOOT_STAGE != 0 || s.fld PWR_BOOT F_PWR_BOOT_RECOVERY == 1 || s.plat.rst != .run)

/-- SMBUS_SET_POINTER: Block Write of command 0x01; of an offset above 0xFF the pointer it leaves is not stated. -/
def execSmbusSetPointer (off : BitVec 16) (s : State) : Host.Outcome State Fault Refusal :=
  ok (if !smbOn s then s
    else if off.toNat < 256 then modPins (fun p => { p with ptr := off.toNat }) s
    else
      let f := s.fresh
      modPins (fun p => { p with ptr := f.1 % 256 }) f.2)

/-- The 32 bytes of the copy from the pointer, wrapping from 0xFF to 0x00. -/
def smbBytes (p : PinSt) : List Byte := (List.range 32).map (fun i => tget 0 p.copy ((p.ptr + i) % 256))

/-- SMBUS_BLOCK_READ: Block Read of command 0x02; the pointer advances. -/
def execSmbusBlockRead (s : State) : Host.Outcome State Fault Refusal :=
  ok (onlyIf (smbOn s) (modPins (fun p => { p with out := smbBytes p, ptr := (p.ptr + 32) % 256 })) s)

/-- The GH registers at offsets 0x0000 to 0x00FF as bytes. -/
def ghBytes (s : State) : List Byte := wordBytes ((List.range 64).map (fun i => regWord (0x46000000 + 4 * i) s))

/-- SMBUS_COPY_REFRESH: the whole copy in one step, with no snapshot capture and no clearing (R457, R535). -/
def execSmbusCopyRefresh (s : State) : Host.Outcome State Fault Refusal :=
  ok (onlyIf (smbOn s) (fun s => modPins (fun p => { p with copy := (ghBytes s).zipIdx.foldl (fun (t : List (Nat × Byte)) x => tput 0 t x.2 x.1) [] }) s) s)

/-- SMB_ALERT_N is low. -/
def smbAlert (s : State) : Bool := graveLatched s || (List.range 64).any (fun a => isolated a s)

/-! ### Gate, chopper and supply outputs (R521, R525, R532) -/

/-- What a gate output of a spindle does: high impedance, a level, the pulse of the on-time in each PWM period, or that pulse's complement
less the dead time (R41). -/
inductive GateDrive where
  | highZ | low | high | pulse | complement
  deriving DecidableEq, Repr

/-- The high-side and the low-side phase of a step (R42): 0 U, 1 V, 2 W; 3 none. -/
def drivenOf (step : Nat) : Nat × Nat :=
  match step with
  | 1 => (0, 1)
  | 2 => (0, 2)
  | 3 => (1, 2)
  | 4 => (1, 0)
  | 5 => (2, 0)
  | 6 => (2, 1)
  | _ => (3, 3)

/-- The outputs of one phase under six-step commutation, high side and low side; a period without on-time keeps the low side on (R41). -/
def phaseDrive (step : Nat) (on : Bool) (p : Nat) : GateDrive × GateDrive :=
  if p = (drivenOf step).1 then (if on then (.pulse, .complement) else (.low, .high))
  else if p = (drivenOf step).2 then (.low, .high)
  else (.low, .low)

/-- The outputs of the phases U, V and W of a spindle, high side and low side, while the boundary scan does not drive them (R525). The pattern of
the step is the same for a negative duty demand, for which R41 gives none of its own (DESIGN CHOICE, log 146). -/
def gateOutputs (h : Nat) (s : State) : List (GateDrive × GateDrive) :=
  let all := fun (x : GateDrive × GateDrive) => [x, x, x]
  let n := spnState h s
  if s.plat.ghDown ∨ supplyNow 5 s = true then all (.highZ, .highZ)
  else if s.plat.rst = .held then all (.low, if s.plat.brakeKeep.any (fun x => x.1 == h && x.2.1 == 8) then .high else .low)
  else if n = 8 then all (.low, .high)
  else if s.domOn 103 = false then all (.low, .low)
  else if driving n ∧ ¬ (1 ≤ s.fld PWR_BOOT F_PWR_BOOT_STAGE ∧ s.fld PWR_BOOT F_PWR_BOOT_STAGE ≤ 3) then [0, 1, 2].map (phaseDrive (spin h s).step (s.fld (SPN_CURRENT1 h) F_SPN_CURRENT1_DUTY != 0))
  else all (.low, .low)

/-- CHOP_GATE of a rail is high: its chopper is on or under test (R437, R532). -/
def chopGate (r : Nat) (s : State) : Bool := s.fld (GH_RAIL r) F_GH_RAIL_CHOP_ON == 1 || !(chopTests r s).isEmpty

/-- The set-point of the core supply that CORE_VID selects, in mV (R521). -/
def coreSupplyMv (s : State) : Nat := 700 + 10 * s.pins.vid

/-! ### Boundary scan (R536, R537) -/

/-- An instruction is loaded, with what the register it selects captures. -/
def jtagLoad (i : JtagIr) (scan : List Bool) (s : State) : State := modPins (fun p => { p with ir := i, scan := scan }) s

/-- The bypass register captures a 0 (IEEE 1149.1). -/
def jtagBypass (s : State) : State := jtagLoad .bypass [false] s

/-- BYPASS. -/
def execBypass (s : State) : Host.Outcome State Fault Refusal := ok (jtagBypass s)

/-- The IDCODE (R536). -/
def idcodeWord (s : State) : W32 :=
  BitVec.ofNat 32 (s.fld PWR_FAMILY_ID F_PWR_FAMILY_ID_STEPPING % 16 * 2 ^ 28 + 0x9664 * 2 ^ 12 + Config.jedecId.toNat * 2 + 1)

/-- IDCODE: its bits, bit 0 first. -/
def execIdcode (s : State) : Host.Outcome State Fault Refusal :=
  ok (jtagLoad .idcode ((List.range 32).map (fun i => (idcodeWord s).toNat.testBit i)) s)

/-- SAMPLE_PRELOAD: the pins of the chain are captured, and the boundary register takes what is shifted in. -/
def execSamplePreload (pins v : List Bool) (s : State) : Host.Outcome State Fault Refusal :=
  ok (modPins (fun p => { p with bound := v }) (jtagLoad .sample pins s))

/-- Whether the port accepts EXTEST, CLAMP and HIGHZ: every spindle is STOPPED or COASTING and no actuator is loaded (R537). -/
def jtagMay (s : State) : Bool :=
  (List.range 16).all (fun h => spnState h s == 0 || spnState h s == 7) && (List.range 64).all (fun a => !loaded a s)

/-- An instruction that acts on the pins, or BYPASS at another time (R537). -/
def jtagDrive (i : JtagIr) (scan : List Bool) (s : State) : State := if jtagMay s then jtagLoad i scan s else jtagBypass s

/-- EXTEST: the pins of the chain are driven from the boundary register. -/
def execExtest (s : State) : Host.Outcome State Fault Refusal := ok (jtagDrive .extest s.pins.bound s)
/-- CLAMP: the outputs are held from the boundary register, with bypass in the scan path. -/
def execClamp (s : State) : Host.Outcome State Fault Refusal := ok (jtagDrive .clamp [false] s)
/-- HIGHZ: the outputs are in high impedance, with bypass in the scan path. -/
def execHighz (s : State) : Host.Outcome State Fault Refusal := ok (jtagDrive .highz [false] s)

end Sys2Proof.Machine
end

