-- ==== Sys2Proof/Machine/Dispatch.lean ====
section
/-! DEFINITION. One arm per command: the command's meaning, or its refusal by name. -/

namespace Sys2Proof.Machine

/-- The effect of a command on the state but for its queue. -/
def exec (i : Instr) (s : State) : Host.Outcome State Fault Refusal :=
  match i with
  | .registerWrite m addr v => Sys2Proof.Machine.execRegisterWrite m addr v s
  | .snapshotCaptureRead m addr mirror => Sys2Proof.Machine.execSnapshotCaptureRead m addr mirror s
  | .unmappedAccess m addr => Sys2Proof.Machine.execUnmappedAccess m addr s
  | .badWidthAccess m addr bytes => Sys2Proof.Machine.execBadWidthAccess m addr bytes s
  | .poweredOffAccess m addr => Sys2Proof.Machine.execPoweredOffAccess m addr s
  | .hostReservedAccess bar off bytes write => Sys2Proof.Machine.execHostReservedAccess bar off bytes write s
  | .powerOn romOk smba pclk => Sys2Proof.Machine.execPowerOn romOk smba pclk s
  | .bootStageEnd tries dramOk rank1 => Sys2Proof.Machine.execBootStageEnd tries dramOk rank1 s
  | .sysRstNAssert => Sys2Proof.Machine.execSysRstNAssert s
  | .sysRstNRelease smba pclk => Sys2Proof.Machine.execSysRstNRelease smba pclk s
  | .chipReset m v => Sys2Proof.Machine.execChipReset m v s
  | .perst => Sys2Proof.Machine.execPerst s
  | .functionLevelReset => Sys2Proof.Machine.execFunctionLevelReset s
  | .controllerReset => Sys2Proof.Machine.execControllerReset s
  | .ccEnable v => Sys2Proof.Machine.execCcEnable v s
  | .coreReset m v => Sys2Proof.Machine.execCoreReset m v s
  | .actuatorReset m v => Sys2Proof.Machine.execActuatorReset m v s
  | .domainOn m d => Sys2Proof.Machine.execDomainOn m d s
  | .domainOff m d => Sys2Proof.Machine.execDomainOff m d s
  | .domainOnComplete => Sys2Proof.Machine.execDomainOnComplete s
  | .coreWaitPowerOff c => Sys2Proof.Machine.execCoreWaitPowerOff c s
  | .fabricFreqChange m f => Sys2Proof.Machine.execFabricFreqChange m f s
  | .referenceLost => Sys2Proof.Machine.execReferenceLost s
  | .referenceRestored => Sys2Proof.Machine.execReferenceRestored s
  | .fwReady m => Sys2Proof.Machine.execFwReady m s
  | .recInfo seq len => Sys2Proof.Machine.execRecInfo seq len s
  | .recWrite seq payload => Sys2Proof.Machine.execRecWrite seq payload s
  | .recCommit seq payload res => Sys2Proof.Machine.execRecCommit seq payload res s
  | .calRun m v => Sys2Proof.Machine.execCalRun m v s
  | .calRunEnd results => Sys2Proof.Machine.execCalRunEnd results s
  | .calStep cls item => Sys2Proof.Machine.execCalStep cls item s
  | .start m h => Sys2Proof.Machine.execStart m h s
  | .brake m h => Sys2Proof.Machine.execBrake m h s
  | .coast m h => Sys2Proof.Machine.execCoast m h s
  | .targetWrite m h v => Sys2Proof.Machine.execTargetWrite m h v s
  | .startMask m mask => Sys2Proof.Machine.execStartMask m mask s
  | .startAdmitted => Sys2Proof.Machine.execStartAdmitted s
  | .alignDone h => Sys2Proof.Machine.execAlignDone h s
  | .rampEnd h => Sys2Proof.Machine.execRampEnd h s
  | .handover h speed => Sys2Proof.Machine.execHandover h speed s
  | .handoverTimeout h => Sys2Proof.Machine.execHandoverTimeout h s
  | .pwmPeriod h tonNs iu iv => Sys2Proof.Machine.execPwmPeriod h tonNs iu iv s
  | .skipRunLimit h => Sys2Proof.Machine.execSkipRunLimit h s
  | .zeroCrossing h phase v0 v1 => Sys2Proof.Machine.execZeroCrossing h phase v0 v1 s
  | .commutationStep h => Sys2Proof.Machine.execCommutationStep h s
  | .currentLimit h ma tonNs => Sys2Proof.Machine.execCurrentLimit h ma tonNs s
  | .overcurrentTrip h ma => Sys2Proof.Machine.execOvercurrentTrip h ma s
  | .catchDecided h order ticks lastStep railMv => Sys2Proof.Machine.execCatchDecided h order ticks lastStep railMv s
  | .catchWindowExpired h => Sys2Proof.Machine.execCatchWindowExpired h s
  | .atSpeedReached h speed => Sys2Proof.Machine.execAtSpeedReached h speed s
  | .speedOutOfTolerance h speed => Sys2Proof.Machine.execSpeedOutOfTolerance h speed s
  | .speedBandFault h speed => Sys2Proof.Machine.execSpeedBandFault h speed s
  | .spinupTimeout h => Sys2Proof.Machine.execSpinupTimeout h s
  | .below30Rpm h => Sys2Proof.Machine.execBelow30Rpm h s
  | .brakeHandoff h speed => Sys2Proof.Machine.execBrakeHandoff h speed s
  | .shortBrakeTimeout h => Sys2Proof.Machine.execShortBrakeTimeout h s
  | .chopperOn r mv => Sys2Proof.Machine.execChopperOn r mv s
  | .chopperOff r mv => Sys2Proof.Machine.execChopperOff r mv s
  | .chopperFault r mv ma => Sys2Proof.Machine.execChopperFault r mv ma s
  | .railOvervoltage r mv => Sys2Proof.Machine.execRailOvervoltage r mv s
  | .powerLossDetected r mv => Sys2Proof.Machine.execPowerLossDetected r mv s
  | .powerLossBrakeEnd h speed => Sys2Proof.Machine.execPowerLossBrakeEnd h speed s
  | .railRecovered r mv => Sys2Proof.Machine.execRailRecovered r mv s
  | .servoWedge h rpm pos sync => Sys2Proof.Machine.execServoWedge h rpm pos sync s
  | .servoLost a => Sys2Proof.Machine.execServoLost a s
  | .timerLock h wedge => Sys2Proof.Machine.execTimerLock h wedge s
  | .timerLockLost h => Sys2Proof.Machine.execTimerLockLost h s
  | .vcmSatFault a => Sys2Proof.Machine.execVcmSatFault a s
  | .openLimitFault a => Sys2Proof.Machine.execOpenLimitFault a s
  | .slotOpen m h v => Sys2Proof.Machine.execSlotOpen m h v s
  | .slotClose m h v => Sys2Proof.Machine.execSlotClose m h v s
  | .coefPageWrite m h l w v => Sys2Proof.Machine.execCoefPageWrite m h l w v s
  | .srvLoad m a => Sys2Proof.Machine.execSrvLoad m a s
  | .srvUnload m a => Sys2Proof.Machine.execSrvUnload m a s
  | .srvSeek m a => Sys2Proof.Machine.execSrvSeek m a s
  | .loadAcquired a cyl => Sys2Proof.Machine.execLoadAcquired a cyl s
  | .loadingTimeout a => Sys2Proof.Machine.execLoadingTimeout a s
  | .trajectoryEnd a => Sys2Proof.Machine.execTrajectoryEnd a s
  | .readSettled a => Sys2Proof.Machine.execReadSettled a s
  | .writeSettled a ix => Sys2Proof.Machine.execWriteSettled a ix s
  | .settleTimeout a => Sys2Proof.Machine.execSettleTimeout a s
  | .unloadComplete a => Sys2Proof.Machine.execUnloadComplete a s
  | .headLeavesStripe a ix => Sys2Proof.Machine.execHeadLeavesStripe a ix s
  | .headRejoins a ix => Sys2Proof.Machine.execHeadRejoins a ix s
  | .rejoinRunEnd a ix => Sys2Proof.Machine.execRejoinRunEnd a ix s
  | .sampleFrame a lane hdr data tail => Sys2Proof.Machine.execSampleFrame a lane hdr data tail s
  | .servoFrame a lane hdr data tail => Sys2Proof.Machine.execServoFrame a lane hdr data tail s
  | .status a v => Sys2Proof.Machine.execStatus a v s
  | .scmdLost a => Sys2Proof.Machine.execScmdLost a s
  | .regData a v => Sys2Proof.Machine.execRegData a v s
  | .invalidBlock a lane => Sys2Proof.Machine.execInvalidBlock a lane s
  | .laneQueueOverflow a lane => Sys2Proof.Machine.execLaneQueueOverflow a lane s
  | .blockLockLost a down lane => Sys2Proof.Machine.execBlockLockLost a down lane s
  | .retrainAttemptEnd a down lane locked => Sys2Proof.Machine.execRetrainAttemptEnd a down lane locked s
  | .downstreamBlockSlot a lane eccBad => Sys2Proof.Machine.execDownstreamBlockSlot a lane eccBad s
  | .train m a => Sys2Proof.Machine.execTrain m a s
  | .trainingEnd a locked reply ident => Sys2Proof.Machine.execTrainingEnd a locked reply ident s
  | .feRegWrite m a v => Sys2Proof.Machine.execFeRegWrite m a v s
  | .feRegRead m a v => Sys2Proof.Machine.execFeRegRead m a v s
  | .feRegWriteRelease a => Sys2Proof.Machine.execFeRegWriteRelease a s
  | .feRegTimeout a => Sys2Proof.Machine.execFeRegTimeout a s
  | .readGateSectorStart a ix tooLong => Sys2Proof.Machine.execReadGateSectorStart a ix tooLong s
  | .syncMarkDecision a ix => Sys2Proof.Machine.execSyncMarkDecision a ix s
  | .sampleQueueOverflow a ix n => Sys2Proof.Machine.execSampleQueueOverflow a ix n s
  | .codewordStart a ix => Sys2Proof.Machine.execCodewordStart a ix s
  | .codewordComplete a ix => Sys2Proof.Machine.execCodewordComplete a ix s
  | .otfDecodeEnd a ix => Sys2Proof.Machine.execOtfDecodeEnd a ix s
  | .poolEccError a place p word corrected => Sys2Proof.Machine.execPoolEccError a place p word corrected s
  | .drDispatch => Sys2Proof.Machine.execDrDispatch s
  | .drAttemptEnd p conv => Sys2Proof.Machine.execDrAttemptEnd p conv s
  | .drRecovered p pass iters info => Sys2Proof.Machine.execDrRecovered p pass iters info s
  | .retainedWaitAge p => Sys2Proof.Machine.execRetainedWaitAge p s
  | .sectorFetch a ix => Sys2Proof.Machine.execSectorFetch a ix s
  | .codewordEncoded a ix => Sys2Proof.Machine.execCodewordEncoded a ix s
  | .sectorSendStart a ix => Sys2Proof.Machine.execSectorSendStart a ix s
  | .servoGuardCut a ix => Sys2Proof.Machine.execServoGuardCut a ix s
  | .writeSectorOutcome a ix => Sys2Proof.Machine.execWriteSectorOutcome a ix s
  | .uwNop a => Sys2Proof.Machine.execUwNop a s
  | .uwLdi a ra imm => Sys2Proof.Machine.execUwLdi a ra imm s
  | .uwLui a ra imm => Sys2Proof.Machine.execUwLui a ra imm s
  | .uwMov a ra rb => Sys2Proof.Machine.execUwMov a ra rb s
  | .uwAdd a ra rb => Sys2Proof.Machine.execUwAdd a ra rb s
  | .uwAddi a ra imm => Sys2Proof.Machine.execUwAddi a ra imm s
  | .uwSub a ra rb => Sys2Proof.Machine.execUwSub a ra rb s
  | .uwAnd a ra rb => Sys2Proof.Machine.execUwAnd a ra rb s
  | .uwAndi a ra imm => Sys2Proof.Machine.execUwAndi a ra imm s
  | .uwOr a ra rb => Sys2Proof.Machine.execUwOr a ra rb s
  | .uwOri a ra imm => Sys2Proof.Machine.execUwOri a ra imm s
  | .uwXor a ra rb => Sys2Proof.Machine.execUwXor a ra rb s
  | .uwShli a ra imm => Sys2Proof.Machine.execUwShli a ra imm s
  | .uwShri a ra imm => Sys2Proof.Machine.execUwShri a ra imm s
  | .uwInsf a ra rb imm => Sys2Proof.Machine.execUwInsf a ra rb imm s
  | .uwExtf a ra rb imm => Sys2Proof.Machine.execUwExtf a ra rb imm s
  | .uwBeq a ra rb imm => Sys2Proof.Machine.execUwBeq a ra rb imm s
  | .uwBne a ra rb imm => Sys2Proof.Machine.execUwBne a ra rb imm s
  | .uwBltu a ra rb imm => Sys2Proof.Machine.execUwBltu a ra rb imm s
  | .uwBgeu a ra rb imm => Sys2Proof.Machine.execUwBgeu a ra rb imm s
  | .uwBbs a ra n imm => Sys2Proof.Machine.execUwBbs a ra n imm s
  | .uwBbc a ra n imm => Sys2Proof.Machine.execUwBbc a ra n imm s
  | .uwJmp a imm => Sys2Proof.Machine.execUwJmp a imm s
  | .uwCall a imm => Sys2Proof.Machine.execUwCall a imm s
  | .uwRet a imm => Sys2Proof.Machine.execUwRet a imm s
  | .uwLd a ra rb imm => Sys2Proof.Machine.execUwLd a ra rb imm s
  | .uwSt a ra rb imm => Sys2Proof.Machine.execUwSt a ra rb imm s
  | .uwLdd a ra imm => Sys2Proof.Machine.execUwLdd a ra imm s
  | .uwStd a ra imm => Sys2Proof.Machine.execUwStd a ra imm s
  | .uwRdp a ra imm => Sys2Proof.Machine.execUwRdp a ra imm s
  | .uwWrp a ra imm => Sys2Proof.Machine.execUwWrp a ra imm s
  | .uwWait a ra rb imm => Sys2Proof.Machine.execUwWait a ra rb imm s
  | .waitEnd a => Sys2Proof.Machine.execWaitEnd a s
  | .waitTimeout a => Sys2Proof.Machine.execWaitTimeout a s
  | .uwGate a ra rb => Sys2Proof.Machine.execUwGate a ra rb s
  | .gateStallEnd a => Sys2Proof.Machine.execGateStallEnd a s
  | .uwSeek a ra rb => Sys2Proof.Machine.execUwSeek a ra rb s
  | .uwZone a ra rb => Sys2Proof.Machine.execUwZone a ra rb s
  | .zoneComplete a => Sys2Proof.Machine.execZoneComplete a s
  | .uwOutq a ra => Sys2Proof.Machine.execUwOutq a ra s
  | .uwPost a ra rb imm => Sys2Proof.Machine.execUwPost a ra rb imm s
  | .uwNext a ra => Sys2Proof.Machine.execUwNext a ra s
  | .uwDone a ra rb => Sys2Proof.Machine.execUwDone a ra rb s
  | .uwTrap a imm => Sys2Proof.Machine.execUwTrap a imm s
  | .uwIllegal a w => Sys2Proof.Machine.execUwIllegal a w s
  | .allotWatchdog a => Sys2Proof.Machine.execAllotWatchdog a s
  | .storeEccError a corrected => Sys2Proof.Machine.execStoreEccError a corrected s
  | .gateEntryOpen a ix => Sys2Proof.Machine.execGateEntryOpen a ix s
  | .seqPost m a v => Sys2Proof.Machine.execSeqPost m a v s
  | .seqCancel m a v => Sys2Proof.Machine.execSeqCancel m a v s
  | .seqRun m a => Sys2Proof.Machine.execSeqRun m a s
  | .seqHalt m a => Sys2Proof.Machine.execSeqHalt m a s
  | .seqReload m a => Sys2Proof.Machine.execSeqReload m a s
  | .resultRecordRead m a => Sys2Proof.Machine.execResultRecordRead m a s
  | .seqFmtWrite m a z hi v => Sys2Proof.Machine.execSeqFmtWrite m a z hi v s
  | .loadVerify m => Sys2Proof.Machine.execLoadVerify m s
  | .loadVerifyEnd => Sys2Proof.Machine.execLoadVerifyEnd s
  | .loadCommit m => Sys2Proof.Machine.execLoadCommit m s
  | .seqStoreReload a => Sys2Proof.Machine.execSeqStoreReload a s
  | .lookupRead c v => Sys2Proof.Machine.execLookupRead c v s
  | .lookupWrite c v => Sys2Proof.Machine.execLookupWrite c v s
  | .tagCommit c v => Sys2Proof.Machine.execTagCommit c v s
  | .tagRelease c v => Sys2Proof.Machine.execTagRelease c v s
  | .fillDone c v => Sys2Proof.Machine.execFillDone c v s
  | .writebackRequest => Sys2Proof.Machine.execWritebackRequest s
  | .dirtyAgeExpired set w => Sys2Proof.Machine.execDirtyAgeExpired set w s
  | .wbRequestRead => Sys2Proof.Machine.execWbRequestRead s
  | .wbDone m v => Sys2Proof.Machine.execWbDone m v s
  | .wakeRead c => Sys2Proof.Machine.execWakeRead c s
  | .raRequestRead => Sys2Proof.Machine.execRaRequestRead s
  | .wrEn m on => Sys2Proof.Machine.execWrEn m on s
  | .rdEn m on => Sys2Proof.Machine.execRdEn m on s
  | .wayDisable m w => Sys2Proof.Machine.execWayDisable m w s
  | .wayEnable m w => Sys2Proof.Machine.execWayEnable m w s
  | .wayOff w => Sys2Proof.Machine.execWayOff w s
  | .wayOn w => Sys2Proof.Machine.execWayOn w s
  | .maintInval m v => Sys2Proof.Machine.execMaintInval m v s
  | .maintClean m v => Sys2Proof.Machine.execMaintClean m v s
  | .maintCleanInval m v => Sys2Proof.Machine.execMaintCleanInval m v s
  | .maintDiscard m v => Sys2Proof.Machine.execMaintDiscard m v s
  | .maintInvalClass m v => Sys2Proof.Machine.execMaintInvalClass m v s
  | .maintCleanAll m v => Sys2Proof.Machine.execMaintCleanAll m v s
  | .maintEnd => Sys2Proof.Machine.execMaintEnd s
  | .dramSlot c req refresh gap => Sys2Proof.Machine.execDramSlot c req refresh gap s
  | .dramEccError addr corrected => Sys2Proof.Machine.execDramEccError addr corrected s
  | .tagEccError set w corrected => Sys2Proof.Machine.execTagEccError set w corrected s
  | .scrubRead => Sys2Proof.Machine.execScrubRead s
  | .flipmaskArm addr => Sys2Proof.Machine.execFlipmaskArm addr s
  | .sqTailDoorbell q v => Sys2Proof.Machine.execSqTailDoorbell q v s
  | .cqHeadDoorbell q v => Sys2Proof.Machine.execCqHeadDoorbell q v s
  | .entryFetch q t sqe => Sys2Proof.Machine.execEntryFetch q t sqe s
  | .rangeLockGrant t => Sys2Proof.Machine.execRangeLockGrant t s
  | .taskRead m => Sys2Proof.Machine.execTaskRead m s
  | .xferRequest c v => Sys2Proof.Machine.execXferRequest c v s
  | .xferEnd ix hostErr data prps => Sys2Proof.Machine.execXferEnd ix hostErr data prps s
  | .xferResultRead m => Sys2Proof.Machine.execXferResultRead m s
  | .completionPost c v => Sys2Proof.Machine.execCompletionPost c v s
  | .completionWrite t => Sys2Proof.Machine.execCompletionWrite t s
  | .urgRead m => Sys2Proof.Machine.execUrgRead m s
  | .hold m on => Sys2Proof.Machine.execHold m on s
  | .linkL0Entry rate width flit => Sys2Proof.Machine.execLinkL0Entry rate width flit s
  | .aerError kind q t cor err hdr => Sys2Proof.Machine.execAerError kind q t cor err hdr s
  | .poisonedTlpWrite bar => Sys2Proof.Machine.execPoisonedTlpWrite bar s
  | .createIoSubmissionQueue t => Sys2Proof.Machine.execCreateIoSubmissionQueue t s
  | .createIoCompletionQueue t => Sys2Proof.Machine.execCreateIoCompletionQueue t s
  | .deleteIoSubmissionQueue t => Sys2Proof.Machine.execDeleteIoSubmissionQueue t s
  | .deleteIoCompletionQueue t => Sys2Proof.Machine.execDeleteIoCompletionQueue t s
  | .getLogPage t => Sys2Proof.Machine.execGetLogPage t s
  | .identify t => Sys2Proof.Machine.execIdentify t s
  | .abort t => Sys2Proof.Machine.execAbort t s
  | .setFeatures t => Sys2Proof.Machine.execSetFeatures t s
  | .setFeaturesVolatileWriteCache t => Sys2Proof.Machine.execSetFeaturesVolatileWriteCache t s
  | .setFeaturesTimestamp t ms => Sys2Proof.Machine.execSetFeaturesTimestamp t ms s
  | .getFeatures t => Sys2Proof.Machine.execGetFeatures t s
  | .getFeaturesTimestamp t => Sys2Proof.Machine.execGetFeaturesTimestamp t s
  | .asynchronousEventRequest t => Sys2Proof.Machine.execAsynchronousEventRequest t s
  | .namespaceCreate t data => Sys2Proof.Machine.execNamespaceCreate t data s
  | .namespaceDelete t => Sys2Proof.Machine.execNamespaceDelete t s
  | .namespaceAttachment t data => Sys2Proof.Machine.execNamespaceAttachment t data s
  | .firmwareImageDownload t data => Sys2Proof.Machine.execFirmwareImageDownload t data s
  | .firmwareCommit t => Sys2Proof.Machine.execFirmwareCommit t s
  | .firmwareActivate t => Sys2Proof.Machine.execFirmwareActivate t s
  | .activationDrainEnd => Sys2Proof.Machine.execActivationDrainEnd s
  | .activationTimeout => Sys2Proof.Machine.execActivationTimeout s
  | .activationHoldTimeout => Sys2Proof.Machine.execActivationHoldTimeout s
  | .securitySend t data => Sys2Proof.Machine.execSecuritySend t data s
  | .securityReceive t => Sys2Proof.Machine.execSecurityReceive t s
  | .sanitize t => Sys2Proof.Machine.execSanitize t s
  | .sanitizeEnd => Sys2Proof.Machine.execSanitizeEnd s
  | .flush t => Sys2Proof.Machine.execFlush t s
  | .write t res => Sys2Proof.Machine.execWrite t res s
  | .read t res => Sys2Proof.Machine.execRead t res s
  | .compare t buf med res => Sys2Proof.Machine.execCompare t buf med res s
  | .writeZeroes t => Sys2Proof.Machine.execWriteZeroes t s
  | .datasetManagement t => Sys2Proof.Machine.execDatasetManagement t s
  | .verify t => Sys2Proof.Machine.execVerify t s
  | .zoneAppend t res => Sys2Proof.Machine.execZoneAppend t res s
  | .zoneOpen t => Sys2Proof.Machine.execZoneOpen t s
  | .zoneClose t => Sys2Proof.Machine.execZoneClose t s
  | .zoneFinish t => Sys2Proof.Machine.execZoneFinish t s
  | .zoneReset t => Sys2Proof.Machine.execZoneReset t s
  | .reportZones t => Sys2Proof.Machine.execReportZones t s
  | .invalidCommandOpcode t => Sys2Proof.Machine.execInvalidCommandOpcode t s
  | .kioskPost m ch e w => Sys2Proof.Machine.execKioskPost m ch e w s
  | .kioskReceive m ch e => Sys2Proof.Machine.execKioskReceive m ch e s
  | .kioskDiscRead m ch e => Sys2Proof.Machine.execKioskDiscRead m ch e s
  | .getInfo ch seq len => Sys2Proof.Machine.execGetInfo ch seq len s
  | .hdaState ch seq len => Sys2Proof.Machine.execHdaState ch seq len s
  | .spinDown ch seq payload => Sys2Proof.Machine.execSpinDown ch seq payload s
  | .spinUp ch seq payload => Sys2Proof.Machine.execSpinUp ch seq payload s
  | .ways ch seq payload => Sys2Proof.Machine.execWays ch seq payload s
  | .setSubsys ch seq payload => Sys2Proof.Machine.execSetSubsys ch seq payload s
  | .setAccel ch seq payload => Sys2Proof.Machine.execSetAccel ch seq payload s
  | .iceClear ch seq payload => Sys2Proof.Machine.execIceClear ch seq payload s
  | .shedChallenge ch seq payload => Sys2Proof.Machine.execShedChallenge ch seq payload s
  | .shedResponse ch seq payload => Sys2Proof.Machine.execShedResponse ch seq payload s
  | .echo ch seq payload => Sys2Proof.Machine.execEcho ch seq payload s
  | .unknownOp ch op seq => Sys2Proof.Machine.execUnknownOp ch op seq s
  | .messageReply => Sys2Proof.Machine.execMessageReply s
  | .lockAcquire m ix => Sys2Proof.Machine.execLockAcquire m ix s
  | .lockRelease m ix => Sys2Proof.Machine.execLockRelease m ix s
  | .lockBreak m ix => Sys2Proof.Machine.execLockBreak m ix s
  | .dmaStart m n v => Sys2Proof.Machine.execDmaStart m n v s
  | .dmaStop m n => Sys2Proof.Machine.execDmaStop m n s
  | .dmaBurst => Sys2Proof.Machine.execDmaBurst s
  | .nvProgram m v => Sys2Proof.Machine.execNvProgram m v s
  | .nvProgramEnd => Sys2Proof.Machine.execNvProgramEnd s
  | .nvErase m v => Sys2Proof.Machine.execNvErase m v s
  | .nvEraseEnd par fail => Sys2Proof.Machine.execNvEraseEnd par fail s
  | .nvSuspend m v => Sys2Proof.Machine.execNvSuspend m v s
  | .nvResume m v => Sys2Proof.Machine.execNvResume m v s
  | .nvBlankCheck m v => Sys2Proof.Machine.execNvBlankCheck m v s
  | .nvsWindowRead m off ecc => Sys2Proof.Machine.execNvsWindowRead m off ecc s
  | .recordRead m v => Sys2Proof.Machine.execRecordRead m v s
  | .recordWrite m v => Sys2Proof.Machine.execRecordWrite m v s
  | .recordWriteEnd fail => Sys2Proof.Machine.execRecordWriteEnd fail s
  | .slotCommit m slot => Sys2Proof.Machine.execSlotCommit m slot s
  | .slotCommitActivate m slot => Sys2Proof.Machine.execSlotCommitActivate m slot s
  | .slotActivate m slot => Sys2Proof.Machine.execSlotActivate m slot s
  | .commitEnd res repeats => Sys2Proof.Machine.execCommitEnd res repeats s
  | .ghInfo c seq len => Sys2Proof.Machine.execGhInfo c seq len s
  | .setFence c seq payload => Sys2Proof.Machine.execSetFence c seq payload s
  | .retract c seq payload => Sys2Proof.Machine.execRetract c seq payload s
  | .recover c seq payload reg0xF08 => Sys2Proof.Machine.execRecover c seq payload reg0xF08 s
  | .releaseSpindle c seq payload => Sys2Proof.Machine.execReleaseSpindle c seq payload s
  | .chopperTest c seq payload => Sys2Proof.Machine.execChopperTest c seq payload s
  | .chopperTestEnd r peakMa within10us => Sys2Proof.Machine.execChopperTestEnd r peakMa within10us s
  | .setNotice c seq payload => Sys2Proof.Machine.execSetNotice c seq payload s
  | .inject c seq payload mv => Sys2Proof.Machine.execInject c seq payload mv s
  | .retractRegTimeout a => Sys2Proof.Machine.execRetractRegTimeout a s
  | .retractPoll a value => Sys2Proof.Machine.execRetractPoll a value s
  | .retractTimeout a failed => Sys2Proof.Machine.execRetractTimeout a failed s
  | .supplyExcursion b mv => Sys2Proof.Machine.execSupplyExcursion b mv s
  | .supplyFault b mv => Sys2Proof.Machine.execSupplyFault b mv s
  | .supplyRecovered => Sys2Proof.Machine.execSupplyRecovered s
  | .temperatureSample tj => Sys2Proof.Machine.execTemperatureSample tj s
  | .thermalDetected => Sys2Proof.Machine.execThermalDetected s
  | .thermalGrave => Sys2Proof.Machine.execThermalGrave s
  | .lockstepMismatch => Sys2Proof.Machine.execLockstepMismatch s
  | .ghSramUncorrectable => Sys2Proof.Machine.execGhSramUncorrectable s
  | .noticeRead m c => Sys2Proof.Machine.execNoticeRead m c s
  | .supplyStickyRead m => Sys2Proof.Machine.execSupplyStickyRead m s
  | .sundialRead m => Sys2Proof.Machine.execSundialRead m s
  | .epochHiWrite m v => Sys2Proof.Machine.execEpochHiWrite m v s
  | .epochLoWrite m v => Sys2Proof.Machine.execEpochLoWrite m v s
  | .compareWrite m c lo v => Sys2Proof.Machine.execCompareWrite m c lo v s
  | .timerCompare c => Sys2Proof.Machine.execTimerCompare c s
  | .histogramSample q x => Sys2Proof.Machine.execHistogramSample q x s
  | .snapshotCapture reason => Sys2Proof.Machine.execSnapshotCapture reason s
  | .snapshotWrite fails => Sys2Proof.Machine.execSnapshotWrite fails s
  | .foldAdd m ix v => Sys2Proof.Machine.execFoldAdd m ix v s
  | .icehouseClear m => Sys2Proof.Machine.execIcehouseClear m s
  | .imageVerify m => Sys2Proof.Machine.execImageVerify m s
  | .imageVerifyEnd => Sys2Proof.Machine.execImageVerifyEnd s
  | .measurementExtend m v => Sys2Proof.Machine.execMeasurementExtend m v s
  | .keyEnroll m => Sys2Proof.Machine.execKeyEnroll m s
  | .shedClose m => Sys2Proof.Machine.execShedClose m s
  | .nonceExpired => Sys2Proof.Machine.execNonceExpired s
  | .spdmGetVersion => Sys2Proof.Machine.execSpdmGetVersion s
  | .spdmGetCapabilities => Sys2Proof.Machine.execSpdmGetCapabilities s
  | .spdmNegotiateAlgorithms => Sys2Proof.Machine.execSpdmNegotiateAlgorithms s
  | .spdmGetDigests => Sys2Proof.Machine.execSpdmGetDigests s
  | .spdmGetCertificate => Sys2Proof.Machine.execSpdmGetCertificate s
  | .spdmChallenge => Sys2Proof.Machine.execSpdmChallenge s
  | .spdmGetMeasurements => Sys2Proof.Machine.execSpdmGetMeasurements s
  | .smbusSetPointer off => Sys2Proof.Machine.execSmbusSetPointer off s
  | .smbusBlockRead => Sys2Proof.Machine.execSmbusBlockRead s
  | .smbusCopyRefresh => Sys2Proof.Machine.execSmbusCopyRefresh s
  | .bypass => Sys2Proof.Machine.execBypass s
  | .idcode => Sys2Proof.Machine.execIdcode s
  | .samplePreload pins v => Sys2Proof.Machine.execSamplePreload pins v s
  | .extest => Sys2Proof.Machine.execExtest s
  | .clamp => Sys2Proof.Machine.execClamp s
  | .highz => Sys2Proof.Machine.execHighz s
  | .alignBlock a lane skew => Sys2Proof.Machine.execAlignBlock a lane skew s
  | .perstRelease => Sys2Proof.Machine.execPerstRelease s
  | .normalShutdown => Sys2Proof.Machine.execNormalShutdown s
  | .configurationRequest d w v => Sys2Proof.Machine.execConfigurationRequest d w v s
  | .gatehouseSupplyLost => Sys2Proof.Machine.execGatehouseSupplyLost s
  | .faultAgedOut => Sys2Proof.Machine.execFaultAgedOut s
  | .interruptCoalescingTimeout q => Sys2Proof.Machine.execInterruptCoalescingTimeout q s

end Sys2Proof.Machine
end

