-- ==== Sys2Proof/Machine/Irq.lean ====
section
/-! DEFINITION. The interrupt sources of the cores (spec/10_firmware_platform.md, R360). Each is a level that holds while its condition does; it
powers no core up (R361). -/

namespace Sys2Proof.Machine

/-- The sources of R360. -/
inductive IrqSrc where
  | kiosk | dma | seq | buf | gh | timer
  deriving DecidableEq, Repr

/-- Whether an end of a Kiosk channel has an enabled event: words or a marker to take, or EMPTY (R366, R367, R390). -/
def kskEvent (c e : Nat) (s : State) : Bool :=
  (s.fld (KSK_IRQ_EN c e) F_KSK_IRQ_EN_RX_EN == 1 && !(kq c e s).isEmpty) ||
  (s.fld (KSK_IRQ_EN c e) F_KSK_IRQ_EN_EMPTY_EN == 1 && s.fld (KSK_IRQ c e) F_KSK_IRQ_EMPTY == 1)

/-- Whether a source is asserted for a core (R360, R361). -/
def irqLevel (n : Nat) (s : State) : IrqSrc → Bool
  | .kiosk => (List.range 44).any (fun c => [0, 1].any (fun e => endCore c e s == some n && kskEvent c e s))
  | .dma => dmaIrq n s
  | .seq => (List.range 64).any (fun a => s.fld (SEQ_IRQ_EN a) F_SEQ_IRQ_EN_CORE == n &&
      ((s.rd (SEQ_EVENTS a)).toNat &&& s.fld (SEQ_IRQ_EN a) F_SEQ_IRQ_EN_EN) != 0)
  | .buf => !(tget [] s.buf.wakes n).isEmpty
  | .gh => s.fld (GH_NOTICE n) F_GH_NOTICE_PENDING == 1
  | .timer => timerDue n s

/-- The sources asserted for a core. -/
def irqs (n : Nat) (s : State) : List IrqSrc := [IrqSrc.kiosk, .dma, .seq, .buf, .gh, .timer].filter (irqLevel n s)

end Sys2Proof.Machine
end

