-- ==== Sys2Proof/Machine/Resident.lean ====
section
/-! DEFINITION. What a sequencer does as time passes (spec/07_track_sequencers.md, R227, R235, R238–R242, R251–R254, R260): its cycles, the
words of the Allotment in its store, and the resident microcode, whose words the spec does not give and whose behaviour it does. -/

namespace Sys2Proof.Machine

/-! ### Words of the store -/

/-- The state of a next state, else the one before. -/
def nextOr (s : State) : Host.Outcome State Fault Refusal → State
  | .next t => t
  | _ => s

/-- A word of the store executes by the opcode in its bits 31:26 and its fields A, B and IMM (R227). -/
def uwRun (a : Act) (w : W32) (s : State) : State :=
  let x : BitVec 5 := w.extractLsb' 21 5
  let y : BitVec 5 := w.extractLsb' 16 5
  let i : BitVec 16 := w.extractLsb' 0 16
  nextOr s (match w.toNat / 2 ^ 26 with
    | 0x00 => execUwNop a s
    | 0x01 => execUwLdi a x i s
    | 0x02 => execUwLui a x i s
    | 0x03 => execUwMov a x y s
    | 0x04 => execUwAdd a x y s
    | 0x05 => execUwAddi a x i s
    | 0x06 => execUwSub a x y s
    | 0x07 => execUwAnd a x y s
    | 0x08 => execUwAndi a x i s
    | 0x09 => execUwOr a x y s
    | 0x0A => execUwOri a x i s
    | 0x0B => execUwXor a x y s
    | 0x0C => execUwShli a x i s
    | 0x0D => execUwShri a x i s
    | 0x0E => execUwInsf a x y i s
    | 0x0F => execUwExtf a x y i s
    | 0x10 => execUwBeq a x y i s
    | 0x11 => execUwBne a x y i s
    | 0x12 => execUwBltu a x y i s
    | 0x13 => execUwBgeu a x y i s
    | 0x14 => execUwBbs a x y i s
    | 0x15 => execUwBbc a x y i s
    | 0x16 => execUwJmp a i s
    | 0x17 => execUwCall a i s
    | 0x18 => execUwRet a i s
    | 0x19 => execUwLd a x y i s
    | 0x1A => execUwSt a x y i s
    | 0x1B => execUwLdd a x i s
    | 0x1C => execUwStd a x i s
    | 0x1D => execUwRdp a x i s
    | 0x1E => execUwWrp a x i s
    | 0x1F => execUwWait a x y i s
    | 0x20 => execUwGate a x y s
    | 0x21 => execUwSeek a x y s
    | 0x22 => execUwZone a x y s
    | 0x23 => execUwOutq a x s
    | 0x24 => execUwPost a x y i s
    | 0x25 => execUwNext a x s
    | 0x26 => execUwDone a x y s
    | 0x3F => execUwTrap a i s
    | _ => execUwIllegal a w s)

/-- A cycle in which no word executes (R260). -/
def seqClock (a : Nat) (s : State) : State :=
  let s := s.incWrap (SEQ_CYCLES a) 1
  if seqState a s = 1 ∨ seqState a s = 5 then s else s.incWrap (SEQ_BUSY a) 1

/-! ### The resident microcode -/

/-- A word of the resident microcode: its address is not stated. -/
def resWord (a : Nat) (f : State → State) (s : State) : State :=
  let s := (s.incWrap (SEQ_CYCLES a) 1).incWrap (SEQ_BUSY a) 1
  f (s.fresh.2.setf (SEQ_STATE a) F_SEQ_STATE_PC (s.fresh.1 % 6144))

/-- The resident microcode goes on at a phase. -/
def resGo (a : Nat) (p : ResPhase) (s : State) : State := modSeq a (fun q => { q with phase := p }) s

/-- The running operation. -/
def runOp (a : Nat) (s : State) : Option SeqOp :=
  match runSlot a s with
  | some d => (seq a s).ops.find? (fun o => o.slot == d)
  | none => none

/-- Whether an operation of a more urgent class than the running one is queued (R239, R254). -/
def moreUrgent (a : Nat) (s : State) : Bool :=
  match runSlot a s with
  | some d => (List.range (descClass a d s)).any (fun c => classQueued a c s)
  | none => false

/-- The valid slots of an operation's stripe, in ascending order. -/
def opSlots (a d : Nat) (s : State) : List Nat := bitsOf 4 (stripeOf (s.rd (SEQ_DESC a d 2)))

/-- The first track sector of an operation and its logical sectors. -/
def opStart (a d : Nat) (s : State) : Nat := descW a d 3 s % 65536
def opCount (a d : Nat) (s : State) : Nat := descW a d 3 s / 65536

/-- The head slot and the track sector of logical sector `k` (R235). -/
def opPlace (a d k : Nat) (s : State) : Nat × Nat :=
  let v := opSlots a d s
  (v.getD (k % v.length) 0, opStart a d s + k / v.length)

/-- The wedge interval of an HDA, ns: the last one, or that of the target speed while none is known. -/
def wedgeNs (h : Nat) (s : State) : Nat :=
  (tget {} s.engs h).ivals.headD (60000000000 / (s.fld (SPN_TARGET h) F_SPN_TARGET_RPM * s.fld (SRV_WEDGE h) F_SRV_WEDGE_WEDGES))

/-- When the first cell of a track sector passes next at least 1.0 µs from now, ns after the last sample instant (R244, R248): in the wedge area in
which it starts, or a revolution later. -/
def passNs (a i : Nat) (s : State) : Nat :=
  let h := hdaOf a
  let z := zoneNow a s
  let u := zoneU a z s
  let ws := s.fld (SRV_WEDGE h) F_SRV_WEDGE_WEDGES
  let d := (sectorWedge u i + ws - s.fld (SRV_STATUS h) F_SRV_STATUS_INDEX % ws) % ws
  let t := d * wedgeNs h s + s.fld (SEQ_FMT0 a z) F_SEQ_FMT0_DA_START_NS + sectorOfs u i * 1000 / max 1 (zoneRate a z s)
  if t < (s.sdl.now - (tget {} s.engs h).lastAt) + 1000 then t + ws * wedgeNs h s else t

/-- The wedges from the present one to that in which a sector passes next. -/
def passWedges (a i : Nat) (s : State) : Nat := passNs a i s / max 1 (wedgeNs (hdaOf a) s)

/-- The track sector of an operation that is the first to pass within reach (R239, R248). -/
def firstReach (a d : Nat) (s : State) : Nat :=
  let l := ((List.range (opCount a d s)).map (fun k => (opPlace a d k s).2)).eraseReps.map (fun i => (passNs a i s, i))
  match l with
  | [] => opStart a d s
  | x :: r => (r.foldl (fun b y => if y.1 < b.1 then y else b) x).2

/-- The logical sectors of an operation in the order in which they are gated first: ascending, or with ZL from the first sector within reach, and
around (R239). -/
def opOrder (a d : Nat) (s : State) : List (Nat × Nat) :=
  let ks := List.range (opCount a d s)
  let ks := if (descW a d 0 s).testBit 6 then
      let f := firstReach a d s
      ks.filter (fun k => decide (f ≤ (opPlace a d k s).2)) ++ ks.filter (fun k => decide ((opPlace a d k s).2 < f)) else ks
  ks.map (fun k => (k, 0))

/-- The gate word of logical sector `k` of an operation with its re-read count (R235, R240, R543). -/
def opGate (a d k r : Nat) (s : State) : W32 :=
  let p := opPlace a d k s
  let mode := match descKind a d s with
    | 1 => 0
    | 2 => 2
    | _ => 1
  BitVec.ofNat 32 (mode * 2 ^ 30 + p.1 % 4 * 2 ^ 28 + r % 16 * 2 ^ 24 + p.2 % 65536)

/-- The outcome word of a sector that was not gated (R240–R242). -/
def ngWord (a d cause k : Nat) (s : State) : W32 := outcomeWord ocNotGated cause (opPlace a d k s).1 0 k

/-- What becomes of a sector whose outcome word has come (R17, R240): settled, to be gated again with a re-read count, or reported. -/
inductive SecEnd where
  | settled | regate (r : Nat) | report
  deriving DecidableEq, Repr

/-- The judgement of an outcome word (R240, R241); a sector that a halt flushed is gated again when the operation goes on (R251). -/
def secEnd (e : FlyEnt) (r : Nat) : SecEnd :=
  let w := e.word.toNat
  match w / 2 ^ 28 % 8 with
  | 0 => .settled
  | 1 => .settled
  | 2 => .regate (r + 1)
  | 4 => .settled
  | 6 => if e.outAt then .regate r else .report
  | 7 => if w / 2 ^ 24 % 16 = ngOut ∨ w / 2 ^ 24 % 16 = ngState ∨ w / 2 ^ 24 % 16 = ngFlush then .regate r else .report
  | _ => .report

/-- An outcome in an operation's progress. -/
def SeqOp.take (o : SeqOp) (e : FlyEnt) : SeqOp :=
  match o.out.find? (fun x => x.1 == e.id) with
  | none => o
  | some (_, k, r) =>
    let o := { o with out := o.out.filter (fun x => x.1 != e.id) }
    match secEnd e r with
    | .settled => o
    | .regate r => { o with again := o.again ++ [(k, r)] }
    | .report => { o with exc := o.exc ++ [(k, e.word)] }

/-- The oldest outcome word is collected into the operation that gated its sector; one that no operation awaits is dropped. -/
def resCollect (a : Nat) (s : State) : State :=
  let e := match (seq a s).outq with
    | i :: _ => flyGet a i s
    | [] => none
  let s := (outTake a s).2
  match e with
  | none => s
  | some e => modSeq a (fun q => { q with ops := q.ops.map (fun o => o.take e) }) s

/-- The resident microcode chooses an operation (R238, R242): a suspended one that was cancelled is ended; with none queued it waits. -/
def resDispatch (a : Nat) (s : State) : State :=
  match (seq a s).ops.find? (fun o => o.cancel) with
  | some o => (s.setf (SEQ_SLOTS a) F_SEQ_SLOTS_RUN_VALID 1).setf (SEQ_SLOTS a) F_SEQ_SLOTS_RUN_SLOT o.slot
  | none =>
    if (seq a s).ops.isEmpty then
      let b : SeqBlock := .wait 5 0 0 (s.rd (SEQ_CYCLES a)).toNat (s.rd (SRV_WEDGE_COUNT a)).toNat
      setSeqState a 1 (modSeq a (fun q => { q with block := b }) s)
    else seqNext a 0 s

/-- The running operation begins, or goes on from its progress (R239, R251, R253): sectors gated and gone are gated again; an Allotment kind is
called at its entry point with its slot in g1. -/
def resStart (a : Nat) (o : SeqOp) (s : State) : State :=
  let d := o.slot
  let here := fun (x : Nat × Nat × Nat) => (flyGet a x.1 s).isSome
  let s := modOp a d (fun o => { o with out := o.out.filter here, again := o.again ++ (o.out.filter (fun x => !here x)).map (fun x => x.2), seg := none }) s
  if o.cancel then resGo a (.finish 2) s
  else if 8 ≤ descKind a d s then
    let n := (seq a s).entries.getD (descKind a d s - 8) 0
    let s := resGo a .allot (gPut a 1 (BitVec.ofNat 32 d) s)
    goTo a n (modSeq a (fun q => { q with stack := q.npc :: q.stack, allot := some (q.stack.length + 1), wdog := 0 }) s)
  else resGo a .seek (seqSeek a (s.rd (SEQ_DESC a d 1)) (s.rd (SEQ_DESC a d 2)) s)

/-- The settle is awaited (R232, R239). -/
def resSettle (a : Nat) (s : State) : State :=
  let b : SeqBlock := .wait 2 0 30 (s.rd (SEQ_CYCLES a)).toNat (s.rd (SRV_WEDGE_COUNT a)).toNat
  resGo a .settle (setSeqState a 3 (modSeq a (fun q => { q with block := b }) s))

/-- The settle has come, or has not (R239, R241): one that was cancelled ends (R242), and so does a SEEK operation; otherwise the zone is set. -/
def resZone (a : Nat) (o : SeqOp) (s : State) : State :=
  let w := (gGet a 30 s).toNat
  if w.testBit 31 || w.testBit 6 || w.testBit 5 || !w.testBit 4 then resGo a (.finish 3) s
  else if o.cancel then resGo a (.finish 2) s
  else if descKind a o.slot s = 4 then resGo a (.finish 0) s
  else
    let cyl := descCyl a o.slot s
    zoneRun a 30 cyl false (resGo a .zone (setSeqState a 3 (modSeq a (fun q => { q with block := .zone 30 cyl false }) s)))

/-- The zone is set, or is not (R239, R241): the sectors are listed, and a segment begins. -/
def resFirst (a : Nat) (o : SeqOp) (s : State) : State :=
  if (gGet a 30 s).toNat.testBit 31 then resGo a (.finish 3) s
  else if o.cancel then resGo a (.finish 2) s
  else
    let l := opOrder a o.slot s
    resGo a .gate (modOp a o.slot (fun o =>
      { o with made := true, todo := o.again ++ (if o.made then o.todo else l), again := [], seg := none }) s)

/-- The revolutions after which a sector is given up (R240). -/
def revLimit (a : Nat) (s : State) : Nat := max 8 (s.fld (RCH_RETRY a) F_RCH_RETRY_MAX_REVS + 1)

/-- The sectors of an operation that are not settled are given up at the limit of revolutions (R240). -/
def resGiveUp (a : Nat) (o : SeqOp) (s : State) : State :=
  let l := o.again ++ o.todo
  let s := each l (fun _ t => emit 0x3009 t) s
  let x := l.map (fun p => (p.1, ngWord a o.slot ngRevs p.1 s))
  modOp a o.slot (fun o => { o with exc := o.exc ++ x, todo := [], again := [] }) s

/-- The running operation is suspended: its slot stays busy and it keeps its place (R238, R239). -/
def resSuspend (a : Nat) (s : State) : State :=
  resGo a .dispatch ((s.setf (SEQ_SLOTS a) F_SEQ_SLOTS_RUN_VALID 0).setf (SEQ_SLOTS a) F_SEQ_SLOTS_RUN_SLOT 0)

/-- A segment has ended (R239, R240, R242): the operation is cancelled, complete, suspended, or goes on with another. -/
def resSegment (a : Nat) (o : SeqOp) (s : State) : State :=
  let n := o.revs + b2n o.seg.isSome
  let s := modOp a o.slot (fun o => { o with revs := n, seg := none }) s
  if o.cancel then resGo a (.finish 2) s
  else if o.todo.isEmpty && o.again.isEmpty && o.out.isEmpty then resGo a (.finish 0) s
  else
    let s := if revLimit a s ≤ n then resGiveUp a o s else s
    if moreUrgent a s then resSuspend a s
    else modOp a o.slot (fun o => { o with todo := o.again ++ o.todo, again := [] }) s

/-- The wedges that have passed since the first sector of a segment passed, less than 0 while it has not. -/
def segPast (a c : Nat) (s : State) : Int :=
  let d : Nat := (wedgeCount a s + 2 ^ 32 - c % 2 ^ 32) % 2 ^ 32
  if d < 2 ^ 31 then (d : Int) else (d : Int) - 2 ^ 32

/-- Whether a revolution has passed since the first sector of the segment, or will have when a sector that is due in `d` wedges passes (R239). -/
def segPassed (a d : Nat) (o : SeqOp) (s : State) : Bool :=
  match o.seg with
  | some c => decide ((s.fld (SRV_WEDGE (hdaOf a)) F_SRV_WEDGE_WEDGES : Int) ≤ segPast a c s + d)
  | none => false

/-- Whether the segment has ended (R239): its sectors have passed, and a revolution has, or nothing is left to gate and every outcome has come. -/
def segOver (a : Nat) (o : SeqOp) (s : State) : Bool :=
  (fly a s).all (fun e => e.op != o.slot || !e.inQ) && ((o.todo.isEmpty && o.out.isEmpty) || segPassed a 0 o s)

/-- The next sector of a segment is gated; its entry is the next of the in-flight table (R235, R246, R247). -/
def resGate (a : Nat) (o : SeqOp) (k r : Nat) (s : State) : State :=
  let id := (seq a s).nextId
  let c := (wedgeCount a s + passWedges a (opPlace a o.slot k s).2 s) % 2 ^ 32
  let s := modOp a o.slot (fun o => { o with todo := o.todo.drop 1, out := o.out ++ [(id, k, r)], gated := true, seg := some (o.seg.getD c) }) s
  seqGate a (opGate a o.slot k r s) k s

/-- Gating: outcomes are collected as they come, the sectors that pass within the segment's revolution are gated in order, and its end is noticed
(R239–R241). -/
def resGating (a : Nat) (o : SeqOp) (s : State) : State :=
  if !(seq a s).outq.isEmpty then resWord a (resCollect a) s
  else if segOver a o s then resWord a (resSegment a o) s
  else match o.todo with
    | (k, r) :: _ => if segPassed a (passWedges a (opPlace a o.slot k s).2 s) o s then seqClock a s else resWord a (resGate a o k r) s
    | [] => seqClock a s

/-- Whether a gated sector of an operation has no outcome yet (R241). -/
def opOpen (a d : Nat) (s : State) : Bool := (fly a s).any (fun e => e.op == d && e.st != .done && !e.dead)

/-- An operation ends once every gated sector has its outcome: of one cancelled, or not started after sectors were gated, those not settled are
reported as FLUSH; one not started before that reports none (R241, R242). -/
def resFinish (a st : Nat) (o : SeqOp) (s : State) : State :=
  if !(seq a s).outq.isEmpty then resWord a (resCollect a) s
  else if opOpen a o.slot s then seqClock a s
  else resWord a (fun s =>
    let l := if o.made then o.again ++ o.todo else if st = 2 && decide (descKind a o.slot s < 4) then (List.range (opCount a o.slot s)).map (fun k => (k, 0)) else []
    let x := if st = 2 ∨ (st = 3 ∧ o.gated) then o.exc ++ l.map (fun p => (p.1, ngWord a o.slot ngFlush p.1 s)) else if st = 3 then [] else o.exc
    resGo a (.records st) (modOp a o.slot (fun o => { o with exc := x, todo := [], again := [] }) s)) s

/-- The SECTOR records of an operation that has ended are posted one by one, and then DONE with their number (R241). -/
def resRecords (a st : Nat) (o : SeqOp) (s : State) : State :=
  match o.exc with
  | (k, w) :: _ => resWord a (seqPostRec a 2 w k) s
  | [] => resWord a (fun s => resGo a .dispatch (seqDone a (if st = 0 ∧ 0 < o.posted then 1 else st) o.posted s)) s

/-- The Allotment has returned (R253): an error code ends the operation as an error; else one that was cancelled ends (R242), 0 completes it and 1
suspends it. -/
def resReturn (a : Nat) (o : SeqOp) (s : State) : State :=
  match (seq a s).allotCode with
  | 0 => resGo a (.finish (if o.cancel then 2 else 0)) s
  | 1 => if o.cancel then resGo a (.finish 2) s else resSuspend a s
  | _ => resGo a (.finish 5) s

/-- A service of the resident vector that the Allotment has called (R254): YIELD at word 8; what another returns in g1 is not stated. -/
def resService (a : Nat) (s : State) : State :=
  uword a (fun t => seqRet a (if seqPc a t = 8 then gPut a 1 (BitVec.ofNat 32 (b2n (moreUrgent a t))) t else gFree a 1 t)) s

/-- One cycle of the resident microcode. -/
def resident (a : Nat) (s : State) : State :=
  if (seq a s).allot.isSome then resService a s
  else match runOp a s with
    | none => resWord a (fun t => resGo a .dispatch (resDispatch a t)) s
    | some o => match (seq a s).phase with
      | .dispatch => resWord a (resStart a o) s
      | .seek => resWord a (resSettle a) s
      | .settle => resWord a (resZone a o) s
      | .zone => resWord a (resFirst a o) s
      | .gate => resGating a o s
      | .allot => resWord a (resReturn a o) s
      | .finish st => resFinish a st o s
      | .records st => resRecords a st o s

/-! ### Time -/

/-- Whether the resident words of a store are Oraedom's: those of the image shipped are; of a loaded image's words the spec leaves it open, and the
words of one whose are not are executed as they stand (R227, R257; DESIGN CHOICE, log 149). -/
def residentStock (a : Nat) (s : State) : Bool :=
  match (seq a s).img with
  | some l => Config.residentOwn (l.take 6144)
  | none => true

/-- One cycle of a sequencer's clock: a running one executes the word of its store (R227, R229); Oraedom's resident words by what they do. -/
def seqCycle (a : Nat) (s : State) : State :=
  if seqState a s = 2 ∧ (seq a s).block = .none then
    if 6144 ≤ (seq a s).npc || !residentStock a s then uwRun (BitVec.ofNat 6 a) (storeAt a (seq a s).npc s) s else resident a s
  else seqClock a s

/-- Ten cycles of the sequencer of an actuator whose domain is on (R225, R229, R260). -/
def seqEdge (a : Nat) (s : State) : State := if s.domOn a then each (List.range 10) (fun _ t => seqCycle a t) s else s

end Sys2Proof.Machine
end

