-- ==== Sys2Proof/Machine/Msg.lean ====
section
/-! DEFINITION. How messages are taken from Kiosk channels (spec/10_firmware_platform.md, R372–R375; spec/12_gatehouse.md, R449): resident
firmware, or the boot ROM in recovery mode, takes those of the host, the Gatehouse those of the cores. One word of each channel is taken at a
reference edge at which no command waits. -/

namespace Sys2Proof.Machine

/-- The end of a channel at which messages are taken (R363). -/
def msgEnd (c : Nat) : Nat := if c < 8 then 0 else 1

/-- The Gatehouse's reply or the firmware's. -/
def msgReply (c op seq status : Nat) (s : State) : State :=
  if c < 8 then hostReply c op seq status [] s else ghReply (c - 36) op seq status [] s

/-- Whether the messages of a channel are taken: by resident firmware after its start-up, by the boot ROM on channel 0 in recovery mode, by the
Gatehouse while its cores execute. -/
def msgServed (c : Nat) (s : State) : Bool :=
  if c < 8 then (if s.fld PWR_BOOT F_PWR_BOOT_RECOVERY = 1 then c == 0 else s.fld PWR_BOOT F_PWR_BOOT_FW_READY == 1)
  else decide (36 ≤ c ∧ c < 44) && ghRunning s && !s.plat.ghDown

/-- A message of the host, whole (R376, R512). -/
def hostServe (c op seq : Nat) (p : List W32) (s : State) : State :=
  let ch : Chan := BitVec.ofNat 6 c
  let q : Seq := BitVec.ofNat 16 seq
  if c ≠ 0 ∧ 0x20 ≤ op then hostReply c op seq 1 [] s
  else
    let f := s.fresh
    nextOr s (match op with
      | 0x01 => execGetInfo ch q p.length s
      | 0x02 => execHdaState ch q p.length s
      | 0x03 => execSpinDown ch q p s
      | 0x04 => execSpinUp ch q p s
      | 0x05 => execWays ch q p s
      | 0x06 => execSetSubsys ch q p s
      | 0x07 => execSetAccel ch q p s
      | 0x08 => execIceClear ch q p s
      | 0x09 => execShedChallenge ch q p s
      | 0x0A => execShedResponse ch q p s
      | 0x0B => execEcho ch q p s
      | 0x20 => execRecInfo q p.length s
      | 0x21 => execRecWrite q p s
      | 0x22 => execRecCommit q p (BitVec.ofNat _ f.1) f.2
      | _ => execUnknownOp ch (BitVec.ofNat 8 op) q s)

/-- A message of a core to the Gatehouse, whole (R449); `arg` is what the Gatehouse reads of the front-end or of a supply. -/
def ghServe (c op seq : Nat) (p : List W32) (arg : Nat) (s : State) : State :=
  let k : CoreId := BitVec.ofNat 3 (c - 36)
  let q : Seq := BitVec.ofNat 16 seq
  nextOr s (match op with
    | 1 => execGhInfo k q p.length s
    | 2 => execSetFence k q p s
    | 3 => execRetract k q p s
    | 4 => execRecover k q p (BitVec.ofNat 16 arg) s
    | 5 => execReleaseSpindle k q p s
    | 6 => execChopperTest k q p s
    | 7 => execSetNotice k q p s
    | 8 => execInject k q p (BitVec.ofNat 16 arg) s
    | _ => execUnknownOp (BitVec.ofNat 6 c) (BitVec.ofNat 8 op) q s)

/-- A message is complete: one with a bad field or fragment is answered with status 2 (R375), any other is served; what the Gatehouse then reads is
free. -/
def msgServe (c : Nat) (a : MsgAsm) (s : State) : State :=
  if a.bad then msgReply c a.op a.seq 2 s
  else if c < 8 then hostServe c a.op a.seq a.words s
  else if a.op = 4 ∨ a.op = 8 then ghServe c a.op a.seq a.words s.fresh.1 s.fresh.2
  else ghServe c a.op a.seq a.words 0 s

/-- The first message that waits for its turn on a channel is served (R374, R449); the reply to a core that has been reset since is discarded. -/
def heldServe (c : Nat) (s : State) : State :=
  match s.held.filter (fun m => m.chan == c) with
  | [] => s
  | m :: r =>
    let s := { s with held := s.held.filter (fun x => x.chan != c) }
    let t := if c < 8 then hostServe c m.op m.seq m.words s else ghServe c m.op m.seq m.words m.arg s
    let t := if m.dead then ghForget [c - 36] { t with ksk := s.ksk, replies := s.replies } else t
    { t with held := t.held ++ r }

/-- A header word (R372); reserved bits and REPLY are 0 in a message. -/
def msgHeader (w : W32) : MsgAsm :=
  { on := true, op := fget w ⟨24, 8⟩, seq := fget w ⟨0, 16⟩, need := fget w ⟨20, 4⟩, more := fget w ⟨16, 1⟩ == 1, frags := 1,
    bad := fget w ⟨17, 3⟩ != 0 }

/-- The assembly of a channel as it now stands: the message is served once its last fragment is whole. -/
def msgGo (c : Nat) (a : MsgAsm) (s : State) : State :=
  if a.need = 0 ∧ !a.more then msgServe c a { s with asm := tput {} s.asm c {} } else { s with asm := tput {} s.asm c a }

/-- A word of a message (R373). A ninth fragment makes the message bad. -/
def msgWord (c : Nat) (w : W32) (s : State) : State :=
  let a := tget {} s.asm c
  let b := msgHeader w
  if !a.on then msgGo c b s
  else if 0 < a.need then msgGo c { a with need := a.need - 1, words := if a.bad then [] else a.words ++ [w] } s
  else if b.op = a.op ∧ b.seq = a.seq then
    msgGo c { b with frags := a.frags + 1, bad := a.bad || b.bad || decide (8 ≤ a.frags), words := a.words } s
  else msgGo c b (msgReply c a.op a.seq 2 s)

/-- The next place of a channel is taken: a marker ends what is being assembled without a reply (R373). What a master last read stays. -/
def msgTake (c : Nat) (s : State) : State :=
  let e := msgEnd c
  if !msgServed c s || msgBusy c s then s
  else if s.held.any (fun m => m.chan == c) then heldServe c s
  else match kq c e s with
    | [] => s
    | .marker _ :: _ => { kTake c e s with rdata := s.rdata, asm := tput {} s.asm c {} }
    | .word w :: _ => msgWord c w { kTake c e s with rdata := s.rdata }

/-- One word of every channel that carries messages. -/
def msgsTake (s : State) : State := each ([0, 1, 2, 3, 4, 5, 6, 7, 36, 37, 38, 39, 40, 41, 42, 43]) msgTake s

/-- The copies of Grave and Actuator records and of event 0xA007 go to records 1,008 to 1,023 in rotation (R447). -/
def copiesKeep (s : State) : State :=
  if s.fld PWR_BOOT F_PWR_BOOT_FW_READY = 0 then s
  else
    let l := s.gh.copies
    let s := each l (fun b t => modGh (fun g => { g with copyNo := (g.copyNo + 1) % 16 }) (parPut (1008 + t.gh.copyNo) b t)) s
    modGh (fun g => { g with copies := [] }) s

end Sys2Proof.Machine
end

