-- ==== Sys2Proof/Machine/Tick.lean ====
section
/-! DEFINITION. What time does on its own between commands: one edge of the 100 MHz reference (R458). -/

namespace Sys2Proof.Machine

/-- The time between captures (R468): 10 minutes. -/
def icePeriod : Nat := 600000000000

/-- The Sundial advances by 10 ns and does not exceed 64 bits (R458); a capture that was due is taken, and one is due when the counter crosses a
multiple of 10 minutes (R468); compare values that it reaches assert their interrupt (R461). -/
def sundialTick (s : State) : State :=
  let s := each s.ice.due iceDue s
  let now := s.sdl.now + 10
  let s := if s.sdl.now / icePeriod < now / icePeriod then { s with ice := { s.ice with due := s.ice.due ++ [0] } } else s
  each (List.range 8) timerTick { s with sdl := { s.sdl with now := now % 2 ^ 64 } }

/-- One reference edge: the Sundial advances, the oldest sector of each output queue reaches DRAM (R197), ten cycles of each sequencer pass (R229),
messages are taken from Kiosk (R372–R375, R449), Lodge records are copied (R447), journal rows are
erased (R402), the commit engine goes on (R417), resident firmware goes on with the
long operations under way (R377, R378, R511), CSTS.RDY follows a controller reset (R340), the last cylinder of a Sanitize
is recorded (R335), so are lost ranges (R353), and changes of readiness of a namespace are noticed (R349, R511). -/
def tick (s : State) : State :=
  iceShow (readyShow (lostKeep (sanKeep (resetShow (jobsRun (copiesKeep (commitTick (jErased (msgsTake (each (List.range 64) seqEdge (each (List.range 64) outDrain (sundialTick s))))))))))))

end Sys2Proof.Machine
end

