-- ==== Sys2Proof/Safety.lean ====
section
/-! DEFINITION. The words in which statements about the controller are made: counted events, refused writes, what stays the same, and the
canonical form of memory. -/

namespace Sys2Proof.Machine

/-- An event code is counted once more in the Icehouse event table (R462, R463). -/
abbrev Counted (code : Nat) (s t : State) : Prop :=
  t.ctr (ICE_EVT_COUNT (evtIndex code)) = satAdd 48 (s.ctr (ICE_EVT_COUNT (evtIndex code))) 1

/-- PWR_DENIED_WRITES counts one refused write more, saturating (R6). -/
abbrev Denied (s t : State) : Prop := (t.rd PWR_DENIED_WRITES).toNat = satAdd 32 (s.rd PWR_DENIED_WRITES).toNat 1

/-- PWR_BAD_ACCESS counts one access more, saturating (R27, R37). -/
abbrev BadAccess (s t : State) : Prop := (t.rd PWR_BAD_ACCESS).toNat = satAdd 32 (s.rd PWR_BAD_ACCESS).toNat 1

/-- Every register whose key does not satisfy `p` reads the same. -/
def SameRegs (p : Nat → Prop) (s t : State) : Prop := ∀ r : Reg, ¬ p r.key → t.rd r = s.rd r

/-- Every two-word counter whose key does not satisfy `p` is the same. -/
def SameCtrs (p : Nat → Prop) (s t : State) : Prop := ∀ k : Nat, ¬ p k → t.ctr k = s.ctr k

/-- A key of the Icehouse event table, which every emitted event changes (R462–R464). -/
abbrev evtKey (k : Nat) : Prop := 0x47104000 ≤ k ∧ k < 0x47108000

/-- Every byte of memory and of the NV store reads the same. -/
def SameMemory (s t : State) : Prop := (∀ a, t.rdByte a = s.rdByte a) ∧ ∀ o, t.rdNv o = s.rdNv o

/-- Every byte of memory whose address does not satisfy `p` reads the same. -/
def SameBytes (p : Nat → Prop) (s t : State) : Prop := ∀ a, ¬ p a → t.rdByte a = s.rdByte a

/-- Every byte of the NV store whose window offset does not satisfy `p` reads the same. -/
def SameNv (p : Nat → Prop) (s t : State) : Prop := ∀ o, ¬ p o → t.rdNv o = s.rdNv o

/-- A key in the entries that some event codes have in the Icehouse event table (R462). -/
abbrev evtOf (codes : List Nat) (k : Nat) : Prop := ∃ c ∈ codes, 0x47104000 + 0x20 * evtIndex c ≤ k ∧ k < 0x47104020 + 0x20 * evtIndex c

/-- A key of the Lodge: its records, sequence number, state, counts and notices (R445–R448). -/
abbrev lodgeKey (k : Nat) : Prop :=
  k = GH_LODGE_STATE.key ∨ k = GH_LODGE_SEQ.key ∨ (∃ i, k = (GH_NOTICE i).key) ∨ (∃ i, k = GH_LODGE_COUNT i) ∨ ∃ i j, k = (GH_LODGE_REC i j).key

/-- A key of a register that each core has of its own, reset when the core's domain comes up (R498, R539). -/
abbrev coreKey (k : Nat) : Prop :=
  ∃ n, k ∈ [(BUF_TE_CMD n).key, (BUF_TE_KEY0 n).key, (BUF_TE_KEY1 n).key, (BUF_TE_RES0 n).key, (BUF_TE_RES1 n).key, (HIF_CPL0 n).key,
    (HIF_CPL1 n).key, (HIF_CPL2 n).key, (HIF_XFER0 n).key, (HIF_XFER1 n).key, (HIF_XFER2 n).key, (HIF_XFER3 n).key, (SDL_CMP_LO n).key,
    (SDL_CMP_HI n).key, (SDL_CMP_CTL n).key]

/-- Of the registers and two-word counters only those named, those whose key satisfies `p`, and the entries of some events may differ. -/
def OnlyOr (p : Nat → Prop) (keys codes : List Nat) (s t : State) : Prop :=
  SameRegs (fun k => k ∈ keys ∨ evtOf codes k ∨ p k) s t ∧ SameCtrs (fun k => k ∈ keys ∨ evtOf codes k ∨ p k) s t

/-- Of the registers and two-word counters only those named and the entries of some events may differ. -/
abbrev Only (keys codes : List Nat) (s t : State) : Prop := OnlyOr (fun _ => False) keys codes s t

/-- Memory and the NV store are in canonical form: addresses rise strictly and no entry equals what an unlisted address reads as. -/
def Memory.wf (s : State) : Bool := twf 0 s.mem && twf 0xFF s.nv

/-- The canonical form of everything kept by address: memory and the NV store, the registers and the two-word counters. States whose tables
read alike are then equal data. -/
abbrev Canonical (s : State) : Prop := Memory.wf s = true ∧ tsorted s.regs = true ∧ twf 0 s.ctrs = true

/-- An erase in progress is of a sector of its bank, and the commit engine works on one of the two slots (R391, R407, R414, R417). -/
abbrev NvBanks (s : State) : Prop :=
  (∀ e ∈ s.nvs.erase, ∀ x ∈ e.2, e.1 = bankOf x.sector) ∧ (∀ c ∈ s.nvs.commit, c.1 < 2)

/-! ### Track sequencers (spec/07_track_sequencers.md) -/

/-- A sequencer executes the word a command names: its domain is on, it is RUNNING and nothing occupies it (R229, R230). -/
abbrev Running (a : Nat) (s : State) : Prop := s.domOn a = true ∧ seqState a s = 2 ∧ (seq a s).block = .none

/-- A word took one cycle and is shown in PC (R229). -/
abbrev OneCycle (a : Nat) (s t : State) : Prop :=
  seqPc a t = (seq a s).npc % 8192 ∧ t.rd (SEQ_CYCLES a) = s.rd (SEQ_CYCLES a) + 1 ∧ t.rd (SEQ_BUSY a) = s.rd (SEQ_BUSY a) + 1

/-- The next word follows (R227). -/
abbrev NextWord (a : Nat) (s t : State) : Prop := (seq a t).npc = ((seq a s).npc + 1) % 8192 ∧ seqState a t = 2

/-- A general register holds a result, g0 holds 0, and the others keep their value (R227). -/
abbrev GResult (a : Nat) (ra : BitVec 5) (v : W32) (s t : State) : Prop :=
  gGet a ra t = (if ra = 0 then 0 else v) ∧ ∀ r : BitVec 5, r ≠ ra → gGet a r t = gGet a r s

/-- A word writes a result to gA and goes on with the next word. -/
abbrev Computes (a : Nat) (ra : BitVec 5) (v : W32) (s t : State) : Prop := OneCycle a s t ∧ NextWord a s t ∧ GResult a ra v s t

/-- A target that the word executing may name: IMM[15:13] is 0, and from the Allotment it is a word 0 to 63 or one of the Allotment (R227, R254). -/
abbrev TargetOk (a : Nat) (imm : BitVec 16) (s : State) : Prop :=
  imm.toNat < 8192 ∧ ((seq a s).npc % 8192 < 6144 ∨ imm.toNat < 64 ∨ 6144 ≤ imm.toNat)

/-- A sequencer fault with a cause (R252): halted, no running operation, the cause and its word recorded, 0x3003 counted. -/
abbrev SeqFaulted (a : Nat) (cause : Fld) (s t : State) : Prop :=
  seqState a t = 5 ∧ t.fld (SEQ_FAULT a) cause = 1 ∧ t.fld (SEQ_EVENTS a) F_SEQ_EVENTS_FAULT = 1 ∧ runSlot a t = none ∧ Counted 0x3003 s t

/-! ### The tag engine (spec/08_buffer_cache.md) -/

/-- The 40-bit key in a core's command window (BUF_TE_KEY0, BUF_TE_KEY1). -/
abbrev teKey (c : Nat) (s : State) : Nat := (s.rd (BUF_TE_KEY0 c)).toNat + s.fld (BUF_TE_KEY1 c) F_BUF_TE_KEY1_KEY_HI * 2 ^ 32

/-- The tag entry that COMMIT, RELEASE and FILL_DONE name: SET in KEY_LO, WAY in KEY_HI. -/
abbrev teEntry (c : Nat) (s : State) : Nat := 16 * (teKey c s % 8192) + teKey c s / 2 ^ 32 % 16

/-- The task of a core's command window. -/
abbrev teTask (c : Nat) (s : State) : Nat := s.fld (BUF_TE_KEY1 c) F_BUF_TE_KEY1_TASK

/-- The result of the last operation of a core's window (R269). -/
abbrev teCode (c : Nat) (t : State) : Nat := t.fld (BUF_TE_RES0 c) F_BUF_TE_RES0_CODE

/-! ### Host commands (spec/09_host_interface.md) -/

/-- A tag holds a presented command of a kind and an opcode, and no Sanitize is in progress (R316, R335). -/
abbrev Presented (t : Nat) (admin : Bool) (op : Nat) (x : HTask) (s : State) : Prop :=
  task t s = some x ∧ x.st = 2 ∧ x.admin = admin ∧ x.op = op ∧ s.hif.sanit = none ∧ x.odd = false

/-- One completion is posted: for a tag, with a Status Code Type and Status Code (R320). -/
abbrev Completes (t sct sc : Nat) (s u : State) : Prop :=
  u.hif.cpls.dropLast = s.hif.cpls ∧ u.hif.cpls.getLast?.map (fun c => (c.tag, c.status / 2 ^ 16 % 2 ^ 11)) = some (t, 256 * sct + sc) ∧
    (task t u).map (fun x => x.st) = some 3

/-! ### Messages (spec/10_firmware_platform.md, spec/12_gatehouse.md) -/

/-- The queue toward end `e` has room for `n` words, none waits before them, and neither end of the channel is in reset (R371, R374, R449). -/
abbrev ReplyRoom (c e n : Nat) (s : State) : Prop :=
  kwords (kq c e s) + n ≤ 16 ∧ (∀ h ∈ s.replies, ¬ (h.chan = c ∧ h.toEnd = e)) ∧ endInReset c 0 s = false ∧ endInReset c 1 s = false

/-- A reply of one fragment is posted toward end `e`: its header, the status and the payload (R372, R449). -/
abbrev Replied (c e op seq status : Nat) (payload : List W32) (s t : State) : Prop :=
  kq c e t = kq c e s ++ (replyHeader op seq (payload.length + 1) false :: BitVec.ofNat 32 status :: payload).map KItem.word

/-- No earlier message of a channel is under way and none waits: the next one is served at once (R374, R449). -/
abbrev Turn (c : Nat) (s : State) : Prop := msgBusy c s = false ∧ ∀ x ∈ s.held, x.chan ≠ c

/-- Resident firmware serves a host channel: recovery mode is not in force, and no earlier message of the channel goes first (R363, R374, R512). -/
abbrev Serves (ch : Chan) (s : State) : Prop := ch.toNat < 8 ∧ s.fld PWR_BOOT F_PWR_BOOT_RECOVERY = 0 ∧ Turn ch.toNat s

end Sys2Proof.Machine
end

