-- ==== Sys2Proof/Certificates/Slice0/Obligations.lean ====
section
/-! DEFINITION. The statements about the controller that the provers settle: one step, reset and the canonical form; then family by family what
each command does, with the chapters of spec/ in order; then what each command leaves unchanged. -/

open Sys2Proof Sys2Proof.Machine

/-- A step is exec of the front command with the queue's rest. That an empty queue passes one reference edge (R458) is the model's choice (log entry 1). -/
def Obligations.StepRunsFront : Prop :=
  (∀ c s, step { s with pending := c :: s.pending } = exec c s) ∧
  (∀ c l s, s.pending = c :: l → step s = exec c { s with pending := l }) ∧
  (∀ s, s.pending = [] → ∃ t, step s = .next t ∧ t.sdl.now = (s.sdl.now + 10) % 2 ^ 64 ∧ t.pending = [])

/-- The state after reset. That memory reads 0 and the NV store is blank is the model's choice (log entries 2 and 3). -/
def Obligations.ResetState : Prop :=
  (∀ r : Reg, State.reset.rd r = r.rst) ∧ (∀ k, State.reset.ctr k = 0) ∧ (∀ d, State.reset.domOn d = decide (d = 102)) ∧
  (∀ a, State.reset.rdByte a = 0) ∧ (∀ o, State.reset.rdNv o = 0xFF) ∧ State.reset.pending = [] ∧ State.reset.snap = [] ∧
  State.reset.rd PWR_BOOT = 0 ∧ State.reset.rd PWR_RESET_CAUSE = 1 ∧ State.reset.fld NVS_WS F_NVS_WS_WS = 23 ∧ Canonical State.reset ∧ NvBanks State.reset

/-- Every command of the table has an effect in every state; every step keeps the canonical form; the queue is the step's alone. -/
def Obligations.StepsKeepCanonicalForm : Prop :=
  (∀ s, ∃ t, step s = .next t ∧ (Canonical s → Canonical t)) ∧ (∀ c s t, exec c s = .next t → t.pending = s.pending) ∧
  (∀ s t, NvBanks s → step s = .next t → NvBanks t)

/-- R6, R7, R26, R29, R31, R37, R393, R492, R510: writes by address. That a store to the boot ROM has no effect, and that 64-bit writes are two commands, is the model's reading. -/
def Obligations.RegisterWrites : Prop :=
  (∀ m a v s, m.toNat ≠ 9 → inRegs a.toNat = true → a.toNat % 4 = 0 → gatedOff a.toNat s = true → ∃ t, exec (.registerWrite m a v) s = .next t ∧ BadAccess s t ∧
      SameRegs (fun k => k = PWR_BAD_ACCESS.key) s t ∧ SameCtrs (fun _ => False) s t ∧ SameMemory s t ∧ t.plat = s.plat) ∧
  (∀ m a v s, m.toNat ≠ 9 → inRegs a.toNat = true → a.toNat % 4 = 0 → gatedOff a.toNat s = false → specOf a.toNat = none → ctrOf a.toNat = none →
      inStore a.toNat = false → exec (.registerWrite m a v) s = .next s) ∧
  (∀ m a v s, m.toNat ≠ 9 → a.toNat % 4 = 0 → gatedOff a.toNat s = false → inStore a.toNat = true → ∃ t, exec (.registerWrite m a v) s = .next t ∧ Denied s t ∧
      SameRegs (fun k => k = PWR_DENIED_WRITES.key) s t ∧ t.seqs = s.seqs ∧ SameMemory s t) ∧
  (∀ m a v r s, m.toNat ≠ 9 → inRegs a.toNat = true → a.toNat % 4 = 0 → (a.toNat < 0x44000000 ∨ 0x44016000 ≤ a.toNat) → gatedOff a.toNat s = false →
      specOf a.toNat = some r → writable m r s = false → ∃ t, exec (.registerWrite m a v) s = .next t ∧ Denied s t ∧ SameRegs (fun k => k = PWR_DENIED_WRITES.key) s t ∧
      SameCtrs (fun _ => False) s t ∧ SameMemory s t ∧ t.plat = s.plat ∧ t.hif = s.hif) ∧
  (∀ m v s, m.toNat ≠ 9 → ∃ t, exec (.registerWrite m 0x49010004 v) s = .next t ∧
      t.fld CLK_STATUS F_CLK_STATUS_REF_LOST_STICKY = (if v.toNat.testBit 30 then 0 else s.fld CLK_STATUS F_CLK_STATUS_REF_LOST_STICKY) ∧
      t.fld CLK_STATUS F_CLK_STATUS_REF_LOST = s.fld CLK_STATUS F_CLK_STATUS_REF_LOST ∧ SameRegs (fun k => k = CLK_STATUS.key) s t ∧ SameMemory s t) ∧
  (∀ m v s, m.toNat ≠ 9 → (shedOpen 0 s = true → ∃ t, exec (.registerWrite m 0x42007F00 v) s = .next t ∧ t.rd BUF_FLIPMASK0 = v ∧
        SameRegs (fun k => k = BUF_FLIPMASK0.key) s t) ∧
      (shedOpen 0 s = false → ∃ t, exec (.registerWrite m 0x42007F00 v) s = .next t ∧ Denied s t ∧ SameRegs (fun k => k = PWR_DENIED_WRITES.key) s t)) ∧
  (∀ m a v s, m.toNat ≠ 9 → inSram a.toNat = true → inSram (a.toNat + 3) = true → ∃ t, exec (.registerWrite m a v) s = .next t ∧
      t.rdBytes a.toNat 4 = leBytes v.toNat 4 ∧ SameBytes (fun x => a.toNat ≤ x ∧ x < a.toNat + 4) s t ∧ t.nv = s.nv ∧ t.regs = s.regs) ∧
  (∀ m a v s, m.toNat ≠ 9 → inNvWin a.toNat = true → ∃ t, exec (.registerWrite m a v) s = .next t ∧ Denied s t ∧
      SameRegs (fun k => k = PWR_DENIED_WRITES.key) s t ∧ SameMemory s t) ∧
  (∀ m a v s, m.toNat = 9 → barOk s = false → exec (.registerWrite m a v) s = .next s) ∧
  (∀ m a v s, m.toNat = 9 → barOk s = true → a.toNat % 4 = 0 → (0x1408 ≤ a.toNat ∧ a.toNat < 0x4000 ∨ 0x100002000 ≤ a.toNat ∧ a.toNat < 0x100400000) →
      ∃ t, exec (.registerWrite m a v) s = .next t ∧ Denied s t ∧ SameRegs (fun k => k = PWR_DENIED_WRITES.key) s t ∧ SameMemory s t ∧ t.hif = s.hif)

/-- R26, R27, R31–R33, R35, R37, R457, R510: accesses without effect, and snapshot captures. -/
def Obligations.AccessesSnapshots : Prop :=
  (∀ m a s, m.toNat ≠ 9 → mapped a.toNat = false → ∃ t, exec (.unmappedAccess m a) s = .next t ∧ t = { s with busErr := true, rdata := 0 }) ∧
  (∀ m a s, mapped a.toNat = true → ∃ t, exec (.unmappedAccess m a) s = .next t ∧ t = { s with busErr := false }) ∧
  (∀ m a n s, m.toNat ≠ 9 → inRegs a.toNat = true → ¬ (n = 4 ∧ a.toNat % 4 = 0) → ¬ (n = 8 ∧ a.toNat % 8 = 0) → ∃ t, exec (.badWidthAccess m a n) s = .next t ∧
      BadAccess s t ∧ t.rdata = 0 ∧ t.busErr = false ∧ SameRegs (fun k => k = PWR_BAD_ACCESS.key) s t ∧ t.ctrs = s.ctrs ∧ SameMemory s t) ∧
  (∀ m a n s, (n = 4 ∧ a.toNat % 4 = 0 ∨ n = 8 ∧ a.toNat % 8 = 0) → exec (.badWidthAccess m a n) s = .next s) ∧
  (∀ m a s, m.toNat ≠ 9 → gatedOff a.toNat s = true → ∃ t, exec (.poweredOffAccess m a) s = .next t ∧ BadAccess s t ∧ t.rdata = 0 ∧ t.busErr = false ∧
      SameRegs (fun k => k = PWR_BAD_ACCESS.key) s t ∧ t.ctrs = s.ctrs ∧ SameMemory s t) ∧
  (∀ m a s, gatedOff a.toNat s = false → exec (.poweredOffAccess m a) s = .next s) ∧
  (∀ b o n s, 0 < hostVoid b.toNat o.toNat n → readWindow b.toNat o.toNat = false → ∃ t, exec (.hostReservedAccess b o n false) s = .next t ∧ t = { s with rdata := 0 }) ∧
  (∀ b o n s, hostVoid b.toNat o.toNat n = 2 → barOk s = true → ∃ t, exec (.hostReservedAccess b o n true) s = .next t ∧ Denied s t ∧
      SameRegs (fun k => k = PWR_DENIED_WRITES.key) s t ∧ t.hif = s.hif ∧ SameMemory s t) ∧
  (∀ b o n s, (hostVoid b.toNat o.toNat n = 1 ∨ hostVoid b.toNat o.toNat n = 2 ∧ barOk s = false) → exec (.hostReservedAccess b o n true) s = .next s) ∧
  (∀ m a n j s, m.toNat ≠ 9 → snapWords a.toNat = some n → gatedOff a.toNat s = false → j < n → ∃ t, exec (.snapshotCaptureRead m a false) s = .next t ∧
      t.rdata = regWord a.toNat s ∧ snapRead 0 (a.toNat + 4 * j) t = regWord (a.toNat + 4 * j) s ∧ snapRead (2 ^ 56) (a.toNat + 4 * j) t = snapRead (2 ^ 56) (a.toNat + 4 * j) s ∧
      SameRegs (fun k => k = RCH_POOL_STATE2.key) s t ∧ t.ctrs = s.ctrs ∧ SameMemory s t) ∧
  (∀ m a n s, m.toNat ≠ 9 → snapWords a.toNat = some n → gatedOff a.toNat s = true → ∃ t, exec (.snapshotCaptureRead m a false) s = .next t ∧ t.rdata = 0 ∧ BadAccess s t ∧
      t.snap = s.snap) ∧
  (∀ a n j s, snapWords a.toNat = some n → barOk s = true → inMirror a.toNat = true → j < n → ∃ t, exec (.snapshotCaptureRead 9 a true) s = .next t ∧
      t.rdata = regWord a.toNat s ∧ snapRead (2 ^ 56) (a.toNat + 4 * j) t = regWord (a.toNat + 4 * j) s ∧ snapRead 0 (a.toNat + 4 * j) t = snapRead 0 (a.toNat + 4 * j) s ∧
      t.regs = s.regs ∧ SameMemory s t)

/-- R49: what START, BRAKE and COAST do in each state of the spindle. -/
def Obligations.SpindleCommands : Prop :=
  (∀ m h s, mayCmd m = true → s.domOn 103 = true → spnForced h.toNat s = true → ∃ t, exec (.start m h) s = .next t ∧
      spnState h.toNat t = spnState h.toNat s ∧ t.fld (SPN_FAULT h.toNat) F_SPN_FAULT_CMD_REFUSED = 1 ∧ Counted 0x500A s t ∧ t.spnQueue = s.spnQueue) ∧
  (∀ m h s, mayCmd m = true → s.domOn 103 = true → spnForced h.toNat s = false → graveLatched s = false → h.toNat ∉ s.spnQueue →
      (spnState h.toNat s = 0 ∨ spnState h.toNat s = 7 ∨ spnState h.toNat s = 6 ∨ (spnState h.toNat s = 8 ∧ (spin h.toNat s).accel = false)) →
      ∃ t, exec (.start m h) s = .next t ∧ t.spnQueue = s.spnQueue ++ [h.toNat] ∧ t.fld (SPN_STATE h.toNat) F_SPN_STATE_PENDING = 1 ∧
        spnState h.toNat t = spnState h.toNat s) ∧
  (∀ m h s, mayCmd m = true → s.domOn 103 = true → spnForced h.toNat s = false → graveLatched s = false → 1 ≤ spnState h.toNat s → spnState h.toNat s ≤ 5 →
      exec (.start m h) s = .next s) ∧
  (∀ m h s, mayCmd m = true → s.domOn 103 = true → spnForced h.toNat s = true ∨ hdaLoaded h.toNat s = true →
      (∃ t, exec (.brake m h) s = .next t ∧ spnState h.toNat t = spnState h.toNat s ∧ t.fld (SPN_FAULT h.toNat) F_SPN_FAULT_CMD_REFUSED = 1 ∧
        Counted 0x500A s t ∧ t.spnQueue = s.spnQueue) ∧
      ∃ t, exec (.coast m h) s = .next t ∧ spnState h.toNat t = spnState h.toNat s ∧ t.fld (SPN_FAULT h.toNat) F_SPN_FAULT_CMD_REFUSED = 1 ∧
        Counted 0x500A s t ∧ t.spnQueue = s.spnQueue) ∧
  (∀ m h s, mayCmd m = true → s.domOn 103 = true → spnForced h.toNat s = false → hdaLoaded h.toNat s = false →
      ∃ t, exec (.brake m h) s = .next t ∧
        (spnState h.toNat s = 0 ∨ spnState h.toNat s = 7 → spnState h.toNat t = spnState h.toNat s ∧ h.toNat ∉ t.spnQueue ∧
          t.fld (SPN_STATE h.toNat) F_SPN_STATE_PENDING = 0) ∧
        (1 ≤ spnState h.toNat s → spnState h.toNat s ≤ 3 → spnState h.toNat t = 8 ∧ (spin h.toNat t).accel = false) ∧
        (spnState h.toNat s = 4 ∨ spnState h.toNat s = 5 →
          spnState h.toNat t = if s.fld (SPN_STATE h.toNat) F_SPN_STATE_REGEN_INHIBIT = 1 then 8 else 6) ∧
        (spnState h.toNat s = 6 ∨ spnState h.toNat s = 8 → t = s)) ∧
  (∀ m h s, mayCmd m = true → s.domOn 103 = true → spnForced h.toNat s = false → hdaLoaded h.toNat s = false →
      ∃ t, exec (.coast m h) s = .next t ∧ h.toNat ∉ t.spnQueue ∧ (spin h.toNat t).accel = false ∧
        t.fld (SPN_STATE h.toNat) F_SPN_STATE_PENDING = 0 ∧ spnState h.toNat t = if spnState h.toNat s = 0 then 0 else 7) ∧
  (∀ m h v mask s, mayCmd m = true → s.domOn 103 = false →
      exec (.start m h) s = .next (badAccess s) ∧ exec (.brake m h) s = .next (badAccess s) ∧ exec (.coast m h) s = .next (badAccess s) ∧
      exec (.targetWrite m h v) s = .next (badAccess s) ∧ exec (.startMask m mask) s = .next (badAccess s))

/-- R51, R53, R54, R70–R72: target and starting. -/
def Obligations.SpindleStarts : Prop :=
  (∀ m h v s, mayCmd m = true → s.domOn 103 = true → hdaLoaded h.toNat s = true → ∃ t, exec (.targetWrite m h v) s = .next t ∧
      t.rd (SPN_TARGET h.toNat) = s.rd (SPN_TARGET h.toNat) ∧ t.fld (SPN_FAULT h.toNat) F_SPN_FAULT_TARGET_REFUSED = 1 ∧ Counted 0x500B s t) ∧
  (∀ m h v s, mayCmd m = true → s.domOn 103 = true → hdaLoaded h.toNat s = false → 3600 ≤ fget v F_SPN_TARGET_RPM → fget v F_SPN_TARGET_RPM ≤ 10000 →
      ∃ t, exec (.targetWrite m h v) s = .next t ∧ t.fld (SPN_TARGET h.toNat) F_SPN_TARGET_RPM = fget v F_SPN_TARGET_RPM ∧
        (spnState h.toNat s = 5 → fget v F_SPN_TARGET_RPM ≠ s.fld (SPN_TARGET h.toNat) F_SPN_TARGET_RPM → spnState h.toNat t = 4)) ∧
  (∀ m mask s, mayCmd m = true → s.domOn 103 = true → graveLatched s = false → s.spnQueue = [] →
      (∀ h ∈ bitsOf 16 mask.toNat, spnForced h s = false ∧ (spnState h s = 0 ∨ spnState h s = 7)) →
      ∃ t, exec (.startMask m mask) s = .next t ∧ t.spnQueue = bitsOf 16 mask.toNat ∧
        ∀ h ∈ bitsOf 16 mask.toNat, t.fld (SPN_STATE h) F_SPN_STATE_PENDING = 1) ∧
  (∀ s h q, s.spnQueue = h :: q → h ∉ q → s.plat.rst = .run → (accelerating s).length < s.fld SPN_ACCEL_MAX F_SPN_ACCEL_MAX_MAX →
      ∃ t, exec .startAdmitted s = .next t ∧ t.spnQueue = q ∧ (spin h t).accel = true ∧ t.fld (SPN_STATE h) F_SPN_STATE_PENDING = 0 ∧
        Counted 0x5001 s t ∧ (spnState h s = 0 → spnState h t = 2) ∧ (spnState h s = 7 → spnState h t = 1) ∧ (spnState h s = 6 → spnState h t = 4) ∧
        (spnState h s = 8 → spnState h t = 8)) ∧
  (∀ s, s.fld SPN_ACCEL_MAX F_SPN_ACCEL_MAX_MAX ≤ (accelerating s).length → exec .startAdmitted s = .next s) ∧
  (∀ h s, spnState h.toNat s = 2 → ∃ t, exec (.alignDone h) s = .next t ∧ spnState h.toNat t = 3 ∧ (spin h.toNat t).step = 2 ∧
      t.fld (SPN_SPEED0 h.toNat) F_SPN_SPEED0_RPM_X16 = 16 * s.fld (SPN_START1 h.toNat) F_SPN_START1_OL_START_RPM % 2 ^ 20) ∧
  (∀ h s, spnState h.toNat s = 3 → ∃ t, exec (.rampEnd h) s = .next t ∧ spnState h.toNat t = 3 ∧ (spin h.toNat t).looking = true ∧
      t.fld (SPN_SPEED0 h.toNat) F_SPN_SPEED0_RPM_X16 = 16 * s.fld (SPN_START1 h.toNat) F_SPN_START1_OL_END_RPM % 2 ^ 20) ∧
  (∀ h v s, spnState h.toNat s = 3 → (spin h.toNat s).looking = true → 6 ≤ (spin h.toNat s).crossings →
      ∃ t, exec (.handover h v) s = .next t ∧ spnState h.toNat t = 4 ∧ (spin h.toNat t).setpoint = 4096 * v.toNat ∧
        t.fld (SPN_SPEED0 h.toNat) F_SPN_SPEED0_RPM_X16 = v.toNat) ∧
  (∀ h s, spnState h.toNat s = 3 → (spin h.toNat s).looking = true → (spin h.toNat s).attempts = 0 →
      ∃ t, exec (.handoverTimeout h) s = .next t ∧ spnState h.toNat t = 8 ∧ (spin h.toNat t).attempts = 1 ∧ (spin h.toNat t).accel = (spin h.toNat s).accel) ∧
  (∀ h s, spnState h.toNat s = 3 → (spin h.toNat s).looking = true → (spin h.toNat s).attempts ≠ 0 →
      ∃ t, exec (.handoverTimeout h) s = .next t ∧ spnState h.toNat t = 8 ∧ (spin h.toNat t).accel = false ∧
        t.fld (SPN_FAULT h.toNat) F_SPN_FAULT_START_FAIL = 1)

/-- R42–R45, R60–R68: driving and catching. -/
def Obligations.SpindleDrive : Prop :=
  (∀ h ton iu iv s, s.domOn 103 = true → 2 ≤ spnState h.toNat s → spnState h.toNat s ≤ 6 → (spin h.toNat s).group = [] →
      tMin h.toNat s ≤ onTime h.toNat (regulate h.toNat ton.toNat s) →
      ∃ t, exec (.pwmPeriod h ton iu iv) s = .next t ∧ t.fld (SPN_CURRENT0 h.toNat) F_SPN_CURRENT0_I_U = iu.toNat ∧
        t.fld (SPN_CURRENT0 h.toNat) F_SPN_CURRENT0_I_V = iv.toNat ∧ t.fld (SPN_SPEED0 h.toNat) F_SPN_SPEED0_PREDICTED = 0 ∧
        (spin h.toNat t).skips = 0 ∧ (spin h.toNat t).mode = s.fld (SPN_PWM h.toNat) F_SPN_PWM_CUR_MODE) ∧
  (∀ h ton iu iv s, s.domOn 103 = true → 2 ≤ spnState h.toNat s → spnState h.toNat s ≤ 6 → (spin h.toNat s).group = [] →
      onTime h.toNat (regulate h.toNat ton.toNat s) < tMin h.toNat s →
      (spin h.toNat s).mode = 0 → (spin h.toNat s).skips < s.fld (SPN_PWM h.toNat) F_SPN_PWM_MAX_SKIP →
      ∃ t, exec (.pwmPeriod h ton iu iv) s = .next t ∧
        t.fld (SPN_CURRENT0 h.toNat) F_SPN_CURRENT0_I_U =
          ofSigned 16 (2 * curOf (s.rd (SPN_CURRENT0 h.toNat)) F_SPN_CURRENT0_I_U - (spin h.toNat s).prevU) ∧
        t.fld (SPN_SPEED0 h.toNat) F_SPN_SPEED0_PREDICTED = 1 ∧ (spin h.toNat t).skips = (spin h.toNat s).skips + 1 ∧
        (t.rd (SPN_SKIP_COUNT h.toNat)).toNat = satAdd 32 (s.rd (SPN_SKIP_COUNT h.toNat)).toNat 1) ∧
  (∀ h s, s.fld (SPN_PWM h.toNat) F_SPN_PWM_MAX_SKIP ≤ (spin h.toNat s).skips → (spin h.toNat s).skipTold = false →
      ∃ t, exec (.skipRunLimit h) s = .next t ∧ Counted 0x500C s t ∧ (spin h.toNat t).skipTold = true ∧ exec (.skipRunLimit h) t = .next t) ∧
  (∀ h phase v0 v1 s b back, 3 ≤ spnState h.toNat s → spnState h.toNat s ≤ 6 →
      crossing (v0.toInt - bemfThreshold h.toNat phase.toNat s) (v1.toInt - bemfThreshold h.toNat phase.toNat s) = some (b, back) →
      s.fld (SPN_COMM h.toNat) F_SPN_COMM_BLANK * (spin h.toNat s).prevDur ≤ (mticks s - back - (spin h.toNat s).stepAt) * 100 →
      floatOf (spin h.toNat s).step = (phase.toNat, b) → (spin h.toNat s).xSeen = false →
      ∃ t, exec (.zeroCrossing h phase v0 v1) s = .next t ∧ (spin h.toNat t).stepDue = true ∧ (spin h.toNat t).xAt = mticks s - back ∧
        t.rd (SPN_SPEED1 h.toNat) =
          BitVec.ofNat 32 (if (spin h.toNat s).xs.length < 6 then 0 else mticks s - back - (spin h.toNat s).xs.getD 5 0) ∧
        t.fld (SPN_STATE h.toNat) F_SPN_STATE_DIR = 0) ∧
  (∀ h s, 4 ≤ spnState h.toNat s → spnState h.toNat s ≤ 6 → (spin h.toNat s).stepDue = true →
      ∃ t, exec (.commutationStep h) s = .next t ∧ (spin h.toNat t).step = (spin h.toNat s).step % 6 + 1 ∧ (spin h.toNat t).stepDue = false) ∧
  (∀ h ma ton s, 2 ≤ spnState h.toNat s → spnState h.toNat s ≤ 6 → s.fld (SPN_ILIMIT h.toNat) F_SPN_ILIMIT_LIMIT_MA < ma.toNat →
      ∃ t, exec (.currentLimit h ma ton) s = .next t ∧ t.fld (SPN_CURRENT1 h.toNat) F_SPN_CURRENT1_DUTY = min (ton.toNat * 65536 / 20000) 65535) ∧
  (∀ h ma s, 2 ≤ spnState h.toNat s → spnState h.toNat s ≤ 6 → s.fld (SPN_ILIMIT h.toNat) F_SPN_ILIMIT_TRIP_MA < ma.toNat →
      ∃ t, exec (.overcurrentTrip h ma) s = .next t ∧ spnState h.toNat t = 7 ∧ (spin h.toNat t).accel = false ∧ h.toNat ∉ t.spnQueue ∧
        t.fld (SPN_FAULT h.toNat) F_SPN_FAULT_OVERCURRENT = 1) ∧
  (∀ h n l mv s, spnState h.toNat s = 1 → n ≠ 0 →
      (300 ≤ catchRpm (s.fld (SPN_MOTOR h.toNat) F_SPN_MOTOR_POLE_PAIRS) n.toNat →
        ∃ t, exec (.catchDecided h 0 n l mv) s = .next t ∧ spnState h.toNat t = 4 ∧ t.fld (SPN_CATCH h.toNat) F_SPN_CATCH_RESULT = 1 ∧
          (spin h.toNat t).step = l.toNat % 6 + 1) ∧
      (∃ t, exec (.catchDecided h 1 n l mv) s = .next t ∧ spnState h.toNat t = 8 ∧ t.fld (SPN_CATCH h.toNat) F_SPN_CATCH_RESULT = 3 ∧
          t.fld (SPN_STATE h.toNat) F_SPN_STATE_DIR = 1) ∧
      ∃ t, exec (.catchDecided h 2 n l mv) s = .next t ∧ spnState h.toNat t = 8 ∧ t.fld (SPN_CATCH h.toNat) F_SPN_CATCH_RESULT = 2) ∧
  (∀ h s, spnState h.toNat s = 1 → ∃ t, exec (.catchWindowExpired h) s = .next t ∧ spnState h.toNat t = 8 ∧
      t.fld (SPN_CATCH h.toNat) F_SPN_CATCH_RESULT = 2 ∧ t.fld (SPN_CATCH h.toNat) F_SPN_CATCH_RPM = 0 ∧ Counted 0x5003 s t)

/-- R48, R56, R62, R73, R74: speed and stopping. -/
def Obligations.SpindleSpeed : Prop :=
  (∀ h v s, spnState h.toNat s = 4 → within h.toNat v.toNat 1 s = true → 32 ≤ (spin h.toNat s).revRun →
      (spin h.toNat s).setpoint = 65536 * s.fld (SPN_TARGET h.toNat) F_SPN_TARGET_RPM →
      ∃ t, exec (.atSpeedReached h v) s = .next t ∧ spnState h.toNat t = 5 ∧
      (spin h.toNat t).accel = false ∧ (spin h.toNat t).setpoint = 65536 * s.fld (SPN_TARGET h.toNat) F_SPN_TARGET_RPM ∧ Counted 0x5002 s t) ∧
  (∀ h v s, spnState h.toNat s = 5 → within h.toNat v.toNat 10 s = false → ∃ t, exec (.speedOutOfTolerance h v) s = .next t ∧ spnState h.toNat t = 4 ∧
      (spin h.toNat t).setpoint = (spin h.toNat s).setpoint) ∧
  (∀ h v s, hdaLoaded h.toNat s = true → within h.toNat v.toNat 50 s = false → spnState h.toNat s = 4 ∨ spnState h.toNat s = 5 →
      ∃ t, exec (.speedBandFault h v) s = .next t ∧ spnState h.toNat t = 4 ∧ t.fld (SPN_FAULT h.toNat) F_SPN_FAULT_SPEED_BAND = 1 ∧
        ∀ a ∈ actsOf h.toNat, actState a t = 6 ∨ actState a t = 7) ∧
  (∀ h s, (spin h.toNat s).accel = true → ∃ t, exec (.spinupTimeout h) s = .next t ∧ (spin h.toNat t).accel = false ∧
      t.fld (SPN_FAULT h.toNat) F_SPN_FAULT_SPINUP_TMO = 1 ∧
      spnState h.toNat t = if 1 ≤ spnState h.toNat s ∧ spnState h.toNat s ≤ 4 then 6 else spnState h.toNat s) ∧
  (∀ h s, spnState h.toNat s = 8 → ∃ t, exec (.below30Rpm h) s = .next t ∧ spnState h.toNat t = if (spin h.toNat s).accel then 2 else 0) ∧
  (∀ h v s, spnState h.toNat s = 6 → inPowerBrake h.toNat s = false → v.toNat < 16 * s.fld (SPN_BRAKE h.toNat) F_SPN_BRAKE_HANDOFF_RPM →
      ∃ t, exec (.brakeHandoff h v) s = .next t ∧ spnState h.toNat t = 8) ∧
  (∀ h s, spnState h.toNat s = 8 → ∃ t, exec (.shortBrakeTimeout h) s = .next t ∧ spnState h.toNat t = 8 ∧
      t.fld (SPN_FAULT h.toNat) F_SPN_FAULT_BRAKE_TMO = 1 ∧ Counted 0x5008 s t)

/-- R78–R81, R435: the motor rails. -/
def Obligations.MotorRails : Prop :=
  (∀ r mv s, 13600 ≤ mv.toNat → ∃ t, exec (.chopperOn r mv) s = .next t ∧ t.fld (GH_RAIL r.toNat) F_GH_RAIL_CHOP_ON = 1) ∧
  (∀ r mv s, mv.toNat ≤ 13000 → ∃ t, exec (.chopperOff r mv) s = .next t ∧ t.fld (GH_RAIL r.toNat) F_GH_RAIL_CHOP_ON = 0) ∧
  (∀ r mv ma s, 14400 ≤ mv.toNat ∨ (13600 ≤ mv.toNat ∧ ma.toNat < 500 ∧ s.fld (GH_RAIL r.toNat) F_GH_RAIL_CHOP_ON = 1) →
      s.fld (GH_RAIL r.toNat) F_GH_RAIL_CHOP_FAULT = 0 → ∃ t, exec (.chopperFault r mv ma) s = .next t ∧
        t.fld (GH_RAIL r.toNat) F_GH_RAIL_CHOP_FAULT = 1 ∧
        ∀ h ∈ hdasOf r.toNat, t.fld (SPN_STATE h) F_SPN_STATE_REGEN_INHIBIT = 1 ∧
          (regenerating h s = true → spnState h t = 8 ∧ t.fld (SPN_STATE h) F_SPN_STATE_CAUSE = 2 ∧ spnForced h t = true)) ∧
  (∀ r mv s, 15200 ≤ mv.toNat → ∃ t, exec (.railOvervoltage r mv) s = .next t ∧ graveLatched t = true ∧
      t.fld (GH_RAIL r.toNat) F_GH_RAIL_GRAVE_OV = 1 ∧
      (graveLatched s = false → t.fld GH_GRAVE F_GH_GRAVE_CAUSE = 0xA104 ∧ ∀ h ∈ hdasOf r.toNat, spnState h t = 8 ∧ spnForced h t = true)) ∧
  (∀ r mv s, mv.toNat < 10800 → ∃ t, exec (.powerLossDetected r mv) s = .next t ∧
      t.fld (GH_RAIL r.toNat) F_GH_RAIL_PWRLOSS = 1 ∧
      ∀ h ∈ hdasOf r.toNat, (spnState h s = 0 ∨ spnState h s = 8 → spnState h t = spnState h s) ∧
        (spnState h s ≠ 0 → spnState h s ≠ 8 → railRetracting r.toNat t = true →
          spnState h t = 6 ∧ t.fld (SPN_STATE h) F_SPN_STATE_CAUSE = 3 ∧ spnForced h t = true)) ∧
  (∀ h v s, inPowerBrake h.toNat s = true → railRetracting (railOf h.toNat) s = false ∨ v.toNat < 16 * s.fld (SPN_BRAKE h.toNat) F_SPN_BRAKE_HANDOFF_RPM →
      ∃ t, exec (.powerLossBrakeEnd h v) s = .next t ∧ spnState h.toNat t = 7 ∧ spnForced h.toNat t = false) ∧
  (∀ r mv s, s.fld (GH_RAIL r.toNat) F_GH_RAIL_PWRLOSS = 1 → 11400 ≤ mv.toNat → (∀ h ∈ hdasOf r.toNat, inPowerBrake h s = false) →
      ∃ t, exec (.railRecovered r mv) s = .next t ∧ t.fld (GH_RAIL r.toNat) F_GH_RAIL_PWRLOSS = 0 ∧ Counted 0xA008 s t)

/-- R87, R92, R96, R98: the wedge. -/
def Obligations.ServoWedge : Prop :=
  (∀ h rpm pos sync s, ∃ t, exec (.servoWedge h rpm pos sync) s = .next t ∧
      t.fld (SRV_STATUS h.toNat) F_SRV_STATUS_INDEX =
        (s.fld (SRV_STATUS h.toNat) F_SRV_STATUS_INDEX + 1) % s.fld (SRV_WEDGE h.toNat) F_SRV_WEDGE_WEDGES % 1024 ∧
      ∀ a ∈ actsOf h.toNat, t.rd (SRV_WEDGE_COUNT a) = if s.domOn a then s.rd (SRV_WEDGE_COUNT a) + 1 else s.rd (SRV_WEDGE_COUNT a)) ∧
  (∀ (c : Coefs) (bq : List (Int × Int × Int × Int)) (integ e ff : Int), (loopCompute c bq integ e ff).o.natAbs ≤ c.lim) ∧
  (∀ (x : Int), -2147483648 ≤ (sat32 x).1 ∧ (sat32 x).1 ≤ 2147483647 ∧ ((sat32 x).2 = false → (sat32 x).1 = x))

/-- R90, R91, R101, R107, R111, R122: faults of the servo and the wedge timer. -/
def Obligations.ServoFaults : Prop :=
  (∀ a s, loaded a.toNat s = true → 8 ≤ (act a.toNat s).lostRun → ∃ t, exec (.servoLost a) s = .next t ∧
      t.fld (SRV_ACT_FLAGS a.toNat) F_SRV_ACT_FLAGS_SERVO_LOST = 1 ∧ actState a.toNat t = 6 ∧ (retr a.toNat t).isolate = true ∧
      t.fld (GH_ACT_STATUS a.toNat) F_GH_ACT_STATUS_CAUSE = 0x4006) ∧
  (∀ h w s, s.fld (SRV_STATUS h.toNat) F_SRV_STATUS_LOCKED = 0 → (tget {} s.engs h.toNat).syncRun.any (fun n => decide (4 ≤ n)) = true → ∃ t, exec (.timerLock h w) s = .next t ∧
      t.fld (SRV_STATUS h.toNat) F_SRV_STATUS_LOCKED = 1 ∧ Counted 0x4001 s t ∧
      t.fld (SRV_STATUS h.toNat) F_SRV_STATUS_INDEX = w.toNat % s.fld (SRV_WEDGE h.toNat) F_SRV_WEDGE_WEDGES % 1024) ∧
  (∀ h s, s.fld (SRV_STATUS h.toNat) F_SRV_STATUS_LOCKED = 1 → 8 ≤ (tget {} s.engs h.toNat).lossRun → ∃ t, exec (.timerLockLost h) s = .next t ∧
      t.fld (SRV_STATUS h.toNat) F_SRV_STATUS_LOCKED = 0 ∧ Counted 0x4002 s t) ∧
  (∀ a s, actState a.toNat s = 3 ∨ actState a.toNat s = 4 → 256 ≤ (act a.toNat s).vcmClamps → ∃ t, exec (.vcmSatFault a) s = .next t ∧
      t.fld (SRV_ACT_FLAGS a.toNat) F_SRV_ACT_FLAGS_VCM_SAT = 1 ∧ actState a.toNat t = 6 ∧ t.fld (GH_ACT_STATUS a.toNat) F_GH_ACT_STATUS_CAUSE = 0x400A) ∧
  (∀ a s, 1 ≤ actState a.toNat s → actState a.toNat s ≤ 5 → 64 ≤ (act a.toNat s).openRun → ∃ t, exec (.openLimitFault a) s = .next t ∧
      t.fld (SRV_ACT_FLAGS a.toNat) F_SRV_ACT_FLAGS_OPEN_LIMIT = 1 ∧ actState a.toNat t = 6 ∧ t.fld (GH_ACT_STATUS a.toNat) F_GH_ACT_STATUS_CAUSE = 0x4005) ∧
  (∀ a s, actState a.toNat s = 1 → ∃ t, exec (.loadingTimeout a) s = .next t ∧
      t.fld (SRV_ACT_FLAGS a.toNat) F_SRV_ACT_FLAGS_LOAD_TMO = 1 ∧ actState a.toNat t = 6 ∧ (retr a.toNat t).isolate = true) ∧
  (∀ a s, actState a.toNat s = 3 → (act a.toNat s).settleTold = false → 8 * s.fld (SRV_SETTLE (hdaOf a.toNat)) F_SRV_SETTLE_TMO ≤ (act a.toNat s).settleWedges →
      ∃ t, exec (.settleTimeout a) s = .next t ∧ actState a.toNat t = 3 ∧ t.fld (SRV_ACT_FLAGS a.toNat) F_SRV_ACT_FLAGS_SETTLE_TMO = 1 ∧ Counted 0x4004 s t)

/-- R102–R105: coefficient pages. -/
def Obligations.CoefficientPages : Prop :=
  (∀ m h v s, mayCmd m = true → coefRefused h.toNat (v ||| 0x100) s = true → ∃ t, exec (.slotOpen m h v) s = .next t ∧ t.loops = s.loops ∧ SameRegs (fun k => k = PWR_DENIED_WRITES.key) s t ∧ Denied s t) ∧
  (∀ m h v s, mayCmd m = true → coefRefused h.toNat (v ||| 0x200) s = true → ∃ t, exec (.slotClose m h v) s = .next t ∧ t.loops = s.loops ∧ SameRegs (fun k => k = PWR_DENIED_WRITES.key) s t ∧ Denied s t) ∧
  (∀ h v s, v.toNat.testBit 8 ≠ v.toNat.testBit 9 → fget v F_SRV_COEF_CTL_CLOSE_MODE ≤ 2 →
      (coefRefused h v s = true ↔
        (20 < fget v F_SRV_COEF_CTL_LOOP ∨
         (v.toNat.testBit 8 = true ∧ fget v F_SRV_COEF_CTL_LOOP < 20 ∧ actState (slotAct h (fget v F_SRV_COEF_CTL_LOOP)) s ∈ [1, 2, 3, 5, 6]) ∨
         (v.toNat.testBit 9 = true ∧ (6 < (s.rd (SRV_COEF h (fget v F_SRV_COEF_CTL_LOOP) 0)).toNat % 8 ∨
            outLimMax (fget v F_SRV_COEF_CTL_LOOP) < (s.rd (SRV_COEF h (fget v F_SRV_COEF_CTL_LOOP) 1)).toNat % 65536)) ∨
         (v.toNat.testBit 9 = true ∧ (loop h (fget v F_SRV_COEF_CTL_LOOP) s).isOpen = false ∧
            none ∉ (loop h (fget v F_SRV_COEF_CTL_LOOP) s).pend)))) ∧
  (∀ m h v s, mayCmd m = true → coefRefused h.toNat (v ||| 0x100) s = false → ∃ t, exec (.slotOpen m h v) s = .next t ∧
      (loop h.toNat (fget v F_SRV_COEF_CTL_LOOP) t).pend = (loop h.toNat (fget v F_SRV_COEF_CTL_LOOP) s).pend ++ [none] ∧
      (loop h.toNat (fget v F_SRV_COEF_CTL_LOOP) t).isOpen = (loop h.toNat (fget v F_SRV_COEF_CTL_LOOP) s).isOpen) ∧
  (∀ m h v s, mayCmd m = true → coefRefused h.toNat (v ||| 0x200) s = false → ∃ t, exec (.slotClose m h v) s = .next t ∧
      (loop h.toNat (fget v F_SRV_COEF_CTL_LOOP) t).pend =
        (loop h.toNat (fget v F_SRV_COEF_CTL_LOOP) s).pend ++ [some (fget v F_SRV_COEF_CTL_CLOSE_MODE)]) ∧
  (∀ m h l w v s, mayCmd m = true → slotIsOpen h.toNat l.toNat s = true → 2 ≤ w.toNat → w.toNat < 36 → l.toNat ≤ 20 →
      ∃ t, exec (.coefPageWrite m h l w v) s = .next t ∧ t.rd (SRV_COEF h.toNat l.toNat w.toNat) = v) ∧
  (∀ m h v s, mayCmd m = true → v.toNat.testBit 9 = false → fget v F_SRV_COEF_CTL_LOOP ≤ 20 → fget v F_SRV_COEF_CTL_CLOSE_MODE ≤ 2 →
      (fget v F_SRV_COEF_CTL_LOOP = 20 ∨ actState (slotAct h.toNat (fget v F_SRV_COEF_CTL_LOOP)) s ∉ [1, 2, 3, 5, 6]) →
      ∃ t, exec (.slotOpen m h v) s = .next t ∧ SameRegs (fun k => k = (SRV_COEF_CTL h.toNat).key) s t ∧
        t.fld (SRV_COEF_CTL h.toNat) F_SRV_COEF_CTL_LOOP = fget v F_SRV_COEF_CTL_LOOP ∧
        (loop h.toNat (fget v F_SRV_COEF_CTL_LOOP) t).pend = (loop h.toNat (fget v F_SRV_COEF_CTL_LOOP) s).pend ++ [none] ∧
        slotIsOpen h.toNat (fget v F_SRV_COEF_CTL_LOOP) t = slotIsOpen h.toNat (fget v F_SRV_COEF_CTL_LOOP) s ∧
        slotIsOpen h.toNat (fget v F_SRV_COEF_CTL_LOOP) (slotPending h.toNat (fget v F_SRV_COEF_CTL_LOOP) t) = true ∧
        ((slotPending h.toNat (fget v F_SRV_COEF_CTL_LOOP) t).fld (SRV_OPEN h.toNat) F_SRV_OPEN_SLOTS).testBit (fget v F_SRV_COEF_CTL_LOOP) = true) ∧
  (∀ m h v s, mayCmd m = true → v.toNat.testBit 8 = false → fget v F_SRV_COEF_CTL_LOOP ≤ 20 → fget v F_SRV_COEF_CTL_CLOSE_MODE ≤ 2 →
      (s.rd (SRV_COEF h.toNat (fget v F_SRV_COEF_CTL_LOOP) 0)).toNat % 8 ≤ 6 →
      (s.rd (SRV_COEF h.toNat (fget v F_SRV_COEF_CTL_LOOP) 1)).toNat % 65536 ≤ outLimMax (fget v F_SRV_COEF_CTL_LOOP) →
      (slotIsOpen h.toNat (fget v F_SRV_COEF_CTL_LOOP) s = true ∨ none ∈ (loop h.toNat (fget v F_SRV_COEF_CTL_LOOP) s).pend) →
      ∃ t, exec (.slotClose m h v) s = .next t ∧ SameRegs (fun k => k = (SRV_COEF_CTL h.toNat).key) s t ∧
        t.fld (SRV_COEF_CTL h.toNat) F_SRV_COEF_CTL_LOOP = fget v F_SRV_COEF_CTL_LOOP ∧
        t.fld (SRV_COEF_CTL h.toNat) F_SRV_COEF_CTL_CLOSE_MODE = fget v F_SRV_COEF_CTL_CLOSE_MODE ∧
        (loop h.toNat (fget v F_SRV_COEF_CTL_LOOP) t).pend =
          (loop h.toNat (fget v F_SRV_COEF_CTL_LOOP) s).pend ++ [some (fget v F_SRV_COEF_CTL_CLOSE_MODE)] ∧
        slotIsOpen h.toNat (fget v F_SRV_COEF_CTL_LOOP) t = slotIsOpen h.toNat (fget v F_SRV_COEF_CTL_LOOP) s ∧
        slotIsOpen h.toNat (fget v F_SRV_COEF_CTL_LOOP) (slotPending h.toNat (fget v F_SRV_COEF_CTL_LOOP) t) = false ∧
        ((slotPending h.toNat (fget v F_SRV_COEF_CTL_LOOP) t).fld (SRV_OPEN h.toNat) F_SRV_OPEN_SLOTS).testBit (fget v F_SRV_COEF_CTL_LOOP) = false) ∧
  (∀ m h l w v s, mayCmd m = true → slotIsOpen h.toNat l.toNat s = true → l.toNat ≤ 20 →
      ∃ t, exec (.coefPageWrite m h l w v) s = .next t ∧ SameRegs (fun k => k = (SRV_COEF h.toNat l.toNat w.toNat).key) s t ∧
        t.rd (SRV_COEF h.toNat l.toNat w.toNat) = v &&& coefBits w.toNat) ∧
  (∀ m h l w v s, mayCmd m = true → slotIsOpen h.toNat l.toNat s = false → ∃ t, exec (.coefPageWrite m h l w v) s = .next t ∧
      SameRegs (fun k => k = PWR_DENIED_WRITES.key) s t ∧ Denied s t)

/-- R112, R114–R118: the servo commands. -/
def Obligations.ServoCommands : Prop :=
  (∀ m a s, mayCmd m = true → actState a.toNat s = 0 → spnState (hdaOf a.toNat) s = 5 → 2 ≤ linkMode a.toNat s → stripeDegraded a.toNat (s.rd (SRV_SEEK1 a.toNat)) s = false → graveLatched s = false →
      s.gh.thermal = false → ∃ t, exec (.srvLoad m a) s = .next t ∧ actState a.toNat t = 1) ∧
  (∀ m a s, mayCmd m = true → actState a.toNat s ≠ 0 → ∃ t, exec (.srvLoad m a) s = .next t ∧ actState a.toNat t = actState a.toNat s ∧
      t.fld (SRV_ACT_FLAGS a.toNat) F_SRV_ACT_FLAGS_CMD_REFUSED = 1 ∧ Counted 0x4003 s t) ∧
  (∀ m a s, mayCmd m = true → 2 ≤ actState a.toNat s → actState a.toNat s ≤ 4 → ∃ t, exec (.srvUnload m a) s = .next t ∧ actState a.toNat t = 5 ∧
      actMask a.toNat F_SRV_ACT_STATE_WSET t = 0 ∧ t.fld (SRV_ACT_STATE a.toNat) F_SRV_ACT_STATE_READ_SETTLED = 0 ∧ (act a.toNat t).fence % 16 = 0) ∧
  (∀ m a s, mayCmd m = true → ¬ (2 ≤ actState a.toNat s ∧ actState a.toNat s ≤ 4) → ∃ t, exec (.srvUnload m a) s = .next t ∧
      actState a.toNat t = actState a.toNat s ∧ t.fld (SRV_ACT_FLAGS a.toNat) F_SRV_ACT_FLAGS_CMD_REFUSED = 1 ∧ Counted 0x4003 s t) ∧
  (∀ m a s, mayCmd m = true → seekOk a.toNat (s.rd (SRV_SEEK0 a.toNat)) (s.rd (SRV_SEEK1 a.toNat)) s = true → ∃ t, exec (.srvSeek m a) s = .next t ∧
      (t.rd (SRV_SEEK_COUNT a.toNat)).toNat = satAdd 32 (s.rd (SRV_SEEK_COUNT a.toNat)).toNat 1 ∧
      actMask a.toNat F_SRV_ACT_STATE_WSET t = 0 ∧
      actState a.toNat t = (if actState a.toNat s ≠ 2 ∧ s.fld (SRV_SOFT (hdaOf a.toNat)) F_SRV_SOFT_MICRO ≠ 0 ∧
          ((fget (s.rd (SRV_SEEK0 a.toNat)) F_SRV_SEEK0_CYL : Int) - (act a.toNat s).target).natAbs ≤ s.fld (SRV_SOFT (hdaOf a.toNat)) F_SRV_SOFT_MICRO
        then 3 else 2)) ∧
  (∀ m a s, mayCmd m = true → seekOk a.toNat (s.rd (SRV_SEEK0 a.toNat)) (s.rd (SRV_SEEK1 a.toNat)) s = false → ∃ t, exec (.srvSeek m a) s = .next t ∧
      actState a.toNat t = actState a.toNat s ∧ t.fld (SRV_ACT_FLAGS a.toNat) F_SRV_ACT_FLAGS_SEEK_REFUSED = 1 ∧ Counted 0x4003 s t)

/-- R111, R118, R120, R121, R126–R128: settling and the stripe. -/
def Obligations.ServoSettling : Prop :=
  (∀ a c s, actState a.toNat s = 1 → 4 ≤ (act a.toNat s).syncRun → ∃ t, exec (.loadAcquired a c) s = .next t ∧ actState a.toNat t = 3 ∧
      (act a.toNat t).target = c.toNat ∧ (act a.toNat t).stripe = (act a.toNat s).nextStripe) ∧
  (∀ a s, actState a.toNat s = 2 → (act a.toNat s).traj.n ≤ (act a.toNat s).traj.k → ∃ t, exec (.trajectoryEnd a) s = .next t ∧ actState a.toNat t = 3 ∧
      (act a.toNat t).stripe = (act a.toNat s).nextStripe ∧ (act a.toNat t).settleWedges = 0) ∧
  (∀ a s, actState a.toNat s = 3 → s.fld (SRV_SETTLE (hdaOf a.toNat)) F_SRV_SETTLE_READ_COUNT ≤ (act a.toNat s).readRun →
      ∃ t, exec (.readSettled a) s = .next t ∧ actState a.toNat t = 4 ∧ t.fld (SRV_ACT_STATE a.toNat) F_SRV_ACT_STATE_READ_SETTLED = 1) ∧
  (∀ a i s, 2 ≤ actState a.toNat s → actState a.toNat s ≤ 4 → i.toNat ∈ headsIn a.toNat s →
      s.fld (SRV_SETTLE (hdaOf a.toNat)) F_SRV_SETTLE_WRITE_COUNT ≤ l4 0 (act a.toNat s).wRun i.toNat →
      ∃ t, exec (.writeSettled a i) s = .next t ∧ (actMask a.toNat F_SRV_ACT_STATE_WSET t).testBit i.toNat = true) ∧
  (∀ a s, actState a.toNat s = 5 → ∃ t, exec (.unloadComplete a) s = .next t ∧ actState a.toNat t = 0) ∧
  (∀ a i s, 2 ≤ actState a.toNat s → actState a.toNat s ≤ 4 → i.toNat ∈ headsIn a.toNat s →
      2 ≤ (loop (hdaOf a.toNat) (maSlot a.toNat i.toNat) s).clamps ∨ 4 ≤ l4 0 (act a.toNat s).missRun i.toNat →
      ∃ t, exec (.headLeavesStripe a i) s = .next t ∧ (actMask a.toNat F_SRV_ACT_STATE_REACH_OUT t).testBit i.toNat = true ∧
        (actMask a.toNat F_SRV_ACT_STATE_IN_STRIPE t).testBit i.toNat = false ∧ (actMask a.toNat F_SRV_ACT_STATE_WSET t).testBit i.toNat = false ∧
        Counted 0x4007 s t) ∧
  (∀ a i s, (actMask a.toNat F_SRV_ACT_STATE_REACH_OUT s).testBit i.toNat = true → s.fld (SRV_STATUS (hdaOf a.toNat)) F_SRV_STATUS_INDEX = 0 →
      ∃ t, exec (.headRejoins a i) s = .next t ∧ (actMask a.toNat F_SRV_ACT_STATE_REACH_OUT t).testBit i.toNat = false ∧
        l4 none (act a.toNat t).rejoin i.toNat = some 0 ∧ (actMask a.toNat F_SRV_ACT_STATE_IN_STRIPE t).testBit i.toNat = false) ∧
  (∀ a i n s, l4 none (act a.toNat s).rejoin i.toNat = some n → s.fld (SRV_SETTLE (hdaOf a.toNat)) F_SRV_SETTLE_READ_COUNT ≤ n →
      ∃ t, exec (.rejoinRunEnd a i) s = .next t ∧ l4 none (act a.toNat t).rejoin i.toNat = none ∧
        ((act a.toNat s).stripe.testBit i.toNat = true → (actMask a.toNat F_SRV_ACT_STATE_REACH_OUT s).testBit i.toNat = false →
          (actMask a.toNat F_SRV_ACT_STATE_IN_STRIPE t).testBit i.toNat = true))

/-- R132, R137–R139, R147, R148, R151: reception. -/
def Obligations.LinkReception : Prop :=
  (∀ a i hd data tl s, (s.fld (LNK_STATE a.toNat) F_LNK_STATE_LOCKED).testBit i.toNat = true →
      (frameCheck (upLane a.toNat i.toNat s) false hd data tl).intact = true → q64 tl 12 1 = 0 →
      ∃ t, exec (.sampleFrame a i hd data tl) s = .next t ∧
        t.ctr (LNK_UP_FRAMES a.toNat i.toNat) = (s.ctr (LNK_UP_FRAMES a.toNat i.toNat) + 1) % 2 ^ 48 ∧
        (upLane a.toNat i.toNat t).fseq = (q64 hd 16 12 + 1) % 4096 ∧ (upLane a.toNat i.toNat t).synced = true) ∧
  (∀ a i hd data tl p s, (s.fld (LNK_STATE a.toNat) F_LNK_STATE_LOCKED).testBit i.toNat = true → captureSlot a.toNat (q64 hd 8 2) s = some p →
      (frameCheck (upLane a.toNat i.toNat s) false hd data tl).crcBad = false →
      ∃ t, exec (.sampleFrame a i hd data tl) s = .next t ∧
        tget {} t.pool p =
          capture (chain a.toNat (q64 hd 8 2) s).pos (frameCheck (upLane a.toNat i.toNat s) false hd data tl).pos (tget {} s.pool p)) ∧
  (∀ (l : UpLane) (b : Bool) (hd : BitVec 64) (data : List (Bool × BitVec 64)) (tl : BitVec 64), frameCrc hd data ≠ q64 tl 16 32 →
      (frameCheck l b hd data tl).intact = false ∧ (frameCheck l b hd data tl).crcBad = true ∧ (frameCheck l b hd data tl).pos = []) ∧
  (∀ (l : UpLane) (b : Bool) (hd : BitVec 64) (data : List (Bool × BitVec 64)) (tl : BitVec 64), (frameCheck l b hd data tl).crcBad = false →
      ∀ n, n < frameLost l b hd → (frameCheck l b hd data tl).pos[n]? = some none) ∧
  (∀ a i hd data tl s, (frameCheck (upLane a.toNat i.toNat s) false hd data tl).crcBad = true →
      ∃ t, exec (.sampleFrame a i hd data tl) s = .next t ∧ t.pool = s.pool ∧ t.chains = s.chains) ∧
  (∀ a i hd data tl s, (s.fld (LNK_STATE a.toNat) F_LNK_STATE_LOCKED).testBit i.toNat = true → ∃ t, exec (.servoFrame a i hd data tl) s = .next t ∧
        (act a.toNat t).frameMiss = (if (frameCheck (upLane a.toNat i.toNat s) true hd data tl).intact then (act a.toNat s).frameMiss
          else setBit (act a.toNat s).frameMiss (frameSlot a.toNat i.toNat (frameCheck (upLane a.toNat i.toNat s) true hd data tl).crcBad hd s) true)) ∧
  (∀ a i s, ∃ t, exec (.invalidBlock a i) s = .next t ∧
      (t.rd (LNK_UP_SYNC_ERR a.toNat i.toNat)).toNat = satAdd 32 (s.rd (LNK_UP_SYNC_ERR a.toNat i.toNat)).toNat 1) ∧
  (∀ a v s, ∃ t, exec (.status a v) s = .next t ∧ t.rd (LNK_FE_STATUS0 a.toNat) = BitVec.ofNat 32 v.toNat ∧
      t.rd (LNK_FE_STATUS1 a.toNat) = BitVec.ofNat 32 (v.toNat / 2 ^ 32) ∧
      (∀ i ∈ bitsOf 4 (q64 v 18 4), (t.fld (LNK_FLAGS a.toNat) F_LNK_FLAGS_WFAULT).testBit i = true ∧
        (t.fld (WCH_STATE a.toNat) F_WCH_STATE_GATE).testBit i = false ∧ (act a.toNat t).fence.testBit i = false ∧
        ∀ k ∈ dnLocked a.toNat t, (tget 0 t.wOff (4 * a.toNat + k)).testBit i = true) ∧
      (q64 v 23 1 = 1 → loaded a.toNat s = true → (lnk a.toNat s).retTold = false → t.fld (LNK_FLAGS a.toNat) F_LNK_FLAGS_FE_RETRACT = 1 ∧ Counted 0x100B s t)) ∧
  (∀ a s, 8 ≤ (lnk a.toNat s).scmdErr → ∃ t, exec (.scmdLost a) s = .next t ∧ t.fld (LNK_FLAGS a.toNat) F_LNK_FLAGS_SCMD_LOST = 1 ∧
      t.fld (GH_ACT_STATUS a.toNat) F_GH_ACT_STATUS_CAUSE = 0x1009 ∧ (actState a.toNat t = 6 ∨ actState a.toNat t = 7)) ∧
  (∀ a i s, (s.fld (LNK_STATE a.toNat) F_LNK_STATE_LOCKED).testBit i.toNat = true → ∃ t, exec (.laneQueueOverflow a i) s = .next t ∧
      (t.rd (LNK_UP_LOCK_LOSS a.toNat i.toNat)).toNat = satAdd 32 (s.rd (LNK_UP_LOCK_LOSS a.toNat i.toNat)).toNat 1 ∧
      (t.fld (LNK_STATE a.toNat) F_LNK_STATE_LOCKED).testBit i.toNat = false ∧ (upLane a.toNat i.toNat t).retrain = true) ∧
  (∀ a i k s, linkMode a.toNat s ≠ 0 → k.toNat ≤ 8 → ∃ t, exec (.alignBlock a i k) s = .next t ∧ t.fld (LNK_SKEW a.toNat) ⟨4 * i.toNat, 4⟩ = k.toNat)

/-- R141, R149, R150, R152, R155: lanes and blocks. -/
def Obligations.LinkLanes : Prop :=
  (∀ a d i s, lockOf a.toNat d i.toNat s = true → (lossNote a.toNat d i.toNat s).1 < 16 → ∃ t, exec (.blockLockLost a d i) s = .next t ∧
      lockOf a.toNat d i.toNat t = false ∧ attemptsOf a.toNat d i.toNat t = attemptsOf a.toNat d i.toNat s + 1 ∧ Counted 0x1002 s t ∧
      linkMode a.toNat t = linkMode a.toNat s) ∧
  (∀ a d i s, 0 < attemptsOf a.toNat d i.toNat s → ∃ t, exec (.retrainAttemptEnd a d i true) s = .next t ∧ lockOf a.toNat d i.toNat t = true ∧
      attemptsOf a.toNat d i.toNat t = 0) ∧
  (∀ a i s, attemptsOf a.toNat false i.toNat s = 3 → linkMode a.toNat s = 2 → s.fld (LNK_STATE a.toNat) F_LNK_STATE_UP_FAILED = 0 →
      s.fld (LNK_STATE a.toNat) F_LNK_STATE_DN_FAILED = 0 → ∃ t, exec (.retrainAttemptEnd a false i false) s = .next t ∧
        linkMode a.toNat t = 3 ∧ t.fld (LNK_STATE a.toNat) F_LNK_STATE_UP_FAILED = 2 ^ i.toNat ∧ (lnk a.toNat t).remap = some (degradedMap a.toNat t)) ∧
  (∀ m a s, mayCmd m = true → s.domOn a.toNat = true → actState a.toNat s = 0 ∨ actState a.toNat s = 7 → ∃ t, exec (.train m a) s = .next t ∧
      linkMode a.toNat t = 1 ∧ t.fld (LNK_STATE a.toNat) F_LNK_STATE_LOCKED = 0 ∧ t.fld (LNK_STATE a.toNat) F_LNK_STATE_UP_FAILED = 0) ∧
  (∀ m a s, mayCmd m = true → s.domOn a.toNat = true → actState a.toNat s ≠ 0 → actState a.toNat s ≠ 7 → ∃ t, exec (.train m a) s = .next t ∧ Denied s t ∧
      linkMode a.toNat t = linkMode a.toNat s) ∧
  (∀ a s, linkMode a.toNat s = 1 → s.fld (LNK_STATE a.toNat) F_LNK_STATE_UP_FAILED = 0 → (tget false s.plat.actRst a.toNat) = false →
      (lnk a.toNat s).fe = none →
      ∃ t, exec (.trainingEnd a 0xFF 0 0xB046) s = .next t ∧ linkMode a.toNat t = 2 ∧ t.fld (LNK_STATE a.toNat) F_LNK_STATE_LOCKED = 15 ∧
        (lnk a.toNat t).laneMap = 0xE4E4 ∧ Counted 0x1001 s t ∧
        ∃ f, (lnk a.toNat t).fe = some f ∧ f.write = true ∧ f.addr = 0xF00 ∧ f.data = 0xE4E4 ∧ f.kind = .map) ∧
  (∀ a i b s, s.domOn a.toNat = true → linkMode a.toNat s ≠ 1 → tget 0 s.wOff (4 * a.toNat + i.toNat) ≠ 0 →
      ∃ t, exec (.downstreamBlockSlot a i b) s = .next t ∧ tget 0 t.wOff (4 * a.toNat + i.toNat) = 0 ∧
        (tget {} t.dn (4 * a.toNat + i.toNat)).hdr = 2 ∧ (tget {} t.dn (4 * a.toNat + i.toNat)).scmd = (tget {} s.dn (4 * a.toNat + i.toNat)).scmd ∧
        (tget {} t.dn (4 * a.toNat + i.toNat)).sent =
          (scrambleBits 64 (0x78 + tget 0 s.wOff (4 * a.toNat + i.toNat) % 16 * 256) (tget {} s.dn (4 * a.toNat + i.toNat)).scr 0).1) ∧
  (∀ a i b p r s, s.domOn a.toNat = true → linkMode a.toNat s ≠ 1 → (tget {} s.dn (4 * a.toNat + i.toNat)).ret = [] →
      tget 0 s.wOff (4 * a.toNat + i.toNat) = 0 → (tget {} s.dn (4 * a.toNat + i.toNat)).scmd = p :: r →
      ∃ t, exec (.downstreamBlockSlot a i b) s = .next t ∧ (tget {} t.dn (4 * a.toNat + i.toNat)).scmd = r ∧
        (tget {} t.dn (4 * a.toNat + i.toNat)).sent = (scrambleBits 64 p (tget {} s.dn (4 * a.toNat + i.toNat)).scr 0).1)

/-- R160–R163: front-end register access. -/
def Obligations.FrontEndAccess : Prop :=
  (∀ m a v s, mayCmd m = true → s.domOn a.toNat = true → s.fld (LNK_FE_RESULT a.toNat) F_LNK_FE_RESULT_BUSY = 0 → (lnk a.toNat s).fe = none →
      fget v F_LNK_FE_CMD_ADDR < 0xF00 → ∃ t, exec (.feRegWrite m a v) s = .next t ∧ t.fld (LNK_FE_RESULT a.toNat) F_LNK_FE_RESULT_BUSY = 1 ∧
        ∃ f, (lnk a.toNat t).fe = some f ∧ f.write = true ∧ f.addr = fget v F_LNK_FE_CMD_ADDR ∧ f.data = fget v F_LNK_FE_CMD_DATA ∧
          f.held = writeGateOpen a.toNat s) ∧
  (∀ m a v s, mayCmd m = true → s.domOn a.toNat = true → s.fld (LNK_FE_RESULT a.toNat) F_LNK_FE_RESULT_BUSY = 0 → 0xF00 ≤ fget v F_LNK_FE_CMD_ADDR →
      ∃ t, exec (.feRegWrite m a v) s = .next t ∧ t.fld (LNK_FE_RESULT a.toNat) F_LNK_FE_RESULT_BUSY = 0 ∧
        t.fld (LNK_FE_RESULT a.toNat) F_LNK_FE_RESULT_DONE = 1 ∧ t.fld (LNK_FE_RESULT a.toNat) F_LNK_FE_RESULT_ERR = 2 ∧ Denied s t ∧
        t.lnks = s.lnks ∧ t.dn = s.dn) ∧
  (∀ m a v s, mayCmd m = true → s.domOn a.toNat = true → s.fld (LNK_FE_RESULT a.toNat) F_LNK_FE_RESULT_BUSY = 0 → (lnk a.toNat s).fe = none →
      ∃ t, exec (.feRegRead m a v) s = .next t ∧ t.fld (LNK_FE_RESULT a.toNat) F_LNK_FE_RESULT_BUSY = 1 ∧
        ∃ f, (lnk a.toNat t).fe = some f ∧ f.write = false ∧ f.addr = fget v F_LNK_FE_CMD_ADDR ∧ f.held = false) ∧
  (∀ m a v s, mayCmd m = true → s.domOn a.toNat = true → s.fld (LNK_FE_RESULT a.toNat) F_LNK_FE_RESULT_BUSY = 1 →
      (∃ t, exec (.feRegWrite m a v) s = .next t ∧ Denied s t ∧ SameRegs (fun k => k = PWR_DENIED_WRITES.key) s t) ∧
      ∃ t, exec (.feRegRead m a v) s = .next t ∧ Denied s t ∧ SameRegs (fun k => k = PWR_DENIED_WRITES.key) s t) ∧
  (∀ a f s, (lnk a.toNat s).fe = some f → f.held = true → writeGateOpen a.toNat s = false → ∃ t, exec (.feRegWriteRelease a) s = .next t ∧
      ∃ g, (lnk a.toNat t).fe = some g ∧ g.held = false ∧ g.addr = f.addr ∧ g.tag = (lnk a.toNat s).tag) ∧
  (∀ a v f s, q64 v 0 8 = 0x3C → crc 8 0x07 0x00 (leBytes v.toNat 7) = q64 v 56 8 → q64 v 36 4 ≠ 15 → (lnk a.toNat s).fe = some f → f.held = false →
      f.tag = q64 v 36 4 → f.kind = .soft → ∃ t, exec (.regData a v) s = .next t ∧ ((lnk a.toNat s).feNext = [] → (lnk a.toNat t).fe = none) ∧
        t.fld (LNK_FE_RESULT a.toNat) F_LNK_FE_RESULT_BUSY = 0 ∧ t.fld (LNK_FE_RESULT a.toNat) F_LNK_FE_RESULT_DONE = 1 ∧
        t.fld (LNK_FE_RESULT a.toNat) F_LNK_FE_RESULT_ERR = (if q64 v 40 1 = 1 then 3 else 0) ∧
        t.fld (LNK_FE_RESULT a.toNat) F_LNK_FE_RESULT_DATA = q64 v 20 16) ∧
  (∀ a f s, (lnk a.toNat s).fe = some f → f.held = false → f.again = true → f.kind = .soft → ∃ t, exec (.feRegTimeout a) s = .next t ∧
      ((lnk a.toNat s).feNext = [] → (lnk a.toNat t).fe = none) ∧ t.fld (LNK_FE_RESULT a.toNat) F_LNK_FE_RESULT_ERR = 1 ∧ Counted 0x1007 s t) ∧
  (∀ a f s, (lnk a.toNat s).fe = some f → f.held = false → f.again = false → ∃ t, exec (.feRegTimeout a) s = .next t ∧
      ∃ g, (lnk a.toNat t).fe = some g ∧ g.again = true ∧ g.addr = f.addr ∧
        (if f.write = true ∧ writeGateOpen a.toNat s = true then g.held = true else g.held = false ∧ g.tag = (lnk a.toNat s).tag))

/-- R171, R177–R179, R181, R185: capture. -/
def Obligations.SectorCapture : Prop :=
  (∀ a i e p s, readingEnt a.toNat i.toNat s = some e → flyGet a.toNat e.id s = some e → e.st = .open → e.pool = none → e.unheld = false →
      ((fly a.toNat s).filter (fun x => x.slot == i.toNat && x.pool.isSome && (x.st == .open || x.st == .filling || x.st == .coded))).length < 4 →
      poolPick s = some p → ∃ t, exec (.readGateSectorStart a i false) s = .next t ∧ (poolSlot p t).st = poolCapture ∧ (poolSlot p t).id = e.id ∧
        (poolSlot p t).act = a.toNat ∧ ∃ f, flyGet a.toNat e.id t = some f ∧ f.pool = some p) ∧
  (∀ a i e s, readingEnt a.toNat i.toNat s = some e → flyGet a.toNat e.id s = some e → e.st = .open → e.pool = none → e.unheld = false →
      ∃ t, exec (.readGateSectorStart a i true) s = .next t ∧ (∃ f, flyGet a.toNat e.id t = some f ∧ f.unheld = true ∧ f.pool = none) ∧
        t.fld (RCH_FLAGS a.toNat) F_RCH_FLAGS_UNHELD = 1 ∧ Counted 0x1105 s t) ∧
  (∀ a i e n s, readingEnt a.toNat i.toNat s = some e → flyGet a.toNat e.id s = some e → e.st = .open → e.dead = false → e.mode = 0 →
      (chain a.toNat i.toNat s).phase = .hunt → syncFind a.toNat i.toNat s = some (true, n) →
      ∃ t, exec (.syncMarkDecision a i) s = .next t ∧ t.fld (RCH_FLAGS a.toNat) F_RCH_FLAGS_POISON = 1 ∧ Counted 0x1104 s t ∧
        (∀ g ∈ List.range 64, t.poisoned (e.addr + 64 * g) = true) ∧
        ∃ f, flyGet a.toNat e.id t = some f ∧ f.st = .done ∧ f.pool = none ∧ f.inQ = true ∧ f.word = outcomeWord 3 9 e.slot 0 e.k) ∧
  (∀ a i e n s, readingEnt a.toNat i.toNat s = some e → flyGet a.toNat e.id s = some e → e.st = .open →
      (chain a.toNat i.toNat s).phase = .hunt → syncFind a.toNat i.toNat s = some (false, n) →
      ∃ t, exec (.syncMarkDecision a i) s = .next t ∧ (chain a.toNat i.toNat t).phase = .data ∧
        (chain a.toNat i.toNat t).code = (((chain a.toNat i.toNat s).bits.drop (n + 32)).map ChBit.llr).reverse ∧
        flyGet a.toNat e.id t = some e) ∧
  (∀ a i e s, readingEnt a.toNat i.toNat s = some e → flyGet a.toNat e.id s = some e → e.st = .open →
      (chain a.toNat i.toNat s).phase = .hunt → syncFind a.toNat i.toNat s = none →
      ∃ t, exec (.syncMarkDecision a i) s = .next t ∧ (∃ f, flyGet a.toNat e.id t = some f ∧ f.syncMiss = true ∧ f.st = .open) ∧ Counted 0x110C s t ∧
        (chain a.toNat i.toNat t).phase = .data ∧
        t.ctr (RCH_STAT a.toNat (8 * e.head + 6)) = satAdd 48 (s.ctr (RCH_STAT a.toNat (8 * e.head + 6))) 1) ∧
  (∀ a i n s, ∃ t, exec (.sampleQueueOverflow a i n) s = .next t ∧ t.fld (RCH_FLAGS a.toNat) F_RCH_FLAGS_Q_OVF = 1 ∧ Counted 0x110B s t) ∧
  (∀ a i e s, readingEnt a.toNat i.toNat s = some e → flyGet a.toNat e.id s = some e → e.st = .open → (codewords a.toNat i.toNat s).length < 4 →
      ∃ t, exec (.codewordStart a i) s = .next t ∧ ∃ f, flyGet a.toNat e.id t = some f ∧ f.st = .filling) ∧
  (∀ a i e p s (u : State), (fly a.toNat s).find? (fun x => x.slot == i.toNat && x.mode != 2 && x.st == .done && x.inQ) = none →
      readingEnt a.toNat i.toNat s = some e → flyGet a.toNat e.id s = some e → e.st = .filling → e.pool = some p →
      u = chainWork a.toNat i.toNat (chainFlush (chainPar a.toNat i.toNat e.cyl s)) s → (chain a.toNat i.toNat u).phase ≠ .resync →
      codeErased (chain a.toNat i.toNat u) ≤ s.fld (RCH_SYNC a.toNat) F_RCH_SYNC_ERASE_MAX →
      ∃ t, exec (.codewordComplete a i) s = .next t ∧ (poolSlot p t).st = poolPending ∧
        ∃ f, flyGet a.toNat e.id t = some f ∧ f.st = .coded ∧ f.inQ = false ∧ f.code = (chain a.toNat i.toNat u).code.reverse ∧
          f.erased = codeErased (chain a.toNat i.toNat u)) ∧
  (∀ a i e s (u : State), (fly a.toNat s).find? (fun x => x.slot == i.toNat && x.mode != 2 && x.st == .done && x.inQ) = none →
      readingEnt a.toNat i.toNat s = some e → flyGet a.toNat e.id s = some e → e.st = .filling → e.dead = false →
      u = chainWork a.toNat i.toNat (chainFlush (chainPar a.toNat i.toNat e.cyl s)) s → (chain a.toNat i.toNat u).phase ≠ .resync →
      s.fld (RCH_SYNC a.toNat) F_RCH_SYNC_ERASE_MAX < codeErased (chain a.toNat i.toNat u) →
      e.reread < s.fld (RCH_RETRY a.toNat) F_RCH_RETRY_MAX_REVS →
      ∃ t, exec (.codewordComplete a i) s = .next t ∧ Counted 0x1102 s t ∧
        ∃ f, flyGet a.toNat e.id t = some f ∧ f.st = .done ∧ f.pool = none ∧ f.word = outcomeWord 2 2 e.slot 0 e.k) ∧
  (∀ a i e s, (fly a.toNat s).find? (fun x => x.slot == i.toNat && x.mode != 2 && x.st == .done && x.inQ) = some e → e.taken = false →
      flyGet a.toNat e.id s = some e →
      ∃ t, exec (.codewordComplete a i) s = .next t ∧ flyGet a.toNat e.id t = some { e with inQ := false })

/-- R180, R186, R188–R193: decoding and deep retry. -/
def Obligations.SectorDecoding : Prop :=
  (∀ a i e user s, (codewords a.toNat i.toNat s).find? (fun x => x.st == .coded) = some e → flyGet a.toNat e.id s = some e →
      (outq a.toNat s).length < 16 → (otfRun a.toNat e s).conv = true → decodeInfo (e.aw a.toNat) (otfRun a.toNat e s).info = some user →
      ∃ t, exec (.otfDecodeEnd a i) s = .next t ∧
        outq a.toNat t = outq a.toNat s ++ [{ id := e.id, oc := 0, iters := (otfRun a.toNat e s).iters, user := user }] ∧
        ∃ f, flyGet a.toNat e.id t = some f ∧ f.st = .out ∧ f.pool = none) ∧
  (∀ a x q e s, outq a s = x :: q → flyGet a x.id s = some e → e.dead = false → e.mode = 0 → x.user.length = 4096 →
      (outDrain a s).rdBytes e.addr 4096 = x.user ∧ outq a (outDrain a s) = q ∧
      ∃ f, flyGet a x.id (outDrain a s) = some f ∧ f.st = .done ∧ f.word = outcomeWord x.oc 0 e.slot x.iters e.k) ∧
  (∀ a i e p s, (codewords a.toNat i.toNat s).find? (fun x => x.st == .coded) = some e → flyGet a.toNat e.id s = some e → e.unheld = false →
      e.pool = some p → s.fld (RCH_RETRY a.toNat) F_RCH_RETRY_DR_EN = 1 →
      poolCount poolRetained s + poolCount poolRetrying s < s.fld RCH_POOL_CTL F_RCH_POOL_CTL_RET_MAX →
      (otfRun a.toNat e s).conv = false ∨ decodeInfo (e.aw a.toNat) (otfRun a.toNat e s).info = none →
      ∃ t, exec (.otfDecodeEnd a i) s = .next t ∧ (poolSlot p t).st = poolRetained ∧ (poolSlot p t).cls = e.cls ∧
        ∃ f, flyGet a.toNat e.id t = some f ∧ f.st = .retained) ∧
  (∀ a pl p w s, ∃ t, exec (.poolEccError a pl p w true) s = .next t ∧ t.pool = s.pool ∧ t.ctr (RCH_POOL_STAT 6) = satAdd 48 (s.ctr (RCH_POOL_STAT 6)) 1) ∧
  (∀ a p w s, ∃ t, exec (.poolEccError a 0 p w false) s = .next t ∧ t.fld (RCH_FLAGS a.toNat) F_RCH_FLAGS_ECC_UNCORR = 1 ∧
      (poolSlot p.toNat t).samples = (poolSlot p.toNat s).samples.mapIdx
        (fun j v => if 64 * w.toNat / 7 ≤ j ∧ j ≤ (64 * w.toNat + 63) / 7 then none else v)) ∧
  (∀ p e s, drNext s = some p → poolCount poolRetrying s < 32 → flyGet (poolSlot p s).act (poolSlot p s).id s = some e →
      drPlan (poolSlot p s).act e.cyl s ≠ [] → ∃ t, exec .drDispatch s = .next t ∧ (poolSlot p t).st = poolRetrying ∧
      (poolSlot p t).plan = drPlan (poolSlot p s).act e.cyl s ∧
      ∃ f, flyGet (poolSlot p s).act e.id t = some f ∧ f.st = .retrying) ∧
  (∀ p c x y r s, (poolSlot p.toNat s).st = poolRetrying → (poolSlot p.toNat s).plan = x :: y :: r →
      (drAttempt p.toNat s).found = none → (drAttempt p.toNat s).conv = c → ∃ t, exec (.drAttemptEnd p c) s = .next t ∧
      (poolSlot p.toNat t).plan = y :: r ∧ (poolSlot p.toNat t).st = poolRetrying ∧ (poolSlot p.toNat t).conv = ((poolSlot p.toNat s).conv || c)) ∧
  (∀ p c x e s, (poolSlot p.toNat s).st = poolRetrying → (poolSlot p.toNat s).plan = [x] →
      (drAttempt p.toNat s).found = none → (drAttempt p.toNat s).conv = c →
      flyGet (poolSlot p.toNat s).act (poolSlot p.toNat s).id s = some e → e.pool = some p.toNat → e.dead = false →
      e.reread < s.fld (RCH_RETRY (poolSlot p.toNat s).act) F_RCH_RETRY_MAX_REVS → ∃ t, exec (.drAttemptEnd p c) s = .next t ∧
        (poolSlot p.toNat t).st = poolFree ∧ ∃ f, flyGet (poolSlot p.toNat s).act e.id t = some f ∧ f.st = .done ∧
          f.word = outcomeWord 2 (if (poolSlot p.toNat s).conv || c then 7 else 6) e.slot 0 e.k) ∧
  (∀ p ps is info user e s, (poolSlot p.toNat s).st = poolRetrying → (drAttempt p.toNat s).found = some (ps.toNat, is.toNat, info) →
      (outq (poolSlot p.toNat s).act s).length < 16 → flyGet (poolSlot p.toNat s).act (poolSlot p.toNat s).id s = some e → e.pool = some p.toNat →
      decodeInfo (e.aw (poolSlot p.toNat s).act) info = some user → ∃ t, exec (.drRecovered p ps is info) s = .next t ∧
        (poolSlot p.toNat t).st = poolFree ∧ Counted 0x1101 s t ∧
        outq (poolSlot p.toNat s).act t = outq (poolSlot p.toNat s).act s ++ [{ id := e.id, oc := 1, iters := 0, user := user }] ∧
        ∃ f, flyGet (poolSlot p.toNat s).act e.id t = some f ∧ f.st = .out) ∧
  (∀ p e s, (poolSlot p.toNat s).st = poolRetained → flyGet (poolSlot p.toNat s).act (poolSlot p.toNat s).id s = some e → e.pool = some p.toNat →
      e.dead = false → e.reread < s.fld (RCH_RETRY (poolSlot p.toNat s).act) F_RCH_RETRY_MAX_REVS → ∃ t, exec (.retainedWaitAge p) s = .next t ∧
        (poolSlot p.toNat t).st = poolFree ∧ Counted 0x1107 s t ∧
        ∃ f, flyGet (poolSlot p.toNat s).act e.id t = some f ∧ f.st = .done ∧ f.word = outcomeWord 2 5 e.slot 0 e.k)

/-- R204–R206, R216–R219, R222: the sector in the write channel. -/
def Obligations.SectorWriting : Prop :=
  (∀ a i e s, ((fly a.toNat s).filter (fun x => x.slot == i.toNat && x.mode == 2 && x.st != .done)).find? (fun x => !x.fetched) = some e →
      ((fly a.toNat s).filter (fun x => x.slot == i.toNat && x.mode == 2 && x.st != .done && x.fetched)).length < 3 → flyGet a.toNat e.id s = some e →
      ∃ t, exec (.sectorFetch a i) s = .next t ∧ ∃ f, flyGet a.toNat e.id t = some f ∧ f.fetched = true ∧ f.poison = sectorPoisoned e.addr s ∧
        (sectorPoisoned e.addr s = false → f.info = scramble (e.aw a.toNat) (s.rdBytes e.addr 4096 ++ checkBytes (s.rdBytes e.addr 4096) (e.aw a.toNat))) ∧
        (sectorPoisoned e.addr s = true →
          f.info = scramble (e.aw a.toNat) (List.replicate 4096 0 ++ checkBytes (List.replicate 4096 0) (e.aw a.toNat)))) ∧
  (∀ a i e s, (fly a.toNat s).find? (fun x => x.slot == i.toNat && x.mode == 2 && x.fetched && !x.ready && x.st != .done) = some e →
      flyGet a.toNat e.id s = some e → ∃ t, exec (.codewordEncoded a i) s = .next t ∧
        (t.fld (WCH_STATE a.toNat) F_WCH_STATE_READY).testBit i.toNat = true ∧
        ∃ f, flyGet a.toNat e.id t = some f ∧ f.ready = true ∧ f.info = e.info) ∧
  (∀ a i e s, (fly a.toNat s).find? (fun x => x.slot == i.toNat && x.mode == 2 && !x.cut &&
        (x.st == .open || (x.st == .sending && !x.rest.isEmpty))) = some e → e.st = .open → flyGet a.toNat e.id s = some e →
      e.cause = 0 → e.ready = false → ∃ t, exec (.sectorSendStart a i) s = .next t ∧ t.dn = s.dn ∧
        t.fld (WCH_FLAGS a.toNat) F_WCH_FLAGS_LATE = 1 ∧ Counted 0x2003 s t ∧ ∃ f, flyGet a.toNat e.id t = some f ∧ f.cut = true ∧ f.cause = 7) ∧
  (∀ a i e s (u : State) (bl : List (List WBlk) × Option Nat), (fly a.toNat s).find? (fun x => x.slot == i.toNat && x.mode == 2 && !x.cut &&
        (x.st == .open || (x.st == .sending && !x.rest.isEmpty))) = some e → e.st = .open → flyGet a.toNat e.id s = some e →
      e.ready = true → tooEarly a.toNat e s = false → u = gapSettle a.toNat e s →
      bl = sectorBlocks a.toNat e (gapBefore a.toNat e u) false u → ∃ t, exec (.sectorSendStart a i) s = .next t ∧
        t.regs = s.regs ∧ ∃ f, flyGet a.toNat e.id t = some f ∧ f.st = .sending ∧ f.left = ownBlocks bl.1.flatten ∧
          f.rest = bl.1.drop 1 ∧ f.partAt = wedgeCount a.toNat s) ∧
  (∀ a i e bl q s, (fly a.toNat s).find? (fun x => x.slot == i.toNat && x.mode == 2 && !x.cut &&
        (x.st == .open || (x.st == .sending && !x.rest.isEmpty))) = some e → e.st = .sending → e.rest = bl :: q →
      flyGet a.toNat e.id s = some e →
      (e.partAt = wedgeCount a.toNat s → exec (.sectorSendStart a i) s = .next s) ∧
      (e.partAt ≠ wedgeCount a.toNat s → ∃ t, exec (.sectorSendStart a i) s = .next t ∧ t.regs = s.regs ∧
        (∀ d ∈ (slotLanes a.toNat i.toNat s).map Prod.snd,
          (tget {} t.dn (4 * a.toNat + d)).wblk = (tget {} s.dn (4 * a.toNat + d)).wblk ++ bl) ∧
        ∃ f, flyGet a.toNat e.id t = some f ∧ f.rest = q ∧ f.partAt = wedgeCount a.toNat s)) ∧
  (∀ a i e s, (fly a.toNat s).find? (fun x => x.slot == i.toNat && x.mode == 2 && x.st == .sending && !x.cut && decide (0 < x.left)) = some e →
      flyGet a.toNat e.id s = some e → e.cause = 0 → ∃ t, exec (.servoGuardCut a i) s = .next t ∧ t.fld (WCH_FLAGS a.toNat) F_WCH_FLAGS_GUARD = 1 ∧ Counted 0x2004 s t ∧
        ∃ f, flyGet a.toNat e.id t = some f ∧ f.cut = true ∧ f.cause = 8) ∧
  (∀ a i e s, writingEnt a.toNat i.toNat s = some e → flyGet a.toNat e.id s = some e → e.dead = false → e.slot = i.toNat → e.st = .sending → e.left = 0 →
      e.cut = false → e.poison = false → ∃ t, exec (.writeSectorOutcome a i) s = .next t ∧
        (e.head < 6 → t.ctr (WCH_STAT a.toNat (4 * e.head)) = satAdd 48 (s.ctr (WCH_STAT a.toNat (4 * e.head))) 1) ∧
        ∃ f, flyGet a.toNat e.id t = some f ∧ f.st = .done ∧ f.word = outcomeWord 4 0 e.slot 0 e.k) ∧
  (∀ a i e s, writingEnt a.toNat i.toNat s = some e → flyGet a.toNat e.id s = some e → e.dead = false → e.cut = true → 0 < e.cells → e.cells ≤ 36800 →
      e.cyl < 2 ^ 21 → e.head < 6 → e.slot < 4 → 1 ≤ e.cause → e.cause ≤ 8 → ∃ t, exec (.writeSectorOutcome a i) s = .next t ∧ Counted 0x2001 s t ∧
        t.fld (WCH_FLAGS a.toNat) F_WCH_FLAGS_PARTIAL = 1 ∧ t.fld (WCH_PARTIAL0 a.toNat) F_WCH_PARTIAL0_CAUSE = e.cause ∧
        t.fld (WCH_PARTIAL0 a.toNat) F_WCH_PARTIAL0_SLOT = e.slot ∧ t.fld (WCH_PARTIAL0 a.toNat) F_WCH_PARTIAL0_HEAD = e.head ∧
        t.fld (WCH_PARTIAL0 a.toNat) F_WCH_PARTIAL0_CYL = e.cyl ∧ t.fld (WCH_PARTIAL1 a.toNat) F_WCH_PARTIAL1_CELLS = e.cells ∧
        t.ctr (WCH_STAT a.toNat (4 * e.head + 1)) = satAdd 48 (s.ctr (WCH_STAT a.toNat (4 * e.head + 1))) 1 ∧
        t.ctr (WCH_STAT a.toNat (23 + e.cause)) = satAdd 48 (s.ctr (WCH_STAT a.toNat (23 + e.cause))) 1 ∧
        ∃ f, flyGet a.toNat e.id t = some f ∧ f.st = .done ∧ f.word = outcomeWord 5 e.cause e.slot 0 e.k) ∧
  (∀ a i e s, writingEnt a.toNat i.toNat s = some e → flyGet a.toNat e.id s = some e → e.dead = false → e.cut = true → e.cells = 0 → 1 ≤ e.cause → e.cause ≤ 8 →
      e.head < 6 → ∃ t, exec (.writeSectorOutcome a i) s = .next t ∧ t.ctr (WCH_STAT a.toNat (4 * e.head + 2)) = satAdd 48 (s.ctr (WCH_STAT a.toNat (4 * e.head + 2))) 1 ∧
        ∃ f, flyGet a.toNat e.id t = some f ∧ f.st = .done ∧ f.word = outcomeWord 6 e.cause e.slot 0 e.k)

/-- R227, R229: the arithmetic microwords. -/
def Obligations.MicrowordArithmetic : Prop :=
  (∀ a s, Running a.toNat s → ∃ t, exec (.uwNop a) s = .next t ∧ OneCycle a.toNat s t ∧ NextWord a.toNat s t ∧ ∀ r : BitVec 5, gGet a.toNat r t = gGet a.toNat r s) ∧
  (∀ a ra imm s, Running a.toNat s → ∃ t, exec (.uwLdi a ra imm) s = .next t ∧ Computes a.toNat ra (imm.zeroExtend 32) s t) ∧
  (∀ a ra imm s, Running a.toNat s → ∃ t, exec (.uwLui a ra imm) s = .next t ∧ Computes a.toNat ra ((imm.zeroExtend 32 <<< 16) ||| (gGet a.toNat ra s &&& 0xFFFF)) s t) ∧
  (∀ a ra rb s, Running a.toNat s → ∃ t, exec (.uwMov a ra rb) s = .next t ∧ Computes a.toNat ra (gGet a.toNat rb s) s t) ∧
  (∀ a ra rb s, Running a.toNat s → ∃ t, exec (.uwAdd a ra rb) s = .next t ∧ Computes a.toNat ra (gGet a.toNat ra s + gGet a.toNat rb s) s t) ∧
  (∀ a ra imm s, Running a.toNat s → ∃ t, exec (.uwAddi a ra imm) s = .next t ∧ Computes a.toNat ra (gGet a.toNat ra s + imm.signExtend 32) s t) ∧
  (∀ a ra rb s, Running a.toNat s → ∃ t, exec (.uwSub a ra rb) s = .next t ∧ Computes a.toNat ra (gGet a.toNat ra s - gGet a.toNat rb s) s t) ∧
  (∀ a ra rb s, Running a.toNat s → ∃ t, exec (.uwAnd a ra rb) s = .next t ∧ Computes a.toNat ra (gGet a.toNat ra s &&& gGet a.toNat rb s) s t) ∧
  (∀ a ra imm s, Running a.toNat s → ∃ t, exec (.uwAndi a ra imm) s = .next t ∧ Computes a.toNat ra (gGet a.toNat ra s &&& imm.zeroExtend 32) s t) ∧
  (∀ a ra rb s, Running a.toNat s → ∃ t, exec (.uwOr a ra rb) s = .next t ∧ Computes a.toNat ra (gGet a.toNat ra s ||| gGet a.toNat rb s) s t) ∧
  (∀ a ra imm s, Running a.toNat s → ∃ t, exec (.uwOri a ra imm) s = .next t ∧ Computes a.toNat ra (gGet a.toNat ra s ||| imm.zeroExtend 32) s t) ∧
  (∀ a ra rb s, Running a.toNat s → ∃ t, exec (.uwXor a ra rb) s = .next t ∧ Computes a.toNat ra (gGet a.toNat ra s ^^^ gGet a.toNat rb s) s t) ∧
  (∀ a ra imm s, Running a.toNat s → ∃ t, exec (.uwShli a ra imm) s = .next t ∧ Computes a.toNat ra (gGet a.toNat ra s <<< (imm.toNat % 32)) s t) ∧
  (∀ a ra imm s, Running a.toNat s → ∃ t, exec (.uwShri a ra imm) s = .next t ∧ Computes a.toNat ra (gGet a.toNat ra s >>> (imm.toNat % 32)) s t) ∧
  (∀ a ra rb imm s, Running a.toNat s → ∃ t, exec (.uwInsf a ra rb imm) s = .next t ∧ Computes a.toNat ra (gGet a.toNat ra t) s t ∧
      (ra ≠ 0 → ∀ i ∈ List.range 32, (gGet a.toNat ra t).getLsbD i = (if imm.toNat % 32 ≤ i ∧ i < imm.toNat % 32 + (imm.toNat / 32 % 32 + 1) then
        (gGet a.toNat rb s).getLsbD (i - imm.toNat % 32) else (gGet a.toNat ra s).getLsbD i))) ∧
  (∀ a ra rb imm s, Running a.toNat s → ∃ t, exec (.uwExtf a ra rb imm) s = .next t ∧ Computes a.toNat ra (gGet a.toNat ra t) s t ∧
      (ra ≠ 0 → ∀ i ∈ List.range 32, (gGet a.toNat ra t).getLsbD i =
        (decide (i < imm.toNat / 32 % 32 + 1) && (gGet a.toNat rb s).getLsbD (i + imm.toNat % 32))))

/-- R227, R228, R252–R254: the control words. -/
def Obligations.MicrowordControl : Prop :=
  (∀ a ra rb imm s, Running a.toNat s → TargetOk a.toNat imm s →
      ∃ t, exec (.uwBeq a ra rb imm) s = .next t ∧ OneCycle a.toNat s t ∧ seqState a.toNat t = 2 ∧ (∀ r : BitVec 5, gGet a.toNat r t = gGet a.toNat r s) ∧
        (seq a.toNat t).npc = if gGet a.toNat ra s = gGet a.toNat rb s then imm.toNat else ((seq a.toNat s).npc + 1) % 8192) ∧
  (∀ a ra rb imm s, Running a.toNat s → TargetOk a.toNat imm s →
      ∃ t, exec (.uwBne a ra rb imm) s = .next t ∧ OneCycle a.toNat s t ∧ seqState a.toNat t = 2 ∧ (∀ r : BitVec 5, gGet a.toNat r t = gGet a.toNat r s) ∧
        (seq a.toNat t).npc = if gGet a.toNat ra s ≠ gGet a.toNat rb s then imm.toNat else ((seq a.toNat s).npc + 1) % 8192) ∧
  (∀ a ra rb imm s, Running a.toNat s → TargetOk a.toNat imm s →
      ∃ t, exec (.uwBltu a ra rb imm) s = .next t ∧ OneCycle a.toNat s t ∧ seqState a.toNat t = 2 ∧ (∀ r : BitVec 5, gGet a.toNat r t = gGet a.toNat r s) ∧
        (seq a.toNat t).npc = if (gGet a.toNat ra s).toNat < (gGet a.toNat rb s).toNat then imm.toNat else ((seq a.toNat s).npc + 1) % 8192) ∧
  (∀ a ra rb imm s, Running a.toNat s → TargetOk a.toNat imm s →
      ∃ t, exec (.uwBgeu a ra rb imm) s = .next t ∧ OneCycle a.toNat s t ∧ seqState a.toNat t = 2 ∧ (∀ r : BitVec 5, gGet a.toNat r t = gGet a.toNat r s) ∧
        (seq a.toNat t).npc = if (gGet a.toNat rb s).toNat ≤ (gGet a.toNat ra s).toNat then imm.toNat else ((seq a.toNat s).npc + 1) % 8192) ∧
  (∀ a ra n imm s, Running a.toNat s → TargetOk a.toNat imm s →
      ∃ t, exec (.uwBbs a ra n imm) s = .next t ∧ OneCycle a.toNat s t ∧ seqState a.toNat t = 2 ∧ (∀ r : BitVec 5, gGet a.toNat r t = gGet a.toNat r s) ∧
        (seq a.toNat t).npc = if (gGet a.toNat ra s).getLsbD n.toNat = true then imm.toNat else ((seq a.toNat s).npc + 1) % 8192) ∧
  (∀ a ra n imm s, Running a.toNat s → TargetOk a.toNat imm s →
      ∃ t, exec (.uwBbc a ra n imm) s = .next t ∧ OneCycle a.toNat s t ∧ seqState a.toNat t = 2 ∧ (∀ r : BitVec 5, gGet a.toNat r t = gGet a.toNat r s) ∧
        (seq a.toNat t).npc = if (gGet a.toNat ra s).getLsbD n.toNat = false then imm.toNat else ((seq a.toNat s).npc + 1) % 8192) ∧
  (∀ a imm s, Running a.toNat s → TargetOk a.toNat imm s →
      ∃ t, exec (.uwJmp a imm) s = .next t ∧ OneCycle a.toNat s t ∧ seqState a.toNat t = 2 ∧ (seq a.toNat t).npc = imm.toNat) ∧
  (∀ a imm s, Running a.toNat s → 8192 ≤ imm.toNat →
      (∃ t, exec (.uwJmp a imm) s = .next t ∧ SeqFaulted a.toNat F_SEQ_FAULT_ILLEGAL s t) ∧
      (∃ t, exec (.uwCall a imm) s = .next t ∧ SeqFaulted a.toNat F_SEQ_FAULT_ILLEGAL s t) ∧
      (∃ t, exec (.uwRet a imm) s = .next t ∧ SeqFaulted a.toNat F_SEQ_FAULT_ILLEGAL s t) ∧
      ∀ ra rb : BitVec 5, ∃ t, exec (.uwBeq a ra rb imm) s = .next t ∧ SeqFaulted a.toNat F_SEQ_FAULT_ILLEGAL s t) ∧
  (∀ a imm s, Running a.toNat s → imm.toNat < 6144 → 64 ≤ imm.toNat → 6144 ≤ (seq a.toNat s).npc % 8192 →
      (∃ t, exec (.uwJmp a imm) s = .next t ∧ SeqFaulted a.toNat F_SEQ_FAULT_ALLOT s t) ∧
      ∃ t, exec (.uwCall a imm) s = .next t ∧ SeqFaulted a.toNat F_SEQ_FAULT_ALLOT s t) ∧
  (∀ a imm s, Running a.toNat s → TargetOk a.toNat imm s → (seq a.toNat s).stack.length < 8 →
      ∃ t, exec (.uwCall a imm) s = .next t ∧ OneCycle a.toNat s t ∧ (seq a.toNat t).npc = imm.toNat ∧
        (seq a.toNat t).stack = ((seq a.toNat s).npc + 1) % 8192 :: (seq a.toNat s).stack ∧ seqState a.toNat t = 2) ∧
  (∀ a imm s, Running a.toNat s → TargetOk a.toNat imm s → 8 ≤ (seq a.toNat s).stack.length →
      ∃ t, exec (.uwCall a imm) s = .next t ∧ SeqFaulted a.toNat F_SEQ_FAULT_STACK s t) ∧
  (∀ a imm n r s, Running a.toNat s → imm.toNat < 8192 → (seq a.toNat s).stack = n :: r → n < 8192 →
      ((seq a.toNat s).npc % 8192 < 6144 ∨ 6144 ≤ n ∨ (seq a.toNat s).allot = some (r.length + 1)) →
      ∃ t, exec (.uwRet a imm) s = .next t ∧ OneCycle a.toNat s t ∧ (seq a.toNat t).npc = n ∧ (seq a.toNat t).stack = r ∧ seqState a.toNat t = 2 ∧
        ((seq a.toNat s).allot = some (r.length + 1) → (seq a.toNat t).allot = none)) ∧
  (∀ a imm s, Running a.toNat s → imm.toNat < 8192 → (seq a.toNat s).stack = [] → ∃ t, exec (.uwRet a imm) s = .next t ∧
      SeqFaulted a.toNat F_SEQ_FAULT_STACK s t) ∧
  (∀ a imm s, Running a.toNat s → ∃ t, exec (.uwTrap a imm) s = .next t ∧ SeqFaulted a.toNat F_SEQ_FAULT_TRAP s t ∧
      t.fld (SEQ_FAULT a.toNat) F_SEQ_FAULT_TRAP_CODE = imm.toNat % 256 ∧
      t.fld (SEQ_FAULT a.toNat) F_SEQ_FAULT_FAULT_PC = (seq a.toNat s).npc % 8192) ∧
  (∀ a w s, Running a.toNat s → ((0x27 ≤ w.toNat / 2 ^ 26 ∧ w.toNat / 2 ^ 26 ≠ 0x3F) ∨
      (0x10 ≤ w.toNat / 2 ^ 26 ∧ w.toNat / 2 ^ 26 ≤ 0x18 ∧ w.toNat / 2 ^ 13 % 8 ≠ 0)) →
      ∃ t, exec (.uwIllegal a w) s = .next t ∧ SeqFaulted a.toNat F_SEQ_FAULT_ILLEGAL s t)

/-- R231: ports outside the table and values outside TMO's range. A word of the Allotment that writes another port faults under R254. -/
def Obligations.SequencerPorts : Prop :=
  (∀ a ra imm s, Running a.toNat s → imm.toNat % 256 ∉ [0x00, 0x01, 0x02, 0x03, 0x05, 0x06, 0x07, 0x09, 0x0A, 0x0B, 0x0C, 0x0D, 0x0E] →
      ∃ t, exec (.uwRdp a ra imm) s = .next t ∧ Computes a.toNat ra 0 s t) ∧
  (∀ a ra imm s, Running a.toNat s → (seq a.toNat s).npc % 8192 < 6144 → imm.toNat % 256 ∉ [0x04, 0x08, 0x0C, 0x10] →
      ∃ t, exec (.uwWrp a ra imm) s = .next t ∧ OneCycle a.toNat s t ∧ NextWord a.toNat s t ∧ (∀ r : BitVec 5, gGet a.toNat r t = gGet a.toNat r s) ∧
        (seq a.toNat t).tmo = (seq a.toNat s).tmo ∧ (seq a.toNat t).fmtSec = (seq a.toNat s).fmtSec ∧
        (seq a.toNat t).fmtFirstW = (seq a.toNat s).fmtFirstW ∧ t.rd (SEQ_USER a.toNat) = s.rd (SEQ_USER a.toNat)) ∧
  (∀ a ra imm s, Running a.toNat s → imm.toNat % 256 = 0x0C → ((gGet a.toNat ra s).toNat = 0 ∨ 65535 < (gGet a.toNat ra s).toNat) →
      ∃ t, exec (.uwWrp a ra imm) s = .next t ∧ OneCycle a.toNat s t ∧ NextWord a.toNat s t ∧ (seq a.toNat t).tmo = (seq a.toNat s).tmo)

/-- R227, R228, R230, R254: accesses of a word. -/
def Obligations.MicrowordAccesses : Prop :=
  (∀ a ra rb imm s, Running a.toNat s → ∃ t, exec (.uwLd a ra rb imm) s = .next t ∧
      Computes a.toNat ra (s.rd (SEQ_SCRATCH a.toNat (((gGet a.toNat rb s).toNat + imm.toNat) % 1024))) s t) ∧
  (∀ a ra rb imm s, Running a.toNat s → ((seq a.toNat s).npc % 8192 < 6144 ∨ 768 ≤ ((gGet a.toNat rb s).toNat + imm.toNat) % 1024) →
      ∃ t, exec (.uwSt a ra rb imm) s = .next t ∧ OneCycle a.toNat s t ∧ NextWord a.toNat s t ∧
        t.rd (SEQ_SCRATCH a.toNat (((gGet a.toNat rb s).toNat + imm.toNat) % 1024)) = gGet a.toNat ra s) ∧
  (∀ a ra rb imm s, Running a.toNat s → 6144 ≤ (seq a.toNat s).npc % 8192 → ((gGet a.toNat rb s).toNat + imm.toNat) % 1024 < 768 →
      ∃ t, exec (.uwSt a ra rb imm) s = .next t ∧ SeqFaulted a.toNat F_SEQ_FAULT_ALLOT s t) ∧
  (∀ a ra imm d s, Running a.toNat s → runSlot a.toNat s = some d → ∃ t, exec (.uwLdd a ra imm) s = .next t ∧
      Computes a.toNat ra (s.rd (SEQ_DESC a.toNat d (imm.toNat % 16))) s t) ∧
  (∀ a ra imm s, Running a.toNat s → runSlot a.toNat s = none → ∃ t, exec (.uwLdd a ra imm) s = .next t ∧
      Computes a.toNat ra (gGet a.toNat ra t) s t) ∧
  (∀ a ra imm d s, Running a.toNat s → runSlot a.toNat s = some d → 12 ≤ imm.toNat % 16 → ∃ t, exec (.uwStd a ra imm) s = .next t ∧
      OneCycle a.toNat s t ∧ NextWord a.toNat s t ∧ t.rd (SEQ_DESC a.toNat d (imm.toNat % 16)) = gGet a.toNat ra s) ∧
  (∀ a ra imm s, Running a.toNat s → imm.toNat % 16 < 12 → ∃ t, exec (.uwStd a ra imm) s = .next t ∧ SeqFaulted a.toNat F_SEQ_FAULT_BOUND s t) ∧
  (∀ a ra imm s, Running a.toNat s → imm.toNat % 256 = 0x0C → ∃ t, exec (.uwRdp a ra imm) s = .next t ∧
      Computes a.toNat ra (BitVec.ofNat 32 (seq a.toNat s).tmo) s t) ∧
  (∀ a ra imm s, Running a.toNat s → imm.toNat % 256 = 0x0E → ∃ t, exec (.uwRdp a ra imm) s = .next t ∧
      Computes a.toNat ra (s.rd (SEQ_CYCLES a.toNat) + 1) s t) ∧
  (∀ a ra imm s, Running a.toNat s → imm.toNat % 256 = 0x0C → 1 ≤ (gGet a.toNat ra s).toNat → (gGet a.toNat ra s).toNat ≤ 65535 →
      ∃ t, exec (.uwWrp a ra imm) s = .next t ∧ OneCycle a.toNat s t ∧ NextWord a.toNat s t ∧ (seq a.toNat t).tmo = (gGet a.toNat ra s).toNat) ∧
  (∀ a ra imm s, Running a.toNat s → imm.toNat % 256 = 0x10 → ∃ t, exec (.uwWrp a ra imm) s = .next t ∧ OneCycle a.toNat s t ∧ NextWord a.toNat s t ∧
      t.rd (SEQ_USER a.toNat) = gGet a.toNat ra s ∧ t.fld (SEQ_EVENTS a.toNat) F_SEQ_EVENTS_USER = 1) ∧
  (∀ a ra imm s, Running a.toNat s → 6144 ≤ (seq a.toNat s).npc % 8192 → imm.toNat % 256 ∉ [0x04, 0x08, 0x0C, 0x10] →
      ∃ t, exec (.uwWrp a ra imm) s = .next t ∧ SeqFaulted a.toNat F_SEQ_FAULT_ALLOT s t)

/-- R230, R232–R234, R243, R246–R250, R543: words that wait. -/
def Obligations.MicrowordWaits : Prop :=
  (∀ a ra rb imm s, Running a.toNat s → imm.toNat % 256 ≠ 5 → ∃ t, exec (.uwWait a ra rb imm) s = .next t ∧ seqState a.toNat t = 3 ∧
      (seq a.toNat t).npc = ((seq a.toNat s).npc + 1) % 8192 ∧ (seq a.toNat t).block = .wait (imm.toNat % 256) (gGet a.toNat rb s).toNat ra.toNat
        (s.rd (SEQ_CYCLES a.toNat) + 1).toNat (s.rd (SRV_WEDGE_COUNT a.toNat)).toNat) ∧
  (∀ a ra rb imm s, Running a.toNat s → imm.toNat % 256 = 5 → 6144 ≤ (seq a.toNat s).npc % 8192 →
      ∃ t, exec (.uwWait a ra rb imm) s = .next t ∧ SeqFaulted a.toNat F_SEQ_FAULT_ALLOT s t) ∧
  (∀ a (r : BitVec 5) arg cyc wedge o rest e s, (seq a.toNat s).block = .wait 3 arg r.toNat cyc wedge → (seq a.toNat s).outq = o :: rest →
      flyGet a.toNat o s = some e → ∃ t, exec (.waitEnd a) s = .next t ∧ seqState a.toNat t = 2 ∧ (seq a.toNat t).block = .none ∧
        gGet a.toNat r t = (if r = 0 then 0 else e.word) ∧ (seq a.toNat t).outq = rest) ∧
  (∀ a (r : BitVec 5) arg cyc wedge s, (seq a.toNat s).block = .wait 6 arg r.toNat cyc wedge → (seq a.toNat s).fly = [] →
      ∃ t, exec (.waitEnd a) s = .next t ∧ seqState a.toNat t = 2 ∧ (seq a.toNat t).block = .none ∧ gGet a.toNat r t = 0) ∧
  (∀ a (r : BitVec 5) ev arg cyc wedge s, (seq a.toNat s).block = .wait ev arg r.toNat cyc wedge → ∃ t, exec (.waitTimeout a) s = .next t ∧
      seqState a.toNat t = 2 ∧ (seq a.toNat t).block = .none ∧ gGet a.toNat r t = if r = 0 then 0 else 0x80000000) ∧
  (∀ a w k s, (seq a.toNat s).block = .gate w k → ∃ t, exec (.waitTimeout a) s = .next t ∧ SeqFaulted a.toNat F_SEQ_FAULT_STALL s t) ∧
  (∀ a ra rb d s, Running a.toNat s → runSlot a.toNat s = some d → (seq a.toNat s).npc % 8192 < 6144 →
      ((gGet a.toNat ra s).toNat / 2 ^ 30 = 3 ∨ zoneSpt a.toNat (zoneNow a.toNat s) s ≤ (gGet a.toNat ra s).toNat % 65536 ∨
        ((gGet a.toNat ra s).toNat / 2 ^ 30 ≠ 1 ∧ descLimit a.toNat d s ≤ (gGet a.toNat rb s).toNat) ∨
        modeAllowed (descKind a.toNat d s) ((gGet a.toNat ra s).toNat / 2 ^ 30) = false) →
      ∃ t, exec (.uwGate a ra rb) s = .next t ∧ SeqFaulted a.toNat F_SEQ_FAULT_BOUND s t) ∧
  (∀ a ra rb d s, Running a.toNat s → runSlot a.toNat s = some d → (gGet a.toNat ra s).toNat / 2 ^ 30 < 3 →
      (gGet a.toNat ra s).toNat % 65536 < zoneSpt a.toNat (zoneNow a.toNat s) s →
      ((gGet a.toNat ra s).toNat / 2 ^ 30 = 1 ∨ (gGet a.toNat rb s).toNat < descLimit a.toNat d s) →
      modeAllowed (descKind a.toNat d s) ((gGet a.toNat ra s).toNat / 2 ^ 30) = true →
      (gateRoom a.toNat ((gGet a.toNat ra s).toNat / 2 ^ 28 % 4) s = true → ∃ t, exec (.uwGate a ra rb) s = .next t ∧ OneCycle a.toNat s t ∧
        NextWord a.toNat s t ∧ (seq a.toNat t).fly.length = (seq a.toNat s).fly.length + 1) ∧
      (gateRoom a.toNat ((gGet a.toNat ra s).toNat / 2 ^ 28 % 4) s = false → ∃ t, exec (.uwGate a ra rb) s = .next t ∧ OneCycle a.toNat s t ∧
        seqState a.toNat t = 4 ∧ (seq a.toNat t).fly = (seq a.toNat s).fly)) ∧
  (∀ a w k s, (seq a.toNat s).block = .gate w k → gateRoom a.toNat (w.toNat / 2 ^ 28 % 4) s = true → ∃ t, exec (.gateStallEnd a) s = .next t ∧
      seqState a.toNat t = 2 ∧ (seq a.toNat t).block = .none ∧ (seq a.toNat t).fly.length = (seq a.toNat s).fly.length + 1) ∧
  (∀ a i e s, (fly a.toNat s).find? (fun x => x.slot == i.toNat && x.inQ && x.st == .queued) = some e → flyGet a.toNat e.id s = some e → e.dead = false →
      e.mode ≠ 2 → (actMask a.toNat F_SRV_ACT_STATE_IN_STRIPE s).testBit i.toNat = false → ∃ t, exec (.gateEntryOpen a i) s = .next t ∧
        ∃ f, flyGet a.toNat e.id t = some f ∧ f.st = .done ∧ f.word = outcomeWord 7 1 e.slot 0 e.k) ∧
  (∀ a i e s, (fly a.toNat s).find? (fun x => x.slot == i.toNat && x.inQ && x.st == .queued) = some e → flyGet a.toNat e.id s = some e → e.dead = false →
      e.mode ≠ 2 → (actMask a.toNat F_SRV_ACT_STATE_IN_STRIPE s).testBit i.toNat = true →
      (actState a.toNat s ≠ 4 ∨ s.fld (SRV_ACT_STATE a.toNat) F_SRV_ACT_STATE_READ_SETTLED = 0) → ∃ t, exec (.gateEntryOpen a i) s = .next t ∧
        ∃ f, flyGet a.toNat e.id t = some f ∧ f.st = .done ∧ f.word = outcomeWord 7 2 e.slot 0 e.k) ∧
  (∀ a i e s, (fly a.toNat s).find? (fun x => x.slot == i.toNat && x.inQ && x.st == .queued) = some e → flyGet a.toNat e.id s = some e → e.dead = false →
      e.mode ≠ 2 → (actMask a.toNat F_SRV_ACT_STATE_IN_STRIPE s).testBit i.toNat = true → actState a.toNat s = 4 →
      s.fld (SRV_ACT_STATE a.toNat) F_SRV_ACT_STATE_READ_SETTLED = 1 → ∃ t, exec (.gateEntryOpen a i) s = .next t ∧
        ∃ f, flyGet a.toNat e.id t = some f ∧ f.st = .open) ∧
  (∀ a ra rb s, Running a.toNat s → ∃ t, exec (.uwSeek a ra rb) s = .next t ∧ OneCycle a.toNat s t ∧ NextWord a.toNat s t ∧
      ∀ r : BitVec 5, gGet a.toNat r t = gGet a.toNat r s) ∧
  (∀ a ra rb s, Running a.toNat s → gatesClear a.toNat s = true →
      zoneRate a.toNat (zoneOf a.toNat (gGet a.toNat rb s).toNat s) s = (lnk a.toNat s).rate → ∃ t, exec (.uwZone a ra rb) s = .next t ∧
        Computes a.toNat ra (BitVec.ofNat 32 (zoneOf a.toNat (gGet a.toNat rb s).toNat s +
          if fmtValid a.toNat (zoneOf a.toNat (gGet a.toNat rb s).toNat s) s = true then 0 else 2 ^ 31)) s t ∧
        (seq a.toNat t).zone = some (zoneOf a.toNat (gGet a.toNat rb s).toNat s)) ∧
  (∀ a ra rb s, Running a.toNat s → gatesClear a.toNat s = false → ∃ t, exec (.uwZone a ra rb) s = .next t ∧ seqState a.toNat t = 3 ∧
      (seq a.toNat t).block = .zone ra.toNat (gGet a.toNat rb s).toNat false) ∧
  (∀ a dst cyl s, (seq a.toNat s).block = .zone dst cyl false → gatesClear a.toNat s = true →
      zoneRate a.toNat (zoneOf a.toNat cyl s) s = (lnk a.toNat s).rate → ∃ t, exec (.zoneComplete a) s = .next t ∧ seqState a.toNat t = 2 ∧
        (seq a.toNat t).block = .none ∧ (seq a.toNat t).zone = some (zoneOf a.toNat cyl s)) ∧
  (∀ a ra s, Running a.toNat s → (seq a.toNat s).outq = [] → ∃ t, exec (.uwOutq a ra) s = .next t ∧ Computes a.toNat ra 0 s t) ∧
  (∀ a ra o rest e s, Running a.toNat s → (seq a.toNat s).outq = o :: rest → flyGet a.toNat o s = some e → ∃ t, exec (.uwOutq a ra) s = .next t ∧
      Computes a.toNat ra e.word s t ∧ (seq a.toNat t).outq = rest ∧
      flyGet a.toNat o t = if e.inQ then some { e with taken := true } else none) ∧
  (∀ a ra rb imm d s, Running a.toNat s → runSlot a.toNat s = some d → imm.toNat % 4 = 3 → resRoom a.toNat s = true →
      ∃ t, exec (.uwPost a ra rb imm) s = .next t ∧ OneCycle a.toNat s t ∧ NextWord a.toNat s t ∧
        (seq a.toNat t).res = (seq a.toNat s).res ++ [(resW0 3 (descTag a.toNat d s) (gGet a.toNat rb s).toNat, gGet a.toNat ra s)]) ∧
  (∀ a ra rb imm s, Running a.toNat s → (seq a.toNat s).npc % 8192 < 6144 → resRoom a.toNat s = false → ∃ t, exec (.uwPost a ra rb imm) s = .next t ∧
      seqState a.toNat t = 4 ∧ (seq a.toNat t).res = (seq a.toNat s).res ∧ Counted 0x3007 s t) ∧
  (∀ a typ w1 f s, (seq a.toNat s).block = .post typ w1 f → resRoom a.toNat s = true → ∃ t, exec (.gateStallEnd a) s = .next t ∧
      seqState a.toNat t = 2 ∧ (seq a.toNat t).res.length = (seq a.toNat s).res.length + 1)

/-- R226, R236, R238, R241, R242, R252–R255: operations. -/
def Obligations.SequencerOperations : Prop :=
  (∀ m a v s, mayCmd m = true → s.domOn a.toNat = true → postOk a.toNat (v.toNat % 16) s = true → ∃ t, exec (.seqPost m a v) s = .next t ∧
      slotBusy a.toNat (v.toNat % 16) t = true ∧ (seq a.toNat t).ops = (seq a.toNat s).ops ++ [{ slot := v.toNat % 16, cls := descClass a.toNat (v.toNat % 16) s }]) ∧
  (∀ m a v s, mayCmd m = true → s.domOn a.toNat = true →
      (slotBusy a.toNat (v.toNat % 16) s = true ∨ kindOk a.toNat (descKind a.toNat (v.toNat % 16) s) s = false ∨ seqState a.toNat s = 5 ∨
        s.fld (SEQ_STATE a.toNat) F_SEQ_STATE_RELOAD_PENDING = 1 ∨ bufferOk (descBase a.toNat (v.toNat % 16) s) (descLimit a.toNat (v.toNat % 16) s) = false) →
      ∃ t, exec (.seqPost m a v) s = .next t ∧ (seq a.toNat t).ops = (seq a.toNat s).ops ∧ t.fld (SEQ_EVENTS a.toNat) F_SEQ_EVENTS_POST_REFUSED = 1 ∧
        Denied s t ∧ Counted 0x3001 s t) ∧
  (∀ a ra o s, Running a.toNat s → (seq a.toNat s).npc % 8192 < 6144 → nextOp (seq a.toNat s).ops = some o → o.slot < 16 →
      ∃ t, exec (.uwNext a ra) s = .next t ∧ Computes a.toNat ra (BitVec.ofNat 32 o.slot) s t ∧ runSlot a.toNat t = some o.slot ∧
        (∀ x ∈ (seq a.toNat s).ops, o.cls ≤ x.cls)) ∧
  (∀ a ra s, Running a.toNat s → (seq a.toNat s).npc % 8192 < 6144 → (seq a.toNat s).ops = [] →
      ∃ t, exec (.uwNext a ra) s = .next t ∧ Computes a.toNat ra 0xFFFFFFFF s t) ∧
  (∀ a ra rb s, Running a.toNat s → 6144 ≤ (seq a.toNat s).npc % 8192 →
      (∃ t, exec (.uwNext a ra) s = .next t ∧ SeqFaulted a.toNat F_SEQ_FAULT_ALLOT s t) ∧
      ∃ t, exec (.uwDone a ra rb) s = .next t ∧ SeqFaulted a.toNat F_SEQ_FAULT_ALLOT s t) ∧
  (∀ a ra rb d s, Running a.toNat s → (seq a.toNat s).npc % 8192 < 6144 → runSlot a.toNat s = some d → (gGet a.toNat ra s).toNat % 16 ≠ 2 →
      (gGet a.toNat ra s).toNat % 16 ≠ 5 → ∃ t, exec (.uwDone a ra rb) s = .next t ∧ OneCycle a.toNat s t ∧ NextWord a.toNat s t ∧
        runSlot a.toNat t = none ∧ slotBusy a.toNat d t = false ∧ (seq a.toNat t).res = (seq a.toNat s).res ++
          [(resW0 1 (descTag a.toNat d s) ((gGet a.toNat ra s).toNat % 16), doneW1 0 false false d (gGet a.toNat rb s).toNat)]) ∧
  (∀ m a v o s, mayCmd m = true → s.domOn a.toNat = true → (seq a.toNat s).ops.find? (fun x => x.slot == v.toNat % 16) = some o → o.ran = false →
      ∃ t, exec (.seqCancel m a v) s = .next t ∧ Counted 0x3008 s t ∧ slotBusy a.toNat (v.toNat % 16) t = false ∧
        (seq a.toNat t).res = (seq a.toNat s).res ++ [(resW0 1 (descTag a.toNat (v.toNat % 16) s) 2, doneW1 0 false false (v.toNat % 16) 0)]) ∧
  (∀ m a v o s, mayCmd m = true → s.domOn a.toNat = true → (seq a.toNat s).ops.find? (fun x => x.slot == v.toNat % 16) = some o → o.ran = true →
      ∃ t, exec (.seqCancel m a v) s = .next t ∧ (seq a.toNat t).res = (seq a.toNat s).res ∧
        ∃ x, (seq a.toNat t).ops.find? (fun x => x.slot == v.toNat % 16) = some x ∧ x.cancel = true) ∧
  (∀ a s, (seq a.toNat s).allot.isSome = true → s.fld (SEQ_ALLOT a.toNat) F_SEQ_ALLOT_MAX_WEDGES < (seq a.toNat s).wdog →
      ∃ t, exec (.allotWatchdog a) s = .next t ∧ SeqFaulted a.toNat F_SEQ_FAULT_WDOG s t ∧ Counted 0x3004 s t) ∧
  (∀ a s, s.domOn a.toNat = true → seqState a.toNat s ≠ 5 → seqState a.toNat s ≠ 6 → ∃ t, exec (.storeEccError a false) s = .next t ∧
      SeqFaulted a.toNat F_SEQ_FAULT_STORE_ECC s t) ∧
  (∀ a s, exec (.storeEccError a true) s = .next s) ∧
  (∀ m a w0 w1 r s, s.domOn a.toNat = true → (seq a.toNat s).res = (w0, w1) :: r → r.length < 256 → ∃ t, exec (.resultRecordRead m a) s = .next t ∧
      t.rdata = w0 ∧ t.rd (SEQ_RES1 a.toNat) = w1 ∧ (seq a.toNat t).res = r ∧ t.fld (SEQ_RES_COUNT a.toNat) F_SEQ_RES_COUNT_COUNT = r.length) ∧
  (∀ m a s, s.domOn a.toNat = true → (seq a.toNat s).res = [] → ∃ t, exec (.resultRecordRead m a) s = .next t ∧ t.rdata = 0 ∧
      t.rd (SEQ_RES1 a.toNat) = 0 ∧ (seq a.toNat t).res = [])

/-- R225, R245, R251, R256–R258: control and loading. -/
def Obligations.SequencerControl : Prop :=
  (∀ m a s, mayCmd m = true → s.domOn a.toNat = true → seqState a.toNat s = 5 → ∃ t, exec (.seqRun m a) s = .next t ∧ seqState a.toNat t = 2 ∧
      seqPc a.toNat t = 0 ∧ (seq a.toNat t).npc = 0 ∧ (seq a.toNat t).stack = [] ∧ ∀ r : BitVec 5, gGet a.toNat r t = 0) ∧
  (∀ m a s, mayCmd m = true → s.domOn a.toNat = true → seqState a.toNat s ≠ 5 → exec (.seqRun m a) s = .next s) ∧
  (∀ m a s, mayCmd m = true → s.domOn a.toNat = true → seqState a.toNat s ≠ 5 → seqState a.toNat s ≠ 6 → ∃ t, exec (.seqHalt m a) s = .next t ∧
      seqState a.toNat t = 5 ∧ runSlot a.toNat t = runSlot a.toNat s ∧ (seq a.toNat t).ops = (seq a.toNat s).ops ∧ (seq a.toNat t).res = (seq a.toNat s).res ∧
      t.fld (SEQ_EVENTS a.toNat) F_SEQ_EVENTS_HALTED = 1 ∧ Counted 0x3002 s t ∧ (fly a.toNat t).all (fun e => e.st != .queued)) ∧
  (∀ m a s, mayCmd m = true → s.domOn a.toNat = true →
      (seqState a.toNat s = 5 → ∃ t, exec (.seqReload m a) s = .next t ∧ seqState a.toNat t = 6) ∧
      (seqState a.toNat s ≠ 5 → ∃ t, exec (.seqReload m a) s = .next t ∧ seqState a.toNat t = seqState a.toNat s ∧ Denied s t)) ∧
  (∀ m a z hi v s, mayCmd m = true → s.domOn a.toNat = true → ((fly a.toNat s).any (fun e => e.inQ) = true ∨
      fmtLimits (if hi = true then zoneSpt a.toNat z.toNat s else fget v F_SEQ_FMT0_SPT)
        (if hi = true ∧ (fget v F_SEQ_FMT1_DA_CELLS = 0 ∨ 4096 ≤ fget v F_SEQ_FMT1_DA_CELLS) then fget v F_SEQ_FMT1_DA_CELLS
          else s.fld (SEQ_FMT1 a.toNat z.toNat) F_SEQ_FMT1_DA_CELLS) (s.fld (SRV_WEDGE (hdaOf a.toNat)) F_SRV_WEDGE_WEDGES) = false) →
      ∃ t, exec (.seqFmtWrite m a z hi v) s = .next t ∧ t.rd (SEQ_FMT0 a.toNat z.toNat) = s.rd (SEQ_FMT0 a.toNat z.toNat) ∧
        t.rd (SEQ_FMT1 a.toNat z.toNat) = s.rd (SEQ_FMT1 a.toNat z.toNat) ∧ Denied s t) ∧
  (∀ m a z v s, mayCmd m = true → s.domOn a.toNat = true → (fly a.toNat s).any (fun e => e.inQ) = false →
      fmtLimits (fget v F_SEQ_FMT0_SPT) (s.fld (SEQ_FMT1 a.toNat z.toNat) F_SEQ_FMT1_DA_CELLS) (s.fld (SRV_WEDGE (hdaOf a.toNat)) F_SRV_WEDGE_WEDGES) = true →
      200 ≤ fget v F_SEQ_FMT0_DA_START_NS → fget v F_SEQ_FMT0_DA_START_NS ≤ 4000 → ∃ t, exec (.seqFmtWrite m a z false v) s = .next t ∧
        zoneSpt a.toNat z.toNat t = fget v F_SEQ_FMT0_SPT ∧ t.fld (SEQ_FMT0 a.toNat z.toNat) F_SEQ_FMT0_DA_START_NS = fget v F_SEQ_FMT0_DA_START_NS) ∧
  (∀ m s, mayCmd m = true → (loadResult s = 1 ∨ loadResult s = 6 → ∃ t, exec (.loadVerify m) s = .next t ∧ loadResult t = loadResult s ∧ Denied s t) ∧
      (loadResult s ≠ 1 → loadResult s ≠ 6 → ∃ t, exec (.loadVerify m) s = .next t ∧ loadResult t = 1)) ∧
  (∀ s, loadResult s = 1 → loadPlace (loadRes s) 24576 = false → ∃ t, exec .loadVerifyEnd s = .next t ∧ loadResult t = 5 ∧ t.seqStaged = none ∧
      t.seqMaster = s.seqMaster ∧ Counted 0x3006 s t) ∧
  (∀ s, loadResult s = 1 → loadPlace (loadRes s) 24576 = true → loadAllot s = 0 → ∃ t, exec .loadVerifyEnd s = .next t ∧ loadResult t = 2 ∧
      t.seqStaged = some { words := memWords (loadRes s) 6144 s ++ List.replicate 2048 0xFC000000#32, allot := false, imageId := 0, entries := [] }) ∧
  (∀ m s, mayCmd m = true → loadResult s ≠ 2 → ∃ t, exec (.loadCommit m) s = .next t ∧ t.seqMaster = s.seqMaster ∧ Denied s t) ∧
  (∀ m i s, mayCmd m = true → loadResult s = 2 → s.seqStaged = some i → ∃ t, exec (.loadCommit m) s = .next t ∧ t.seqMaster = some i ∧ loadResult t = 7 ∧
      t.fld SEQ_LOAD_STATUS F_SEQ_LOAD_STATUS_GENERATION = satAdd 16 (s.fld SEQ_LOAD_STATUS F_SEQ_LOAD_STATUS_GENERATION) 1 ∧ t.rd SEQ_IMAGE_ID = i.imageId ∧
      ∀ a ∈ List.range 64, s.domOn a = true → t.fld (SEQ_STATE a) F_SEQ_STATE_RELOAD_PENDING = 1) ∧
  (∀ a s, s.domOn a.toNat = true → reloadReady a.toNat s = true → ∃ t, exec (.seqStoreReload a) s = .next t ∧ seqState a.toNat t = 2 ∧
      (seq a.toNat t).npc = 0 ∧ (seq a.toNat t).img = s.seqMaster.map (fun i => i.words) ∧ Counted 0x3005 s t ∧
      t.fld (SEQ_STATE a.toNat) F_SEQ_STATE_RELOAD_PENDING = 0)

/-- R265, R269–R274, R277, R283, R285: the tag operations, by what the lookup finds. -/
def Obligations.TagOperations : Prop :=
  (∀ c v e s, v.toNat.testBit 30 = false → fget v F_BUF_TE_CMD_STATUS < 3 → lookFind (teKey c.toNat s) false s = some e → (tag e s).st ≠ 1 →
      (tag e s).covers false (fget v F_BUF_TE_CMD_FIRST) (fget v F_BUF_TE_CMD_LAST) = true → ∃ t, exec (.lookupRead c v) s = .next t ∧ teCode c.toNat t = 1 ∧
        (tag e t).pins = min 4095 ((tag e s).pins + 1) ∧ (tag e t).st = (tag e s).st ∧
        t.ctr (BUF_STATS 0) = (s.ctr (BUF_STATS 0) + 1) % 2 ^ 64) ∧
  (∀ c v e s, v.toNat.testBit 30 = false → lookFind (teKey c.toNat s) false s = none → rdEn s = true → victim (setOf (teKey c.toNat s)) s = some e →
      e < 131072 → ∃ t, exec (.lookupRead c v) s = .next t ∧ teCode c.toNat t = 2 ∧ (tag e t).st = 1 ∧ (tag e t).merge = false ∧ (tag e t).pins = 1 ∧
        (tag e t).key = teKey c.toNat s ∧ t.fld (BUF_TE_RES0 c.toNat) F_BUF_TE_RES0_WAY = e % 16 ∧
        t.fld (BUF_TE_RES0 c.toNat) F_BUF_TE_RES0_SET = setOf (teKey c.toNat s) % 8192) ∧
  (∀ c v e s, v.toNat.testBit 30 = false → lookFind (teKey c.toNat s) false s = some e → (tag e s).st = 1 → ∃ t, exec (.lookupRead c v) s = .next t ∧
      teCode c.toNat t = 4 ∧ (tag e t).st = 1 ∧ (tag e t).waiters = (tag e s).waiters ++ [(c.toNat, teTask c.toNat s)] ∧
      (tag e t).pins = min 4095 ((tag e s).pins + 1)) ∧
  (∀ c v e s, v.toNat.testBit 30 = false → lookFind (teKey c.toNat s) false s = some e → (tag e s).st = 3 →
      (tag e s).covers false (fget v F_BUF_TE_CMD_FIRST) (fget v F_BUF_TE_CMD_LAST) = false → ∃ t, exec (.lookupRead c v) s = .next t ∧ teCode c.toNat t = 5 ∧
        (tag e t).st = 1 ∧ (tag e t).merge = true ∧ (tag e t).first = (tag e s).first ∧ (tag e t).last = (tag e s).last) ∧
  (∀ c v s, v.toNat.testBit 30 = false → lookFind (teKey c.toNat s) false s = none → rdEn s = true → victim (setOf (teKey c.toNat s)) s = none →
      ∃ t, exec (.lookupRead c v) s = .next t ∧ teCode c.toNat t = 6 ∧
        t.buf.setW = s.buf.setW ++ [(setOf (teKey c.toNat s), c.toNat, teTask c.toNat s)]) ∧
  (∀ c v s, lookFind (teKey c.toNat s) false s = none → rdEn s = false → ∃ t, exec (.lookupRead c v) s = .next t ∧ teCode c.toNat t = 7 ∧
      t.buf.tags = s.buf.tags) ∧
  (∀ c v e s, lookFind (teKey c.toNat s) true s = some e → wrDraining s = false → (tag e s).st = 3 →
      (tag e s).covers true (fget v F_BUF_TE_CMD_FIRST) (fget v F_BUF_TE_CMD_LAST) = true → ∃ t, exec (.lookupWrite c v) s = .next t ∧ teCode c.toNat t = 1 ∧
        (tag e t).pins = min 4095 ((tag e s).pins + 1) ∧ (tag e t).st = 3) ∧
  (∀ c v e s, lookFind (teKey c.toNat s) true s = some e → wrDraining s = true → ((tag e s).st = 3 ∨ (tag e s).st = 4) →
      ∃ t, exec (.lookupWrite c v) s = .next t ∧ teCode c.toNat t = 4 ∧ (tag e t).drainW = (tag e s).drainW ++ [(c.toNat, teTask c.toNat s)]) ∧
  (∀ c v e s, lookFind (teKey c.toNat s) true s = none → wrEn s = true → setWriteLines (setOf (teKey c.toNat s)) s < s.fld BUF_WB_CTL F_BUF_WB_CTL_SET_MAX →
      victim (setOf (teKey c.toNat s)) s = some e → e < 131072 → ∃ t, exec (.lookupWrite c v) s = .next t ∧ teCode c.toNat t = 3 ∧ (tag e t).st = 3 ∧ (tag e t).part = true ∧
        (tag e t).last < (tag e t).first ∧ (tag e t).pins = 1 ∧ (tag e t).key = teKey c.toNat s) ∧
  (∀ c v s, lookFind (teKey c.toNat s) true s = none → wrEn s = true → s.fld BUF_WB_CTL F_BUF_WB_CTL_SET_MAX ≤ setWriteLines (setOf (teKey c.toNat s)) s →
      ∃ t, exec (.lookupWrite c v) s = .next t ∧ teCode c.toNat t = 6) ∧
  (∀ c v s, lookFind (teKey c.toNat s) true s = none → wrEn s = false → ∃ t, exec (.lookupWrite c v) s = .next t ∧ teCode c.toNat t = 7) ∧
  (∀ c v s, (tag (teEntry c.toNat s) s).st = 3 → (tag (teEntry c.toNat s) s).first ≤ (tag (teEntry c.toNat s) s).last → ∃ t, exec (.tagCommit c v) s = .next t ∧
      (tag (teEntry c.toNat s) t).st = 3 ∧ (tag (teEntry c.toNat s) t).first = min (tag (teEntry c.toNat s) s).first (fget v F_BUF_TE_CMD_FIRST) ∧
      (tag (teEntry c.toNat s) t).last = max (tag (teEntry c.toNat s) s).last (fget v F_BUF_TE_CMD_LAST)) ∧
  (∀ c v s, (tag (teEntry c.toNat s) s).st = 3 → (tag (teEntry c.toNat s) s).last < (tag (teEntry c.toNat s) s).first → ∃ t, exec (.tagCommit c v) s = .next t ∧
      (tag (teEntry c.toNat s) t).first = fget v F_BUF_TE_CMD_FIRST ∧ (tag (teEntry c.toNat s) t).last = fget v F_BUF_TE_CMD_LAST) ∧
  (∀ c v s, (tag (teEntry c.toNat s) s).st = 4 → ∃ t, exec (.tagCommit c v) s = .next t ∧ (tag (teEntry c.toNat s) t).st = 4 ∧
      (tag (teEntry c.toNat s) t).redirty = true) ∧
  (∀ c v s, (tag (teEntry c.toNat s) s).st = 3 → (tag (teEntry c.toNat s) s).doomed = false → ∃ t, exec (.tagRelease c v) s = .next t ∧
      ((tag (teEntry c.toNat s) s).last < (tag (teEntry c.toNat s) s).first ∧ (tag (teEntry c.toNat s) s).pins ≤ 1 → (tag (teEntry c.toNat s) t).st = 0) ∧
      ((tag (teEntry c.toNat s) s).first ≤ (tag (teEntry c.toNat s) s).last → (tag (teEntry c.toNat s) t).st = 3 ∧
        (tag (teEntry c.toNat s) t).pins = (tag (teEntry c.toNat s) s).pins - 1)) ∧
  (∀ c v s, (tag (teEntry c.toNat s) s).st = 2 → (tag (teEntry c.toNat s) s).doomed = true → (tag (teEntry c.toNat s) s).pins = 1 →
      ∃ t, exec (.tagRelease c v) s = .next t ∧ (tag (teEntry c.toNat s) t).st = 0) ∧
  (∀ c v s, (tag (teEntry c.toNat s) s).st = 1 → (tag (teEntry c.toNat s) s).merge = false → (tag (teEntry c.toNat s) s).doomed = false →
      fget v F_BUF_TE_CMD_STATUS = 0 → rdEn s = true → ∃ t, exec (.fillDone c v) s = .next t ∧ (tag (teEntry c.toNat s) t).st = 2 ∧
        (tag (teEntry c.toNat s) t).waiters = [] ∧ (tag (teEntry c.toNat s) t).doomed = false) ∧
  (∀ c v s, (tag (teEntry c.toNat s) s).st = 1 → (tag (teEntry c.toNat s) s).merge = true → (tag (teEntry c.toNat s) s).doomed = false →
      fget v F_BUF_TE_CMD_STATUS = 2 → ∃ t, exec (.fillDone c v) s = .next t ∧ (tag (teEntry c.toNat s) t).st = 3 ∧ (tag (teEntry c.toNat s) t).part = true ∧
        (tag (teEntry c.toNat s) t).first = (tag (teEntry c.toNat s) s).first ∧ (tag (teEntry c.toNat s) t).last = (tag (teEntry c.toNat s) s).last)

/-- R275, R278, R279, R282, R289, R290: queues and maintenance. -/
def Obligations.WriteBackMaintenance : Prop :=
  (∀ e s, wbNext s = some e → (tag e s).takeable = true → s.buf.wbq.length < 512 → ∃ t, exec .writebackRequest s = .next t ∧ (tag e t).st = 4 ∧
      t.buf.wbq = s.buf.wbq ++ [(e, (tag e s).key, (tag e s).first, (tag e s).last)]) ∧
  (∀ set w s, (tag (16 * set.toNat + w.toNat) s).takeable = true → s.buf.wbq.length < 512 → ∃ t, exec (.dirtyAgeExpired set w) s = .next t ∧
      (tag (16 * set.toNat + w.toNat) t).st = 4 ∧ t.buf.wbq = s.buf.wbq ++ [(16 * set.toNat + w.toNat, (tag (16 * set.toNat + w.toNat) s).key,
        (tag (16 * set.toNat + w.toNat) s).first, (tag (16 * set.toNat + w.toNat) s).last)]) ∧
  (∀ set w s, (tag (16 * set.toNat + w.toNat) s).takeable = true → (tag (16 * set.toNat + w.toNat) s).due = false → 512 ≤ s.buf.wbq.length →
      ∃ t, exec (.dirtyAgeExpired set w) s = .next t ∧ (tag (16 * set.toNat + w.toNat) t).st = 3 ∧ t.buf.wbq = s.buf.wbq ∧ Counted 0x6001 s t) ∧
  (∀ s, s.buf.wbq = [] → ∃ t, exec .wbRequestRead s = .next t ∧ t.rdata = 0) ∧
  (∀ e k f l r s, s.buf.wbq = (e, k, f, l) :: r → e < 131072 → f < 128 → l < 128 → k < 2 ^ 40 → ∃ t, exec .wbRequestRead s = .next t ∧ t.buf.wbq = r ∧
      t.rdata = BitVec.ofNat 32 (2 ^ 31 + e % 16 * 2 ^ 27 + e / 16 * 2 ^ 14 + l * 2 ^ 7 + f) ∧ (t.rd BUF_WB_REQ1).toNat = k % 2 ^ 32 ∧
      (t.rd BUF_WB_REQ2).toNat = k / 2 ^ 32) ∧
  (∀ c s, tget [] s.buf.wakes c.toNat = [] → exec (.wakeRead c) s = .next { s with rdata := 0 }) ∧
  (∀ s, s.buf.raq = [] → ∃ t, exec .raRequestRead s = .next t ∧ t.rdata = 0 ∧ t.rd BUF_RA_REQ1 = 0) ∧
  (∀ c k f r s, tget [] s.buf.wakes c.toNat = (k, f) :: r → k < 2048 → ∃ t, exec (.wakeRead c) s = .next t ∧ tget [] t.buf.wakes c.toNat = r ∧
      t.rdata = BitVec.ofNat 32 (2 ^ 31 + (if f = true then 2 ^ 30 else 0) + k)) ∧
  (∀ k c r s, s.buf.raq = (k, c) :: r → c < 4 → k < 2 ^ 40 → ∃ t, exec .raRequestRead s = .next t ∧ t.buf.raq = r ∧
      t.rdata = BitVec.ofNat 32 (2 ^ 31 + c * 256 + k / 2 ^ 32) ∧ (t.rd BUF_RA_REQ1).toNat = k % 2 ^ 32) ∧
  (∀ m v s, mayCmd m = true → ∃ t, exec (.wbDone m v) s = .next t ∧ t.rd BUF_WB_DONE = v &&& 0x4003DFFF ∧
      t.ctr (BUF_STATS 7) = (s.ctr (BUF_STATS 7) + if (tag (16 * fget v F_BUF_WB_DONE_SET + fget v F_BUF_WB_DONE_WAY) s).st = 4 then 1 else 0) % 2 ^ 64) ∧
  (∀ m v s, mayCmd m = true → (tag (16 * fget v F_BUF_WB_DONE_SET + fget v F_BUF_WB_DONE_WAY) s).st = 4 → (tag (16 * fget v F_BUF_WB_DONE_SET + fget v F_BUF_WB_DONE_WAY) s).pins = 0 → s.buf.mWait = [] →
      (tag (16 * fget v F_BUF_WB_DONE_SET + fget v F_BUF_WB_DONE_WAY) s).doomed = true ∨ (fget v F_BUF_WB_DONE_RESULT = 0 ∧ (tag (16 * fget v F_BUF_WB_DONE_SET + fget v F_BUF_WB_DONE_WAY) s).redirty = false ∧ rdEn s = false) →
      ∃ t, exec (.wbDone m v) s = .next t ∧ (tag (16 * fget v F_BUF_WB_DONE_SET + fget v F_BUF_WB_DONE_WAY) t).st = 0) ∧
  (∀ m v s, mayCmd m = true → (tag (16 * fget v F_BUF_WB_DONE_SET + fget v F_BUF_WB_DONE_WAY) s).st = 4 →
      (tag (16 * fget v F_BUF_WB_DONE_SET + fget v F_BUF_WB_DONE_WAY) s).doomed = false → s.buf.mWait = [] →
      (fget v F_BUF_WB_DONE_RESULT = 1 ∨ (tag (16 * fget v F_BUF_WB_DONE_SET + fget v F_BUF_WB_DONE_WAY) s).redirty = true →
        ∃ t, exec (.wbDone m v) s = .next t ∧ (tag (16 * fget v F_BUF_WB_DONE_SET + fget v F_BUF_WB_DONE_WAY) t).st = 3 ∧
          (tag (16 * fget v F_BUF_WB_DONE_SET + fget v F_BUF_WB_DONE_WAY) t).redirty = false) ∧
      (fget v F_BUF_WB_DONE_RESULT = 0 → (tag (16 * fget v F_BUF_WB_DONE_SET + fget v F_BUF_WB_DONE_WAY) s).redirty = false → rdEn s = true →
        ∃ t, exec (.wbDone m v) s = .next t ∧ (tag (16 * fget v F_BUF_WB_DONE_SET + fget v F_BUF_WB_DONE_WAY) t).st = 2)) ∧
  (∀ m v s, mayCmd m = true → s.fld BUF_MAINT_STATUS F_BUF_MAINT_STATUS_BUSY = 1 →
      (∃ t, exec (.maintInval m v) s = .next t ∧ t.buf = s.buf ∧ Denied s t) ∧ (∃ t, exec (.maintClean m v) s = .next t ∧ t.buf = s.buf ∧ Denied s t) ∧
      (∃ t, exec (.maintCleanInval m v) s = .next t ∧ t.buf = s.buf ∧ Denied s t) ∧ (∃ t, exec (.maintDiscard m v) s = .next t ∧ t.buf = s.buf ∧ Denied s t) ∧
      (∃ t, exec (.maintInvalClass m v) s = .next t ∧ t.buf = s.buf ∧ Denied s t) ∧
      ∃ t, exec (.maintCleanAll m v) s = .next t ∧ t.buf = s.buf ∧ Denied s t) ∧
  (∀ m v e s, mayCmd m = true → s.fld BUF_MAINT_STATUS F_BUF_MAINT_STATUS_BUSY = 0 → s.buf.tags = [e] → maintKey s = e.2.key →
      fget v F_BUF_MAINT_CTL_COUNT = 1 → e.2.doomed = false → e.2.drainW = [] →
      (e.2.st = 2 → e.2.pins = 0 → ∃ t, exec (.maintInval m v) s = .next t ∧ (tag e.1 t).st = 0 ∧ t.fld BUF_MAINT_STATUS F_BUF_MAINT_STATUS_BUSY = 1) ∧
      (e.2.st = 3 → ∃ t, exec (.maintInval m v) s = .next t ∧ (tag e.1 t).st = 3 ∧ t.fld BUF_MAINT_STATUS F_BUF_MAINT_STATUS_SKIPPED = 1) ∧
      (e.2.takeable = true → s.buf.wbq = [] → (∃ t, exec (.maintClean m v) s = .next t ∧ (tag e.1 t).st = 4) ∧
        ∃ t, exec (.maintCleanInval m v) s = .next t ∧ (tag e.1 t).st = 4) ∧
      (e.2.st = 3 → e.2.pins = 0 → ∃ t, exec (.maintDiscard m v) s = .next t ∧ (tag e.1 t).st = 0)) ∧
  (∀ m v s, mayCmd m = true → s.fld BUF_MAINT_STATUS F_BUF_MAINT_STATUS_BUSY = 0 → s.buf.tags = [] →
      (∃ t, exec (.maintInvalClass m v) s = .next t ∧ t.fld BUF_MAINT_STATUS F_BUF_MAINT_STATUS_BUSY = 1 ∧ t.buf.mOp = 5 ∧ t.buf.mWait = []) ∧
      ∃ t, exec (.maintCleanAll m v) s = .next t ∧ t.fld BUF_MAINT_STATUS F_BUF_MAINT_STATUS_BUSY = 1 ∧ t.buf.mOp = 6 ∧ t.buf.mWait = []) ∧
  (∀ s, s.fld BUF_MAINT_STATUS F_BUF_MAINT_STATUS_BUSY = 1 → s.buf.mWait = [] → ∃ t, exec .maintEnd s = .next t ∧
      t.fld BUF_MAINT_STATUS F_BUF_MAINT_STATUS_BUSY = 0 ∧ Counted 0x6007 s t ∧
      (s.buf.mOp = 5 → t.fld BUF_CLASS_STATUS F_BUF_CLASS_STATUS_RD_STALE = 0) ∧
      (s.buf.mOp ≠ 5 → t.fld BUF_CLASS_STATUS F_BUF_CLASS_STATUS_RD_STALE = s.fld BUF_CLASS_STATUS F_BUF_CLASS_STATUS_RD_STALE))

/-- R286: re-enabling the read class. -/
def Obligations.ReadClassEnable : Prop :=
  (∀ m s, mayCmd m = true → ∃ t, exec (.rdEn m true) s = .next t ∧ rdEn t = true ∧
      t.fld BUF_CLASS_STATUS F_BUF_CLASS_STATUS_RD_STALE = s.fld BUF_CLASS_STATUS F_BUF_CLASS_STATUS_RD_STALE ∧
      ∀ e : BitVec 17, (tag e.toNat t).st = (tag e.toNat s).st ∧ (tag e.toNat t).doomed = (tag e.toNat s).doomed ∧ (tag e.toNat t).key = (tag e.toNat s).key)

/-- R261, R284, R285, R287, R288, R292, R295, R297–R299, R302. -/
def Obligations.ClassesWaysDram : Prop :=
  (∀ m s, mayCmd m = true → wrEn s = true → s.buf.tags.any (fun x => x.2.dirtyClass) = true → ∃ t, exec (.wrEn m false) s = .next t ∧ wrEn t = false ∧
      wrDraining t = true ∧ ∀ e : BitVec 17, (tag e.toNat t).st = (tag e.toNat s).st) ∧
  (∀ m s, mayCmd m = true → wrEn s = true → s.buf.tags = [] → ∃ t, exec (.wrEn m false) s = .next t ∧ wrDraining t = false ∧ Counted 0x6002 s t) ∧
  (∀ m s, mayCmd m = true → ∃ t, exec (.wrEn m true) s = .next t ∧ wrEn t = true ∧ wrDraining t = false) ∧
  (∀ m s, mayCmd m = true → rdEn s = true → ∃ t, exec (.rdEn m false) s = .next t ∧ rdEn t = false ∧
      t.fld BUF_CLASS_STATUS F_BUF_CLASS_STATUS_RD_STALE = 1 ∧ ∀ e : BitVec 17, (tag e.toNat t).st = (tag e.toNat s).st) ∧
  (∀ m w s, mayCmd m = true → wayState w.toNat s = 2 → ∃ t, exec (.wayDisable m w) s = .next t ∧ wayState w.toNat t = 3 ∧
      (t.fld BUF_WAY_CTL F_BUF_WAY_CTL_EN).testBit w.toNat = false ∧ t.buf = s.buf) ∧
  (∀ m w s, mayCmd m = true → (s.fld BUF_CFG F_BUF_CFG_RANK1_PRESENT).testBit (w.toNat / 2) = true → ∃ t, exec (.wayEnable m w) s = .next t ∧
      (t.fld BUF_WAY_CTL F_BUF_WAY_CTL_EN).testBit w.toNat = true ∧ (wayState w.toNat s = 0 → wayState w.toNat t = 1 ∧ t.domOn (86 + w.toNat) = true) ∧
      (wayState w.toNat s = 3 → wayState w.toNat t = 2 ∧ t.buf = s.buf)) ∧
  (∀ m w s, mayCmd m = true → (s.fld BUF_CFG F_BUF_CFG_RANK1_PRESENT).testBit (w.toNat / 2) = false → ∃ t, exec (.wayEnable m w) s = .next t ∧
      wayState w.toNat t = wayState w.toNat s ∧ t.rd BUF_WAY_CTL = s.rd BUF_WAY_CTL ∧ Counted 0x6008 s t) ∧
  (∀ w s, wayState w.toNat s = 3 → s.buf.tags.all (fun x => x.1 % 16 != w.toNat) = true → ∃ t, exec (.wayOff w) s = .next t ∧ wayState w.toNat t = 0 ∧
      t.domOn (86 + w.toNat) = false ∧ Counted 0x6003 s t) ∧
  (∀ w s, wayState w.toNat s = 1 → ∃ t, exec (.wayOn w) s = .next t ∧
      wayState w.toNat t = if (s.fld BUF_WAY_CTL F_BUF_WAY_CTL_EN).testBit w.toNat = true then 2 else 3) ∧
  (∀ c req f o r s, slotGive (if (outOn c.toNat s).isEmpty then req else req ||| 2) (tget {} s.dram c.toNat) = r →
      ∃ t, exec (.dramSlot c req f o) s = .next t ∧ tget {} t.dram c.toNat = slotNext r.2 ∧
        t.ctr (BUF_BW c.toNat (if f = true ∧ r.1 ≠ 11 then 10 else r.1)) =
          (s.ctr (BUF_BW c.toNat (if f = true ∧ r.1 ≠ 11 then 10 else r.1)) + 1) % 2 ^ 64) ∧
  (∀ (req : Byte) (d : DramCh), (req.toNat.testBit rqMedia = true → d.pos % 4 = 0 → (slotGive req d).1 = 0) ∧
      (req.toNat.testBit rqUrgent = true → d.fix = 0 → d.pos % 8 = 1 → (slotGive req d).1 = 1) ∧
      (req.toNat.testBit rqMedia = false → req.toNat.testBit rqUrgent = true → d.pos % 4 = 0 → (slotGive req d).1 = 2) ∧
      (slotGive req d).1 ≤ 11) ∧
  (∀ addr s, dramOn addr.toNat s = true → dramOn (addr.toNat / 8 * 8) s = true → tget (0, 0) s.flips (addr.toNat / 8) = (0, 0) →
      (∃ t, exec (.dramEccError addr true) s = .next t ∧ t.mem = s.mem ∧ t.fld BUF_FLAGS F_BUF_FLAGS_DRAM_CORR = 1 ∧
        (t.rd (BUF_ECC_CORR (dramChan (addr.toNat / 8 * 8)))).toNat = satAdd 32 (s.rd (BUF_ECC_CORR (dramChan (addr.toNat / 8 * 8)))).toNat 1) ∧
      ∃ t, exec (.dramEccError addr false) s = .next t ∧ t.mem = s.mem ∧ t.poisoned addr.toNat = true ∧ Counted 0x6004 s t ∧
        t.fld BUF_FLAGS F_BUF_FLAGS_DRAM_UNCORR = 1 ∧ (t.rd (BUF_ECC_ADDR_LO (dramChan (addr.toNat / 8 * 8)))).toNat = addr.toNat / 8 * 8 % 2 ^ 32) ∧
  (∀ set w s, exec (.tagEccError set w true) s = .next (s.ctrWrap (BUF_STATS 11) 64 1)) ∧
  (∀ set w s, (tag (16 * set.toNat + w.toNat) s).st = 0 → ∃ t, exec (.tagEccError set w false) s = .next t ∧ (tag (16 * set.toNat + w.toNat) t).excl = true ∧
      (tag (16 * set.toNat + w.toNat) t).st = 0 ∧ t.fld BUF_FLAGS F_BUF_FLAGS_TAG_UNCORR = 1 ∧ Counted 0x6005 s t) ∧
  (∀ s, s.fld BUF_SCRUB_CTL F_BUF_SCRUB_CTL_EN = 1 → (s.rd BUF_SCRUB_STATE0).toNat < 2 ^ 30 - 1 → ∃ t, exec .scrubRead s = .next t ∧
      (t.rd BUF_SCRUB_STATE0).toNat = (s.rd BUF_SCRUB_STATE0).toNat + 1 ∧ t.mem = s.mem) ∧
  (∀ s, s.fld BUF_SCRUB_CTL F_BUF_SCRUB_CTL_EN = 1 → (s.rd BUF_SCRUB_STATE0).toNat = 2 ^ 31 - 1 → ∃ t, exec .scrubRead s = .next t ∧
      (t.rd BUF_SCRUB_STATE0).toNat = 0 ∧ Counted 0x6006 s t ∧ (t.rd BUF_SCRUB_STATE1).toNat = satAdd 32 (s.rd BUF_SCRUB_STATE1).toNat 1) ∧
  (∀ addr s, s.fld BUF_FLIPMASK2 F_BUF_FLIPMASK2_ARM = 1 → dramOn addr.toNat s = true → dramChan addr.toNat = s.fld BUF_FLIPMASK2 F_BUF_FLIPMASK2_CH →
      ∃ t, exec (.flipmaskArm addr) s = .next t ∧ t.fld BUF_FLIPMASK2 F_BUF_FLIPMASK2_ARM = 0 ∧ t.mem = s.mem ∧ tget (0, 0) t.flips (addr.toNat / 8) =
        ((s.rd BUF_FLIPMASK0).toNat + (s.rd BUF_FLIPMASK1).toNat * 2 ^ 32, s.fld BUF_FLIPMASK2 F_BUF_FLIPMASK2_CHECK))

/-- R312–R317, R321–R324: from the doorbell to presentation. -/
def Obligations.CommandIntake : Prop :=
  (∀ q v x s, barOk s = true → sq q.toNat s = some x → v.toNat < x.size → ∃ t, exec (.sqTailDoorbell q v) s = .next t ∧
      sq q.toNat t = some { x with tail := v.toNat }) ∧
  (∀ q v x s, barOk s = true → cq q.toNat s = some x → v.toNat < x.size → ∃ t, exec (.cqHeadDoorbell q v) s = .next t ∧
      cq q.toNat t = some { x with head := v.toNat }) ∧
  (∀ q v s, barOk s = true → (sq q.toNat s = none → ∃ t, exec (.sqTailDoorbell q v) s = .next t ∧ t.hif.sqs = s.hif.sqs ∧ Counted 0x700D s t ∧
        t.ctr (HIF_STATS 8) = (s.ctr (HIF_STATS 8) + 1) % 2 ^ 64) ∧
      (cq q.toNat s = none → ∃ t, exec (.cqHeadDoorbell q v) s = .next t ∧ t.hif.cqs = s.hif.cqs ∧ Counted 0x700D s t)) ∧
  (∀ q t x sqe s, fetchOk q.toNat t.toNat s = some x → ∃ u, exec (.entryFetch q t sqe) s = .next u ∧
      (sq q.toNat u).map (fun y => y.head) = some ((x.head + 1) % max 1 x.size) ∧ u.ctr (HIF_STATS 0) = (s.ctr (HIF_STATS 0) + 1) % 2 ^ 64 ∧
      (task t.toNat u).map (fun y => (y.sqid, y.sqe, y.admin, y.fetched)) = some (q.toNat, sqe, q == 0, s.sdl.now)) ∧
  (∀ q t x sqe s, fetchOk q.toNat t.toNat s = some x → q = 0 → ∃ u, exec (.entryFetch q t sqe) s = .next u ∧
      (task t.toNat u).map (fun y => (y.st, y.cls, y.lock)) = some (1, 1, 0)) ∧
  (∀ t x s, task t.toNat s = some x → x.st = 0 → grantable x s = true → ∃ u, exec (.rangeLockGrant t) s = .next u ∧
      task t.toNat u = some { x with st := 1 }) ∧
  (∀ t x s, task t.toNat s = some x → grantable x s = false → exec (.rangeLockGrant t) s = .next s) ∧
  (∀ m s, mayCmd m = true → s.fld HIF_ACT F_HIF_ACT_HOLD = 1 → ∃ u, exec (.taskRead m) s = .next u ∧ u.rdata = 0 ∧ u.hif = s.hif) ∧
  (∀ m t x s, mayCmd m = true → nextTask s = some (t, x) → t < 2048 → x.cls < 4 → x.sqid < 129 → ∃ u, exec (.taskRead m) s = .next u ∧
      (task t u).map (fun y => y.st) = (task t s).map (fun _ => 2) ∧ u.rdata = u.rd HIF_TASK0 ∧ u.fld HIF_TASK0 F_HIF_TASK0_VALID = 1 ∧
      u.fld HIF_TASK0 F_HIF_TASK0_TAG = t ∧ u.fld HIF_TASK0 F_HIF_TASK0_SQID = x.sqid ∧ u.fld HIF_TASK0 F_HIF_TASK0_CLASS = x.cls ∧
      ∀ i ∈ List.range 16, u.rd (HIF_TASKN i) = x.sqe.getD i 0) ∧
  (∀ t x s, nextTask s = some (t, x) → x.st = 1 ∧ (∀ y ∈ tasksOf s, y.2.st = 1 → x.group < y.2.group ∨ (x.group = y.2.group ∧ x.ord ≤ y.2.ord)))

/-- R304, R306, R316, R318–R321, R323, R327: transfers and completions. -/
def Obligations.TransfersCompletions : Prop :=
  (∀ c v s, presented (fget v F_HIF_XFER3_TAG) s = true → s.hif.xfers.length + s.hif.xres.length < 256 → s.fld (HIF_XFER2 c.toNat) F_HIF_XFER2_COUNT ≠ 0 →
      ∃ t, exec (.xferRequest c v) s = .next t ∧ t.hif.xfers.dropLast = s.hif.xfers ∧ t.hif.xfers.getLast?.map (fun x => (x.tag, x.addr, x.dir)) =
          some (fget v F_HIF_XFER3_TAG, (s.rd (HIF_XFER0 c.toNat)).toNat + s.fld (HIF_XFER1 c.toNat) F_HIF_XFER1_ADDR_HI * 2 ^ 32, v.getLsbD 30) ∧
        t.hif.xfers.getLast?.map (fun x => (x.first, x.count)) =
          some (s.fld (HIF_XFER2 c.toNat) F_HIF_XFER2_FIRST, s.fld (HIF_XFER2 c.toNat) F_HIF_XFER2_COUNT)) ∧
  (∀ c v s, (presented (fget v F_HIF_XFER3_TAG) s = false ∨ 256 ≤ s.hif.xfers.length + s.hif.xres.length) → ∃ t, exec (.xferRequest c v) s = .next t ∧
      t.hif = s.hif ∧ Denied s t) ∧
  (∀ ix data ps x s, s.hif.xfers[ix.toNat]? = some x → ∃ t, exec (.xferEnd ix true data ps) s = .next t ∧ t.mem = s.mem ∧
      t.hif.xfers = s.hif.xfers.eraseIdx ix.toNat ∧ t.hif.xres = s.hif.xres ++ [(x.tag, 2, 0, 0)]) ∧
  (∀ ix data ps x s, s.hif.xfers[ix.toNat]? = some x → x.dir = true → data.length = 4096 * x.count → ∃ t, exec (.xferEnd ix false data ps) s = .next t ∧
      t.rdBytes x.addr data.length = data ∧ t.hif.xres = s.hif.xres ++ [(x.tag, 0, 0, 0)]) ∧
  (∀ ix data ps x y k r s, s.hif.xfers[ix.toNat]? = some x → x.dir = false → task x.tag s = some y →
      (List.range x.count).filter (fun k => sectorPoisoned (x.addr + 4096 * k) s) = k :: r →
      (List.range x.count).all (fun k => sectorPoisoned (x.addr + 4096 * k) s ||
        (prpPieces y ps (hostPage s) (4096 * y.nlb) (x.first + k) (s.rdBytes (x.addr + 4096 * k) 4096)).isSome) = true →
      ∃ t, exec (.xferEnd ix false data ps) s = .next t ∧ t.mem = s.mem ∧ Counted 0x7009 s t ∧
        t.hif.xres = s.hif.xres ++ [(x.tag, 1, (k :: r).length, (x.first + k) % 1024)]) ∧
  (∀ ix data ps x y l s, s.hif.xfers[ix.toNat]? = some x → x.dir = false → task x.tag s = some y →
      (List.range x.count).any (fun k => sectorPoisoned (x.addr + 4096 * k) s) = false →
      (List.range x.count).map (fun k => prpPieces y ps (hostPage s) (4096 * y.nlb) (x.first + k) (s.rdBytes (x.addr + 4096 * k) 4096)) = l →
      (l.any Option.isNone = true → exec (.xferEnd ix false data ps) s = .next s) ∧
      (l.any Option.isNone = false → ∃ t, exec (.xferEnd ix false data ps) s = .next t ∧ t.mem = s.mem ∧ t.hif.sent = (l.filterMap id).flatten ∧
        t.hif.xres = s.hif.xres ++ [(x.tag, 0, 0, 0)])) ∧
  (∀ m a st n f r s, mayCmd m = true → s.hif.xres = (a, st, n, f) :: r → a < 2048 → st < 4 → n < 1024 → f < 1024 → ∃ t, exec (.xferResultRead m) s = .next t ∧
      t.hif.xres = r ∧ t.fld HIF_XFER_RES0 F_HIF_XFER_RES0_VALID = 1 ∧ t.fld HIF_XFER_RES0 F_HIF_XFER_RES0_TAG = a ∧
      t.fld HIF_XFER_RES0 F_HIF_XFER_RES0_STATUS = st ∧ t.fld HIF_XFER_RES0 F_HIF_XFER_RES0_SKIPPED = n ∧ (t.rd HIF_XFER_RES1).toNat = f ∧
      t.rdata = t.rd HIF_XFER_RES0) ∧
  (∀ c v s, presented (fget v F_HIF_CPL2_TAG) s = true → ∃ t, exec (.completionPost c v) s = .next t ∧
      Completes (fget v F_HIF_CPL2_TAG) (fget v F_HIF_CPL2_SCT) (fget v F_HIF_CPL2_SC) s t) ∧
  (∀ c v s, presented (fget v F_HIF_CPL2_TAG) s = false → ∃ t, exec (.completionPost c v) s = .next t ∧ t.hif = s.hif ∧ Denied s t) ∧
  (∀ t c q s, cplReady t.toNat s = some (c, q) → ∃ u, exec (.completionWrite t) s = .next u ∧ task t.toNat u = none ∧ u.hif.cqe = some (c.cq, cplEntry c q) ∧
      u.hif.cpls = s.hif.cpls.erase c ∧ (cq c.cq u).map (fun y => y.tail) = some ((q.tail + 1) % max 1 q.size)) ∧
  (∀ t x s, s.hif.xfers.any (fun y => y.tag == t.toNat) = true → task t.toNat s = some x → exec (.completionWrite t) s = .next s) ∧
  (∀ q x s, cq q.toNat s = some x → x.agg ≠ 0 → ∃ t, exec (.interruptCoalescingTimeout q) s = .next t ∧ (cq q.toNat t).map (fun y => y.agg) = some 0 ∧
      (msixMasked x.vec s = false → t.msix = x.vec :: s.msix) ∧ (msixMasked x.vec s = true → tget false t.hif.msixPba x.vec = true)) ∧
  (∀ m s, mayCmd m = true → ∃ t, exec (.urgRead m) s = .next t ∧ t.rdata = s.rd HIF_URG0 ∧ t.rd HIF_URG1 = 0 ∧ t.rd HIF_URG0 = s.rd HIF_URG0) ∧
  (∀ m s, mayCmd m = true → s.fld HIF_ACT F_HIF_ACT_HOLD = 0 → ∃ t, exec (.hold m true) s = .next t ∧ t.fld HIF_ACT F_HIF_ACT_HOLD = 1 ∧
      t.fld HIF_ACT F_HIF_ACT_HELD = 0) ∧
  (∀ m s, mayCmd m = true → s.hif.act = .none → ∃ t, exec (.hold m false) s = .next t ∧ t.fld HIF_ACT F_HIF_ACT_HOLD = 0) ∧
  (∀ r w f s, s.plat.perst = false → 1 ≤ r.toNat → r.toNat ≤ 6 → (w = 1 ∨ w = 4 ∨ w = 8 ∨ w = 16) → ∃ t, exec (.linkL0Entry r w f) s = .next t ∧
      t.fld HIF_LINK F_HIF_LINK_RATE = r.toNat ∧ t.fld HIF_LINK F_HIF_LINK_WIDTH = w.toNat ∧ t.fld HIF_LINK F_HIF_LINK_L0 = 1 ∧
      (r ≠ 6 ∨ w ≠ 16 → Counted 0x7001 s t) ∧ (r = 6 → w = 16 → t.ctrs = s.ctrs)) ∧
  (∀ q t e hd s, (∃ u, exec (.aerError 3 q t false e hd) s = .next u ∧ Counted 0x7002 s u ∧ u.hif.aerLog = s.hif.aerLog + 1 ∧
        cfgGet 0x41 u = cfgGet 0x41 s ||| BitVec.ofNat 32 (2 ^ e.toNat)) ∧
      ∃ u, exec (.aerError 3 q t true e hd) s = .next u ∧ u.ctrs = s.ctrs ∧ cfgGet 0x44 u = cfgGet 0x44 s ||| BitVec.ofNat 32 (2 ^ e.toNat)) ∧
  (∀ q t e hd s, presented t.toNat s = true → ∃ u, exec (.aerError 0 q t false e hd) s = .next u ∧ Counted 0x7002 s u ∧ Completes t.toNat 0 0x04 s u) ∧
  (∀ bar s, ∃ u, exec (.poisonedTlpWrite bar) s = .next u ∧ Counted 0x7002 s u ∧ u.mem = s.mem)

/-- R305, R309, R311, R328, R335, R337–R340: admin commands. -/
def Obligations.AdminCommands : Prop :=
  (∀ t x s, Presented t.toNat true 0x05 x s → (x.dw 10 % 65536 = 0 ∨ 128 < x.dw 10 % 65536 ∨ (cq (x.dw 10 % 65536) s).isSome = true) →
      ∃ u, exec (.createIoCompletionQueue t) s = .next u ∧ Completes t.toNat 1 0x01 s u ∧ u.hif.cqs = s.hif.cqs) ∧
  (∀ t x s, Presented t.toNat true 0x05 x s → 1 ≤ x.dw 10 % 65536 → x.dw 10 % 65536 ≤ 128 → cq (x.dw 10 % 65536) s = none →
      1 ≤ x.dw 10 / 65536 → x.dw 10 / 65536 ≤ 4095 →
      (2039 < x.dw 11 / 65536 → ∃ u, exec (.createIoCompletionQueue t) s = .next u ∧ Completes t.toNat 1 0x08 s u ∧ u.hif.cqs = s.hif.cqs) ∧
      (x.dw 11 / 65536 ≤ 2039 → x.dw 11 % 2 = 1 → ∃ u, exec (.createIoCompletionQueue t) s = .next u ∧ Completes t.toNat 0 0 s u ∧
        (cq (x.dw 10 % 65536) u).map (fun y => (y.vec, y.size)) = some (x.dw 11 / 65536, x.dw 10 / 65536 + 1))) ∧
  (∀ t x s, Presented t.toNat true 0x01 x s → 1 ≤ x.dw 10 % 65536 → x.dw 10 % 65536 ≤ 128 → sq (x.dw 10 % 65536) s = none →
      1 ≤ x.dw 10 / 65536 → x.dw 10 / 65536 ≤ 4095 → x.dw 11 / 65536 ≠ 0 → (cq (x.dw 11 / 65536) s).isSome = true → x.dw 11 % 2 = 1 →
      ∃ u, exec (.createIoSubmissionQueue t) s = .next u ∧ Completes t.toNat 0 0 s u ∧
        (sq (x.dw 10 % 65536) u).map (fun y => (y.cq, y.prio, y.size)) = some (x.dw 11 / 65536, x.dw 11 / 2 % 4, x.dw 10 / 65536 + 1)) ∧
  (∀ t x y s, Presented t.toNat true 0x00 x s → sq (x.dw 10 % 65536) s = some y → x.dw 10 % 65536 ≠ 0 →
      (tasksOf s).all (fun z => z.2.sqid != x.dw 10 % 65536) = true →
      ∃ u, exec (.deleteIoSubmissionQueue t) s = .next u ∧ Completes t.toNat 0 0 s u ∧ sq (x.dw 10 % 65536) u = none) ∧
  (∀ t x y z w s, Presented t.toNat true 0x00 x s → sq (x.dw 10 % 65536) s = some y → x.dw 10 % 65536 ≠ 0 →
      (tasksOf s).filter (fun e => e.2.sqid == x.dw 10 % 65536 && e.2.st != 3) = [(z, w)] → task z s = some w → z ≠ t.toNat →
      ∃ u, exec (.deleteIoSubmissionQueue t) s = .next u ∧ Completes z 0 0x08 s u ∧ Counted 0x7004 s u) ∧
  (∀ t x y s, Presented t.toNat true 0x04 x s → cq (x.dw 10 % 65536) s = some y → x.dw 10 % 65536 ≠ 0 → s.hif.sqs = [] →
      ∃ u, exec (.deleteIoCompletionQueue t) s = .next u ∧ Completes t.toNat 0 0 s u ∧ cq (x.dw 10 % 65536) u = none) ∧
  (∀ t x s, task t.toNat s = some x → x.st = 2 → x.admin = true → x.op = 0x02 → x.odd = false → (x.dw 10 % 256 ∉ [0x01, 0x02, 0x03, 0x04, 0x05, 0x81, 0xC0, 0xC1, 0xC2, 0xC3] →
        ∃ u, exec (.getLogPage t) s = .next u ∧ Completes t.toNat 0 0x02 s u) ∧
      (x.dw 10 % 256 ∈ [0x01, 0x02, 0x03, 0x04, 0x05, 0x81, 0xC0, 0xC1, 0xC2, 0xC3] → ∃ u, exec (.getLogPage t) s = .next u ∧ Completes t.toNat 0 0 s u)) ∧
  (∀ t x s, task t.toNat s = some x → x.st = 2 → x.admin = true → x.op = 0x06 → x.odd = false → x.dw 10 % 256 = 0x01 → ∃ u, exec (.identify t) s = .next u ∧
      Completes t.toNat 0 0 s u ∧ u.hif.data = idController s ∧ (77, 9) ∈ u.hif.data ∧ (258, 3) ∈ u.hif.data ∧ (512, 0x66) ∈ u.hif.data) ∧
  (∀ t x s, task t.toNat s = some x → x.st = 2 → x.admin = true → x.op = 0x08 → x.odd = false → ∃ u, exec (.abort t) s = .next u ∧ Completes t.toNat 0 0 s u ∧
      u.hif.cpls.getLast?.map (fun c => c.dw0) = some 1 ∧ u.hif.tasks = (setTask t.toNat (some { x with st := 3 }) s).hif.tasks) ∧
  (∀ t x s, task t.toNat s = some x → x.st = 2 → x.admin = true → x.op = 0x08 → x.odd = true → ∃ u, exec (.abort t) s = .next u ∧
      Completes t.toNat 0 0x02 s u) ∧
  (∀ t x s, Presented t.toNat true 0x09 x s → x.dw 10 % 256 = 0x07 → ∃ u, exec (.setFeatures t) s = .next u ∧ Completes t.toNat 0 0 s u ∧
      u.hif.cpls.getLast?.map (fun c => c.dw0) = some 0x007F007F) ∧
  (∀ t x s, Presented t.toNat true 0x09 x s → x.dw 10 % 256 = 0x01 → ∃ u, exec (.setFeatures t) s = .next u ∧ Completes t.toNat 0 0 s u ∧
      feat 1 0 u = x.dw 11) ∧
  (∀ t x s, Presented t.toNat true 0x09 x s → x.dw 10 % 256 ∉ [0x01, 0x02, 0x04, 0x06, 0x07, 0x08, 0x09, 0x0B, 0x0E] →
      ∃ u, exec (.setFeatures t) s = .next u ∧ Completes t.toNat 0 0x02 s u ∧ u.hif.feats = s.hif.feats) ∧
  (∀ t x s, task t.toNat s = some x → x.st = 2 → x.admin = true → x.op = 0x0A → x.odd = false →
      (x.dw 10 % 256 = 0x01 → ∃ u, exec (.getFeatures t) s = .next u ∧ Completes t.toNat 0 0 s u ∧
        u.hif.cpls.getLast?.map (fun c => c.dw0) = some (BitVec.ofNat 32 (feat 1 0 s))) ∧
      (x.dw 10 % 256 = 0x0E → exec (.getFeatures t) s = .next s)) ∧
  (∀ t x s, Presented t.toNat true 0x09 x s → x.dw 10 % 256 = 0x06 → (x.dw 11 % 2 = 1 → ∃ u, exec (.setFeaturesVolatileWriteCache t) s = .next u ∧
        Completes t.toNat 0 0 s u ∧ wrEn u = true) ∧
      (x.dw 11 % 2 = 0 → s.buf.tags = [] → ∃ u, exec (.setFeaturesVolatileWriteCache t) s = .next u ∧
        (wrEn s = true → Completes t.toNat 0 0 s u) ∧ wrEn u = false)) ∧
  (∀ t ms x s, Presented t.toNat true 0x09 x s → x.dw 10 % 256 = 0x0E → s.sdl.now < 2 ^ 64 → ms.toNat < 2 ^ 44 → ∃ u, exec (.setFeaturesTimestamp t ms) s = .next u ∧
      Completes t.toNat 0 0 s u ∧ hostTime u / 1000000 = ms.toNat ∧ u.fld SDL_EPOCH_CTL F_SDL_EPOCH_CTL_ORIGIN = 1) ∧
  (∀ t x s, task t.toNat s = some x → x.st = 2 → x.admin = true → x.op = 0x0A → x.odd = false → x.dw 10 % 256 = 0x0E → ∃ u, exec (.getFeaturesTimestamp t) s = .next u ∧
      Completes t.toNat 0 0 s u ∧ u.hif.data = dataNum 0 8 (hostTime s / 1000000 % 2 ^ 48 + s.fld SDL_EPOCH_CTL F_SDL_EPOCH_CTL_ORIGIN * 2 ^ 49)) ∧
  (∀ t x s, task t.toNat s = some x → x.st = 2 → x.admin = true → x.op = 0x0C → x.odd = false → t.toNat ∉ s.hif.aers →
      (s.hif.aers.length < 8 → s.hif.aerEv = [] → ∃ u, exec (.asynchronousEventRequest t) s = .next u ∧ u.hif.aers = s.hif.aers ++ [t.toNat] ∧ u.hif.cpls = s.hif.cpls) ∧
      (8 ≤ s.hif.aers.length → ∃ u, exec (.asynchronousEventRequest t) s = .next u ∧ Completes t.toNat 1 0x05 s u)) ∧
  (∀ t x s, task t.toNat s = some x → x.st = 2 → x.admin = true → x.op = 0x09 → s.hif.sanit.isSome = true → ∃ u, exec (.setFeatures t) s = .next u ∧
      Completes t.toNat 0 0x1D s u)

/-- R335, R336, R341–R344, R346, R347: the other admin commands. -/
def Obligations.NamespaceFirmware : Prop :=
  (∀ t d x s, Presented t.toNat true 0x0D x s → x.dw 10 % 16 = 0 → x.dw 11 / 2 ^ 24 = 0 → fieldOf d 8 8 = fieldOf d 0 8 → fieldOf d 26 1 = 0 → fieldOf d 0 8 ≠ 0 →
      (descOk false d = false → ∃ u, exec (.namespaceCreate t d) s = .next u ∧ Completes t.toNat 7 0x83 s u ∧ u.hif.nss = s.hif.nss) ∧
      (descOk false d = true → s.hif.nss.any (fun y => match y.2 with | some m => nsShare (descNs false d s) m | none => false) = true →
        ∃ u, exec (.namespaceCreate t d) s = .next u ∧ Completes t.toNat 7 0x84 s u ∧ u.hif.nss = s.hif.nss) ∧
      (descOk false d = true → s.hif.nss = [] → (descNs false d s).nsze ≤ (descNs false d s).capacity → ∃ u, exec (.namespaceCreate t d) s = .next u ∧
        Completes t.toNat 0 0 s u ∧ nsAt 1 u = some (descNs false d s) ∧ u.hif.cpls.getLast?.map (fun c => c.dw0) = some 1)) ∧
  (∀ t x n s, Presented t.toNat true 0x0D x s → x.dw 10 % 16 = 1 → x.nsid ≠ 0xFFFFFFFF → nsAt x.nsid s = some n → ∃ u, exec (.namespaceDelete t) s = .next u ∧
      Completes t.toNat 0 0 s u ∧ nsAt x.nsid u = none) ∧
  (∀ t d x n s, Presented t.toNat true 0x15 x s → x.dw 10 % 16 = 0 → nsAt x.nsid s = some n → fieldOf d 0 2 = 1 → fieldOf d 2 2 = 0 → n.attached = false →
      ∃ u, exec (.namespaceAttachment t d) s = .next u ∧ Completes t.toNat 0 0 s u ∧ nsAt x.nsid u = some { n with attached := true }) ∧
  (∀ t d x s, Presented t.toNat true 0x11 x s → d.length = 4 * (x.dw 10 + 1) → 4 * x.dw 11 + d.length ≤ 12324864 → s.hif.image = [] →
      ∃ u, exec (.firmwareImageDownload t d) s = .next u ∧ Completes t.toNat 0 0 s u ∧ u.rdBytes (recBase + 4 * x.dw 11) d.length = d ∧
        u.hif.image = [(4 * x.dw 11, d.length)]) ∧
  (∀ t x s, Presented t.toNat true 0x10 x s → x.dw 10 / 8 % 8 < 3 → fwBusy s = false → 1 ≤ x.dw 10 % 8 → x.dw 10 % 8 ≤ 2 → s.hif.runSlot = some (x.dw 10 % 8 - 1) →
      ∃ u, exec (.firmwareCommit t) s = .next u ∧ Completes t.toNat 1 0x06 s u ∧ u.nv = s.nv) ∧
  (∀ t x s, Presented t.toNat true 0x10 x s → x.dw 10 / 8 % 8 < 3 → fwBusy s = true → ∃ u, exec (.firmwareCommit t) s = .next u ∧ Completes t.toNat 1 0x13 s u) ∧
  (∀ t x k s, Presented t.toNat true 0x10 x s → x.dw 10 / 8 % 8 = 2 → fwBusy s = false → x.dw 10 % 8 ≤ 2 → fwSlot (x.dw 10 % 8) s = k → s.hif.runSlot ≠ some k →
      slotBootable k s = true → (actBlank k s).isSome = true → ∃ u, exec (.firmwareCommit t) s = .next u ∧ u.hif.commit = some t.toNat ∧
        (u.nvs.commit).map (fun c => (c.1, c.2.1)) = some (k, 2) ∧ u.fld NVS_COMMIT_STATUS F_NVS_COMMIT_STATUS_BUSY = 1 ∧ u.hif.cpls = s.hif.cpls ∧ SameMemory s u) ∧
  (∀ t x k s, Presented t.toNat true 0x10 x s → x.dw 10 / 8 % 8 < 2 → fwBusy s = false → x.dw 10 % 8 ≤ 2 → fwSlot (x.dw 10 % 8) s = k → s.hif.runSlot ≠ some k →
      s.domOn 105 = true → s.sec.verify = none → (imgGood recBase s = true → commitArgs recBase (imgAt recBase s).length = true → ∃ u, exec (.firmwareCommit t) s = .next u ∧
        u.hif.commit = some t.toNat ∧ (u.nvs.commit).map (fun c => (c.1, c.2.1)) = some (k, x.dw 10 / 8 % 8) ∧ u.fld NVS_COMMIT_STATUS F_NVS_COMMIT_STATUS_BUSY = 1 ∧
        u.hif.cpls = s.hif.cpls ∧ u.mem = s.mem) ∧
      (imgGood recBase s = false → ∃ u, exec (.firmwareCommit t) s = .next u ∧ Completes t.toNat 1 0x07 s u ∧ SameMemory s u)) ∧
  (∀ t x s, Presented t.toNat true 0x10 x s → x.dw 10 / 8 % 8 = 3 → s.hif.act = .none → fwBusy s = false → 1 ≤ x.dw 10 % 8 → x.dw 10 % 8 ≤ 2 →
      s.hif.runSlot ≠ some (x.dw 10 % 8 - 1) → slotBootable (x.dw 10 % 8 - 1) s = false → ∃ u, exec (.firmwareActivate t) s = .next u ∧
        Completes t.toNat 1 0x07 s u ∧ u.fld HIF_ACT F_HIF_ACT_HOLD = s.fld HIF_ACT F_HIF_ACT_HOLD) ∧
  (∀ t x s, Presented t.toNat true 0x10 x s → x.dw 10 / 8 % 8 = 3 → s.hif.act = .none → fwBusy s = false → 1 ≤ x.dw 10 % 8 → x.dw 10 % 8 ≤ 2 →
      s.hif.runSlot ≠ some (x.dw 10 % 8 - 1) → slotBootable (x.dw 10 % 8 - 1) s = true → ∃ u, exec (.firmwareActivate t) s = .next u ∧
        (imgGood (slotAddr (x.dw 10 % 8 - 1)) s = true → u.fld HIF_ACT F_HIF_ACT_HOLD = 1 ∧ u.fld HIF_ACT F_HIF_ACT_PP = 1 ∧ Counted 0x7005 s u ∧
          u.hif.act = .drain t.toNat (x.dw 10 % 8 - 1)) ∧
        (imgGood (slotAddr (x.dw 10 % 8 - 1)) s = false → Completes t.toNat 1 0x07 s u)) ∧
  (∀ k j s, s.hif.act = .drain k j → drained k s = true → ∃ u, exec .activationDrainEnd s = .next u ∧ u.hif.act = .fresh k j ∧
      ∀ a ∈ List.range 64, u.domOn a = true → u.fld (SEQ_STATE a) F_SEQ_STATE_RELOAD_PENDING = 1) ∧
  (∀ k j x s, s.hif.act = .drain k j → task k s = some x → ∃ u, exec .activationTimeout s = .next u ∧ u.hif.act = .none ∧ u.fld HIF_ACT F_HIF_ACT_HOLD = 0 ∧
      u.fld HIF_ACT F_HIF_ACT_PP = 0 ∧ Counted 0x7007 s u ∧ Completes k 1 0x12 s u) ∧
  (∀ k j s, s.hif.act = .fresh k j → ∃ u, exec .activationHoldTimeout s = .next u ∧ u.hif.act = .back k) ∧
  (∀ t d x s, Presented t.toNat true 0x81 x s → x.dw 10 / 2 ^ 24 ≠ 0xE8 → x.dw 10 / 2 ^ 24 ≠ 0x00 → ∃ u, exec (.securitySend t d) s = .next u ∧ Completes t.toNat 0 0x02 s u) ∧
  (∀ t d x s, Presented t.toNat true 0x81 x s → x.dw 10 / 2 ^ 24 = 0xE8 ∨ x.dw 10 / 2 ^ 24 = 0x00 → ∃ u, exec (.securitySend t d) s = .next u ∧ Completes t.toNat 0 0 s u) ∧
  (∀ t x s, Presented t.toNat true 0x82 x s → x.dw 10 / 2 ^ 24 = 0 → ∃ u, exec (.securityReceive t) s = .next u ∧ Completes t.toNat 0 0 s u ∧
      (8, 0x00) ∈ u.hif.data ∧ (9, 0xE8) ∈ u.hif.data) ∧
  (∀ t x s, Presented t.toNat true 0x84 x s → x.dw 10 % 8 ≠ 3 → ∃ u, exec (.sanitize t) s = .next u ∧ Completes t.toNat 0 0x02 s u ∧ u.hif.sanit = none) ∧
  (∀ t x s, Presented t.toNat true 0x84 x s → x.dw 10 % 8 = 3 → s.buf.tags = [] → ∃ u, exec (.sanitize t) s = .next u ∧ Completes t.toNat 0 0 s u ∧
      Counted 0x700B s u ∧ u.hif.sanit.map (fun j => (j.passes, j.pattern, j.invert)) =
        some (if x.dw 10 / 16 % 16 = 0 then 16 else x.dw 10 / 16 % 16, BitVec.ofNat 32 (x.dw 11), (x.dw 10).testBit 8)) ∧
  (∀ j s, s.hif.sanit = some j → (j.passes ≤ j.pass → ∃ u, exec .sanitizeEnd s = .next u ∧ u.hif.sanit = none ∧ u.hif.sanDone = true ∧ Counted 0x700C s u) ∧
      (j.pass < j.passes → exec .sanitizeEnd s = .next s))

/-- R309, R329–R335, R349, R350, R353–R355: I/O commands. `rangeHits` says that the whole range is in the cache. -/
def Obligations.IoCommands : Prop :=
  (∀ t x s, Presented t.toNat false 0x00 x s → wrEn s = false → ∃ u, exec (.flush t) s = .next u ∧ Completes t.toNat 0 0 s u) ∧
  (∀ t x s, Presented t.toNat false 0x00 x s → wrEn s = true → s.buf.cleaned = x.cleans → s.buf.cleans = x.cleans → s.fld BUF_MAINT_STATUS F_BUF_MAINT_STATUS_BUSY = 0 →
      ∃ u, exec (.flush t) s = .next u ∧ u.hif.cpls = s.hif.cpls ∧ u.buf.cleans = x.cleans + 1 ∧ u.fld BUF_MAINT_STATUS F_BUF_MAINT_STATUS_BUSY = 1) ∧
  (∀ t x s, Presented t.toNat false 0x00 x s → wrEn s = true → x.cleans < s.buf.cleaned → ∃ u, exec (.flush t) s = .next u ∧ Completes t.toNat 0 0 s u) ∧
  (∀ t r x n s, Presented t.toNat false 0x02 x s → nsAt x.nsid s = some n → n.attached = true → n.nsze < x.lba + x.nlb →
      ∃ u, exec (.read t r) s = .next u ∧ Completes t.toNat 0 0x80 s u) ∧
  (∀ t r x n s, Presented t.toNat false 0x02 x s → nsAt x.nsid s = some n → n.attached = true → x.lba + x.nlb ≤ n.nsze → x.nlb ≤ 512 →
      (liveRuns n x.lba x.nlb).any (fun r => rangeLost x.nsid r.1 r.2 s) = true → ∃ u, exec (.read t r) s = .next u ∧ Completes t.toNat 7 0x85 s u) ∧
  (∀ t x n l s, Presented t.toNat false 0x02 x s → nsAt x.nsid s = some n → n.attached = true → x.lba + x.nlb ≤ n.nsze → x.nlb ≤ 512 →
      l = liveRuns n x.lba x.nlb → l.any (fun r => rangeLost x.nsid r.1 r.2 s) = false →
      (x.fua && l.any (fun r => rangeDirty x.nsid r.1 r.2 s)) = false → l.all (fun r => rangeHits x.nsid r.1 r.2 s) = false →
      (l.any (fun r => rangeIsolated n r.1 r.2 s) = true → ∃ u, exec (.read t 0) s = .next u ∧ Completes t.toNat 7 0x80 s u) ∧
      (l.any (fun r => rangeIsolated n r.1 r.2 s) = false → l.any (fun r => rangeUnready n r.1 r.2 s) = true →
        ∃ u, exec (.read t 0) s = .next u ∧ Completes t.toNat 0 0x82 s u) ∧
      (l.any (fun r => rangeIsolated n r.1 r.2 s) = false → l.any (fun r => rangeUnready n r.1 r.2 s) = false →
        l.any (fun r => rangeHeld n r.1 r.2 s) = false →
        (∃ u, exec (.read t 3) s = .next u ∧ Completes t.toNat 0 0x04 s u) ∧
        (x.allMoved = false → exec (.read t 0) s = .next s ∧ exec (.read t 1) s = .next s ∧ exec (.read t 2) s = .next s) ∧
        (x.allMoved = true → (x.unrec 1 = true → ∃ u, exec (.read t 1) s = .next u ∧ Completes t.toNat 2 0x81 s u) ∧
          (x.unrec 2 = false → ∃ u, exec (.read t 2) s = .next u ∧ Completes t.toNat 7 0x82 s u) ∧
          (x.unrec 0 = false → x.skip.isSome = true → ∃ u, exec (.read t 0) s = .next u ∧ Completes t.toNat 7 0x82 s u) ∧
          (x.unrec 0 = false → x.skip = none → ∃ u, exec (.read t 0) s = .next u ∧ Completes t.toNat 0 0 s u)))) ∧
  (∀ t r x n s, Presented t.toNat false 0x02 x s → nsAt x.nsid s = some n → n.attached = true → x.lba + x.nlb ≤ n.nsze → x.nlb ≤ 512 →
      (liveRuns n x.lba x.nlb = [] ∨ ((liveRuns n x.lba x.nlb).any (fun l => rangeLost x.nsid l.1 l.2 s) = false ∧
        (x.fua && (liveRuns n x.lba x.nlb).any (fun l => rangeDirty x.nsid l.1 l.2 s)) = false ∧
        (liveRuns n x.lba x.nlb).all (fun l => rangeHits x.nsid l.1 l.2 s) = true)) →
      x.allMoved = true → r.toNat % 4 ≠ 3 →
      (x.unrec r.toNat = true → ∃ u, exec (.read t r) s = .next u ∧ Completes t.toNat 2 0x81 s u) ∧
      (x.unrec r.toNat = false → r = 0 → x.skip = none → ∃ u, exec (.read t r) s = .next u ∧ Completes t.toNat 0 0 s u)) ∧
  (∀ t r x n s, Presented t.toNat false 0x02 x s → nsAt x.nsid s = some n → n.attached = true → x.lba + x.nlb ≤ n.nsze → x.nlb ≤ 512 → x.fua = true →
      (liveRuns n x.lba x.nlb).any (fun l => rangeLost x.nsid l.1 l.2 s) = false →
      (liveRuns n x.lba x.nlb).any (fun l => rangeDirty x.nsid l.1 l.2 s) = true → exec (.read t r) s = .next s) ∧
  (∀ t b d x n s, Presented t.toNat false 0x05 x s → nsAt x.nsid s = some n → n.attached = true → x.lba + x.nlb ≤ n.nsze → x.nlb ≤ 512 →
      (liveRuns n x.lba x.nlb).any (fun l => rangeLost x.nsid l.1 l.2 s) = false →
      (x.fua && (liveRuns n x.lba x.nlb).any (fun l => rangeDirty x.nsid l.1 l.2 s)) = false →
      (liveRuns n x.lba x.nlb).all (fun l => rangeHits x.nsid l.1 l.2 s) = true →
      (∃ u, exec (.compare t b d 3) s = .next u ∧ Completes t.toNat 0 0x04 s u) ∧ (∃ u, exec (.compare t b d 1) s = .next u ∧ Completes t.toNat 2 0x81 s u) ∧
      (x.unrec 0 = true → ∃ u, exec (.compare t b d 0) s = .next u ∧ Completes t.toNat 2 0x81 s u) ∧
      (x.unrec 0 = false → x.allMoved = false → exec (.compare t b d 0) s = .next s) ∧
      (x.unrec 0 = false → x.allMoved = true → compareSame n x b.toNat d.toNat s = true → ∃ u, exec (.compare t b d 0) s = .next u ∧ Completes t.toNat 0 0 s u) ∧
      (x.unrec 0 = false → x.allMoved = true → compareSame n x b.toNat d.toNat s = false → ∃ u, exec (.compare t b d 0) s = .next u ∧ Completes t.toNat 2 0x85 s u)) ∧
  (∀ t x n s, Presented t.toNat false 0x0C x s → nsAt x.nsid s = some n → n.attached = true → x.lba + x.nlb ≤ n.nsze → liveRuns n x.lba x.nlb ≠ [] →
      (liveRuns n x.lba x.nlb).any (fun l => rangeLost x.nsid l.1 l.2 s) = false → (liveRuns n x.lba x.nlb).any (fun l => rangeIsolated n l.1 l.2 s) = false →
      (liveRuns n x.lba x.nlb).any (fun l => rangeUnready n l.1 l.2 s) = false → (liveRuns n x.lba x.nlb).any (fun l => rangeHeld n l.1 l.2 s) = false →
      ((verifyBlocks n x s).any (fun k => tget 3 x.media k == 1) = true → ∃ u, exec (.verify t) s = .next u ∧ Completes t.toNat 2 0x81 s u) ∧
      ((verifyBlocks n x s).all (fun k => tget 3 x.media k == 0) = true → ∃ u, exec (.verify t) s = .next u ∧ Completes t.toNat 0 0 s u) ∧
      ((verifyBlocks n x s).any (fun k => tget 3 x.media k == 1) = false → (verifyBlocks n x s).all (fun k => tget 3 x.media k == 0) = false →
        exec (.verify t) s = .next (verifyPost n t.toNat x (verifyBlocks n x s) s) ∧ (s.hif.act ≠ .none → exec (.verify t) s = .next s))) ∧
  (∀ t r x n e s, Presented t.toNat false 0x01 x s → nsAt x.nsid s = some n → n.attached = true → x.lba + x.nlb ≤ n.nsze → x.nlb ≤ 512 →
      x.bad = some e → e.1 < 8 → e.2 < 256 → ∃ u, exec (.write t r) s = .next u ∧ Completes t.toNat e.1 e.2 s u) ∧
  (∀ t r x n s, Presented t.toNat false 0x01 x s → nsAt x.nsid s = some n → n.attached = true → x.lba + x.nlb ≤ n.nsze → x.nlb ≤ 512 → x.bad = none →
      (4096 ≤ s.hif.lost.length → ∃ u, exec (.write t r) s = .next u ∧ Completes t.toNat 0 0x20 s u) ∧
      (s.hif.lost.length < 4096 → rangeIsolated n x.lba x.nlb s = false → rangeUnready n x.lba x.nlb s = true →
        ∃ u, exec (.write t r) s = .next u ∧ Completes t.toNat 0 0x82 s u) ∧
      (s.hif.lost.length < 4096 → rangeIsolated n x.lba x.nlb s = false → rangeUnready n x.lba x.nlb s = false → rangeHeld n x.lba x.nlb s = false →
        (x.allMoved = true → toMedia x s = false ∨ allWritten x s = true → r ≠ 3 → ∃ u, exec (.write t r) s = .next u ∧ Completes t.toNat 0 0 s u) ∧
        (x.allMoved = false → r ≠ 3 → exec (.write t r) s = .next s) ∧
        (r = 3 → ∃ u, exec (.write t r) s = .next u ∧ Completes t.toNat 0 0x04 s u))) ∧
  (∀ t x n s, Presented t.toNat false 0x01 x s → nsAt x.nsid s = some n → n.attached = true → x.lba + x.nlb ≤ n.nsze → x.nlb ≤ 512 → x.bad = none →
      s.hif.lost.length < 4096 → rangeIsolated n x.lba x.nlb s = false → rangeUnready n x.lba x.nlb s = false → toMedia x s = true →
      allWritten x s = false → exec (.write t 0) s = .next s) ∧
  (∀ t x y n s, Presented t.toNat false 0x08 x s → nsAt x.nsid s = some n → n.attached = true → x.lba + x.nlb ≤ n.nsze → x.bad = none → s.hif.lost.length < 4096 →
      rangeIsolated n x.lba x.nlb s = false → rangeUnready n x.lba x.nlb s = false → rangeHeld n x.lba x.nlb s = false →
      task t.toNat (each (linesOf x.lba x.nlb) (zeroLine t.toNat) s) = some y →
      y.allMoved = true → toMedia y (each (linesOf x.lba x.nlb) (zeroLine t.toNat) s) = false →
      ∃ u, exec (.writeZeroes t) s = .next u ∧ Completes t.toNat 0 0 s u ∧ u.mem = (each (linesOf x.lba x.nlb) (zeroLine t.toNat) s).mem) ∧
  (∀ t x l r e s, task t s = some x → x.movedBlock (linePart x l).1 = false → x.waits = none → (∀ w ∈ s.buf.setW, w.2 ≠ (0, t)) → r.1 = 1 ∨ r.1 = 3 →
      r.2.1 = some e →
      lookup { key := lineKey x.nsid l, first := partFirst x.lba l, last := partFirst x.lba l + (linePart x l).2 - 1, core := 0, task := t, write := true, ra := false } s = r →
      0 < (linePart x l).2 → (tag e (zeroLine t l s)).st = (if (tag e r.2.2).st = 4 then 4 else 3) ∧
        (∀ i ∈ List.range (linePart x l).2, ((List.range 64).all fun g => dramOn (lineSector e (partFirst x.lba l + i) + 64 * g) s) = true →
          (zeroLine t l s).rdBytes (lineSector e (partFirst x.lba l + i)) 4096 = List.replicate 4096 0)) ∧
  (∀ t x n s, Presented t.toNat false 0x09 x s → nsAt x.nsid s = some n → n.attached = true → ∃ u, exec (.datasetManagement t) s = .next u ∧
      Completes t.toNat 0 0 s u ∧ u.mem = s.mem ∧ u.buf = s.buf) ∧
  (∀ t x n s, Presented t.toNat false 0x7D x s → nsAt x.nsid s = some n → n.attached = true → n.zoned = true → x.dw 10 + x.dw 11 * 2 ^ 32 < n.nsze →
      (x.dw 10 + x.dw 11 * 2 ^ 32) % n.zsize = 0 → x.nlb ≤ 512 → x.bad = none → s.hif.lost.length < 4096 → rangeIsolated n x.lba x.nlb s = false →
      rangeUnready n x.lba x.nlb s = false → rangeHeld n x.lba x.nlb s = false → x.allMoved = true → toMedia x s = false → ∃ u, exec (.zoneAppend t 0) s = .next u ∧ Completes t.toNat 0 0 s u ∧
        u.hif.cpls.getLast?.map (fun c => (c.dw0, c.dw1)) = some (BitVec.ofNat 32 x.lba, BitVec.ofNat 32 (x.lba / 2 ^ 32))) ∧
  (∀ t x n s, Presented t.toNat false 0x79 x s → nsAt x.nsid s = some n → n.attached = true → n.zoned = true →
      (x.dw 13).testBit 8 = false → x.dw 10 + x.dw 11 * 2 ^ 32 < n.nsze → (x.dw 10 + x.dw 11 * 2 ^ 32) % n.zsize = 0 →
      rangeIsolated n (x.dw 10 + x.dw 11 * 2 ^ 32) (n.zcap ((x.dw 10 + x.dw 11 * 2 ^ 32) / n.zsize)) s = false →
      rangeUnready n (x.dw 10 + x.dw 11 * 2 ^ 32) (n.zcap ((x.dw 10 + x.dw 11 * 2 ^ 32) / n.zsize)) s = false →
      rangeHeld n (x.dw 10 + x.dw 11 * 2 ^ 32) (n.zcap ((x.dw 10 + x.dw 11 * 2 ^ 32) / n.zsize)) s = false →
      (x.dw 13 % 256 = 1 → (n.zone ((x.dw 10 + x.dw 11 * 2 ^ 32) / n.zsize)).1 = 1 → ∃ u, exec (.zoneClose t) s = .next u ∧ Completes t.toNat 0 0 s u ∧
        (nsAt x.nsid u).map (fun k => (k.zone ((x.dw 10 + x.dw 11 * 2 ^ 32) / n.zsize)).1) = some 2) ∧
      (x.dw 13 % 256 = 2 → ∃ u, exec (.zoneFinish t) s = .next u ∧ Completes t.toNat 0 0 s u ∧
        (nsAt x.nsid u).map (fun k => (k.zone ((x.dw 10 + x.dw 11 * 2 ^ 32) / n.zsize)).1) = some 3) ∧
      (x.dw 13 % 256 = 3 → (n.zone ((x.dw 10 + x.dw 11 * 2 ^ 32) / n.zsize)).1 = 1 → ∃ u, exec (.zoneOpen t) s = .next u ∧ Completes t.toNat 0 0 s u ∧
        (nsAt x.nsid u).map (fun k => (k.zone ((x.dw 10 + x.dw 11 * 2 ^ 32) / n.zsize)).1) = some 1) ∧
      (x.dw 13 % 256 = 4 → ∃ u, exec (.zoneReset t) s = .next u ∧ Completes t.toNat 0 0 s u ∧
        (nsAt x.nsid u).map (fun k => k.zone ((x.dw 10 + x.dw 11 * 2 ^ 32) / n.zsize)) = some (0, 0))) ∧
  (∀ t x n s, Presented t.toNat false 0x7A x s → nsAt x.nsid s = some n → n.attached = true → n.zoned = true → x.dw 13 % 256 = 0 →
      x.dw 10 + x.dw 11 * 2 ^ 32 < n.nsze → ∃ u, exec (.reportZones t) s = .next u ∧ Completes t.toNat 0 0 s u) ∧
  (∀ t x s, task t.toNat s = some x → x.st = 2 → s.hif.sanit = none → supported x = false → (x.admin = true ∨ x.op ≠ 0x79) → ∃ u, exec (.invalidCommandOpcode t) s = .next u ∧
      Completes t.toNat 0 0x01 s u) ∧
  (∀ t x r s, task t.toNat s = some x → x.st = 2 → x.admin = false → x.op = 0x01 → s.hif.sanit.isSome = true → ∃ u, exec (.write t r) s = .next u ∧
      Completes t.toNat 0 0x1D s u) ∧
  (∀ n lba nlb, zoneEntry n false lba nlb = none → lba % n.zsize = (n.zone (lba / n.zsize)).2 ∧ (n.zone (lba / n.zsize)).1 ≠ 3 ∧
      (n.zone (lba / n.zsize)).2 + nlb ≤ n.zcap (lba / n.zsize))

/-- R364–R369, R371, R374: posting and receiving on Kiosk channels. -/
def Obligations.KioskChannels : Prop :=
  (∀ m ch e w s, ownsEnd m.toNat ch.toNat (b2n e) = false → ∃ t, exec (.kioskPost m ch e w) s = .next t ∧ Denied s t ∧ t.ksk = s.ksk ∧
      SameRegs (fun k => k = PWR_DENIED_WRITES.key) s t) ∧
  (∀ m ch e w s, ownsEnd m.toNat ch.toNat (b2n e) = true → endInReset ch.toNat (b2n e) s = false → endInReset ch.toNat (1 - b2n e) s = false →
      16 ≤ kwords (kq ch.toNat (1 - b2n e) s) → ∃ t, exec (.kioskPost m ch e w) s = .next t ∧ t.ksk = s.ksk ∧
        t.fld (KSK_IRQ ch.toNat (b2n e)) F_KSK_IRQ_OVERRUN = 1 ∧ Denied s t ∧ Counted 0x8003 s t) ∧
  (∀ m ch e w s, ownsEnd m.toNat ch.toNat (b2n e) = true → endInReset ch.toNat (b2n e) s = false → endInReset ch.toNat (1 - b2n e) s = false →
      kwords (kq ch.toNat (1 - b2n e) s) < 16 → ∃ t, exec (.kioskPost m ch e w) s = .next t ∧
        kq ch.toNat (1 - b2n e) t = kq ch.toNat (1 - b2n e) s ++ [.word w] ∧ kq ch.toNat (b2n e) t = kq ch.toNat (b2n e) s ∧
        t.rd PWR_DENIED_WRITES = s.rd PWR_DENIED_WRITES ∧ t.mem = s.mem ∧ t.nv = s.nv ∧
        (kq ch.toNat (1 - b2n e) s = [] → (endCore ch.toNat (1 - b2n e) s).all (fun n => t.domOn (72 + n)) = true) ∧
        (kq ch.toNat (1 - b2n e) s = [] → endCore ch.toNat (1 - b2n e) s = none → ch.toNat < 8 → s.fld (KSK_IRQ_EN ch.toNat 1) F_KSK_IRQ_EN_RX_EN = 1 →
          msixMasked (2040 + ch.toNat) s = false → (2040 + ch.toNat) ∈ t.msix)) ∧
  (∀ m ch e w s, ownsEnd m.toNat ch.toNat (b2n e) = true → endInReset ch.toNat (b2n e) s = false → endInReset ch.toNat (1 - b2n e) s = true →
      s.rd (KSK_DISC ch.toNat (b2n e)) ≠ 0xFFFFFFFF → ∃ t, exec (.kioskPost m ch e w) s = .next t ∧ t.ksk = s.ksk ∧
        t.rd (KSK_DISC ch.toNat (b2n e)) = s.rd (KSK_DISC ch.toNat (b2n e)) + 1 ∧ t.fld (KSK_IRQ ch.toNat (b2n e)) F_KSK_IRQ_EMPTY = 1 ∧
        t.fld (KSK_IRQ ch.toNat (b2n e)) F_KSK_IRQ_DISCARDED = 1 ∧ Counted 0x8001 s t) ∧
  (∀ m ch e s, ownsEnd m.toNat ch.toNat (b2n e) = false → exec (.kioskReceive m ch e) s = .next { s with rdata := 0 } ∧
      exec (.kioskDiscRead m ch e) s = .next { s with rdata := 0 }) ∧
  (∀ m ch e s, kq ch.toNat (b2n e) s = [] → exec (.kioskReceive m ch e) s = .next { s with rdata := 0 }) ∧
  (∀ m ch e w q s, ownsEnd m.toNat ch.toNat (b2n e) = true → kq ch.toNat (b2n e) s = .word w :: q → ∃ t, exec (.kioskReceive m ch e) s = .next t ∧
      t.rdata = w ∧ kq ch.toNat (b2n e) t = q ∧ kq ch.toNat (1 - b2n e) t = kq ch.toNat (1 - b2n e) s ∧
      (kwords q = 0 → t.fld (KSK_IRQ ch.toNat (1 - b2n e)) F_KSK_IRQ_EMPTY = 1) ∧ (0 < kwords q → SameRegs (fun _ => False) s t)) ∧
  (∀ m ch e n q s, ownsEnd m.toNat ch.toNat (b2n e) = true → kq ch.toNat (b2n e) s = .marker n :: q → n < 2 ^ 16 → ∃ t, exec (.kioskReceive m ch e) s = .next t ∧
      t.rdata.toNat = 0xFFFF0000 + n ∧ kq ch.toNat (b2n e) t = q ∧ t.regs = s.regs) ∧
  (∀ m ch e s, ownsEnd m.toNat ch.toNat (b2n e) = true → ∃ t, exec (.kioskDiscRead m ch e) s = .next t ∧ t.rdata = s.rd (KSK_DISC ch.toNat (b2n e)) ∧
      t.rd (KSK_DISC ch.toNat (b2n e)) = 0 ∧ SameRegs (fun k => k = (KSK_DISC ch.toNat (b2n e)).key) s t ∧ t.ksk = s.ksk) ∧
  (∀ h r s, s.replies = h :: r → h.toEnd ≤ 1 → kwords (kq h.chan h.toEnd s) + h.words.length ≤ 16 → endInReset h.chan 0 s = false →
      endInReset h.chan 1 s = false → ∃ t, exec .messageReply s = .next t ∧ t.replies = r ∧
        kq h.chan h.toEnd t = kq h.chan h.toEnd s ++ h.words.map KItem.word) ∧
  (∀ s, (∀ h ∈ s.replies, 16 < kwords (kq h.chan h.toEnd s) + h.words.length) → exec .messageReply s = .next s) ∧
  (∀ n q, KItem.marker n ∈ q → (kRaise q).map kwords = some (kwords q) ∧ (kRaise q).map List.length = some q.length)

/-- R379, R380: Stile locks. -/
def Obligations.StileLocks : Prop :=
  (∀ m ix s, m.toNat < 8 → (lockAt ix.toNat s).held = false → ∃ t, exec (.lockAcquire m ix) s = .next t ∧
      t.rdata = lockWord false (lockAt ix.toNat s).broken m.toNat ∧ lockAt ix.toNat t = { held := true, broken := false, owner := m.toNat } ∧
      (∀ j, j < 128 → j ≠ ix.toNat → lockAt j t = lockAt j s) ∧ t.regs = s.regs ∧ SameMemory s t) ∧
  (∀ m ix s, m.toNat < 8 → (lockAt ix.toNat s).held = true → ∃ t, exec (.lockAcquire m ix) s = .next t ∧
      t.rdata = lockWord true (lockAt ix.toNat s).broken (lockAt ix.toNat s).owner ∧ t.locks = s.locks ∧ t.rd STL_CONTEND = s.rd STL_CONTEND + 1 ∧
      SameRegs (fun k => k = STL_CONTEND.key) s t) ∧
  (∀ m ix s, 8 ≤ m.toNat → ∃ t, exec (.lockAcquire m ix) s = .next t ∧ t = { s with rdata := t.rdata } ∧ t.rdata.toNat / 2 ^ 31 = b2n (lockAt ix.toNat s).held) ∧
  (∀ m ix s, (lockAt ix.toNat s).held = true → (lockAt ix.toNat s).owner = m.toNat → ∃ t, exec (.lockRelease m ix) s = .next t ∧
      (lockAt ix.toNat t).held = false ∧ (lockAt ix.toNat t).broken = (lockAt ix.toNat s).broken ∧
      (∀ j, j < 128 → j ≠ ix.toNat → lockAt j t = lockAt j s) ∧ t.regs = s.regs ∧ SameMemory s t) ∧
  (∀ m ix s, ((lockAt ix.toNat s).held = false ∨ (lockAt ix.toNat s).owner ≠ m.toNat) → ∃ t, exec (.lockRelease m ix) s = .next t ∧
      t.locks = s.locks ∧ Denied s t ∧ SameRegs (fun k => k = PWR_DENIED_WRITES.key) s t) ∧
  (∀ m ix s, m.toNat ≠ 9 → (lockAt ix.toNat s).held = true → ∃ t, exec (.lockBreak m ix) s = .next t ∧
      lockAt ix.toNat t = { held := false, broken := true, owner := 0 } ∧ Counted 0x8005 s t) ∧
  (∀ m ix s, m.toNat ≠ 9 → (lockAt ix.toNat s).held = false → ∃ t, exec (.lockBreak m ix) s = .next t ∧ t.locks = s.locks ∧
      t.ctrs = s.ctrs ∧ SameRegs (fun k => k = STL_BREAK.key) s t)

/-- R382–R389: DMA channels. -/
def Obligations.DmaChannels : Prop :=
  (∀ m n v s, (m.toNat = 9 ∨ dmaBusy n.toNat s = true) → ∃ t, exec (.dmaStart m n v) s = .next t ∧ Denied s t ∧
      SameRegs (fun k => k = PWR_DENIED_WRITES.key) s t ∧ t.mem = s.mem) ∧
  (∀ m n v s, m.toNat ≠ 9 → dmaBusy n.toNat s = false → fget v F_DMA_CTL_MODE = 3 → ∃ t, exec (.dmaStart m n v) s = .next t ∧ Denied s t ∧
      t.rd (DMA_STATUS n.toNat) = s.rd (DMA_STATUS n.toNat) ∧ t.mem = s.mem) ∧
  (∀ m n v s, m.toNat ≠ 9 → dmaBusy n.toNat s = false → fget v F_DMA_CTL_MODE ≤ 2 → dmaKOk (fget v F_DMA_CTL_SRC_K) = true →
      dmaKOk (fget v F_DMA_CTL_DST_K) = true → (fget v F_DMA_CTL_DST_K ≠ 0 ∧ dmaDst n.toNat s % 2 ^ fget v F_DMA_CTL_DST_K ≠ 0) →
      ∃ t, exec (.dmaStart m n v) s = .next t ∧ t.fld (DMA_STATUS n.toNat) F_DMA_STATUS_ERR = 2 ∧ t.fld (DMA_STATUS n.toNat) F_DMA_STATUS_END = 3 ∧
        t.fld (DMA_STATUS n.toNat) F_DMA_STATUS_DONE = 1 ∧ dmaBusy n.toNat t = false ∧ t.mem = s.mem ∧ Counted 0x8006 s t) ∧
  (∀ m n v s, m.toNat ≠ 9 → dmaBusy n.toNat s = false → fget v F_DMA_CTL_MODE ≤ 2 → fget v F_DMA_CTL_SRC_K = 0 → fget v F_DMA_CTL_DST_K = 0 →
      dmaRange s false (dmaDst n.toNat s) (s.rd (DMA_COUNT n.toNat)).toNat = false → ∃ t, exec (.dmaStart m n v) s = .next t ∧
        t.fld (DMA_STATUS n.toNat) F_DMA_STATUS_ERR = 1 ∧ t.fld (DMA_STATUS n.toNat) F_DMA_STATUS_END = 3 ∧ t.rd (DMA_DONE_BYTES n.toNat) = 0 ∧
        t.mem = s.mem ∧ (t.rd DMA_ERRORS).toNat = satAdd 32 (s.rd DMA_ERRORS).toNat 1 ∧ Counted 0x8006 s t) ∧
  (∀ m n v s, m.toNat ≠ 9 → dmaBusy n.toNat s = false → fget v F_DMA_CTL_MODE = 0 → fget v F_DMA_CTL_SRC_K = 0 → fget v F_DMA_CTL_DST_K = 0 →
      8 ≤ (s.rd (DMA_COUNT n.toNat)).toNat → (s.rd (DMA_COUNT n.toNat)).toNat % 8 = 0 → dmaSrc n.toNat s % 8 = 0 → dmaDst n.toNat s % 8 = 0 →
      dmaRange s true (dmaSrc n.toNat s) (s.rd (DMA_COUNT n.toNat)).toNat = true → dmaRange s false (dmaDst n.toNat s) (s.rd (DMA_COUNT n.toNat)).toNat = true →
      ∃ t, exec (.dmaStart m n v) s = .next t ∧ dmaBusy n.toNat t = true ∧ t.fld (DMA_STATUS n.toNat) F_DMA_STATUS_DONE = 0 ∧
        t.rd (DMA_DONE_BYTES n.toNat) = 0 ∧ t.mem = s.mem ∧ t.nv = s.nv ∧ t.ctrs = s.ctrs ∧
        SameRegs (fun k => k = (DMA_CTL n.toNat).key ∨ k = (DMA_STATUS n.toNat).key ∨ k = (DMA_DONE_BYTES n.toNat).key) s t) ∧
  (∀ s a len, dmaRange s false a len = true ↔ (0x20000000 ≤ a ∧ a + len ≤ 0x20800000) ∨ (0x1000000000 ≤ a ∧ a + len ≤ 0x3000000000 ∧
      ∀ w, w < 16 → fget (s.rd BUF_WAY_STATE) ⟨2 * w, 2⟩ = 0 → 0x2000000000 + (w + 1) * 0x100000000 ≤ a ∨ a + len ≤ 0x2000000000 + w * 0x100000000)) ∧
  (∀ m n s, m.toNat ≠ 9 → dmaBusy n.toNat s = true → ∃ t, exec (.dmaStop m n) s = .next t ∧ dmaBusy n.toNat t = false ∧
      t.fld (DMA_STATUS n.toNat) F_DMA_STATUS_END = 2 ∧ t.fld (DMA_STATUS n.toNat) F_DMA_STATUS_ERR = 0 ∧ t.fld (DMA_STATUS n.toNat) F_DMA_STATUS_DONE = 1 ∧
      t.mem = s.mem ∧ SameRegs (fun k => k = (DMA_STATUS n.toNat).key) s t) ∧
  (∀ s, (∀ n, n < 64 → dmaBusy n s = false) → exec .dmaBurst s = .next s) ∧
  (∀ s n len, dmaTurn s = some n → s.fld (DMA_CTL n) F_DMA_CTL_MODE = 1 → (s.rd (DMA_DONE_BYTES n)).toNat < (s.rd (DMA_COUNT n)).toNat →
      (s.rd (DMA_DONE_BYTES n)).toNat % 8 = 0 → len = dmaLenAt n 1 (s.rd (DMA_DONE_BYTES n)).toNat ((s.rd (DMA_COUNT n)).toNat - (s.rd (DMA_DONE_BYTES n)).toNat) s →
      ∃ t, exec .dmaBurst s = .next t ∧
        (∀ j, j < len → t.rdByte (dmaAt (dmaDst n s) (s.fld (DMA_CTL n) F_DMA_CTL_DST_K) (s.rd (DMA_DONE_BYTES n)).toNat + j) =
          BitVec.ofNat 8 ((s.rd (if j % 8 < 4 then DMA_FILL_LO n else DMA_FILL_HI n)).toNat / 2 ^ (8 * (j % 4)))) ∧
        SameBytes (fun a => dmaAt (dmaDst n s) (s.fld (DMA_CTL n) F_DMA_CTL_DST_K) (s.rd (DMA_DONE_BYTES n)).toNat ≤ a ∧
          a < dmaAt (dmaDst n s) (s.fld (DMA_CTL n) F_DMA_CTL_DST_K) (s.rd (DMA_DONE_BYTES n)).toNat + len) s t ∧
        (t.rd (DMA_DONE_BYTES n)).toNat = (s.rd (DMA_DONE_BYTES n)).toNat + len ∧
        (dmaBusy n t = false ↔ (s.rd (DMA_DONE_BYTES n)).toNat + len = (s.rd (DMA_COUNT n)).toNat)) ∧
  (∀ s n len, dmaTurn s = some n → s.fld (DMA_CTL n) F_DMA_CTL_MODE = 0 → (s.rd (DMA_DONE_BYTES n)).toNat < (s.rd (DMA_COUNT n)).toNat →
      len = dmaLenAt n 0 (s.rd (DMA_DONE_BYTES n)).toNat ((s.rd (DMA_COUNT n)).toNat - (s.rd (DMA_DONE_BYTES n)).toNat) s →
      dmaIndet n (s.rd (DMA_DONE_BYTES n)).toNat len s = false → ∃ t, exec .dmaBurst s = .next t ∧
        (∀ j, j < len → t.rdByte (dmaAt (dmaDst n s) (s.fld (DMA_CTL n) F_DMA_CTL_DST_K) (s.rd (DMA_DONE_BYTES n)).toNat + j) =
          (if nvWsOk s = false ∧ inNvWin (dmaAt (dmaSrc n s) (s.fld (DMA_CTL n) F_DMA_CTL_SRC_K) ((s.rd (DMA_DONE_BYTES n)).toNat + j)) = true
            then BitVec.ofNat 8 (Config.freeValue s.freeCtr / 256 ^ j)
            else s.rdAny (dmaAt (dmaSrc n s) (s.fld (DMA_CTL n) F_DMA_CTL_SRC_K) ((s.rd (DMA_DONE_BYTES n)).toNat + j)))) ∧
        SameBytes (fun a => dmaAt (dmaDst n s) (s.fld (DMA_CTL n) F_DMA_CTL_DST_K) (s.rd (DMA_DONE_BYTES n)).toNat ≤ a ∧
          a < dmaAt (dmaDst n s) (s.fld (DMA_CTL n) F_DMA_CTL_DST_K) (s.rd (DMA_DONE_BYTES n)).toNat + len) s t ∧
        (t.rd (DMA_DONE_BYTES n)).toNat = (s.rd (DMA_DONE_BYTES n)).toNat + len ∧
        ((List.range len).any (fun j => dmaPoison (dmaAt (dmaSrc n s) (s.fld (DMA_CTL n) F_DMA_CTL_SRC_K) ((s.rd (DMA_DONE_BYTES n)).toNat + j)) s) = true →
          t.poisoned (dmaAt (dmaDst n s) (s.fld (DMA_CTL n) F_DMA_CTL_DST_K) (s.rd (DMA_DONE_BYTES n)).toNat) = true)) ∧
  (∀ s n len, dmaTurn s = some n → s.fld (DMA_CTL n) F_DMA_CTL_MODE = 0 →
      len = dmaLenAt n 0 (s.rd (DMA_DONE_BYTES n)).toNat ((s.rd (DMA_COUNT n)).toNat - (s.rd (DMA_DONE_BYTES n)).toNat) s →
      dmaIndet n (s.rd (DMA_DONE_BYTES n)).toNat len s = true → ∃ t, exec .dmaBurst s = .next t ∧ t.mem = s.mem ∧
        t.fld (DMA_STATUS n) F_DMA_STATUS_ERR = 4 ∧ t.fld (DMA_STATUS n) F_DMA_STATUS_END = 3 ∧ Counted 0x8006 s t) ∧
  (∀ s n off p, dmaTurn s = some n → s.fld (DMA_CTL n) F_DMA_CTL_MODE = 2 → s.rd (DMA_DONE_BYTES n) = 0 → 8 ≤ (s.rd (DMA_COUNT n)).toNat →
      dmaDiff n s 0 = some (off, p) → ∃ t, exec .dmaBurst s = .next t ∧ t.mem = s.mem ∧ (t.rd (DMA_MISMATCH n)).toNat = off ∧
        t.fld (DMA_STATUS n) F_DMA_STATUS_END = (if p then 3 else 4) ∧ t.fld (DMA_STATUS n) F_DMA_STATUS_ERR = (if p then 3 else 0)) ∧
  (∀ s n, dmaTurn s = some n → s.fld (DMA_CTL n) F_DMA_CTL_MODE = 2 → s.rd (DMA_DONE_BYTES n) = 0 → s.rd (DMA_COUNT n) = 8 → dmaDiff n s 0 = none →
      ∃ t, exec .dmaBurst s = .next t ∧ t.mem = s.mem ∧ t.fld (DMA_STATUS n) F_DMA_STATUS_END = 1 ∧ t.fld (DMA_STATUS n) F_DMA_STATUS_ERR = 0)

/-- R372–R378, R516: host management messages. -/
def Obligations.ManagementMessages : Prop :=
  (∀ ch seq s, Serves ch s → ReplyRoom ch.toNat 1 6 s → ∃ t, exec (.getInfo ch seq 0) s = .next t ∧
      Replied ch.toNat 1 1 seq.toNat 0 [s.rd PWR_FAMILY_ID, fwVersion s, Config.hdasFitted.zeroExtend 32, s.rd SEQ_IMAGE_ID] s t) ∧
  (∀ ch seq l s, ch.toNat < 8 → s.fld PWR_BOOT F_PWR_BOOT_RECOVERY = 0 → msgBusy ch.toNat s = true → exec (.echo ch seq l) s = .next { s with held := s.held ++
      [{ chan := ch.toNat, op := 0x0B, seq := seq.toNat, words := l, arg := 0, dead := false }] }) ∧
  (∀ ch seq s, Serves ch s → ReplyRoom ch.toNat 1 6 s → ∃ t, exec (.hdaState ch seq 0) s = .next t ∧
      Replied ch.toNat 1 2 seq.toNat 0 [stateWord 0 s, stateWord 8 s, s.rd (GH_ISOLATED 0), s.rd (GH_ISOLATED 1)] s t) ∧
  (∀ ch seq n s, Serves ch s → 0 < n → ReplyRoom ch.toNat 1 2 s → (∃ t, exec (.getInfo ch seq n) s = .next t ∧ Replied ch.toNat 1 1 seq.toNat 2 [] s t ∧
      Counted 0x8007 s t) ∧ ∃ t, exec (.hdaState ch seq n) s = .next t ∧ Replied ch.toNat 1 2 seq.toNat 2 [] s t ∧ Counted 0x8007 s t) ∧
  (∀ ch seq w s, Serves ch s → ReplyRoom ch.toNat 1 2 s → (1 ≤ w.toNat ∧ w.toNat ≤ 16) → ∃ t, exec (.setAccel ch seq [w]) s = .next t ∧
      Replied ch.toNat 1 7 seq.toNat 0 [] s t ∧ t.fld SPN_ACCEL_MAX F_SPN_ACCEL_MAX_MAX = w.toNat) ∧
  (∀ ch seq w s, Serves ch s → ReplyRoom ch.toNat 1 2 s → (w.toNat < 1 ∨ 16 < w.toNat) → ∃ t, exec (.setAccel ch seq [w]) s = .next t ∧
      Replied ch.toNat 1 7 seq.toNat 2 [] s t ∧ t.rd SPN_ACCEL_MAX = s.rd SPN_ACCEL_MAX) ∧
  (∀ ch seq w s, Serves ch s → ReplyRoom ch.toNat 1 2 s → ∃ t, exec (.setSubsys ch seq [w]) s = .next t ∧ Replied ch.toNat 1 6 seq.toNat 0 [] s t) ∧
  (∀ ch seq l s, Serves ch s → l.length ≤ 13 → ReplyRoom ch.toNat 1 (l.length + 2) s → ∃ t, exec (.echo ch seq l) s = .next t ∧
      Replied ch.toNat 1 0x0B seq.toNat 0 l s t) ∧
  (∀ ch op seq s, Serves ch s → knownOp ch.toNat op.toNat = false → ReplyRoom ch.toNat 1 2 s → ∃ t, exec (.unknownOp ch op seq) s = .next t ∧
      Replied ch.toNat 1 op.toNat seq.toNat 1 [] s t ∧ Counted 0x8007 s t) ∧
  (∀ ch op seq s, 36 ≤ ch.toNat → ch.toNat < 44 → ghRunning s = true → Turn ch.toNat s → knownOp ch.toNat op.toNat = false → ReplyRoom ch.toNat 0 2 s →
      ∃ t, exec (.unknownOp ch op seq) s = .next t ∧ Replied ch.toNat 0 op.toNat seq.toNat 1 [] s t ∧ Counted 0xA00E s t) ∧
  (∀ ch seq w h s, Serves ch s → w.toNat % 2 ^ 16 = 2 ^ h → hdaOps h s = true → (∀ j ∈ s.hif.jobs, ¬ (j.chan = ch.toNat ∧ j.seq = seq.toNat ∧ j.op = 3)) →
      ∃ t, exec (.spinDown ch seq [w]) s = .next t ∧ hdaHeld h t = true ∧ spnState h t = spnState h s ∧
        t.hif.jobs = s.hif.jobs ++ [{ chan := ch.toNat, seq := seq.toNat, op := 3, named := [h] }]) ∧
  (∀ h j s, j.op = 3 → j.at h = 0 → hdaOps h s = false → (downHda h (j, s)).1.at h = 1) ∧
  (∀ h j s, j.at h = 1 → hdaDirty h s = [] → (downHda h (j, s)).1.at h = 2) ∧
  (∀ h j s, j.at h = 1 → hdaDirty h s ≠ [] → (hdaDirty h s).all (fun e => lineStuck e.2.key s) = true → (downHda h (j, s)).1.failed = j.failed ++ [h] ∧
      (downHda h (j, s)).2 = s) ∧
  (∀ h j s, j.at h = 2 → hdaLoaded h s = false → (downHda h (j, s)).1.at h = 3 ∧ (downHda h (j, s)).2 = spnBrake h s) ∧
  (∀ ch seq w h a s, Serves ch s → w.toNat % 2 ^ 16 = 2 ^ h → h < 16 → (actsOf h).find? (fun a => !s.domOn a) = some a → a < 64 →
      s.fld PWR_DOM_RESULT F_PWR_DOM_RESULT_BUSY = 0 → ∃ t, exec (.spinUp ch seq [w]) s = .next t ∧ t.fld PWR_DOM_RESULT F_PWR_DOM_RESULT_BUSY = 1 ∧
        t.fld PWR_DOM_RESULT F_PWR_DOM_RESULT_DOMAIN = a ∧ t.plat.domPend = some a) ∧
  (∀ h j s, j.at h = 0 → (∀ a ∈ actsOf h, s.domOn a = true) → atSpeed h s = false → (upHda h (j, s)).1.at h = 1 ∧ (upHda h (j, s)).2 = spnStart h s) ∧
  (∀ ch seq w s, Serves ch s → ReplyRoom ch.toNat 1 3 s → w.toNat % 2 ^ 16 = s.fld BUF_WAY_CTL F_BUF_WAY_CTL_EN →
      (∀ k, k < 16 → w.toNat.testBit k = true → wayState k s = 2) → ∃ t, exec (.ways ch seq [w]) s = .next t ∧
        Replied ch.toNat 1 5 seq.toNat 0 [s.rd BUF_WAY_STATE] s t ∧ t.buf = s.buf) ∧
  (∀ ch seq w p r s, Serves ch s → wayPairs (w.toNat % 2 ^ 16) (s.fld BUF_WAY_CTL F_BUF_WAY_CTL_EN) = (p, false) :: r →
      ∃ t, exec (.ways ch seq [w]) s = .next t ∧ t.ksk = s.ksk ∧ (∀ k, k < 16 → k / 2 = p → w.toNat.testBit k = false →
        (t.fld BUF_WAY_CTL F_BUF_WAY_CTL_EN).testBit k = false) ∧ ∀ k, k < 16 → k / 2 ≠ p → wayState k t = wayState k s) ∧
  (∀ ch op seq s, 8 ≤ ch.toNat → ch.toNat < 36 → exec (.unknownOp ch op seq) s = .next s)

/-- R391, R394, R397–R399, R401, R403–R408: direct commands and window reads. -/
def Obligations.NvCommands : Prop :=
  (∀ m v s, m.toNat = 9 → ∃ t, exec (.nvProgram m v) s = .next t ∧ Denied s t ∧ SameMemory s t ∧ SameRegs (fun k => k = PWR_DENIED_WRITES.key) s t) ∧
  (∀ m v s, m.toNat ≠ 9 → s.domOn 104 = false → ∃ t, exec (.nvErase m v) s = .next t ∧ BadAccess s t ∧ SameMemory s t) ∧
  (∀ m v s, m.toNat ≠ 9 → s.domOn 104 = true → s.nvs.prog.isSome = true → ∃ t, exec (.nvProgram m v) s = .next t ∧ Denied s t ∧ t.nvs = s.nvs ∧ SameMemory s t) ∧
  (∀ m v s, m.toNat ≠ 9 → s.domOn 104 = true → nvRunning s = false → nvOpen m (nvSector (fget v F_NVS_CMD_ADDR)) s = false →
      (∃ t, exec (.nvProgram m v) s = .next t ∧ t.fld NVS_STATUS F_NVS_STATUS_RESULT = 3 ∧ t.fld NVS_STATUS F_NVS_STATUS_DONE = 1 ∧
        t.fld NVS_ERR F_NVS_ERR_PROTECTED = 1 ∧ Denied s t ∧ t.nvs = s.nvs ∧ SameMemory s t) ∧
      (∃ t, exec (.nvErase m v) s = .next t ∧ t.fld NVS_STATUS F_NVS_STATUS_RESULT = 3 ∧ t.fld NVS_ERR F_NVS_ERR_PROTECTED = 1 ∧ Denied s t ∧
        t.nvs = s.nvs ∧ SameMemory s t) ∧
      ∃ t, exec (.nvBlankCheck m v) s = .next t ∧ t.fld NVS_STATUS F_NVS_STATUS_RESULT = 3 ∧ t.rd NVS_BLANK = s.rd NVS_BLANK ∧ SameMemory s t) ∧
  (∀ m v s, m.toNat ≠ 9 → s.domOn 104 = true → nvRunning s = false → nvOpen m (nvSector (fget v F_NVS_CMD_ADDR)) s = true → fget v F_NVS_CMD_ADDR % 32 ≠ 0 →
      ∃ t, exec (.nvProgram m v) s = .next t ∧ t.fld NVS_STATUS F_NVS_STATUS_RESULT = 6 ∧ t.nvs = s.nvs ∧ SameMemory s t ∧
        t.rd PWR_DENIED_WRITES = s.rd PWR_DENIED_WRITES) ∧
  (∀ m v s, m.toNat ≠ 9 → s.domOn 104 = true → nvRunning s = false → nvOpen m (nvSector (fget v F_NVS_CMD_ADDR)) s = true → fget v F_NVS_CMD_ADDR % 32 = 0 →
      nvIndet (nvSector (fget v F_NVS_CMD_ADDR)) s = true → ∃ t, exec (.nvProgram m v) s = .next t ∧ t.fld NVS_STATUS F_NVS_STATUS_RESULT = 2 ∧
        t.fld NVS_ERR F_NVS_ERR_INDET_PROG = 1 ∧ t.nvs = s.nvs ∧ SameMemory s t) ∧
  (∀ m v s, m.toNat ≠ 9 → s.domOn 104 = true → nvRunning s = false → nvOpen m (nvSector (fget v F_NVS_CMD_ADDR)) s = true → fget v F_NVS_CMD_ADDR % 32 = 0 →
      nvIndet (nvSector (fget v F_NVS_CMD_ADDR)) s = false → nvBlank s (fget v F_NVS_CMD_ADDR) 32 = false → ∃ t, exec (.nvProgram m v) s = .next t ∧
        t.fld NVS_STATUS F_NVS_STATUS_RESULT = 1 ∧ t.fld NVS_STATUS F_NVS_STATUS_DONE = 1 ∧ t.fld NVS_ERR F_NVS_ERR_NOT_BLANK = 1 ∧ Counted 0x9002 s t ∧
        t.nvs = s.nvs ∧ SameMemory s t) ∧
  (∀ m v s, m.toNat ≠ 9 → s.domOn 104 = true → nvRunning s = false → nvOpen m (nvSector (fget v F_NVS_CMD_ADDR)) s = true → fget v F_NVS_CMD_ADDR % 32 = 0 →
      nvIndet (nvSector (fget v F_NVS_CMD_ADDR)) s = false → nvBlank s (fget v F_NVS_CMD_ADDR) 32 = true → ∃ t, exec (.nvProgram m v) s = .next t ∧
        t.fld NVS_STATUS F_NVS_STATUS_DONE = 0 ∧ t.nvs.prog = some (fget v F_NVS_CMD_ADDR, nvData s) ∧ t.fld NVS_STATUS F_NVS_STATUS_MAIN_BUSY = 1 ∧ SameMemory s t) ∧
  (∀ off l s, s.nvs.prog = some (off, l) → ∃ t, exec .nvProgramEnd s = .next t ∧ t.rdNvs off l.length = l ∧ t.mem = s.mem ∧ t.nvs.prog = none ∧
      t.fld NVS_STATUS F_NVS_STATUS_RESULT = 0 ∧ t.fld NVS_STATUS F_NVS_STATUS_DONE = 1) ∧
  (∀ m v s, m.toNat ≠ 9 → s.domOn 104 = true → nvRunning s = false → nvOpen m (nvSector (fget v F_NVS_CMD_ADDR)) s = true →
      (bankErase (bankOf (nvSector (fget v F_NVS_CMD_ADDR))) s).isSome = true → ∃ t, exec (.nvErase m v) s = .next t ∧
        t.fld NVS_STATUS F_NVS_STATUS_RESULT = 4 ∧ t.nvs = s.nvs ∧ SameMemory s t) ∧
  (∀ m v s, m.toNat ≠ 9 → s.domOn 104 = true → nvRunning s = false → nvOpen m (nvSector (fget v F_NVS_CMD_ADDR)) s = true →
      bankErase (bankOf (nvSector (fget v F_NVS_CMD_ADDR))) s = none → s.nvs.commit = none → s.nvs.jold = false → ∃ t, exec (.nvErase m v) s = .next t ∧
        nvIndet (nvSector (fget v F_NVS_CMD_ADDR)) t = true ∧ t.fld NVS_STATUS F_NVS_STATUS_DONE = 0 ∧
        bankErase (bankOf (nvSector (fget v F_NVS_CMD_ADDR))) t = some { sector := nvSector (fget v F_NVS_CMD_ADDR) } ∧
        (100000 ≤ nvErases (nvSector (fget v F_NVS_CMD_ADDR)) s → t.fld NVS_ERR F_NVS_ERR_WORN = 1 ∧ Counted 0x9007 s t)) ∧
  (∀ m v s, m.toNat ≠ 9 → s.domOn 104 = true → nvRunning s = false → nvOpen m (nvSector (fget v F_NVS_CMD_ADDR)) s = true →
      bankErase (bankOf (nvSector (fget v F_NVS_CMD_ADDR))) s = none → s.nvs.commit = none → s.nvs.jold = true → ∃ t, exec (.nvErase m v) s = .next t ∧
        bankErase (bankOf (nvSector (fget v F_NVS_CMD_ADDR))) t = some { sector := nvSector (fget v F_NVS_CMD_ADDR), direct := true, begun := false } ∧
        t.nvs.indet = s.nvs.indet ∧ t.nvs.jrows = s.nvs.jrows ∧ SameMemory s t) ∧
  (∀ par e s, bankErase (b2n par) s = some e → eraseHeld e s = false → e.begun = true → e.direct = true → e.sector < 152 → s.ice.erase = none →
      (∃ t, exec (.nvEraseEnd par false) s = .next t ∧ nvIndet e.sector t = false ∧ nvErases e.sector t = nvErases e.sector s + 1 ∧
        nvBlank t (sectorBase e.sector) (sectorSize e.sector) = true ∧ t.fld NVS_STATUS F_NVS_STATUS_RESULT = 0 ∧ bankErase (b2n par) t = none ∧ t.mem = s.mem) ∧
      ∃ t, exec (.nvEraseEnd par true) s = .next t ∧ nvIndet e.sector t = nvIndet e.sector s ∧ t.nv = s.nv ∧ t.fld NVS_STATUS F_NVS_STATUS_RESULT = 5 ∧
        t.fld NVS_ERR F_NVS_ERR_ERASE_FAIL = 1 ∧ Counted 0x9004 s t) ∧
  (∀ par fail e s, bankErase (b2n par) s = some e → (eraseHeld e s = true ∨ e.begun = false) → exec (.nvEraseEnd par fail) s = .next s) ∧
  (∀ m v e s, m.toNat ≠ 9 → s.domOn 104 = true → s.nvs.prog = none → bankErase 0 s = some e → e.susp = false → bankErase 1 s = none → ∃ t, exec (.nvSuspend m v) s = .next t ∧
      bankErase 0 t = some { e with susp := true } ∧ t.fld NVS_STATUS F_NVS_STATUS_SUSPENDED = 1 ∧
      t.fld NVS_STATUS F_NVS_STATUS_RESULT = 0 ∧ SameMemory s t) ∧
  (∀ m v e s, m.toNat ≠ 9 → s.domOn 104 = true → s.nvs.prog = none → bankErase 0 s = some e → e.susp = true → bankErase 1 s = none → ∃ t, exec (.nvResume m v) s = .next t ∧
      bankErase 0 t = some { e with susp := false } ∧ t.fld NVS_STATUS F_NVS_STATUS_SUSPENDED = 0 ∧ SameMemory s t) ∧
  (∀ m v s, m.toNat ≠ 9 → s.domOn 104 = true → s.nvs.prog = none → bankErase 0 s = none → bankErase 1 s = none → ∃ t, exec (.nvResume m v) s = .next t ∧
      t.fld NVS_STATUS F_NVS_STATUS_RESULT = 7 ∧ t.fld NVS_STATUS F_NVS_STATUS_DONE = 1 ∧ t.nvs = s.nvs) ∧
  (∀ m v s, m.toNat ≠ 9 → s.domOn 104 = true → nvRunning s = false → nvOpen m (nvSector (fget v F_NVS_CMD_ADDR)) s = true → ∃ t, exec (.nvBlankCheck m v) s = .next t ∧
      t.fld NVS_STATUS F_NVS_STATUS_RESULT = 0 ∧ SameMemory s t ∧
      (t.fld NVS_BLANK F_NVS_BLANK_FOUND = 0 ↔ firstUsed s (sectorBase (nvSector (fget v F_NVS_CMD_ADDR))) (sectorSize (nvSector (fget v F_NVS_CMD_ADDR)) / 32) = none)) ∧
  (∀ m off ecc s, m.toNat < 9 → s.domOn 104 = true → ecc.toNat < 2 → nvBadGran off.toNat s = false → nvIndet (nvSector off.toNat) s = false → nvWsOk s = true → s.nvs.prog = none → s.nvs.recw = none → s.nvs.commit = none →
      ∃ t, exec (.nvsWindowRead m off ecc) s = .next t ∧ t.dataExc = false ∧ t.rdata.toNat = ofLe (s.rdNvs (off.toNat / 4 * 4) 4) ∧ SameMemory s t ∧
        (ecc.toNat = 1 → (t.rd NVS_ECC_CORR).toNat = satAdd 32 (s.rd NVS_ECC_CORR).toNat 1) ∧ SameRegs (fun k => k = NVS_ECC_CORR.key) s t) ∧
  (∀ m off ecc s, m.toNat < 9 → s.domOn 104 = true → ecc.toNat < 2 → nvBadGran off.toNat s = false → nvIndet (nvSector off.toNat) s = false → nvWsOk s = false → s.nvs.prog = none → s.nvs.recw = none → s.nvs.commit = none →
      ∃ t, exec (.nvsWindowRead m off ecc) s = .next t ∧ t.rdata = BitVec.ofNat 32 (Config.freeValue s.freeCtr) ∧ SameMemory s t ∧
        (ecc.toNat = 1 → (t.rd NVS_ECC_CORR).toNat = satAdd 32 (s.rd NVS_ECC_CORR).toNat 1) ∧ SameRegs (fun k => k = NVS_ECC_CORR.key) s t) ∧
  (∀ m off s, m.toNat < 9 → s.domOn 104 = true → nvIndet (nvSector off.toNat) s = false → s.nvs.prog = none → s.nvs.recw = none → s.nvs.commit = none →
      ∃ t, exec (.nvsWindowRead m off 2) s = .next t ∧ t.rd NVS_LAST = off.zeroExtend 32 ∧ t.dataExc = decide (m.toNat < 8) ∧
      (t.rd NVS_ECC_UNCORR).toNat = satAdd 32 (s.rd NVS_ECC_UNCORR).toNat 1 ∧ t.fld NVS_ERR F_NVS_ERR_ECC_UNCORR = 1 ∧ Counted 0x9001 s t ∧ SameMemory s t) ∧
  (∀ m off p s, m.toNat < 9 → s.domOn 104 = true → s.nvs.prog = some p → p.2.length ≤ 32 → p.1 % 32 = 0 → planeOf (nvSector p.1) = planeOf (nvSector off.toNat) → s.nvs.recw = none →
      s.nvs.commit = none → ∃ t, exec (.nvsWindowRead m off 0) s = .next t ∧ t.nvs.prog = none ∧ t.rdNvs p.1 p.2.length = p.2 ∧ t.mem = s.mem) ∧
  (∀ m off s, m.toNat < 8 → s.domOn 104 = true → s.nvs.prog = none → s.nvs.recw = none → s.nvs.commit = none → nvBadGran off.toNat s = false → nvIndet (nvSector off.toNat) s = true →
      ∃ t, exec (.nvsWindowRead m off 0) s = .next t ∧ t.fld NVS_LAST F_NVS_LAST_KIND = 1 ∧ t.fld NVS_LAST F_NVS_LAST_ADDR = off.toNat ∧
        t.fld NVS_ERR F_NVS_ERR_INDET_READ = 1 ∧ Counted 0x900A s t ∧ SameMemory s t)

/-- R410–R414, R416, R417, R419–R421: the record engine and the commit engine. -/
def Obligations.RecordsCommits : Prop :=
  (∀ m v s, m.toNat ≠ 9 → s.domOn 104 = true → s.nvs.recw.isSome = true → (∃ t, exec (.recordRead m v) s = .next t ∧ Denied s t ∧ t.nvs = s.nvs ∧
      SameRegs (fun k => k = PWR_DENIED_WRITES.key) s t) ∧ ∃ t, exec (.recordWrite m v) s = .next t ∧ Denied s t ∧ t.nvs = s.nvs) ∧
  (∀ m v s, m.toNat ≠ 9 → s.domOn 104 = true → s.nvs.recw = none → (recOf (fget v F_NVS_REC_CTL_ID) s = none ∨ (recOf (fget v F_NVS_REC_CTL_ID) s).map Prod.snd = some 0) →
      ∃ t, exec (.recordRead m v) s = .next t ∧ t.fld NVS_REC_STATUS F_NVS_REC_STATUS_RESULT = 1 ∧ t.fld NVS_REC_STATUS F_NVS_REC_STATUS_DONE = 1 ∧ SameMemory s t) ∧
  (∀ m v p len i s, m.toNat ≠ 9 → s.domOn 104 = true → s.nvs.recw = none → recOf (fget v F_NVS_REC_CTL_ID) s = some (p, len) → 0 < len → len ≤ 240 → 4 * (i + 1) ≤ len →
      ∃ t, exec (.recordRead m v) s = .next t ∧ t.fld NVS_REC_STATUS F_NVS_REC_STATUS_RESULT = 0 ∧ t.fld NVS_REC_STATUS F_NVS_REC_STATUS_LEN = len ∧
        (t.rd (NVS_REC_DATA i)).toNat = ofLe (s.rdNvs (recOff (p / 256) (p % 256) + 16 + 4 * i) 4) ∧ SameMemory s t) ∧
  (∀ m v s, m.toNat ≠ 9 → s.domOn 104 = true → s.nvs.recw = none → s.nvs.next < 256 → fget v F_NVS_REC_CTL_LEN ≤ 240 → inOldest (fget v F_NVS_REC_CTL_ID) s = false →
      parFree s ≤ parAged s → ∃ t, exec (.recordWrite m v) s = .next t ∧ t.fld NVS_REC_STATUS F_NVS_REC_STATUS_RESULT = 2 ∧
        t.fld NVS_REC_STATUS F_NVS_REC_STATUS_BUSY = 0 ∧ Counted 0x9008 s t ∧ t.nvs = s.nvs ∧ SameMemory s t) ∧
  (∀ m v s, m.toNat ≠ 9 → s.domOn 104 = true → s.nvs.recw = none → s.nvs.next < 256 → fget v F_NVS_REC_CTL_LEN ≤ 240 →
      (inOldest (fget v F_NVS_REC_CTL_ID) s = true ∨ parAged s < parFree s) → ∃ t, exec (.recordWrite m v) s = .next t ∧
        t.fld NVS_REC_STATUS F_NVS_REC_STATUS_BUSY = 1 ∧ (t.nvs.recw).map Prod.fst = some (fget v F_NVS_REC_CTL_ID) ∧
        (t.nvs.recw).map (fun x => x.2.length) = some (fget v F_NVS_REC_CTL_LEN) ∧ SameMemory s t) ∧
  (∀ m v s, m.toNat ≠ 9 → s.domOn 104 = true → s.nvs.recw = none → 240 < fget v F_NVS_REC_CTL_LEN → ∃ t, exec (.recordWrite m v) s = .next t ∧
      t.fld NVS_REC_STATUS F_NVS_REC_STATUS_RESULT = 3 ∧ Denied s t ∧ t.nvs = s.nvs ∧ SameMemory s t) ∧
  (∀ m v s, m.toNat ≠ 9 → s.domOn 104 = true → s.nvs.recw = none → fget v F_NVS_REC_CTL_LEN ≤ 240 → 256 ≤ s.nvs.next → (bankErase 1 s).isSome = true →
      ∃ t, exec (.recordWrite m v) s = .next t ∧ t.nvs.recHold = true ∧ (t.nvs.recw).map Prod.fst = some (fget v F_NVS_REC_CTL_ID) ∧
        t.fld NVS_REC_STATUS F_NVS_REC_STATUS_BUSY = 1 ∧ SameMemory s t ∧ exec (.recordWriteEnd false) t = .next t) ∧
  (∀ id p s, s.nvs.recw = some (id, p) → s.nvs.recHold = false → nvIndet (120 + s.nvs.head) s = false → id < 1024 → p.length ≤ 240 → ∃ t, exec (.recordWriteEnd false) s = .next t ∧ t.nvs.recw = none ∧ t.nvs.seq = s.nvs.seq + 1 ∧
      t.nvs.next = s.nvs.next + 1 ∧ recOf id t = some (256 * s.nvs.head + s.nvs.next, p.length) ∧
      t.rdNvs (recOff s.nvs.head s.nvs.next) (16 + p.length) = recBytes id (s.nvs.seq + 1) p ∧ t.fld NVS_REC_STATUS F_NVS_REC_STATUS_RESULT = 0) ∧
  (∀ id p s, s.nvs.recw = some (id, p) → s.nvs.recHold = false → nvIndet (120 + s.nvs.head) s = false → ∃ t, exec (.recordWriteEnd true) s = .next t ∧ t.nvs.recw = none ∧ t.nvs.seq = s.nvs.seq ∧ t.nvs.next = s.nvs.next + 1 ∧
      t.nvs.idx = s.nvs.idx ∧ t.fld NVS_REC_STATUS F_NVS_REC_STATUS_RESULT = 4) ∧
  (∀ m slot s, m.toNat ≠ 9 → s.domOn 104 = true → s.nvs.commit.isSome = true → (∃ t, exec (.slotCommit m slot) s = .next t ∧ Denied s t ∧ t.nvs = s.nvs ∧ SameMemory s t) ∧
      (∃ t, exec (.slotCommitActivate m slot) s = .next t ∧ Denied s t ∧ t.nvs = s.nvs ∧ SameMemory s t) ∧
      ∃ t, exec (.slotActivate m slot) s = .next t ∧ Denied s t ∧ t.nvs = s.nvs ∧ SameMemory s t) ∧
  (∀ m slot s, m.toNat ≠ 9 → s.domOn 104 = true → s.nvs.commit = none → commitArgs (commitSrc s) (s.fld NVS_COMMIT_LEN F_NVS_COMMIT_LEN_BYTES) = false →
      ∃ t, exec (.slotCommit m slot) s = .next t ∧ t.fld NVS_COMMIT_STATUS F_NVS_COMMIT_STATUS_RESULT = 1 ∧ t.fld NVS_COMMIT_STATUS F_NVS_COMMIT_STATUS_DONE = 1 ∧
        SameMemory s t ∧ t.nvs = s.nvs) ∧
  (∀ m slot s, m.toNat ≠ 9 → s.domOn 104 = true → s.nvs.commit = none → commitArgs (commitSrc s) (s.fld NVS_COMMIT_LEN F_NVS_COMMIT_LEN_BYTES) = true →
      (∃ t, exec (.slotCommit m slot) s = .next t ∧ slotBootable (b2n slot) t = false ∧ slotRevoked (b2n slot) t = true ∧
        t.fld NVS_COMMIT_STATUS F_NVS_COMMIT_STATUS_BUSY = 1 ∧ t.mem = s.mem ∧
        t.nvs.commit = some (b2n slot, 0, commitSrc s, s.fld NVS_COMMIT_LEN F_NVS_COMMIT_LEN_BYTES)) ∧
      ∃ t, exec (.slotCommitActivate m slot) s = .next t ∧ slotBootable (b2n slot) t = false ∧
        t.nvs.commit = some (b2n slot, 1, commitSrc s, s.fld NVS_COMMIT_LEN F_NVS_COMMIT_LEN_BYTES)) ∧
  (∀ m slot s, m.toNat ≠ 9 → s.domOn 104 = true → s.nvs.commit = none → slotBootable (b2n slot) s = false → ∃ t, exec (.slotActivate m slot) s = .next t ∧
      t.fld NVS_COMMIT_STATUS F_NVS_COMMIT_STATUS_RESULT = 4 ∧ SameMemory s t ∧ t.nvs = s.nvs) ∧
  (∀ m slot s, m.toNat ≠ 9 → s.domOn 104 = true → s.nvs.commit = none → slotBootable (b2n slot) s = true → (actBlank (b2n slot) s).isSome = true →
      ∃ t, exec (.slotActivate m slot) s = .next t ∧ t.fld NVS_COMMIT_STATUS F_NVS_COMMIT_STATUS_BUSY = 1 ∧ t.fld NVS_COMMIT_STATUS F_NVS_COMMIT_STATUS_STEP = 6 ∧
        SameMemory s t) ∧
  (∀ res rep k a n i s, s.nvs.commit = some (k, 2, a, n) → s.nvs.cpos.step = 6 → k < 2 → nvIndet (slotSec k) s = false → actBlank k s = some i → ∃ t, exec (.commitEnd res rep) s = .next t ∧
      t.fld NVS_COMMIT_STATUS F_NVS_COMMIT_STATUS_RESULT = 0 ∧ ofLe (t.rdNvs (actOff k i) 4) = (actTop s + 1) % 2 ^ 32 ∧ t.nvs.commit = none ∧ t.mem = s.mem) ∧
  (∀ rep k act a n s, s.nvs.commit = some (k, act, a, n) → s.nvs.cpos.step < 5 → commitBlocked s = false → k < 2 → act < 2 → commitArgs a n = true →
      s.nvs.cpos.pos < 48 ∨ (s.rdNvs (markOff k) 32 = List.replicate 32 0xFF ∧ slotRevoked k s = false) → ∃ t, exec (.commitEnd 0 rep) s = .next t ∧
      t.rdNvs (sectorBase (slotSec k)) 4096 = s.rdBytes a 4096 ∧ t.rdNvs (markOff k) 32 = validUnit (s.rdBytes a n) ++ List.replicate (32 - (validUnit (s.rdBytes a n)).length) 0xFF ∧
      slotRevoked k t = false ∧ (act = 1 → ofLe (t.rdNvs (actOff k 0) 4) % 2 ^ 32 = (actTop (commitWrite k 0 s.nvs.cpos.pos (s.rdBytes a n) s) + 1) % 2 ^ 32) ∧
      t.fld NVS_COMMIT_STATUS F_NVS_COMMIT_STATUS_RESULT = 0 ∧ Counted 0x9005 s t ∧ t.nvs.commit = none ∧ t.mem = s.mem) ∧
  (∀ res rep k act a n s, s.nvs.commit = some (k, act, a, n) → s.nvs.cpos.step < 5 → commitBlocked s = false → act < 2 → (res.toNat = 2 ∨ res.toNat = 3) → ∃ t, exec (.commitEnd res rep) s = .next t ∧
      t.fld NVS_COMMIT_STATUS F_NVS_COMMIT_STATUS_RESULT = res.toNat ∧ Counted 0x9006 s t ∧ t.nvs.commit = none ∧ t.mem = s.mem)

/-- R425, R437, R441, R443, R449–R452, R455: requests through Kiosk. -/
def Obligations.GatehouseRequests : Prop :=
  (∀ c seq p mv r s, ghRunning s = false → exec (.ghInfo c seq 0) s = .next s ∧ exec (.setFence c seq p) s = .next s ∧ exec (.retract c seq p) s = .next s ∧
      exec (.recover c seq p r) s = .next s ∧ exec (.releaseSpindle c seq p) s = .next s ∧ exec (.chopperTest c seq p) s = .next s ∧
      exec (.setNotice c seq p) s = .next s ∧ exec (.inject c seq p mv) s = .next s) ∧
  (∀ c seq s, ghRunning s = true → msgBusy (36 + c.toNat) s = true → exec (.ghInfo c seq 0) s = .next { s with held := s.held ++
      [{ chan := 36 + c.toNat, op := 1, seq := seq.toNat, words := [], arg := 0, dead := false }] }) ∧
  (∀ c seq s, ghRunning s = true → Turn (36 + c.toNat) s → ReplyRoom (36 + c.toNat) 0 4 s → ∃ t, exec (.ghInfo c seq 0) s = .next t ∧
      Replied (36 + c.toNat) 0 1 seq.toNat 0 [s.rd GH_ID, s.rd GH_GRAVE] s t ∧ t.gh = s.gh ∧ SameMemory s t) ∧
  (∀ c seq n s, ghRunning s = true → Turn (36 + c.toNat) s → 0 < n → ReplyRoom (36 + c.toNat) 0 2 s → ∃ t, exec (.ghInfo c seq n) s = .next t ∧
      Replied (36 + c.toNat) 0 1 seq.toNat 2 [] s t ∧ Counted 0xA00E s t) ∧
  (∀ c seq mk w s, ghRunning s = true → Turn (36 + c.toNat) s → ReplyRoom (36 + c.toNat) 0 2 s → (w.toNat % 256 < 20 ∨ 205 < w.toNat % 256 ∨ w.toNat / 256 % 256 < 10 ∨ 128 < w.toNat / 256 % 256) →
      ∃ t, exec (.setFence c seq [mk, w]) s = .next t ∧ Replied (36 + c.toNat) 0 2 seq.toNat 2 [] s t ∧ (∀ h, h < 16 → t.rd (SRV_FENCE h) = s.rd (SRV_FENCE h))) ∧
  (∀ c seq mk w h s, ghRunning s = true → Turn (36 + c.toNat) s → ReplyRoom (36 + c.toNat) 0 3 s → 20 ≤ w.toNat % 256 → w.toNat % 256 ≤ 205 → 10 ≤ w.toNat / 256 % 256 → w.toNat / 256 % 256 ≤ 128 →
      h < 16 → mk.toNat.testBit h = true → w.toNat % 256 < s.fld (SRV_SETTLE h) F_SRV_SETTLE_WRITE_THR → ∃ t, exec (.setFence c seq [mk, w]) s = .next t ∧
        Replied (36 + c.toNat) 0 2 seq.toNat 3 [8] s t ∧ (∀ k, k < 16 → t.rd (SRV_FENCE k) = s.rd (SRV_FENCE k))) ∧
  (∀ c seq mk w s, ghRunning s = true → Turn (36 + c.toNat) s → ReplyRoom (36 + c.toNat) 0 2 s → 20 ≤ w.toNat % 256 → w.toNat % 256 ≤ 205 → 10 ≤ w.toNat / 256 % 256 → w.toNat / 256 % 256 ≤ 128 →
      (∀ h, h < 16 → mk.toNat.testBit h = true → s.fld (SRV_SETTLE h) F_SRV_SETTLE_WRITE_THR ≤ w.toNat % 256) → ∃ t, exec (.setFence c seq [mk, w]) s = .next t ∧
        Replied (36 + c.toNat) 0 2 seq.toNat 0 [] s t ∧ Counted 0xA00D s t ∧ (∀ h, h < 16 → mk.toNat.testBit h = true →
          t.fld (SRV_FENCE h) F_SRV_FENCE_PES_THR = w.toNat % 256 ∧ t.fld (SRV_FENCE h) F_SRV_FENCE_DELTA_THR = w.toNat / 256 % 256) ∧
        ∀ h, h < 16 → mk.toNat.testBit h = false → t.rd (SRV_FENCE h) = s.rd (SRV_FENCE h)) ∧
  (∀ c seq mk n s, ghRunning s = true → Turn (36 + c.toNat) s → graveLatched s = true → ReplyRoom (36 + c.toNat) 0 3 s → ∃ t, exec (.retract c seq [mk, n]) s = .next t ∧
      Replied (36 + c.toNat) 0 3 seq.toNat 3 [1] s t ∧ (∀ a, a < 64 → actState a t = actState a s)) ∧
  (∀ c seq mk a s, ghRunning s = true → Turn (36 + c.toNat) s → graveLatched s = false → mk.toNat = 2 ^ a → a < 32 → loaded a s = true → actState a s ≠ 6 → ∃ t, exec (.retract c seq [mk, 0]) s = .next t ∧
      actState a t = 6 ∧ (retr a t).active = true ∧ (retr a t).isolate = false ∧ (act a t).fence % 16 = 0 ∧ Counted 0xA003 s t ∧
      t.fld (SRV_ACT_STATE a) F_SRV_ACT_STATE_FORCED = 1 ∧ t.rd (GH_ACT_STATUS a) = s.rd (GH_ACT_STATUS a)) ∧
  (∀ c seq w reg r s, ghRunning s = true → Turn (36 + c.toNat) s → w.toNat < 64 → recoverReason w.toNat reg.toNat s = some r → r < 8 → ReplyRoom (36 + c.toNat) 0 3 s →
      ∃ t, exec (.recover c seq [w] reg) s = .next t ∧ Replied (36 + c.toNat) 0 4 seq.toNat 3 [BitVec.ofNat 32 r] s t ∧ t.plat.actRst = s.plat.actRst ∧ t.gh = s.gh ∧ t.lnks = s.lnks) ∧
  (∀ c seq w reg s, ghRunning s = true → Turn (36 + c.toNat) s → w.toNat < 64 → recoverReason w.toNat reg.toNat s = none → ∃ t, exec (.recover c seq [w] reg) s = .next t ∧
      (w.toNat, true) ∈ t.plat.actRst ∧ linkMode w.toNat t = 1) ∧
  (∀ a reg s, (recoverReason a reg s = some 1 ↔ graveLatched s = true) ∧ (graveLatched s = false → (recoverReason a reg s = some 2 ↔ actState a s ≠ 7)) ∧
      (recoverReason a reg s = none → (faults24 a s).length < 8 ∧ s.fld (GH_ACT_STATUS a) F_GH_ACT_STATUS_RETIRED ≠ 1 ∧ reg = 0)) ∧
  (∀ c seq mk s, ghRunning s = true → Turn (36 + c.toNat) s → ReplyRoom (36 + c.toNat) 0 3 s → ∃ t, exec (.releaseSpindle c seq [mk]) s = .next t ∧
      (∀ h, h < 16 → mk.toNat.testBit h = true → releasable h s = true → spnForced h t = false) ∧
      ((∀ h, h < 16 → mk.toNat.testBit h = true → releasable h s = false) → Replied (36 + c.toNat) 0 5 seq.toNat 0 [0] s t ∧ (∀ h, h < 16 → spnForced h t = spnForced h s))) ∧
  (∀ c seq w s, ghRunning s = true → Turn (36 + c.toNat) s → w.toNat < 4 → graveLatched s = false → ReplyRoom (36 + c.toNat) 0 3 s →
      (s.fld (GH_RAIL w.toNat) F_GH_RAIL_MV < 11400 ∨ 12600 < s.fld (GH_RAIL w.toNat) F_GH_RAIL_MV ∨ (hdasOf w.toNat).any (fun h => spnState h s == 6) = true) →
      ∃ t, exec (.chopperTest c seq [w]) s = .next t ∧ Replied (36 + c.toNat) 0 6 seq.toNat 3 [9] s t ∧ t.rd (GH_RAIL w.toNat) = s.rd (GH_RAIL w.toNat)) ∧
  (∀ c seq w s, ghRunning s = true → Turn (36 + c.toNat) s → w.toNat < 4 → graveLatched s = false → 11400 ≤ s.fld (GH_RAIL w.toNat) F_GH_RAIL_MV → s.fld (GH_RAIL w.toNat) F_GH_RAIL_MV ≤ 12600 →
      (hdasOf w.toNat).any (fun h => spnState h s == 6) = false → ∃ t, exec (.chopperTest c seq [w]) s = .next t ∧
        t.fld (GH_RAIL w.toNat) F_GH_RAIL_CHOP_ON = 1 ∧ (c.toNat, seq.toNat) ∈ chopTests w.toNat t ∧ t.ksk = s.ksk) ∧
  (∀ r ma quick c q s, ghRunning s = true → chopTests r.toNat s = [(c, q)] → c < 8 → s.fld (GH_RAIL r.toNat) F_GH_RAIL_MV < 13600 → ReplyRoom (36 + c) 0 3 s →
      ∃ t, exec (.chopperTestEnd r ma quick) s = .next t ∧ t.fld (GH_RAIL r.toNat) F_GH_RAIL_CHOP_ON = 0 ∧ chopTests r.toNat t = [] ∧
        Replied (36 + c) 0 6 q (if 500 ≤ ma.toNat ∧ quick = true then 0 else 4) [BitVec.ofNat 32 ma.toNat] s t ∧
        t.fld (GH_RAIL r.toNat) F_GH_RAIL_REGEN_INHIBIT = (if 500 ≤ ma.toNat ∧ quick = true then 0 else s.fld (GH_RAIL r.toNat) F_GH_RAIL_REGEN_INHIBIT) ∧
        t.fld (GH_RAIL r.toNat) F_GH_RAIL_CHOP_FAULT = (if 500 ≤ ma.toNat ∧ quick = true then 0 else s.fld (GH_RAIL r.toNat) F_GH_RAIL_CHOP_FAULT) ∧
        (500 ≤ ma.toNat ∧ quick = true → Counted 0xA006 s t)) ∧
  (∀ c seq mk s, ghRunning s = true → Turn (36 + c.toNat) s → ReplyRoom (36 + c.toNat) 0 2 s → ∃ t, exec (.setNotice c seq [mk]) s = .next t ∧ Replied (36 + c.toNat) 0 7 seq.toNat 0 [] s t ∧
      t.fld GH_NOTICE_EN F_GH_NOTICE_EN_EN = mk.toNat % 256 ∧ SameMemory s t) ∧
  (∀ c seq k src mv s, ghRunning s = true → Turn (36 + c.toNat) s → shedOpen 1 s = false → ReplyRoom (36 + c.toNat) 0 3 s → ∃ t, exec (.inject c seq [k, src] mv) s = .next t ∧
      Replied (36 + c.toNat) 0 8 seq.toNat 3 [5] s t ∧ t.gh = s.gh ∧ SameMemory s t) ∧
  (∀ c seq k src mv s, ghRunning s = true → Turn (36 + c.toNat) s → shedOpen 1 s = true → injSources (k.toNat % 65536) ≤ src.toNat % 256 → ReplyRoom (36 + c.toNat) 0 2 s →
      ∃ t, exec (.inject c seq [k, src] mv) s = .next t ∧ Replied (36 + c.toNat) 0 8 seq.toNat 2 [] s t ∧ t.gh = s.gh) ∧
  (∀ c seq k mv s, ghRunning s = true → Turn (36 + c.toNat) s → shedOpen 1 s = true → 0x18 ≤ k.toNat → k.toNat ≤ 0x1A → graveLatched s = false → ∃ t, exec (.inject c seq [k, 0] mv) s = .next t ∧
      graveLatched t = true ∧ t.fld GH_GRAVE F_GH_GRAVE_CAUSE = 0xA101 + (k.toNat - 0x18) ∧ t.rd GH_ID = s.rd GH_ID ∧ Counted 0xA00F s t ∧ Counted 0xA001 s t)

/-- R425, R426, R428, R438–R440, R443, R444, R448, R457: conditions the Gatehouse detects itself. -/
def Obligations.GatehouseConditions : Prop :=
  (∀ b mv s, supplyOutside b.toNat mv.toNat = true → supplyNow b.toNat s = false → ∃ t, exec (.supplyExcursion b mv) s = .next t ∧ writeInhibit t = true ∧
      supplyNow b.toNat t = true ∧ (t.fld GH_SUPPLY F_GH_SUPPLY_STICKY).testBit b.toNat = true ∧ Counted 0xA009 s t ∧
      (∀ a, a < 64 → (act a t).fence % 16 = 0 ∧ t.fld (SRV_ACT_STATE a) F_SRV_ACT_STATE_FORCED = 1 ∧ actState a t = actState a s) ∧ SameMemory s t) ∧
  (∀ b mv s, (supplyOutside b.toNat mv.toNat = false ∨ supplyNow b.toNat s = true) → exec (.supplyExcursion b mv) s = .next s) ∧
  (∀ b mv, supplyOutside b mv = true ↔ b = 0 ∧ (mv < 670 ∨ 830 < mv) ∨ b = 1 ∧ (mv < 810 ∨ 890 < mv) ∨ b = 2 ∧ (mv < 1140 ∨ 1260 < mv) ∨
      b = 3 ∧ (mv < 1050 ∨ 1160 < mv) ∨ b = 4 ∧ (mv < 1710 ∨ 1890 < mv) ∨ b = 5 ∧ (mv < 3130 ∨ 3470 < mv)) ∧
  (∀ b mv s, supplyOutside b.toNat mv.toNat = true → supplyNow b.toNat s = true → tget false s.gh.supplyOut b.toNat = false → ∃ t, exec (.supplyFault b mv) s = .next t ∧
      (∀ a, a < 64 → loaded a s = true → actState a t = 6 ∧ (retr a t).isolate = true ∧ t.fld (GH_ACT_STATUS a) F_GH_ACT_STATUS_CAUSE = 0xA009) ∧
      ∀ a, a < 64 → loaded a s = false → actState a t = actState a s) ∧
  (∀ s, ghRunning s = true → ∃ t, exec .supplyRecovered s = .next t ∧ writeInhibit t = false ∧ t.fld GH_SUPPLY F_GH_SUPPLY_NOW = 0 ∧
      t.fld GH_SUPPLY F_GH_SUPPLY_STICKY = s.fld GH_SUPPLY F_GH_SUPPLY_STICKY ∧ (∀ a, a < 64 → actState a s ≠ 6 → isolated a s = false → graveLatched s = false →
        t.fld (SRV_ACT_STATE a) F_SRV_ACT_STATE_FORCED = 0) ∧ SameMemory s t) ∧
  (∀ s, ghRunning s = false → ∃ t, exec .supplyRecovered s = .next t ∧ writeInhibit t = writeInhibit s ∧ t.fld GH_SUPPLY F_GH_SUPPLY_NOW = 0 ∧
      t.fld GH_SUPPLY F_GH_SUPPLY_STICKY = s.fld GH_SUPPLY F_GH_SUPPLY_STICKY ∧ SameRegs (fun k => k = GH_SUPPLY.key) s t ∧ SameMemory s t) ∧
  (∀ tj s, ∃ t, exec (.temperatureSample tj) s = .next t ∧ t.fld GH_TEMP F_GH_TEMP_TJ = tj.toNat ∧
      t.fld GH_TEMP F_GH_TEMP_MAX = max tj.toNat (s.fld GH_TEMP F_GH_TEMP_MAX) ∧ (tj.toNat < 150 → t.gh.thermal = false) ∧
      (150 ≤ tj.toNat → t.gh = s.gh) ∧ SameRegs (fun k => k = GH_TEMP.key) s t) ∧
  (∀ s, 150 ≤ s.fld GH_TEMP F_GH_TEMP_TJ → s.gh.thermal = false → ∃ t, exec .thermalDetected s = .next t ∧ t.gh.thermal = true ∧ Counted 0xA00A s t ∧
      ∀ a, a < 64 → loaded a s = true → actState a t = 6 ∧ (retr a t).isolate = true ∧ t.fld (GH_ACT_STATUS a) F_GH_ACT_STATUS_CAUSE = 0xA00A) ∧
  (∀ s, (s.fld GH_TEMP F_GH_TEMP_TJ < 150 ∨ s.gh.thermal = true) → exec .thermalDetected s = .next s) ∧
  (∀ s, 165 ≤ s.fld GH_TEMP F_GH_TEMP_TJ → graveLatched s = false → ∃ t, exec .thermalGrave s = .next t ∧ graveLatched t = true ∧
      t.fld GH_GRAVE F_GH_GRAVE_CAUSE = 0xA00A ∧ Counted 0xA001 s t ∧ Counted 0xA00A s t) ∧
  (∀ s, ghRunning s = true → graveLatched s = false → (∃ t, exec .lockstepMismatch s = .next t ∧ graveLatched t = true ∧ ghRunning t = false ∧
        t.fld GH_ID F_GH_ID_LOCKSTEP_OK = 0 ∧ t.fld GH_GRAVE F_GH_GRAVE_CAUSE = 0xA101 ∧ Counted 0xA101 s t ∧
        t.ctr (GH_LODGE_COUNT 0) = satAdd 48 (s.ctr (GH_LODGE_COUNT 0)) 1 ∧
        (∀ a, a < 64 → (act a t).fence % 16 = 0 ∧ t.fld (SRV_ACT_STATE a) F_SRV_ACT_STATE_FORCED = 1 ∧ (loaded a s = true → actState a t = 6)) ∧
        ∀ h, h < 16 → spnState h t = 8 ∧ spnForced h t = true ∧ t.fld (SPN_STATE h) F_SPN_STATE_CAUSE = 4) ∧
      ∃ t, exec .ghSramUncorrectable s = .next t ∧ graveLatched t = true ∧ ghRunning t = false ∧ t.fld GH_GRAVE F_GH_GRAVE_CAUSE = 0xA102 ∧ Counted 0xA102 s t) ∧
  (∀ s, graveLatched s = true → ghRunning s = true → ∃ t, exec .ghSramUncorrectable s = .next t ∧ t.rd GH_GRAVE = s.rd GH_GRAVE ∧
      t.ctr (GH_LODGE_COUNT 0) = satAdd 48 (s.ctr (GH_LODGE_COUNT 0)) 1) ∧
  (∀ m c s, ∃ t, exec (.noticeRead m c) s = .next t ∧ t.rdata = s.rd (GH_NOTICE c.toNat) ∧
      t.fld (GH_NOTICE c.toNat) F_GH_NOTICE_PENDING = (if m.toNat < 8 then 0 else s.fld (GH_NOTICE c.toNat) F_GH_NOTICE_PENDING) ∧
      SameRegs (fun k => m.toNat < 8 ∧ k = (GH_NOTICE c.toNat).key) s t) ∧
  (∀ m s, ∃ t, exec (.supplyStickyRead m) s = .next t ∧ t.rdata = s.rd GH_SUPPLY ∧
      t.fld GH_SUPPLY F_GH_SUPPLY_STICKY = (if m.toNat < 8 then 0 else s.fld GH_SUPPLY F_GH_SUPPLY_STICKY) ∧ SameRegs (fun k => m.toNat < 8 ∧ k = GH_SUPPLY.key) s t) ∧
  (∀ a s, a < 64 → ∃ t, exec .faultAgedOut s = .next t ∧ t.fld (GH_ACT_STATUS a) F_GH_ACT_STATUS_FAULTS_24H = min 8 (faults24 a s).length ∧ t.gh = s.gh ∧
      t.ctrs = s.ctrs ∧ SameMemory s t)

/-- R430, R432–R434, R444: the course of a retract. -/
def Obligations.Retracts : Prop :=
  (∀ a i s, (retr a.toNat s).active = true → (retr a.toNat s).acked = false → retractLane a.toNat s = some i → ∃ t, exec (.retractRegTimeout a) s = .next t ∧
      (retr a.toNat t).tried = i :: (retr a.toNat s).tried ∧ t.regs = s.regs ∧ SameMemory s t ∧
      (tget {} t.dn (4 * a.toNat + i)).ret = (tget {} s.dn (4 * a.toNat + i)).ret ++ [fePayload true 0xF08 1 15]) ∧
  (∀ a s, ((retr a.toNat s).active = false ∨ (retr a.toNat s).acked = true ∨ retractLane a.toNat s = none) → exec (.retractRegTimeout a) s = .next s) ∧
  (∀ a v s, (retr a.toNat s).active = true → dnLocked a.toNat s ≠ [] → v ≠ 0 → ∃ t, exec (.retractPoll a v) s = .next t ∧ (retr a.toNat t).lastRead = v.toNat ∧
      (retr a.toNat t).active = true ∧ actState a.toNat t = actState a.toNat s ∧ t.regs = s.regs ∧ SameMemory s t) ∧
  (∀ a s, (retr a.toNat s).active = true → dnLocked a.toNat s ≠ [] → (retr a.toNat s).isolate = false → graveLatched s = false → (retr a.toNat s).reset = false →
      isolated a.toNat s = false → writeInhibit s = false → s.plat.rst = .run → ∃ t, exec (.retractPoll a 0) s = .next t ∧
        actState a.toNat t = 0 ∧ t.fld (SRV_ACT_STATE a.toNat) F_SRV_ACT_STATE_FORCED = 0 ∧ (retr a.toNat t).active = false ∧ isolated a.toNat t = false) ∧
  (∀ a s, (retr a.toNat s).active = true → dnLocked a.toNat s ≠ [] → (retr a.toNat s).isolate = true → (retr a.toNat s).reset = false → isolated a.toNat s = false →
      s.plat.rst = .run → ∃ t, exec (.retractPoll a 0) s = .next t ∧ actState a.toNat t = 7 ∧ isolated a.toNat t = true ∧
        t.fld (SRV_ACT_STATE a.toNat) F_SRV_ACT_STATE_FORCED = 1 ∧ Counted 0xA002 s t) ∧
  (∀ a s, (retr a.toNat s).active = true → (retr a.toNat s).reset = false → s.plat.rst = .run → ∃ t, exec (.retractTimeout a false) s = .next t ∧ actState a.toNat t = 7 ∧
      isolated a.toNat t = true ∧ Counted 0xA004 s t ∧ t.fld (GH_ACT_STATUS a.toNat) F_GH_ACT_STATUS_CAUSE = 0xA004 ∧
      (dnLocked a.toNat s ≠ [] → t.fld (GH_ACT_STATUS a.toNat) F_GH_ACT_STATUS_RETIRED = 1) ∧
      (dnLocked a.toNat s = [] → t.fld (GH_ACT_STATUS a.toNat) F_GH_ACT_STATUS_RETIRED = s.fld (GH_ACT_STATUS a.toNat) F_GH_ACT_STATUS_RETIRED) ∧
      t.rd (GH_LODGE_REC (s.fld GH_LODGE_STATE F_GH_LODGE_STATE_NEXT) 4) =
        BitVec.ofNat 32 (b2n (dnLocked a.toNat s).isEmpty * 2 ^ 17 + 2 ^ 16 + (retr a.toNat s).lastRead)) ∧
  (∀ a s, (retr a.toNat s).active = true → (retr a.toNat s).lastRead ≠ 0x8000 → exec (.retractTimeout a true) s = .next s)

/-- R462–R464: an emitted event. -/
def Obligations.EventTable : Prop :=
  (∀ code s, (emit code s).ctr (ICE_EVT_COUNT (evtIndex code)) = satAdd 48 (s.ctr (ICE_EVT_COUNT (evtIndex code))) 1 ∧
      ((emit code s).rd (ICE_EVT_INTERVAL (evtIndex code))).toNat = satAdd 32 (s.rd (ICE_EVT_INTERVAL (evtIndex code))).toNat 1 ∧
      (emit code s).ctr (ICE_EVT_LAST (evtIndex code)) = (if s.ctr (ICE_EVT_LAST (evtIndex code)) = 0 ∨ s.ctr (ICE_EVT_LAST (evtIndex code)) + 10 ^ 9 ≤ s.sdl.now then
        s.sdl.now else s.ctr (ICE_EVT_LAST (evtIndex code))) ∧
      SameRegs (fun k => k = (ICE_EVT_INTERVAL (evtIndex code)).key) s (emit code s) ∧
      SameCtrs (fun k => k = ICE_EVT_COUNT (evtIndex code) ∨ k = ICE_EVT_LAST (evtIndex code)) s (emit code s) ∧ SameMemory s (emit code s)) ∧
  (∀ code, code < 2 ^ 16 → code / 2 ^ 9 % 8 = 0 → code / 2 ^ 4 % 16 = 0 → evtCode (evtIndex code) = code ∧ evtIndex code < 512)

/-- R459–R461, R465–R467, R474: the Sundial, histograms, extremes and folds. -/
def Obligations.SundialSamples : Prop :=
  (∀ m s, m.toNat = 9 → exec (.sundialRead m) s = .next { s with rdata := 0 }) ∧
  (∀ m s, m.toNat ≠ 9 → ∃ t, exec (.sundialRead m) s = .next t ∧ t = { s with rdata := BitVec.ofNat 32 s.sdl.now, snap := t.snap } ∧
      tget 0 t.snap (SDL_NOW_HI m.toNat).key = BitVec.ofNat 32 (s.sdl.now / 2 ^ 32) ∧ tget 0 t.snap (SDL_NOW_LO m.toNat).key = BitVec.ofNat 32 s.sdl.now) ∧
  (∀ m v s, m.toNat ≠ 9 → exec (.epochHiWrite m v) s = .next { s with sdl := { s.sdl with epochHi := v } }) ∧
  (∀ m v s, m.toNat ≠ 9 → ∃ t, exec (.epochLoWrite m v) s = .next t ∧ epochBits t = v.toNat + 2 ^ 32 * s.sdl.epochHi.toNat ∧
      t.fld SDL_EPOCH_CTL F_SDL_EPOCH_CTL_ORIGIN = 1 ∧ t.sdl = s.sdl ∧
      SameRegs (fun k => k = SDL_EPOCH_LO.key ∨ k = SDL_EPOCH_HI.key ∨ k = SDL_EPOCH_CTL.key) s t ∧ SameMemory s t) ∧
  (∀ m c v s, m.toNat ≠ 9 → (∃ t, exec (.compareWrite m c false v) s = .next t ∧ tget 0 t.sdl.cmpHi c.toNat = v ∧ t.regs = s.regs) ∧
      ∃ t, exec (.compareWrite m c true v) s = .next t ∧ cmpValue c.toNat t = v.toNat + 2 ^ 32 * (tget 0 s.sdl.cmpHi c.toNat).toNat ∧
        SameRegs (fun k => k = (SDL_CMP_LO c.toNat).key ∨ k = (SDL_CMP_HI c.toNat).key ∨ k = (SDL_CMP_CTL c.toNat).key) s t) ∧
  (∀ c s, s.fld (SDL_CMP_CTL c.toNat) F_SDL_CMP_CTL_ARM = 1 → cmpValue c.toNat s ≤ s.sdl.now → ∃ t, exec (.timerCompare c) s = .next t ∧
      t.fld (SDL_CMP_CTL c.toNat) F_SDL_CMP_CTL_PENDING = 1 ∧ SameRegs (fun k => k = (SDL_CMP_CTL c.toNat).key) s t) ∧
  (∀ c s, (s.fld (SDL_CMP_CTL c.toNat) F_SDL_CMP_CTL_ARM = 0 ∨ s.sdl.now < cmpValue c.toNat s) → exec (.timerCompare c) s = .next s) ∧
  (∀ k mv, 1 ≤ k → k ≤ 14 → (binRail mv = k ↔ 10800 + 200 * k ≤ mv ∧ mv < 11000 + 200 * k) ∧ (binRail mv = 0 ↔ mv < 11000) ∧ (binRail mv = 15 ↔ 13800 ≤ mv) ∧
      (binUrgent mv = k ↔ 2 ^ (k + 3) ≤ mv ∧ mv < 2 ^ (k + 4)) ∧ (binTj mv = k ↔ 45 + 5 * k ≤ mv ∧ mv < 50 + 5 * k) ∧ (binPool mv = k ↔ 32 * k ≤ mv ∧ mv < 32 * k + 32) ∧
      (binSeek mv = k ↔ 64 * k ≤ mv ∧ mv < 64 * k + 64)) ∧
  (∀ (n : Nat) s, n < 2 ^ 31 → s.ctr (ICE_HIST 5 (binRail n)) + 1 < 2 ^ 48 - 1 → toSigned 32 (s.rd (ICE_EXT_MIN 1)).toNat ≤ n → (n : Int) ≤ toSigned 32 (s.rd (ICE_EXT_MAX 1)).toNat →
      ∃ t, exec (.histogramSample .rail n) s = .next t ∧ t.ctr (ICE_HIST 5 (binRail n)) = s.ctr (ICE_HIST 5 (binRail n)) + 1 ∧ t.regs = s.regs) ∧
  (∀ (x : Int) s, -2 ^ 31 ≤ x → x < 2 ^ 31 → toSigned 32 (s.rd (ICE_EXT_MIN 6)).toNat ≤ toSigned 32 (s.rd (ICE_EXT_MAX 6)).toNat → x < toSigned 32 (s.rd (ICE_EXT_MIN 6)).toNat →
      ∃ t, exec (.histogramSample .frontEnd x) s = .next t ∧ toSigned 32 (t.rd (ICE_EXT_MIN 6)).toNat = x ∧ t.rd (ICE_EXT_MAX 6) = s.rd (ICE_EXT_MAX 6) ∧
        (t.rd (ICE_EXT_T 6 0)).toNat + 2 ^ 32 * (t.rd (ICE_EXT_T 6 1)).toNat = s.sdl.now % 2 ^ 64 ∧ t.rd (ICE_EXT_T 6 2) = s.rd (ICE_EXT_T 6 2) ∧ t.ctrs = s.ctrs) ∧
  (∀ m ix v s, m.toNat ≠ 9 → ∃ t, exec (.foldAdd m ix v) s = .next t ∧ t.ctr (ICE_FOLD_SUM ix.toNat) = satAdd 48 (s.ctr (ICE_FOLD_SUM ix.toNat)) v.toNat ∧
      SameCtrs (fun k => k = ICE_FOLD_SUM ix.toNat) s t ∧ t.regs = s.regs ∧ SameMemory s t) ∧
  (∀ m c lo ix v s, m.toNat = 9 → (∃ t, exec (.epochLoWrite m v) s = .next t ∧ Denied s t ∧ t.sdl = s.sdl ∧ SameRegs (fun k => k = PWR_DENIED_WRITES.key) s t) ∧
      (∃ t, exec (.compareWrite m c lo v) s = .next t ∧ Denied s t ∧ t.sdl = s.sdl) ∧ (∃ t, exec (.epochHiWrite m v) s = .next t ∧ Denied s t ∧ t.sdl = s.sdl) ∧
      ∃ t, exec (.foldAdd m ix v) s = .next t ∧ Denied s t ∧ t.ctrs = s.ctrs)

/-- R468, R470–R472, R475, R476: snapshots and the clear. -/
def Obligations.SnapshotsClear : Prop :=
  (∀ r i s, r.toNat ∈ s.ice.due → s.ice.bufs.length < 2 → i < 512 → ∃ t, exec (.snapshotCapture r) s = .next t ∧ t.ice.bufs = s.ice.bufs ++ [iceTake r.toNat s] ∧ t.ice.first = false ∧ r.toNat ∉ t.ice.due ∧
      t.rd (ICE_EVT_INTERVAL i) = 0 ∧ t.ctrs = s.ctrs ∧ t.fld ICE_STATE F_ICE_STATE_PENDING = s.ice.bufs.length + 1 ∧ t.rd ICE_SKIPPED = s.rd ICE_SKIPPED ∧ SameMemory s t) ∧
  (∀ r s, r.toNat ∉ s.ice.due → exec (.snapshotCapture r) s = .next s) ∧
  (∀ r a b s, r.toNat ∈ s.ice.due → s.ice.bufs = [a, b] → ∃ t, exec (.snapshotCapture r) s = .next t ∧ t.ice.bufs.head? = some a ∧ t.ice.bufs.length = 2 ∧
      (t.ice.bufs.getLast?).map (fun c => (c.time, c.skipped, c.reason)) = some (s.sdl.now, b.skipped + 1, b.reason) ∧
      (t.rd ICE_SKIPPED).toNat = satAdd 32 (s.rd ICE_SKIPPED).toNat 1 ∧ Counted 0x8102 s t ∧ SameMemory s t) ∧
  (∀ f s, iceCanWrite s = false → ∃ t, exec (.snapshotWrite f) s = .next t ∧ t.ice = s.ice ∧ t.fld ICE_STATE F_ICE_STATE_NVS_WAIT = b2n (!s.ice.bufs.isEmpty) ∧
      SameRegs (fun k => k = ICE_STATE.key) s t ∧ SameMemory s t) ∧
  (∀ c r s, iceCanWrite s = true → s.ice.bufs = c :: r → s.fld ICE_STATE F_ICE_STATE_HEAD % 256 ≠ 0 → nvBlank s (slotOff (s.fld ICE_STATE F_ICE_STATE_HEAD)) 1024 = true →
      (∃ t, exec (.snapshotWrite false) s = .next t ∧ t.ice.bufs = r ∧ t.rd ICE_SLOT_SEQ = s.rd ICE_SLOT_SEQ + 1 ∧ Counted 0x8101 s t ∧ t.mem = s.mem ∧
        t.fld ICE_STATE F_ICE_STATE_HEAD = (s.fld ICE_STATE F_ICE_STATE_HEAD + 1) % 2048 ∧
        t.rdNvs (slotOff (s.fld ICE_STATE F_ICE_STATE_HEAD)) 12 = (slotBytes ((s.rd ICE_SLOT_SEQ).toNat + 1) c).take 12) ∧
      ∃ t, exec (.snapshotWrite true) s = .next t ∧ t.ice.bufs = s.ice.bufs ∧ Counted 0x8106 s t ∧ t.rd ICE_SLOT_SEQ = s.rd ICE_SLOT_SEQ ∧
        t.fld ICE_STATE F_ICE_STATE_HEAD = (s.fld ICE_STATE F_ICE_STATE_HEAD + 1) % 2048 ∧ SameMemory s t) ∧
  (∀ m s, s.ice.tokens = [] → ∃ t, exec (.icehouseClear m) s = .next t ∧ Denied s t ∧ t.ice = s.ice ∧ SameRegs (fun k => k = PWR_DENIED_WRITES.key) s t ∧ SameMemory s t) ∧
  (∀ m ch q r h b e i s, m.toNat ≠ 9 → s.ice.tokens = (ch, q) :: r → s.ice.erase = none → ReplyRoom ch 1 2 s → bankErase 0 s = none → s.nvs.jold = false → h < 6 → b < 16 → e < 8 → i < 32 →
      ∃ t, exec (.icehouseClear m) s = .next t ∧ t.ice.tokens = r ∧ Replied ch 1 8 q 0 [] s t ∧ t.ctr (ICE_HIST h b) = 0 ∧ t.ctr (ICE_FOLD_SUM i) = 0 ∧
        t.rd (ICE_EXT_MIN e) = 0x7FFFFFFF ∧ t.rd (ICE_EXT_MAX e) = 0x80000000 ∧ t.rd ICE_SAT = 0 ∧ t.rd ICE_SKIPPED = 0 ∧ t.rd ICE_CLEAR_COUNT = s.rd ICE_CLEAR_COUNT + 1 ∧
        t.ctr (ICE_EVT_COUNT (evtIndex 0x8104)) = 1 ∧ t.fld ICE_STATE F_ICE_STATE_CLEARING = 1 ∧ t.ice.erase = some 0 ∧ nvIndet 96 t = true ∧
        (t.ice.bufs.head?).map (fun c => (c.reason, c.time)) = some (1, s.sdl.now)) ∧
  (∀ ch seq p s, Serves ch s → s.domOn 105 = true → s.sec.verify = none → p.length = 17 → ReplyRoom ch.toNat 1 3 s →
      (s.ice.erase.isSome = true → ∃ t, exec (.iceClear ch seq p) s = .next t ∧ Replied ch.toNat 1 8 seq.toNat 3 [1] s t ∧ t.ice = s.ice) ∧
      (s.ice.erase = none → s.domOn 104 = false → ∃ t, exec (.iceClear ch seq p) s = .next t ∧ Replied ch.toNat 1 8 seq.toNat 3 [2] s t ∧ t.ice = s.ice) ∧
      (s.ice.erase = none → s.domOn 104 = true → tokenGood p s = false → ∃ t, exec (.iceClear ch seq p) s = .next t ∧ Replied ch.toNat 1 8 seq.toNat 5 [] s t ∧
        Counted 0x8103 s t ∧ t.ice = s.ice) ∧
      (s.ice.erase = none → s.domOn 104 = true → tokenGood p s = true → ∃ t, exec (.iceClear ch seq p) s = .next t ∧ t.ice.tokens = s.ice.tokens ++ [(ch.toNat, seq.toNat)] ∧
        t.ksk = s.ksk ∧ t.regs = s.regs))

/-- R480, R483–R485, R487–R489: the security engine. -/
def Obligations.SecurityEngine : Prop :=
  (∀ m s, m.toNat = 9 → ∃ t, exec (.imageVerify m) s = .next t ∧ Denied s t ∧ t.sec = s.sec ∧ SameRegs (fun k => k = PWR_DENIED_WRITES.key) s t) ∧
  (∀ m v s, m.toNat ≠ 9 → s.domOn 105 = false → ∃ t, exec (.measurementExtend m v) s = .next t ∧ BadAccess s t ∧ t.sec = s.sec ∧ SameMemory s t) ∧
  (∀ m s, m.toNat ≠ 9 → s.domOn 105 = true → s.sec.verify.isSome = true → ∃ t, exec (.imageVerify m) s = .next t ∧ Denied s t ∧ t.sec = s.sec) ∧
  (∀ m s, m.toNat ≠ 9 → s.domOn 105 = true → s.sec.verify = none → ∃ t, exec (.imageVerify m) s = .next t ∧ t.fld SEC_VERIFY_CTL F_SEC_VERIFY_CTL_BUSY = 1 ∧
      t.fld SEC_VERIFY_CTL F_SEC_VERIFY_CTL_RESULT = 0 ∧ t.sec.verify = some ((s.rd SEC_VERIFY_LO).toNat + 2 ^ 32 * s.fld SEC_VERIFY_HI F_SEC_VERIFY_HI_ADDR_HI) ∧ SameMemory s t) ∧
  (∀ a s, s.sec.verify = some a → s.sec.waits = [] → (imgGood a s = true → ∃ t, exec .imageVerifyEnd s = .next t ∧ t.fld SEC_VERIFY_CTL F_SEC_VERIFY_CTL_BUSY = 0 ∧
        t.fld SEC_VERIFY_CTL F_SEC_VERIFY_CTL_RESULT = 1 ∧ t.rd SEC_VERIFY_DIGEST = bytesWord (imageDigest (imgAt a s)) 0 ∧ t.ctrs = s.ctrs ∧ t.sec.verify = none) ∧
      (imgGood a s = false → ∃ t, exec .imageVerifyEnd s = .next t ∧ t.fld SEC_VERIFY_CTL F_SEC_VERIFY_CTL_BUSY = 0 ∧
        t.fld SEC_VERIFY_CTL F_SEC_VERIFY_CTL_RESULT = 2 ∧ t.rd SEC_VERIFY_DIGEST = s.rd SEC_VERIFY_DIGEST ∧ Counted 0xB001 s t ∧ t.sec.verify = none)) ∧
  (∀ m v s, m.toNat ≠ 9 → s.domOn 105 = true → fget v F_SEC_EXTEND_CTL_INDEX < 6 → ∃ t, exec (.measurementExtend m v) s = .next t ∧ Denied s t ∧
      SameRegs (fun k => k = PWR_DENIED_WRITES.key) s t ∧ t.sec = s.sec) ∧
  (∀ m v j w s, m.toNat ≠ 9 → s.domOn 105 = true → 6 ≤ fget v F_SEC_EXTEND_CTL_INDEX → w < 16 → j < 8 → ∃ t, exec (.measurementExtend m v) s = .next t ∧
      t.rd (SEC_MEAS (fget v F_SEC_EXTEND_CTL_INDEX) w) = bytesWord (Config.sha512 (meas (fget v F_SEC_EXTEND_CTL_INDEX) s ++ getWords SEC_EXTEND_DATA 16 s)) w ∧
      (j ≠ fget v F_SEC_EXTEND_CTL_INDEX → t.rd (SEC_MEAS j w) = s.rd (SEC_MEAS j w)) ∧
      t.fld SEC_MLOG_COUNT F_SEC_MLOG_COUNT_COUNT = (if s.fld SEC_MLOG_COUNT F_SEC_MLOG_COUNT_COUNT < 64 then s.fld SEC_MLOG_COUNT F_SEC_MLOG_COUNT_COUNT + 1
        else s.fld SEC_MLOG_COUNT F_SEC_MLOG_COUNT_COUNT) ∧
      (s.fld SEC_MLOG_COUNT F_SEC_MLOG_COUNT_COUNT < 64 → t.rd (SEC_MLOG (s.fld SEC_MLOG_COUNT F_SEC_MLOG_COUNT_COUNT) 0) =
        BitVec.ofNat 32 (m.toNat * 2 ^ 24 + 4 * 16 + fget v F_SEC_EXTEND_CTL_INDEX)) ∧
      (64 ≤ s.fld SEC_MLOG_COUNT F_SEC_MLOG_COUNT_COUNT → t.fld SEC_MLOG_COUNT F_SEC_MLOG_COUNT_OVERFLOW = 1) ∧ SameMemory s t) ∧
  (∀ m s, m.toNat ≠ 9 → s.domOn 105 = true → shedOpen 2 s = false → ∃ t, exec (.keyEnroll m) s = .next t ∧ Denied s t ∧ t.sec = s.sec ∧ t.rd SEC_FUSE = s.rd SEC_FUSE) ∧
  (∀ m k s, m.toNat ≠ 9 → s.domOn 105 = true → shedOpen 2 s = true → s.sec.custKey = some k → ∃ t, exec (.keyEnroll m) s = .next t ∧
      t.fld SEC_ENROLL_CTL F_SEC_ENROLL_CTL_RESULT = 3 ∧ t.sec = s.sec ∧ SameRegs (fun k => k = SEC_ENROLL_CTL.key) s t ∧ t.ctrs = s.ctrs) ∧
  (∀ m s, m.toNat ≠ 9 → s.domOn 105 = true → shedOpen 2 s = true → s.sec.custKey = none →
      (Config.ed25519Verify (getWords SEC_ENROLL_KEY 8 s) (txtEnroll ++ deviceId ++ getWords SEC_ENROLL_KEY 8 s) (getWords SEC_ENROLL_SIG 16 s) = true →
        ∃ t, exec (.keyEnroll m) s = .next t ∧ t.fld SEC_ENROLL_CTL F_SEC_ENROLL_CTL_RESULT = 1 ∧ t.sec.custKey = some (getWords SEC_ENROLL_KEY 8 s) ∧
          t.fld SEC_FUSE F_SEC_FUSE_CUST_KEY = 1 ∧ Counted 0xB006 s t) ∧
      (Config.ed25519Verify (getWords SEC_ENROLL_KEY 8 s) (txtEnroll ++ deviceId ++ getWords SEC_ENROLL_KEY 8 s) (getWords SEC_ENROLL_SIG 16 s) = false →
        ∃ t, exec (.keyEnroll m) s = .next t ∧ t.fld SEC_ENROLL_CTL F_SEC_ENROLL_CTL_RESULT = 2 ∧ t.sec = s.sec ∧ t.rd SEC_FUSE = s.rd SEC_FUSE ∧ t.ctrs = s.ctrs))

/-- R492–R495: the Potting Shed. -/
def Obligations.PottingShed : Prop :=
  (∀ ch seq sc s, Serves ch s → s.domOn 105 = true → 32 ≤ sc.toNat → ReplyRoom ch.toNat 1 2 s → ∃ t, exec (.shedChallenge ch seq [sc]) s = .next t ∧
      Replied ch.toNat 1 9 seq.toNat 2 [] s t ∧ t.sec = s.sec ∧ t.rd SEC_SHED = s.rd SEC_SHED) ∧
  (∀ ch seq sc s, Serves ch s → s.domOn 105 = true → sc.toNat < 32 → s.fld SEC_SHED F_SEC_SHED_FAILS = 4 → ReplyRoom ch.toNat 1 3 s →
      ∃ t, exec (.shedChallenge ch seq [sc]) s = .next t ∧ Replied ch.toNat 1 9 seq.toNat 3 [1] s t ∧ t.sec = s.sec ∧ t.rd SEC_SHED = s.rd SEC_SHED) ∧
  (∀ ch seq sc s, Serves ch s → s.domOn 105 = true → sc.toNat < 32 → s.fld SEC_SHED F_SEC_SHED_FAILS < 4 → ReplyRoom ch.toNat 1 10 s →
      ∃ t, exec (.shedChallenge ch seq [sc]) s = .next t ∧ t.sec.nonce = some ((drawBytes 32 s).1, sc.toNat) ∧ t.freeCtr = s.freeCtr + 32 ∧
        Replied ch.toNat 1 9 seq.toNat 0 (bytesWords 8 (drawBytes 32 s).1) s t ∧ t.fld SEC_SHED F_SEC_SHED_NONCE_HELD = 1 ∧
        t.fld SEC_SHED F_SEC_SHED_SCOPE = s.fld SEC_SHED F_SEC_SHED_SCOPE) ∧
  (∀ ch seq p n sc s, Serves ch s → s.domOn 105 = true → s.sec.verify = none → p.length = (if s.sec.custKey.isSome then 33 else 17) → s.sec.nonce = some (n, sc) →
      sc < 32 → ReplyRoom ch.toNat 1 2 s → (shedAccept p s = some (shedMsg n sc, sc) → ∃ t, exec (.shedResponse ch seq p) s = .next t ∧
        t.fld SEC_SHED F_SEC_SHED_SCOPE = (s.fld SEC_SHED F_SEC_SHED_SCOPE ||| sc) ∧ t.fld SEC_SHED F_SEC_SHED_FAILS = 0 ∧ t.sec.nonce = none ∧
        t.sec.opened = s.sec.opened ++ [shedMsg n sc] ∧ Counted 0xB003 s t ∧ t.rd (SEC_MEAS 5 0) = bytesWord (Config.sha512 (meas 5 s ++ Config.sha512 (shedMsg n sc))) 0 ∧
        Replied ch.toNat 1 10 seq.toNat 0 [] s t) ∧
      (shedAccept p s = none → ∃ t, exec (.shedResponse ch seq p) s = .next t ∧ t.fld SEC_SHED F_SEC_SHED_SCOPE = s.fld SEC_SHED F_SEC_SHED_SCOPE ∧
        t.fld SEC_SHED F_SEC_SHED_FAILS = min 4 (s.fld SEC_SHED F_SEC_SHED_FAILS + 1) ∧ t.sec.nonce = none ∧ t.fld SEC_SHED F_SEC_SHED_NONCE_HELD = 0 ∧
        Counted 0xB004 s t ∧ Replied ch.toNat 1 10 seq.toNat 5 [] s t ∧ t.rd (SEC_MEAS 5 0) = s.rd (SEC_MEAS 5 0))) ∧
  (∀ ch seq p s, Serves ch s → s.domOn 105 = true → s.sec.verify = none → p.length = (if s.sec.custKey.isSome then 33 else 17) → s.sec.nonce = none →
      ReplyRoom ch.toNat 1 2 s → ∃ t, exec (.shedResponse ch seq p) s = .next t ∧ t.fld SEC_SHED F_SEC_SHED_SCOPE = s.fld SEC_SHED F_SEC_SHED_SCOPE ∧
        t.fld SEC_SHED F_SEC_SHED_FAILS = min 4 (s.fld SEC_SHED F_SEC_SHED_FAILS + 1) ∧ Replied ch.toNat 1 10 seq.toNat 5 [] s t) ∧
  (∀ p n sc s, s.sec.nonce = some (n, sc) → (shedAccept p s = some (shedMsg n sc, sc) ↔ (p.headD 0).toNat = sc ∧
      Config.ed25519Verify s.sec.bootPk (n ++ deviceId ++ leBytes sc 4) (wordBytes ((p.drop 1).take 16)) = true ∧
      (s.sec.custKey).all (fun k => Config.ed25519Verify k (n ++ deviceId ++ leBytes sc 4) (wordBytes ((p.drop 17).take 16))) = true)) ∧
  (∀ ch seq p s, Serves ch s → s.domOn 105 = false → (∃ t, exec (.shedChallenge ch seq p) s = .next t ∧ t.ksk = s.ksk ∧ t.regs = s.regs ∧
      t.sec.waits = s.sec.waits ++ [(ch.toNat, seq.toNat, 9, p)]) ∧
      (∃ t, exec (.iceClear ch seq p) s = .next t ∧ t.ksk = s.ksk ∧ t.ice = s.ice ∧ t.sec.waits = s.sec.waits ++ [(ch.toNat, seq.toNat, 8, p)]) ∧
      ∃ t, exec (.shedResponse ch seq p) s = .next t ∧ t.ksk = s.ksk ∧ t.regs = s.regs ∧ t.sec.waits = s.sec.waits ++ [(ch.toNat, seq.toNat, 10, p)]) ∧
  (∀ m s, m.toNat ≠ 9 → s.domOn 105 = true → ∃ t, exec (.shedClose m) s = .next t ∧ t.fld SEC_SHED F_SEC_SHED_SCOPE = 0 ∧ Counted 0xB005 s t ∧ t.sec.opened = [] ∧
      t.sec.nonce = s.sec.nonce ∧ SameMemory s t) ∧
  (∀ s, ∃ t, exec .nonceExpired s = .next t ∧ t.sec.nonce = none ∧ t.fld SEC_SHED F_SEC_SHED_NONCE_HELD = 0 ∧ t.fld SEC_SHED F_SEC_SHED_SCOPE = s.fld SEC_SHED F_SEC_SHED_SCOPE ∧
      SameRegs (fun k => k = SEC_SHED.key) s t ∧ SameMemory s t)

/-- R483, R486, R490, R491: SPDM requests; message layouts are PRESUMED from SPDM 1.2 (log entry on SPDM formats). -/
def Obligations.SpdmRequests : Prop :=
  (∀ b s, s.sec.req = some b → (s.domOn 105 = false ∨ s.sec.verify.isSome = true) → exec .spdmGetVersion s = .next s ∧ exec .spdmGetCapabilities s = .next s ∧
      exec .spdmNegotiateAlgorithms s = .next s ∧ exec .spdmGetDigests s = .next s ∧ exec .spdmGetCertificate s = .next s ∧ exec .spdmChallenge s = .next s ∧
      exec .spdmGetMeasurements s = .next s) ∧
  (∀ b s, s.sec.req = some b → reqByte b 1 = 0x84 → s.domOn 105 = true → s.sec.verify = none → ∃ t, exec .spdmGetVersion s = .next t ∧ t.sec.stage = 1 ∧ t.sec.req = none ∧
      t.sec.rsp = some (ascii [0x10, 0x04, 0, 0, 0, 1, 0x00, 0x12]) ∧ t.sec.tCert = [] ∧ t.sec.tMeas = [] ∧ t.regs = s.regs ∧ SameMemory s t) ∧
  (∀ b s, s.sec.req = some b → reqByte b 1 = 0xE1 → s.domOn 105 = true → s.sec.verify = none → s.sec.stage ≠ 1 → ∃ t, exec .spdmGetCapabilities s = .next t ∧
      t.sec.rsp = some (spdmError eUnexpected) ∧ t.sec.stage = s.sec.stage) ∧
  (∀ b s, s.sec.req = some b → reqByte b 1 = 0xE1 → reqByte b 0 = 0x12 → s.domOn 105 = true → s.sec.verify = none → s.sec.stage = 1 → ∃ t, exec .spdmGetCapabilities s = .next t ∧
      t.sec.stage = 2 ∧ (t.sec.rsp).map (fun r => ((r.getD 1 0).toNat, (r.getD 5 0).toNat)) = some (0x61, 17) ∧ t.regs = s.regs) ∧
  (∀ b s, s.sec.req = some b → reqByte b 1 = 0xE3 → reqByte b 0 = 0x12 → s.domOn 105 = true → s.sec.verify = none → s.sec.stage = 2 →
      ((reqByte b 6).testBit 0 = true → (imgField b 8 4).testBit 10 = true → (imgField b 12 4).testBit 2 = true → ∃ t, exec .spdmNegotiateAlgorithms s = .next t ∧
        t.sec.stage = 3 ∧ (t.sec.rsp).map (fun r => (r.getD 1 0).toNat) = some 0x63) ∧
      ((imgField b 8 4).testBit 10 = false → ∃ t, exec .spdmNegotiateAlgorithms s = .next t ∧ t.sec.stage = 2 ∧ t.sec.rsp = some (spdmError eInvalid))) ∧
  (∀ b s, s.sec.req = some b → reqByte b 1 = 0x81 → reqByte b 0 = 0x12 → s.domOn 105 = true → s.sec.verify = none → 3 ≤ s.sec.stage → ∃ t, exec .spdmGetDigests s = .next t ∧
      t.sec.rsp = some (spdmMsg 0x01 0 1 (Config.sha512 (certChain s))) ∧ t.sec.stage = s.sec.stage ∧ t.regs = s.regs) ∧
  (∀ b s, s.sec.req = some b → reqByte b 1 = 0x82 → reqByte b 0 = 0x12 → s.domOn 105 = true → s.sec.verify = none → 3 ≤ s.sec.stage →
      (reqByte b 2 % 16 ≠ 0 → ∃ t, exec .spdmGetCertificate s = .next t ∧ t.sec.rsp = some (spdmError eInvalid)) ∧
      (reqByte b 2 % 16 = 0 → imgField b 4 2 < (certChain s).length → ∃ t, exec .spdmGetCertificate s = .next t ∧
        (t.sec.rsp).map (fun r => r.drop 8) = some ((((certChain s).drop (imgField b 4 2)).take (imgField b 6 2)).take 4088))) ∧
  (∀ b s, s.sec.req = some b → reqByte b 1 = 0x83 → reqByte b 0 = 0x12 → s.domOn 105 = true → s.sec.verify = none → 3 ≤ s.sec.stage →
      (reqByte b 2 % 16 ≠ 0 → ∃ t, exec .spdmChallenge s = .next t ∧ t.sec.rsp = some (spdmError eInvalid)) ∧
      (reqByte b 2 % 16 = 0 → ∃ t, exec .spdmChallenge s = .next t ∧ (t.sec.rsp).map (fun r => r.take 4) = some (ascii [0x12, 0x03, 0, 1]) ∧ t.sec.tCert = [] ∧
        t.freeCtr = s.freeCtr + 32 ∧ t.regs = s.regs)) ∧
  (∀ b s, s.sec.req = some b → reqByte b 1 = 0xE0 → reqByte b 0 = 0x12 → s.domOn 105 = true → s.sec.verify = none → 3 ≤ s.sec.stage →
      (8 < reqByte b 3 → reqByte b 3 ≠ 0xFF → ∃ t, exec .spdmGetMeasurements s = .next t ∧ t.sec.rsp = some (spdmError eInvalid)) ∧
      ((reqByte b 3 ≤ 8 ∨ reqByte b 3 = 0xFF) → ∃ t, exec .spdmGetMeasurements s = .next t ∧
        (t.sec.rsp).map (fun r => ((r.getD 1 0).toNat, (r.getD 2 0).toNat, (r.getD 4 0).toNat)) =
          some (0x60, if reqByte b 3 = 0 then 8 else 0, if reqByte b 3 = 0 then 0 else if reqByte b 3 = 0xFF then 8 else 1) ∧
        ((reqByte b 2).testBit 0 = true → t.sec.tMeas = []) ∧ t.regs = s.regs)) ∧
  (∀ s, s.sec.req = none → exec .spdmGetVersion s = .next s ∧ exec .spdmGetCapabilities s = .next s ∧ exec .spdmGetMeasurements s = .next s)

/-- R362, R497, R498, R501, R502, R504, R506: domains, clocks, actuator and core resets. -/
def Obligations.DomainsClocks : Prop :=
  (∀ m d s, m.toNat = 9 → (∃ t, exec (.domainOn m d) s = .next t ∧ Denied s t ∧ t.plat = s.plat ∧ SameRegs (fun k => k = PWR_DENIED_WRITES.key) s t) ∧
      (∃ t, exec (.domainOff m d) s = .next t ∧ Denied s t ∧ t.plat = s.plat) ∧ ∃ t, exec (.fabricFreqChange m 3) s = .next t ∧ Denied s t ∧ t.ctrs = s.ctrs) ∧
  (∀ m d s, m.toNat ≠ 9 → (s.fld PWR_DOM_RESULT F_PWR_DOM_RESULT_BUSY = 1 ∨ 105 < d.toNat) → (∃ t, exec (.domainOn m d) s = .next t ∧ Denied s t ∧ t.plat = s.plat ∧
        SameRegs (fun k => k = PWR_DENIED_WRITES.key) s t) ∧ ∃ t, exec (.domainOff m d) s = .next t ∧ Denied s t ∧ t.plat = s.plat) ∧
  (∀ m d s, m.toNat ≠ 9 → s.fld PWR_DOM_RESULT F_PWR_DOM_RESULT_BUSY = 0 → 86 ≤ d.toNat → d.toNat ≤ 102 →
      (∃ t, exec (.domainOn m d) s = .next t ∧ t.fld PWR_DOM_RESULT F_PWR_DOM_RESULT_RESULT = 2 ∧ t.fld PWR_DOM_RESULT F_PWR_DOM_RESULT_DONE = 1 ∧ t.plat = s.plat) ∧
      ∃ t, exec (.domainOff m d) s = .next t ∧ t.fld PWR_DOM_RESULT F_PWR_DOM_RESULT_RESULT = 2 ∧ t.fld PWR_DOM_RESULT F_PWR_DOM_RESULT_DONE = 1 ∧ t.plat = s.plat) ∧
  (∀ m d s, m.toNat ≠ 9 → s.fld PWR_DOM_RESULT F_PWR_DOM_RESULT_BUSY = 0 → (d.toNat < 86 ∨ 103 ≤ d.toNat ∧ d.toNat ≤ 105) → s.domOn d.toNat = true →
      ∃ t, exec (.domainOn m d) s = .next t ∧ t.fld PWR_DOM_RESULT F_PWR_DOM_RESULT_RESULT = 0 ∧ t.fld PWR_DOM_RESULT F_PWR_DOM_RESULT_DONE = 1 ∧ t.plat = s.plat ∧ t.ctrs = s.ctrs) ∧
  (∀ m d s, m.toNat ≠ 9 → s.fld PWR_DOM_RESULT F_PWR_DOM_RESULT_BUSY = 0 → (d.toNat < 86 ∨ 103 ≤ d.toNat ∧ d.toNat ≤ 105) → s.domOn d.toNat = false →
      (∃ t, exec (.domainOn m d) s = .next t ∧ t.fld PWR_DOM_RESULT F_PWR_DOM_RESULT_BUSY = 1 ∧ t.fld PWR_DOM_RESULT F_PWR_DOM_RESULT_DONE = 0 ∧
        t.fld PWR_DOM_RESULT F_PWR_DOM_RESULT_DOMAIN = d.toNat ∧ t.plat.domPend = some d.toNat ∧ t.domOn d.toNat = false) ∧
      ∃ t, exec (.domainOff m d) s = .next t ∧ t.fld PWR_DOM_RESULT F_PWR_DOM_RESULT_RESULT = 0 ∧ t.fld PWR_DOM_RESULT F_PWR_DOM_RESULT_DONE = 1 ∧ t.plat = s.plat) ∧
  (∀ m d s, m.toNat ≠ 9 → s.fld PWR_DOM_RESULT F_PWR_DOM_RESULT_BUSY = 0 → 64 ≤ d.toNat → d.toNat < 72 → s.domOn d.toNat = true →
      ∃ t, exec (.domainOff m d) s = .next t ∧ t.fld PWR_DOM_RESULT F_PWR_DOM_RESULT_RESULT = 1 ∧ Counted 0x8008 s t ∧ t.plat = s.plat) ∧
  (∀ m d s, m.toNat ≠ 9 → s.fld PWR_DOM_RESULT F_PWR_DOM_RESULT_BUSY = 0 → d.toNat < 64 → s.domOn d.toNat = true →
      ((loaded d.toNat s = true ∨ actRstBusy d.toNat s = true) → ∃ t, exec (.domainOff m d) s = .next t ∧ t.fld PWR_DOM_RESULT F_PWR_DOM_RESULT_RESULT = 1 ∧
        Counted 0x8008 s t ∧ t.plat = s.plat) ∧
      (loaded d.toNat s = false → actRstBusy d.toNat s = false → ∃ t, exec (.domainOff m d) s = .next t ∧ t.fld PWR_DOM_RESULT F_PWR_DOM_RESULT_RESULT = 0 ∧
        t.domOn d.toNat = false ∧ (∀ k, k < 106 → k ≠ d.toNat → t.domOn k = s.domOn k) ∧ t.ctrs = s.ctrs)) ∧
  (∀ m d s, m.toNat ≠ 9 → s.fld PWR_DOM_RESULT F_PWR_DOM_RESULT_BUSY = 0 → 72 ≤ d.toNat → d.toNat < 80 → s.domOn d.toNat = true →
      (m.toNat ≠ d.toNat - 72 → ∃ t, exec (.domainOff m d) s = .next t ∧ t.fld PWR_DOM_RESULT F_PWR_DOM_RESULT_RESULT = 1 ∧ Counted 0x8008 s t ∧ t.plat = s.plat) ∧
      (m.toNat = d.toNat - 72 → ∃ t, exec (.domainOff m d) s = .next t ∧ t.fld PWR_DOM_RESULT F_PWR_DOM_RESULT_RESULT = 0 ∧ t.domOn d.toNat = true ∧
        tget false t.plat.coreOffReq m.toNat = true)) ∧
  (∀ c s, tget false s.plat.coreOffReq c.toNat = true → ∃ t, exec (.coreWaitPowerOff c) s = .next t ∧ t.domOn (72 + c.toNat) = false ∧
      tget false t.plat.coreOffReq c.toNat = false ∧ t.regs = s.regs ∧ SameMemory s t) ∧
  (∀ c s, tget false s.plat.coreOffReq c.toNat = false → exec (.coreWaitPowerOff c) s = .next s) ∧
  (∀ d s, s.plat.domPend = some d → 64 ≤ d → d ≤ 105 → ∃ t, exec .domainOnComplete s = .next t ∧ t.domOn d = true ∧ t.plat.domPend = none ∧
      t.fld PWR_DOM_RESULT F_PWR_DOM_RESULT_BUSY = 0 ∧ t.fld PWR_DOM_RESULT F_PWR_DOM_RESULT_DONE = 1 ∧ t.fld PWR_DOM_RESULT F_PWR_DOM_RESULT_RESULT = 0) ∧
  (∀ d s, s.plat.domPend = some d → d < 64 → ∃ t, exec .domainOnComplete s = .next t ∧ t.domOn d = true ∧ t.plat.domPend = none ∧
      t.fld PWR_DOM_RESULT F_PWR_DOM_RESULT_RESULT = 0 ∧ (isolated d s = true → actState d t = 7)) ∧
  (∀ m f s, m.toNat ≠ 9 → (s.fld CLK_STATUS F_CLK_STATUS_FREQ_NOW ≠ f.toNat → ∃ t, exec (.fabricFreqChange m f) s = .next t ∧ t.fld CLK_FABRIC F_CLK_FABRIC_FREQ = f.toNat ∧
        t.fld CLK_STATUS F_CLK_STATUS_FREQ_NOW = f.toNat ∧ Counted 0x8108 s t ∧ SameMemory s t) ∧
      (s.fld CLK_STATUS F_CLK_STATUS_FREQ_NOW = f.toNat → ∃ t, exec (.fabricFreqChange m f) s = .next t ∧ t.fld CLK_FABRIC F_CLK_FABRIC_FREQ = f.toNat ∧ t.ctrs = s.ctrs)) ∧
  (∀ s, s.fld CLK_STATUS F_CLK_STATUS_REF_LOST = 0 → (∃ t, exec .referenceLost s = .next t ∧ t.fld CLK_STATUS F_CLK_STATUS_REF_LOST = 1 ∧
        t.fld CLK_STATUS F_CLK_STATUS_REF_LOST_STICKY = 1 ∧ Counted 0x800A s t ∧ SameMemory s t) ∧ exec .referenceRestored s = .next s) ∧
  (∀ s, s.fld CLK_STATUS F_CLK_STATUS_REF_LOST = 1 → (∃ t, exec .referenceRestored s = .next t ∧ t.fld CLK_STATUS F_CLK_STATUS_REF_LOST = 0 ∧
        t.fld CLK_STATUS F_CLK_STATUS_REF_LOST_STICKY = s.fld CLK_STATUS F_CLK_STATUS_REF_LOST_STICKY ∧ Counted 0x800B s t ∧ SameMemory s t) ∧ exec .referenceLost s = .next s) ∧
  (∀ m v s, m.toNat ≠ 9 → (actState (fget v F_PWR_ACT_RST_ACT) s = 7 → ∃ t, exec (.actuatorReset m v) s = .next t ∧
        t.fld PWR_ACT_RST_RESULT F_PWR_ACT_RST_RESULT_RESULT = 1 ∧ Denied s t ∧ t.plat = s.plat) ∧
      (actState (fget v F_PWR_ACT_RST_ACT) s ≠ 7 → isolated (fget v F_PWR_ACT_RST_ACT) s = false → graveLatched s = true → ∃ t, exec (.actuatorReset m v) s = .next t ∧
        t.fld PWR_ACT_RST_RESULT F_PWR_ACT_RST_RESULT_RESULT = 2 ∧ Denied s t ∧ t.plat = s.plat) ∧
      (actState (fget v F_PWR_ACT_RST_ACT) s ≠ 7 → isolated (fget v F_PWR_ACT_RST_ACT) s = false → graveLatched s = false → actRstBusy (fget v F_PWR_ACT_RST_ACT) s = true →
        ∃ t, exec (.actuatorReset m v) s = .next t ∧ t.fld PWR_ACT_RST_RESULT F_PWR_ACT_RST_RESULT_RESULT = 3 ∧ Denied s t ∧ t.plat = s.plat) ∧
      (actRstRefusal (fget v F_PWR_ACT_RST_ACT) s = none → ∃ t, exec (.actuatorReset m v) s = .next t ∧ t.fld PWR_ACT_RST_RESULT F_PWR_ACT_RST_RESULT_RESULT = 0 ∧
        actRstBusy (fget v F_PWR_ACT_RST_ACT) t = true ∧ t.fld (WCH_STATE (fget v F_PWR_ACT_RST_ACT)) F_WCH_STATE_WE = 0 ∧ SameMemory s t)) ∧
  (∀ m v j s, m.toNat ≠ 9 → j < 128 → ∃ t, exec (.coreReset m v) s = .next t ∧ t.fld PWR_CORE_RST F_PWR_CORE_RST_MASK = fget v F_PWR_CORE_RST_MASK ∧
      ((lockAt j s).held = true → (lockAt j s).owner < 8 → (fget v F_PWR_CORE_RST_MASK).testBit (lockAt j s).owner = true → (lockAt j t).held = false) ∧
      ((fget v F_PWR_CORE_RST_MASK).testBit (lockAt j s).owner = false → lockAt j t = lockAt j s) ∧ SameMemory s t)

/-- R307, R308, R313, R339, R453, R503, R507–R512: resets and start-up. -/
def Obligations.ResetsStartUp : Prop :=
  (∀ b p s, ∃ t, exec (.powerOn true b p) s = .next t ∧ t.fld PWR_BOOT F_PWR_BOOT_STAGE = 1 ∧ t.fld PWR_RESET_CAUSE F_PWR_RESET_CAUSE_POWER_ON = 1 ∧
      t.fld PWR_STRAPS F_PWR_STRAPS_SMBA = b.toNat ∧ t.fld PWR_STRAPS F_PWR_STRAPS_PCLK = b2n p ∧ t.mem = [] ∧ t.ctrs = [] ∧ t.hif.en = false ∧
      t.sec.custKey = s.sec.custKey ∧ t.plat.rst = .run) ∧
  (∀ b p s, ∃ t, exec (.powerOn false b p) s = .next t ∧ t.fld GH_ID F_GH_ID_RUNNING = 0 ∧ t.fld GH_GRAVE F_GH_GRAVE_LATCHED = 1 ∧ t.mem = []) ∧
  (∀ s, ∃ t, exec .gatehouseSupplyLost s = .next t ∧ t.plat.ghDown = true ∧ t.plat.doms = [] ∧ t.regs = [] ∧ t.ctrs = [] ∧ t.mem = [] ∧
      t.sec.custKey = s.sec.custKey) ∧
  (∀ n ok1 r s, s.plat.rst = .run → s.plat.ghDown = false → s.fld PWR_BOOT F_PWR_BOOT_RECOVERY = 0 →
      (s.fld PWR_BOOT F_PWR_BOOT_STAGE = 1 → s.fld GH_SUPPLY F_GH_SUPPLY_NOW = 0 → ∃ t, exec (.bootStageEnd n ok1 r) s = .next t ∧ t.fld PWR_BOOT F_PWR_BOOT_STAGE = 2 ∧ t.plat = s.plat ∧ t.pins.vid ≤ 10 ∧
        SameRegs (fun k => k = PWR_BOOT.key) s t) ∧
      (s.fld PWR_BOOT F_PWR_BOOT_STAGE = 1 → s.fld GH_SUPPLY F_GH_SUPPLY_NOW ≠ 0 → ∃ t, exec (.bootStageEnd n ok1 r) s = .next t ∧ t.fld PWR_BOOT F_PWR_BOOT_STAGE = 1 ∧ t.plat = s.plat ∧
        SameRegs (fun k => k = PWR_BOOT.key) s t) ∧
      (s.fld PWR_BOOT F_PWR_BOOT_STAGE = 2 → ∃ t, exec (.bootStageEnd n ok1 r) s = .next t ∧ t.fld PWR_BOOT F_PWR_BOOT_STAGE = 3 ∧
        [72, 80, 81, 82, 83, 84, 85, 103, 104, 105].all (fun d => t.domOn d) = true) ∧
      (s.fld PWR_BOOT F_PWR_BOOT_STAGE = 3 → ∃ t, exec (.bootStageEnd n ok1 r) s = .next t ∧ t.fld PWR_BOOT F_PWR_BOOT_STAGE = 4 ∧ [64, 65, 66, 67, 68, 69, 70, 71].all (fun d => t.domOn d) = true) ∧
      (s.fld PWR_BOOT F_PWR_BOOT_STAGE = 4 → ∃ t, exec (.bootStageEnd n ok1 r) s = .next t ∧ t.fld CLK_DRAM F_CLK_DRAM_TRIES = max 1 n.toNat ∧
        (ok1 = true → t.fld PWR_BOOT F_PWR_BOOT_STAGE = 5 ∧ t.fld CLK_DRAM F_CLK_DRAM_RATE = 4 - max 1 n.toNat ∧ t.fld BUF_CFG F_BUF_CFG_RANK1_PRESENT = r.toNat ∧
          (n.toNat = 2 → Counted 0x800C s t)) ∧
        (ok1 = false → t.fld PWR_BOOT F_PWR_BOOT_FAIL = 1 ∧ t.fld PWR_BOOT F_PWR_BOOT_RECOVERY = 1 ∧ t.hif.cfs = true ∧ Counted 0x800D s t)) ∧
      (s.fld PWR_BOOT F_PWR_BOOT_STAGE = 6 → ∃ t, exec (.bootStageEnd n ok1 r) s = .next t ∧ t.fld PWR_BOOT F_PWR_BOOT_STAGE = 7 ∧ t.plat = s.plat)) ∧
  (∀ k n ok1 r s, s.plat.rst = .run → s.plat.ghDown = false → s.fld PWR_BOOT F_PWR_BOOT_RECOVERY = 0 → s.fld PWR_BOOT F_PWR_BOOT_STAGE = 5 →
      ((bootOrder (romExtends s)).find? (fun k => imgGood (slotAddr k) (romExtends s)) = some k → ∃ t, exec (.bootStageEnd n ok1 r) s = .next t ∧
        t.fld PWR_BOOT F_PWR_BOOT_STAGE = 6 ∧ t.fld SEC_BOOT F_SEC_BOOT_RESULT = 1 ∧ t.fld CLK_FABRIC F_CLK_FABRIC_FREQ = 3 ∧
        [73, 74, 75, 76, 77, 78, 79].all (fun d => t.domOn d) = true) ∧
      ((bootOrder (romExtends s)).find? (fun k => imgGood (slotAddr k) (romExtends s)) = none → ∃ t, exec (.bootStageEnd n ok1 r) s = .next t ∧
        t.fld PWR_BOOT F_PWR_BOOT_FAIL = 2 ∧ t.fld PWR_BOOT F_PWR_BOOT_RECOVERY = 1 ∧ t.fld SEC_BOOT F_SEC_BOOT_RESULT = 3 ∧ Counted 0x800D s t ∧ Counted 0xB002 s t)) ∧
  (∀ n ok1 r s, (s.plat.rst ≠ .run ∨ s.fld PWR_BOOT F_PWR_BOOT_RECOVERY = 1) → exec (.bootStageEnd n ok1 r) s = .next s) ∧
  (∀ s, (s.plat.rst = .run → ∃ t, exec .sysRstNAssert s = .next t ∧ t.fld PWR_RESET_CAUSE F_PWR_RESET_CAUSE_SYS_RST = 1 ∧ t.mem = s.mem ∧
        (t.plat.rst = .held ∧ t.hif.en = false ∧ t.locks = [] ∧ t.rd PWR_BOOT = 0 ∨ t.plat.rst = .steps false)) ∧
      (∀ b, s.plat.rst = .steps b → ∃ t, exec .sysRstNAssert s = .next t ∧ t.plat = { s.plat with rst := .steps false } ∧
        t.fld PWR_RESET_CAUSE F_PWR_RESET_CAUSE_SYS_RST = 1 ∧ SameRegs (fun k => k = PWR_RESET_CAUSE.key) s t ∧ SameMemory s t) ∧
      (s.plat.rst = .held → exec .sysRstNAssert s = .next s)) ∧
  (∀ b p s, (s.plat.rst = .held → ∃ t, exec (.sysRstNRelease b p) s = .next t ∧ t.fld PWR_BOOT F_PWR_BOOT_STAGE = (if s.fld GH_SUPPLY F_GH_SUPPLY_NOW = 0 then 2 else 1) ∧ t.plat.rst = .run ∧
        t.fld PWR_STRAPS F_PWR_STRAPS_SMBA = b.toNat ∧ t.mem = s.mem) ∧
      (∀ x, s.plat.rst = .steps x → ∃ t, exec (.sysRstNRelease b p) s = .next t ∧ t.plat.rst = .steps true ∧ t.fld PWR_STRAPS F_PWR_STRAPS_SMBA = b.toNat ∧
        SameRegs (fun k => k = PWR_STRAPS.key) s t) ∧ (s.plat.rst = .run → exec (.sysRstNRelease b p) s = .next s)) ∧
  (∀ m v s, m.toNat ≠ 9 → fget v F_PWR_CHIP_RST_KEY ≠ 0xA5C3 → ∃ t, exec (.chipReset m v) s = .next t ∧ Denied s t ∧ SameRegs (fun k => k = PWR_DENIED_WRITES.key) s t ∧
      t.plat = s.plat) ∧
  (∀ m v s, m.toNat ≠ 9 → fget v F_PWR_CHIP_RST_KEY = 0xA5C3 → s.plat.rst = .run → ∃ t, exec (.chipReset m v) s = .next t ∧
      t.fld PWR_RESET_CAUSE F_PWR_RESET_CAUSE_CHIP_RST = 1 ∧ t.mem = s.mem ∧ (t.plat.rst = .run ∧ t.fld PWR_BOOT F_PWR_BOOT_STAGE = (if s.fld GH_SUPPLY F_GH_SUPPLY_NOW = 0 then 2 else 1) ∧ t.hif.en = false ∨ t.plat.rst = .steps true)) ∧
  (∀ s, (s.plat.perst = false → ∃ t, exec .perst s = .next t ∧ t.plat.perst = true ∧ t.fld PWR_RESET_CAUSE F_PWR_RESET_CAUSE_PERST = 1 ∧ t.hif.en = false ∧ t.hif.rdy = false ∧
        t.hif.regs = [] ∧ t.hif.msixTab = [] ∧ Counted 0x7003 s t ∧ SameMemory s t) ∧ (s.plat.perst = true → exec .perst s = .next s) ∧
      ∃ t, exec .perstRelease s = .next t ∧ t = { s with plat := { s.plat with perst := false } }) ∧
  (∀ u s, s.plat.perst = false → ∃ t, exec .functionLevelReset s = .next t ∧ t.hif.en = false ∧ t.hif.rdy = false ∧ t.hif.regs = [] ∧ t.hif.msixTab = [] ∧ task u t = none ∧
      Counted 0x7003 s t ∧ SameMemory s t) ∧
  (∀ u s, barOk s = true → s.hif.en = true → ∃ t, exec .controllerReset s = .next t ∧ t.hif.en = false ∧ (endsOpen t = [] → t.hif.rdy = false) ∧ task u t = none ∧ t.hif.cpls = [] ∧
      Counted 0x7003 s t ∧ SameMemory s t) ∧
  (∀ v s, barOk s = true → s.hif.en = false → ∃ t, exec (.ccEnable v) s = .next t ∧ t.hif.en = true ∧ t.hif.shut = false ∧
      (s.hif.act = .none → s.fld PWR_BOOT F_PWR_BOOT_FW_READY = 1 → s.fld PWR_BOOT F_PWR_BOOT_RECOVERY = 0 → t.hif.rdy = true) ∧
      (s.hif.rdy = false → s.fld PWR_BOOT F_PWR_BOOT_RECOVERY = 1 → t.hif.rdy = false) ∧ t.regs = s.regs ∧ SameMemory s t) ∧
  (∀ m s, m.toNat ≠ 9 → ∃ t, exec (.fwReady m) s = .next t ∧ t.fld PWR_BOOT F_PWR_BOOT_FW_READY = 1 ∧ t.fld PWR_BOOT F_PWR_BOOT_STAGE = s.fld PWR_BOOT F_PWR_BOOT_STAGE ∧
      (s.hif.en = true → s.hif.act = .none → s.fld PWR_BOOT F_PWR_BOOT_RECOVERY = 0 → t.hif.rdy = true) ∧ SameMemory s t ∧
      (s.fld PWR_BOOT F_PWR_BOOT_FW_READY = 1 ∨ s.hif.sanit.isSome = true ∨ parGet sanRecord s = none → SameRegs (fun k => k = PWR_BOOT.key) s t) ∧
      (s.fld PWR_BOOT F_PWR_BOOT_FW_READY = 0 → t.hif.jobs.map (fun j => (j.chan, j.op)) = s.hif.jobs.map (fun j => (j.chan, j.op)) ++ [(64, 12)])) ∧
  (∀ d w v s, (s.fld PWR_BOOT F_PWR_BOOT_FW_READY = 0 → s.fld PWR_BOOT F_PWR_BOOT_RECOVERY = 0 → ∃ t, exec (.configurationRequest d w v) s = .next t ∧
        t.hif.crs = some true ∧ t.hif.cfg = s.hif.cfg ∧ t.rdata = s.rdata ∧ t.regs = s.regs) ∧
      ((s.fld PWR_BOOT F_PWR_BOOT_FW_READY = 1 ∨ s.fld PWR_BOOT F_PWR_BOOT_RECOVERY = 1) → w = false → ∃ t, exec (.configurationRequest d w v) s = .next t ∧
        t.hif.crs = some false ∧ t.rdata = cfgRead d.toNat s ∧ t.hif.cfg = s.hif.cfg ∧ t.regs = s.regs) ∧
      ((s.fld PWR_BOOT F_PWR_BOOT_FW_READY = 1 ∨ s.fld PWR_BOOT F_PWR_BOOT_RECOVERY = 1) → w = true → ¬ (d = 0x1A ∧ v.toNat.testBit 15 = true) →
        ∃ t, exec (.configurationRequest d w v) s = .next t ∧ t.hif.crs = some false ∧ t.regs = s.regs ∧
          cfgGet d.toNat t = ((cfgGet d.toNat s &&& ~~~(cfgRw d.toNat &&& ~~~cfgKeep d.toNat v) &&& ~~~(cfgW1c d.toNat &&& v)) |||
            (v &&& (cfgRw d.toNat &&& ~~~cfgKeep d.toNat v))))) ∧
  (∀ s, barOk s = true → s.hif.en = true → ∃ t, exec .normalShutdown s = .next t ∧ t.hif.shut = true ∧ t.hif.nss = s.hif.nss ∧ t.mem = s.mem)

/-- R372, R375, R512, R514, R515: recovery messages and calibration. -/
def Obligations.RecoveryCalibration : Prop :=
  (∀ seq p r s, s.fld PWR_BOOT F_PWR_BOOT_RECOVERY = 0 → ReplyRoom 0 1 2 s →
      (∃ t, exec (.recInfo seq 0) s = .next t ∧ Replied 0 1 0x20 seq.toNat 1 [] s t ∧ SameMemory s t) ∧
      (∃ t, exec (.recWrite seq p) s = .next t ∧ Replied 0 1 0x21 seq.toNat 1 [] s t ∧ SameMemory s t) ∧
      ∃ t, exec (.recCommit seq p r) s = .next t ∧ Replied 0 1 0x22 seq.toNat 1 [] s t ∧ SameMemory s t) ∧
  (∀ seq s, s.fld PWR_BOOT F_PWR_BOOT_RECOVERY = 1 → ReplyRoom 0 1 5 s → ∃ t, exec (.recInfo seq 0) s = .next t ∧
      Replied 0 1 0x20 seq.toNat 0 [s.rd PWR_BOOT, s.rd SEC_BOOT, s.rd CLK_DRAM] s t ∧ SameMemory s t) ∧
  (∀ seq n s, s.fld PWR_BOOT F_PWR_BOOT_RECOVERY = 1 → n ≠ 0 → ReplyRoom 0 1 2 s → ∃ t, exec (.recInfo seq n) s = .next t ∧
      Replied 0 1 0x20 seq.toNat 2 [] s t ∧ SameMemory s t) ∧
  (∀ seq p s, s.fld PWR_BOOT F_PWR_BOOT_RECOVERY = 1 → p.length = 15 → (p.headD 0).toNat % 56 = 0 → (p.headD 0).toNat ≤ 12324864 →
      (s.fld PWR_BOOT F_PWR_BOOT_FAIL = 1 → ReplyRoom 0 1 3 s → ∃ t, exec (.recWrite seq p) s = .next t ∧ Replied 0 1 0x21 seq.toNat 3 [7] s t ∧ SameMemory s t) ∧
      (s.fld PWR_BOOT F_PWR_BOOT_FAIL ≠ 1 → ReplyRoom 0 1 2 s → ∃ t, exec (.recWrite seq p) s = .next t ∧ Replied 0 1 0x21 seq.toNat 0 [] s t ∧
        t.rdBytes (0x1000000000 + (p.headD 0).toNat) 56 = wordBytes (p.drop 1) ∧
        SameBytes (fun x => 0x1000000000 + (p.headD 0).toNat ≤ x ∧ x < 0x1000000000 + (p.headD 0).toNat + 56) s t ∧ t.nv = s.nv)) ∧
  (∀ seq p s, s.fld PWR_BOOT F_PWR_BOOT_RECOVERY = 1 → (p.length ≠ 15 ∨ (p.headD 0).toNat % 56 ≠ 0) → ReplyRoom 0 1 2 s →
      ∃ t, exec (.recWrite seq p) s = .next t ∧ Replied 0 1 0x21 seq.toNat 2 [] s t ∧ SameMemory s t) ∧
  (∀ seq n k r s, s.fld PWR_BOOT F_PWR_BOOT_RECOVERY = 1 → k.toNat < 2 →
      (s.fld PWR_BOOT F_PWR_BOOT_FAIL = 1 → ReplyRoom 0 1 3 s → ∃ t, exec (.recCommit seq [n, k] r) s = .next t ∧ Replied 0 1 0x22 seq.toNat 3 [7] s t ∧ SameMemory s t) ∧
      (s.fld PWR_BOOT F_PWR_BOOT_FAIL ≠ 1 → imgGood recBase s = false → ReplyRoom 0 1 2 s → ∃ t, exec (.recCommit seq [n, k] r) s = .next t ∧
        Replied 0 1 0x22 seq.toNat 5 [] s t ∧ SameMemory s t) ∧
      (s.fld PWR_BOOT F_PWR_BOOT_FAIL ≠ 1 → imgGood recBase s = true → (imgAt recBase s).length = n.toNat → r.toNat < 2 → s.plat.rst = .run →
        ∃ t, exec (.recCommit seq [n, k] r) s = .next t ∧ t.fld PWR_RESET_CAUSE F_PWR_RESET_CAUSE_CHIP_RST = 1) ∧
      (s.fld PWR_BOOT F_PWR_BOOT_FAIL ≠ 1 → imgGood recBase s = true → (imgAt recBase s).length = n.toNat → 2 ≤ r.toNat → ReplyRoom 0 1 3 s →
        ∃ t, exec (.recCommit seq [n, k] r) s = .next t ∧ Replied 0 1 0x22 seq.toNat 4 [t.rd NVS_COMMIT_STATUS] s t ∧ t.plat = s.plat)) ∧
  (∀ m v s, m.toNat ≠ 9 → (5 ≤ fget v F_CAL_RUN_CLASS ∨ shedOpen 4 s = false ∨ s.fld CAL_STATUS F_CAL_STATUS_RUN_BUSY = 1 ∨
        fget v F_CAL_RUN_CLASS < 2 ∧ fget v F_CAL_RUN_INDEX < 64 ∧ actState (fget v F_CAL_RUN_INDEX) s ≠ 0) →
      ∃ t, exec (.calRun m v) s = .next t ∧ Denied s t ∧ t.cal = s.cal ∧ t.fld CAL_RUN F_CAL_RUN_CLASS = s.fld CAL_RUN F_CAL_RUN_CLASS) ∧
  (∀ m v s, m.toNat ≠ 9 → (fget v F_CAL_RUN_CLASS = 2 ∨ fget v F_CAL_RUN_CLASS = 3) → (fget v F_CAL_RUN_INDEX < 16 ∨ fget v F_CAL_RUN_INDEX = 0xFF) → shedOpen 4 s = true →
      s.fld CAL_STATUS F_CAL_STATUS_RUN_BUSY = 0 → ∃ t, exec (.calRun m v) s = .next t ∧ t.fld CAL_RUN F_CAL_RUN_RESULT = 1 ∧ t.fld CAL_STATUS F_CAL_STATUS_RUN_BUSY = 1 ∧
      t.cal.run = some (fget v F_CAL_RUN_CLASS, fget v F_CAL_RUN_INDEX) ∧ SameMemory s t) ∧
  (∀ m v s, m.toNat ≠ 9 → fget v F_CAL_RUN_CLASS < 2 → fget v F_CAL_RUN_INDEX < 64 → actState (fget v F_CAL_RUN_INDEX) s = 0 → shedOpen 4 s = true →
      s.fld CAL_STATUS F_CAL_STATUS_RUN_BUSY = 0 → ∃ t, exec (.calRun m v) s = .next t ∧ t.fld CAL_RUN F_CAL_RUN_RESULT = 1 ∧
      t.cal.run = some (fget v F_CAL_RUN_CLASS, fget v F_CAL_RUN_INDEX) ∧ SameMemory s t) ∧
  (∀ l c x s, s.cal.run = some (c, x) → c < 5 → (∀ y ∈ l, y.1 ∈ calRunItems c x) → calBad c l = none → ∃ t, exec (.calRunEnd l) s = .next t ∧ t.cal.run = none ∧
      t.fld CAL_RUN F_CAL_RUN_RESULT = 2 ∧ t.fld CAL_COUNT F_CAL_COUNT_ACCEPTED = satAdd 16 (s.fld CAL_COUNT F_CAL_COUNT_ACCEPTED) 1 ∧
      t.rd CAL_LAST_TIME_LO = BitVec.ofNat 32 (hostTime s) ∧ Counted 0x8107 s t ∧ SameMemory s t) ∧
  (∀ l c x k y s, s.cal.run = some (c, x) → c < 5 → (∀ z ∈ l, z.1 ∈ calRunItems c x) → calBad c l = some (k, y) → ∃ t, exec (.calRunEnd l) s = .next t ∧
      t.fld CAL_RUN F_CAL_RUN_RESULT = 3 ∧ t.fld CAL_COUNT F_CAL_COUNT_REJECTED = satAdd 16 (s.fld CAL_COUNT F_CAL_COUNT_REJECTED) 1 ∧ Counted 0x800F s t ∧
      t.fld CAL_REJECT F_CAL_REJECT_CLASS = c ∧ t.fld CAL_REJECT F_CAL_REJECT_ITEM = k % 1024 ∧ t.cal.vals = s.cal.vals ∧ t.cal.tap = s.cal.tap ∧ SameMemory s t) ∧
  (∀ l s, s.cal.run = none → exec (.calRunEnd l) s = .next s) ∧
  (∀ c k y s, s.cal.moves.find? (fun z => z.cls == c.toNat && z.item == k.toNat) = some y → ∃ t, exec (.calStep c k) s = .next t ∧
      (tget 0 s.cal.tap (4096 * c.toNat + k.toNat) < y.target → tget 0 t.cal.tap (4096 * c.toNat + k.toNat) = tget 0 s.cal.tap (4096 * c.toNat + k.toNat) + 1) ∧
      (y.target < tget 0 s.cal.tap (4096 * c.toNat + k.toNat) → tget 0 t.cal.tap (4096 * c.toNat + k.toNat) = tget 0 s.cal.tap (4096 * c.toNat + k.toNat) - 1) ∧
      SameRegs (fun z => z = CAL_STATUS.key) s t ∧ SameMemory s t)

/-- R457, R535–R537: SMBus and boundary scan. The capture of BYPASS, the pointer above 0xFF and the reset instruction are the model's (IEEE 1149.1). -/
def Obligations.PinsScan : Prop :=
  (∀ o s, o.toNat < 256 → 1 ≤ s.fld PWR_BOOT F_PWR_BOOT_STAGE → s.plat.ghDown = false → ∃ t, exec (.smbusSetPointer o) s = .next t ∧ t.pins.ptr = o.toNat ∧
      t = { s with pins := { s.pins with ptr := o.toNat } }) ∧
  (∀ j s, j < 32 → (1 ≤ s.fld PWR_BOOT F_PWR_BOOT_STAGE ∨ s.fld PWR_BOOT F_PWR_BOOT_RECOVERY = 1) → s.plat.ghDown = false → ∃ t, exec .smbusBlockRead s = .next t ∧
      t.pins.out[j]? = some (tget 0 s.pins.copy ((s.pins.ptr + j) % 256)) ∧ t.pins.ptr = (s.pins.ptr + 32) % 256 ∧ t.pins.copy = s.pins.copy ∧ t.regs = s.regs ∧ SameMemory s t) ∧
  (∀ k s, k < 256 → 1 ≤ s.fld PWR_BOOT F_PWR_BOOT_STAGE → s.plat.ghDown = false → ∃ t, exec .smbusCopyRefresh s = .next t ∧
      tget 0 t.pins.copy k = BitVec.ofNat 8 ((regWord (0x46000000 + k / 4 * 4) s).toNat >>> (8 * (k % 4))) ∧ t.snap = s.snap ∧ t.regs = s.regs ∧ t.pins.ptr = s.pins.ptr) ∧
  (∀ o s, s.plat.ghDown = false → s.fld PWR_BOOT F_PWR_BOOT_STAGE = 0 → s.fld PWR_BOOT F_PWR_BOOT_RECOVERY = 0 → s.plat.rst = .run →
      exec (.smbusSetPointer o) s = .next s ∧ exec .smbusBlockRead s = .next s ∧ exec .smbusCopyRefresh s = .next s) ∧
  (∀ p v s, (∃ t, exec .bypass s = .next t ∧ t = { s with pins := { s.pins with ir := .bypass, scan := [false] } }) ∧
      (∃ t, exec .idcode s = .next t ∧ t.pins.ir = .idcode ∧ t.pins.scan.length = 32 ∧ t.pins.scan[0]? = some true ∧
        (t.pins.scan.drop 12).take 16 = [false, false, true, false, false, true, true, false, false, true, true, false, true, false, false, true] ∧ t.regs = s.regs) ∧
      ∃ t, exec (.samplePreload p v) s = .next t ∧ t.pins.ir = .sample ∧ t.pins.scan = p ∧ t.pins.bound = v ∧ t.regs = s.regs) ∧
  (∀ s, (∀ h, h < 16 → spnState h s = 0 ∨ spnState h s = 7) → (∀ a, a < 64 → loaded a s = false) →
      (∃ t, exec .extest s = .next t ∧ t = { s with pins := { s.pins with ir := .extest, scan := s.pins.bound } }) ∧
      (∃ t, exec .clamp s = .next t ∧ t = { s with pins := { s.pins with ir := .clamp, scan := [false] } }) ∧
      ∃ t, exec .highz s = .next t ∧ t = { s with pins := { s.pins with ir := .highz, scan := [false] } }) ∧
  (∀ h a s, h < 16 → a < 64 → (spnState h s ≠ 0 ∧ spnState h s ≠ 7 ∨ loaded a s = true) → exec .extest s = exec .bypass s ∧ exec .clamp s = exec .bypass s ∧
      exec .highz s = exec .bypass s)

/-- What each of the spindle, servo and link commands leaves unchanged: the other fields of the state, the other instances, the other registers. -/
def Obligations.FramesMechanics : Prop :=
  (∀ m h s t, exec (.start m h) s = .next t →
      t = { s with ctrs := t.ctrs, regs := t.regs, spnQueue := t.spnQueue } ∧ Only [PWR_BAD_ACCESS.key, PWR_DENIED_WRITES.key, (SPN_FAULT h.toNat).key,
      (SPN_STATE h.toNat).key] [0x500A] s t) ∧
  (∀ m h s t, exec (.brake m h) s = .next t →
      t = { s with ctrs := t.ctrs, freeCtr := t.freeCtr, regs := t.regs, spn := t.spn, spnQueue := t.spnQueue } ∧ (∀ b, b ≠ h.toNat → spin b t = spin b s) ∧
      Only [PWR_BAD_ACCESS.key, PWR_DENIED_WRITES.key, (SPN_FAULT h.toNat).key, (SPN_SPEED0 h.toNat).key, (SPN_STATE h.toNat).key] [0x500A] s t) ∧
  (∀ m h s t, exec (.coast m h) s = .next t →
      t = { s with ctrs := t.ctrs, regs := t.regs, spn := t.spn, spnQueue := t.spnQueue } ∧ (∀ b, b ≠ h.toNat → spin b t = spin b s) ∧ Only [PWR_BAD_ACCESS.key,
      PWR_DENIED_WRITES.key, (SPN_FAULT h.toNat).key, (SPN_SPEED0 h.toNat).key, (SPN_STATE h.toNat).key] [0x500A] s t) ∧
  (∀ m h v s t, exec (.targetWrite m h v) s = .next t →
      t = { s with ctrs := t.ctrs, regs := t.regs, spn := t.spn } ∧ (∀ b, b ≠ h.toNat → spin b t = spin b s) ∧ Only [PWR_BAD_ACCESS.key, PWR_DENIED_WRITES.key,
      (SPN_FAULT h.toNat).key, (SPN_SPEED0 h.toNat).key, (SPN_STATE h.toNat).key, (SPN_TARGET h.toNat).key] [0x500B] s t) ∧
  (∀ m mask s t, exec (.startMask m mask) s = .next t →
      t = { s with ctrs := t.ctrs, regs := t.regs, spnQueue := t.spnQueue } ∧
      OnlyOr (fun k => (∃ i, k = (SPN_FAULT i).key) ∨ (∃ i, k = (SPN_STATE i).key)) [PWR_BAD_ACCESS.key, PWR_DENIED_WRITES.key] [0x500A] s t) ∧
  (∀ s t, exec .startAdmitted s = .next t →
      t = { s with ctrs := t.ctrs, regs := t.regs, spn := t.spn, spnQueue := t.spnQueue } ∧
      OnlyOr (fun k => (∃ i, k = (SPN_SPEED0 i).key) ∨ (∃ i, k = (SPN_START_COUNT i).key) ∨ (∃ i, k = (SPN_STATE i).key)) [] [0x5001] s t) ∧
  (∀ h s t, exec (.alignDone h) s = .next t →
      t = { s with regs := t.regs, spn := t.spn } ∧ (∀ b, b ≠ h.toNat → spin b t = spin b s) ∧ Only [(SPN_SPEED0 h.toNat).key, (SPN_STATE h.toNat).key] [] s t) ∧
  (∀ h s t, exec (.rampEnd h) s = .next t →
      t = { s with regs := t.regs, spn := t.spn } ∧ (∀ b, b ≠ h.toNat → spin b t = spin b s) ∧ Only [(SPN_SPEED0 h.toNat).key] [] s t) ∧
  (∀ h speed s t, exec (.handover h speed) s = .next t →
      t = { s with regs := t.regs, spn := t.spn } ∧ (∀ b, b ≠ h.toNat → spin b t = spin b s) ∧ Only [(SPN_SPEED0 h.toNat).key, (SPN_STATE h.toNat).key] [] s t) ∧
  (∀ h s t, exec (.handoverTimeout h) s = .next t →
      t = { s with acts := t.acts, ctrs := t.ctrs, dn := t.dn, gh := t.gh, regs := t.regs, seqs := t.seqs, spn := t.spn, spnQueue := t.spnQueue, wOff := t.wOff } ∧
      (∀ b, b ≠ h.toNat → spin b t = spin b s) ∧
      OnlyOr (fun k => lodgeKey k ∨ (∃ i, k = (GH_ACT_FORCE i).key) ∨ (∃ i, k = (GH_ACT_STATUS i).key) ∨ (∃ i, k = (GH_ISOLATED i).key) ∨ (∃ i, k = (SPN_STATE i).key) ∨ (∃ i, k = (SRV_ACT_STATE i).key) ∨ (∃ i, k = (WCH_STATE i).key)) [(SPN_FAULT h.toNat).key,
      (SPN_SPEED0 h.toNat).key] [0x500D, 0xA002, 0xA003] s t) ∧
  (∀ h tonNs iu iv s t, exec (.pwmPeriod h tonNs iu iv) s = .next t →
      t = { s with regs := t.regs, spn := t.spn } ∧ (∀ b, b ≠ h.toNat → spin b t = spin b s) ∧ Only [(SPN_CURRENT0 h.toNat).key, (SPN_CURRENT1 h.toNat).key,
      (SPN_SHIFT_COUNT h.toNat).key, (SPN_SKIP_COUNT h.toNat).key, (SPN_SPEED0 h.toNat).key] [] s t) ∧
  (∀ h s t, exec (.skipRunLimit h) s = .next t →
      t = { s with ctrs := t.ctrs, regs := t.regs, spn := t.spn } ∧ (∀ b, b ≠ h.toNat → spin b t = spin b s) ∧ Only [] [0x500C] s t) ∧
  (∀ h phase v0 v1 s t, exec (.zeroCrossing h phase v0 v1) s = .next t →
      t = { s with regs := t.regs, spn := t.spn } ∧ (∀ b, b ≠ h.toNat → spin b t = spin b s) ∧
      OnlyOr (fun k => (∃ i, k = (ICE_EXT_T 7 i).key)) [(ICE_EXT_MAX 7).key, (ICE_EXT_MIN 7).key, (SPN_REV_COUNT h.toNat).key, (SPN_SPEED0 h.toNat).key,
      (SPN_SPEED1 h.toNat).key, (SPN_STATE h.toNat).key] [] s t) ∧
  (∀ h s t, exec (.commutationStep h) s = .next t →
      t = { s with regs := t.regs, spn := t.spn } ∧ (∀ b, b ≠ h.toNat → spin b t = spin b s) ∧ Only [(SPN_SPEED0 h.toNat).key] [] s t) ∧
  (∀ h ma tonNs s t, exec (.currentLimit h ma tonNs) s = .next t →
      t = { s with regs := t.regs } ∧ Only [(SPN_CURRENT1 h.toNat).key] [] s t) ∧
  (∀ h ma s t, exec (.overcurrentTrip h ma) s = .next t →
      t = { s with acts := t.acts, ctrs := t.ctrs, dn := t.dn, gh := t.gh, regs := t.regs, seqs := t.seqs, spn := t.spn, spnQueue := t.spnQueue, wOff := t.wOff } ∧
      (∀ b, b ≠ h.toNat → spin b t = spin b s) ∧
      OnlyOr (fun k => lodgeKey k ∨ (∃ i, k = (GH_ACT_FORCE i).key) ∨ (∃ i, k = (GH_ACT_STATUS i).key) ∨ (∃ i, k = (GH_ISOLATED i).key) ∨ (∃ i, k = (SPN_STATE i).key) ∨ (∃ i, k = (SRV_ACT_STATE i).key) ∨ (∃ i, k = (WCH_STATE i).key)) [GH_SPN_FORCE.key,
      (SPN_FAULT h.toNat).key, (SPN_SPEED0 h.toNat).key] [0x5006, 0xA002, 0xA003] s t) ∧
  (∀ h order ticks lastStep railMv s t, exec (.catchDecided h order ticks lastStep railMv) s = .next t →
      t = { s with ctrs := t.ctrs, regs := t.regs, spn := t.spn } ∧ (∀ b, b ≠ h.toNat → spin b t = spin b s) ∧ Only [(SPN_CATCH h.toNat).key,
      (SPN_SPEED0 h.toNat).key, (SPN_STATE h.toNat).key] [0x5003] s t) ∧
  (∀ h s t, exec (.catchWindowExpired h) s = .next t →
      t = { s with ctrs := t.ctrs, regs := t.regs, spn := t.spn } ∧ (∀ b, b ≠ h.toNat → spin b t = spin b s) ∧ Only [(SPN_CATCH h.toNat).key,
      (SPN_SPEED0 h.toNat).key, (SPN_STATE h.toNat).key] [0x5003] s t) ∧
  (∀ h speed s t, exec (.atSpeedReached h speed) s = .next t →
      t = { s with ctrs := t.ctrs, regs := t.regs, spn := t.spn } ∧ (∀ b, b ≠ h.toNat → spin b t = spin b s) ∧ Only [(SPN_SPEED0 h.toNat).key,
      (SPN_STATE h.toNat).key] [0x5002] s t) ∧
  (∀ h speed s t, exec (.speedOutOfTolerance h speed) s = .next t →
      t = { s with regs := t.regs, spn := t.spn } ∧ (∀ b, b ≠ h.toNat → spin b t = spin b s) ∧ Only [(SPN_SPEED0 h.toNat).key, (SPN_STATE h.toNat).key] [] s t) ∧
  (∀ h speed s t, exec (.speedBandFault h speed) s = .next t →
      t = { s with acts := t.acts, ctrs := t.ctrs, dn := t.dn, gh := t.gh, regs := t.regs, seqs := t.seqs, spn := t.spn, wOff := t.wOff } ∧ (∀ b, b ≠ h.toNat →
      spin b t = spin b s) ∧
      OnlyOr (fun k => lodgeKey k ∨ (∃ i, k = (GH_ACT_FORCE i).key) ∨ (∃ i, k = (GH_ACT_STATUS i).key) ∨ (∃ i, k = (GH_ISOLATED i).key) ∨ (∃ i, k = (SPN_STATE i).key) ∨ (∃ i, k = (SRV_ACT_STATE i).key) ∨ (∃ i, k = (WCH_STATE i).key)) [(SPN_FAULT h.toNat).key,
      (SPN_SPEED0 h.toNat).key] [0x5007, 0xA002, 0xA003] s t) ∧
  (∀ h s t, exec (.spinupTimeout h) s = .next t →
      t = { s with acts := t.acts, ctrs := t.ctrs, dn := t.dn, freeCtr := t.freeCtr, gh := t.gh, regs := t.regs, seqs := t.seqs, spn := t.spn,
                   spnQueue := t.spnQueue, wOff := t.wOff } ∧ (∀ b, b ≠ h.toNat → spin b t = spin b s) ∧
      OnlyOr (fun k => lodgeKey k ∨ (∃ i, k = (GH_ACT_FORCE i).key) ∨ (∃ i, k = (GH_ACT_STATUS i).key) ∨ (∃ i, k = (GH_ISOLATED i).key) ∨ (∃ i, k = (SPN_STATE i).key) ∨ (∃ i, k = (SRV_ACT_STATE i).key) ∨ (∃ i, k = (WCH_STATE i).key)) [(SPN_FAULT h.toNat).key,
      (SPN_SPEED0 h.toNat).key] [0x5005, 0xA002, 0xA003] s t) ∧
  (∀ h s t, exec (.below30Rpm h) s = .next t →
      t = { s with regs := t.regs, spn := t.spn } ∧ (∀ b, b ≠ h.toNat → spin b t = spin b s) ∧ Only [(SPN_SPEED0 h.toNat).key, (SPN_STATE h.toNat).key] [] s t) ∧
  (∀ h speed s t, exec (.brakeHandoff h speed) s = .next t →
      t = { s with regs := t.regs, spn := t.spn } ∧ (∀ b, b ≠ h.toNat → spin b t = spin b s) ∧ Only [(SPN_SPEED0 h.toNat).key, (SPN_STATE h.toNat).key] [] s t) ∧
  (∀ h s t, exec (.shortBrakeTimeout h) s = .next t →
      t = { s with ctrs := t.ctrs, regs := t.regs } ∧ Only [(SPN_FAULT h.toNat).key] [0x5008] s t) ∧
  (∀ r mv s t, exec (.chopperOn r mv) s = .next t →
      t = { s with regs := t.regs } ∧ Only [(GH_RAIL r.toNat).key, (GH_RAIL_PEAK r.toNat).key] [] s t) ∧
  (∀ r mv s t, exec (.chopperOff r mv) s = .next t →
      t = { s with regs := t.regs } ∧ Only [(GH_RAIL r.toNat).key, (GH_RAIL_PEAK r.toNat).key] [] s t) ∧
  (∀ r mv ma s t, exec (.chopperFault r mv ma) s = .next t →
      t = { s with ctrs := t.ctrs, gh := t.gh, regs := t.regs, spn := t.spn, spnQueue := t.spnQueue } ∧
      OnlyOr (fun k => lodgeKey k ∨ (∃ i, k = (SPN_FAULT i).key) ∨ (∃ i, k = (SPN_SPEED0 i).key) ∨ (∃ i, k = (SPN_STATE i).key)) [(GH_RAIL r.toNat).key,
      (GH_RAIL_PEAK r.toNat).key, GH_SPN_FORCE.key] [0x5009, 0xA005] s t) ∧
  (∀ r mv s t, exec (.railOvervoltage r mv) s = .next t →
      t = { s with acts := t.acts, ctrs := t.ctrs, dn := t.dn, freeCtr := t.freeCtr, gh := t.gh, ice := t.ice, regs := t.regs, seqs := t.seqs, spn := t.spn,
                   spnQueue := t.spnQueue, wOff := t.wOff, hif := { s.hif with aerEv := t.hif.aerEv, aers := t.hif.aers, cpls := t.hif.cpls, errCnt := t.hif.errCnt,
                                                                               errs := t.hif.errs, tasks := t.hif.tasks } } ∧
      OnlyOr (fun k => lodgeKey k ∨ (∃ i, k = (GH_ACT_FORCE i).key) ∨ (∃ i, k = (GH_ISOLATED i).key) ∨ (∃ i, k = (SPN_FAULT i).key) ∨ (∃ i, k = (SPN_SPEED0 i).key) ∨ (∃ i, k = (SPN_STATE i).key) ∨ (∃ i, k = (SRV_ACT_STATE i).key) ∨ (∃ i, k = (WCH_STATE i).key)) [GH_GRAVE.key,
      (GH_RAIL r.toNat).key, (GH_RAIL_PEAK r.toNat).key, GH_SPN_FORCE.key, HIF_TT_STATE.key] [0x5009, 0xA001, 0xA002, 0xA003, 0xA104] s t) ∧
  (∀ r mv s t, exec (.powerLossDetected r mv) s = .next t →
      t = { s with acts := t.acts, ctrs := t.ctrs, dn := t.dn, freeCtr := t.freeCtr, gh := t.gh, regs := t.regs, seqs := t.seqs, spn := t.spn,
                   spnQueue := t.spnQueue, wOff := t.wOff } ∧
      OnlyOr (fun k => lodgeKey k ∨ (∃ i, k = (GH_ACT_FORCE i).key) ∨ (∃ i, k = (GH_ISOLATED i).key) ∨ (∃ i, k = (SPN_SPEED0 i).key) ∨ (∃ i, k = (SPN_STATE i).key) ∨ (∃ i, k = (SRV_ACT_STATE i).key) ∨ (∃ i, k = (WCH_STATE i).key)) [(GH_RAIL r.toNat).key,
      (GH_RAIL_PEAK r.toNat).key, GH_SPN_FORCE.key] [0xA002, 0xA003, 0xA007] s t) ∧
  (∀ h rpm pos sync s t, exec (.servoWedge h rpm pos sync) s = .next t →
      t = { s with acts := t.acts, dn := t.dn, engs := t.engs, freeCtr := t.freeCtr, lnks := t.lnks, loops := t.loops, regs := t.regs, seqs := t.seqs, spn := t.spn,
                   wOff := t.wOff } ∧ (∀ b, b ≠ h.toNat → tget {} t.engs b = tget {} s.engs b) ∧ (∀ b, b ≠ h.toNat → spin b t = spin b s) ∧
      OnlyOr (fun k => (∃ i, k = (ICE_EXT_T 7 i).key) ∨ (∃ i, k = (LNK_STATE i).key) ∨ (∃ i, k = (SRV_ACT_STATE i).key) ∨ (∃ i j, k = (SRV_LOOP_FLAGS i j).key) ∨ (∃ i j, k = (SRV_STATE_E i j).key) ∨ (∃ i j, k = (SRV_STATE_I i j).key) ∨ (∃ i j, k = (SRV_STATE_O i j).key) ∨ (∃ i j, k = (SRV_STATE_U i j).key) ∨ (∃ i, k = (SRV_WEDGE_COUNT i).key) ∨ (∃ i, k = (WCH_STATE i).key)) [(ICE_EXT_MAX 7).key,
      (ICE_EXT_MIN 7).key, (SPN_SPEED0 h.toNat).key, (SRV_OPEN h.toNat).key, (SRV_STATUS h.toNat).key] [] s t) ∧
  (∀ a s t, exec (.servoLost a) s = .next t →
      t = { s with acts := t.acts, ctrs := t.ctrs, dn := t.dn, gh := t.gh, regs := t.regs, seqs := t.seqs, wOff := t.wOff } ∧ (∀ b, b ≠ a.toNat →
      act b t = act b s) ∧ (∀ b, b ≠ a.toNat → seq b t = seq b s) ∧ OnlyOr (fun k => lodgeKey k) [(GH_ACT_FORCE (a.toNat / 32)).key, (GH_ACT_STATUS a.toNat).key,
      (GH_ISOLATED (a.toNat / 32)).key, (SPN_STATE (hdaOf (a.toNat))).key, (SRV_ACT_FLAGS a.toNat).key, (SRV_ACT_STATE a.toNat).key,
      (WCH_STATE a.toNat).key] [0x4006, 0xA002, 0xA003] s t) ∧
  (∀ h wedge s t, exec (.timerLock h wedge) s = .next t →
      t = { s with ctrs := t.ctrs, regs := t.regs } ∧ Only [(SPN_SPEED0 h.toNat).key, (SRV_STATUS h.toNat).key] [0x4001] s t) ∧
  (∀ h s t, exec (.timerLockLost h) s = .next t →
      t = { s with ctrs := t.ctrs, regs := t.regs } ∧ Only [(SPN_SPEED0 h.toNat).key, (SRV_STATUS h.toNat).key] [0x4002] s t) ∧
  (∀ a s t, exec (.vcmSatFault a) s = .next t →
      t = { s with acts := t.acts, ctrs := t.ctrs, dn := t.dn, gh := t.gh, regs := t.regs, seqs := t.seqs, wOff := t.wOff } ∧ (∀ b, b ≠ a.toNat →
      act b t = act b s) ∧ (∀ b, b ≠ a.toNat → seq b t = seq b s) ∧ OnlyOr (fun k => lodgeKey k) [(GH_ACT_FORCE (a.toNat / 32)).key, (GH_ACT_STATUS a.toNat).key,
      (GH_ISOLATED (a.toNat / 32)).key, (SPN_STATE (hdaOf (a.toNat))).key, (SRV_ACT_FLAGS a.toNat).key, (SRV_ACT_STATE a.toNat).key,
      (WCH_STATE a.toNat).key] [0x400A, 0xA002, 0xA003] s t) ∧
  (∀ a s t, exec (.openLimitFault a) s = .next t →
      t = { s with acts := t.acts, ctrs := t.ctrs, dn := t.dn, gh := t.gh, regs := t.regs, seqs := t.seqs, wOff := t.wOff } ∧ (∀ b, b ≠ a.toNat →
      act b t = act b s) ∧ (∀ b, b ≠ a.toNat → seq b t = seq b s) ∧ OnlyOr (fun k => lodgeKey k) [(GH_ACT_FORCE (a.toNat / 32)).key, (GH_ACT_STATUS a.toNat).key,
      (GH_ISOLATED (a.toNat / 32)).key, (SPN_STATE (hdaOf (a.toNat))).key, (SRV_ACT_FLAGS a.toNat).key, (SRV_ACT_STATE a.toNat).key,
      (WCH_STATE a.toNat).key] [0x4005, 0xA002, 0xA003] s t) ∧
  (∀ m h v s t, exec (.slotOpen m h v) s = .next t →
      t = { s with loops := t.loops, regs := t.regs } ∧ Only [PWR_DENIED_WRITES.key, (SRV_COEF_CTL h.toNat).key] [] s t) ∧
  (∀ m h v s t, exec (.slotClose m h v) s = .next t →
      t = { s with loops := t.loops, regs := t.regs } ∧ Only [PWR_DENIED_WRITES.key, (SRV_COEF_CTL h.toNat).key] [] s t) ∧
  (∀ m h l w v s t, exec (.coefPageWrite m h l w v) s = .next t →
      t = { s with regs := t.regs } ∧ Only [PWR_DENIED_WRITES.key, (SRV_COEF h.toNat l.toNat w.toNat).key] [] s t) ∧
  (∀ m a s t, exec (.srvLoad m a) s = .next t →
      t = { s with acts := t.acts, ctrs := t.ctrs, dn := t.dn, gh := t.gh, regs := t.regs, seqs := t.seqs, wOff := t.wOff } ∧ (∀ b, b ≠ a.toNat →
      act b t = act b s) ∧ (∀ b, b ≠ a.toNat → seq b t = seq b s) ∧ OnlyOr (fun k => lodgeKey k) [(GH_ACT_FORCE (a.toNat / 32)).key, (GH_ACT_STATUS a.toNat).key,
      (GH_ISOLATED (a.toNat / 32)).key, PWR_DENIED_WRITES.key, (SPN_STATE (hdaOf (a.toNat))).key, (SRV_ACT_FLAGS a.toNat).key, (SRV_ACT_STATE a.toNat).key,
      (WCH_STATE a.toNat).key] [0x4003, 0xA002, 0xA003] s t) ∧
  (∀ m a s t, exec (.srvUnload m a) s = .next t →
      t = { s with acts := t.acts, ctrs := t.ctrs, regs := t.regs, seqs := t.seqs, wOff := t.wOff } ∧ (∀ b, b ≠ a.toNat → act b t = act b s) ∧ (∀ b, b ≠ a.toNat →
      seq b t = seq b s) ∧ Only [PWR_DENIED_WRITES.key, (SPN_STATE (hdaOf (a.toNat))).key, (SRV_ACT_FLAGS a.toNat).key, (SRV_ACT_STATE a.toNat).key,
      (WCH_STATE a.toNat).key] [0x4003] s t) ∧
  (∀ m a s t, exec (.srvSeek m a) s = .next t →
      t = { s with acts := t.acts, ctrs := t.ctrs, freeCtr := t.freeCtr, loops := t.loops, regs := t.regs, seqs := t.seqs, wOff := t.wOff } ∧ (∀ b, b ≠ a.toNat →
      act b t = act b s) ∧ (∀ b, b ≠ a.toNat → seq b t = seq b s) ∧ Only [PWR_DENIED_WRITES.key, (SPN_STATE (hdaOf (a.toNat))).key, (SRV_ACT_FLAGS a.toNat).key,
      (SRV_ACT_STATE a.toNat).key, (SRV_SEEK_COUNT a.toNat).key, (SRV_SEEK_REPLACED a.toNat).key, (WCH_STATE a.toNat).key] [0x4003, 0x4009] s t) ∧
  (∀ a cyl s t, exec (.loadAcquired a cyl) s = .next t →
      t = { s with acts := t.acts, freeCtr := t.freeCtr, loops := t.loops, regs := t.regs } ∧ (∀ b, b ≠ a.toNat → act b t = act b s) ∧
      Only [(SPN_STATE (hdaOf (a.toNat))).key, (SRV_ACT_STATE a.toNat).key] [] s t) ∧
  (∀ a s t, exec (.loadingTimeout a) s = .next t →
      t = { s with acts := t.acts, ctrs := t.ctrs, dn := t.dn, gh := t.gh, regs := t.regs, seqs := t.seqs, wOff := t.wOff } ∧ (∀ b, b ≠ a.toNat →
      act b t = act b s) ∧ (∀ b, b ≠ a.toNat → seq b t = seq b s) ∧ OnlyOr (fun k => lodgeKey k) [(GH_ACT_FORCE (a.toNat / 32)).key, (GH_ACT_STATUS a.toNat).key,
      (GH_ISOLATED (a.toNat / 32)).key, (SPN_STATE (hdaOf (a.toNat))).key, (SRV_ACT_FLAGS a.toNat).key, (SRV_ACT_STATE a.toNat).key,
      (WCH_STATE a.toNat).key] [0x400B, 0xA002, 0xA003] s t) ∧
  (∀ a s t, exec (.trajectoryEnd a) s = .next t →
      t = { s with acts := t.acts, freeCtr := t.freeCtr, loops := t.loops, regs := t.regs } ∧ (∀ b, b ≠ a.toNat → act b t = act b s) ∧
      Only [(SPN_STATE (hdaOf (a.toNat))).key, (SRV_ACT_STATE a.toNat).key] [] s t) ∧
  (∀ a s t, exec (.readSettled a) s = .next t →
      t = { s with acts := t.acts, ctrs := t.ctrs, regs := t.regs } ∧ (∀ b, b ≠ a.toNat → act b t = act b s) ∧
      OnlyOr (fun k => (∃ i, k = (ICE_EXT_T 4 i).key) ∨ (∃ i, k = ICE_HIST 2 i)) [(ICE_EXT_MAX 4).key, (ICE_EXT_MIN 4).key, ICE_SAT.key,
      (SPN_STATE (hdaOf (a.toNat))).key, (SRV_ACT_STATE a.toNat).key] [0x8105] s t) ∧
  (∀ a ix s t, exec (.writeSettled a ix) s = .next t →
      t = { s with regs := t.regs } ∧ Only [(SRV_ACT_STATE a.toNat).key] [] s t) ∧
  (∀ a s t, exec (.settleTimeout a) s = .next t →
      t = { s with acts := t.acts, ctrs := t.ctrs, regs := t.regs } ∧ (∀ b, b ≠ a.toNat → act b t = act b s) ∧ Only [(SRV_ACT_FLAGS a.toNat).key] [0x4004] s t) ∧
  (∀ a s t, exec (.unloadComplete a) s = .next t →
      t = { s with regs := t.regs } ∧ Only [(SPN_STATE (hdaOf (a.toNat))).key, (SRV_ACT_STATE a.toNat).key] [] s t) ∧
  (∀ a ix s t, exec (.headLeavesStripe a ix) s = .next t →
      t = { s with acts := t.acts, ctrs := t.ctrs, loops := t.loops, regs := t.regs } ∧ (∀ b, b ≠ a.toNat → act b t = act b s) ∧ Only [(SRV_ACT_FLAGS a.toNat).key,
      (SRV_ACT_STATE a.toNat).key] [0x4007, 0x4008] s t) ∧
  (∀ a ix s t, exec (.headRejoins a ix) s = .next t →
      t = { s with acts := t.acts, loops := t.loops, regs := t.regs } ∧ (∀ b, b ≠ a.toNat → act b t = act b s) ∧ Only [(SRV_ACT_STATE a.toNat).key] [] s t) ∧
  (∀ a ix s t, exec (.rejoinRunEnd a ix) s = .next t →
      t = { s with acts := t.acts, regs := t.regs } ∧ (∀ b, b ≠ a.toNat → act b t = act b s) ∧ Only [(SRV_ACT_STATE a.toNat).key] [] s t) ∧
  (∀ a lane hdr data tail s t, exec (.sampleFrame a lane hdr data tail) s = .next t →
      t = { s with chains := t.chains, ctrs := t.ctrs, pool := t.pool, regs := t.regs, up := t.up } ∧ (∀ b, b ≠ 4 * a.toNat + q64 hdr 8 2 →
      tget {} t.chains b = tget {} s.chains b) ∧ (∀ b, b ≠ 4 * a.toNat + lane.toNat → tget {} t.up b = tget {} s.up b) ∧
      OnlyOr (fun k => (∃ i, k = (RCH_EQ_TAPS a.toNat (q64 hdr 8 2) i).key)) [(LNK_FLAGS a.toNat).key, (LNK_UP_CRC_ERR a.toNat lane.toNat).key,
      (LNK_UP_PAR_ERR a.toNat lane.toNat).key, (LNK_UP_SEQ_GAP a.toNat lane.toNat).key, (LNK_UP_SYNC_ERR a.toNat lane.toNat).key, LNK_UP_FRAMES a.toNat lane.toNat,
      RCH_STAT a.toNat (8 * q64 hdr 10 3 + 7)] [0x100A] s t) ∧
  (∀ a lane hdr data tail s t, exec (.servoFrame a lane hdr data tail) s = .next t →
      t = { s with acts := t.acts, ctrs := t.ctrs, regs := t.regs, up := t.up } ∧ (∀ b, b ≠ a.toNat → act b t = act b s) ∧ (∀ b, b ≠ 4 * a.toNat + lane.toNat →
      tget {} t.up b = tget {} s.up b) ∧ Only [(LNK_FLAGS a.toNat).key, (LNK_UP_CRC_ERR a.toNat lane.toNat).key, (LNK_UP_PAR_ERR a.toNat lane.toNat).key,
      (LNK_UP_SEQ_GAP a.toNat lane.toNat).key, (LNK_UP_SYNC_ERR a.toNat lane.toNat).key, LNK_UP_FRAMES a.toNat lane.toNat] [0x100A] s t) ∧
  (∀ a v s t, exec (.status a v) s = .next t →
      t = { s with acts := t.acts, ctrs := t.ctrs, dn := t.dn, gh := t.gh, lnks := t.lnks, regs := t.regs, seqs := t.seqs, wOff := t.wOff } ∧ (∀ b, b ≠ a.toNat →
      act b t = act b s) ∧ (∀ b, b ≠ a.toNat → lnk b t = lnk b s) ∧ (∀ b, b ≠ a.toNat → seq b t = seq b s) ∧
      OnlyOr (fun k => lodgeKey k ∨ (∃ i, k = (ICE_EXT_T 6 i).key)) [(GH_ACT_FORCE (a.toNat / 32)).key, (GH_ACT_STATUS a.toNat).key,
      (GH_ISOLATED (a.toNat / 32)).key, (ICE_EXT_MAX 6).key, (ICE_EXT_MIN 6).key, (LNK_DN_SCMD_CRC a.toNat (q64 v 8 2)).key,
      (LNK_DN_SYNC_ERR a.toNat (q64 v 8 2)).key, (LNK_FE_STATUS0 a.toNat).key, (LNK_FE_STATUS1 a.toNat).key, (LNK_FLAGS a.toNat).key,
      (SPN_STATE (hdaOf (a.toNat))).key, (SRV_ACT_STATE a.toNat).key, (WCH_STATE a.toNat).key] [0x1008, 0x100B, 0xA002, 0xA003] s t) ∧
  (∀ a s t, exec (.scmdLost a) s = .next t →
      t = { s with acts := t.acts, ctrs := t.ctrs, dn := t.dn, gh := t.gh, lnks := t.lnks, regs := t.regs, seqs := t.seqs, wOff := t.wOff } ∧ (∀ b, b ≠ a.toNat →
      act b t = act b s) ∧ (∀ b, b ≠ a.toNat → lnk b t = lnk b s) ∧ (∀ b, b ≠ a.toNat → seq b t = seq b s) ∧
      OnlyOr (fun k => lodgeKey k) [(GH_ACT_FORCE (a.toNat / 32)).key, (GH_ACT_STATUS a.toNat).key, (GH_ISOLATED (a.toNat / 32)).key, (LNK_FLAGS a.toNat).key,
      (SPN_STATE (hdaOf (a.toNat))).key, (SRV_ACT_STATE a.toNat).key, (WCH_STATE a.toNat).key] [0x1009, 0xA002, 0xA003] s t) ∧
  (∀ a v s t, exec (.regData a v) s = .next t →
      t = { s with dn := t.dn, gh := t.gh, lnks := t.lnks, regs := t.regs } ∧ (∀ b, b ≠ a.toNat → lnk b t = lnk b s) ∧ Only [(LNK_FE_RESULT a.toNat).key] [] s t) ∧
  (∀ a lane s t, exec (.invalidBlock a lane) s = .next t →
      t = { s with regs := t.regs } ∧ Only [(LNK_UP_SYNC_ERR a.toNat lane.toNat).key] [] s t) ∧
  (∀ a lane s t, exec (.laneQueueOverflow a lane) s = .next t →
      t = { s with acts := t.acts, lnks := t.lnks, regs := t.regs, seqs := t.seqs, up := t.up, wOff := t.wOff } ∧ (∀ b, b ≠ a.toNat → act b t = act b s) ∧ (∀ b,
      b ≠ a.toNat → lnk b t = lnk b s) ∧ (∀ b, b ≠ a.toNat → seq b t = seq b s) ∧ (∀ b, b ≠ 4 * a.toNat + lane.toNat → tget {} t.up b = tget {} s.up b) ∧
      Only [(LNK_DN_LOCK_LOSS a.toNat lane.toNat).key, (LNK_DN_RETRAIN a.toNat lane.toNat).key, (LNK_SKEW a.toNat).key, (LNK_STATE a.toNat).key,
      (LNK_UP_LOCK_LOSS a.toNat lane.toNat).key, (LNK_UP_RETRAIN a.toNat lane.toNat).key, (WCH_STATE a.toNat).key] [] s t) ∧
  (∀ a down lane s t, exec (.blockLockLost a down lane) s = .next t →
      t = { s with acts := t.acts, ctrs := t.ctrs, dn := t.dn, gh := t.gh, lnks := t.lnks, regs := t.regs, seqs := t.seqs, up := t.up, wOff := t.wOff,
                   hif := { s.hif with sanit := t.hif.sanit, tasks := t.hif.tasks } } ∧ (∀ b, b ≠ a.toNat → act b t = act b s) ∧ (∀ b, b ≠ a.toNat →
      lnk b t = lnk b s) ∧ (∀ b, b ≠ a.toNat → seq b t = seq b s) ∧ (∀ b, b ≠ 4 * a.toNat + lane.toNat → tget {} t.up b = tget {} s.up b) ∧
      OnlyOr (fun k => lodgeKey k) [(GH_ACT_FORCE (a.toNat / 32)).key, (GH_ACT_STATUS a.toNat).key, (GH_ISOLATED (a.toNat / 32)).key,
      (LNK_DN_LOCK_LOSS a.toNat lane.toNat).key, (LNK_DN_RETRAIN a.toNat lane.toNat).key, (LNK_FLAGS a.toNat).key, (LNK_SKEW a.toNat).key, (LNK_STATE a.toNat).key,
      (LNK_UP_LOCK_LOSS a.toNat lane.toNat).key, (LNK_UP_RETRAIN a.toNat lane.toNat).key, (SPN_STATE (hdaOf (a.toNat))).key, (SRV_ACT_STATE a.toNat).key,
      (WCH_STATE a.toNat).key] [0x1002, 0x1003, 0x1004, 0x1005, 0xA002, 0xA003] s t) ∧
  (∀ a down lane locked s t, exec (.retrainAttemptEnd a down lane locked) s = .next t →
      t = { s with acts := t.acts, ctrs := t.ctrs, dn := t.dn, gh := t.gh, lnks := t.lnks, regs := t.regs, seqs := t.seqs, up := t.up, wOff := t.wOff,
                   hif := { s.hif with sanit := t.hif.sanit, tasks := t.hif.tasks } } ∧ (∀ b, b ≠ a.toNat → act b t = act b s) ∧ (∀ b, b ≠ a.toNat →
      lnk b t = lnk b s) ∧ (∀ b, b ≠ a.toNat → seq b t = seq b s) ∧ (∀ b, b ≠ 4 * a.toNat + lane.toNat → tget {} t.up b = tget {} s.up b) ∧
      OnlyOr (fun k => lodgeKey k) [(GH_ACT_FORCE (a.toNat / 32)).key, (GH_ACT_STATUS a.toNat).key, (GH_ISOLATED (a.toNat / 32)).key,
      (LNK_DN_RETRAIN a.toNat lane.toNat).key, (LNK_FLAGS a.toNat).key, (LNK_SKEW a.toNat).key, (LNK_STATE a.toNat).key, (LNK_UP_RETRAIN a.toNat lane.toNat).key,
      (SPN_STATE (hdaOf (a.toNat))).key, (SRV_ACT_STATE a.toNat).key, (WCH_STATE a.toNat).key] [0x1003, 0x1004, 0x1005, 0xA002, 0xA003] s t) ∧
  (∀ a lane eccBad s t, exec (.downstreamBlockSlot a lane eccBad) s = .next t →
      t = { s with ctrs := t.ctrs, dn := t.dn, regs := t.regs, seqs := t.seqs, wOff := t.wOff } ∧ (∀ b, b ≠ a.toNat → seq b t = seq b s) ∧
      Only [(WCH_FLAGS a.toNat).key, (WCH_STATE a.toNat).key] [0x2005] s t) ∧
  (∀ m a s t, exec (.train m a) s = .next t →
      t = { s with dn := t.dn, lnks := t.lnks, regs := t.regs, up := t.up } ∧ (∀ b, b ≠ 4 * a.toNat → b ≠ 4 * a.toNat + 1 → b ≠ 4 * a.toNat + 2 →
      b ≠ 4 * a.toNat + 3 → tget {} t.dn b = tget {} s.dn b) ∧ (∀ b, b ≠ a.toNat → lnk b t = lnk b s) ∧ (∀ b, b ≠ 4 * a.toNat → b ≠ 4 * a.toNat + 1 →
      b ≠ 4 * a.toNat + 2 → b ≠ 4 * a.toNat + 3 → tget {} t.up b = tget {} s.up b) ∧ Only [(LNK_SKEW a.toNat).key, (LNK_STATE a.toNat).key, PWR_BAD_ACCESS.key,
      PWR_DENIED_WRITES.key] [] s t) ∧
  (∀ a locked reply ident s t, exec (.trainingEnd a locked reply ident) s = .next t →
      t = { s with acts := t.acts, ctrs := t.ctrs, dn := t.dn, gh := t.gh, hif := t.hif, ksk := t.ksk, lnks := t.lnks, msix := t.msix, plat := t.plat,
                   regs := t.regs, replies := t.replies, sdl := t.sdl, seqs := t.seqs, snap := t.snap, up := t.up, wOff := t.wOff } ∧ (∀ b, b ≠ a.toNat →
      act b t = act b s) ∧ (∀ b, b ≠ a.toNat → lnk b t = lnk b s) ∧ (∀ b, b ≠ a.toNat → seq b t = seq b s) ∧
      OnlyOr (fun k => lodgeKey k ∨ coreKey k ∨ (∃ i, k = (KSK_DISC i 1).key) ∨ (∃ i, k = (KSK_IRQ i 1).key)) [(GH_ACT_FORCE (a.toNat / 32)).key,
      (GH_ACT_STATUS a.toNat).key, (GH_ISOLATED (a.toNat / 32)).key, (LNK_FLAGS a.toNat).key, (LNK_SKEW a.toNat).key, (LNK_STATE a.toNat).key,
      (PWR_ACT_RST_BUSY (a.toNat / 32)).key, PWR_DENIED_WRITES.key, (SPN_STATE (hdaOf (a.toNat))).key, (SRV_ACT_STATE a.toNat).key,
      (WCH_STATE a.toNat).key] [0x1001, 0x1003, 0x1004, 0x1005, 0x1006, 0x1007, 0x8001, 0x8003, 0x8009, 0xA002, 0xA003, 0xA00B, 0xA00E] s t) ∧
  (∀ m a v s t, exec (.feRegWrite m a v) s = .next t →
      t = { s with dn := t.dn, lnks := t.lnks, regs := t.regs } ∧ (∀ b, b ≠ a.toNat → lnk b t = lnk b s) ∧ Only [(LNK_FE_CMD a.toNat).key,
      (LNK_FE_RESULT a.toNat).key, PWR_BAD_ACCESS.key, PWR_DENIED_WRITES.key] [] s t) ∧
  (∀ m a v s t, exec (.feRegRead m a v) s = .next t →
      t = { s with dn := t.dn, lnks := t.lnks, regs := t.regs } ∧ (∀ b, b ≠ a.toNat → lnk b t = lnk b s) ∧ Only [(LNK_FE_CMD a.toNat).key,
      (LNK_FE_RESULT a.toNat).key, PWR_BAD_ACCESS.key, PWR_DENIED_WRITES.key] [] s t) ∧
  (∀ a s t, exec (.feRegWriteRelease a) s = .next t →
      t = { s with dn := t.dn, lnks := t.lnks } ∧ (∀ b, b ≠ a.toNat → lnk b t = lnk b s)) ∧
  (∀ a s t, exec (.feRegTimeout a) s = .next t →
      t = { s with ctrs := t.ctrs, dn := t.dn, lnks := t.lnks, regs := t.regs } ∧ (∀ b, b ≠ a.toNat → lnk b t = lnk b s) ∧
      Only [(LNK_FE_RESULT a.toNat).key] [0x1007] s t) ∧
  (∀ a lane skew s t, exec (.alignBlock a lane skew) s = .next t →
      t = { s with acts := t.acts, ctrs := t.ctrs, dn := t.dn, gh := t.gh, lnks := t.lnks, regs := t.regs, seqs := t.seqs, up := t.up, wOff := t.wOff,
                   hif := { s.hif with sanit := t.hif.sanit, tasks := t.hif.tasks } } ∧ (∀ b, b ≠ a.toNat → act b t = act b s) ∧ (∀ b, b ≠ a.toNat →
      lnk b t = lnk b s) ∧ (∀ b, b ≠ a.toNat → seq b t = seq b s) ∧ (∀ b, b ≠ 4 * a.toNat + lane.toNat → tget {} t.up b = tget {} s.up b) ∧
      OnlyOr (fun k => lodgeKey k) [(GH_ACT_FORCE (a.toNat / 32)).key, (GH_ACT_STATUS a.toNat).key, (GH_ISOLATED (a.toNat / 32)).key, (LNK_FLAGS a.toNat).key,
      (LNK_SKEW a.toNat).key, (LNK_STATE a.toNat).key, (SPN_STATE (hdaOf (a.toNat))).key, (SRV_ACT_STATE a.toNat).key, (WCH_STATE a.toNat).key] [0x1003, 0x1004,
      0x1005, 0xA002, 0xA003] s t)

/-- What each of the commands of reading, writing and the track sequencers leaves unchanged: the other fields of the state, the other instances, the other registers. -/
def Obligations.FramesChannel : Prop :=
  (∀ a ix tooLong s t, exec (.readGateSectorStart a ix tooLong) s = .next t →
      t = { s with chains := t.chains, ctrs := t.ctrs, pool := t.pool, regs := t.regs, seqs := t.seqs } ∧ (∀ b, b ≠ 4 * a.toNat + ix.toNat →
      tget {} t.chains b = tget {} s.chains b) ∧ (∀ b, b ≠ a.toNat → seq b t = seq b s) ∧ OnlyOr (fun k => (∃ i, k = RCH_STAT a.toNat i)) [RCH_DR_STATE.key,
      (RCH_FLAGS a.toNat).key, RCH_POOL_STATE0.key, RCH_POOL_STATE1.key, RCH_POOL_STATE2.key, RCH_POOL_STAT 0] [0x1105] s t) ∧
  (∀ a ix s t, exec (.syncMarkDecision a ix) s = .next t →
      t = { s with chains := t.chains, ctrs := t.ctrs, flips := t.flips, poison := t.poison, pool := t.pool, regs := t.regs, seqs := t.seqs,
                   hif := { s.hif with sanit := t.hif.sanit, tasks := t.hif.tasks } } ∧ (∀ b, b ≠ 4 * a.toNat + ix.toNat →
      tget {} t.chains b = tget {} s.chains b) ∧ (∀ b, b ≠ a.toNat → seq b t = seq b s) ∧ OnlyOr (fun k => (∃ i, k = RCH_STAT a.toNat i)) [BUF_FLIPMASK2.key,
      PWR_BAD_ACCESS.key, RCH_DR_STATE.key, (RCH_FLAGS a.toNat).key, RCH_POOL_STATE0.key, RCH_POOL_STATE1.key, RCH_POOL_STATE2.key] [0x1104, 0x110C] s t) ∧
  (∀ a ix n s t, exec (.sampleQueueOverflow a ix n) s = .next t →
      t = { s with chains := t.chains, ctrs := t.ctrs, pool := t.pool, regs := t.regs } ∧ (∀ b, b ≠ 4 * a.toNat + ix.toNat →
      tget {} t.chains b = tget {} s.chains b) ∧ OnlyOr (fun k => (∃ i, k = (RCH_EQ_TAPS a.toNat ix.toNat i).key)) [(RCH_FLAGS a.toNat).key,
      RCH_STAT a.toNat (8 * 7 + 7)] [0x110B] s t) ∧
  (∀ a ix s t, exec (.codewordStart a ix) s = .next t →
      t = { s with ctrs := t.ctrs, flips := t.flips, gh := t.gh, poison := t.poison, pool := t.pool, poolOrd := t.poolOrd, regs := t.regs, seqs := t.seqs,
                   hif := { s.hif with sanit := t.hif.sanit, tasks := t.hif.tasks } } ∧ (∀ b, b ≠ a.toNat → seq b t = seq b s) ∧
      OnlyOr (fun k => lodgeKey k ∨ (∃ i, k = RCH_STAT a.toNat i)) [BUF_FLIPMASK2.key, ICE_SAT.key, PWR_BAD_ACCESS.key, RCH_DR_STATE.key, (RCH_FLAGS a.toNat).key,
      RCH_POOL_STATE0.key, RCH_POOL_STATE1.key, RCH_POOL_STATE2.key, ICE_HIST 1 (binIter (if false = true then some 0 else none)), RCH_POOL_STAT 1] [0x1102, 0x1103,
      0x1106, 0x1108, 0x8105] s t) ∧
  (∀ a ix s t, exec (.codewordComplete a ix) s = .next t →
      t = { s with chains := t.chains, ctrs := t.ctrs, flips := t.flips, gh := t.gh, poison := t.poison, pool := t.pool, regs := t.regs, seqs := t.seqs,
                   hif := { s.hif with sanit := t.hif.sanit, tasks := t.hif.tasks } } ∧ (∀ b, b ≠ 4 * a.toNat + ix.toNat →
      tget {} t.chains b = tget {} s.chains b) ∧ (∀ b, b ≠ a.toNat → seq b t = seq b s) ∧
      OnlyOr (fun k => lodgeKey k ∨ (∃ i, k = (RCH_EQ_TAPS a.toNat ix.toNat i).key) ∨ (∃ i, k = RCH_STAT a.toNat i)) [BUF_FLIPMASK2.key, PWR_BAD_ACCESS.key,
      RCH_DR_STATE.key, (RCH_FLAGS a.toNat).key, RCH_POOL_STATE0.key, RCH_POOL_STATE1.key, RCH_POOL_STATE2.key] [0x1102, 0x1103] s t) ∧
  (∀ a ix s t, exec (.otfDecodeEnd a ix) s = .next t →
      t = { s with ctrs := t.ctrs, flips := t.flips, gh := t.gh, outqs := t.outqs, poison := t.poison, pool := t.pool, poolOrd := t.poolOrd, regs := t.regs,
                   seqs := t.seqs, hif := { s.hif with sanit := t.hif.sanit, tasks := t.hif.tasks } } ∧ (∀ b, b ≠ a.toNat → outq b t = outq b s) ∧ (∀ b,
      b ≠ a.toNat → seq b t = seq b s) ∧ OnlyOr (fun k => lodgeKey k ∨ (∃ i, k = ICE_HIST 1 i) ∨ (∃ i, k = RCH_STAT a.toNat i)) [BUF_FLIPMASK2.key, ICE_SAT.key,
      PWR_BAD_ACCESS.key, RCH_DR_STATE.key, (RCH_FLAGS a.toNat).key, RCH_POOL_STATE0.key, RCH_POOL_STATE1.key, RCH_POOL_STATE2.key, RCH_POOL_STAT 1] [0x1102,
      0x1103, 0x1106, 0x1109, 0x8105] s t) ∧
  (∀ a place p word corrected s t, exec (.poolEccError a place p word corrected) s = .next t →
      t = { s with chains := t.chains, ctrs := t.ctrs, flips := t.flips, gh := t.gh, outqs := t.outqs, poison := t.poison, pool := t.pool, regs := t.regs,
                   seqs := t.seqs, hif := { s.hif with sanit := t.hif.sanit, tasks := t.hif.tasks } } ∧ (∀ b, b ≠ 4 * a.toNat + p.toNat / 4 % 4 →
      tget {} t.chains b = tget {} s.chains b) ∧ (∀ b, b ≠ a.toNat → outq b t = outq b s) ∧ (∀ b, b ≠ a.toNat → seq b t = seq b s) ∧
      OnlyOr (fun k => lodgeKey k ∨ (∃ i, k = RCH_STAT a.toNat i)) [BUF_FLIPMASK2.key, PWR_BAD_ACCESS.key, RCH_DR_STATE.key, (RCH_FLAGS a.toNat).key,
      RCH_POOL_STATE0.key, RCH_POOL_STATE1.key, RCH_POOL_STATE2.key, RCH_POOL_STAT 6, RCH_POOL_STAT 7] [0x1102, 0x1103, 0x1109, 0x110A] s t) ∧
  (∀ s t, exec .drDispatch s = .next t →
      t = { s with ctrs := t.ctrs, flips := t.flips, gh := t.gh, poison := t.poison, pool := t.pool, regs := t.regs, seqs := t.seqs,
                   hif := { s.hif with sanit := t.hif.sanit, tasks := t.hif.tasks } } ∧
      OnlyOr (fun k => lodgeKey k ∨ (∃ i, k = (RCH_FLAGS i).key) ∨ (∃ i j, k = RCH_STAT i j)) [BUF_FLIPMASK2.key, PWR_BAD_ACCESS.key, RCH_DR_STATE.key,
      RCH_POOL_STATE0.key, RCH_POOL_STATE1.key, RCH_POOL_STATE2.key, RCH_POOL_STAT 3, RCH_POOL_STAT 5] [0x1102, 0x1103] s t) ∧
  (∀ p conv s t, exec (.drAttemptEnd p conv) s = .next t →
      t = { s with ctrs := t.ctrs, flips := t.flips, gh := t.gh, poison := t.poison, pool := t.pool, regs := t.regs, seqs := t.seqs,
                   hif := { s.hif with sanit := t.hif.sanit, tasks := t.hif.tasks } } ∧
      OnlyOr (fun k => lodgeKey k ∨ (∃ i, k = (RCH_FLAGS i).key) ∨ (∃ i j, k = RCH_STAT i j)) [BUF_FLIPMASK2.key, PWR_BAD_ACCESS.key, RCH_DR_STATE.key,
      RCH_POOL_STATE0.key, RCH_POOL_STATE1.key, RCH_POOL_STATE2.key, RCH_POOL_STAT 5] [0x1102, 0x1103] s t) ∧
  (∀ p pass iters info s t, exec (.drRecovered p pass iters info) s = .next t →
      t = { s with ctrs := t.ctrs, outqs := t.outqs, pool := t.pool, regs := t.regs, seqs := t.seqs } ∧
      OnlyOr (fun k => (∃ i j, k = RCH_STAT i j)) [RCH_DR_STATE.key, RCH_POOL_STATE0.key, RCH_POOL_STATE1.key, RCH_POOL_STATE2.key, RCH_POOL_STAT 4] [0x1101] s t) ∧
  (∀ p s t, exec (.retainedWaitAge p) s = .next t →
      t = { s with ctrs := t.ctrs, flips := t.flips, gh := t.gh, poison := t.poison, pool := t.pool, regs := t.regs, seqs := t.seqs,
                   hif := { s.hif with sanit := t.hif.sanit, tasks := t.hif.tasks } } ∧
      OnlyOr (fun k => lodgeKey k ∨ (∃ i, k = (RCH_FLAGS i).key) ∨ (∃ i j, k = RCH_STAT i j)) [BUF_FLIPMASK2.key, PWR_BAD_ACCESS.key, RCH_DR_STATE.key,
      RCH_POOL_STATE0.key, RCH_POOL_STATE1.key, RCH_POOL_STATE2.key, RCH_POOL_STAT 2] [0x1102, 0x1103, 0x1107] s t) ∧
  (∀ a ix s t, exec (.sectorFetch a ix) s = .next t →
      t = { s with regs := t.regs, seqs := t.seqs } ∧ (∀ b, b ≠ a.toNat → seq b t = seq b s) ∧ Only [(WCH_STATE a.toNat).key] [] s t) ∧
  (∀ a ix s t, exec (.codewordEncoded a ix) s = .next t →
      t = { s with regs := t.regs, seqs := t.seqs } ∧ (∀ b, b ≠ a.toNat → seq b t = seq b s) ∧ Only [(WCH_STATE a.toNat).key] [] s t) ∧
  (∀ a ix s t, exec (.sectorSendStart a ix) s = .next t →
      t = { s with ctrs := t.ctrs, dn := t.dn, regs := t.regs, seqs := t.seqs } ∧ (∀ b, b ≠ a.toNat → seq b t = seq b s) ∧
      Only [(WCH_FLAGS a.toNat).key] [0x2003] s t) ∧
  (∀ a ix s t, exec (.servoGuardCut a ix) s = .next t →
      t = { s with ctrs := t.ctrs, regs := t.regs, seqs := t.seqs } ∧ (∀ b, b ≠ a.toNat → seq b t = seq b s) ∧ Only [(WCH_FLAGS a.toNat).key] [0x2004] s t) ∧
  (∀ a ix s t, exec (.writeSectorOutcome a ix) s = .next t →
      t = { s with ctrs := t.ctrs, dn := t.dn, regs := t.regs, seqs := t.seqs, hif := { s.hif with sanit := t.hif.sanit, tasks := t.hif.tasks } } ∧ (∀ b,
      b ≠ a.toNat → seq b t = seq b s) ∧ OnlyOr (fun k => (∃ i, k = WCH_STAT a.toNat i)) [(WCH_FLAGS a.toNat).key, (WCH_PARTIAL0 a.toNat).key,
      (WCH_PARTIAL1 a.toNat).key, (WCH_PARTIAL2 a.toNat).key, (WCH_STATE a.toNat).key] [0x2001, 0x2002] s t) ∧
  (∀ a s t, exec (.uwNop a) s = .next t →
      t = { s with regs := t.regs, seqs := t.seqs } ∧ (∀ b, b ≠ a.toNat → seq b t = seq b s) ∧ Only [(SEQ_BUSY a.toNat).key, (SEQ_CYCLES a.toNat).key,
      (SEQ_STATE a.toNat).key] [] s t) ∧
  (∀ a ra imm s t, exec (.uwLdi a ra imm) s = .next t →
      t = { s with regs := t.regs, seqs := t.seqs } ∧ (∀ b, b ≠ a.toNat → seq b t = seq b s) ∧ Only [(SEQ_BUSY a.toNat).key, (SEQ_CYCLES a.toNat).key,
      (SEQ_STATE a.toNat).key] [] s t) ∧
  (∀ a ra imm s t, exec (.uwLui a ra imm) s = .next t →
      t = { s with regs := t.regs, seqs := t.seqs } ∧ (∀ b, b ≠ a.toNat → seq b t = seq b s) ∧ Only [(SEQ_BUSY a.toNat).key, (SEQ_CYCLES a.toNat).key,
      (SEQ_STATE a.toNat).key] [] s t) ∧
  (∀ a ra rb s t, exec (.uwMov a ra rb) s = .next t →
      t = { s with regs := t.regs, seqs := t.seqs } ∧ (∀ b, b ≠ a.toNat → seq b t = seq b s) ∧ Only [(SEQ_BUSY a.toNat).key, (SEQ_CYCLES a.toNat).key,
      (SEQ_STATE a.toNat).key] [] s t) ∧
  (∀ a ra rb s t, exec (.uwAdd a ra rb) s = .next t →
      t = { s with regs := t.regs, seqs := t.seqs } ∧ (∀ b, b ≠ a.toNat → seq b t = seq b s) ∧ Only [(SEQ_BUSY a.toNat).key, (SEQ_CYCLES a.toNat).key,
      (SEQ_STATE a.toNat).key] [] s t) ∧
  (∀ a ra imm s t, exec (.uwAddi a ra imm) s = .next t →
      t = { s with regs := t.regs, seqs := t.seqs } ∧ (∀ b, b ≠ a.toNat → seq b t = seq b s) ∧ Only [(SEQ_BUSY a.toNat).key, (SEQ_CYCLES a.toNat).key,
      (SEQ_STATE a.toNat).key] [] s t) ∧
  (∀ a ra rb s t, exec (.uwSub a ra rb) s = .next t →
      t = { s with regs := t.regs, seqs := t.seqs } ∧ (∀ b, b ≠ a.toNat → seq b t = seq b s) ∧ Only [(SEQ_BUSY a.toNat).key, (SEQ_CYCLES a.toNat).key,
      (SEQ_STATE a.toNat).key] [] s t) ∧
  (∀ a ra rb s t, exec (.uwAnd a ra rb) s = .next t →
      t = { s with regs := t.regs, seqs := t.seqs } ∧ (∀ b, b ≠ a.toNat → seq b t = seq b s) ∧ Only [(SEQ_BUSY a.toNat).key, (SEQ_CYCLES a.toNat).key,
      (SEQ_STATE a.toNat).key] [] s t) ∧
  (∀ a ra imm s t, exec (.uwAndi a ra imm) s = .next t →
      t = { s with regs := t.regs, seqs := t.seqs } ∧ (∀ b, b ≠ a.toNat → seq b t = seq b s) ∧ Only [(SEQ_BUSY a.toNat).key, (SEQ_CYCLES a.toNat).key,
      (SEQ_STATE a.toNat).key] [] s t) ∧
  (∀ a ra rb s t, exec (.uwOr a ra rb) s = .next t →
      t = { s with regs := t.regs, seqs := t.seqs } ∧ (∀ b, b ≠ a.toNat → seq b t = seq b s) ∧ Only [(SEQ_BUSY a.toNat).key, (SEQ_CYCLES a.toNat).key,
      (SEQ_STATE a.toNat).key] [] s t) ∧
  (∀ a ra imm s t, exec (.uwOri a ra imm) s = .next t →
      t = { s with regs := t.regs, seqs := t.seqs } ∧ (∀ b, b ≠ a.toNat → seq b t = seq b s) ∧ Only [(SEQ_BUSY a.toNat).key, (SEQ_CYCLES a.toNat).key,
      (SEQ_STATE a.toNat).key] [] s t) ∧
  (∀ a ra rb s t, exec (.uwXor a ra rb) s = .next t →
      t = { s with regs := t.regs, seqs := t.seqs } ∧ (∀ b, b ≠ a.toNat → seq b t = seq b s) ∧ Only [(SEQ_BUSY a.toNat).key, (SEQ_CYCLES a.toNat).key,
      (SEQ_STATE a.toNat).key] [] s t) ∧
  (∀ a ra imm s t, exec (.uwShli a ra imm) s = .next t →
      t = { s with regs := t.regs, seqs := t.seqs } ∧ (∀ b, b ≠ a.toNat → seq b t = seq b s) ∧ Only [(SEQ_BUSY a.toNat).key, (SEQ_CYCLES a.toNat).key,
      (SEQ_STATE a.toNat).key] [] s t) ∧
  (∀ a ra imm s t, exec (.uwShri a ra imm) s = .next t →
      t = { s with regs := t.regs, seqs := t.seqs } ∧ (∀ b, b ≠ a.toNat → seq b t = seq b s) ∧ Only [(SEQ_BUSY a.toNat).key, (SEQ_CYCLES a.toNat).key,
      (SEQ_STATE a.toNat).key] [] s t) ∧
  (∀ a ra rb imm s t, exec (.uwInsf a ra rb imm) s = .next t →
      t = { s with regs := t.regs, seqs := t.seqs } ∧ (∀ b, b ≠ a.toNat → seq b t = seq b s) ∧ Only [(SEQ_BUSY a.toNat).key, (SEQ_CYCLES a.toNat).key,
      (SEQ_STATE a.toNat).key] [] s t) ∧
  (∀ a ra rb imm s t, exec (.uwExtf a ra rb imm) s = .next t →
      t = { s with regs := t.regs, seqs := t.seqs } ∧ (∀ b, b ≠ a.toNat → seq b t = seq b s) ∧ Only [(SEQ_BUSY a.toNat).key, (SEQ_CYCLES a.toNat).key,
      (SEQ_STATE a.toNat).key] [] s t) ∧
  (∀ a ra rb imm s t, exec (.uwBeq a ra rb imm) s = .next t →
      t = { s with ctrs := t.ctrs, gh := t.gh, regs := t.regs, seqs := t.seqs, hif := { s.hif with sanit := t.hif.sanit, tasks := t.hif.tasks } } ∧ (∀ b,
      b ≠ a.toNat → seq b t = seq b s) ∧ OnlyOr (fun k => lodgeKey k) [(SEQ_BUSY a.toNat).key, (SEQ_CYCLES a.toNat).key, (SEQ_EVENTS a.toNat).key,
      (SEQ_FAULT a.toNat).key, (SEQ_RES_COUNT a.toNat).key, (SEQ_SLOTS a.toNat).key, (SEQ_STATE a.toNat).key] [0x3003] s t) ∧
  (∀ a ra rb imm s t, exec (.uwBne a ra rb imm) s = .next t →
      t = { s with ctrs := t.ctrs, gh := t.gh, regs := t.regs, seqs := t.seqs, hif := { s.hif with sanit := t.hif.sanit, tasks := t.hif.tasks } } ∧ (∀ b,
      b ≠ a.toNat → seq b t = seq b s) ∧ OnlyOr (fun k => lodgeKey k) [(SEQ_BUSY a.toNat).key, (SEQ_CYCLES a.toNat).key, (SEQ_EVENTS a.toNat).key,
      (SEQ_FAULT a.toNat).key, (SEQ_RES_COUNT a.toNat).key, (SEQ_SLOTS a.toNat).key, (SEQ_STATE a.toNat).key] [0x3003] s t) ∧
  (∀ a ra rb imm s t, exec (.uwBltu a ra rb imm) s = .next t →
      t = { s with ctrs := t.ctrs, gh := t.gh, regs := t.regs, seqs := t.seqs, hif := { s.hif with sanit := t.hif.sanit, tasks := t.hif.tasks } } ∧ (∀ b,
      b ≠ a.toNat → seq b t = seq b s) ∧ OnlyOr (fun k => lodgeKey k) [(SEQ_BUSY a.toNat).key, (SEQ_CYCLES a.toNat).key, (SEQ_EVENTS a.toNat).key,
      (SEQ_FAULT a.toNat).key, (SEQ_RES_COUNT a.toNat).key, (SEQ_SLOTS a.toNat).key, (SEQ_STATE a.toNat).key] [0x3003] s t) ∧
  (∀ a ra rb imm s t, exec (.uwBgeu a ra rb imm) s = .next t →
      t = { s with ctrs := t.ctrs, gh := t.gh, regs := t.regs, seqs := t.seqs, hif := { s.hif with sanit := t.hif.sanit, tasks := t.hif.tasks } } ∧ (∀ b,
      b ≠ a.toNat → seq b t = seq b s) ∧ OnlyOr (fun k => lodgeKey k) [(SEQ_BUSY a.toNat).key, (SEQ_CYCLES a.toNat).key, (SEQ_EVENTS a.toNat).key,
      (SEQ_FAULT a.toNat).key, (SEQ_RES_COUNT a.toNat).key, (SEQ_SLOTS a.toNat).key, (SEQ_STATE a.toNat).key] [0x3003] s t) ∧
  (∀ a ra n imm s t, exec (.uwBbs a ra n imm) s = .next t →
      t = { s with ctrs := t.ctrs, gh := t.gh, regs := t.regs, seqs := t.seqs, hif := { s.hif with sanit := t.hif.sanit, tasks := t.hif.tasks } } ∧ (∀ b,
      b ≠ a.toNat → seq b t = seq b s) ∧ OnlyOr (fun k => lodgeKey k) [(SEQ_BUSY a.toNat).key, (SEQ_CYCLES a.toNat).key, (SEQ_EVENTS a.toNat).key,
      (SEQ_FAULT a.toNat).key, (SEQ_RES_COUNT a.toNat).key, (SEQ_SLOTS a.toNat).key, (SEQ_STATE a.toNat).key] [0x3003] s t) ∧
  (∀ a ra n imm s t, exec (.uwBbc a ra n imm) s = .next t →
      t = { s with ctrs := t.ctrs, gh := t.gh, regs := t.regs, seqs := t.seqs, hif := { s.hif with sanit := t.hif.sanit, tasks := t.hif.tasks } } ∧ (∀ b,
      b ≠ a.toNat → seq b t = seq b s) ∧ OnlyOr (fun k => lodgeKey k) [(SEQ_BUSY a.toNat).key, (SEQ_CYCLES a.toNat).key, (SEQ_EVENTS a.toNat).key,
      (SEQ_FAULT a.toNat).key, (SEQ_RES_COUNT a.toNat).key, (SEQ_SLOTS a.toNat).key, (SEQ_STATE a.toNat).key] [0x3003] s t) ∧
  (∀ a imm s t, exec (.uwJmp a imm) s = .next t →
      t = { s with ctrs := t.ctrs, gh := t.gh, regs := t.regs, seqs := t.seqs, hif := { s.hif with sanit := t.hif.sanit, tasks := t.hif.tasks } } ∧ (∀ b,
      b ≠ a.toNat → seq b t = seq b s) ∧ OnlyOr (fun k => lodgeKey k) [(SEQ_BUSY a.toNat).key, (SEQ_CYCLES a.toNat).key, (SEQ_EVENTS a.toNat).key,
      (SEQ_FAULT a.toNat).key, (SEQ_RES_COUNT a.toNat).key, (SEQ_SLOTS a.toNat).key, (SEQ_STATE a.toNat).key] [0x3003] s t) ∧
  (∀ a imm s t, exec (.uwCall a imm) s = .next t →
      t = { s with ctrs := t.ctrs, gh := t.gh, regs := t.regs, seqs := t.seqs, hif := { s.hif with sanit := t.hif.sanit, tasks := t.hif.tasks } } ∧ (∀ b,
      b ≠ a.toNat → seq b t = seq b s) ∧ OnlyOr (fun k => lodgeKey k) [(SEQ_BUSY a.toNat).key, (SEQ_CYCLES a.toNat).key, (SEQ_EVENTS a.toNat).key,
      (SEQ_FAULT a.toNat).key, (SEQ_RES_COUNT a.toNat).key, (SEQ_SLOTS a.toNat).key, (SEQ_STATE a.toNat).key] [0x3003] s t) ∧
  (∀ a imm s t, exec (.uwRet a imm) s = .next t →
      t = { s with ctrs := t.ctrs, gh := t.gh, regs := t.regs, seqs := t.seqs, hif := { s.hif with sanit := t.hif.sanit, tasks := t.hif.tasks } } ∧ (∀ b,
      b ≠ a.toNat → seq b t = seq b s) ∧ OnlyOr (fun k => lodgeKey k) [(SEQ_BUSY a.toNat).key, (SEQ_CYCLES a.toNat).key, (SEQ_EVENTS a.toNat).key,
      (SEQ_FAULT a.toNat).key, (SEQ_RES_COUNT a.toNat).key, (SEQ_SLOTS a.toNat).key, (SEQ_STATE a.toNat).key] [0x3003] s t) ∧
  (∀ a ra rb imm s t, exec (.uwLd a ra rb imm) s = .next t →
      t = { s with regs := t.regs, seqs := t.seqs } ∧ (∀ b, b ≠ a.toNat → seq b t = seq b s) ∧ Only [(SEQ_BUSY a.toNat).key, (SEQ_CYCLES a.toNat).key,
      (SEQ_STATE a.toNat).key] [] s t) ∧
  (∀ a ra rb imm s t, exec (.uwSt a ra rb imm) s = .next t →
      t = { s with ctrs := t.ctrs, gh := t.gh, regs := t.regs, seqs := t.seqs, hif := { s.hif with sanit := t.hif.sanit, tasks := t.hif.tasks } } ∧ (∀ b,
      b ≠ a.toNat → seq b t = seq b s) ∧ OnlyOr (fun k => lodgeKey k ∨ (∃ i, k = (SEQ_SCRATCH a.toNat i).key)) [(SEQ_BUSY a.toNat).key, (SEQ_CYCLES a.toNat).key,
      (SEQ_EVENTS a.toNat).key, (SEQ_FAULT a.toNat).key, (SEQ_RES_COUNT a.toNat).key, (SEQ_SLOTS a.toNat).key, (SEQ_STATE a.toNat).key] [0x3003] s t) ∧
  (∀ a ra imm s t, exec (.uwLdd a ra imm) s = .next t →
      t = { s with freeCtr := t.freeCtr, regs := t.regs, seqs := t.seqs } ∧ (∀ b, b ≠ a.toNat → seq b t = seq b s) ∧ Only [(SEQ_BUSY a.toNat).key,
      (SEQ_CYCLES a.toNat).key, (SEQ_STATE a.toNat).key] [] s t) ∧
  (∀ a ra imm s t, exec (.uwStd a ra imm) s = .next t →
      t = { s with ctrs := t.ctrs, gh := t.gh, regs := t.regs, seqs := t.seqs, hif := { s.hif with sanit := t.hif.sanit, tasks := t.hif.tasks } } ∧ (∀ b,
      b ≠ a.toNat → seq b t = seq b s) ∧ OnlyOr (fun k => lodgeKey k ∨ (∃ i, k = (SEQ_DESC a.toNat i (imm.toNat % 16)).key)) [(SEQ_BUSY a.toNat).key,
      (SEQ_CYCLES a.toNat).key, (SEQ_EVENTS a.toNat).key, (SEQ_FAULT a.toNat).key, (SEQ_RES_COUNT a.toNat).key, (SEQ_SLOTS a.toNat).key,
      (SEQ_STATE a.toNat).key] [0x3003] s t) ∧
  (∀ a ra imm s t, exec (.uwRdp a ra imm) s = .next t →
      t = { s with freeCtr := t.freeCtr, regs := t.regs, seqs := t.seqs } ∧ (∀ b, b ≠ a.toNat → seq b t = seq b s) ∧ Only [(SEQ_BUSY a.toNat).key,
      (SEQ_CYCLES a.toNat).key, (SEQ_STATE a.toNat).key] [] s t) ∧
  (∀ a ra imm s t, exec (.uwWrp a ra imm) s = .next t →
      t = { s with ctrs := t.ctrs, gh := t.gh, regs := t.regs, seqs := t.seqs, hif := { s.hif with sanit := t.hif.sanit, tasks := t.hif.tasks } } ∧ (∀ b,
      b ≠ a.toNat → seq b t = seq b s) ∧ OnlyOr (fun k => lodgeKey k) [(SEQ_BUSY a.toNat).key, (SEQ_CYCLES a.toNat).key, (SEQ_EVENTS a.toNat).key,
      (SEQ_FAULT a.toNat).key, (SEQ_RES_COUNT a.toNat).key, (SEQ_SLOTS a.toNat).key, (SEQ_STATE a.toNat).key, (SEQ_USER a.toNat).key] [0x3003] s t) ∧
  (∀ a ra rb imm s t, exec (.uwWait a ra rb imm) s = .next t →
      t = { s with ctrs := t.ctrs, gh := t.gh, regs := t.regs, seqs := t.seqs, hif := { s.hif with sanit := t.hif.sanit, tasks := t.hif.tasks } } ∧ (∀ b,
      b ≠ a.toNat → seq b t = seq b s) ∧ OnlyOr (fun k => lodgeKey k) [(SEQ_BUSY a.toNat).key, (SEQ_CYCLES a.toNat).key, (SEQ_EVENTS a.toNat).key,
      (SEQ_FAULT a.toNat).key, (SEQ_RES_COUNT a.toNat).key, (SEQ_SLOTS a.toNat).key, (SEQ_STATE a.toNat).key] [0x3003] s t) ∧
  (∀ a s t, exec (.waitEnd a) s = .next t →
      t = { s with regs := t.regs, seqs := t.seqs } ∧ (∀ b, b ≠ a.toNat → seq b t = seq b s) ∧ Only [(SEQ_STATE a.toNat).key] [] s t) ∧
  (∀ a s t, exec (.waitTimeout a) s = .next t →
      t = { s with ctrs := t.ctrs, gh := t.gh, regs := t.regs, seqs := t.seqs, hif := { s.hif with sanit := t.hif.sanit, tasks := t.hif.tasks } } ∧ (∀ b,
      b ≠ a.toNat → seq b t = seq b s) ∧ OnlyOr (fun k => lodgeKey k) [(SEQ_EVENTS a.toNat).key, (SEQ_FAULT a.toNat).key, (SEQ_RES_COUNT a.toNat).key,
      (SEQ_SLOTS a.toNat).key, (SEQ_STATE a.toNat).key] [0x3003] s t) ∧
  (∀ a ra rb s t, exec (.uwGate a ra rb) s = .next t →
      t = { s with ctrs := t.ctrs, gh := t.gh, regs := t.regs, seqs := t.seqs, hif := { s.hif with sanit := t.hif.sanit, tasks := t.hif.tasks } } ∧ (∀ b,
      b ≠ a.toNat → seq b t = seq b s) ∧ OnlyOr (fun k => lodgeKey k) [(SEQ_BUSY a.toNat).key, (SEQ_CYCLES a.toNat).key, (SEQ_EVENTS a.toNat).key,
      (SEQ_FAULT a.toNat).key, (SEQ_RES_COUNT a.toNat).key, (SEQ_SLOTS a.toNat).key, (SEQ_STATE a.toNat).key] [0x3003] s t) ∧
  (∀ a s t, exec (.gateStallEnd a) s = .next t →
      t = { s with regs := t.regs, seqs := t.seqs } ∧ (∀ b, b ≠ a.toNat → seq b t = seq b s) ∧ Only [(SEQ_EVENTS a.toNat).key, (SEQ_RES_COUNT a.toNat).key,
      (SEQ_STATE a.toNat).key] [] s t) ∧
  (∀ a ra rb s t, exec (.uwSeek a ra rb) s = .next t →
      t = { s with acts := t.acts, ctrs := t.ctrs, freeCtr := t.freeCtr, loops := t.loops, regs := t.regs, seqs := t.seqs, wOff := t.wOff } ∧ (∀ b, b ≠ a.toNat →
      act b t = act b s) ∧ (∀ b, b ≠ a.toNat → seq b t = seq b s) ∧ Only [(SEQ_BUSY a.toNat).key, (SEQ_CYCLES a.toNat).key, (SEQ_STATE a.toNat).key,
      (SPN_STATE (hdaOf (a.toNat))).key, (SRV_ACT_FLAGS a.toNat).key, (SRV_ACT_STATE a.toNat).key, (SRV_SEEK_COUNT a.toNat).key, (SRV_SEEK_REPLACED a.toNat).key,
      (WCH_STATE a.toNat).key] [0x4003, 0x4009] s t) ∧
  (∀ a ra rb s t, exec (.uwZone a ra rb) s = .next t →
      t = { s with dn := t.dn, lnks := t.lnks, regs := t.regs, seqs := t.seqs } ∧ (∀ b, b ≠ a.toNat → lnk b t = lnk b s) ∧ (∀ b, b ≠ a.toNat → seq b t = seq b s) ∧
      Only [(SEQ_BUSY a.toNat).key, (SEQ_CYCLES a.toNat).key, (SEQ_STATE a.toNat).key] [] s t) ∧
  (∀ a s t, exec (.zoneComplete a) s = .next t →
      t = { s with dn := t.dn, lnks := t.lnks, regs := t.regs, seqs := t.seqs } ∧ (∀ b, b ≠ a.toNat → lnk b t = lnk b s) ∧ (∀ b, b ≠ a.toNat → seq b t = seq b s) ∧
      Only [(SEQ_STATE a.toNat).key] [] s t) ∧
  (∀ a ra s t, exec (.uwOutq a ra) s = .next t →
      t = { s with regs := t.regs, seqs := t.seqs } ∧ (∀ b, b ≠ a.toNat → seq b t = seq b s) ∧ Only [(SEQ_BUSY a.toNat).key, (SEQ_CYCLES a.toNat).key,
      (SEQ_STATE a.toNat).key] [] s t) ∧
  (∀ a ra rb imm s t, exec (.uwPost a ra rb imm) s = .next t →
      t = { s with ctrs := t.ctrs, freeCtr := t.freeCtr, gh := t.gh, regs := t.regs, seqs := t.seqs, hif := { s.hif with sanit := t.hif.sanit,
                                                                                                                         tasks := t.hif.tasks } } ∧ (∀ b,
      b ≠ a.toNat → seq b t = seq b s) ∧ OnlyOr (fun k => lodgeKey k) [(SEQ_BUSY a.toNat).key, (SEQ_CYCLES a.toNat).key, (SEQ_EVENTS a.toNat).key,
      (SEQ_FAULT a.toNat).key, (SEQ_RES_COUNT a.toNat).key, (SEQ_SLOTS a.toNat).key, (SEQ_STATE a.toNat).key] [0x3003, 0x3007] s t) ∧
  (∀ a ra s t, exec (.uwNext a ra) s = .next t →
      t = { s with ctrs := t.ctrs, gh := t.gh, regs := t.regs, seqs := t.seqs, hif := { s.hif with sanit := t.hif.sanit, tasks := t.hif.tasks } } ∧ (∀ b,
      b ≠ a.toNat → seq b t = seq b s) ∧ OnlyOr (fun k => lodgeKey k) [(SEQ_BUSY a.toNat).key, (SEQ_CYCLES a.toNat).key, (SEQ_EVENTS a.toNat).key,
      (SEQ_FAULT a.toNat).key, (SEQ_RES_COUNT a.toNat).key, (SEQ_SLOTS a.toNat).key, (SEQ_STATE a.toNat).key] [0x3003] s t) ∧
  (∀ a ra rb s t, exec (.uwDone a ra rb) s = .next t →
      t = { s with ctrs := t.ctrs, gh := t.gh, regs := t.regs, seqs := t.seqs, hif := { s.hif with sanit := t.hif.sanit, tasks := t.hif.tasks } } ∧ (∀ b,
      b ≠ a.toNat → seq b t = seq b s) ∧ OnlyOr (fun k => lodgeKey k) [(SEQ_BUSY a.toNat).key, (SEQ_CYCLES a.toNat).key, (SEQ_EVENTS a.toNat).key,
      (SEQ_FAULT a.toNat).key, (SEQ_RES_COUNT a.toNat).key, (SEQ_SLOTS a.toNat).key, (SEQ_STATE a.toNat).key] [0x3003, 0x3008] s t) ∧
  (∀ a imm s t, exec (.uwTrap a imm) s = .next t →
      t = { s with ctrs := t.ctrs, gh := t.gh, regs := t.regs, seqs := t.seqs, hif := { s.hif with sanit := t.hif.sanit, tasks := t.hif.tasks } } ∧ (∀ b,
      b ≠ a.toNat → seq b t = seq b s) ∧ OnlyOr (fun k => lodgeKey k) [(SEQ_BUSY a.toNat).key, (SEQ_CYCLES a.toNat).key, (SEQ_EVENTS a.toNat).key,
      (SEQ_FAULT a.toNat).key, (SEQ_RES_COUNT a.toNat).key, (SEQ_SLOTS a.toNat).key, (SEQ_STATE a.toNat).key] [0x3003] s t) ∧
  (∀ a w s t, exec (.uwIllegal a w) s = .next t →
      t = { s with ctrs := t.ctrs, gh := t.gh, regs := t.regs, seqs := t.seqs, hif := { s.hif with sanit := t.hif.sanit, tasks := t.hif.tasks } } ∧ (∀ b,
      b ≠ a.toNat → seq b t = seq b s) ∧ OnlyOr (fun k => lodgeKey k) [(SEQ_BUSY a.toNat).key, (SEQ_CYCLES a.toNat).key, (SEQ_EVENTS a.toNat).key,
      (SEQ_FAULT a.toNat).key, (SEQ_RES_COUNT a.toNat).key, (SEQ_SLOTS a.toNat).key, (SEQ_STATE a.toNat).key] [0x3003] s t) ∧
  (∀ a s t, exec (.allotWatchdog a) s = .next t →
      t = { s with ctrs := t.ctrs, gh := t.gh, regs := t.regs, seqs := t.seqs, hif := { s.hif with sanit := t.hif.sanit, tasks := t.hif.tasks } } ∧ (∀ b,
      b ≠ a.toNat → seq b t = seq b s) ∧ OnlyOr (fun k => lodgeKey k) [(SEQ_EVENTS a.toNat).key, (SEQ_FAULT a.toNat).key, (SEQ_RES_COUNT a.toNat).key,
      (SEQ_SLOTS a.toNat).key, (SEQ_STATE a.toNat).key] [0x3003, 0x3004] s t) ∧
  (∀ a corrected s t, exec (.storeEccError a corrected) s = .next t →
      t = { s with ctrs := t.ctrs, gh := t.gh, regs := t.regs, seqs := t.seqs, hif := { s.hif with sanit := t.hif.sanit, tasks := t.hif.tasks } } ∧ (∀ b,
      b ≠ a.toNat → seq b t = seq b s) ∧ OnlyOr (fun k => lodgeKey k) [(SEQ_EVENTS a.toNat).key, (SEQ_FAULT a.toNat).key, (SEQ_RES_COUNT a.toNat).key,
      (SEQ_SLOTS a.toNat).key, (SEQ_STATE a.toNat).key] [0x3003] s t) ∧
  (∀ a ix s t, exec (.gateEntryOpen a ix) s = .next t →
      t = { s with regs := t.regs, seqs := t.seqs, hif := { s.hif with sanit := t.hif.sanit, tasks := t.hif.tasks } } ∧ (∀ b, b ≠ a.toNat → seq b t = seq b s) ∧
      Only [(WCH_STATE a.toNat).key] [] s t) ∧
  (∀ m a v s t, exec (.seqPost m a v) s = .next t →
      t = { s with ctrs := t.ctrs, regs := t.regs, seqs := t.seqs } ∧ (∀ b, b ≠ a.toNat → seq b t = seq b s) ∧ Only [PWR_BAD_ACCESS.key, PWR_DENIED_WRITES.key,
      (SEQ_EVENTS a.toNat).key, (SEQ_POST a.toNat).key, (SEQ_SLOTS a.toNat).key] [0x3001] s t) ∧
  (∀ m a v s t, exec (.seqCancel m a v) s = .next t →
      t = { s with ctrs := t.ctrs, regs := t.regs, seqs := t.seqs } ∧ (∀ b, b ≠ a.toNat → seq b t = seq b s) ∧ Only [PWR_BAD_ACCESS.key, PWR_DENIED_WRITES.key,
      (SEQ_CANCEL a.toNat).key, (SEQ_EVENTS a.toNat).key, (SEQ_RES_COUNT a.toNat).key, (SEQ_SLOTS a.toNat).key] [0x3008] s t) ∧
  (∀ m a s t, exec (.seqRun m a) s = .next t →
      t = { s with ctrs := t.ctrs, regs := t.regs, seqs := t.seqs, hif := { s.hif with sanit := t.hif.sanit, tasks := t.hif.tasks } } ∧ (∀ b, b ≠ a.toNat →
      seq b t = seq b s) ∧ Only [PWR_BAD_ACCESS.key, PWR_DENIED_WRITES.key, (SEQ_EVENTS a.toNat).key, (SEQ_STATE a.toNat).key] [0x3002] s t) ∧
  (∀ m a s t, exec (.seqHalt m a) s = .next t →
      t = { s with ctrs := t.ctrs, regs := t.regs, seqs := t.seqs, hif := { s.hif with sanit := t.hif.sanit, tasks := t.hif.tasks } } ∧ (∀ b, b ≠ a.toNat →
      seq b t = seq b s) ∧ Only [PWR_BAD_ACCESS.key, PWR_DENIED_WRITES.key, (SEQ_EVENTS a.toNat).key, (SEQ_STATE a.toNat).key] [0x3002] s t) ∧
  (∀ m a s t, exec (.seqReload m a) s = .next t →
      t = { s with ctrs := t.ctrs, regs := t.regs, seqs := t.seqs, hif := { s.hif with sanit := t.hif.sanit, tasks := t.hif.tasks } } ∧ (∀ b, b ≠ a.toNat →
      seq b t = seq b s) ∧ Only [PWR_BAD_ACCESS.key, PWR_DENIED_WRITES.key, (SEQ_EVENTS a.toNat).key, (SEQ_STATE a.toNat).key] [0x3002] s t) ∧
  (∀ m a s t, exec (.resultRecordRead m a) s = .next t →
      t = { s with rdata := t.rdata, regs := t.regs, seqs := t.seqs } ∧ (∀ b, b ≠ a.toNat → seq b t = seq b s) ∧ Only [PWR_BAD_ACCESS.key, (SEQ_RES1 a.toNat).key,
      (SEQ_RES_COUNT a.toNat).key] [] s t) ∧
  (∀ m a z hi v s t, exec (.seqFmtWrite m a z hi v) s = .next t →
      t = { s with regs := t.regs } ∧ Only [PWR_BAD_ACCESS.key, PWR_DENIED_WRITES.key, (SEQ_FMT0 a.toNat z.toNat).key, (SEQ_FMT1 a.toNat z.toNat).key] [] s t) ∧
  (∀ m s t, exec (.loadVerify m) s = .next t →
      t = { s with regs := t.regs, seqStaged := t.seqStaged } ∧ Only [PWR_DENIED_WRITES.key, SEQ_LOAD_STATUS.key] [] s t) ∧
  (∀ s t, exec .loadVerifyEnd s = .next t →
      t = { s with ctrs := t.ctrs, regs := t.regs, seqStaged := t.seqStaged } ∧ Only [SEQ_LOAD_STATUS.key] [0x3006] s t) ∧
  (∀ m s t, exec (.loadCommit m) s = .next t →
      t = { s with ctrs := t.ctrs, regs := t.regs, seqMaster := t.seqMaster, seqStaged := t.seqStaged } ∧
      OnlyOr (fun k => (∃ i, k = (SEC_MEAS 3 i).key) ∨ (∃ i, k = (SEC_MEAS 4 i).key) ∨ (∃ i j, k = (SEC_MLOG i j).key) ∨ (∃ i, k = (SEQ_STATE i).key)) [PWR_DENIED_WRITES.key,
      SEC_MLOG_COUNT.key, SEQ_IMAGE_ID.key, SEQ_LOAD_STATUS.key] [0xB007] s t) ∧
  (∀ a s t, exec (.seqStoreReload a) s = .next t →
      t = { s with ctrs := t.ctrs, regs := t.regs, seqs := t.seqs } ∧ (∀ b, b ≠ a.toNat → seq b t = seq b s) ∧ Only [(SEQ_ALLOT a.toNat).key,
      (SEQ_STATE a.toNat).key] [0x3005] s t) ∧
  (∀ c req refresh gap s t, outOn c.toNat s = [] → exec (.dramSlot c req refresh gap) s = .next t → SameBytes (fun _ => False) s t) ∧
  (∀ c req refresh gap a l x r e s t, outOn c.toNat s = a :: l → outq a s = x :: r → flyGet a x.id s = some e → exec (.dramSlot c req refresh gap) s = .next t →
      SameBytes (fun y => e.addr ≤ y ∧ y < e.addr + x.user.length) s t)

/-- What each of the commands of the buffer cache, the host interface and the NV store leaves unchanged: the other fields of the state, the other instances, the other registers. -/
def Obligations.FramesStorageHost : Prop :=
  (∀ s t, exec .perst s = .next t →
      t = { s with ctrs := t.ctrs, hif := t.hif, ksk := t.ksk, msix := t.msix, plat := t.plat, regs := t.regs, replies := t.replies, sdl := t.sdl, seqs := t.seqs,
                   snap := t.snap } ∧
      OnlyOr (fun k => coreKey k ∨ (∃ i j, k = (KSK_DISC i j).key) ∨ (∃ i j, k = (KSK_IRQ i j).key) ∨ (∃ i j, k = (KSK_IRQ_EN i j).key) ∨ (∃ i, k = (SEQ_EVENTS i).key) ∨ (∃ i, k = (SEQ_RES_COUNT i).key) ∨ (∃ i, k = (SEQ_SLOTS i).key) ∨ inDoms [.pcie,
      .nvme] k = true) [HIF_TT_STATE.key, PWR_RESET_CAUSE.key] [0x3008, 0x7003, 0x8001, 0x8002] s t) ∧
  (∀ s t, exec .functionLevelReset s = .next t →
      t = { s with ctrs := t.ctrs, regs := t.regs, seqs := t.seqs, snap := t.snap, hif := { s.hif with act := t.hif.act, aerEv := t.hif.aerEv, aerQ := t.hif.aerQ,
                                                                                                       aers := t.hif.aers, arb := t.hif.arb, arbCls := t.hif.arbCls,
                                                                                                       cfg := t.hif.cfg, commit := t.hif.commit, cpls := t.hif.cpls,
                                                                                                       cqs := t.hif.cqs, crs := t.hif.crs, en := t.hif.en,
                                                                                                       ends := t.hif.ends, feats := t.hif.feats,
                                                                                                       msixPba := t.hif.msixPba, msixTab := t.hif.msixTab,
                                                                                                       rdy := t.hif.rdy, regs := t.hif.regs, shut := t.hif.shut,
                                                                                                       sqs := t.hif.sqs, tasks := t.hif.tasks, xfers := t.hif.xfers,
                                                                                                       xres := t.hif.xres } } ∧
      OnlyOr (fun k => (∃ i, k = (SEQ_EVENTS i).key) ∨ (∃ i, k = (SEQ_RES_COUNT i).key) ∨ (∃ i, k = (SEQ_SLOTS i).key) ∨ inDoms [.nvme] k = true) [HIF_TT_STATE.key] [0x3008,
      0x7003] s t) ∧
  (∀ s t, exec .controllerReset s = .next t →
      t = { s with ctrs := t.ctrs, regs := t.regs, seqs := t.seqs, snap := t.snap, hif := { s.hif with act := t.hif.act, aerEv := t.hif.aerEv, aers := t.hif.aers,
                                                                                                       arb := t.hif.arb, arbCls := t.hif.arbCls,
                                                                                                       commit := t.hif.commit, cpls := t.hif.cpls, cqs := t.hif.cqs,
                                                                                                       en := t.hif.en, ends := t.hif.ends, feats := t.hif.feats,
                                                                                                       rdy := t.hif.rdy, regs := t.hif.regs, shut := t.hif.shut,
                                                                                                       sqs := t.hif.sqs, tasks := t.hif.tasks, xfers := t.hif.xfers,
                                                                                                       xres := t.hif.xres } } ∧
      OnlyOr (fun k => (∃ i, k = (SEQ_EVENTS i).key) ∨ (∃ i, k = (SEQ_RES_COUNT i).key) ∨ (∃ i, k = (SEQ_SLOTS i).key) ∨ inDoms [.nvme] k = true) [HIF_TT_STATE.key] [0x3008,
      0x7003] s t) ∧
  (∀ v s t, exec (.ccEnable v) s = .next t →
      t = { s with hif := { s.hif with cqs := t.hif.cqs, en := t.hif.en, rdy := t.hif.rdy, regs := t.hif.regs, shut := t.hif.shut, sqs := t.hif.sqs } }) ∧
  (∀ c v s t, exec (.lookupRead c v) s = .next t →
      t = { s with ctrs := t.ctrs, regs := t.regs, buf := { s.buf with det := t.buf.det, mWait := t.buf.mWait, raq := t.buf.raq, rr := t.buf.rr, setW := t.buf.setW,
                                                                       stamp := t.buf.stamp, tags := t.buf.tags, wakes := t.buf.wakes, wbRun := t.buf.wbRun,
                                                                       wbq := t.buf.wbq } } ∧ OnlyOr (fun k => (∃ i, k = BUF_STATS i)) [BUF_CLASS_STATUS.key,
      BUF_FLAGS.key, (BUF_TE_CMD c.toNat).key, (BUF_TE_RES0 c.toNat).key, (BUF_TE_RES1 c.toNat).key, PWR_DENIED_WRITES.key] [0x6001, 0x6002] s t) ∧
  (∀ c v s t, exec (.lookupWrite c v) s = .next t →
      t = { s with ctrs := t.ctrs, regs := t.regs, buf := { s.buf with det := t.buf.det, mWait := t.buf.mWait, raq := t.buf.raq, rr := t.buf.rr, setW := t.buf.setW,
                                                                       stamp := t.buf.stamp, tags := t.buf.tags, wakes := t.buf.wakes, wbRun := t.buf.wbRun,
                                                                       wbq := t.buf.wbq } } ∧ OnlyOr (fun k => (∃ i, k = BUF_STATS i)) [BUF_CLASS_STATUS.key,
      BUF_FLAGS.key, (BUF_TE_CMD c.toNat).key, (BUF_TE_RES0 c.toNat).key, (BUF_TE_RES1 c.toNat).key, PWR_DENIED_WRITES.key] [0x6001, 0x6002] s t) ∧
  (∀ c v s t, exec (.tagCommit c v) s = .next t →
      t = { s with ctrs := t.ctrs, regs := t.regs, buf := { s.buf with det := t.buf.det, mWait := t.buf.mWait, raq := t.buf.raq, rr := t.buf.rr, setW := t.buf.setW,
                                                                       stamp := t.buf.stamp, tags := t.buf.tags, wakes := t.buf.wakes, wbRun := t.buf.wbRun,
                                                                       wbq := t.buf.wbq } } ∧ OnlyOr (fun k => (∃ i, k = BUF_STATS i)) [BUF_CLASS_STATUS.key,
      BUF_FLAGS.key, (BUF_TE_CMD c.toNat).key, (BUF_TE_RES0 c.toNat).key, (BUF_TE_RES1 c.toNat).key, PWR_DENIED_WRITES.key] [0x6001, 0x6002] s t) ∧
  (∀ c v s t, exec (.tagRelease c v) s = .next t →
      t = { s with ctrs := t.ctrs, regs := t.regs, buf := { s.buf with det := t.buf.det, mWait := t.buf.mWait, raq := t.buf.raq, rr := t.buf.rr, setW := t.buf.setW,
                                                                       stamp := t.buf.stamp, tags := t.buf.tags, wakes := t.buf.wakes, wbRun := t.buf.wbRun,
                                                                       wbq := t.buf.wbq } } ∧ OnlyOr (fun k => (∃ i, k = BUF_STATS i)) [BUF_CLASS_STATUS.key,
      BUF_FLAGS.key, (BUF_TE_CMD c.toNat).key, (BUF_TE_RES0 c.toNat).key, (BUF_TE_RES1 c.toNat).key, PWR_DENIED_WRITES.key] [0x6001, 0x6002] s t) ∧
  (∀ c v s t, exec (.fillDone c v) s = .next t →
      t = { s with ctrs := t.ctrs, regs := t.regs, buf := { s.buf with det := t.buf.det, mWait := t.buf.mWait, raq := t.buf.raq, rr := t.buf.rr, setW := t.buf.setW,
                                                                       stamp := t.buf.stamp, tags := t.buf.tags, wakes := t.buf.wakes, wbRun := t.buf.wbRun,
                                                                       wbq := t.buf.wbq } } ∧ OnlyOr (fun k => (∃ i, k = BUF_STATS i)) [BUF_CLASS_STATUS.key,
      BUF_FLAGS.key, (BUF_TE_CMD c.toNat).key, (BUF_TE_RES0 c.toNat).key, (BUF_TE_RES1 c.toNat).key, PWR_DENIED_WRITES.key] [0x6001, 0x6002] s t) ∧
  (∀ s t, exec .writebackRequest s = .next t →
      t = { s with ctrs := t.ctrs, regs := t.regs, buf := { s.buf with mWait := t.buf.mWait, tags := t.buf.tags, wbRun := t.buf.wbRun, wbq := t.buf.wbq } } ∧
      Only [BUF_CLASS_STATUS.key] [0x6001, 0x6002] s t) ∧
  (∀ set w s t, exec (.dirtyAgeExpired set w) s = .next t →
      t = { s with ctrs := t.ctrs, regs := t.regs, buf := { s.buf with mWait := t.buf.mWait, tags := t.buf.tags, wbRun := t.buf.wbRun, wbq := t.buf.wbq } } ∧
      Only [BUF_CLASS_STATUS.key] [0x6001, 0x6002] s t) ∧
  (∀ s t, exec .wbRequestRead s = .next t →
      t = { s with rdata := t.rdata, regs := t.regs, buf := { s.buf with wbq := t.buf.wbq } } ∧ Only [BUF_WB_REQ1.key, BUF_WB_REQ2.key] [] s t) ∧
  (∀ m v s t, exec (.wbDone m v) s = .next t →
      t = { s with ctrs := t.ctrs, regs := t.regs, buf := { s.buf with mWait := t.buf.mWait, setW := t.buf.setW, tags := t.buf.tags, wakes := t.buf.wakes,
                                                                       wbRun := t.buf.wbRun, wbq := t.buf.wbq } } ∧ Only [BUF_CLASS_STATUS.key,
      BUF_MAINT_STATUS.key, BUF_WB_DONE.key, PWR_DENIED_WRITES.key, BUF_STATS 10, BUF_STATS 7] [0x6001, 0x6002] s t) ∧
  (∀ c s t, exec (.wakeRead c) s = .next t →
      t = { s with rdata := t.rdata, buf := { s.buf with wakes := t.buf.wakes } }) ∧
  (∀ s t, exec .raRequestRead s = .next t →
      t = { s with rdata := t.rdata, regs := t.regs, buf := { s.buf with raq := t.buf.raq } } ∧ Only [BUF_RA_REQ1.key] [] s t) ∧
  (∀ m on s t, exec (.wrEn m on) s = .next t →
      t = { s with ctrs := t.ctrs, regs := t.regs, buf := { s.buf with wbRun := t.buf.wbRun } } ∧ Only [BUF_CLASS_CTL.key, BUF_CLASS_STATUS.key,
      PWR_DENIED_WRITES.key] [0x6002] s t) ∧
  (∀ m on s t, exec (.rdEn m on) s = .next t →
      t = { s with regs := t.regs } ∧ Only [BUF_CLASS_CTL.key, BUF_CLASS_STATUS.key, PWR_DENIED_WRITES.key] [] s t) ∧
  (∀ m w s t, exec (.wayDisable m w) s = .next t →
      t = { s with ctrs := t.ctrs, plat := t.plat, regs := t.regs } ∧ Only [BUF_WAY_CTL.key, BUF_WAY_STATE.key, PWR_DENIED_WRITES.key] [0x6008] s t) ∧
  (∀ m w s t, exec (.wayEnable m w) s = .next t →
      t = { s with ctrs := t.ctrs, plat := t.plat, regs := t.regs } ∧ Only [BUF_WAY_CTL.key, BUF_WAY_STATE.key, PWR_DENIED_WRITES.key] [0x6008] s t) ∧
  (∀ w s t, exec (.wayOff w) s = .next t →
      t = { s with ctrs := t.ctrs, plat := t.plat, regs := t.regs, buf := { s.buf with setW := t.buf.setW, tags := t.buf.tags, wakes := t.buf.wakes } } ∧
      Only [BUF_WAY_STATE.key] [0x6003] s t) ∧
  (∀ w s t, exec (.wayOn w) s = .next t →
      t = { s with regs := t.regs, buf := { s.buf with setW := t.buf.setW, wakes := t.buf.wakes } } ∧ Only [BUF_WAY_STATE.key] [] s t) ∧
  (∀ m v s t, exec (.maintInval m v) s = .next t →
      t = { s with ctrs := t.ctrs, regs := t.regs, buf := { s.buf with cleans := t.buf.cleans, mOp := t.buf.mOp, mWait := t.buf.mWait, setW := t.buf.setW,
                                                                       tags := t.buf.tags, wakes := t.buf.wakes, wbRun := t.buf.wbRun, wbq := t.buf.wbq } } ∧
      Only [BUF_CLASS_STATUS.key, BUF_MAINT_CTL.key, BUF_MAINT_STATUS.key, PWR_DENIED_WRITES.key, BUF_STATS 10] [0x6001, 0x6002] s t) ∧
  (∀ m v s t, exec (.maintClean m v) s = .next t →
      t = { s with ctrs := t.ctrs, regs := t.regs, buf := { s.buf with cleans := t.buf.cleans, mOp := t.buf.mOp, mWait := t.buf.mWait, setW := t.buf.setW,
                                                                       tags := t.buf.tags, wakes := t.buf.wakes, wbRun := t.buf.wbRun, wbq := t.buf.wbq } } ∧
      Only [BUF_CLASS_STATUS.key, BUF_MAINT_CTL.key, BUF_MAINT_STATUS.key, PWR_DENIED_WRITES.key, BUF_STATS 10] [0x6001, 0x6002] s t) ∧
  (∀ m v s t, exec (.maintCleanInval m v) s = .next t →
      t = { s with ctrs := t.ctrs, regs := t.regs, buf := { s.buf with cleans := t.buf.cleans, mOp := t.buf.mOp, mWait := t.buf.mWait, setW := t.buf.setW,
                                                                       tags := t.buf.tags, wakes := t.buf.wakes, wbRun := t.buf.wbRun, wbq := t.buf.wbq } } ∧
      Only [BUF_CLASS_STATUS.key, BUF_MAINT_CTL.key, BUF_MAINT_STATUS.key, PWR_DENIED_WRITES.key, BUF_STATS 10] [0x6001, 0x6002] s t) ∧
  (∀ m v s t, exec (.maintDiscard m v) s = .next t →
      t = { s with ctrs := t.ctrs, regs := t.regs, buf := { s.buf with cleans := t.buf.cleans, mOp := t.buf.mOp, mWait := t.buf.mWait, setW := t.buf.setW,
                                                                       tags := t.buf.tags, wakes := t.buf.wakes, wbRun := t.buf.wbRun, wbq := t.buf.wbq } } ∧
      Only [BUF_CLASS_STATUS.key, BUF_MAINT_CTL.key, BUF_MAINT_STATUS.key, PWR_DENIED_WRITES.key, BUF_STATS 10] [0x6001, 0x6002] s t) ∧
  (∀ m v s t, exec (.maintInvalClass m v) s = .next t →
      t = { s with ctrs := t.ctrs, regs := t.regs, buf := { s.buf with cleans := t.buf.cleans, mOp := t.buf.mOp, mWait := t.buf.mWait, setW := t.buf.setW,
                                                                       tags := t.buf.tags, wakes := t.buf.wakes, wbRun := t.buf.wbRun, wbq := t.buf.wbq } } ∧
      Only [BUF_CLASS_STATUS.key, BUF_MAINT_CTL.key, BUF_MAINT_STATUS.key, PWR_DENIED_WRITES.key, BUF_STATS 10] [0x6001, 0x6002] s t) ∧
  (∀ m v s t, exec (.maintCleanAll m v) s = .next t →
      t = { s with ctrs := t.ctrs, regs := t.regs, buf := { s.buf with cleans := t.buf.cleans, mOp := t.buf.mOp, mWait := t.buf.mWait, setW := t.buf.setW,
                                                                       tags := t.buf.tags, wakes := t.buf.wakes, wbRun := t.buf.wbRun, wbq := t.buf.wbq } } ∧
      Only [BUF_CLASS_STATUS.key, BUF_MAINT_CTL.key, BUF_MAINT_STATUS.key, PWR_DENIED_WRITES.key, BUF_STATS 10] [0x6001, 0x6002] s t) ∧
  (∀ s t, exec .maintEnd s = .next t →
      t = { s with ctrs := t.ctrs, regs := t.regs, buf := { s.buf with cleaned := t.buf.cleaned, mOp := t.buf.mOp, mWait := t.buf.mWait } } ∧
      Only [BUF_CLASS_STATUS.key, BUF_MAINT_STATUS.key] [0x6007] s t) ∧
  (∀ c req refresh gap s t, exec (.dramSlot c req refresh gap) s = .next t →
      t = { s with ctrs := t.ctrs, dram := t.dram, flips := t.flips, mem := t.mem, outqs := t.outqs, poison := t.poison, regs := t.regs, seqs := t.seqs,
                   hif := { s.hif with sanit := t.hif.sanit, tasks := t.hif.tasks } } ∧ (∀ b, b ≠ c.toNat → tget {} t.dram b = tget {} s.dram b) ∧
      OnlyOr (fun k => (∃ i, k = BUF_BW c.toNat i)) [BUF_FLIPMASK2.key, PWR_BAD_ACCESS.key] [] s t) ∧
  (∀ addr corrected s t, exec (.dramEccError addr corrected) s = .next t →
      t = { s with ctrs := t.ctrs, dram := t.dram, flips := t.flips, mem := t.mem, poison := t.poison, regs := t.regs } ∧ (∀ b, b ≠ dramChan (addr.toNat / 8 * 8) →
      tget {} t.dram b = tget {} s.dram b) ∧ Only [(BUF_ECC_ADDR_HI (dramChan (addr.toNat / 8 * 8))).key, (BUF_ECC_ADDR_LO (dramChan (addr.toNat / 8 * 8))).key,
      (BUF_ECC_CORR (dramChan (addr.toNat / 8 * 8))).key, (BUF_ECC_UNCORR (dramChan (addr.toNat / 8 * 8))).key, BUF_FLAGS.key] [0x6004] s t) ∧
  (∀ set w corrected s t, exec (.tagEccError set w corrected) s = .next t →
      t = { s with ctrs := t.ctrs, freeCtr := t.freeCtr, gh := t.gh, regs := t.regs, buf := { s.buf with setW := t.buf.setW, tags := t.buf.tags,
                                                                                                         wakes := t.buf.wakes, wbRun := t.buf.wbRun },
                   hif := { s.hif with aerEv := t.hif.aerEv, aers := t.hif.aers, cpls := t.hif.cpls, errCnt := t.hif.errCnt, errs := t.hif.errs, lost := t.hif.lost,
                                       tasks := t.hif.tasks } } ∧ OnlyOr (fun k => lodgeKey k) [BUF_CLASS_STATUS.key, BUF_FLAGS.key, HIF_TT_STATE.key,
      BUF_STATS 11] [0x6002, 0x6005, 0x700A] s t) ∧
  (∀ s t, exec .scrubRead s = .next t →
      t = { s with ctrs := t.ctrs, regs := t.regs } ∧ OnlyOr (fun k => (∃ i, k = (BUF_ECC_UNCORR i).key)) [BUF_SCRUB_STATE0.key, BUF_SCRUB_STATE1.key] [0x6006] s t) ∧
  (∀ addr s t, exec (.flipmaskArm addr) s = .next t →
      t = { s with flips := t.flips, regs := t.regs } ∧ (∀ b, b ≠ addr.toNat / 8 → tget (0, 0) t.flips b = tget (0, 0) s.flips b) ∧ Only [BUF_FLIPMASK2.key] [] s t) ∧
  (∀ q v s t, exec (.sqTailDoorbell q v) s = .next t →
      t = { s with ctrs := t.ctrs, freeCtr := t.freeCtr, regs := t.regs, hif := { s.hif with aerEv := t.hif.aerEv, aers := t.hif.aers, cpls := t.hif.cpls,
                                                                                             errCnt := t.hif.errCnt, errs := t.hif.errs, sqs := t.hif.sqs,
                                                                                             tasks := t.hif.tasks } } ∧ Only [HIF_TT_STATE.key,
      HIF_STATS 8] [0x700D] s t) ∧
  (∀ q v s t, exec (.cqHeadDoorbell q v) s = .next t →
      t = { s with ctrs := t.ctrs, freeCtr := t.freeCtr, regs := t.regs, hif := { s.hif with aerEv := t.hif.aerEv, aers := t.hif.aers, cpls := t.hif.cpls,
                                                                                             cqs := t.hif.cqs, errCnt := t.hif.errCnt, errs := t.hif.errs,
                                                                                             tasks := t.hif.tasks } } ∧ Only [HIF_TT_STATE.key,
      HIF_STATS 8] [0x700D] s t) ∧
  (∀ q t sqe s u, exec (.entryFetch q t sqe) s = .next u →
      u = { s with ctrs := u.ctrs, gh := u.gh, nv := u.nv, nvs := u.nvs, regs := u.regs, hif := { s.hif with arb := u.hif.arb, arbCls := u.hif.arbCls,
                                                                                                             nss := u.hif.nss, ord := u.hif.ord, sqs := u.hif.sqs,
                                                                                                             tasks := u.hif.tasks } } ∧ (∀ b, b ≠ t.toNat →
      task b u = task b s) ∧ OnlyOr (fun k => lodgeKey k ∨ (∃ i, k = (NVS_INDET i).key)) [HIF_ACT.key, HIF_TT_STATE.key, NVS_ERR.key, NVS_PAR_SEQ.key,
      NVS_PAR_STATE.key, NVS_REC_STATUS.key, NVS_STATUS.key, NVS_WEAR.key, HIF_STATS 0, HIF_STATS 1, HIF_STATS 4] [0x9007, 0x9008] s u) ∧
  (∀ t s u, exec (.rangeLockGrant t) s = .next u →
      u = { s with regs := u.regs, hif := { s.hif with tasks := u.hif.tasks } } ∧ (∀ b, b ≠ t.toNat → task b u = task b s) ∧ Only [HIF_TT_STATE.key] [] s u) ∧
  (∀ m s t, exec (.taskRead m) s = .next t →
      t = { s with rdata := t.rdata, regs := t.regs, hif := { s.hif with tasks := t.hif.tasks } } ∧ OnlyOr (fun k => (∃ i, k = (HIF_TASKN i).key)) [HIF_TASK0.key,
      HIF_TASK17.key, HIF_TT_STATE.key] [] s t) ∧
  (∀ c v s t, exec (.xferRequest c v) s = .next t →
      t = { s with regs := t.regs, hif := { s.hif with xfers := t.hif.xfers } } ∧ Only [(HIF_XFER3 c.toNat).key, PWR_DENIED_WRITES.key] [] s t) ∧
  (∀ ix hostErr data prps s t, exec (.xferEnd ix hostErr data prps) s = .next t →
      t = { s with ctrs := t.ctrs, flips := t.flips, mem := t.mem, poison := t.poison, regs := t.regs, hif := { s.hif with sent := t.hif.sent, tasks := t.hif.tasks,
                                                                                                                           xfers := t.hif.xfers,
                                                                                                                           xres := t.hif.xres } } ∧
      Only [BUF_FLIPMASK2.key, PWR_BAD_ACCESS.key, HIF_STATS 5, HIF_STATS 6, HIF_STATS 7] [0x7009] s t) ∧
  (∀ m s t, exec (.xferResultRead m) s = .next t →
      t = { s with rdata := t.rdata, regs := t.regs, hif := { s.hif with xres := t.hif.xres } } ∧ Only [HIF_XFER_RES0.key, HIF_XFER_RES1.key] [] s t) ∧
  (∀ c v s t, exec (.completionPost c v) s = .next t →
      t = { s with regs := t.regs, hif := { s.hif with cpls := t.hif.cpls, tasks := t.hif.tasks } } ∧ (∀ b, b ≠ fget v F_HIF_CPL2_TAG → task b t = task b s) ∧
      Only [(HIF_CPL2 c.toNat).key, HIF_TT_STATE.key, PWR_DENIED_WRITES.key] [] s t) ∧
  (∀ t s u, exec (.completionWrite t) s = .next u →
      u = { s with ctrs := u.ctrs, hif := u.hif, msix := u.msix, regs := u.regs } ∧
      OnlyOr (fun k => (∃ i, k = (ICE_EXT_T 3 i).key) ∨ (∃ i, k = ICE_HIST 0 i)) [HIF_TT_STATE.key, HIF_URG1.key, (ICE_EXT_MAX 3).key, (ICE_EXT_MIN 3).key,
      ICE_SAT.key, HIF_STATS 2, HIF_STATS 3, HIF_STATS 9] [0x7008, 0x8105] s u) ∧
  (∀ m s t, exec (.urgRead m) s = .next t →
      t = { s with rdata := t.rdata, regs := t.regs, snap := t.snap } ∧ (∀ b, b ≠ HIF_URG1.1 → tget 0 t.snap b = tget 0 s.snap b) ∧ Only [HIF_URG1.key] [] s t) ∧
  (∀ m on s t, exec (.hold m on) s = .next t →
      t = { s with ctrs := t.ctrs, freeCtr := t.freeCtr, regs := t.regs, hif := { s.hif with act := t.hif.act, cpls := t.hif.cpls, errCnt := t.hif.errCnt,
                                                                                             errs := t.hif.errs, rdy := t.hif.rdy, runSlot := t.hif.runSlot,
                                                                                             tasks := t.hif.tasks } } ∧ Only [HIF_ACT.key, HIF_TT_STATE.key,
      PWR_DENIED_WRITES.key] [0x7006] s t) ∧
  (∀ rate width flit s t, exec (.linkL0Entry rate width flit) s = .next t →
      t = { s with ctrs := t.ctrs, regs := t.regs } ∧ Only [HIF_LINK.key] [0x7001] s t) ∧
  (∀ kind q t cor err hdr s u, exec (.aerError kind q t cor err hdr) s = .next u →
      u = { s with ctrs := u.ctrs, freeCtr := u.freeCtr, gh := u.gh, nv := u.nv, nvs := u.nvs, regs := u.regs, hif := { s.hif with aerEv := u.hif.aerEv,
                                                                                                                                   aerLog := u.hif.aerLog,
                                                                                                                                   aerQ := u.hif.aerQ,
                                                                                                                                   aers := u.hif.aers,
                                                                                                                                   arb := u.hif.arb,
                                                                                                                                   arbCls := u.hif.arbCls,
                                                                                                                                   cfg := u.hif.cfg,
                                                                                                                                   cpls := u.hif.cpls,
                                                                                                                                   errCnt := u.hif.errCnt,
                                                                                                                                   errs := u.hif.errs,
                                                                                                                                   nss := u.hif.nss,
                                                                                                                                   ord := u.hif.ord,
                                                                                                                                   sqs := u.hif.sqs,
                                                                                                                                   tasks := u.hif.tasks } } ∧
      OnlyOr (fun k => lodgeKey k ∨ (∃ i, k = (NVS_INDET i).key)) [HIF_ACT.key, HIF_TT_STATE.key, NVS_ERR.key, NVS_PAR_SEQ.key, NVS_PAR_STATE.key,
      NVS_REC_STATUS.key, NVS_STATUS.key, NVS_WEAR.key, HIF_STATS 0, HIF_STATS 1, HIF_STATS 4] [0x7002, 0x9007, 0x9008] s u) ∧
  (∀ bar s t, exec (.poisonedTlpWrite bar) s = .next t →
      t = { s with ctrs := t.ctrs, freeCtr := t.freeCtr, regs := t.regs, hif := { s.hif with aerLog := t.hif.aerLog, aerQ := t.hif.aerQ, cfg := t.hif.cfg } } ∧
      Only [] [0x7002] s t) ∧
  (∀ t s u, exec (.createIoSubmissionQueue t) s = .next u →
      u = { s with freeCtr := u.freeCtr, regs := u.regs, hif := { s.hif with cpls := u.hif.cpls, errCnt := u.hif.errCnt, errs := u.hif.errs, sqs := u.hif.sqs,
                                                                             tasks := u.hif.tasks } } ∧ (∀ b, b ≠ t.toNat → task b u = task b s) ∧
      Only [HIF_TT_STATE.key] [] s u) ∧
  (∀ t s u, exec (.createIoCompletionQueue t) s = .next u →
      u = { s with freeCtr := u.freeCtr, regs := u.regs, hif := { s.hif with cpls := u.hif.cpls, cqs := u.hif.cqs, errCnt := u.hif.errCnt, errs := u.hif.errs,
                                                                             tasks := u.hif.tasks } } ∧ (∀ b, b ≠ t.toNat → task b u = task b s) ∧
      Only [HIF_TT_STATE.key] [] s u) ∧
  (∀ t s u, exec (.deleteIoSubmissionQueue t) s = .next u →
      u = { s with ctrs := u.ctrs, freeCtr := u.freeCtr, regs := u.regs, seqs := u.seqs, hif := { s.hif with cpls := u.hif.cpls, errCnt := u.hif.errCnt,
                                                                                                             errs := u.hif.errs, sqs := u.hif.sqs,
                                                                                                             tasks := u.hif.tasks } } ∧
      OnlyOr (fun k => (∃ i, k = (SEQ_EVENTS i).key) ∨ (∃ i, k = (SEQ_RES_COUNT i).key) ∨ (∃ i, k = (SEQ_SLOTS i).key)) [HIF_TT_STATE.key] [0x3008, 0x7004] s u) ∧
  (∀ t s u, exec (.deleteIoCompletionQueue t) s = .next u →
      u = { s with freeCtr := u.freeCtr, regs := u.regs, hif := { s.hif with cpls := u.hif.cpls, cqs := u.hif.cqs, errCnt := u.hif.errCnt, errs := u.hif.errs,
                                                                             tasks := u.hif.tasks } } ∧ (∀ b, b ≠ t.toNat → task b u = task b s) ∧
      Only [HIF_TT_STATE.key] [] s u) ∧
  (∀ t s u, exec (.getLogPage t) s = .next u →
      u = { s with freeCtr := u.freeCtr, regs := u.regs, hif := { s.hif with changed := u.hif.changed, cpls := u.hif.cpls, data := u.hif.data,
                                                                             errCnt := u.hif.errCnt, errs := u.hif.errs, tasks := u.hif.tasks } } ∧ (∀ b,
      b ≠ t.toNat → task b u = task b s) ∧ Only [HIF_TT_STATE.key] [] s u) ∧
  (∀ t s u, exec (.identify t) s = .next u →
      u = { s with freeCtr := u.freeCtr, regs := u.regs, hif := { s.hif with cpls := u.hif.cpls, data := u.hif.data, errCnt := u.hif.errCnt, errs := u.hif.errs,
                                                                             tasks := u.hif.tasks } } ∧ (∀ b, b ≠ t.toNat → task b u = task b s) ∧
      Only [HIF_TT_STATE.key] [] s u) ∧
  (∀ t s u, exec (.abort t) s = .next u →
      u = { s with freeCtr := u.freeCtr, regs := u.regs, hif := { s.hif with cpls := u.hif.cpls, errCnt := u.hif.errCnt, errs := u.hif.errs,
                                                                             tasks := u.hif.tasks } } ∧ (∀ b, b ≠ t.toNat → task b u = task b s) ∧
      Only [HIF_TT_STATE.key] [] s u) ∧
  (∀ t s u, exec (.setFeatures t) s = .next u →
      u = { s with freeCtr := u.freeCtr, regs := u.regs, hif := { s.hif with cpls := u.hif.cpls, errCnt := u.hif.errCnt, errs := u.hif.errs, feats := u.hif.feats,
                                                                             tasks := u.hif.tasks } } ∧ (∀ b, b ≠ t.toNat → task b u = task b s) ∧
      Only [HIF_TT_STATE.key] [] s u) ∧
  (∀ t s u, exec (.setFeaturesVolatileWriteCache t) s = .next u →
      u = { s with ctrs := u.ctrs, freeCtr := u.freeCtr, regs := u.regs, buf := { s.buf with wbRun := u.buf.wbRun }, hif := { s.hif with cpls := u.hif.cpls,
                                                                                                                                         errCnt := u.hif.errCnt,
                                                                                                                                         errs := u.hif.errs,
                                                                                                                                         tasks := u.hif.tasks } } ∧
      (∀ b, b ≠ t.toNat → task b u = task b s) ∧ Only [BUF_CLASS_CTL.key, BUF_CLASS_STATUS.key, HIF_TT_STATE.key] [0x6002] s u) ∧
  (∀ t ms s u, exec (.setFeaturesTimestamp t ms) s = .next u →
      u = { s with freeCtr := u.freeCtr, regs := u.regs, sdl := u.sdl, hif := { s.hif with cpls := u.hif.cpls, errCnt := u.hif.errCnt, errs := u.hif.errs,
                                                                                           tasks := u.hif.tasks } } ∧ (∀ b, b ≠ t.toNat → task b u = task b s) ∧
      Only [HIF_TT_STATE.key, SDL_EPOCH_CTL.key, SDL_EPOCH_HI.key, SDL_EPOCH_LO.key] [] s u) ∧
  (∀ t s u, exec (.getFeatures t) s = .next u →
      u = { s with freeCtr := u.freeCtr, regs := u.regs, hif := { s.hif with cpls := u.hif.cpls, errCnt := u.hif.errCnt, errs := u.hif.errs,
                                                                             tasks := u.hif.tasks } } ∧ (∀ b, b ≠ t.toNat → task b u = task b s) ∧
      Only [HIF_TT_STATE.key] [] s u) ∧
  (∀ t s u, exec (.getFeaturesTimestamp t) s = .next u →
      u = { s with freeCtr := u.freeCtr, regs := u.regs, hif := { s.hif with cpls := u.hif.cpls, data := u.hif.data, errCnt := u.hif.errCnt, errs := u.hif.errs,
                                                                             tasks := u.hif.tasks } } ∧ (∀ b, b ≠ t.toNat → task b u = task b s) ∧
      Only [HIF_TT_STATE.key] [] s u) ∧
  (∀ t s u, exec (.asynchronousEventRequest t) s = .next u →
      u = { s with freeCtr := u.freeCtr, regs := u.regs, hif := { s.hif with aerEv := u.hif.aerEv, aers := u.hif.aers, cpls := u.hif.cpls, errCnt := u.hif.errCnt,
                                                                             errs := u.hif.errs, tasks := u.hif.tasks } } ∧ Only [HIF_TT_STATE.key] [] s u) ∧
  (∀ t data s u, exec (.namespaceCreate t data) s = .next u →
      u = { s with freeCtr := u.freeCtr, regs := u.regs, hif := { s.hif with cpls := u.hif.cpls, errCnt := u.hif.errCnt, errs := u.hif.errs, nss := u.hif.nss,
                                                                             tasks := u.hif.tasks } } ∧ (∀ b, b ≠ t.toNat → task b u = task b s) ∧
      Only [HIF_TT_STATE.key] [] s u) ∧
  (∀ t s u, exec (.namespaceDelete t) s = .next u →
      u = { s with ctrs := u.ctrs, freeCtr := u.freeCtr, regs := u.regs, buf := { s.buf with mWait := u.buf.mWait, setW := u.buf.setW, tags := u.buf.tags,
                                                                                             wakes := u.buf.wakes, wbRun := u.buf.wbRun, wbq := u.buf.wbq },
                   hif := { s.hif with changed := u.hif.changed, cpls := u.hif.cpls, errCnt := u.hif.errCnt, errs := u.hif.errs, lost := u.hif.lost,
                                       nss := u.hif.nss, tasks := u.hif.tasks, unready := u.hif.unready } } ∧ (∀ b, b ≠ t.toNat → task b u = task b s) ∧
      Only [BUF_CLASS_STATUS.key, BUF_MAINT_STATUS.key, HIF_TT_STATE.key, BUF_STATS 10] [0x6001, 0x6002] s u) ∧
  (∀ t data s u, exec (.namespaceAttachment t data) s = .next u →
      u = { s with freeCtr := u.freeCtr, regs := u.regs, hif := { s.hif with cpls := u.hif.cpls, errCnt := u.hif.errCnt, errs := u.hif.errs, nss := u.hif.nss,
                                                                             tasks := u.hif.tasks } } ∧ (∀ b, b ≠ t.toNat → task b u = task b s) ∧
      Only [HIF_TT_STATE.key] [] s u) ∧
  (∀ t data s u, exec (.firmwareImageDownload t data) s = .next u →
      u = { s with flips := u.flips, freeCtr := u.freeCtr, mem := u.mem, regs := u.regs, hif := { s.hif with cpls := u.hif.cpls, errCnt := u.hif.errCnt,
                                                                                                             errs := u.hif.errs, image := u.hif.image,
                                                                                                             tasks := u.hif.tasks } } ∧ (∀ b, b ≠ t.toNat →
      task b u = task b s) ∧ Only [BUF_FLIPMASK2.key, HIF_TT_STATE.key, PWR_BAD_ACCESS.key] [] s u) ∧
  (∀ t s u, exec (.firmwareCommit t) s = .next u →
      u = { s with ctrs := u.ctrs, freeCtr := u.freeCtr, hif := u.hif, ice := u.ice, ksk := u.ksk, msix := u.msix, nv := u.nv, nvs := u.nvs, plat := u.plat,
                   regs := u.regs, replies := u.replies, sdl := u.sdl, snap := u.snap, sec := { s.sec with nonce := u.sec.nonce, opened := u.sec.opened,
                                                                                                           req := u.sec.req, rsp := u.sec.rsp,
                                                                                                           verify := u.sec.verify, waits := u.sec.waits } } ∧
      OnlyOr (fun k => coreKey k ∨ (∃ i, k = (KSK_DISC i 0).key) ∨ (∃ i, k = (KSK_IRQ i 0).key) ∨ (∃ i, k = (SEC_MEAS 5 i).key) ∨ (∃ i j, k = (SEC_MLOG i j).key)) [HIF_TT_STATE.key,
      NVS_BOOT.key, NVS_COMMIT_LEN.key, NVS_COMMIT_SRC_HI.key, NVS_COMMIT_SRC_LO.key, NVS_COMMIT_STATUS.key, NVS_ERR.key, (NVS_RANK 0).key, (NVS_RANK 1).key,
      NVS_STATUS.key, PWR_DENIED_WRITES.key, SEC_MLOG_COUNT.key, SEC_SHED.key, SEC_VERIFY_CTL.key, SEC_VERIFY_DIGEST.key, SEC_VERIFY_HI.key,
      SEC_VERIFY_LO.key] [0x8001, 0x8003, 0x8007, 0x8103, 0xB001, 0xB003, 0xB004, 0xB007] s u) ∧
  (∀ t s u, exec (.firmwareActivate t) s = .next u →
      u = { s with ctrs := u.ctrs, freeCtr := u.freeCtr, hif := u.hif, ice := u.ice, ksk := u.ksk, msix := u.msix, nv := u.nv, nvs := u.nvs, plat := u.plat,
                   regs := u.regs, replies := u.replies, sdl := u.sdl, seqs := u.seqs, snap := u.snap, buf := { s.buf with mWait := u.buf.mWait, setW := u.buf.setW,
                                                                                                                           tags := u.buf.tags, wakes := u.buf.wakes,
                                                                                                                           wbRun := u.buf.wbRun, wbq := u.buf.wbq },
                   sec := { s.sec with nonce := u.sec.nonce, opened := u.sec.opened, req := u.sec.req, rsp := u.sec.rsp, verify := u.sec.verify,
                                       waits := u.sec.waits } } ∧
      OnlyOr (fun k => coreKey k ∨ (∃ i, k = (KSK_DISC i 0).key) ∨ (∃ i, k = (KSK_IRQ i 0).key) ∨ (∃ i, k = (SEC_MEAS 1 i).key) ∨ (∃ i, k = (SEC_MEAS 5 i).key) ∨ (∃ i j, k = (SEC_MLOG i j).key) ∨ (∃ i, k = (SEQ_EVENTS i).key) ∨ (∃ i, k = (SEQ_RES_COUNT i).key) ∨ (∃ i, k = (SEQ_SLOTS i).key)) [BUF_CLASS_STATUS.key,
      BUF_MAINT_STATUS.key, BUF_WB_DONE.key, HIF_ACT.key, HIF_TT_STATE.key, NVS_BOOT.key, NVS_COMMIT_STATUS.key, NVS_ERR.key, (NVS_RANK 0).key, (NVS_RANK 1).key,
      NVS_STATUS.key, PWR_DENIED_WRITES.key, SEC_MLOG_COUNT.key, SEC_SHED.key, SEC_VERIFY_CTL.key, SEC_VERIFY_DIGEST.key, SEC_VERIFY_HI.key, SEC_VERIFY_LO.key,
      BUF_STATS 10, BUF_STATS 7] [0x3008, 0x6001, 0x6002, 0x7005, 0x7006, 0x8001, 0x8003, 0x8007, 0x8103, 0xB001, 0xB003, 0xB004, 0xB007] s u) ∧
  (∀ s t, exec .activationDrainEnd s = .next t →
      t = { s with asm := t.asm, ctrs := t.ctrs, freeCtr := t.freeCtr, gh := t.gh, held := t.held, hif := t.hif, ice := t.ice, ksk := t.ksk, locks := t.locks,
                   msix := t.msix, nv := t.nv, nvs := t.nvs, plat := t.plat, regs := t.regs, replies := t.replies, sdl := t.sdl, sec := t.sec, snap := t.snap } ∧
      OnlyOr (fun k => lodgeKey k ∨ coreKey k ∨ (∃ i j, k = (KSK_DISC i j).key) ∨ (∃ i j, k = (KSK_IRQ i j).key) ∨ (∃ i j, k = (KSK_IRQ_EN i j).key) ∨ (∃ i, k = (NVS_INDET i).key) ∨ (∃ i, k = (SEQ_STATE i).key)) [NVS_BOOT.key,
      NVS_COMMIT_STATUS.key, NVS_ERR.key, (NVS_RANK 0).key, (NVS_RANK 1).key, NVS_STATUS.key, NVS_WEAR.key] [0x8001, 0x8002, 0x8004, 0x9004, 0x9005, 0x9006,
      0x9007] s t) ∧
  (∀ s t, exec .activationTimeout s = .next t →
      t = { s with ctrs := t.ctrs, freeCtr := t.freeCtr, regs := t.regs, hif := { s.hif with act := t.hif.act, cpls := t.hif.cpls, errCnt := t.hif.errCnt,
                                                                                             errs := t.hif.errs, rdy := t.hif.rdy, tasks := t.hif.tasks } } ∧
      Only [HIF_ACT.key, HIF_TT_STATE.key] [0x7007] s t) ∧
  (∀ s t, exec .activationHoldTimeout s = .next t →
      t = { s with asm := t.asm, ctrs := t.ctrs, held := t.held, hif := t.hif, ice := t.ice, ksk := t.ksk, locks := t.locks, msix := t.msix, nv := t.nv,
                   nvs := t.nvs, plat := t.plat, regs := t.regs, replies := t.replies, sdl := t.sdl, sec := t.sec, snap := t.snap,
                   gh := { s.gh with chopTest := t.gh.chopTest, waits := t.gh.waits } } ∧
      OnlyOr (fun k => coreKey k ∨ (∃ i j, k = (KSK_DISC i j).key) ∨ (∃ i j, k = (KSK_IRQ i j).key) ∨ (∃ i j, k = (KSK_IRQ_EN i j).key)) [NVS_BOOT.key, NVS_ERR.key,
      (NVS_RANK 0).key, (NVS_RANK 1).key] [0x8001, 0x8002, 0x8004] s t) ∧
  (∀ t s u, exec (.sanitize t) s = .next u →
      u = { s with ctrs := u.ctrs, freeCtr := u.freeCtr, regs := u.regs, spnQueue := u.spnQueue, buf := { s.buf with mWait := u.buf.mWait, setW := u.buf.setW,
                                                                                                                     tags := u.buf.tags, wakes := u.buf.wakes,
                                                                                                                     wbRun := u.buf.wbRun, wbq := u.buf.wbq },
                   hif := { s.hif with cpls := u.hif.cpls, errCnt := u.hif.errCnt, errs := u.hif.errs, sanDone := u.hif.sanDone, sanit := u.hif.sanit,
                                       tasks := u.hif.tasks } } ∧ (∀ b, b ≠ t.toNat → task b u = task b s) ∧
      OnlyOr (fun k => (∃ i, k = (SPN_FAULT i).key) ∨ (∃ i, k = (SPN_STATE i).key)) [BUF_CLASS_STATUS.key, BUF_MAINT_STATUS.key, HIF_TT_STATE.key,
      BUF_STATS 10] [0x500A, 0x6001, 0x6002, 0x700B] s u) ∧
  (∀ s t, exec .sanitizeEnd s = .next t →
      t = { s with ctrs := t.ctrs, gh := t.gh, nv := t.nv, nvs := t.nvs, regs := t.regs, hif := { s.hif with lost := t.hif.lost, sanDone := t.hif.sanDone,
                                                                                                             sanit := t.hif.sanit } } ∧
      OnlyOr (fun k => lodgeKey k ∨ (∃ i, k = (NVS_INDET i).key)) [NVS_ERR.key, NVS_PAR_SEQ.key, NVS_PAR_STATE.key, NVS_REC_STATUS.key, NVS_STATUS.key,
      NVS_WEAR.key] [0x700C, 0x9007, 0x9008] s t) ∧
  (∀ t s u, exec (.flush t) s = .next u →
      u = { s with ctrs := u.ctrs, freeCtr := u.freeCtr, regs := u.regs, buf := { s.buf with cleans := u.buf.cleans, mOp := u.buf.mOp, mWait := u.buf.mWait,
                                                                                             setW := u.buf.setW, tags := u.buf.tags, wakes := u.buf.wakes,
                                                                                             wbRun := u.buf.wbRun, wbq := u.buf.wbq },
                   hif := { s.hif with cpls := u.hif.cpls, errCnt := u.hif.errCnt, errs := u.hif.errs, tasks := u.hif.tasks } } ∧ (∀ b, b ≠ t.toNat →
      task b u = task b s) ∧ Only [BUF_CLASS_STATUS.key, BUF_MAINT_CTL.key, BUF_MAINT_STATUS.key, HIF_TT_STATE.key, PWR_DENIED_WRITES.key, BUF_STATS 10] [0x6001,
      0x6002] s u) ∧
  (∀ t res s u, exec (.write t res) s = .next u →
      u = { s with freeCtr := u.freeCtr, regs := u.regs, hif := { s.hif with cpls := u.hif.cpls, errCnt := u.hif.errCnt, errs := u.hif.errs,
                                                                             tasks := u.hif.tasks } } ∧ (∀ b, b ≠ t.toNat → task b u = task b s) ∧
      Only [HIF_TT_STATE.key] [] s u) ∧
  (∀ t buf med res s u, exec (.compare t buf med res) s = .next u →
      u = { s with freeCtr := u.freeCtr, regs := u.regs, hif := { s.hif with cpls := u.hif.cpls, errCnt := u.hif.errCnt, errs := u.hif.errs,
                                                                             tasks := u.hif.tasks } } ∧ (∀ b, b ≠ t.toNat → task b u = task b s) ∧
      Only [HIF_TT_STATE.key] [] s u) ∧
  (∀ t s u, exec (.writeZeroes t) s = .next u →
      u = { s with ctrs := u.ctrs, flips := u.flips, freeCtr := u.freeCtr, mem := u.mem, poison := u.poison, regs := u.regs,
                   buf := { s.buf with mWait := u.buf.mWait, rr := u.buf.rr, setW := u.buf.setW, stamp := u.buf.stamp, tags := u.buf.tags, wakes := u.buf.wakes,
                                       wbRun := u.buf.wbRun, wbq := u.buf.wbq }, hif := { s.hif with cpls := u.hif.cpls, errCnt := u.hif.errCnt, errs := u.hif.errs,
                                                                                                     tasks := u.hif.tasks } } ∧ (∀ b, b ≠ t.toNat →
      task b u = task b s) ∧ OnlyOr (fun k => (∃ i, k = BUF_STATS i)) [BUF_CLASS_STATUS.key, BUF_FLIPMASK2.key, HIF_TT_STATE.key, PWR_BAD_ACCESS.key] [0x6001,
      0x6002] s u) ∧
  (∀ t s u, exec (.datasetManagement t) s = .next u →
      u = { s with freeCtr := u.freeCtr, regs := u.regs, hif := { s.hif with cpls := u.hif.cpls, errCnt := u.hif.errCnt, errs := u.hif.errs,
                                                                             tasks := u.hif.tasks } } ∧ (∀ b, b ≠ t.toNat → task b u = task b s) ∧
      Only [HIF_TT_STATE.key] [] s u) ∧
  (∀ t s u, exec (.verify t) s = .next u →
      u = { s with ctrs := u.ctrs, freeCtr := u.freeCtr, regs := u.regs, seqs := u.seqs, hif := { s.hif with cpls := u.hif.cpls, errCnt := u.hif.errCnt,
                                                                                                             errs := u.hif.errs, tasks := u.hif.tasks } } ∧ (∀ b,
      b ≠ t.toNat → task b u = task b s) ∧
      OnlyOr (fun k => (∃ i j k1, k = (SEQ_DESC i j k1).key) ∨ (∃ i, k = (SEQ_EVENTS i).key) ∨ (∃ i, k = (SEQ_SLOTS i).key)) [HIF_TT_STATE.key,
      PWR_DENIED_WRITES.key] [0x3001] s u) ∧
  (∀ t res s u, exec (.zoneAppend t res) s = .next u →
      u = { s with freeCtr := u.freeCtr, regs := u.regs, hif := { s.hif with cpls := u.hif.cpls, errCnt := u.hif.errCnt, errs := u.hif.errs,
                                                                             tasks := u.hif.tasks } } ∧ (∀ b, b ≠ t.toNat → task b u = task b s) ∧
      Only [HIF_TT_STATE.key] [] s u) ∧
  (∀ t s u, exec (.zoneOpen t) s = .next u →
      u = { s with ctrs := u.ctrs, freeCtr := u.freeCtr, gh := u.gh, nv := u.nv, nvs := u.nvs, regs := u.regs, buf := { s.buf with mWait := u.buf.mWait,
                                                                                                                                   setW := u.buf.setW,
                                                                                                                                   tags := u.buf.tags,
                                                                                                                                   wakes := u.buf.wakes,
                                                                                                                                   wbRun := u.buf.wbRun,
                                                                                                                                   wbq := u.buf.wbq },
                   hif := { s.hif with cpls := u.hif.cpls, errCnt := u.hif.errCnt, errs := u.hif.errs, nss := u.hif.nss, tasks := u.hif.tasks } } ∧ (∀ b,
      b ≠ t.toNat → task b u = task b s) ∧ OnlyOr (fun k => lodgeKey k ∨ (∃ i, k = (NVS_INDET i).key)) [BUF_CLASS_STATUS.key, BUF_MAINT_STATUS.key,
      HIF_TT_STATE.key, NVS_ERR.key, NVS_PAR_SEQ.key, NVS_PAR_STATE.key, NVS_REC_STATUS.key, NVS_STATUS.key, NVS_WEAR.key, BUF_STATS 10] [0x6001, 0x6002, 0x9007,
      0x9008] s u) ∧
  (∀ t s u, exec (.zoneClose t) s = .next u →
      u = { s with ctrs := u.ctrs, freeCtr := u.freeCtr, gh := u.gh, nv := u.nv, nvs := u.nvs, regs := u.regs, buf := { s.buf with mWait := u.buf.mWait,
                                                                                                                                   setW := u.buf.setW,
                                                                                                                                   tags := u.buf.tags,
                                                                                                                                   wakes := u.buf.wakes,
                                                                                                                                   wbRun := u.buf.wbRun,
                                                                                                                                   wbq := u.buf.wbq },
                   hif := { s.hif with cpls := u.hif.cpls, errCnt := u.hif.errCnt, errs := u.hif.errs, nss := u.hif.nss, tasks := u.hif.tasks } } ∧ (∀ b,
      b ≠ t.toNat → task b u = task b s) ∧ OnlyOr (fun k => lodgeKey k ∨ (∃ i, k = (NVS_INDET i).key)) [BUF_CLASS_STATUS.key, BUF_MAINT_STATUS.key,
      HIF_TT_STATE.key, NVS_ERR.key, NVS_PAR_SEQ.key, NVS_PAR_STATE.key, NVS_REC_STATUS.key, NVS_STATUS.key, NVS_WEAR.key, BUF_STATS 10] [0x6001, 0x6002, 0x9007,
      0x9008] s u) ∧
  (∀ t s u, exec (.zoneFinish t) s = .next u →
      u = { s with ctrs := u.ctrs, freeCtr := u.freeCtr, gh := u.gh, nv := u.nv, nvs := u.nvs, regs := u.regs, buf := { s.buf with mWait := u.buf.mWait,
                                                                                                                                   setW := u.buf.setW,
                                                                                                                                   tags := u.buf.tags,
                                                                                                                                   wakes := u.buf.wakes,
                                                                                                                                   wbRun := u.buf.wbRun,
                                                                                                                                   wbq := u.buf.wbq },
                   hif := { s.hif with cpls := u.hif.cpls, errCnt := u.hif.errCnt, errs := u.hif.errs, nss := u.hif.nss, tasks := u.hif.tasks } } ∧ (∀ b,
      b ≠ t.toNat → task b u = task b s) ∧ OnlyOr (fun k => lodgeKey k ∨ (∃ i, k = (NVS_INDET i).key)) [BUF_CLASS_STATUS.key, BUF_MAINT_STATUS.key,
      HIF_TT_STATE.key, NVS_ERR.key, NVS_PAR_SEQ.key, NVS_PAR_STATE.key, NVS_REC_STATUS.key, NVS_STATUS.key, NVS_WEAR.key, BUF_STATS 10] [0x6001, 0x6002, 0x9007,
      0x9008] s u) ∧
  (∀ t s u, exec (.zoneReset t) s = .next u →
      u = { s with ctrs := u.ctrs, freeCtr := u.freeCtr, gh := u.gh, nv := u.nv, nvs := u.nvs, regs := u.regs, buf := { s.buf with mWait := u.buf.mWait,
                                                                                                                                   setW := u.buf.setW,
                                                                                                                                   tags := u.buf.tags,
                                                                                                                                   wakes := u.buf.wakes,
                                                                                                                                   wbRun := u.buf.wbRun,
                                                                                                                                   wbq := u.buf.wbq },
                   hif := { s.hif with cpls := u.hif.cpls, errCnt := u.hif.errCnt, errs := u.hif.errs, nss := u.hif.nss, tasks := u.hif.tasks } } ∧ (∀ b,
      b ≠ t.toNat → task b u = task b s) ∧ OnlyOr (fun k => lodgeKey k ∨ (∃ i, k = (NVS_INDET i).key)) [BUF_CLASS_STATUS.key, BUF_MAINT_STATUS.key,
      HIF_TT_STATE.key, NVS_ERR.key, NVS_PAR_SEQ.key, NVS_PAR_STATE.key, NVS_REC_STATUS.key, NVS_STATUS.key, NVS_WEAR.key, BUF_STATS 10] [0x6001, 0x6002, 0x9007,
      0x9008] s u) ∧
  (∀ t s u, exec (.reportZones t) s = .next u →
      u = { s with freeCtr := u.freeCtr, regs := u.regs, hif := { s.hif with cpls := u.hif.cpls, data := u.hif.data, errCnt := u.hif.errCnt, errs := u.hif.errs,
                                                                             tasks := u.hif.tasks } } ∧ (∀ b, b ≠ t.toNat → task b u = task b s) ∧
      Only [HIF_TT_STATE.key] [] s u) ∧
  (∀ t s u, exec (.invalidCommandOpcode t) s = .next u →
      u = { s with freeCtr := u.freeCtr, regs := u.regs, hif := { s.hif with cpls := u.hif.cpls, errCnt := u.hif.errCnt, errs := u.hif.errs,
                                                                             tasks := u.hif.tasks } } ∧ (∀ b, b ≠ t.toNat → task b u = task b s) ∧
      Only [HIF_TT_STATE.key] [] s u) ∧
  (∀ m v s t, exec (.nvProgram m v) s = .next t →
      t = { s with ctrs := t.ctrs, gh := t.gh, nvs := t.nvs, regs := t.regs } ∧ OnlyOr (fun k => lodgeKey k ∨ (∃ i, k = (NVS_INDET i).key)) [NVS_BLANK.key,
      NVS_CMD.key, NVS_ERR.key, NVS_STATUS.key, NVS_WEAR.key, PWR_BAD_ACCESS.key, PWR_DENIED_WRITES.key] [0x9002, 0x9007] s t) ∧
  (∀ s t, exec .nvProgramEnd s = .next t →
      t = { s with nv := t.nv, nvs := t.nvs, regs := t.regs } ∧ Only [NVS_STATUS.key] [] s t) ∧
  (∀ m v s t, exec (.nvErase m v) s = .next t →
      t = { s with ctrs := t.ctrs, gh := t.gh, nvs := t.nvs, regs := t.regs } ∧ OnlyOr (fun k => lodgeKey k ∨ (∃ i, k = (NVS_INDET i).key)) [NVS_BLANK.key,
      NVS_CMD.key, NVS_ERR.key, NVS_STATUS.key, NVS_WEAR.key, PWR_BAD_ACCESS.key, PWR_DENIED_WRITES.key] [0x9002, 0x9007] s t) ∧
  (∀ par fail s t, exec (.nvEraseEnd par fail) s = .next t →
      t = { s with ctrs := t.ctrs, freeCtr := t.freeCtr, gh := t.gh, ice := t.ice, nv := t.nv, nvs := t.nvs, regs := t.regs,
                   hif := { s.hif with commit := t.hif.commit, cpls := t.hif.cpls, errCnt := t.hif.errCnt, errs := t.hif.errs, image := t.hif.image,
                                       tasks := t.hif.tasks } } ∧ OnlyOr (fun k => lodgeKey k ∨ (∃ i, k = (NVS_INDET i).key)) [HIF_TT_STATE.key, ICE_STATE.key,
      NVS_BOOT.key, NVS_COMMIT_STATUS.key, NVS_ERR.key, NVS_PAR_SEQ.key, NVS_PAR_STATE.key, (NVS_RANK 0).key, (NVS_RANK 1).key, NVS_REC_STATUS.key, NVS_STATUS.key,
      NVS_WEAR.key] [0x9004, 0x9006, 0x9007, 0x9008] s t) ∧
  (∀ m v s t, exec (.nvSuspend m v) s = .next t →
      t = { s with ctrs := t.ctrs, gh := t.gh, nvs := t.nvs, regs := t.regs } ∧ OnlyOr (fun k => lodgeKey k ∨ (∃ i, k = (NVS_INDET i).key)) [NVS_BLANK.key,
      NVS_CMD.key, NVS_ERR.key, NVS_STATUS.key, NVS_WEAR.key, PWR_BAD_ACCESS.key, PWR_DENIED_WRITES.key] [0x9002, 0x9007] s t) ∧
  (∀ m v s t, exec (.nvResume m v) s = .next t →
      t = { s with ctrs := t.ctrs, gh := t.gh, nvs := t.nvs, regs := t.regs } ∧ OnlyOr (fun k => lodgeKey k ∨ (∃ i, k = (NVS_INDET i).key)) [NVS_BLANK.key,
      NVS_CMD.key, NVS_ERR.key, NVS_STATUS.key, NVS_WEAR.key, PWR_BAD_ACCESS.key, PWR_DENIED_WRITES.key] [0x9002, 0x9007] s t) ∧
  (∀ m v s t, exec (.nvBlankCheck m v) s = .next t →
      t = { s with ctrs := t.ctrs, gh := t.gh, nvs := t.nvs, regs := t.regs } ∧ OnlyOr (fun k => lodgeKey k ∨ (∃ i, k = (NVS_INDET i).key)) [NVS_BLANK.key,
      NVS_CMD.key, NVS_ERR.key, NVS_STATUS.key, NVS_WEAR.key, PWR_BAD_ACCESS.key, PWR_DENIED_WRITES.key] [0x9002, 0x9007] s t) ∧
  (∀ m off ecc s t, exec (.nvsWindowRead m off ecc) s = .next t →
      t = { s with busErr := t.busErr, ctrs := t.ctrs, dataExc := t.dataExc, freeCtr := t.freeCtr, gh := t.gh, nv := t.nv, nvs := t.nvs, rdata := t.rdata,
                   regs := t.regs } ∧ OnlyOr (fun k => lodgeKey k ∨ (∃ i, k = (NVS_INDET i).key)) [NVS_BOOT.key, NVS_COMMIT_STATUS.key, NVS_ECC_CORR.key,
      NVS_ECC_UNCORR.key, NVS_ERR.key, NVS_LAST.key, (NVS_RANK 0).key, (NVS_RANK 1).key, NVS_STATUS.key, NVS_WEAR.key, PWR_BAD_ACCESS.key] [0x9001, 0x9007,
      0x900A] s t) ∧
  (∀ m v s t, exec (.recordRead m v) s = .next t →
      t = { s with ctrs := t.ctrs, gh := t.gh, nvs := t.nvs, regs := t.regs } ∧
      OnlyOr (fun k => lodgeKey k ∨ (∃ i, k = (NVS_INDET i).key) ∨ (∃ i, k = (NVS_REC_DATA i).key)) [NVS_ERR.key, NVS_PAR_SEQ.key, NVS_PAR_STATE.key,
      NVS_REC_CTL.key, NVS_REC_STATUS.key, NVS_STATUS.key, NVS_WEAR.key, PWR_BAD_ACCESS.key, PWR_DENIED_WRITES.key] [0x9007, 0x9008] s t) ∧
  (∀ m v s t, exec (.recordWrite m v) s = .next t →
      t = { s with ctrs := t.ctrs, gh := t.gh, nvs := t.nvs, regs := t.regs } ∧
      OnlyOr (fun k => lodgeKey k ∨ (∃ i, k = (NVS_INDET i).key) ∨ (∃ i, k = (NVS_REC_DATA i).key)) [NVS_ERR.key, NVS_PAR_SEQ.key, NVS_PAR_STATE.key,
      NVS_REC_CTL.key, NVS_REC_STATUS.key, NVS_STATUS.key, NVS_WEAR.key, PWR_BAD_ACCESS.key, PWR_DENIED_WRITES.key] [0x9007, 0x9008] s t) ∧
  (∀ fail s t, exec (.recordWriteEnd fail) s = .next t →
      t = { s with freeCtr := t.freeCtr, nv := t.nv, nvs := t.nvs, regs := t.regs } ∧ Only [NVS_ERR.key, NVS_PAR_SEQ.key, NVS_PAR_STATE.key, NVS_REC_STATUS.key,
      NVS_STATUS.key] [] s t) ∧
  (∀ m slot s t, exec (.slotCommit m slot) s = .next t →
      t = { s with nv := t.nv, nvs := t.nvs, regs := t.regs } ∧ Only [NVS_BOOT.key, NVS_COMMIT_CTL.key, NVS_COMMIT_STATUS.key, NVS_ERR.key, (NVS_RANK 0).key,
      (NVS_RANK 1).key, NVS_STATUS.key, PWR_BAD_ACCESS.key, PWR_DENIED_WRITES.key] [] s t) ∧
  (∀ m slot s t, exec (.slotCommitActivate m slot) s = .next t →
      t = { s with nv := t.nv, nvs := t.nvs, regs := t.regs } ∧ Only [NVS_BOOT.key, NVS_COMMIT_CTL.key, NVS_COMMIT_STATUS.key, NVS_ERR.key, (NVS_RANK 0).key,
      (NVS_RANK 1).key, NVS_STATUS.key, PWR_BAD_ACCESS.key, PWR_DENIED_WRITES.key] [] s t) ∧
  (∀ m slot s t, exec (.slotActivate m slot) s = .next t →
      t = { s with nv := t.nv, nvs := t.nvs, regs := t.regs } ∧ Only [NVS_BOOT.key, NVS_COMMIT_CTL.key, NVS_COMMIT_STATUS.key, NVS_ERR.key, (NVS_RANK 0).key,
      (NVS_RANK 1).key, NVS_STATUS.key, PWR_BAD_ACCESS.key, PWR_DENIED_WRITES.key] [] s t) ∧
  (∀ res repeats s t, exec (.commitEnd res repeats) s = .next t →
      t = { s with ctrs := t.ctrs, freeCtr := t.freeCtr, gh := t.gh, nv := t.nv, nvs := t.nvs, regs := t.regs, hif := { s.hif with commit := t.hif.commit,
                                                                                                                                   cpls := t.hif.cpls,
                                                                                                                                   errCnt := t.hif.errCnt,
                                                                                                                                   errs := t.hif.errs,
                                                                                                                                   image := t.hif.image,
                                                                                                                                   tasks := t.hif.tasks } } ∧
      OnlyOr (fun k => lodgeKey k ∨ (∃ i, k = (NVS_INDET i).key)) [HIF_TT_STATE.key, NVS_BOOT.key, NVS_COMMIT_STATUS.key, NVS_ERR.key, (NVS_RANK 0).key,
      (NVS_RANK 1).key, NVS_STATUS.key, NVS_WEAR.key] [0x9004, 0x9005, 0x9006, 0x9007] s t) ∧
  (∀ s t, exec .perstRelease s = .next t →
      t = { s with plat := { s.plat with perst := t.plat.perst } }) ∧
  (∀ s t, exec .normalShutdown s = .next t →
      t = { s with ctrs := t.ctrs, gh := t.gh, nv := t.nv, nvs := t.nvs, regs := t.regs, hif := { s.hif with shut := t.hif.shut } } ∧
      OnlyOr (fun k => lodgeKey k ∨ (∃ i, k = (NVS_INDET i).key)) [NVS_ERR.key, NVS_PAR_SEQ.key, NVS_PAR_STATE.key, NVS_REC_STATUS.key, NVS_STATUS.key,
      NVS_WEAR.key] [0x9007, 0x9008] s t) ∧
  (∀ q s t, exec (.interruptCoalescingTimeout q) s = .next t →
      t = { s with hif := t.hif, msix := t.msix }) ∧
  (∀ ix err data prps s t x, s.hif.xfers[ix.toNat]? = some x → exec (.xferEnd ix err data prps) s = .next t → SameBytes (fun y => x.dir = true ∧ err = false ∧
      x.addr ≤ y ∧ y < x.addr + 4096 * x.count) s t) ∧
  (∀ t d s u x, task t.toNat s = some x → exec (.firmwareImageDownload t d) s = .next u → SameBytes (fun y => recBase + 4 * x.dw 11 ≤ y ∧
      y < recBase + 4 * x.dw 11 + d.length) s u) ∧
  (∀ addr c s t, exec (.dramEccError addr c) s = .next t → SameBytes (fun y => addr.toNat / 8 * 8 ≤ y ∧ y < addr.toNat / 8 * 8 + 8) s t) ∧
  (∀ t s u x, task t.toNat s = some x → exec (.writeZeroes t) s = .next u → SameBytes (fun y => ∃ l ∈ linesOf x.lba x.nlb,
      ((∃ e, (e ∈ entsOf (setOf (lineKey x.nsid l)) ∨ x.waits = some (l, e)) ∧ lineSector e (partFirst x.lba l) ≤ y ∧ y < lineSector e (partFirst x.lba l) + 4096 * (linePart x l).2) ∨ (stageAddr t.toNat l + 4096 * partFirst x.lba l ≤ y ∧
      y < stageAddr t.toNat l + 4096 * partFirst x.lba l + 4096 * (linePart x l).2))) s u) ∧
  (∀ off l s t, s.nvs.prog = some (off, l) → exec .nvProgramEnd s = .next t → SameNv (fun o => off ≤ o ∧ o < off + l.length) s t) ∧
  (∀ par fail e s t, NvBanks s → bankErase (b2n par) s = some e → exec (.nvEraseEnd par fail) s = .next t → SameNv (fun o => (fail = false ∧
      sectorBase e.sector ≤ o ∧ o < sectorBase e.sector + sectorSize e.sector) ∨ (par = false ∧ e.direct = false ∧ ∃ c, s.nvs.commit = some c ∧ 0xC00000 * c.1 ≤ o ∧
      o < 0xC00000 * (c.1 + 1))) s t) ∧
  (∀ fail id p s t, s.nvs.recw = some (id, p) → exec (.recordWriteEnd fail) s = .next t → SameNv (fun o => recOff s.nvs.head s.nvs.next ≤ o ∧
      o < recOff s.nvs.head s.nvs.next + 16 + p.length) s t) ∧
  (∀ fails s t, exec (.snapshotWrite fails) s = .next t → SameNv (fun o => 0x1800000 ≤ o ∧ o < 0x1A00000) s t) ∧
  (∀ res n k act a len s t, NvBanks s → s.nvs.commit = some (k, act, a, len) → len ≤ 12324864 → exec (.commitEnd res n) s = .next t →
      SameNv (fun o => 0xC00000 * k ≤ o ∧ o < 0xC00000 * (k + 1)) s t) ∧
  (∀ m slot s t, exec (.slotCommit m slot) s = .next t → SameNv (fun o => markOff (b2n slot) ≤ o ∧ o < markOff (b2n slot) + 0x1000) s t) ∧
  (∀ m slot s t, exec (.slotCommitActivate m slot) s = .next t → SameNv (fun o => markOff (b2n slot) ≤ o ∧ o < markOff (b2n slot) + 0x1000) s t) ∧
  (∀ m slot s t, exec (.slotActivate m slot) s = .next t → SameNv (fun o => markOff (b2n slot) ≤ o ∧ o < markOff (b2n slot) + 0x1000) s t) ∧
  (∀ t s u, exec (.firmwareCommit t) s = .next u → SameNv (fun o => (markOff 0 ≤ o ∧ o < markOff 0 + 0x1000) ∨ markOff 1 ≤ o ∧ o < markOff 1 + 0x1000) s u) ∧
  (∀ t s u, exec (.firmwareActivate t) s = .next u → SameNv (fun o => (markOff 0 ≤ o ∧ o < markOff 0 + 0x1000) ∨ markOff 1 ≤ o ∧ o < markOff 1 + 0x1000) s u) ∧
  (∀ s u, NvBanks s → exec .activationDrainEnd s = .next u → SameNv (fun o => ∃ c, s.nvs.commit = some c ∧ 0xC00000 * c.1 ≤ o ∧ o < 0xC00000 * (c.1 + 1)) s u) ∧
  (∀ m off ecc s t, NvBanks s → exec (.nvsWindowRead m off ecc) s = .next t →
      SameNv (fun o => (∃ p, s.nvs.prog = some p ∧ p.1 ≤ o ∧ o < p.1 + p.2.length) ∨ (∃ r, s.nvs.recw = some r ∧ recOff s.nvs.head s.nvs.next ≤ o ∧ o < recOff s.nvs.head s.nvs.next + 16 + r.2.length) ∨ ∃ c,
      s.nvs.commit = some c ∧ 0xC00000 * c.1 ≤ o ∧ o < 0xC00000 * (c.1 + 1)) s t) ∧
  (∀ t k s u, s.hif.act = .fresh t k → exec .activationHoldTimeout s = .next u → SameNv (fun o => revokeOff k ≤ o ∧ o < revokeOff k + 32) s u) ∧
  (∀ s t, NvBanks s → exec .sanitizeEnd s = .next t → SameNv (fun o => 0x1E00000 ≤ o) s t) ∧
  (∀ q t sqe s u, NvBanks s → exec (.entryFetch q t sqe) s = .next u → SameNv (fun o => 0x1E00000 ≤ o) s u) ∧
  (∀ kind q t cor err hdr s u, NvBanks s → exec (.aerError kind q t cor err hdr) s = .next u → SameNv (fun o => 0x1E00000 ≤ o) s u) ∧
  (∀ t s u, NvBanks s → exec (.zoneOpen t) s = .next u → SameNv (fun o => 0x1E00000 ≤ o) s u) ∧
  (∀ t s u, NvBanks s → exec (.zoneClose t) s = .next u → SameNv (fun o => 0x1E00000 ≤ o) s u) ∧
  (∀ t s u, NvBanks s → exec (.zoneFinish t) s = .next u → SameNv (fun o => 0x1E00000 ≤ o) s u) ∧
  (∀ t s u, NvBanks s → exec (.zoneReset t) s = .next u → SameNv (fun o => 0x1E00000 ≤ o) s u) ∧
  (∀ s t, NvBanks s → exec .normalShutdown s = .next t → SameNv (fun o => 0x1E00000 ≤ o) s t)

/-- What each of the accesses and commands of the firmware platform, the Gatehouse, the Icehouse, the security engine, start-up and the pins leaves unchanged: the other fields of the state, the other instances, the other registers. -/
def Obligations.FramesPlatform : Prop :=
  (∀ m addr mirror s t, exec (.snapshotCaptureRead m addr mirror) s = .next t →
      t = { s with rdata := t.rdata, regs := t.regs, snap := t.snap } ∧ Only [HIF_URG1.key, PWR_BAD_ACCESS.key, RCH_POOL_STATE2.key] [] s t) ∧
  (∀ m addr s t, exec (.unmappedAccess m addr) s = .next t →
      t = { s with busErr := t.busErr, rdata := t.rdata }) ∧
  (∀ m addr bytes s t, exec (.badWidthAccess m addr bytes) s = .next t →
      t = { s with busErr := t.busErr, rdata := t.rdata, regs := t.regs } ∧ Only [PWR_BAD_ACCESS.key] [] s t) ∧
  (∀ m addr s t, exec (.poweredOffAccess m addr) s = .next t →
      t = { s with busErr := t.busErr, rdata := t.rdata, regs := t.regs } ∧ Only [PWR_BAD_ACCESS.key] [] s t) ∧
  (∀ bar off bytes write s t, exec (.hostReservedAccess bar off bytes write) s = .next t →
      t = { s with rdata := t.rdata, regs := t.regs } ∧ Only [PWR_DENIED_WRITES.key] [] s t) ∧
  (∀ tries dramOk rank1 s t, exec (.bootStageEnd tries dramOk rank1) s = .next t →
      t = { s with cal := t.cal, ctrs := t.ctrs, freeCtr := t.freeCtr, gh := t.gh, ice := t.ice, nv := t.nv, nvs := t.nvs, pins := t.pins, plat := t.plat,
                   regs := t.regs, hif := { s.hif with cfs := t.hif.cfs, runSlot := t.hif.runSlot }, sec := { s.sec with bootPk := t.sec.bootPk } }) ∧
  (∀ s t, exec .sysRstNAssert s = .next t →
      t = { s with acts := t.acts, asm := t.asm, cal := t.cal, ctrs := t.ctrs, dmaLast := t.dmaLast, dn := t.dn, engs := t.engs, freeCtr := t.freeCtr, gh := t.gh,
                   held := t.held, hif := t.hif, ice := t.ice, ksk := t.ksk, lnks := t.lnks, locks := t.locks, loops := t.loops, msix := t.msix, nv := t.nv,
                   nvs := t.nvs, pins := t.pins, plat := t.plat, pool := t.pool, poolOrd := t.poolOrd, regs := t.regs, replies := t.replies, sdl := t.sdl,
                   seqMaster := t.seqMaster, seqStaged := t.seqStaged, seqs := t.seqs, snap := t.snap, spn := t.spn, spnQueue := t.spnQueue, up := t.up,
                   wOff := t.wOff, buf := { s.buf with cleaned := t.buf.cleaned, cleans := t.buf.cleans, det := t.buf.det, mOp := t.buf.mOp, mWait := t.buf.mWait,
                                                       raq := t.buf.raq, rr := t.buf.rr, setW := t.buf.setW, stamp := t.buf.stamp, tags := t.buf.tags,
                                                       wakes := t.buf.wakes, wbRun := t.buf.wbRun, wbq := t.buf.wbq }, sec := { s.sec with req := t.sec.req,
                                                                                                                                           rsp := t.sec.rsp,
                                                                                                                                           stage := t.sec.stage,
                                                                                                                                           tCert := t.sec.tCert,
                                                                                                                                           tMeas := t.sec.tMeas,
                                                                                                                                           tNeg := t.sec.tNeg,
                                                                                                                                           verify := t.sec.verify,
                                                                                                                                           waits := t.sec.waits } }) ∧
  (∀ smba pclk s t, exec (.sysRstNRelease smba pclk) s = .next t →
      t = { s with acts := t.acts, ctrs := t.ctrs, dn := t.dn, gh := t.gh, pins := t.pins, regs := t.regs, seqs := t.seqs, spn := t.spn, spnQueue := t.spnQueue,
                   wOff := t.wOff, plat := { s.plat with brakeKeep := t.plat.brakeKeep, rst := t.plat.rst } } ∧
      OnlyOr (fun k => (∃ i, k = (GH_ACT_FORCE i).key) ∨ (∃ i, k = (GH_ISOLATED i).key) ∨ (∃ i, k = (SPN_FAULT i).key) ∨ (∃ i, k = (SPN_SPEED0 i).key) ∨ (∃ i, k = (SPN_STATE i).key) ∨ (∃ i, k = (SRV_ACT_STATE i).key) ∨ (∃ i, k = (WCH_STATE i).key)) [GH_SPN_FORCE.key,
      PWR_BOOT.key, PWR_STRAPS.key] [0x5009, 0xA002, 0xA003] s t) ∧
  (∀ m v s t, exec (.chipReset m v) s = .next t →
      t = { s with acts := t.acts, asm := t.asm, cal := t.cal, ctrs := t.ctrs, dmaLast := t.dmaLast, dn := t.dn, engs := t.engs, freeCtr := t.freeCtr, gh := t.gh,
                   held := t.held, hif := t.hif, ice := t.ice, ksk := t.ksk, lnks := t.lnks, locks := t.locks, loops := t.loops, msix := t.msix, nv := t.nv,
                   nvs := t.nvs, pins := t.pins, plat := t.plat, pool := t.pool, poolOrd := t.poolOrd, regs := t.regs, replies := t.replies, sdl := t.sdl,
                   seqMaster := t.seqMaster, seqStaged := t.seqStaged, seqs := t.seqs, snap := t.snap, spn := t.spn, spnQueue := t.spnQueue, up := t.up,
                   wOff := t.wOff, buf := { s.buf with cleaned := t.buf.cleaned, cleans := t.buf.cleans, det := t.buf.det, mOp := t.buf.mOp, mWait := t.buf.mWait,
                                                       raq := t.buf.raq, rr := t.buf.rr, setW := t.buf.setW, stamp := t.buf.stamp, tags := t.buf.tags,
                                                       wakes := t.buf.wakes, wbRun := t.buf.wbRun, wbq := t.buf.wbq }, sec := { s.sec with req := t.sec.req,
                                                                                                                                           rsp := t.sec.rsp,
                                                                                                                                           stage := t.sec.stage,
                                                                                                                                           tCert := t.sec.tCert,
                                                                                                                                           tMeas := t.sec.tMeas,
                                                                                                                                           tNeg := t.sec.tNeg,
                                                                                                                                           verify := t.sec.verify,
                                                                                                                                           waits := t.sec.waits } }) ∧
  (∀ m v s t, exec (.coreReset m v) s = .next t →
      t = { s with asm := t.asm, ctrs := t.ctrs, held := t.held, hif := t.hif, ice := t.ice, ksk := t.ksk, locks := t.locks, msix := t.msix, plat := t.plat,
                   regs := t.regs, replies := t.replies, sdl := t.sdl, sec := t.sec, snap := t.snap, gh := { s.gh with chopTest := t.gh.chopTest,
                                                                                                                       waits := t.gh.waits } } ∧
      OnlyOr (fun k => coreKey k ∨ (∃ i j, k = (KSK_DISC i j).key) ∨ (∃ i j, k = (KSK_IRQ i j).key) ∨ (∃ i j, k = (KSK_IRQ_EN i j).key)) [PWR_CORE_RST.key,
      PWR_DENIED_WRITES.key] [0x8001, 0x8002, 0x8004] s t) ∧
  (∀ m v s t, exec (.actuatorReset m v) s = .next t →
      t = { s with acts := t.acts, chains := t.chains, ctrs := t.ctrs, dn := t.dn, gh := t.gh, lnks := t.lnks, loops := t.loops, outqs := t.outqs, pool := t.pool,
                   regs := t.regs, seqs := t.seqs, snap := t.snap, up := t.up, wOff := t.wOff, hif := { s.hif with sanit := t.hif.sanit, tasks := t.hif.tasks },
                   plat := { s.plat with actRst := t.plat.actRst } } ∧ (∀ b, b ≠ fget v F_PWR_ACT_RST_ACT → act b t = act b s) ∧ (∀ b,
      b ≠ fget v F_PWR_ACT_RST_ACT → lnk b t = lnk b s) ∧ (∀ b, b ≠ fget v F_PWR_ACT_RST_ACT → seq b t = seq b s) ∧
      OnlyOr (fun k => actKey (fget v F_PWR_ACT_RST_ACT) k = true) [(GH_ACT_FORCE (fget v F_PWR_ACT_RST_ACT / 32)).key,
      (GH_ISOLATED (fget v F_PWR_ACT_RST_ACT / 32)).key, (LNK_SKEW (fget v F_PWR_ACT_RST_ACT)).key, (LNK_STATE (fget v F_PWR_ACT_RST_ACT)).key, PWR_ACT_RST.key,
      (PWR_ACT_RST_BUSY (fget v F_PWR_ACT_RST_ACT / 32)).key, PWR_ACT_RST_RESULT.key, PWR_DENIED_WRITES.key, RCH_DR_STATE.key, RCH_POOL_STATE0.key,
      RCH_POOL_STATE1.key, RCH_POOL_STATE2.key, (SEQ_EVENTS (fget v F_PWR_ACT_RST_ACT)).key, (SEQ_RES_COUNT (fget v F_PWR_ACT_RST_ACT)).key,
      (SEQ_SLOTS (fget v F_PWR_ACT_RST_ACT)).key, (SEQ_STATE (fget v F_PWR_ACT_RST_ACT)).key, (SPN_STATE (hdaOf (fget v F_PWR_ACT_RST_ACT))).key,
      (SRV_ACT_STATE (fget v F_PWR_ACT_RST_ACT)).key, (SRV_OPEN (hdaOf (fget v F_PWR_ACT_RST_ACT))).key, (WCH_STATE (fget v F_PWR_ACT_RST_ACT)).key] [0xA002,
      0xA003] s t) ∧
  (∀ m d s t, exec (.domainOn m d) s = .next t →
      t = { s with ctrs := t.ctrs, plat := t.plat, regs := t.regs } ∧ Only [PWR_DENIED_WRITES.key, PWR_DOM_REQ.key, PWR_DOM_RESULT.key] [0x8008] s t) ∧
  (∀ m d s t, exec (.domainOff m d) s = .next t →
      t = { s with ctrs := t.ctrs, plat := t.plat, regs := t.regs } ∧ Only [PWR_DENIED_WRITES.key, PWR_DOM_REQ.key, PWR_DOM_RESULT.key] [0x8008] s t) ∧
  (∀ s t, exec .domainOnComplete s = .next t →
      t = { s with acts := t.acts, cal := t.cal, chains := t.chains, ctrs := t.ctrs, dn := t.dn, freeCtr := t.freeCtr, hif := t.hif, ice := t.ice, ksk := t.ksk,
                   lnks := t.lnks, msix := t.msix, nvs := t.nvs, outqs := t.outqs, plat := t.plat, pool := t.pool, regs := t.regs, replies := t.replies,
                   sdl := t.sdl, seqs := t.seqs, snap := t.snap, up := t.up, wOff := t.wOff, sec := { s.sec with nonce := t.sec.nonce, opened := t.sec.opened,
                                                                                                                 req := t.sec.req, rsp := t.sec.rsp,
                                                                                                                 waits := t.sec.waits } } ∧
      OnlyOr (fun k => coreKey k ∨ (∃ i, k = (GH_ACT_FORCE i).key) ∨ (∃ i, k = (KSK_DISC i 0).key) ∨ (∃ i, k = (KSK_IRQ i 0).key) ∨ (∃ i, k = (LNK_SKEW i).key) ∨ (∃ i, k = (LNK_STATE i).key) ∨ (∃ i, k = (NVS_INDET i).key) ∨ (∃ i, k = (SEC_MEAS 5 i).key) ∨ (∃ i j, k = (SEC_MLOG i j).key) ∨ (∃ i, k = (SPN_STATE i).key) ∨ (∃ i, k = (SRV_ACT_STATE i).key) ∨ (∃ d, actKey d k = true)) [CAL_STATUS.key,
      NVS_BOOT.key, NVS_PAR_SEQ.key, NVS_PAR_STATE.key, (NVS_RANK 0).key, (NVS_RANK 1).key, NVS_WEAR.key, PWR_DENIED_WRITES.key, PWR_DOM_RESULT.key,
      SEC_MLOG_COUNT.key, SEC_SHED.key] [0x8001, 0x8003, 0x8007, 0x8008, 0x8103, 0x9003, 0xB003, 0xB004, 0xB007] s t) ∧
  (∀ c s t, exec (.coreWaitPowerOff c) s = .next t →
      t = { s with plat := t.plat }) ∧
  (∀ m f s t, exec (.fabricFreqChange m f) s = .next t →
      t = { s with ctrs := t.ctrs, regs := t.regs } ∧ Only [CLK_FABRIC.key, CLK_STATUS.key, PWR_DENIED_WRITES.key] [0x8108] s t) ∧
  (∀ s t, exec .referenceLost s = .next t →
      t = { s with ctrs := t.ctrs, regs := t.regs } ∧ Only [CLK_STATUS.key] [0x800A] s t) ∧
  (∀ s t, exec .referenceRestored s = .next t →
      t = { s with ctrs := t.ctrs, regs := t.regs } ∧ Only [CLK_STATUS.key] [0x800B] s t) ∧
  (∀ m s t, exec (.fwReady m) s = .next t →
      t = { s with ctrs := t.ctrs, regs := t.regs, spnQueue := t.spnQueue, hif := { s.hif with jobs := t.hif.jobs, rdy := t.hif.rdy, sanit := t.hif.sanit } } ∧
      OnlyOr (fun k => (∃ i, k = (SPN_FAULT i).key) ∨ (∃ i, k = (SPN_STATE i).key)) [PWR_BOOT.key, PWR_DENIED_WRITES.key] [0x500A] s t) ∧
  (∀ seq len s t, exec (.recInfo seq len) s = .next t →
      t = { s with ctrs := t.ctrs, hif := t.hif, ksk := t.ksk, msix := t.msix, plat := t.plat, regs := t.regs, replies := t.replies, sdl := t.sdl,
                   snap := t.snap } ∧ (∀ b, b ≠ 1 → tget [] t.ksk b = tget [] s.ksk b) ∧ OnlyOr (fun k => coreKey k) [(KSK_DISC 0 0).key, (KSK_IRQ 0 0).key,
      PWR_DENIED_WRITES.key] [0x8001, 0x8003, 0x8007] s t) ∧
  (∀ seq payload s t, exec (.recWrite seq payload) s = .next t →
      t = { s with ctrs := t.ctrs, flips := t.flips, hif := t.hif, ksk := t.ksk, mem := t.mem, msix := t.msix, plat := t.plat, regs := t.regs, replies := t.replies,
                   sdl := t.sdl, snap := t.snap } ∧ (∀ b, b ≠ 1 → tget [] t.ksk b = tget [] s.ksk b) ∧ OnlyOr (fun k => coreKey k) [BUF_FLIPMASK2.key,
      (KSK_DISC 0 0).key, (KSK_IRQ 0 0).key, PWR_BAD_ACCESS.key, PWR_DENIED_WRITES.key] [0x8001, 0x8003, 0x8007] s t) ∧
  (∀ seq payload res s t, exec (.recCommit seq payload res) s = .next t →
      t = { s with acts := t.acts, asm := t.asm, cal := t.cal, ctrs := t.ctrs, dmaLast := t.dmaLast, dn := t.dn, engs := t.engs, freeCtr := t.freeCtr, gh := t.gh,
                   held := t.held, hif := t.hif, ice := t.ice, ksk := t.ksk, lnks := t.lnks, locks := t.locks, loops := t.loops, msix := t.msix, nv := t.nv,
                   nvs := t.nvs, pins := t.pins, plat := t.plat, pool := t.pool, poolOrd := t.poolOrd, regs := t.regs, replies := t.replies, sdl := t.sdl,
                   seqMaster := t.seqMaster, seqStaged := t.seqStaged, seqs := t.seqs, snap := t.snap, spn := t.spn, spnQueue := t.spnQueue, up := t.up,
                   wOff := t.wOff, buf := { s.buf with cleaned := t.buf.cleaned, cleans := t.buf.cleans, det := t.buf.det, mOp := t.buf.mOp, mWait := t.buf.mWait,
                                                       raq := t.buf.raq, rr := t.buf.rr, setW := t.buf.setW, stamp := t.buf.stamp, tags := t.buf.tags,
                                                       wakes := t.buf.wakes, wbRun := t.buf.wbRun, wbq := t.buf.wbq }, sec := { s.sec with req := t.sec.req,
                                                                                                                                           rsp := t.sec.rsp,
                                                                                                                                           stage := t.sec.stage,
                                                                                                                                           tCert := t.sec.tCert,
                                                                                                                                           tMeas := t.sec.tMeas,
                                                                                                                                           tNeg := t.sec.tNeg,
                                                                                                                                           verify := t.sec.verify,
                                                                                                                                           waits := t.sec.waits } }) ∧
  (∀ m v s t, exec (.calRun m v) s = .next t →
      t = { s with cal := t.cal, regs := t.regs } ∧ Only [CAL_RUN.key, CAL_STATUS.key, PWR_DENIED_WRITES.key] [] s t) ∧
  (∀ results s t, exec (.calRunEnd results) s = .next t →
      t = { s with cal := t.cal, ctrs := t.ctrs, regs := t.regs } ∧ Only [CAL_COUNT.key, CAL_LAST_TIME_HI.key, CAL_LAST_TIME_LO.key, CAL_REJECT.key, CAL_RUN.key,
      CAL_STATUS.key] [0x800F, 0x8107] s t) ∧
  (∀ cls item s t, exec (.calStep cls item) s = .next t →
      t = { s with cal := t.cal, dn := t.dn, lnks := t.lnks, regs := t.regs, up := t.up } ∧ (∀ b, b ≠ item.toNat / 4 → b ≠ item.toNat / 6 → lnk b t = lnk b s) ∧
      (∀ b, b ≠ 4 * (item.toNat / 4) → b ≠ 4 * (item.toNat / 4) + 1 → b ≠ 4 * (item.toNat / 4) + 2 → b ≠ 4 * (item.toNat / 4) + 3 →
      tget {} t.up b = tget {} s.up b) ∧ Only [CAL_STATUS.key, (LNK_SKEW (item.toNat / 4)).key, (LNK_STATE (item.toNat / 4)).key] [] s t) ∧
  (∀ h speed s t, exec (.powerLossBrakeEnd h speed) s = .next t →
      t = { s with regs := t.regs, spn := t.spn } ∧ (∀ b, b ≠ h.toNat → spin b t = spin b s) ∧ Only [GH_SPN_FORCE.key, (SPN_SPEED0 h.toNat).key,
      (SPN_STATE h.toNat).key] [] s t) ∧
  (∀ r mv s t, exec (.railRecovered r mv) s = .next t →
      t = { s with ctrs := t.ctrs, regs := t.regs } ∧ Only [(GH_RAIL r.toNat).key, (GH_RAIL_PEAK r.toNat).key] [0xA008] s t) ∧
  (∀ t data s u, exec (.securitySend t data) s = .next u →
      u = { s with freeCtr := u.freeCtr, regs := u.regs, hif := { s.hif with cpls := u.hif.cpls, errCnt := u.hif.errCnt, errs := u.hif.errs, tasks := u.hif.tasks },
                   sec := { s.sec with req := u.sec.req, rsp := u.sec.rsp } } ∧ (∀ b, b ≠ t.toNat → task b u = task b s) ∧ Only [HIF_TT_STATE.key] [] s u) ∧
  (∀ t s u, exec (.securityReceive t) s = .next u →
      u = { s with freeCtr := u.freeCtr, regs := u.regs, hif := { s.hif with cpls := u.hif.cpls, data := u.hif.data, errCnt := u.hif.errCnt, errs := u.hif.errs,
                                                                             tasks := u.hif.tasks }, sec := { s.sec with rsp := u.sec.rsp } } ∧ (∀ b, b ≠ t.toNat →
      task b u = task b s) ∧ Only [HIF_TT_STATE.key] [] s u) ∧
  (∀ t res s u, exec (.read t res) s = .next u →
      u = { s with freeCtr := u.freeCtr, regs := u.regs, hif := { s.hif with cpls := u.hif.cpls, errCnt := u.hif.errCnt, errs := u.hif.errs,
                                                                             tasks := u.hif.tasks } } ∧ (∀ b, b ≠ t.toNat → task b u = task b s) ∧
      Only [HIF_TT_STATE.key] [] s u) ∧
  (∀ m ch e w s t, exec (.kioskPost m ch e w) s = .next t →
      t = { s with ctrs := t.ctrs, hif := t.hif, ksk := t.ksk, msix := t.msix, plat := t.plat, regs := t.regs, sdl := t.sdl, snap := t.snap } ∧ (∀ b,
      b ≠ 2 * ch.toNat + (1 - b2n e) → tget [] t.ksk b = tget [] s.ksk b) ∧ OnlyOr (fun k => coreKey k) [(KSK_DISC ch.toNat (1 - (1 - b2n e))).key,
      (KSK_IRQ ch.toNat (1 - (1 - b2n e))).key, (KSK_IRQ ch.toNat (b2n e)).key, PWR_DENIED_WRITES.key] [0x8001, 0x8003] s t) ∧
  (∀ m ch e s t, exec (.kioskReceive m ch e) s = .next t →
      t = { s with hif := t.hif, ksk := t.ksk, msix := t.msix, rdata := t.rdata, regs := t.regs } ∧ (∀ b, b ≠ 2 * ch.toNat + b2n e →
      tget [] t.ksk b = tget [] s.ksk b) ∧ Only [(KSK_IRQ ch.toNat (1 - b2n e)).key] [] s t) ∧
  (∀ m ch e s t, exec (.kioskDiscRead m ch e) s = .next t →
      t = { s with rdata := t.rdata, regs := t.regs } ∧ Only [(KSK_DISC ch.toNat (b2n e)).key] [] s t) ∧
  (∀ ch seq len s t, exec (.getInfo ch seq len) s = .next t →
      t = { s with ctrs := t.ctrs, held := t.held, hif := t.hif, ksk := t.ksk, msix := t.msix, plat := t.plat, regs := t.regs, replies := t.replies, sdl := t.sdl,
                   snap := t.snap } ∧ (∀ b, b ≠ 1 → b ≠ 2 * ch.toNat + 1 → tget [] t.ksk b = tget [] s.ksk b) ∧ OnlyOr (fun k => coreKey k) [(KSK_DISC 0 0).key,
      (KSK_DISC ch.toNat 0).key, (KSK_IRQ 0 0).key, (KSK_IRQ ch.toNat 0).key, PWR_DENIED_WRITES.key] [0x8001, 0x8003, 0x8007] s t) ∧
  (∀ ch seq len s t, exec (.hdaState ch seq len) s = .next t →
      t = { s with ctrs := t.ctrs, held := t.held, hif := t.hif, ksk := t.ksk, msix := t.msix, plat := t.plat, regs := t.regs, replies := t.replies, sdl := t.sdl,
                   snap := t.snap } ∧ (∀ b, b ≠ 1 → b ≠ 2 * ch.toNat + 1 → tget [] t.ksk b = tget [] s.ksk b) ∧ OnlyOr (fun k => coreKey k) [(KSK_DISC 0 0).key,
      (KSK_DISC ch.toNat 0).key, (KSK_IRQ 0 0).key, (KSK_IRQ ch.toNat 0).key, PWR_DENIED_WRITES.key] [0x8001, 0x8003, 0x8007] s t) ∧
  (∀ ch seq payload s t, exec (.spinDown ch seq payload) s = .next t →
      t = { s with acts := t.acts, ctrs := t.ctrs, dn := t.dn, freeCtr := t.freeCtr, gh := t.gh, held := t.held, hif := t.hif, ksk := t.ksk, msix := t.msix,
                   nv := t.nv, nvs := t.nvs, plat := t.plat, regs := t.regs, replies := t.replies, sdl := t.sdl, seqs := t.seqs, snap := t.snap, spn := t.spn,
                   spnQueue := t.spnQueue, wOff := t.wOff, buf := { s.buf with mWait := t.buf.mWait, tags := t.buf.tags, wbq := t.buf.wbq } } ∧
      OnlyOr (fun k => lodgeKey k ∨ coreKey k ∨ (∃ i, k = (GH_ACT_FORCE i).key) ∨ (∃ i, k = (GH_ACT_STATUS i).key) ∨ (∃ i, k = (GH_ISOLATED i).key) ∨ (∃ i, k = (KSK_DISC i 0).key) ∨ (∃ i, k = (KSK_IRQ i 0).key) ∨ (∃ i, k = (NVS_INDET i).key) ∨ (∃ i, k = (SEQ_EVENTS i).key) ∨ (∃ i, k = (SEQ_RES_COUNT i).key) ∨ (∃ i, k = (SEQ_SLOTS i).key) ∨ (∃ i, k = (SPN_FAULT i).key) ∨ (∃ i, k = (SPN_SPEED0 i).key) ∨ (∃ i, k = (SPN_STATE i).key) ∨ (∃ i, k = (SRV_ACT_FLAGS i).key) ∨ (∃ i, k = (SRV_ACT_STATE i).key) ∨ (∃ i, k = (WCH_STATE i).key) ∨ (∃ i, k = ICE_FOLD_SUM i)) [BUF_WAY_CTL.key,
      BUF_WAY_STATE.key, NVS_ERR.key, NVS_PAR_SEQ.key, NVS_PAR_STATE.key, NVS_REC_STATUS.key, NVS_STATUS.key, NVS_WEAR.key, PWR_DENIED_WRITES.key, PWR_DOM_REQ.key,
      PWR_DOM_RESULT.key] [0x3008, 0x4003, 0x500A, 0x6001, 0x6008, 0x8001, 0x8003, 0x8007, 0x8008, 0x9007, 0x9008, 0xA002, 0xA003] s t) ∧
  (∀ ch seq payload s t, exec (.spinUp ch seq payload) s = .next t →
      t = { s with acts := t.acts, ctrs := t.ctrs, dn := t.dn, freeCtr := t.freeCtr, gh := t.gh, held := t.held, hif := t.hif, ksk := t.ksk, msix := t.msix,
                   nv := t.nv, nvs := t.nvs, plat := t.plat, regs := t.regs, replies := t.replies, sdl := t.sdl, seqs := t.seqs, snap := t.snap, spn := t.spn,
                   spnQueue := t.spnQueue, wOff := t.wOff, buf := { s.buf with mWait := t.buf.mWait, tags := t.buf.tags, wbq := t.buf.wbq } } ∧
      OnlyOr (fun k => lodgeKey k ∨ coreKey k ∨ (∃ i, k = (GH_ACT_FORCE i).key) ∨ (∃ i, k = (GH_ACT_STATUS i).key) ∨ (∃ i, k = (GH_ISOLATED i).key) ∨ (∃ i, k = (KSK_DISC i 0).key) ∨ (∃ i, k = (KSK_IRQ i 0).key) ∨ (∃ i, k = (NVS_INDET i).key) ∨ (∃ i, k = (SEQ_EVENTS i).key) ∨ (∃ i, k = (SEQ_RES_COUNT i).key) ∨ (∃ i, k = (SEQ_SLOTS i).key) ∨ (∃ i, k = (SPN_FAULT i).key) ∨ (∃ i, k = (SPN_SPEED0 i).key) ∨ (∃ i, k = (SPN_STATE i).key) ∨ (∃ i, k = (SRV_ACT_FLAGS i).key) ∨ (∃ i, k = (SRV_ACT_STATE i).key) ∨ (∃ i, k = (WCH_STATE i).key) ∨ (∃ i, k = ICE_FOLD_SUM i)) [BUF_WAY_CTL.key,
      BUF_WAY_STATE.key, NVS_ERR.key, NVS_PAR_SEQ.key, NVS_PAR_STATE.key, NVS_REC_STATUS.key, NVS_STATUS.key, NVS_WEAR.key, PWR_DENIED_WRITES.key, PWR_DOM_REQ.key,
      PWR_DOM_RESULT.key] [0x3008, 0x4003, 0x500A, 0x6001, 0x6008, 0x8001, 0x8003, 0x8007, 0x8008, 0x9007, 0x9008, 0xA002, 0xA003] s t) ∧
  (∀ ch seq payload s t, exec (.ways ch seq payload) s = .next t →
      t = { s with acts := t.acts, ctrs := t.ctrs, dn := t.dn, freeCtr := t.freeCtr, gh := t.gh, held := t.held, hif := t.hif, ksk := t.ksk, msix := t.msix,
                   plat := t.plat, regs := t.regs, replies := t.replies, sdl := t.sdl, seqs := t.seqs, snap := t.snap, spn := t.spn, spnQueue := t.spnQueue,
                   wOff := t.wOff, buf := { s.buf with mWait := t.buf.mWait, tags := t.buf.tags, wbq := t.buf.wbq } } ∧
      OnlyOr (fun k => lodgeKey k ∨ coreKey k ∨ (∃ i, k = (GH_ACT_FORCE i).key) ∨ (∃ i, k = (GH_ACT_STATUS i).key) ∨ (∃ i, k = (GH_ISOLATED i).key) ∨ (∃ i, k = (KSK_DISC i 0).key) ∨ (∃ i, k = (KSK_IRQ i 0).key) ∨ (∃ i, k = (SEQ_EVENTS i).key) ∨ (∃ i, k = (SEQ_RES_COUNT i).key) ∨ (∃ i, k = (SEQ_SLOTS i).key) ∨ (∃ i, k = (SPN_FAULT i).key) ∨ (∃ i, k = (SPN_SPEED0 i).key) ∨ (∃ i, k = (SPN_STATE i).key) ∨ (∃ i, k = (SRV_ACT_FLAGS i).key) ∨ (∃ i, k = (SRV_ACT_STATE i).key) ∨ (∃ i, k = (WCH_STATE i).key) ∨ (∃ i, k = ICE_FOLD_SUM i)) [BUF_WAY_CTL.key,
      BUF_WAY_STATE.key, PWR_DENIED_WRITES.key, PWR_DOM_REQ.key, PWR_DOM_RESULT.key] [0x3008, 0x4003, 0x500A, 0x6001, 0x6008, 0x8001, 0x8003, 0x8007, 0x8008,
      0xA002, 0xA003] s t) ∧
  (∀ ch seq payload s t, exec (.setSubsys ch seq payload) s = .next t →
      t = { s with ctrs := t.ctrs, gh := t.gh, held := t.held, hif := t.hif, ksk := t.ksk, msix := t.msix, nv := t.nv, nvs := t.nvs, plat := t.plat, regs := t.regs,
                   replies := t.replies, sdl := t.sdl, snap := t.snap } ∧ (∀ b, b ≠ 1 → b ≠ 2 * ch.toNat + 1 → tget [] t.ksk b = tget [] s.ksk b) ∧
      OnlyOr (fun k => lodgeKey k ∨ coreKey k ∨ (∃ i, k = (NVS_INDET i).key)) [(KSK_DISC 0 0).key, (KSK_DISC ch.toNat 0).key, (KSK_IRQ 0 0).key,
      (KSK_IRQ ch.toNat 0).key, NVS_ERR.key, NVS_PAR_SEQ.key, NVS_PAR_STATE.key, NVS_REC_STATUS.key, NVS_STATUS.key, NVS_WEAR.key, PWR_DENIED_WRITES.key] [0x8001,
      0x8003, 0x8007, 0x9007, 0x9008] s t) ∧
  (∀ ch seq payload s t, exec (.setAccel ch seq payload) s = .next t →
      t = { s with ctrs := t.ctrs, held := t.held, hif := t.hif, ksk := t.ksk, msix := t.msix, plat := t.plat, regs := t.regs, replies := t.replies, sdl := t.sdl,
                   snap := t.snap } ∧ (∀ b, b ≠ 1 → b ≠ 2 * ch.toNat + 1 → tget [] t.ksk b = tget [] s.ksk b) ∧ OnlyOr (fun k => coreKey k) [(KSK_DISC 0 0).key,
      (KSK_DISC ch.toNat 0).key, (KSK_IRQ 0 0).key, (KSK_IRQ ch.toNat 0).key, PWR_DENIED_WRITES.key, SPN_ACCEL_MAX.key] [0x8001, 0x8003, 0x8007] s t) ∧
  (∀ ch seq payload s t, exec (.iceClear ch seq payload) s = .next t →
      t = { s with ctrs := t.ctrs, freeCtr := t.freeCtr, held := t.held, hif := t.hif, ice := t.ice, ksk := t.ksk, msix := t.msix, plat := t.plat, regs := t.regs,
                   replies := t.replies, sdl := t.sdl, snap := t.snap, sec := { s.sec with nonce := t.sec.nonce, opened := t.sec.opened, waits := t.sec.waits } } ∧
      (∀ b, b ≠ 1 → b ≠ 2 * ch.toNat + 1 → tget [] t.ksk b = tget [] s.ksk b) ∧
      OnlyOr (fun k => coreKey k ∨ (∃ i, k = (SEC_MEAS 5 i).key) ∨ (∃ i j, k = (SEC_MLOG i j).key)) [(KSK_DISC 0 0).key, (KSK_DISC ch.toNat 0).key,
      (KSK_IRQ 0 0).key, (KSK_IRQ ch.toNat 0).key, PWR_DENIED_WRITES.key, SEC_MLOG_COUNT.key, SEC_SHED.key] [0x8001, 0x8003, 0x8007, 0x8103, 0xB003, 0xB004,
      0xB007] s t) ∧
  (∀ ch seq payload s t, exec (.shedChallenge ch seq payload) s = .next t →
      t = { s with ctrs := t.ctrs, freeCtr := t.freeCtr, held := t.held, hif := t.hif, ice := t.ice, ksk := t.ksk, msix := t.msix, plat := t.plat, regs := t.regs,
                   replies := t.replies, sdl := t.sdl, snap := t.snap, sec := { s.sec with nonce := t.sec.nonce, opened := t.sec.opened, waits := t.sec.waits } } ∧
      (∀ b, b ≠ 1 → b ≠ 2 * ch.toNat + 1 → tget [] t.ksk b = tget [] s.ksk b) ∧
      OnlyOr (fun k => coreKey k ∨ (∃ i, k = (SEC_MEAS 5 i).key) ∨ (∃ i j, k = (SEC_MLOG i j).key)) [(KSK_DISC 0 0).key, (KSK_DISC ch.toNat 0).key,
      (KSK_IRQ 0 0).key, (KSK_IRQ ch.toNat 0).key, PWR_DENIED_WRITES.key, SEC_MLOG_COUNT.key, SEC_SHED.key] [0x8001, 0x8003, 0x8007, 0x8103, 0xB003, 0xB004,
      0xB007] s t) ∧
  (∀ ch seq payload s t, exec (.shedResponse ch seq payload) s = .next t →
      t = { s with ctrs := t.ctrs, freeCtr := t.freeCtr, held := t.held, hif := t.hif, ice := t.ice, ksk := t.ksk, msix := t.msix, plat := t.plat, regs := t.regs,
                   replies := t.replies, sdl := t.sdl, snap := t.snap, sec := { s.sec with nonce := t.sec.nonce, opened := t.sec.opened, waits := t.sec.waits } } ∧
      (∀ b, b ≠ 1 → b ≠ 2 * ch.toNat + 1 → tget [] t.ksk b = tget [] s.ksk b) ∧
      OnlyOr (fun k => coreKey k ∨ (∃ i, k = (SEC_MEAS 5 i).key) ∨ (∃ i j, k = (SEC_MLOG i j).key)) [(KSK_DISC 0 0).key, (KSK_DISC ch.toNat 0).key,
      (KSK_IRQ 0 0).key, (KSK_IRQ ch.toNat 0).key, PWR_DENIED_WRITES.key, SEC_MLOG_COUNT.key, SEC_SHED.key] [0x8001, 0x8003, 0x8007, 0x8103, 0xB003, 0xB004,
      0xB007] s t) ∧
  (∀ ch seq payload s t, exec (.echo ch seq payload) s = .next t →
      t = { s with ctrs := t.ctrs, held := t.held, hif := t.hif, ksk := t.ksk, msix := t.msix, plat := t.plat, regs := t.regs, replies := t.replies, sdl := t.sdl,
                   snap := t.snap } ∧ (∀ b, b ≠ 1 → b ≠ 2 * ch.toNat + 1 → tget [] t.ksk b = tget [] s.ksk b) ∧ OnlyOr (fun k => coreKey k) [(KSK_DISC 0 0).key,
      (KSK_DISC ch.toNat 0).key, (KSK_IRQ 0 0).key, (KSK_IRQ ch.toNat 0).key, PWR_DENIED_WRITES.key] [0x8001, 0x8003, 0x8007] s t) ∧
  (∀ ch op seq s t, exec (.unknownOp ch op seq) s = .next t →
      t = { s with ctrs := t.ctrs, held := t.held, hif := t.hif, ksk := t.ksk, msix := t.msix, plat := t.plat, regs := t.regs, replies := t.replies, sdl := t.sdl,
                   snap := t.snap } ∧ (∀ b, b ≠ 1 → b ≠ 2 * (36 + (ch.toNat - 36)) → b ≠ 2 * ch.toNat + 1 → tget [] t.ksk b = tget [] s.ksk b) ∧
      OnlyOr (fun k => coreKey k) [(KSK_DISC 0 0).key, (KSK_DISC (36 + (ch.toNat - 36)) 1).key, (KSK_DISC ch.toNat 0).key, (KSK_IRQ 0 0).key,
      (KSK_IRQ (36 + (ch.toNat - 36)) 1).key, (KSK_IRQ ch.toNat 0).key, PWR_DENIED_WRITES.key] [0x8001, 0x8003, 0x8007, 0xA00E] s t) ∧
  (∀ s t, exec .messageReply s = .next t →
      t = { s with ctrs := t.ctrs, hif := t.hif, ksk := t.ksk, msix := t.msix, plat := t.plat, regs := t.regs, replies := t.replies, sdl := t.sdl,
                   snap := t.snap } ∧
      OnlyOr (fun k => coreKey k ∨ (∃ i j, k = (KSK_DISC i j).key) ∨ (∃ i j, k = (KSK_IRQ i j).key)) [PWR_DENIED_WRITES.key] [0x8001, 0x8003] s t) ∧
  (∀ m ix s t, exec (.lockAcquire m ix) s = .next t →
      t = { s with locks := t.locks, rdata := t.rdata, regs := t.regs } ∧ (∀ b, b ≠ ix.toNat → lockAt b t = lockAt b s) ∧ Only [STL_CONTEND.key] [] s t) ∧
  (∀ m ix s t, exec (.lockRelease m ix) s = .next t →
      t = { s with locks := t.locks, regs := t.regs } ∧ (∀ b, b ≠ ix.toNat → lockAt b t = lockAt b s) ∧ Only [PWR_DENIED_WRITES.key] [] s t) ∧
  (∀ m ix s t, exec (.lockBreak m ix) s = .next t →
      t = { s with ctrs := t.ctrs, locks := t.locks, regs := t.regs } ∧ (∀ b, b ≠ ix.toNat → lockAt b t = lockAt b s) ∧ Only [PWR_DENIED_WRITES.key,
      STL_BREAK.key] [0x8005] s t) ∧
  (∀ m n v s t, exec (.dmaStart m n v) s = .next t →
      t = { s with ctrs := t.ctrs, regs := t.regs } ∧ Only [(DMA_CTL n.toNat).key, (DMA_DONE_BYTES n.toNat).key, DMA_ERRORS.key, (DMA_STATUS n.toNat).key,
      PWR_DENIED_WRITES.key] [0x8006] s t) ∧
  (∀ m n s t, exec (.dmaStop m n) s = .next t →
      t = { s with ctrs := t.ctrs, regs := t.regs } ∧ Only [DMA_ERRORS.key, (DMA_STATUS n.toNat).key, PWR_DENIED_WRITES.key] [0x8006] s t) ∧
  (∀ s t, exec .dmaBurst s = .next t →
      t = { s with ctrs := t.ctrs, dmaLast := t.dmaLast, flips := t.flips, freeCtr := t.freeCtr, mem := t.mem, poison := t.poison, regs := t.regs } ∧
      OnlyOr (fun k => (∃ i, k = (DMA_DONE_BYTES i).key) ∨ (∃ i, k = (DMA_MISMATCH i).key) ∨ (∃ i, k = (DMA_STATUS i).key)) [BUF_FLIPMASK2.key, DMA_ERRORS.key,
      NVS_ECC_CORR.key, NVS_ECC_UNCORR.key, NVS_ERR.key, NVS_LAST.key, PWR_BAD_ACCESS.key] [0x8006, 0x9001] s t) ∧
  (∀ c seq len s t, exec (.ghInfo c seq len) s = .next t →
      t = { s with ctrs := t.ctrs, held := t.held, hif := t.hif, ksk := t.ksk, msix := t.msix, plat := t.plat, regs := t.regs, replies := t.replies, sdl := t.sdl,
                   snap := t.snap } ∧ (∀ b, b ≠ 2 * (36 + c.toNat) → tget [] t.ksk b = tget [] s.ksk b) ∧
      OnlyOr (fun k => coreKey k) [(KSK_DISC (36 + c.toNat) 1).key, (KSK_IRQ (36 + c.toNat) 1).key, PWR_DENIED_WRITES.key] [0x8001, 0x8003, 0xA00E] s t) ∧
  (∀ c seq payload s t, exec (.setFence c seq payload) s = .next t →
      t = { s with ctrs := t.ctrs, held := t.held, hif := t.hif, ksk := t.ksk, msix := t.msix, plat := t.plat, regs := t.regs, replies := t.replies, sdl := t.sdl,
                   snap := t.snap } ∧ (∀ b, b ≠ 2 * (36 + c.toNat) → tget [] t.ksk b = tget [] s.ksk b) ∧
      OnlyOr (fun k => coreKey k ∨ (∃ i, k = (SRV_FENCE i).key)) [(KSK_DISC (36 + c.toNat) 1).key, (KSK_IRQ (36 + c.toNat) 1).key, PWR_DENIED_WRITES.key] [0x8001,
      0x8003, 0xA00D, 0xA00E] s t) ∧
  (∀ c seq payload s t, exec (.retract c seq payload) s = .next t →
      t = { s with acts := t.acts, ctrs := t.ctrs, dn := t.dn, gh := t.gh, held := t.held, hif := t.hif, ksk := t.ksk, msix := t.msix, plat := t.plat,
                   regs := t.regs, replies := t.replies, sdl := t.sdl, seqs := t.seqs, snap := t.snap, wOff := t.wOff } ∧
      OnlyOr (fun k => coreKey k ∨ (∃ i, k = (GH_ACT_FORCE i).key) ∨ (∃ i, k = (GH_ISOLATED i).key) ∨ (∃ i, k = (KSK_DISC i 1).key) ∨ (∃ i, k = (KSK_IRQ i 1).key) ∨ (∃ i, k = (SPN_STATE i).key) ∨ (∃ i, k = (SRV_ACT_STATE i).key) ∨ (∃ i, k = (WCH_STATE i).key)) [PWR_DENIED_WRITES.key] [0x8001,
      0x8003, 0xA002, 0xA003, 0xA00E] s t) ∧
  (∀ c seq payload reg0xF08 s t, exec (.recover c seq payload reg0xF08) s = .next t →
      t = { s with acts := t.acts, chains := t.chains, ctrs := t.ctrs, dn := t.dn, gh := t.gh, held := t.held, hif := t.hif, ksk := t.ksk, lnks := t.lnks,
                   loops := t.loops, msix := t.msix, outqs := t.outqs, plat := t.plat, pool := t.pool, regs := t.regs, replies := t.replies, sdl := t.sdl,
                   seqs := t.seqs, snap := t.snap, up := t.up, wOff := t.wOff } ∧ (∀ b, b ≠ pw payload 0 → act b t = act b s) ∧ (∀ b, b ≠ 2 * (36 + c.toNat) →
      tget [] t.ksk b = tget [] s.ksk b) ∧ (∀ b, b ≠ pw payload 0 → lnk b t = lnk b s) ∧ (∀ b, b ≠ pw payload 0 → tget {} t.seqs b = tget {} s.seqs b) ∧
      OnlyOr (fun k => coreKey k ∨ (∃ d, actKey d k = true)) [(GH_ACT_FORCE (pw payload 0 / 32)).key, (GH_ISOLATED (pw payload 0 / 32)).key,
      (KSK_DISC (36 + c.toNat) 1).key, (KSK_IRQ (36 + c.toNat) 1).key, (LNK_SKEW (pw payload 0)).key, (LNK_STATE (pw payload 0)).key,
      (PWR_ACT_RST_BUSY (pw payload 0 / 32)).key, PWR_DENIED_WRITES.key, RCH_DR_STATE.key, RCH_POOL_STATE0.key, RCH_POOL_STATE1.key, RCH_POOL_STATE2.key,
      (SEQ_EVENTS (pw payload 0)).key, (SEQ_RES_COUNT (pw payload 0)).key, (SEQ_SLOTS (pw payload 0)).key, (SEQ_STATE (pw payload 0)).key,
      (SPN_STATE (hdaOf (pw payload 0))).key, (SRV_ACT_STATE (pw payload 0)).key, (SRV_OPEN (hdaOf (pw payload 0))).key, (WCH_STATE (pw payload 0)).key] [0x8001,
      0x8003, 0xA002, 0xA003, 0xA00E] s t) ∧
  (∀ c seq payload s t, exec (.releaseSpindle c seq payload) s = .next t →
      t = { s with ctrs := t.ctrs, held := t.held, hif := t.hif, ksk := t.ksk, msix := t.msix, plat := t.plat, regs := t.regs, replies := t.replies, sdl := t.sdl,
                   snap := t.snap } ∧ (∀ b, b ≠ 2 * (36 + c.toNat) → tget [] t.ksk b = tget [] s.ksk b) ∧
      OnlyOr (fun k => coreKey k ∨ (∃ i, k = (SPN_STATE i).key)) [GH_SPN_FORCE.key, (KSK_DISC (36 + c.toNat) 1).key, (KSK_IRQ (36 + c.toNat) 1).key,
      PWR_DENIED_WRITES.key] [0x8001, 0x8003, 0xA00C, 0xA00E] s t) ∧
  (∀ c seq payload s t, exec (.chopperTest c seq payload) s = .next t →
      t = { s with ctrs := t.ctrs, held := t.held, hif := t.hif, ksk := t.ksk, msix := t.msix, plat := t.plat, regs := t.regs, replies := t.replies, sdl := t.sdl,
                   snap := t.snap, gh := { s.gh with chopTest := t.gh.chopTest } } ∧ (∀ b, b ≠ 2 * (36 + c.toNat) → tget [] t.ksk b = tget [] s.ksk b) ∧
      OnlyOr (fun k => coreKey k) [(GH_RAIL (pw payload 0)).key, (KSK_DISC (36 + c.toNat) 1).key, (KSK_IRQ (36 + c.toNat) 1).key, PWR_DENIED_WRITES.key] [0x8001,
      0x8003, 0xA00E] s t) ∧
  (∀ r peakMa within10us s t, exec (.chopperTestEnd r peakMa within10us) s = .next t →
      t = { s with ctrs := t.ctrs, hif := t.hif, ksk := t.ksk, msix := t.msix, plat := t.plat, regs := t.regs, replies := t.replies, sdl := t.sdl, snap := t.snap,
                   gh := { s.gh with chopTest := t.gh.chopTest } } ∧
      OnlyOr (fun k => coreKey k ∨ (∃ i, k = (KSK_DISC i 1).key) ∨ (∃ i, k = (KSK_IRQ i 1).key) ∨ (∃ i, k = (SPN_STATE i).key)) [(GH_RAIL r.toNat).key,
      PWR_DENIED_WRITES.key] [0x8001, 0x8003, 0xA006, 0xA00E] s t) ∧
  (∀ c seq payload s t, exec (.setNotice c seq payload) s = .next t →
      t = { s with ctrs := t.ctrs, held := t.held, hif := t.hif, ksk := t.ksk, msix := t.msix, plat := t.plat, regs := t.regs, replies := t.replies, sdl := t.sdl,
                   snap := t.snap } ∧ (∀ b, b ≠ 2 * (36 + c.toNat) → tget [] t.ksk b = tget [] s.ksk b) ∧ OnlyOr (fun k => coreKey k) [GH_NOTICE_EN.key,
      (KSK_DISC (36 + c.toNat) 1).key, (KSK_IRQ (36 + c.toNat) 1).key, PWR_DENIED_WRITES.key] [0x8001, 0x8003, 0xA00E] s t) ∧
  (∀ c seq payload mv s t, s.plat.rst = .run → exec (.inject c seq payload mv) s = .next t →
      t = { s with acts := t.acts, chains := t.chains, ctrs := t.ctrs, dn := t.dn, freeCtr := t.freeCtr, gh := t.gh, held := t.held, hif := t.hif, ice := t.ice,
                   ksk := t.ksk, lnks := t.lnks, loops := t.loops, msix := t.msix, outqs := t.outqs, plat := t.plat, pool := t.pool, regs := t.regs,
                   replies := t.replies, sdl := t.sdl, seqs := t.seqs, snap := t.snap, spn := t.spn, spnQueue := t.spnQueue, up := t.up, wOff := t.wOff } ∧ (∀ b,
      b ≠ pw payload 1 % 256 → lnk b t = lnk b s) ∧
      OnlyOr (fun k => lodgeKey k ∨ coreKey k ∨ (∃ i, k = (GH_ACT_FORCE i).key) ∨ (∃ i, k = (GH_ACT_STATUS i).key) ∨ (∃ i, k = (GH_ISOLATED i).key) ∨ (∃ i, k = (KSK_DISC i 1).key) ∨ (∃ i, k = (KSK_IRQ i 1).key) ∨ (∃ i, k = (SPN_FAULT i).key) ∨ (∃ i, k = (SPN_SPEED0 i).key) ∨ (∃ i, k = (SPN_STATE i).key) ∨ (∃ i, k = (SRV_ACT_STATE i).key) ∨ (∃ i, k = (WCH_STATE i).key) ∨ (∃ d, actKey d k = true)) [GH_GRAVE.key,
      (GH_RAIL (pw payload 1 % 256)).key, GH_SPN_FORCE.key, GH_SUPPLY.key, HIF_TT_STATE.key, (LNK_SKEW (pw payload 1 % 256)).key,
      (LNK_STATE (pw payload 1 % 256)).key, (PWR_ACT_RST_BUSY (pw payload 1 % 256 / 32)).key, PWR_DENIED_WRITES.key, RCH_DR_STATE.key, RCH_POOL_STATE0.key,
      RCH_POOL_STATE1.key, RCH_POOL_STATE2.key, (SEQ_EVENTS (pw payload 1 % 256)).key, (SEQ_RES_COUNT (pw payload 1 % 256)).key,
      (SEQ_SLOTS (pw payload 1 % 256)).key, (SEQ_STATE (pw payload 1 % 256)).key, (SRV_OPEN (hdaOf (pw payload 1 % 256))).key] [0x5009, 0x8001, 0x8003, 0xA001,
      0xA002, 0xA003, 0xA004, 0xA005, 0xA007, 0xA009, 0xA00A, 0xA00E, 0xA00F, 0xA104] s t) ∧
  (∀ a s t, exec (.retractRegTimeout a) s = .next t →
      t = { s with dn := t.dn, gh := t.gh }) ∧
  (∀ a value s t, s.plat.rst = .run → exec (.retractPoll a value) s = .next t →
      t = { s with acts := t.acts, chains := t.chains, ctrs := t.ctrs, dn := t.dn, gh := t.gh, hif := t.hif, ksk := t.ksk, lnks := t.lnks, loops := t.loops,
                   msix := t.msix, outqs := t.outqs, plat := t.plat, pool := t.pool, regs := t.regs, replies := t.replies, sdl := t.sdl, seqs := t.seqs,
                   snap := t.snap, spn := t.spn, up := t.up, wOff := t.wOff } ∧ (∀ b, b ≠ a.toNat → act b t = act b s) ∧ (∀ b, b ≠ a.toNat → lnk b t = lnk b s) ∧
      (∀ b, b ≠ a.toNat → seq b t = seq b s) ∧
      OnlyOr (fun k => coreKey k ∨ (∃ i, k = (KSK_DISC i 1).key) ∨ (∃ i, k = (KSK_IRQ i 1).key) ∨ (∃ i, k = (SPN_SPEED0 i).key) ∨ (∃ i, k = (SPN_STATE i).key) ∨ actKey a.toNat k = true) [(GH_ACT_FORCE (a.toNat / 32)).key,
      (GH_ISOLATED (a.toNat / 32)).key, GH_SPN_FORCE.key, (LNK_SKEW a.toNat).key, (LNK_STATE a.toNat).key, (PWR_ACT_RST_BUSY (a.toNat / 32)).key,
      PWR_DENIED_WRITES.key, RCH_DR_STATE.key, RCH_POOL_STATE0.key, RCH_POOL_STATE1.key, RCH_POOL_STATE2.key, (SEQ_EVENTS a.toNat).key, (SEQ_RES_COUNT a.toNat).key,
      (SEQ_SLOTS a.toNat).key, (SEQ_STATE a.toNat).key, (SRV_ACT_STATE a.toNat).key, (SRV_OPEN (hdaOf (a.toNat))).key, (WCH_STATE a.toNat).key] [0x8001, 0x8003,
      0xA002, 0xA00E] s t) ∧
  (∀ a failed s t, s.plat.rst = .run → exec (.retractTimeout a failed) s = .next t →
      t = { s with acts := t.acts, chains := t.chains, ctrs := t.ctrs, dn := t.dn, gh := t.gh, hif := t.hif, ksk := t.ksk, lnks := t.lnks, loops := t.loops,
                   msix := t.msix, outqs := t.outqs, plat := t.plat, pool := t.pool, regs := t.regs, replies := t.replies, sdl := t.sdl, seqs := t.seqs,
                   snap := t.snap, spn := t.spn, up := t.up, wOff := t.wOff } ∧ (∀ b, b ≠ a.toNat → act b t = act b s) ∧ (∀ b, b ≠ a.toNat → lnk b t = lnk b s) ∧
      (∀ b, b ≠ a.toNat → seq b t = seq b s) ∧
      OnlyOr (fun k => lodgeKey k ∨ coreKey k ∨ (∃ i, k = (KSK_DISC i 1).key) ∨ (∃ i, k = (KSK_IRQ i 1).key) ∨ (∃ i, k = (SPN_SPEED0 i).key) ∨ (∃ i, k = (SPN_STATE i).key) ∨ actKey a.toNat k = true) [(GH_ACT_FORCE (a.toNat / 32)).key,
      (GH_ACT_STATUS a.toNat).key, (GH_ISOLATED (a.toNat / 32)).key, GH_SPN_FORCE.key, (LNK_SKEW a.toNat).key, (LNK_STATE a.toNat).key,
      (PWR_ACT_RST_BUSY (a.toNat / 32)).key, PWR_DENIED_WRITES.key, RCH_DR_STATE.key, RCH_POOL_STATE0.key, RCH_POOL_STATE1.key, RCH_POOL_STATE2.key,
      (SEQ_EVENTS a.toNat).key, (SEQ_RES_COUNT a.toNat).key, (SEQ_SLOTS a.toNat).key, (SEQ_STATE a.toNat).key, (SRV_ACT_STATE a.toNat).key,
      (SRV_OPEN (hdaOf (a.toNat))).key, (WCH_STATE a.toNat).key] [0x8001, 0x8003, 0xA002, 0xA004, 0xA00E] s t) ∧
  (∀ b mv s t, exec (.supplyExcursion b mv) s = .next t →
      t = { s with acts := t.acts, ctrs := t.ctrs, gh := t.gh, regs := t.regs, seqs := t.seqs, wOff := t.wOff } ∧
      OnlyOr (fun k => lodgeKey k ∨ (∃ i, k = (GH_ACT_FORCE i).key) ∨ (∃ i, k = (SRV_ACT_STATE i).key) ∨ (∃ i, k = (WCH_STATE i).key)) [GH_SUPPLY.key] [0xA009] s t) ∧
  (∀ b mv s t, exec (.supplyFault b mv) s = .next t →
      t = { s with acts := t.acts, ctrs := t.ctrs, dn := t.dn, gh := t.gh, regs := t.regs, seqs := t.seqs, wOff := t.wOff } ∧
      OnlyOr (fun k => lodgeKey k ∨ (∃ i, k = (GH_ACT_FORCE i).key) ∨ (∃ i, k = (GH_ACT_STATUS i).key) ∨ (∃ i, k = (GH_ISOLATED i).key) ∨ (∃ i, k = (SPN_STATE i).key) ∨ (∃ i, k = (SRV_ACT_STATE i).key) ∨ (∃ i, k = (WCH_STATE i).key)) [] [0xA002,
      0xA003] s t) ∧
  (∀ s t, exec .supplyRecovered s = .next t →
      t = { s with regs := t.regs, gh := { s.gh with supplyOut := t.gh.supplyOut } } ∧
      OnlyOr (fun k => (∃ i, k = (GH_ACT_FORCE i).key) ∨ (∃ i, k = (SRV_ACT_STATE i).key)) [GH_SUPPLY.key] [] s t) ∧
  (∀ tj s t, exec (.temperatureSample tj) s = .next t →
      t = { s with regs := t.regs, gh := { s.gh with thermal := t.gh.thermal } } ∧ Only [GH_TEMP.key] [] s t) ∧
  (∀ s t, exec .thermalDetected s = .next t →
      t = { s with acts := t.acts, ctrs := t.ctrs, dn := t.dn, gh := t.gh, regs := t.regs, seqs := t.seqs, wOff := t.wOff } ∧
      OnlyOr (fun k => lodgeKey k ∨ (∃ i, k = (GH_ACT_FORCE i).key) ∨ (∃ i, k = (GH_ACT_STATUS i).key) ∨ (∃ i, k = (GH_ISOLATED i).key) ∨ (∃ i, k = (SPN_STATE i).key) ∨ (∃ i, k = (SRV_ACT_STATE i).key) ∨ (∃ i, k = (WCH_STATE i).key)) [] [0xA002,
      0xA003, 0xA00A] s t) ∧
  (∀ s t, exec .thermalGrave s = .next t →
      t = { s with acts := t.acts, ctrs := t.ctrs, dn := t.dn, freeCtr := t.freeCtr, gh := t.gh, ice := t.ice, regs := t.regs, seqs := t.seqs, spn := t.spn,
                   spnQueue := t.spnQueue, wOff := t.wOff, hif := { s.hif with aerEv := t.hif.aerEv, aers := t.hif.aers, cpls := t.hif.cpls, errCnt := t.hif.errCnt,
                                                                               errs := t.hif.errs, tasks := t.hif.tasks } } ∧
      OnlyOr (fun k => lodgeKey k ∨ (∃ i, k = (GH_ACT_FORCE i).key) ∨ (∃ i, k = (GH_ISOLATED i).key) ∨ (∃ i, k = (SPN_FAULT i).key) ∨ (∃ i, k = (SPN_SPEED0 i).key) ∨ (∃ i, k = (SPN_STATE i).key) ∨ (∃ i, k = (SRV_ACT_STATE i).key) ∨ (∃ i, k = (WCH_STATE i).key)) [GH_GRAVE.key,
      GH_SPN_FORCE.key, HIF_TT_STATE.key] [0x5009, 0xA001, 0xA002, 0xA003, 0xA00A] s t) ∧
  (∀ s t, exec .lockstepMismatch s = .next t →
      t = { s with acts := t.acts, ctrs := t.ctrs, dn := t.dn, freeCtr := t.freeCtr, gh := t.gh, ice := t.ice, regs := t.regs, seqs := t.seqs, spn := t.spn,
                   spnQueue := t.spnQueue, wOff := t.wOff, hif := { s.hif with aerEv := t.hif.aerEv, aers := t.hif.aers, cpls := t.hif.cpls, errCnt := t.hif.errCnt,
                                                                               errs := t.hif.errs, tasks := t.hif.tasks } } ∧
      OnlyOr (fun k => lodgeKey k ∨ (∃ i, k = (GH_ACT_FORCE i).key) ∨ (∃ i, k = (GH_ISOLATED i).key) ∨ (∃ i, k = (SPN_FAULT i).key) ∨ (∃ i, k = (SPN_SPEED0 i).key) ∨ (∃ i, k = (SPN_STATE i).key) ∨ (∃ i, k = (SRV_ACT_STATE i).key) ∨ (∃ i, k = (WCH_STATE i).key)) [GH_GRAVE.key,
      GH_ID.key, GH_SPN_FORCE.key, HIF_TT_STATE.key] [0x5009, 0xA001, 0xA002, 0xA003, 0xA101] s t) ∧
  (∀ s t, exec .ghSramUncorrectable s = .next t →
      t = { s with acts := t.acts, ctrs := t.ctrs, dn := t.dn, freeCtr := t.freeCtr, gh := t.gh, ice := t.ice, regs := t.regs, seqs := t.seqs, spn := t.spn,
                   spnQueue := t.spnQueue, wOff := t.wOff, hif := { s.hif with aerEv := t.hif.aerEv, aers := t.hif.aers, cpls := t.hif.cpls, errCnt := t.hif.errCnt,
                                                                               errs := t.hif.errs, tasks := t.hif.tasks } } ∧
      OnlyOr (fun k => lodgeKey k ∨ (∃ i, k = (GH_ACT_FORCE i).key) ∨ (∃ i, k = (GH_ISOLATED i).key) ∨ (∃ i, k = (SPN_FAULT i).key) ∨ (∃ i, k = (SPN_SPEED0 i).key) ∨ (∃ i, k = (SPN_STATE i).key) ∨ (∃ i, k = (SRV_ACT_STATE i).key) ∨ (∃ i, k = (WCH_STATE i).key)) [GH_GRAVE.key,
      GH_ID.key, GH_SPN_FORCE.key, HIF_TT_STATE.key] [0x5009, 0xA001, 0xA002, 0xA003, 0xA102] s t) ∧
  (∀ m c s t, exec (.noticeRead m c) s = .next t →
      t = { s with rdata := t.rdata, regs := t.regs } ∧ Only [(GH_NOTICE c.toNat).key] [] s t) ∧
  (∀ m s t, exec (.supplyStickyRead m) s = .next t →
      t = { s with rdata := t.rdata, regs := t.regs } ∧ Only [GH_SUPPLY.key] [] s t) ∧
  (∀ m s t, exec (.sundialRead m) s = .next t →
      t = { s with rdata := t.rdata, snap := t.snap } ∧ (∀ b, b ≠ (SDL_NOW_HI m.toNat).1 → b ≠ (SDL_NOW_LO m.toNat).1 → tget 0 t.snap b = tget 0 s.snap b)) ∧
  (∀ m v s t, exec (.epochHiWrite m v) s = .next t →
      t = { s with regs := t.regs, sdl := t.sdl } ∧ Only [PWR_DENIED_WRITES.key] [] s t) ∧
  (∀ m v s t, exec (.epochLoWrite m v) s = .next t →
      t = { s with regs := t.regs } ∧ Only [PWR_DENIED_WRITES.key, SDL_EPOCH_CTL.key, SDL_EPOCH_HI.key, SDL_EPOCH_LO.key] [] s t) ∧
  (∀ m c lo v s t, exec (.compareWrite m c lo v) s = .next t →
      t = { s with regs := t.regs, sdl := t.sdl } ∧ Only [PWR_DENIED_WRITES.key, (SDL_CMP_CTL c.toNat).key, (SDL_CMP_HI c.toNat).key,
      (SDL_CMP_LO c.toNat).key] [] s t) ∧
  (∀ c s t, exec (.timerCompare c) s = .next t →
      t = { s with regs := t.regs } ∧ Only [(SDL_CMP_CTL c.toNat).key] [] s t) ∧
  (∀ q x s t, exec (.histogramSample q x) s = .next t →
      t = { s with ctrs := t.ctrs, regs := t.regs } ∧
      OnlyOr (fun k => (∃ i, k = (ICE_EXT_MAX i).key) ∨ (∃ i, k = (ICE_EXT_MIN i).key) ∨ (∃ i j, k = (ICE_EXT_T i j).key) ∨ (∃ i, k = ICE_HIST 3 i)) [ICE_SAT.key,
      ICE_HIST 4 (binTj x), ICE_HIST 5 (binRail x.toNat)] [0x8105] s t) ∧
  (∀ reason s t, exec (.snapshotCapture reason) s = .next t →
      t = { s with ctrs := t.ctrs, ice := t.ice, regs := t.regs } ∧ OnlyOr (fun k => (∃ i, k = (ICE_EVT_INTERVAL i).key)) [ICE_SKIPPED.key,
      ICE_STATE.key] [0x8102] s t) ∧
  (∀ fails s t, exec (.snapshotWrite fails) s = .next t →
      t = { s with ctrs := t.ctrs, freeCtr := t.freeCtr, gh := t.gh, ice := t.ice, nv := t.nv, nvs := t.nvs, regs := t.regs } ∧
      OnlyOr (fun k => lodgeKey k ∨ (∃ i, k = (NVS_INDET i).key)) [ICE_SLOT_SEQ.key, ICE_STATE.key, NVS_ERR.key, NVS_STATUS.key, NVS_WEAR.key] [0x8101, 0x8106,
      0x9007] s t) ∧
  (∀ m ix v s t, exec (.foldAdd m ix v) s = .next t →
      t = { s with ctrs := t.ctrs, regs := t.regs } ∧ Only [PWR_DENIED_WRITES.key, ICE_FOLD_SUM ix.toNat] [] s t) ∧
  (∀ m s t, exec (.icehouseClear m) s = .next t →
      t = { s with ctrs := t.ctrs, gh := t.gh, hif := t.hif, ice := t.ice, ksk := t.ksk, msix := t.msix, nv := t.nv, nvs := t.nvs, plat := t.plat, regs := t.regs,
                   replies := t.replies, sdl := t.sdl, snap := t.snap } ∧
      OnlyOr (fun k => lodgeKey k ∨ coreKey k ∨ (∃ i, k = (ICE_EVT_INTERVAL i).key) ∨ (∃ i, k = (ICE_EXT_MAX i).key) ∨ (∃ i, k = (ICE_EXT_MIN i).key) ∨ (∃ i j, k = (ICE_EXT_T i j).key) ∨ (∃ i, k = (KSK_DISC i 0).key) ∨ (∃ i, k = (KSK_IRQ i 0).key) ∨ (∃ i, k = (NVS_INDET i).key) ∨ (∃ i, k = ICE_EVT_COUNT i) ∨ (∃ i, k = ICE_EVT_LAST i) ∨ (∃ i, k = ICE_FOLD_SUM i) ∨ (∃ i j, k = ICE_HIST i j)) [ICE_CLEAR_COUNT.key,
      ICE_SAT.key, ICE_SKIPPED.key, ICE_STATE.key, NVS_ERR.key, NVS_PAR_SEQ.key, NVS_PAR_STATE.key, NVS_REC_STATUS.key, NVS_STATUS.key, NVS_WEAR.key,
      PWR_DENIED_WRITES.key] [0x8001, 0x8003, 0x8007, 0x8102, 0x8104, 0x9007, 0x9008] s t) ∧
  (∀ m s t, exec (.imageVerify m) s = .next t →
      t = { s with regs := t.regs, sec := { s.sec with verify := t.sec.verify } } ∧ Only [PWR_BAD_ACCESS.key, PWR_DENIED_WRITES.key, SEC_VERIFY_CTL.key] [] s t) ∧
  (∀ s t, exec .imageVerifyEnd s = .next t →
      t = { s with ctrs := t.ctrs, freeCtr := t.freeCtr, hif := t.hif, ice := t.ice, ksk := t.ksk, msix := t.msix, plat := t.plat, regs := t.regs,
                   replies := t.replies, sdl := t.sdl, snap := t.snap, sec := { s.sec with nonce := t.sec.nonce, opened := t.sec.opened, req := t.sec.req,
                                                                                           rsp := t.sec.rsp, verify := t.sec.verify, waits := t.sec.waits } } ∧
      OnlyOr (fun k => coreKey k ∨ (∃ i, k = (KSK_DISC i 0).key) ∨ (∃ i, k = (KSK_IRQ i 0).key) ∨ (∃ i, k = (SEC_MEAS 5 i).key) ∨ (∃ i j, k = (SEC_MLOG i j).key)) [PWR_DENIED_WRITES.key,
      SEC_MLOG_COUNT.key, SEC_SHED.key, SEC_VERIFY_CTL.key, SEC_VERIFY_DIGEST.key] [0x8001, 0x8003, 0x8007, 0x8103, 0xB001, 0xB003, 0xB004, 0xB007] s t) ∧
  (∀ m v s t, exec (.measurementExtend m v) s = .next t →
      t = { s with ctrs := t.ctrs, regs := t.regs } ∧
      OnlyOr (fun k => (∃ i, k = (SEC_MEAS (fget v F_SEC_EXTEND_CTL_INDEX) i).key) ∨ (∃ i j, k = (SEC_MLOG i j).key)) [PWR_BAD_ACCESS.key, PWR_DENIED_WRITES.key,
      SEC_EXTEND_CTL.key, SEC_MLOG_COUNT.key] [0xB007] s t) ∧
  (∀ m s t, exec (.keyEnroll m) s = .next t →
      t = { s with ctrs := t.ctrs, regs := t.regs, sec := { s.sec with custKey := t.sec.custKey } } ∧ Only [PWR_BAD_ACCESS.key, PWR_DENIED_WRITES.key,
      SEC_ENROLL_CTL.key, SEC_FUSE.key] [0xB006] s t) ∧
  (∀ m s t, exec (.shedClose m) s = .next t →
      t = { s with ctrs := t.ctrs, regs := t.regs, sec := { s.sec with opened := t.sec.opened } } ∧ Only [PWR_BAD_ACCESS.key, PWR_DENIED_WRITES.key,
      SEC_SHED.key] [0xB005] s t) ∧
  (∀ s t, exec .nonceExpired s = .next t →
      t = { s with regs := t.regs, sec := { s.sec with nonce := t.sec.nonce } } ∧ Only [SEC_SHED.key] [] s t) ∧
  (∀ s t, exec .spdmGetVersion s = .next t →
      t = { s with sec := { s.sec with req := t.sec.req, rsp := t.sec.rsp, stage := t.sec.stage, tCert := t.sec.tCert, tMeas := t.sec.tMeas, tNeg := t.sec.tNeg } }) ∧
  (∀ s t, exec .spdmGetCapabilities s = .next t →
      t = { s with sec := { s.sec with req := t.sec.req, rsp := t.sec.rsp, stage := t.sec.stage, tMeas := t.sec.tMeas, tNeg := t.sec.tNeg } }) ∧
  (∀ s t, exec .spdmNegotiateAlgorithms s = .next t →
      t = { s with sec := { s.sec with req := t.sec.req, rsp := t.sec.rsp, stage := t.sec.stage, tMeas := t.sec.tMeas, tNeg := t.sec.tNeg } }) ∧
  (∀ s t, exec .spdmGetDigests s = .next t →
      t = { s with sec := { s.sec with req := t.sec.req, rsp := t.sec.rsp, tCert := t.sec.tCert, tMeas := t.sec.tMeas } }) ∧
  (∀ s t, exec .spdmGetCertificate s = .next t →
      t = { s with sec := { s.sec with req := t.sec.req, rsp := t.sec.rsp, tCert := t.sec.tCert, tMeas := t.sec.tMeas } }) ∧
  (∀ s t, exec .spdmChallenge s = .next t →
      t = { s with freeCtr := t.freeCtr, sec := { s.sec with req := t.sec.req, rsp := t.sec.rsp, tCert := t.sec.tCert, tMeas := t.sec.tMeas } }) ∧
  (∀ s t, exec .spdmGetMeasurements s = .next t →
      t = { s with freeCtr := t.freeCtr, sec := { s.sec with req := t.sec.req, rsp := t.sec.rsp, tMeas := t.sec.tMeas } }) ∧
  (∀ off s t, exec (.smbusSetPointer off) s = .next t →
      t = { s with freeCtr := t.freeCtr, pins := { s.pins with ptr := t.pins.ptr } }) ∧
  (∀ s t, exec .smbusBlockRead s = .next t →
      t = { s with pins := { s.pins with out := t.pins.out, ptr := t.pins.ptr } }) ∧
  (∀ s t, exec .smbusCopyRefresh s = .next t →
      t = { s with pins := { s.pins with copy := t.pins.copy } }) ∧
  (∀ s t, exec .bypass s = .next t →
      t = { s with pins := { s.pins with ir := t.pins.ir, scan := t.pins.scan } }) ∧
  (∀ s t, exec .idcode s = .next t →
      t = { s with pins := { s.pins with ir := t.pins.ir, scan := t.pins.scan } }) ∧
  (∀ pins v s t, exec (.samplePreload pins v) s = .next t →
      t = { s with pins := { s.pins with bound := t.pins.bound, ir := t.pins.ir, scan := t.pins.scan } }) ∧
  (∀ s t, exec .extest s = .next t →
      t = { s with pins := { s.pins with ir := t.pins.ir, scan := t.pins.scan } }) ∧
  (∀ s t, exec .clamp s = .next t →
      t = { s with pins := { s.pins with ir := t.pins.ir, scan := t.pins.scan } }) ∧
  (∀ s t, exec .highz s = .next t →
      t = { s with pins := { s.pins with ir := t.pins.ir, scan := t.pins.scan } }) ∧
  (∀ d w v s t, exec (.configurationRequest d w v) s = .next t →
      t = { s with ctrs := t.ctrs, rdata := t.rdata, regs := t.regs, seqs := t.seqs, snap := t.snap, hif := { s.hif with act := t.hif.act, aerEv := t.hif.aerEv,
                                                                                                                         aerQ := t.hif.aerQ, aers := t.hif.aers,
                                                                                                                         arb := t.hif.arb, arbCls := t.hif.arbCls,
                                                                                                                         cfg := t.hif.cfg, commit := t.hif.commit,
                                                                                                                         cpls := t.hif.cpls, cqs := t.hif.cqs,
                                                                                                                         crs := t.hif.crs, en := t.hif.en,
                                                                                                                         ends := t.hif.ends, feats := t.hif.feats,
                                                                                                                         msixPba := t.hif.msixPba,
                                                                                                                         msixTab := t.hif.msixTab, rdy := t.hif.rdy,
                                                                                                                         regs := t.hif.regs, shut := t.hif.shut,
                                                                                                                         sqs := t.hif.sqs, tasks := t.hif.tasks,
                                                                                                                         xfers := t.hif.xfers,
                                                                                                                         xres := t.hif.xres } } ∧
      OnlyOr (fun k => (∃ i, k = (SEQ_EVENTS i).key) ∨ (∃ i, k = (SEQ_RES_COUNT i).key) ∨ (∃ i, k = (SEQ_SLOTS i).key)) [HIF_TT_STATE.key] [0x3008, 0x7003] s t) ∧
  (∀ s t, exec .faultAgedOut s = .next t →
      t = { s with regs := t.regs } ∧ OnlyOr (fun k => (∃ i, k = (GH_ACT_STATUS i).key)) [] [] s t) ∧
  (∀ tries ok rank s t, exec (.bootStageEnd tries ok rank) s = .next t → SameNv (fun o => 0x1800000 ≤ o ∧ o < 0x1A00000) s t) ∧
  (∀ ch seq payload s t, NvBanks s → exec (.spinDown ch seq payload) s = .next t → SameNv (fun o => 0x1E00000 ≤ o) s t) ∧
  (∀ ch seq payload s t, NvBanks s → exec (.spinUp ch seq payload) s = .next t → SameNv (fun o => 0x1E00000 ≤ o) s t) ∧
  (∀ ch seq payload s t, NvBanks s → exec (.setSubsys ch seq payload) s = .next t → SameNv (fun o => 0x1E00000 ≤ o) s t) ∧
  (∀ m s t, NvBanks s → exec (.icehouseClear m) s = .next t → SameNv (fun o => 0x1E00000 ≤ o) s t)
end

