-- ==== Sys2Proof/Laws/Fields.lean ====
section
/-! SUPPORT. The laws of bit fields: a field read after it is written, and other fields of the word. -/

namespace Sys2Proof.Machine

theorem fget_testBit (v : BitVec 32) (f : Fld) (i : Nat) : (fget v f).testBit i = (decide (i < f.w) && v.getLsbD (f.lo + i)) := by
  simp [fget, Nat.testBit_mod_two_pow, Nat.testBit_shiftRight, BitVec.getLsbD]

theorem fmask_getLsbD (f : Fld) (h : f.lo + f.w ≤ 32) (i : Nat) : (fmask f).getLsbD i = (decide (f.lo ≤ i) && decide (i < f.lo + f.w)) := by
  unfold fmask
  rw [BitVec.getLsbD_shiftLeft, BitVec.getLsbD_ushiftRight, BitVec.getLsbD_allOnes]
  rw [Bool.eq_iff_iff]
  simp only [Bool.and_eq_true, decide_eq_true_eq, Bool.not_eq_true', decide_eq_false_iff_not]
  omega

theorem fset_getLsbD (v : BitVec 32) (f : Fld) (n : Nat) (h : f.lo + f.w ≤ 32) (i : Nat) :
    (fset v f n).getLsbD i = if f.lo ≤ i ∧ i < f.lo + f.w then n.testBit (i - f.lo) else v.getLsbD i := by
  unfold fset
  rw [BitVec.getLsbD_or, BitVec.getLsbD_and, BitVec.getLsbD_and, BitVec.getLsbD_not, BitVec.getLsbD_shiftLeft, BitVec.getLsbD_ofNat, fmask_getLsbD f h]
  by_cases hi : f.lo ≤ i ∧ i < f.lo + f.w
  · have h1 : ¬ i < f.lo := by omega
    have h2 : i < 32 := by omega
    have h3 : i - f.lo < 32 := by omega
    simp only [hi.1, hi.2, h1, h2, h3, and_self, if_true, decide_true, decide_false, Bool.not_true, Bool.not_false, Bool.and_true, Bool.true_and, Bool.and_false,
      Bool.false_or]
  · rw [if_neg hi]
    have : (decide (f.lo ≤ i) && decide (i < f.lo + f.w)) = false := by simpa using hi
    rw [this]
    by_cases h2 : i < 32
    · simp only [h2, decide_true, Bool.not_false, Bool.and_true, Bool.true_and, Bool.and_false, Bool.or_false]
    · simp only [h2, decide_false, Bool.false_and, Bool.and_false, Bool.or_false]
      exact (BitVec.getLsbD_of_ge v i (by omega)).symm

/-- A field read after it is written holds the value, cut to the field's width. -/
theorem fget_fset_same (v : BitVec 32) (f : Fld) (n : Nat) (h : f.lo + f.w ≤ 32) : fget (fset v f n) f = n % 2 ^ f.w := by
  apply Nat.eq_of_testBit_eq
  intro i
  rw [fget_testBit, fset_getLsbD v f n h, Nat.testBit_mod_two_pow]
  by_cases hi : i < f.w
  · simp [hi]
  · simp [hi]

/-- A field is not changed by a write of another field of the same word. -/
theorem fget_fset_ne (v : BitVec 32) (f g : Fld) (n : Nat) (h : f.lo + f.w ≤ 32) (hd : g.lo + g.w ≤ f.lo ∨ f.lo + f.w ≤ g.lo) :
    fget (fset v f n) g = fget v g := by
  apply Nat.eq_of_testBit_eq
  intro i
  rw [fget_testBit, fget_testBit, fset_getLsbD v f n h]
  by_cases hi : i < g.w
  · have : ¬ (f.lo ≤ g.lo + i ∧ g.lo + i < f.lo + f.w) := by omega
    simp [this]
  · simp [hi]

/-- A field is smaller than two to its width. -/
theorem fget_lt (v : BitVec 32) (f : Fld) : fget v f < 2 ^ f.w := Nat.mod_lt _ (Nat.two_pow_pos _)

end Sys2Proof.Machine
end

