-- ==== Sys2Proof/Laws/Tbl.lean ====
section
/-! SUPPORT. The laws of sparse tables: a read after a write, and the canonical form that every write keeps. -/

namespace Sys2Proof.Machine

variable {α : Type}

theorem tget_tdel_same (d : α) (t : List (Nat × α)) (k : Nat) : tget d (tdel k t) k = d := by
  induction t with
  | nil => rfl
  | cons e r ih =>
    obtain ⟨k', v⟩ := e
    by_cases h : k' = k
    · subst h; simpa [tdel] using ih
    · simp only [tdel, List.filter_cons, bne_iff_ne, ne_eq, h, not_false_eq_true, ite_true]
      rw [tget, if_neg h]; exact ih

theorem tget_tdel_ne (d : α) (t : List (Nat × α)) {k j : Nat} (h : j ≠ k) : tget d (tdel k t) j = tget d t j := by
  induction t with
  | nil => rfl
  | cons e r ih =>
    obtain ⟨k', v⟩ := e
    by_cases hk : k' = k
    · subst hk
      have : tdel k' ((k', v) :: r) = tdel k' r := by simp [tdel]
      rw [this, ih, tget, if_neg (fun e => h e.symm)]
    · have : tdel k ((k', v) :: r) = (k', v) :: tdel k r := by simp [tdel, hk]
      rw [this]
      by_cases hj : k' = j
      · simp [tget, hj]
      · rw [tget, if_neg hj, tget, if_neg hj]; exact ih

theorem tget_tins_same (d : α) (t : List (Nat × α)) (k : Nat) (v : α) : tget d (tins k v t) k = v := by
  induction t with
  | nil => simp [tins, tget]
  | cons e r ih =>
    obtain ⟨k', w⟩ := e
    rw [tins]
    split
    · simp [tget]
    · split
      · simp [tget]
      · rename_i h _; rw [tget, if_neg (fun e => h e.symm)]; exact ih

theorem tget_tins_ne (d : α) (t : List (Nat × α)) {k j : Nat} (v : α) (h : j ≠ k) : tget d (tins k v t) j = tget d t j := by
  induction t with
  | nil => simp [tins, tget, Ne.symm h]
  | cons e r ih =>
    obtain ⟨k', w⟩ := e
    rw [tins]
    split
    · rename_i e; subst e; simp [tget, Ne.symm h]
    · split
      · simp [tget, Ne.symm h]
      · by_cases hj : k' = j
        · simp [tget, hj]
        · rw [tget, if_neg hj, tget, if_neg hj]; exact ih

/-- A read of the key written gives the value. -/
@[simp] theorem tget_tput_same [DecidableEq α] (d : α) (t : List (Nat × α)) (k : Nat) (v : α) : tget d (tput d t k v) k = v := by
  unfold tput
  split
  · rename_i h; rw [tget_tdel_same, h]
  · exact tget_tins_same d t k v

/-- A read of another key is not changed. -/
theorem tget_tput_ne [DecidableEq α] (c d : α) (t : List (Nat × α)) {k j : Nat} (v : α) (h : j ≠ k) : tget c (tput d t k v) j = tget c t j := by
  unfold tput
  split
  · exact tget_tdel_ne c t h
  · exact tget_tins_ne c t v h

/-- An empty table reads as the default. -/
@[simp] theorem tget_nil (d : α) (k : Nat) : tget d [] k = d := rfl

/-- A change of one entry, read at that entry. -/
@[simp] theorem tget_tmod_same [DecidableEq α] (d : α) (t : List (Nat × α)) (k : Nat) (f : α → α) : tget d (tmod d t k f) k = f (tget d t k) :=
  tget_tput_same d t k _

/-- A change of one entry leaves the others. -/
theorem tget_tmod_ne [DecidableEq α] (c d : α) (t : List (Nat × α)) {k j : Nat} (f : α → α) (h : j ≠ k) : tget c (tmod d t k f) j = tget c t j :=
  tget_tput_ne c d t _ h

/-! ### The canonical form -/

theorem tsorted_cons {e : Nat × α} {r : List (Nat × α)} (h : tsorted (e :: r) = true) : tsorted r = true := by
  cases r with
  | nil => rfl
  | cons b r => simp only [tsorted, Bool.and_eq_true] at h; exact h.2

theorem tsorted_lt {e : Nat × α} {r : List (Nat × α)} (h : tsorted (e :: r) = true) : ∀ x ∈ r, e.1 < x.1 := by
  induction r generalizing e with
  | nil => intro x hx; simp at hx
  | cons b r ih =>
    simp only [tsorted, Bool.and_eq_true, decide_eq_true_eq] at h
    intro x hx
    rcases List.mem_cons.1 hx with rfl | hx
    · exact h.1
    · exact Nat.lt_trans h.1 (ih h.2 x hx)

theorem tsorted_of_lt {e : Nat × α} {r : List (Nat × α)} (h : ∀ x ∈ r, e.1 < x.1) (hr : tsorted r = true) : tsorted (e :: r) = true := by
  cases r with
  | nil => rfl
  | cons b r => simp only [tsorted, Bool.and_eq_true, decide_eq_true_eq]; exact ⟨h b (by simp), hr⟩

theorem tdel_sorted {t : List (Nat × α)} (k : Nat) (h : tsorted t = true) : tsorted (tdel k t) = true := by
  induction t with
  | nil => rfl
  | cons e r ih =>
    have hr := ih (tsorted_cons h)
    by_cases hk : e.1 = k
    · have : tdel k (e :: r) = tdel k r := by simp [tdel, hk]
      rw [this]; exact hr
    · have : tdel k (e :: r) = e :: tdel k r := by simp [tdel, hk]
      rw [this]
      exact tsorted_of_lt (fun x hx => tsorted_lt h x (List.mem_filter.1 hx).1) hr

theorem tins_mem {t : List (Nat × α)} {k : Nat} {v : α} {x : Nat × α} (h : x ∈ tins k v t) : x = (k, v) ∨ x ∈ t := by
  induction t with
  | nil => simpa [tins] using h
  | cons e r ih =>
    obtain ⟨k', w⟩ := e
    rw [tins] at h
    split at h
    · rcases List.mem_cons.1 h with h | h
      · exact .inl h
      · exact .inr (List.mem_cons_of_mem _ h)
    · split at h
      · rcases List.mem_cons.1 h with h | h
        · exact .inl h
        · exact .inr h
      · rcases List.mem_cons.1 h with h | h
        · exact .inr (h ▸ List.mem_cons_self)
        · exact (ih h).imp id (List.mem_cons_of_mem _)

theorem tins_sorted {t : List (Nat × α)} (k : Nat) (v : α) (h : tsorted t = true) : tsorted (tins k v t) = true := by
  induction t with
  | nil => rfl
  | cons e r ih =>
    obtain ⟨k', w⟩ := e
    rw [tins]
    split
    · rename_i hk; subst hk; exact tsorted_of_lt (fun x hx => tsorted_lt h x hx) (tsorted_cons h)
    · split
      · rename_i hlt
        refine tsorted_of_lt (fun x hx => ?_) h
        rcases List.mem_cons.1 hx with rfl | hx
        · exact hlt
        · exact Nat.lt_trans hlt (tsorted_lt h x hx)
      · rename_i hne hnl
        refine tsorted_of_lt (fun x hx => ?_) (ih (tsorted_cons h))
        rcases tins_mem hx with rfl | hx
        · show k' < k; omega
        · exact tsorted_lt h x hx

/-- A write keeps the order of the keys. -/
theorem tput_sorted [DecidableEq α] (d : α) {t : List (Nat × α)} (k : Nat) (v : α) (h : tsorted t = true) : tsorted (tput d t k v) = true := by
  unfold tput; split
  · exact tdel_sorted k h
  · exact tins_sorted k v h

/-- A write keeps the canonical form. -/
theorem tput_twf [DecidableEq α] (d : α) {t : List (Nat × α)} (k : Nat) (v : α) (h : twf d t = true) : twf d (tput d t k v) = true := by
  simp only [twf, Bool.and_eq_true, List.all_eq_true, decide_eq_true_eq] at h ⊢
  refine ⟨tput_sorted d k v h.1, fun x hx => ?_⟩
  unfold tput at hx
  split at hx
  · exact h.2 x (List.mem_filter.1 hx).1
  · rename_i hv
    rcases tins_mem hx with rfl | hx
    · exact hv
    · exact h.2 x hx

/-- A part of a table in canonical form is in canonical form. -/
theorem filter_sorted {t : List (Nat × α)} (p : Nat × α → Bool) (h : tsorted t = true) : tsorted (t.filter p) = true := by
  induction t with
  | nil => rfl
  | cons e r ih =>
    rw [List.filter_cons]
    split
    · exact tsorted_of_lt (fun x hx => tsorted_lt h x (List.mem_filter.1 hx).1) (ih (tsorted_cons h))
    · exact ih (tsorted_cons h)

theorem filter_twf [DecidableEq α] (d : α) {t : List (Nat × α)} (p : Nat × α → Bool) (h : twf d t = true) : twf d (t.filter p) = true := by
  simp only [twf, Bool.and_eq_true, List.all_eq_true, decide_eq_true_eq] at h ⊢
  exact ⟨filter_sorted p h.1, fun x hx => h.2 x (List.mem_filter.1 hx).1⟩

/-- Tables in canonical form that read alike are equal. -/
theorem twf_ext [DecidableEq α] (d : α) {t u : List (Nat × α)} (ht : twf d t = true) (hu : twf d u = true) (h : ∀ k, tget d t k = tget d u k) :
    t = u := by
  have out : ∀ {e : Nat × α} {r : List (Nat × α)}, twf d (e :: r) = true → ∀ k, k ≤ e.1 → tget d r k = d := by
    intro e r hw k hk
    simp only [twf, Bool.and_eq_true] at hw
    have hl := tsorted_lt hw.1
    clear hw
    induction r with
    | nil => rfl
    | cons b r ih =>
      obtain ⟨k', v⟩ := b
      have := hl (k', v) (by simp)
      rw [tget, if_neg (by simp at this; omega)]
      exact ih (fun x hx => hl x (List.mem_cons_of_mem _ hx))
  have hd : ∀ {e : Nat × α} {r : List (Nat × α)}, twf d (e :: r) = true → e.2 ≠ d ∧ twf d r = true := by
    intro e r hw
    simp only [twf, Bool.and_eq_true, List.all_eq_true, decide_eq_true_eq] at hw ⊢
    exact ⟨hw.2 e (by simp), tsorted_cons hw.1, fun x hx => hw.2 x (List.mem_cons_of_mem _ hx)⟩
  induction t generalizing u with
  | nil =>
    cases u with
    | nil => rfl
    | cons e r => obtain ⟨k, v⟩ := e; exact absurd (by simpa [tget] using (h k).symm) (hd hu).1
  | cons e r ih =>
    obtain ⟨k, v⟩ := e
    cases u with
    | nil => exact absurd (by simpa [tget] using h k) (hd ht).1
    | cons e' r' =>
      obtain ⟨k', v'⟩ := e'
      have hk : k = k' := by
        rcases Nat.lt_trichotomy k k' with hlt | heq | hgt
        · have := h k
          rw [tget, if_pos rfl, tget, if_neg (by omega), out hu k (by simp; omega)] at this
          exact absurd this (hd ht).1
        · exact heq
        · have := h k'
          rw [tget, if_neg (by omega), out ht k' (by simp; omega), tget, if_pos rfl] at this
          exact absurd this.symm (hd hu).1
      subst hk
      have hv : v = v' := by simpa [tget] using h k
      subst hv
      congr 1
      refine ih (hd ht).2 (hd hu).2 (fun j => ?_)
      by_cases hj : k = j
      · subst hj; rw [out ht k (Nat.le_refl _), out hu k (Nat.le_refl _)]
      · have := h j
        rwa [tget, if_neg hj, tget, if_neg hj] at this

end Sys2Proof.Machine
end

