-- ==== Sys2Proof/Laws/Regs.lean ====
section
/-! SUPPORT. The laws of registers, counters and emitted events: what a read gives after a write, and what an event leaves alone. -/

namespace Sys2Proof.Machine

@[simp] theorem rd_wr_same (s : State) (r : Reg) (v : W32) : (s.wr r v).rd r = v := tget_tput_same _ _ _ _

theorem rd_wr_ne (s : State) {r q : Reg} (v : W32) (h : q.key ≠ r.key) : (s.wr r v).rd q = s.rd q := tget_tput_ne _ _ _ _ h

theorem fld_wr_ne (s : State) {r q : Reg} (g : Fld) (v : W32) (h : q.key ≠ r.key) : (s.wr r v).fld q g = s.fld q g := by
  simp only [State.fld, rd_wr_ne s v h]

theorem rd_setf_ne (s : State) {r q : Reg} (f : Fld) (n : Nat) (h : q.key ≠ r.key) : (s.setf r f n).rd q = s.rd q := rd_wr_ne s _ h

theorem rd_setf_same (s : State) (r : Reg) (f : Fld) (n : Nat) : (s.setf r f n).rd r = fset (s.rd r) f n := rd_wr_same s r _

/-- A field read after it is stored. -/
theorem fld_setf_same (s : State) (r : Reg) (f : Fld) (n : Nat) (h : f.lo + f.w ≤ 32) : (s.setf r f n).fld r f = n % 2 ^ f.w := by
  simp only [State.fld, rd_setf_same, fget_fset_same _ _ _ h]

/-- Another field of the same register. -/
theorem fld_setf_other (s : State) (r : Reg) (f g : Fld) (n : Nat) (h : f.lo + f.w ≤ 32) (hd : g.lo + g.w ≤ f.lo ∨ f.lo + f.w ≤ g.lo) :
    (s.setf r f n).fld r g = s.fld r g := by
  simp only [State.fld, rd_setf_same, fget_fset_ne _ _ _ _ h hd]

/-- Another register. -/
theorem fld_setf_ne (s : State) {r q : Reg} (f g : Fld) (n : Nat) (h : q.key ≠ r.key) : (s.setf r f n).fld q g = s.fld q g := by
  simp only [State.fld, rd_setf_ne s f n h]

theorem fld_lt (s : State) (r : Reg) (f : Fld) : s.fld r f < 2 ^ f.w := fget_lt _ _

@[simp] theorem ctr_setCtr_same (s : State) (k n : Nat) : (s.setCtr k n).ctr k = n := tget_tput_same _ _ _ _

theorem ctr_setCtr_ne (s : State) {k j : Nat} (n : Nat) (h : j ≠ k) : (s.setCtr k n).ctr j = s.ctr j := tget_tput_ne _ _ _ _ h

@[simp] theorem rd_setCtr (s : State) (k n : Nat) (r : Reg) : (s.setCtr k n).rd r = s.rd r := rfl
@[simp] theorem fld_setCtr (s : State) (k n : Nat) (r : Reg) (f : Fld) : (s.setCtr k n).fld r f = s.fld r f := rfl
@[simp] theorem ctr_wr (s : State) (k : Nat) (r : Reg) (v : W32) : (s.wr r v).ctr k = s.ctr k := rfl
@[simp] theorem ctr_setf (s : State) (k : Nat) (r : Reg) (f : Fld) (n : Nat) : (s.setf r f n).ctr k = s.ctr k := rfl

/-- The entry of an event code is one of 512 (R462). -/
theorem evtIndex_lt (code : Nat) : evtIndex code < 512 := by unfold evtIndex; omega

/-- An emitted event changes the event table alone: its entry's INTERVAL and the counters COUNT and LAST (R463, R464). -/
theorem emit_eq (code : Nat) (s : State) : emit code s = { s with regs := (emit code s).regs, ctrs := (emit code s).ctrs } := by
  unfold emit; dsimp only; split <;> rfl

/-- A register outside the event table reads the same after an event. -/
theorem rd_emit (code : Nat) (s : State) (r : Reg) (h : r.key ≠ (ICE_EVT_INTERVAL (evtIndex code)).key) : (emit code s).rd r = s.rd r := by
  unfold emit; dsimp only
  split <;> exact rd_wr_ne _ _ h

theorem fld_emit (code : Nat) (s : State) (r : Reg) (f : Fld) (h : r.key ≠ (ICE_EVT_INTERVAL (evtIndex code)).key) :
    (emit code s).fld r f = s.fld r f := by
  simp only [State.fld, rd_emit code s r h]

/-- An event takes one more in COUNT of its entry, which saturates (R463). -/
theorem emit_count (code : Nat) (s : State) : (emit code s).ctr (ICE_EVT_COUNT (evtIndex code)) = satAdd 48 (s.ctr (ICE_EVT_COUNT (evtIndex code))) 1 := by
  have : (ICE_EVT_COUNT (evtIndex code)) ≠ (ICE_EVT_LAST (evtIndex code)) := by unfold ICE_EVT_COUNT ICE_EVT_LAST; omega
  unfold emit; dsimp only
  split
  · rw [ctr_setCtr_ne _ _ this]; exact ctr_setCtr_same _ _ _
  · exact ctr_setCtr_same _ _ _

end Sys2Proof.Machine
end

