-- ==== Sys2Proof/Laws/Memory.lean ====
section
/-! SUPPORT. The laws of memory and the NV store: what a read gives after a write, and that every operation on the tables kept by address
keeps their canonical form. -/

namespace Sys2Proof.Machine

/-! ### Reads after writes -/

@[simp] theorem rdByte_wrByte_same (s : State) (a : Nat) (b : Byte) : (s.wrByte a b).rdByte a = b := tget_tput_same _ _ _ _

theorem rdByte_wrByte_ne (s : State) {a x : Nat} (b : Byte) (h : x ≠ a) : (s.wrByte a b).rdByte x = s.rdByte x := tget_tput_ne _ _ _ _ h

@[simp] theorem rdNv_wrNv_same (s : State) (o : Nat) (b : Byte) : (s.wrNv o b).rdNv o = b := tget_tput_same _ _ _ _

theorem rdNv_wrNv_ne (s : State) {o x : Nat} (b : Byte) (h : x ≠ o) : (s.wrNv o b).rdNv x = s.rdNv x := tget_tput_ne _ _ _ _ h

/-- Bytes stored from an address upward change no other byte. -/
theorem rdByte_wrBytes_out (s : State) (a : Nat) (l : List Byte) {x : Nat} (h : x < a ∨ a + l.length ≤ x) : (s.wrBytes a l).rdByte x = s.rdByte x := by
  induction l generalizing s a with
  | nil => rfl
  | cons b r ih =>
    simp only [List.length_cons] at h
    rw [State.wrBytes, ih (s.wrByte a b) (a + 1) (by omega), rdByte_wrByte_ne s b (by omega)]

/-- Bytes stored from an address upward are read back. -/
theorem rdByte_wrBytes_in (s : State) (a : Nat) (l : List Byte) {i : Nat} (h : i < l.length) : (s.wrBytes a l).rdByte (a + i) = l[i] := by
  induction l generalizing s a i with
  | nil => simp at h
  | cons b r ih =>
    rw [State.wrBytes]
    cases i with
    | zero => rw [rdByte_wrBytes_out _ _ _ (by omega)]; exact rdByte_wrByte_same s a b
    | succ j =>
      rw [show a + (j + 1) = a + 1 + j by omega, ih (s.wrByte a b) (a + 1) (by simpa using h)]; rfl

theorem rdNv_wrNvs_out (s : State) (o : Nat) (l : List Byte) {x : Nat} (h : x < o ∨ o + l.length ≤ x) : (s.wrNvs o l).rdNv x = s.rdNv x := by
  induction l generalizing s o with
  | nil => rfl
  | cons b r ih =>
    simp only [List.length_cons] at h
    rw [State.wrNvs, ih (s.wrNv o b) (o + 1) (by omega), rdNv_wrNv_ne s b (by omega)]

theorem rdNv_wrNvs_in (s : State) (o : Nat) (l : List Byte) {i : Nat} (h : i < l.length) : (s.wrNvs o l).rdNv (o + i) = l[i] := by
  induction l generalizing s o i with
  | nil => simp at h
  | cons b r ih =>
    rw [State.wrNvs]
    cases i with
    | zero => rw [rdNv_wrNvs_out _ _ _ (by omega)]; exact rdNv_wrNv_same s o b
    | succ j =>
      rw [show o + (j + 1) = o + 1 + j by omega, ih (s.wrNv o b) (o + 1) (by simpa using h)]; rfl

/-- What stores of bytes leave alone: everything but memory and the flipped bits of its words. -/
theorem wrBytes_eq (s : State) (a : Nat) (l : List Byte) : s.wrBytes a l = { s with mem := (s.wrBytes a l).mem, flips := (s.wrBytes a l).flips } := by
  induction l generalizing s a with
  | nil => rfl
  | cons b r ih => rw [State.wrBytes, ih (s.wrByte a b) (a + 1)]; rfl

/-- What stores of NV bytes leave alone: everything but the NV store. -/
theorem wrNvs_eq (s : State) (o : Nat) (l : List Byte) : s.wrNvs o l = { s with nv := (s.wrNvs o l).nv } := by
  induction l generalizing s o with
  | nil => rfl
  | cons b r ih => rw [State.wrNvs, ih (s.wrNv o b) (o + 1)]; rfl

/-! ### The canonical form -/

theorem memory_wf_iff (s : State) : Memory.wf s = true ↔ twf 0 s.mem = true ∧ twf 0xFF s.nv = true := by
  rw [Memory.wf, Bool.and_eq_true]

theorem wrByte_wf (s : State) (a : Nat) (b : Byte) (h : Memory.wf s = true) : Memory.wf (s.wrByte a b) = true := by
  rw [memory_wf_iff] at h ⊢
  exact ⟨tput_twf 0 a b h.1, h.2⟩

theorem wrBytes_wf (s : State) (a : Nat) (l : List Byte) (h : Memory.wf s = true) : Memory.wf (s.wrBytes a l) = true := by
  induction l generalizing s a with
  | nil => exact h
  | cons b r ih => exact ih _ _ (wrByte_wf s a b h)

theorem wrNv_wf (s : State) (o : Nat) (b : Byte) (h : Memory.wf s = true) : Memory.wf (s.wrNv o b) = true := by
  rw [memory_wf_iff] at h ⊢
  exact ⟨h.1, tput_twf 0xFF o b h.2⟩

theorem wrNvs_wf (s : State) (o : Nat) (l : List Byte) (h : Memory.wf s = true) : Memory.wf (s.wrNvs o l) = true := by
  induction l generalizing s o with
  | nil => exact h
  | cons b r ih => exact ih _ _ (wrNv_wf s o b h)

theorem nvClear_wf (off n : Nat) (s : State) (h : Memory.wf s = true) : Memory.wf (nvClear off n s) = true := by
  rw [memory_wf_iff] at h ⊢
  exact ⟨h.1, filter_twf 0xFF _ h.2⟩

/-- The state after reset has the canonical form. -/
theorem reset_memory_wf : Memory.wf State.reset = true := rfl

theorem wrBytes_canonical (s : State) (a : Nat) (l : List Byte) (h : Canonical s) : Canonical (s.wrBytes a l) := by
  rw [wrBytes_eq]; exact ⟨(wrBytes_eq s a l) ▸ wrBytes_wf s a l h.1, h.2⟩

theorem wrNvs_canonical (s : State) (o : Nat) (l : List Byte) (h : Canonical s) : Canonical (s.wrNvs o l) := by
  rw [wrNvs_eq]; exact ⟨(wrNvs_eq s o l) ▸ wrNvs_wf s o l h.1, h.2⟩

theorem nvClear_canonical (off n : Nat) (s : State) (h : Canonical s) : Canonical (nvClear off n s) := ⟨nvClear_wf off n s h.1, h.2⟩

theorem wr_canonical (s : State) (r : Reg) (v : W32) (h : Canonical s) : Canonical (s.wr r v) :=
  ⟨h.1, tput_sorted r.rst r.key v h.2.1, h.2.2⟩

theorem setf_canonical (s : State) (r : Reg) (f : Fld) (n : Nat) (h : Canonical s) : Canonical (s.setf r f n) := wr_canonical s r _ h

theorem setCtr_canonical (s : State) (k n : Nat) (h : Canonical s) : Canonical (s.setCtr k n) := ⟨h.1, h.2.1, tput_twf 0 k n h.2.2⟩

theorem emit_canonical (code : Nat) (s : State) (h : Canonical s) : Canonical (emit code s) := by
  unfold emit; dsimp only
  split
  · exact setCtr_canonical _ _ _ (setCtr_canonical _ _ _ (wr_canonical _ _ _ h))
  · exact setCtr_canonical _ _ _ (wr_canonical _ _ _ h)

theorem resetKeys_canonical (p : Nat → Bool) (ds : List Dom) (s : State) (h : Canonical s) : Canonical (resetKeys p ds s) :=
  ⟨h.1, filter_sorted _ h.2.1, filter_twf 0 _ h.2.2⟩

/-- An operation for each element of a list keeps what each of its steps keeps. -/
theorem each_keeps {α : Type} (P : State → Prop) (l : List α) (f : α → State → State) (s : State) (hf : ∀ x t, P t → P (f x t)) (h : P s) :
    P (each l f s) := by
  induction l generalizing s with
  | nil => exact h
  | cons x r ih => exact ih _ (hf x s h)

theorem onlyIf_keeps (P : State → Prop) (c : Bool) (f : State → State) (s : State) (hf : P s → P (f s)) (h : P s) : P (onlyIf c f s) := by
  unfold onlyIf; split
  · exact hf h
  · exact h

end Sys2Proof.Machine
end

