-- ==== Sys2Proof/Laws/Sector.lean ====
section
/-! SUPPORT. The scrambler is its own inverse, and what is written decodes to the user bytes (R167, R168, R180); the bits of bytes give the bytes back (R208). -/

namespace Sys2Proof.Machine

@[simp] theorem scrambleFrom_length (st : Nat) (l : List Byte) : (scrambleFrom st l).length = l.length := by
  induction l generalizing st with
  | nil => rfl
  | cons b r ih => simp [scrambleFrom, ih]

theorem scrambleFrom_twice (st : Nat) (l : List Byte) : scrambleFrom st (scrambleFrom st l) = l := by
  induction l generalizing st with
  | nil => rfl
  | cons b r ih => simp [scrambleFrom, ih, BitVec.xor_assoc]

/-- Scrambling twice with one address word gives the bytes back (R168). -/
theorem scramble_twice (aw : Nat) (l : List Byte) : scramble aw (scramble aw l) = l := scrambleFrom_twice _ l

@[simp] theorem scramble_length (aw : Nat) (l : List Byte) : (scramble aw l).length = l.length := scrambleFrom_length _ l

theorem checkBytes_length (user : List Byte) (aw : Nat) : (checkBytes user aw).length = 8 := by
  simp [checkBytes, leBytes]

/-- The information bits of a sector decode to its 4,096 user bytes (R167, R168, R180). -/
theorem decodeInfo_encoded (aw : Nat) (user : List Byte) (h : user.length = 4096) :
    decodeInfo aw (scramble aw (user ++ checkBytes user aw)) = some user := by
  unfold decodeInfo
  simp only [scramble_twice, scramble_length, List.length_append, checkBytes_length, h]
  rw [← h]
  simp

theorem bytesOfBits_byte (b : Byte) (l : List Bool) : bytesOfBits (msbBits 8 b.toNat ++ l) = b :: bytesOfBits l := by
  have h : ∀ b : Byte, BitVec.ofNat 8 ((msbBits 8 b.toNat).foldl (fun n x => 2 * n + (if x then 1 else 0)) 0) = b := by decide
  exact congrArg (· :: bytesOfBits l) (h b)

/-- The bits of bytes, most significant first, give the bytes back (R208). -/
theorem bytesOfBits_byteBits (l : List Byte) : bytesOfBits (byteBits l) = l := by
  induction l with
  | nil => rfl
  | cons b r ih => rw [byteBits, List.flatMap_cons, bytesOfBits_byte]; exact congrArg (b :: ·) ih

theorem byteBits_length (l : List Byte) : (byteBits l).length = 8 * l.length := by
  induction l with
  | nil => rfl
  | cons b r ih => rw [byteBits, List.flatMap_cons, List.length_append]; simp [msbBits] at ih ⊢; unfold byteBits at ih; simp [msbBits] at ih; omega

/-- A code without checks is decoded in its first iteration, to the signs of the ratios (R180, R182). -/
theorem ldpcDecode_no_checks (llr : List Int) (n es thr : Nat) :
    ldpcDecode [] llr (n + 1) es thr = { conv := true, iters := 1, bits := llr.map (fun x => decide (x < 0)), llr := llr } := rfl

/-- Ratios with the signs of bits decide those bits. -/
theorem signs_of_bits (l : List Bool) : (l.map (fun b => if b then (-1 : Int) else 1)).map (fun x => decide (x < 0)) = l := by
  induction l with
  | nil => rfl
  | cons b r ih => cases b <;> simpa using ih

/-- Without checks a codeword that holds an information part comes back as those bytes (R180, R208). -/
theorem otfRun_info (a : Nat) (e : FlyEnt) (s : State) (l : List Byte) (n : Nat) (hl : 8 * l.length ≤ ldpcK) (h0 : s.ldpc = [])
    (hc : e.code = (byteBits l).map (fun b => if b then (-1 : Int) else 1)) (hm : s.fld (RCH_OTF a) F_RCH_OTF_MAX_ITER = n + 1) :
    (otfRun a e s).info = l := by
  have h : (otfRun a e s).bits = byteBits l := by
    unfold otfRun
    rw [h0, hm, hc, ldpcDecode_no_checks]
    exact signs_of_bits _
  unfold Decoded.info
  rw [h, List.take_of_length_le (by rw [byteBits_length]; exact hl), bytesOfBits_byteBits]

/-- Without checks the first pass of a deep-retry attempt recovers an information part whose check matches (R190, R191). -/
theorem drAttempt_found (p : Nat) (s : State) (e : FlyEnt) (t n k : Nat) (r : List (Nat × Nat × Nat)) (l user : List Byte) (hl : 8 * l.length ≤ ldpcK)
    (h0 : s.ldpc = []) (hp : (poolSlot p s).plan = (t, n + 1, k + 1) :: r) (he : flyGet (poolSlot p s).act (poolSlot p s).id s = some e)
    (hs : (poolSlot p s).start = 0) (hc : (poolSlot p s).llrs = (byteBits l).map (fun b => if b then (-1 : Int) else 1))
    (hi : decodeInfo (e.aw (poolSlot p s).act) l = some user) : (drAttempt p s).found = some (1, 1, l) := by
  have ht : (byteBits l).take ldpcN = byteBits l := List.take_of_length_le (by rw [byteBits_length]; simp only [ldpcK, ldpcN] at *; omega)
  have hd : (ldpcDecode [] ((((poolSlot p s).llrs).drop (poolSlot p s).start).take ldpcN) (k + 1) 0 0).info = l := by
    rw [hs, hc, List.drop_zero, ← List.map_take, ht, ldpcDecode_no_checks]
    unfold Decoded.info
    rw [signs_of_bits, List.take_of_length_le (by rw [byteBits_length]; exact hl), bytesOfBits_byteBits]
  unfold drAttempt
  simp only [hp, he, h0]
  rw [drPasses, if_pos]
  · simp only [hd]; rw [ldpcDecode_no_checks]
  · rw [hd, hi]; rw [ldpcDecode_no_checks]; rfl

end Sys2Proof.Machine
end

