-- ==== Sys2Proof/Laws/State.lean ====
section
/-! SUPPORT. What the updates of the state leave unchanged: for each field and each update one lemma, so that no proof unfolds a record. -/

namespace Sys2Proof.Machine

/-! ### wr -/

theorem wr_regs (s : State) (r : Reg) (v : W32) : (s.wr r v).regs = tput r.rst s.regs r.key v := rfl
@[simp] theorem wr_ctrs (s : State) (r : Reg) (v : W32) : (s.wr r v).ctrs = s.ctrs := rfl
@[simp] theorem wr_snap (s : State) (r : Reg) (v : W32) : (s.wr r v).snap = s.snap := rfl
@[simp] theorem wr_mem (s : State) (r : Reg) (v : W32) : (s.wr r v).mem = s.mem := rfl
@[simp] theorem wr_nv (s : State) (r : Reg) (v : W32) : (s.wr r v).nv = s.nv := rfl
@[simp] theorem wr_poison (s : State) (r : Reg) (v : W32) : (s.wr r v).poison = s.poison := rfl
@[simp] theorem wr_rdata (s : State) (r : Reg) (v : W32) : (s.wr r v).rdata = s.rdata := rfl
@[simp] theorem wr_busErr (s : State) (r : Reg) (v : W32) : (s.wr r v).busErr = s.busErr := rfl
@[simp] theorem wr_dataExc (s : State) (r : Reg) (v : W32) : (s.wr r v).dataExc = s.dataExc := rfl
@[simp] theorem wr_plat (s : State) (r : Reg) (v : W32) : (s.wr r v).plat = s.plat := rfl
@[simp] theorem wr_gh (s : State) (r : Reg) (v : W32) : (s.wr r v).gh = s.gh := rfl
@[simp] theorem wr_sdl (s : State) (r : Reg) (v : W32) : (s.wr r v).sdl = s.sdl := rfl
@[simp] theorem wr_ice (s : State) (r : Reg) (v : W32) : (s.wr r v).ice = s.ice := rfl
@[simp] theorem wr_cal (s : State) (r : Reg) (v : W32) : (s.wr r v).cal = s.cal := rfl
@[simp] theorem wr_ksk (s : State) (r : Reg) (v : W32) : (s.wr r v).ksk = s.ksk := rfl
@[simp] theorem wr_replies (s : State) (r : Reg) (v : W32) : (s.wr r v).replies = s.replies := rfl
@[simp] theorem wr_locks (s : State) (r : Reg) (v : W32) : (s.wr r v).locks = s.locks := rfl
@[simp] theorem wr_msix (s : State) (r : Reg) (v : W32) : (s.wr r v).msix = s.msix := rfl
@[simp] theorem wr_asm (s : State) (r : Reg) (v : W32) : (s.wr r v).asm = s.asm := rfl
@[simp] theorem wr_held (s : State) (r : Reg) (v : W32) : (s.wr r v).held = s.held := rfl
@[simp] theorem wr_dmaLast (s : State) (r : Reg) (v : W32) : (s.wr r v).dmaLast = s.dmaLast := rfl
@[simp] theorem wr_spn (s : State) (r : Reg) (v : W32) : (s.wr r v).spn = s.spn := rfl
@[simp] theorem wr_spnQueue (s : State) (r : Reg) (v : W32) : (s.wr r v).spnQueue = s.spnQueue := rfl
@[simp] theorem wr_loops (s : State) (r : Reg) (v : W32) : (s.wr r v).loops = s.loops := rfl
@[simp] theorem wr_acts (s : State) (r : Reg) (v : W32) : (s.wr r v).acts = s.acts := rfl
@[simp] theorem wr_engs (s : State) (r : Reg) (v : W32) : (s.wr r v).engs = s.engs := rfl
@[simp] theorem wr_wOff (s : State) (r : Reg) (v : W32) : (s.wr r v).wOff = s.wOff := rfl
@[simp] theorem wr_dn (s : State) (r : Reg) (v : W32) : (s.wr r v).dn = s.dn := rfl
@[simp] theorem wr_up (s : State) (r : Reg) (v : W32) : (s.wr r v).up = s.up := rfl
@[simp] theorem wr_lnks (s : State) (r : Reg) (v : W32) : (s.wr r v).lnks = s.lnks := rfl
@[simp] theorem wr_seqs (s : State) (r : Reg) (v : W32) : (s.wr r v).seqs = s.seqs := rfl
@[simp] theorem wr_seqMaster (s : State) (r : Reg) (v : W32) : (s.wr r v).seqMaster = s.seqMaster := rfl
@[simp] theorem wr_seqStaged (s : State) (r : Reg) (v : W32) : (s.wr r v).seqStaged = s.seqStaged := rfl
@[simp] theorem wr_pool (s : State) (r : Reg) (v : W32) : (s.wr r v).pool = s.pool := rfl
@[simp] theorem wr_poolOrd (s : State) (r : Reg) (v : W32) : (s.wr r v).poolOrd = s.poolOrd := rfl
@[simp] theorem wr_chains (s : State) (r : Reg) (v : W32) : (s.wr r v).chains = s.chains := rfl
@[simp] theorem wr_outqs (s : State) (r : Reg) (v : W32) : (s.wr r v).outqs = s.outqs := rfl
@[simp] theorem wr_ldpc (s : State) (r : Reg) (v : W32) : (s.wr r v).ldpc = s.ldpc := rfl
@[simp] theorem wr_dram (s : State) (r : Reg) (v : W32) : (s.wr r v).dram = s.dram := rfl
@[simp] theorem wr_buf (s : State) (r : Reg) (v : W32) : (s.wr r v).buf = s.buf := rfl
@[simp] theorem wr_flips (s : State) (r : Reg) (v : W32) : (s.wr r v).flips = s.flips := rfl
@[simp] theorem wr_nvs (s : State) (r : Reg) (v : W32) : (s.wr r v).nvs = s.nvs := rfl
@[simp] theorem wr_hif (s : State) (r : Reg) (v : W32) : (s.wr r v).hif = s.hif := rfl
@[simp] theorem wr_sec (s : State) (r : Reg) (v : W32) : (s.wr r v).sec = s.sec := rfl
@[simp] theorem wr_pins (s : State) (r : Reg) (v : W32) : (s.wr r v).pins = s.pins := rfl
@[simp] theorem wr_freeCtr (s : State) (r : Reg) (v : W32) : (s.wr r v).freeCtr = s.freeCtr := rfl
@[simp] theorem wr_pending (s : State) (r : Reg) (v : W32) : (s.wr r v).pending = s.pending := rfl

/-! ### setf -/

theorem setf_regs (s : State) (r : Reg) (f : Fld) (n : Nat) : (s.setf r f n).regs = tput r.rst s.regs r.key (fset (s.rd r) f n) := rfl
@[simp] theorem setf_ctrs (s : State) (r : Reg) (f : Fld) (n : Nat) : (s.setf r f n).ctrs = s.ctrs := rfl
@[simp] theorem setf_snap (s : State) (r : Reg) (f : Fld) (n : Nat) : (s.setf r f n).snap = s.snap := rfl
@[simp] theorem setf_mem (s : State) (r : Reg) (f : Fld) (n : Nat) : (s.setf r f n).mem = s.mem := rfl
@[simp] theorem setf_nv (s : State) (r : Reg) (f : Fld) (n : Nat) : (s.setf r f n).nv = s.nv := rfl
@[simp] theorem setf_poison (s : State) (r : Reg) (f : Fld) (n : Nat) : (s.setf r f n).poison = s.poison := rfl
@[simp] theorem setf_rdata (s : State) (r : Reg) (f : Fld) (n : Nat) : (s.setf r f n).rdata = s.rdata := rfl
@[simp] theorem setf_busErr (s : State) (r : Reg) (f : Fld) (n : Nat) : (s.setf r f n).busErr = s.busErr := rfl
@[simp] theorem setf_dataExc (s : State) (r : Reg) (f : Fld) (n : Nat) : (s.setf r f n).dataExc = s.dataExc := rfl
@[simp] theorem setf_plat (s : State) (r : Reg) (f : Fld) (n : Nat) : (s.setf r f n).plat = s.plat := rfl
@[simp] theorem setf_gh (s : State) (r : Reg) (f : Fld) (n : Nat) : (s.setf r f n).gh = s.gh := rfl
@[simp] theorem setf_sdl (s : State) (r : Reg) (f : Fld) (n : Nat) : (s.setf r f n).sdl = s.sdl := rfl
@[simp] theorem setf_ice (s : State) (r : Reg) (f : Fld) (n : Nat) : (s.setf r f n).ice = s.ice := rfl
@[simp] theorem setf_cal (s : State) (r : Reg) (f : Fld) (n : Nat) : (s.setf r f n).cal = s.cal := rfl
@[simp] theorem setf_ksk (s : State) (r : Reg) (f : Fld) (n : Nat) : (s.setf r f n).ksk = s.ksk := rfl
@[simp] theorem setf_replies (s : State) (r : Reg) (f : Fld) (n : Nat) : (s.setf r f n).replies = s.replies := rfl
@[simp] theorem setf_locks (s : State) (r : Reg) (f : Fld) (n : Nat) : (s.setf r f n).locks = s.locks := rfl
@[simp] theorem setf_msix (s : State) (r : Reg) (f : Fld) (n : Nat) : (s.setf r f n).msix = s.msix := rfl
@[simp] theorem setf_asm (s : State) (r : Reg) (f : Fld) (n : Nat) : (s.setf r f n).asm = s.asm := rfl
@[simp] theorem setf_held (s : State) (r : Reg) (f : Fld) (n : Nat) : (s.setf r f n).held = s.held := rfl
@[simp] theorem setf_dmaLast (s : State) (r : Reg) (f : Fld) (n : Nat) : (s.setf r f n).dmaLast = s.dmaLast := rfl
@[simp] theorem setf_spn (s : State) (r : Reg) (f : Fld) (n : Nat) : (s.setf r f n).spn = s.spn := rfl
@[simp] theorem setf_spnQueue (s : State) (r : Reg) (f : Fld) (n : Nat) : (s.setf r f n).spnQueue = s.spnQueue := rfl
@[simp] theorem setf_loops (s : State) (r : Reg) (f : Fld) (n : Nat) : (s.setf r f n).loops = s.loops := rfl
@[simp] theorem setf_acts (s : State) (r : Reg) (f : Fld) (n : Nat) : (s.setf r f n).acts = s.acts := rfl
@[simp] theorem setf_engs (s : State) (r : Reg) (f : Fld) (n : Nat) : (s.setf r f n).engs = s.engs := rfl
@[simp] theorem setf_wOff (s : State) (r : Reg) (f : Fld) (n : Nat) : (s.setf r f n).wOff = s.wOff := rfl
@[simp] theorem setf_dn (s : State) (r : Reg) (f : Fld) (n : Nat) : (s.setf r f n).dn = s.dn := rfl
@[simp] theorem setf_up (s : State) (r : Reg) (f : Fld) (n : Nat) : (s.setf r f n).up = s.up := rfl
@[simp] theorem setf_lnks (s : State) (r : Reg) (f : Fld) (n : Nat) : (s.setf r f n).lnks = s.lnks := rfl
@[simp] theorem setf_seqs (s : State) (r : Reg) (f : Fld) (n : Nat) : (s.setf r f n).seqs = s.seqs := rfl
@[simp] theorem setf_seqMaster (s : State) (r : Reg) (f : Fld) (n : Nat) : (s.setf r f n).seqMaster = s.seqMaster := rfl
@[simp] theorem setf_seqStaged (s : State) (r : Reg) (f : Fld) (n : Nat) : (s.setf r f n).seqStaged = s.seqStaged := rfl
@[simp] theorem setf_pool (s : State) (r : Reg) (f : Fld) (n : Nat) : (s.setf r f n).pool = s.pool := rfl
@[simp] theorem setf_poolOrd (s : State) (r : Reg) (f : Fld) (n : Nat) : (s.setf r f n).poolOrd = s.poolOrd := rfl
@[simp] theorem setf_chains (s : State) (r : Reg) (f : Fld) (n : Nat) : (s.setf r f n).chains = s.chains := rfl
@[simp] theorem setf_outqs (s : State) (r : Reg) (f : Fld) (n : Nat) : (s.setf r f n).outqs = s.outqs := rfl
@[simp] theorem setf_ldpc (s : State) (r : Reg) (f : Fld) (n : Nat) : (s.setf r f n).ldpc = s.ldpc := rfl
@[simp] theorem setf_dram (s : State) (r : Reg) (f : Fld) (n : Nat) : (s.setf r f n).dram = s.dram := rfl
@[simp] theorem setf_buf (s : State) (r : Reg) (f : Fld) (n : Nat) : (s.setf r f n).buf = s.buf := rfl
@[simp] theorem setf_flips (s : State) (r : Reg) (f : Fld) (n : Nat) : (s.setf r f n).flips = s.flips := rfl
@[simp] theorem setf_nvs (s : State) (r : Reg) (f : Fld) (n : Nat) : (s.setf r f n).nvs = s.nvs := rfl
@[simp] theorem setf_hif (s : State) (r : Reg) (f : Fld) (n : Nat) : (s.setf r f n).hif = s.hif := rfl
@[simp] theorem setf_sec (s : State) (r : Reg) (f : Fld) (n : Nat) : (s.setf r f n).sec = s.sec := rfl
@[simp] theorem setf_pins (s : State) (r : Reg) (f : Fld) (n : Nat) : (s.setf r f n).pins = s.pins := rfl
@[simp] theorem setf_freeCtr (s : State) (r : Reg) (f : Fld) (n : Nat) : (s.setf r f n).freeCtr = s.freeCtr := rfl
@[simp] theorem setf_pending (s : State) (r : Reg) (f : Fld) (n : Nat) : (s.setf r f n).pending = s.pending := rfl

/-! ### incSat -/

@[simp] theorem incSat_ctrs (s : State) (r : Reg) (k : Nat) : (s.incSat r k).ctrs = s.ctrs := rfl
@[simp] theorem incSat_snap (s : State) (r : Reg) (k : Nat) : (s.incSat r k).snap = s.snap := rfl
@[simp] theorem incSat_mem (s : State) (r : Reg) (k : Nat) : (s.incSat r k).mem = s.mem := rfl
@[simp] theorem incSat_nv (s : State) (r : Reg) (k : Nat) : (s.incSat r k).nv = s.nv := rfl
@[simp] theorem incSat_poison (s : State) (r : Reg) (k : Nat) : (s.incSat r k).poison = s.poison := rfl
@[simp] theorem incSat_rdata (s : State) (r : Reg) (k : Nat) : (s.incSat r k).rdata = s.rdata := rfl
@[simp] theorem incSat_busErr (s : State) (r : Reg) (k : Nat) : (s.incSat r k).busErr = s.busErr := rfl
@[simp] theorem incSat_dataExc (s : State) (r : Reg) (k : Nat) : (s.incSat r k).dataExc = s.dataExc := rfl
@[simp] theorem incSat_plat (s : State) (r : Reg) (k : Nat) : (s.incSat r k).plat = s.plat := rfl
@[simp] theorem incSat_gh (s : State) (r : Reg) (k : Nat) : (s.incSat r k).gh = s.gh := rfl
@[simp] theorem incSat_sdl (s : State) (r : Reg) (k : Nat) : (s.incSat r k).sdl = s.sdl := rfl
@[simp] theorem incSat_ice (s : State) (r : Reg) (k : Nat) : (s.incSat r k).ice = s.ice := rfl
@[simp] theorem incSat_cal (s : State) (r : Reg) (k : Nat) : (s.incSat r k).cal = s.cal := rfl
@[simp] theorem incSat_ksk (s : State) (r : Reg) (k : Nat) : (s.incSat r k).ksk = s.ksk := rfl
@[simp] theorem incSat_replies (s : State) (r : Reg) (k : Nat) : (s.incSat r k).replies = s.replies := rfl
@[simp] theorem incSat_locks (s : State) (r : Reg) (k : Nat) : (s.incSat r k).locks = s.locks := rfl
@[simp] theorem incSat_msix (s : State) (r : Reg) (k : Nat) : (s.incSat r k).msix = s.msix := rfl
@[simp] theorem incSat_asm (s : State) (r : Reg) (k : Nat) : (s.incSat r k).asm = s.asm := rfl
@[simp] theorem incSat_held (s : State) (r : Reg) (k : Nat) : (s.incSat r k).held = s.held := rfl
@[simp] theorem incSat_dmaLast (s : State) (r : Reg) (k : Nat) : (s.incSat r k).dmaLast = s.dmaLast := rfl
@[simp] theorem incSat_spn (s : State) (r : Reg) (k : Nat) : (s.incSat r k).spn = s.spn := rfl
@[simp] theorem incSat_spnQueue (s : State) (r : Reg) (k : Nat) : (s.incSat r k).spnQueue = s.spnQueue := rfl
@[simp] theorem incSat_loops (s : State) (r : Reg) (k : Nat) : (s.incSat r k).loops = s.loops := rfl
@[simp] theorem incSat_acts (s : State) (r : Reg) (k : Nat) : (s.incSat r k).acts = s.acts := rfl
@[simp] theorem incSat_engs (s : State) (r : Reg) (k : Nat) : (s.incSat r k).engs = s.engs := rfl
@[simp] theorem incSat_wOff (s : State) (r : Reg) (k : Nat) : (s.incSat r k).wOff = s.wOff := rfl
@[simp] theorem incSat_dn (s : State) (r : Reg) (k : Nat) : (s.incSat r k).dn = s.dn := rfl
@[simp] theorem incSat_up (s : State) (r : Reg) (k : Nat) : (s.incSat r k).up = s.up := rfl
@[simp] theorem incSat_lnks (s : State) (r : Reg) (k : Nat) : (s.incSat r k).lnks = s.lnks := rfl
@[simp] theorem incSat_seqs (s : State) (r : Reg) (k : Nat) : (s.incSat r k).seqs = s.seqs := rfl
@[simp] theorem incSat_seqMaster (s : State) (r : Reg) (k : Nat) : (s.incSat r k).seqMaster = s.seqMaster := rfl
@[simp] theorem incSat_seqStaged (s : State) (r : Reg) (k : Nat) : (s.incSat r k).seqStaged = s.seqStaged := rfl
@[simp] theorem incSat_pool (s : State) (r : Reg) (k : Nat) : (s.incSat r k).pool = s.pool := rfl
@[simp] theorem incSat_poolOrd (s : State) (r : Reg) (k : Nat) : (s.incSat r k).poolOrd = s.poolOrd := rfl
@[simp] theorem incSat_chains (s : State) (r : Reg) (k : Nat) : (s.incSat r k).chains = s.chains := rfl
@[simp] theorem incSat_outqs (s : State) (r : Reg) (k : Nat) : (s.incSat r k).outqs = s.outqs := rfl
@[simp] theorem incSat_ldpc (s : State) (r : Reg) (k : Nat) : (s.incSat r k).ldpc = s.ldpc := rfl
@[simp] theorem incSat_dram (s : State) (r : Reg) (k : Nat) : (s.incSat r k).dram = s.dram := rfl
@[simp] theorem incSat_buf (s : State) (r : Reg) (k : Nat) : (s.incSat r k).buf = s.buf := rfl
@[simp] theorem incSat_flips (s : State) (r : Reg) (k : Nat) : (s.incSat r k).flips = s.flips := rfl
@[simp] theorem incSat_nvs (s : State) (r : Reg) (k : Nat) : (s.incSat r k).nvs = s.nvs := rfl
@[simp] theorem incSat_hif (s : State) (r : Reg) (k : Nat) : (s.incSat r k).hif = s.hif := rfl
@[simp] theorem incSat_sec (s : State) (r : Reg) (k : Nat) : (s.incSat r k).sec = s.sec := rfl
@[simp] theorem incSat_pins (s : State) (r : Reg) (k : Nat) : (s.incSat r k).pins = s.pins := rfl
@[simp] theorem incSat_freeCtr (s : State) (r : Reg) (k : Nat) : (s.incSat r k).freeCtr = s.freeCtr := rfl
@[simp] theorem incSat_pending (s : State) (r : Reg) (k : Nat) : (s.incSat r k).pending = s.pending := rfl

/-! ### flag -/

@[simp] theorem flag_ctrs (s : State) (r : Reg) (f : Fld) : (s.flag r f).ctrs = s.ctrs := rfl
@[simp] theorem flag_snap (s : State) (r : Reg) (f : Fld) : (s.flag r f).snap = s.snap := rfl
@[simp] theorem flag_mem (s : State) (r : Reg) (f : Fld) : (s.flag r f).mem = s.mem := rfl
@[simp] theorem flag_nv (s : State) (r : Reg) (f : Fld) : (s.flag r f).nv = s.nv := rfl
@[simp] theorem flag_poison (s : State) (r : Reg) (f : Fld) : (s.flag r f).poison = s.poison := rfl
@[simp] theorem flag_rdata (s : State) (r : Reg) (f : Fld) : (s.flag r f).rdata = s.rdata := rfl
@[simp] theorem flag_busErr (s : State) (r : Reg) (f : Fld) : (s.flag r f).busErr = s.busErr := rfl
@[simp] theorem flag_dataExc (s : State) (r : Reg) (f : Fld) : (s.flag r f).dataExc = s.dataExc := rfl
@[simp] theorem flag_plat (s : State) (r : Reg) (f : Fld) : (s.flag r f).plat = s.plat := rfl
@[simp] theorem flag_gh (s : State) (r : Reg) (f : Fld) : (s.flag r f).gh = s.gh := rfl
@[simp] theorem flag_sdl (s : State) (r : Reg) (f : Fld) : (s.flag r f).sdl = s.sdl := rfl
@[simp] theorem flag_ice (s : State) (r : Reg) (f : Fld) : (s.flag r f).ice = s.ice := rfl
@[simp] theorem flag_cal (s : State) (r : Reg) (f : Fld) : (s.flag r f).cal = s.cal := rfl
@[simp] theorem flag_ksk (s : State) (r : Reg) (f : Fld) : (s.flag r f).ksk = s.ksk := rfl
@[simp] theorem flag_replies (s : State) (r : Reg) (f : Fld) : (s.flag r f).replies = s.replies := rfl
@[simp] theorem flag_locks (s : State) (r : Reg) (f : Fld) : (s.flag r f).locks = s.locks := rfl
@[simp] theorem flag_msix (s : State) (r : Reg) (f : Fld) : (s.flag r f).msix = s.msix := rfl
@[simp] theorem flag_asm (s : State) (r : Reg) (f : Fld) : (s.flag r f).asm = s.asm := rfl
@[simp] theorem flag_held (s : State) (r : Reg) (f : Fld) : (s.flag r f).held = s.held := rfl
@[simp] theorem flag_dmaLast (s : State) (r : Reg) (f : Fld) : (s.flag r f).dmaLast = s.dmaLast := rfl
@[simp] theorem flag_spn (s : State) (r : Reg) (f : Fld) : (s.flag r f).spn = s.spn := rfl
@[simp] theorem flag_spnQueue (s : State) (r : Reg) (f : Fld) : (s.flag r f).spnQueue = s.spnQueue := rfl
@[simp] theorem flag_loops (s : State) (r : Reg) (f : Fld) : (s.flag r f).loops = s.loops := rfl
@[simp] theorem flag_acts (s : State) (r : Reg) (f : Fld) : (s.flag r f).acts = s.acts := rfl
@[simp] theorem flag_engs (s : State) (r : Reg) (f : Fld) : (s.flag r f).engs = s.engs := rfl
@[simp] theorem flag_wOff (s : State) (r : Reg) (f : Fld) : (s.flag r f).wOff = s.wOff := rfl
@[simp] theorem flag_dn (s : State) (r : Reg) (f : Fld) : (s.flag r f).dn = s.dn := rfl
@[simp] theorem flag_up (s : State) (r : Reg) (f : Fld) : (s.flag r f).up = s.up := rfl
@[simp] theorem flag_lnks (s : State) (r : Reg) (f : Fld) : (s.flag r f).lnks = s.lnks := rfl
@[simp] theorem flag_seqs (s : State) (r : Reg) (f : Fld) : (s.flag r f).seqs = s.seqs := rfl
@[simp] theorem flag_seqMaster (s : State) (r : Reg) (f : Fld) : (s.flag r f).seqMaster = s.seqMaster := rfl
@[simp] theorem flag_seqStaged (s : State) (r : Reg) (f : Fld) : (s.flag r f).seqStaged = s.seqStaged := rfl
@[simp] theorem flag_pool (s : State) (r : Reg) (f : Fld) : (s.flag r f).pool = s.pool := rfl
@[simp] theorem flag_poolOrd (s : State) (r : Reg) (f : Fld) : (s.flag r f).poolOrd = s.poolOrd := rfl
@[simp] theorem flag_chains (s : State) (r : Reg) (f : Fld) : (s.flag r f).chains = s.chains := rfl
@[simp] theorem flag_outqs (s : State) (r : Reg) (f : Fld) : (s.flag r f).outqs = s.outqs := rfl
@[simp] theorem flag_ldpc (s : State) (r : Reg) (f : Fld) : (s.flag r f).ldpc = s.ldpc := rfl
@[simp] theorem flag_dram (s : State) (r : Reg) (f : Fld) : (s.flag r f).dram = s.dram := rfl
@[simp] theorem flag_buf (s : State) (r : Reg) (f : Fld) : (s.flag r f).buf = s.buf := rfl
@[simp] theorem flag_flips (s : State) (r : Reg) (f : Fld) : (s.flag r f).flips = s.flips := rfl
@[simp] theorem flag_nvs (s : State) (r : Reg) (f : Fld) : (s.flag r f).nvs = s.nvs := rfl
@[simp] theorem flag_hif (s : State) (r : Reg) (f : Fld) : (s.flag r f).hif = s.hif := rfl
@[simp] theorem flag_sec (s : State) (r : Reg) (f : Fld) : (s.flag r f).sec = s.sec := rfl
@[simp] theorem flag_pins (s : State) (r : Reg) (f : Fld) : (s.flag r f).pins = s.pins := rfl
@[simp] theorem flag_freeCtr (s : State) (r : Reg) (f : Fld) : (s.flag r f).freeCtr = s.freeCtr := rfl
@[simp] theorem flag_pending (s : State) (r : Reg) (f : Fld) : (s.flag r f).pending = s.pending := rfl

/-! ### ctrWrap -/

@[simp] theorem ctrWrap_regs (s : State) (k w n : Nat) : (s.ctrWrap k w n).regs = s.regs := rfl
@[simp] theorem ctrWrap_snap (s : State) (k w n : Nat) : (s.ctrWrap k w n).snap = s.snap := rfl
@[simp] theorem ctrWrap_mem (s : State) (k w n : Nat) : (s.ctrWrap k w n).mem = s.mem := rfl
@[simp] theorem ctrWrap_nv (s : State) (k w n : Nat) : (s.ctrWrap k w n).nv = s.nv := rfl
@[simp] theorem ctrWrap_poison (s : State) (k w n : Nat) : (s.ctrWrap k w n).poison = s.poison := rfl
@[simp] theorem ctrWrap_rdata (s : State) (k w n : Nat) : (s.ctrWrap k w n).rdata = s.rdata := rfl
@[simp] theorem ctrWrap_busErr (s : State) (k w n : Nat) : (s.ctrWrap k w n).busErr = s.busErr := rfl
@[simp] theorem ctrWrap_dataExc (s : State) (k w n : Nat) : (s.ctrWrap k w n).dataExc = s.dataExc := rfl
@[simp] theorem ctrWrap_plat (s : State) (k w n : Nat) : (s.ctrWrap k w n).plat = s.plat := rfl
@[simp] theorem ctrWrap_gh (s : State) (k w n : Nat) : (s.ctrWrap k w n).gh = s.gh := rfl
@[simp] theorem ctrWrap_sdl (s : State) (k w n : Nat) : (s.ctrWrap k w n).sdl = s.sdl := rfl
@[simp] theorem ctrWrap_ice (s : State) (k w n : Nat) : (s.ctrWrap k w n).ice = s.ice := rfl
@[simp] theorem ctrWrap_cal (s : State) (k w n : Nat) : (s.ctrWrap k w n).cal = s.cal := rfl
@[simp] theorem ctrWrap_ksk (s : State) (k w n : Nat) : (s.ctrWrap k w n).ksk = s.ksk := rfl
@[simp] theorem ctrWrap_replies (s : State) (k w n : Nat) : (s.ctrWrap k w n).replies = s.replies := rfl
@[simp] theorem ctrWrap_locks (s : State) (k w n : Nat) : (s.ctrWrap k w n).locks = s.locks := rfl
@[simp] theorem ctrWrap_msix (s : State) (k w n : Nat) : (s.ctrWrap k w n).msix = s.msix := rfl
@[simp] theorem ctrWrap_asm (s : State) (k w n : Nat) : (s.ctrWrap k w n).asm = s.asm := rfl
@[simp] theorem ctrWrap_held (s : State) (k w n : Nat) : (s.ctrWrap k w n).held = s.held := rfl
@[simp] theorem ctrWrap_dmaLast (s : State) (k w n : Nat) : (s.ctrWrap k w n).dmaLast = s.dmaLast := rfl
@[simp] theorem ctrWrap_spn (s : State) (k w n : Nat) : (s.ctrWrap k w n).spn = s.spn := rfl
@[simp] theorem ctrWrap_spnQueue (s : State) (k w n : Nat) : (s.ctrWrap k w n).spnQueue = s.spnQueue := rfl
@[simp] theorem ctrWrap_loops (s : State) (k w n : Nat) : (s.ctrWrap k w n).loops = s.loops := rfl
@[simp] theorem ctrWrap_acts (s : State) (k w n : Nat) : (s.ctrWrap k w n).acts = s.acts := rfl
@[simp] theorem ctrWrap_engs (s : State) (k w n : Nat) : (s.ctrWrap k w n).engs = s.engs := rfl
@[simp] theorem ctrWrap_wOff (s : State) (k w n : Nat) : (s.ctrWrap k w n).wOff = s.wOff := rfl
@[simp] theorem ctrWrap_dn (s : State) (k w n : Nat) : (s.ctrWrap k w n).dn = s.dn := rfl
@[simp] theorem ctrWrap_up (s : State) (k w n : Nat) : (s.ctrWrap k w n).up = s.up := rfl
@[simp] theorem ctrWrap_lnks (s : State) (k w n : Nat) : (s.ctrWrap k w n).lnks = s.lnks := rfl
@[simp] theorem ctrWrap_seqs (s : State) (k w n : Nat) : (s.ctrWrap k w n).seqs = s.seqs := rfl
@[simp] theorem ctrWrap_seqMaster (s : State) (k w n : Nat) : (s.ctrWrap k w n).seqMaster = s.seqMaster := rfl
@[simp] theorem ctrWrap_seqStaged (s : State) (k w n : Nat) : (s.ctrWrap k w n).seqStaged = s.seqStaged := rfl
@[simp] theorem ctrWrap_pool (s : State) (k w n : Nat) : (s.ctrWrap k w n).pool = s.pool := rfl
@[simp] theorem ctrWrap_poolOrd (s : State) (k w n : Nat) : (s.ctrWrap k w n).poolOrd = s.poolOrd := rfl
@[simp] theorem ctrWrap_chains (s : State) (k w n : Nat) : (s.ctrWrap k w n).chains = s.chains := rfl
@[simp] theorem ctrWrap_outqs (s : State) (k w n : Nat) : (s.ctrWrap k w n).outqs = s.outqs := rfl
@[simp] theorem ctrWrap_ldpc (s : State) (k w n : Nat) : (s.ctrWrap k w n).ldpc = s.ldpc := rfl
@[simp] theorem ctrWrap_dram (s : State) (k w n : Nat) : (s.ctrWrap k w n).dram = s.dram := rfl
@[simp] theorem ctrWrap_buf (s : State) (k w n : Nat) : (s.ctrWrap k w n).buf = s.buf := rfl
@[simp] theorem ctrWrap_flips (s : State) (k w n : Nat) : (s.ctrWrap k w n).flips = s.flips := rfl
@[simp] theorem ctrWrap_nvs (s : State) (k w n : Nat) : (s.ctrWrap k w n).nvs = s.nvs := rfl
@[simp] theorem ctrWrap_hif (s : State) (k w n : Nat) : (s.ctrWrap k w n).hif = s.hif := rfl
@[simp] theorem ctrWrap_sec (s : State) (k w n : Nat) : (s.ctrWrap k w n).sec = s.sec := rfl
@[simp] theorem ctrWrap_pins (s : State) (k w n : Nat) : (s.ctrWrap k w n).pins = s.pins := rfl
@[simp] theorem ctrWrap_freeCtr (s : State) (k w n : Nat) : (s.ctrWrap k w n).freeCtr = s.freeCtr := rfl
@[simp] theorem ctrWrap_pending (s : State) (k w n : Nat) : (s.ctrWrap k w n).pending = s.pending := rfl

/-! ### incWrap -/

@[simp] theorem incWrap_ctrs (s : State) (r : Reg) (k : Nat) : (s.incWrap r k).ctrs = s.ctrs := rfl
@[simp] theorem incWrap_snap (s : State) (r : Reg) (k : Nat) : (s.incWrap r k).snap = s.snap := rfl
@[simp] theorem incWrap_mem (s : State) (r : Reg) (k : Nat) : (s.incWrap r k).mem = s.mem := rfl
@[simp] theorem incWrap_nv (s : State) (r : Reg) (k : Nat) : (s.incWrap r k).nv = s.nv := rfl
@[simp] theorem incWrap_poison (s : State) (r : Reg) (k : Nat) : (s.incWrap r k).poison = s.poison := rfl
@[simp] theorem incWrap_rdata (s : State) (r : Reg) (k : Nat) : (s.incWrap r k).rdata = s.rdata := rfl
@[simp] theorem incWrap_busErr (s : State) (r : Reg) (k : Nat) : (s.incWrap r k).busErr = s.busErr := rfl
@[simp] theorem incWrap_dataExc (s : State) (r : Reg) (k : Nat) : (s.incWrap r k).dataExc = s.dataExc := rfl
@[simp] theorem incWrap_plat (s : State) (r : Reg) (k : Nat) : (s.incWrap r k).plat = s.plat := rfl
@[simp] theorem incWrap_gh (s : State) (r : Reg) (k : Nat) : (s.incWrap r k).gh = s.gh := rfl
@[simp] theorem incWrap_sdl (s : State) (r : Reg) (k : Nat) : (s.incWrap r k).sdl = s.sdl := rfl
@[simp] theorem incWrap_ice (s : State) (r : Reg) (k : Nat) : (s.incWrap r k).ice = s.ice := rfl
@[simp] theorem incWrap_cal (s : State) (r : Reg) (k : Nat) : (s.incWrap r k).cal = s.cal := rfl
@[simp] theorem incWrap_ksk (s : State) (r : Reg) (k : Nat) : (s.incWrap r k).ksk = s.ksk := rfl
@[simp] theorem incWrap_replies (s : State) (r : Reg) (k : Nat) : (s.incWrap r k).replies = s.replies := rfl
@[simp] theorem incWrap_locks (s : State) (r : Reg) (k : Nat) : (s.incWrap r k).locks = s.locks := rfl
@[simp] theorem incWrap_msix (s : State) (r : Reg) (k : Nat) : (s.incWrap r k).msix = s.msix := rfl
@[simp] theorem incWrap_asm (s : State) (r : Reg) (k : Nat) : (s.incWrap r k).asm = s.asm := rfl
@[simp] theorem incWrap_held (s : State) (r : Reg) (k : Nat) : (s.incWrap r k).held = s.held := rfl
@[simp] theorem incWrap_dmaLast (s : State) (r : Reg) (k : Nat) : (s.incWrap r k).dmaLast = s.dmaLast := rfl
@[simp] theorem incWrap_spn (s : State) (r : Reg) (k : Nat) : (s.incWrap r k).spn = s.spn := rfl
@[simp] theorem incWrap_spnQueue (s : State) (r : Reg) (k : Nat) : (s.incWrap r k).spnQueue = s.spnQueue := rfl
@[simp] theorem incWrap_loops (s : State) (r : Reg) (k : Nat) : (s.incWrap r k).loops = s.loops := rfl
@[simp] theorem incWrap_acts (s : State) (r : Reg) (k : Nat) : (s.incWrap r k).acts = s.acts := rfl
@[simp] theorem incWrap_engs (s : State) (r : Reg) (k : Nat) : (s.incWrap r k).engs = s.engs := rfl
@[simp] theorem incWrap_wOff (s : State) (r : Reg) (k : Nat) : (s.incWrap r k).wOff = s.wOff := rfl
@[simp] theorem incWrap_dn (s : State) (r : Reg) (k : Nat) : (s.incWrap r k).dn = s.dn := rfl
@[simp] theorem incWrap_up (s : State) (r : Reg) (k : Nat) : (s.incWrap r k).up = s.up := rfl
@[simp] theorem incWrap_lnks (s : State) (r : Reg) (k : Nat) : (s.incWrap r k).lnks = s.lnks := rfl
@[simp] theorem incWrap_seqs (s : State) (r : Reg) (k : Nat) : (s.incWrap r k).seqs = s.seqs := rfl
@[simp] theorem incWrap_seqMaster (s : State) (r : Reg) (k : Nat) : (s.incWrap r k).seqMaster = s.seqMaster := rfl
@[simp] theorem incWrap_seqStaged (s : State) (r : Reg) (k : Nat) : (s.incWrap r k).seqStaged = s.seqStaged := rfl
@[simp] theorem incWrap_pool (s : State) (r : Reg) (k : Nat) : (s.incWrap r k).pool = s.pool := rfl
@[simp] theorem incWrap_poolOrd (s : State) (r : Reg) (k : Nat) : (s.incWrap r k).poolOrd = s.poolOrd := rfl
@[simp] theorem incWrap_chains (s : State) (r : Reg) (k : Nat) : (s.incWrap r k).chains = s.chains := rfl
@[simp] theorem incWrap_outqs (s : State) (r : Reg) (k : Nat) : (s.incWrap r k).outqs = s.outqs := rfl
@[simp] theorem incWrap_ldpc (s : State) (r : Reg) (k : Nat) : (s.incWrap r k).ldpc = s.ldpc := rfl
@[simp] theorem incWrap_dram (s : State) (r : Reg) (k : Nat) : (s.incWrap r k).dram = s.dram := rfl
@[simp] theorem incWrap_buf (s : State) (r : Reg) (k : Nat) : (s.incWrap r k).buf = s.buf := rfl
@[simp] theorem incWrap_flips (s : State) (r : Reg) (k : Nat) : (s.incWrap r k).flips = s.flips := rfl
@[simp] theorem incWrap_nvs (s : State) (r : Reg) (k : Nat) : (s.incWrap r k).nvs = s.nvs := rfl
@[simp] theorem incWrap_hif (s : State) (r : Reg) (k : Nat) : (s.incWrap r k).hif = s.hif := rfl
@[simp] theorem incWrap_sec (s : State) (r : Reg) (k : Nat) : (s.incWrap r k).sec = s.sec := rfl
@[simp] theorem incWrap_pins (s : State) (r : Reg) (k : Nat) : (s.incWrap r k).pins = s.pins := rfl
@[simp] theorem incWrap_freeCtr (s : State) (r : Reg) (k : Nat) : (s.incWrap r k).freeCtr = s.freeCtr := rfl
@[simp] theorem incWrap_pending (s : State) (r : Reg) (k : Nat) : (s.incWrap r k).pending = s.pending := rfl

/-! ### setCtr -/

@[simp] theorem setCtr_regs (s : State) (k n : Nat) : (s.setCtr k n).regs = s.regs := rfl
theorem setCtr_ctrs (s : State) (k n : Nat) : (s.setCtr k n).ctrs = tput 0 s.ctrs k n := rfl
@[simp] theorem setCtr_snap (s : State) (k n : Nat) : (s.setCtr k n).snap = s.snap := rfl
@[simp] theorem setCtr_mem (s : State) (k n : Nat) : (s.setCtr k n).mem = s.mem := rfl
@[simp] theorem setCtr_nv (s : State) (k n : Nat) : (s.setCtr k n).nv = s.nv := rfl
@[simp] theorem setCtr_poison (s : State) (k n : Nat) : (s.setCtr k n).poison = s.poison := rfl
@[simp] theorem setCtr_rdata (s : State) (k n : Nat) : (s.setCtr k n).rdata = s.rdata := rfl
@[simp] theorem setCtr_busErr (s : State) (k n : Nat) : (s.setCtr k n).busErr = s.busErr := rfl
@[simp] theorem setCtr_dataExc (s : State) (k n : Nat) : (s.setCtr k n).dataExc = s.dataExc := rfl
@[simp] theorem setCtr_plat (s : State) (k n : Nat) : (s.setCtr k n).plat = s.plat := rfl
@[simp] theorem setCtr_gh (s : State) (k n : Nat) : (s.setCtr k n).gh = s.gh := rfl
@[simp] theorem setCtr_sdl (s : State) (k n : Nat) : (s.setCtr k n).sdl = s.sdl := rfl
@[simp] theorem setCtr_ice (s : State) (k n : Nat) : (s.setCtr k n).ice = s.ice := rfl
@[simp] theorem setCtr_cal (s : State) (k n : Nat) : (s.setCtr k n).cal = s.cal := rfl
@[simp] theorem setCtr_ksk (s : State) (k n : Nat) : (s.setCtr k n).ksk = s.ksk := rfl
@[simp] theorem setCtr_replies (s : State) (k n : Nat) : (s.setCtr k n).replies = s.replies := rfl
@[simp] theorem setCtr_locks (s : State) (k n : Nat) : (s.setCtr k n).locks = s.locks := rfl
@[simp] theorem setCtr_msix (s : State) (k n : Nat) : (s.setCtr k n).msix = s.msix := rfl
@[simp] theorem setCtr_asm (s : State) (k n : Nat) : (s.setCtr k n).asm = s.asm := rfl
@[simp] theorem setCtr_held (s : State) (k n : Nat) : (s.setCtr k n).held = s.held := rfl
@[simp] theorem setCtr_dmaLast (s : State) (k n : Nat) : (s.setCtr k n).dmaLast = s.dmaLast := rfl
@[simp] theorem setCtr_spn (s : State) (k n : Nat) : (s.setCtr k n).spn = s.spn := rfl
@[simp] theorem setCtr_spnQueue (s : State) (k n : Nat) : (s.setCtr k n).spnQueue = s.spnQueue := rfl
@[simp] theorem setCtr_loops (s : State) (k n : Nat) : (s.setCtr k n).loops = s.loops := rfl
@[simp] theorem setCtr_acts (s : State) (k n : Nat) : (s.setCtr k n).acts = s.acts := rfl
@[simp] theorem setCtr_engs (s : State) (k n : Nat) : (s.setCtr k n).engs = s.engs := rfl
@[simp] theorem setCtr_wOff (s : State) (k n : Nat) : (s.setCtr k n).wOff = s.wOff := rfl
@[simp] theorem setCtr_dn (s : State) (k n : Nat) : (s.setCtr k n).dn = s.dn := rfl
@[simp] theorem setCtr_up (s : State) (k n : Nat) : (s.setCtr k n).up = s.up := rfl
@[simp] theorem setCtr_lnks (s : State) (k n : Nat) : (s.setCtr k n).lnks = s.lnks := rfl
@[simp] theorem setCtr_seqs (s : State) (k n : Nat) : (s.setCtr k n).seqs = s.seqs := rfl
@[simp] theorem setCtr_seqMaster (s : State) (k n : Nat) : (s.setCtr k n).seqMaster = s.seqMaster := rfl
@[simp] theorem setCtr_seqStaged (s : State) (k n : Nat) : (s.setCtr k n).seqStaged = s.seqStaged := rfl
@[simp] theorem setCtr_pool (s : State) (k n : Nat) : (s.setCtr k n).pool = s.pool := rfl
@[simp] theorem setCtr_poolOrd (s : State) (k n : Nat) : (s.setCtr k n).poolOrd = s.poolOrd := rfl
@[simp] theorem setCtr_chains (s : State) (k n : Nat) : (s.setCtr k n).chains = s.chains := rfl
@[simp] theorem setCtr_outqs (s : State) (k n : Nat) : (s.setCtr k n).outqs = s.outqs := rfl
@[simp] theorem setCtr_ldpc (s : State) (k n : Nat) : (s.setCtr k n).ldpc = s.ldpc := rfl
@[simp] theorem setCtr_dram (s : State) (k n : Nat) : (s.setCtr k n).dram = s.dram := rfl
@[simp] theorem setCtr_buf (s : State) (k n : Nat) : (s.setCtr k n).buf = s.buf := rfl
@[simp] theorem setCtr_flips (s : State) (k n : Nat) : (s.setCtr k n).flips = s.flips := rfl
@[simp] theorem setCtr_nvs (s : State) (k n : Nat) : (s.setCtr k n).nvs = s.nvs := rfl
@[simp] theorem setCtr_hif (s : State) (k n : Nat) : (s.setCtr k n).hif = s.hif := rfl
@[simp] theorem setCtr_sec (s : State) (k n : Nat) : (s.setCtr k n).sec = s.sec := rfl
@[simp] theorem setCtr_pins (s : State) (k n : Nat) : (s.setCtr k n).pins = s.pins := rfl
@[simp] theorem setCtr_freeCtr (s : State) (k n : Nat) : (s.setCtr k n).freeCtr = s.freeCtr := rfl
@[simp] theorem setCtr_pending (s : State) (k n : Nat) : (s.setCtr k n).pending = s.pending := rfl

/-! ### ctrSat -/

@[simp] theorem ctrSat_regs (s : State) (k w n : Nat) : (s.ctrSat k w n).regs = s.regs := rfl
theorem ctrSat_ctrs (s : State) (k w n : Nat) : (s.ctrSat k w n).ctrs = tput 0 s.ctrs k (satAdd w (s.ctr k) n) := rfl
@[simp] theorem ctrSat_snap (s : State) (k w n : Nat) : (s.ctrSat k w n).snap = s.snap := rfl
@[simp] theorem ctrSat_mem (s : State) (k w n : Nat) : (s.ctrSat k w n).mem = s.mem := rfl
@[simp] theorem ctrSat_nv (s : State) (k w n : Nat) : (s.ctrSat k w n).nv = s.nv := rfl
@[simp] theorem ctrSat_poison (s : State) (k w n : Nat) : (s.ctrSat k w n).poison = s.poison := rfl
@[simp] theorem ctrSat_rdata (s : State) (k w n : Nat) : (s.ctrSat k w n).rdata = s.rdata := rfl
@[simp] theorem ctrSat_busErr (s : State) (k w n : Nat) : (s.ctrSat k w n).busErr = s.busErr := rfl
@[simp] theorem ctrSat_dataExc (s : State) (k w n : Nat) : (s.ctrSat k w n).dataExc = s.dataExc := rfl
@[simp] theorem ctrSat_plat (s : State) (k w n : Nat) : (s.ctrSat k w n).plat = s.plat := rfl
@[simp] theorem ctrSat_gh (s : State) (k w n : Nat) : (s.ctrSat k w n).gh = s.gh := rfl
@[simp] theorem ctrSat_sdl (s : State) (k w n : Nat) : (s.ctrSat k w n).sdl = s.sdl := rfl
@[simp] theorem ctrSat_ice (s : State) (k w n : Nat) : (s.ctrSat k w n).ice = s.ice := rfl
@[simp] theorem ctrSat_cal (s : State) (k w n : Nat) : (s.ctrSat k w n).cal = s.cal := rfl
@[simp] theorem ctrSat_ksk (s : State) (k w n : Nat) : (s.ctrSat k w n).ksk = s.ksk := rfl
@[simp] theorem ctrSat_replies (s : State) (k w n : Nat) : (s.ctrSat k w n).replies = s.replies := rfl
@[simp] theorem ctrSat_locks (s : State) (k w n : Nat) : (s.ctrSat k w n).locks = s.locks := rfl
@[simp] theorem ctrSat_msix (s : State) (k w n : Nat) : (s.ctrSat k w n).msix = s.msix := rfl
@[simp] theorem ctrSat_asm (s : State) (k w n : Nat) : (s.ctrSat k w n).asm = s.asm := rfl
@[simp] theorem ctrSat_held (s : State) (k w n : Nat) : (s.ctrSat k w n).held = s.held := rfl
@[simp] theorem ctrSat_dmaLast (s : State) (k w n : Nat) : (s.ctrSat k w n).dmaLast = s.dmaLast := rfl
@[simp] theorem ctrSat_spn (s : State) (k w n : Nat) : (s.ctrSat k w n).spn = s.spn := rfl
@[simp] theorem ctrSat_spnQueue (s : State) (k w n : Nat) : (s.ctrSat k w n).spnQueue = s.spnQueue := rfl
@[simp] theorem ctrSat_loops (s : State) (k w n : Nat) : (s.ctrSat k w n).loops = s.loops := rfl
@[simp] theorem ctrSat_acts (s : State) (k w n : Nat) : (s.ctrSat k w n).acts = s.acts := rfl
@[simp] theorem ctrSat_engs (s : State) (k w n : Nat) : (s.ctrSat k w n).engs = s.engs := rfl
@[simp] theorem ctrSat_wOff (s : State) (k w n : Nat) : (s.ctrSat k w n).wOff = s.wOff := rfl
@[simp] theorem ctrSat_dn (s : State) (k w n : Nat) : (s.ctrSat k w n).dn = s.dn := rfl
@[simp] theorem ctrSat_up (s : State) (k w n : Nat) : (s.ctrSat k w n).up = s.up := rfl
@[simp] theorem ctrSat_lnks (s : State) (k w n : Nat) : (s.ctrSat k w n).lnks = s.lnks := rfl
@[simp] theorem ctrSat_seqs (s : State) (k w n : Nat) : (s.ctrSat k w n).seqs = s.seqs := rfl
@[simp] theorem ctrSat_seqMaster (s : State) (k w n : Nat) : (s.ctrSat k w n).seqMaster = s.seqMaster := rfl
@[simp] theorem ctrSat_seqStaged (s : State) (k w n : Nat) : (s.ctrSat k w n).seqStaged = s.seqStaged := rfl
@[simp] theorem ctrSat_pool (s : State) (k w n : Nat) : (s.ctrSat k w n).pool = s.pool := rfl
@[simp] theorem ctrSat_poolOrd (s : State) (k w n : Nat) : (s.ctrSat k w n).poolOrd = s.poolOrd := rfl
@[simp] theorem ctrSat_chains (s : State) (k w n : Nat) : (s.ctrSat k w n).chains = s.chains := rfl
@[simp] theorem ctrSat_outqs (s : State) (k w n : Nat) : (s.ctrSat k w n).outqs = s.outqs := rfl
@[simp] theorem ctrSat_ldpc (s : State) (k w n : Nat) : (s.ctrSat k w n).ldpc = s.ldpc := rfl
@[simp] theorem ctrSat_dram (s : State) (k w n : Nat) : (s.ctrSat k w n).dram = s.dram := rfl
@[simp] theorem ctrSat_buf (s : State) (k w n : Nat) : (s.ctrSat k w n).buf = s.buf := rfl
@[simp] theorem ctrSat_flips (s : State) (k w n : Nat) : (s.ctrSat k w n).flips = s.flips := rfl
@[simp] theorem ctrSat_nvs (s : State) (k w n : Nat) : (s.ctrSat k w n).nvs = s.nvs := rfl
@[simp] theorem ctrSat_hif (s : State) (k w n : Nat) : (s.ctrSat k w n).hif = s.hif := rfl
@[simp] theorem ctrSat_sec (s : State) (k w n : Nat) : (s.ctrSat k w n).sec = s.sec := rfl
@[simp] theorem ctrSat_pins (s : State) (k w n : Nat) : (s.ctrSat k w n).pins = s.pins := rfl
@[simp] theorem ctrSat_freeCtr (s : State) (k w n : Nat) : (s.ctrSat k w n).freeCtr = s.freeCtr := rfl
@[simp] theorem ctrSat_pending (s : State) (k w n : Nat) : (s.ctrSat k w n).pending = s.pending := rfl

/-! ### wrByte -/

@[simp] theorem wrByte_regs (s : State) (a : Nat) (b : Byte) : (s.wrByte a b).regs = s.regs := rfl
@[simp] theorem wrByte_ctrs (s : State) (a : Nat) (b : Byte) : (s.wrByte a b).ctrs = s.ctrs := rfl
@[simp] theorem wrByte_snap (s : State) (a : Nat) (b : Byte) : (s.wrByte a b).snap = s.snap := rfl
theorem wrByte_mem (s : State) (a : Nat) (b : Byte) : (s.wrByte a b).mem = tput 0 s.mem a b := rfl
@[simp] theorem wrByte_nv (s : State) (a : Nat) (b : Byte) : (s.wrByte a b).nv = s.nv := rfl
@[simp] theorem wrByte_poison (s : State) (a : Nat) (b : Byte) : (s.wrByte a b).poison = s.poison := rfl
@[simp] theorem wrByte_rdata (s : State) (a : Nat) (b : Byte) : (s.wrByte a b).rdata = s.rdata := rfl
@[simp] theorem wrByte_busErr (s : State) (a : Nat) (b : Byte) : (s.wrByte a b).busErr = s.busErr := rfl
@[simp] theorem wrByte_dataExc (s : State) (a : Nat) (b : Byte) : (s.wrByte a b).dataExc = s.dataExc := rfl
@[simp] theorem wrByte_plat (s : State) (a : Nat) (b : Byte) : (s.wrByte a b).plat = s.plat := rfl
@[simp] theorem wrByte_gh (s : State) (a : Nat) (b : Byte) : (s.wrByte a b).gh = s.gh := rfl
@[simp] theorem wrByte_sdl (s : State) (a : Nat) (b : Byte) : (s.wrByte a b).sdl = s.sdl := rfl
@[simp] theorem wrByte_ice (s : State) (a : Nat) (b : Byte) : (s.wrByte a b).ice = s.ice := rfl
@[simp] theorem wrByte_cal (s : State) (a : Nat) (b : Byte) : (s.wrByte a b).cal = s.cal := rfl
@[simp] theorem wrByte_ksk (s : State) (a : Nat) (b : Byte) : (s.wrByte a b).ksk = s.ksk := rfl
@[simp] theorem wrByte_replies (s : State) (a : Nat) (b : Byte) : (s.wrByte a b).replies = s.replies := rfl
@[simp] theorem wrByte_locks (s : State) (a : Nat) (b : Byte) : (s.wrByte a b).locks = s.locks := rfl
@[simp] theorem wrByte_msix (s : State) (a : Nat) (b : Byte) : (s.wrByte a b).msix = s.msix := rfl
@[simp] theorem wrByte_asm (s : State) (a : Nat) (b : Byte) : (s.wrByte a b).asm = s.asm := rfl
@[simp] theorem wrByte_held (s : State) (a : Nat) (b : Byte) : (s.wrByte a b).held = s.held := rfl
@[simp] theorem wrByte_dmaLast (s : State) (a : Nat) (b : Byte) : (s.wrByte a b).dmaLast = s.dmaLast := rfl
@[simp] theorem wrByte_spn (s : State) (a : Nat) (b : Byte) : (s.wrByte a b).spn = s.spn := rfl
@[simp] theorem wrByte_spnQueue (s : State) (a : Nat) (b : Byte) : (s.wrByte a b).spnQueue = s.spnQueue := rfl
@[simp] theorem wrByte_loops (s : State) (a : Nat) (b : Byte) : (s.wrByte a b).loops = s.loops := rfl
@[simp] theorem wrByte_acts (s : State) (a : Nat) (b : Byte) : (s.wrByte a b).acts = s.acts := rfl
@[simp] theorem wrByte_engs (s : State) (a : Nat) (b : Byte) : (s.wrByte a b).engs = s.engs := rfl
@[simp] theorem wrByte_wOff (s : State) (a : Nat) (b : Byte) : (s.wrByte a b).wOff = s.wOff := rfl
@[simp] theorem wrByte_dn (s : State) (a : Nat) (b : Byte) : (s.wrByte a b).dn = s.dn := rfl
@[simp] theorem wrByte_up (s : State) (a : Nat) (b : Byte) : (s.wrByte a b).up = s.up := rfl
@[simp] theorem wrByte_lnks (s : State) (a : Nat) (b : Byte) : (s.wrByte a b).lnks = s.lnks := rfl
@[simp] theorem wrByte_seqs (s : State) (a : Nat) (b : Byte) : (s.wrByte a b).seqs = s.seqs := rfl
@[simp] theorem wrByte_seqMaster (s : State) (a : Nat) (b : Byte) : (s.wrByte a b).seqMaster = s.seqMaster := rfl
@[simp] theorem wrByte_seqStaged (s : State) (a : Nat) (b : Byte) : (s.wrByte a b).seqStaged = s.seqStaged := rfl
@[simp] theorem wrByte_pool (s : State) (a : Nat) (b : Byte) : (s.wrByte a b).pool = s.pool := rfl
@[simp] theorem wrByte_poolOrd (s : State) (a : Nat) (b : Byte) : (s.wrByte a b).poolOrd = s.poolOrd := rfl
@[simp] theorem wrByte_chains (s : State) (a : Nat) (b : Byte) : (s.wrByte a b).chains = s.chains := rfl
@[simp] theorem wrByte_outqs (s : State) (a : Nat) (b : Byte) : (s.wrByte a b).outqs = s.outqs := rfl
@[simp] theorem wrByte_ldpc (s : State) (a : Nat) (b : Byte) : (s.wrByte a b).ldpc = s.ldpc := rfl
@[simp] theorem wrByte_dram (s : State) (a : Nat) (b : Byte) : (s.wrByte a b).dram = s.dram := rfl
@[simp] theorem wrByte_buf (s : State) (a : Nat) (b : Byte) : (s.wrByte a b).buf = s.buf := rfl
theorem wrByte_flips (s : State) (a : Nat) (b : Byte) : (s.wrByte a b).flips = tput (0, 0) s.flips (a / 8) (0, 0) := rfl
@[simp] theorem wrByte_nvs (s : State) (a : Nat) (b : Byte) : (s.wrByte a b).nvs = s.nvs := rfl
@[simp] theorem wrByte_hif (s : State) (a : Nat) (b : Byte) : (s.wrByte a b).hif = s.hif := rfl
@[simp] theorem wrByte_sec (s : State) (a : Nat) (b : Byte) : (s.wrByte a b).sec = s.sec := rfl
@[simp] theorem wrByte_pins (s : State) (a : Nat) (b : Byte) : (s.wrByte a b).pins = s.pins := rfl
@[simp] theorem wrByte_freeCtr (s : State) (a : Nat) (b : Byte) : (s.wrByte a b).freeCtr = s.freeCtr := rfl
@[simp] theorem wrByte_pending (s : State) (a : Nat) (b : Byte) : (s.wrByte a b).pending = s.pending := rfl

/-! ### wrNv -/

@[simp] theorem wrNv_regs (s : State) (o : Nat) (b : Byte) : (s.wrNv o b).regs = s.regs := rfl
@[simp] theorem wrNv_ctrs (s : State) (o : Nat) (b : Byte) : (s.wrNv o b).ctrs = s.ctrs := rfl
@[simp] theorem wrNv_snap (s : State) (o : Nat) (b : Byte) : (s.wrNv o b).snap = s.snap := rfl
@[simp] theorem wrNv_mem (s : State) (o : Nat) (b : Byte) : (s.wrNv o b).mem = s.mem := rfl
theorem wrNv_nv (s : State) (o : Nat) (b : Byte) : (s.wrNv o b).nv = tput 0xFF s.nv o b := rfl
@[simp] theorem wrNv_poison (s : State) (o : Nat) (b : Byte) : (s.wrNv o b).poison = s.poison := rfl
@[simp] theorem wrNv_rdata (s : State) (o : Nat) (b : Byte) : (s.wrNv o b).rdata = s.rdata := rfl
@[simp] theorem wrNv_busErr (s : State) (o : Nat) (b : Byte) : (s.wrNv o b).busErr = s.busErr := rfl
@[simp] theorem wrNv_dataExc (s : State) (o : Nat) (b : Byte) : (s.wrNv o b).dataExc = s.dataExc := rfl
@[simp] theorem wrNv_plat (s : State) (o : Nat) (b : Byte) : (s.wrNv o b).plat = s.plat := rfl
@[simp] theorem wrNv_gh (s : State) (o : Nat) (b : Byte) : (s.wrNv o b).gh = s.gh := rfl
@[simp] theorem wrNv_sdl (s : State) (o : Nat) (b : Byte) : (s.wrNv o b).sdl = s.sdl := rfl
@[simp] theorem wrNv_ice (s : State) (o : Nat) (b : Byte) : (s.wrNv o b).ice = s.ice := rfl
@[simp] theorem wrNv_cal (s : State) (o : Nat) (b : Byte) : (s.wrNv o b).cal = s.cal := rfl
@[simp] theorem wrNv_ksk (s : State) (o : Nat) (b : Byte) : (s.wrNv o b).ksk = s.ksk := rfl
@[simp] theorem wrNv_replies (s : State) (o : Nat) (b : Byte) : (s.wrNv o b).replies = s.replies := rfl
@[simp] theorem wrNv_locks (s : State) (o : Nat) (b : Byte) : (s.wrNv o b).locks = s.locks := rfl
@[simp] theorem wrNv_msix (s : State) (o : Nat) (b : Byte) : (s.wrNv o b).msix = s.msix := rfl
@[simp] theorem wrNv_asm (s : State) (o : Nat) (b : Byte) : (s.wrNv o b).asm = s.asm := rfl
@[simp] theorem wrNv_held (s : State) (o : Nat) (b : Byte) : (s.wrNv o b).held = s.held := rfl
@[simp] theorem wrNv_dmaLast (s : State) (o : Nat) (b : Byte) : (s.wrNv o b).dmaLast = s.dmaLast := rfl
@[simp] theorem wrNv_spn (s : State) (o : Nat) (b : Byte) : (s.wrNv o b).spn = s.spn := rfl
@[simp] theorem wrNv_spnQueue (s : State) (o : Nat) (b : Byte) : (s.wrNv o b).spnQueue = s.spnQueue := rfl
@[simp] theorem wrNv_loops (s : State) (o : Nat) (b : Byte) : (s.wrNv o b).loops = s.loops := rfl
@[simp] theorem wrNv_acts (s : State) (o : Nat) (b : Byte) : (s.wrNv o b).acts = s.acts := rfl
@[simp] theorem wrNv_engs (s : State) (o : Nat) (b : Byte) : (s.wrNv o b).engs = s.engs := rfl
@[simp] theorem wrNv_wOff (s : State) (o : Nat) (b : Byte) : (s.wrNv o b).wOff = s.wOff := rfl
@[simp] theorem wrNv_dn (s : State) (o : Nat) (b : Byte) : (s.wrNv o b).dn = s.dn := rfl
@[simp] theorem wrNv_up (s : State) (o : Nat) (b : Byte) : (s.wrNv o b).up = s.up := rfl
@[simp] theorem wrNv_lnks (s : State) (o : Nat) (b : Byte) : (s.wrNv o b).lnks = s.lnks := rfl
@[simp] theorem wrNv_seqs (s : State) (o : Nat) (b : Byte) : (s.wrNv o b).seqs = s.seqs := rfl
@[simp] theorem wrNv_seqMaster (s : State) (o : Nat) (b : Byte) : (s.wrNv o b).seqMaster = s.seqMaster := rfl
@[simp] theorem wrNv_seqStaged (s : State) (o : Nat) (b : Byte) : (s.wrNv o b).seqStaged = s.seqStaged := rfl
@[simp] theorem wrNv_pool (s : State) (o : Nat) (b : Byte) : (s.wrNv o b).pool = s.pool := rfl
@[simp] theorem wrNv_poolOrd (s : State) (o : Nat) (b : Byte) : (s.wrNv o b).poolOrd = s.poolOrd := rfl
@[simp] theorem wrNv_chains (s : State) (o : Nat) (b : Byte) : (s.wrNv o b).chains = s.chains := rfl
@[simp] theorem wrNv_outqs (s : State) (o : Nat) (b : Byte) : (s.wrNv o b).outqs = s.outqs := rfl
@[simp] theorem wrNv_ldpc (s : State) (o : Nat) (b : Byte) : (s.wrNv o b).ldpc = s.ldpc := rfl
@[simp] theorem wrNv_dram (s : State) (o : Nat) (b : Byte) : (s.wrNv o b).dram = s.dram := rfl
@[simp] theorem wrNv_buf (s : State) (o : Nat) (b : Byte) : (s.wrNv o b).buf = s.buf := rfl
@[simp] theorem wrNv_flips (s : State) (o : Nat) (b : Byte) : (s.wrNv o b).flips = s.flips := rfl
@[simp] theorem wrNv_nvs (s : State) (o : Nat) (b : Byte) : (s.wrNv o b).nvs = s.nvs := rfl
@[simp] theorem wrNv_hif (s : State) (o : Nat) (b : Byte) : (s.wrNv o b).hif = s.hif := rfl
@[simp] theorem wrNv_sec (s : State) (o : Nat) (b : Byte) : (s.wrNv o b).sec = s.sec := rfl
@[simp] theorem wrNv_pins (s : State) (o : Nat) (b : Byte) : (s.wrNv o b).pins = s.pins := rfl
@[simp] theorem wrNv_freeCtr (s : State) (o : Nat) (b : Byte) : (s.wrNv o b).freeCtr = s.freeCtr := rfl
@[simp] theorem wrNv_pending (s : State) (o : Nat) (b : Byte) : (s.wrNv o b).pending = s.pending := rfl

/-! ### setPoison -/

@[simp] theorem setPoison_regs (s : State) (a : Nat) (b : Bool) : (s.setPoison a b).regs = s.regs := rfl
@[simp] theorem setPoison_ctrs (s : State) (a : Nat) (b : Bool) : (s.setPoison a b).ctrs = s.ctrs := rfl
@[simp] theorem setPoison_snap (s : State) (a : Nat) (b : Bool) : (s.setPoison a b).snap = s.snap := rfl
@[simp] theorem setPoison_mem (s : State) (a : Nat) (b : Bool) : (s.setPoison a b).mem = s.mem := rfl
@[simp] theorem setPoison_nv (s : State) (a : Nat) (b : Bool) : (s.setPoison a b).nv = s.nv := rfl
@[simp] theorem setPoison_rdata (s : State) (a : Nat) (b : Bool) : (s.setPoison a b).rdata = s.rdata := rfl
@[simp] theorem setPoison_busErr (s : State) (a : Nat) (b : Bool) : (s.setPoison a b).busErr = s.busErr := rfl
@[simp] theorem setPoison_dataExc (s : State) (a : Nat) (b : Bool) : (s.setPoison a b).dataExc = s.dataExc := rfl
@[simp] theorem setPoison_plat (s : State) (a : Nat) (b : Bool) : (s.setPoison a b).plat = s.plat := rfl
@[simp] theorem setPoison_gh (s : State) (a : Nat) (b : Bool) : (s.setPoison a b).gh = s.gh := rfl
@[simp] theorem setPoison_sdl (s : State) (a : Nat) (b : Bool) : (s.setPoison a b).sdl = s.sdl := rfl
@[simp] theorem setPoison_ice (s : State) (a : Nat) (b : Bool) : (s.setPoison a b).ice = s.ice := rfl
@[simp] theorem setPoison_cal (s : State) (a : Nat) (b : Bool) : (s.setPoison a b).cal = s.cal := rfl
@[simp] theorem setPoison_ksk (s : State) (a : Nat) (b : Bool) : (s.setPoison a b).ksk = s.ksk := rfl
@[simp] theorem setPoison_replies (s : State) (a : Nat) (b : Bool) : (s.setPoison a b).replies = s.replies := rfl
@[simp] theorem setPoison_locks (s : State) (a : Nat) (b : Bool) : (s.setPoison a b).locks = s.locks := rfl
@[simp] theorem setPoison_msix (s : State) (a : Nat) (b : Bool) : (s.setPoison a b).msix = s.msix := rfl
@[simp] theorem setPoison_asm (s : State) (a : Nat) (b : Bool) : (s.setPoison a b).asm = s.asm := rfl
@[simp] theorem setPoison_held (s : State) (a : Nat) (b : Bool) : (s.setPoison a b).held = s.held := rfl
@[simp] theorem setPoison_dmaLast (s : State) (a : Nat) (b : Bool) : (s.setPoison a b).dmaLast = s.dmaLast := rfl
@[simp] theorem setPoison_spn (s : State) (a : Nat) (b : Bool) : (s.setPoison a b).spn = s.spn := rfl
@[simp] theorem setPoison_spnQueue (s : State) (a : Nat) (b : Bool) : (s.setPoison a b).spnQueue = s.spnQueue := rfl
@[simp] theorem setPoison_loops (s : State) (a : Nat) (b : Bool) : (s.setPoison a b).loops = s.loops := rfl
@[simp] theorem setPoison_acts (s : State) (a : Nat) (b : Bool) : (s.setPoison a b).acts = s.acts := rfl
@[simp] theorem setPoison_engs (s : State) (a : Nat) (b : Bool) : (s.setPoison a b).engs = s.engs := rfl
@[simp] theorem setPoison_wOff (s : State) (a : Nat) (b : Bool) : (s.setPoison a b).wOff = s.wOff := rfl
@[simp] theorem setPoison_dn (s : State) (a : Nat) (b : Bool) : (s.setPoison a b).dn = s.dn := rfl
@[simp] theorem setPoison_up (s : State) (a : Nat) (b : Bool) : (s.setPoison a b).up = s.up := rfl
@[simp] theorem setPoison_lnks (s : State) (a : Nat) (b : Bool) : (s.setPoison a b).lnks = s.lnks := rfl
@[simp] theorem setPoison_seqs (s : State) (a : Nat) (b : Bool) : (s.setPoison a b).seqs = s.seqs := rfl
@[simp] theorem setPoison_seqMaster (s : State) (a : Nat) (b : Bool) : (s.setPoison a b).seqMaster = s.seqMaster := rfl
@[simp] theorem setPoison_seqStaged (s : State) (a : Nat) (b : Bool) : (s.setPoison a b).seqStaged = s.seqStaged := rfl
@[simp] theorem setPoison_pool (s : State) (a : Nat) (b : Bool) : (s.setPoison a b).pool = s.pool := rfl
@[simp] theorem setPoison_poolOrd (s : State) (a : Nat) (b : Bool) : (s.setPoison a b).poolOrd = s.poolOrd := rfl
@[simp] theorem setPoison_chains (s : State) (a : Nat) (b : Bool) : (s.setPoison a b).chains = s.chains := rfl
@[simp] theorem setPoison_outqs (s : State) (a : Nat) (b : Bool) : (s.setPoison a b).outqs = s.outqs := rfl
@[simp] theorem setPoison_ldpc (s : State) (a : Nat) (b : Bool) : (s.setPoison a b).ldpc = s.ldpc := rfl
@[simp] theorem setPoison_dram (s : State) (a : Nat) (b : Bool) : (s.setPoison a b).dram = s.dram := rfl
@[simp] theorem setPoison_buf (s : State) (a : Nat) (b : Bool) : (s.setPoison a b).buf = s.buf := rfl
@[simp] theorem setPoison_flips (s : State) (a : Nat) (b : Bool) : (s.setPoison a b).flips = s.flips := rfl
@[simp] theorem setPoison_nvs (s : State) (a : Nat) (b : Bool) : (s.setPoison a b).nvs = s.nvs := rfl
@[simp] theorem setPoison_hif (s : State) (a : Nat) (b : Bool) : (s.setPoison a b).hif = s.hif := rfl
@[simp] theorem setPoison_sec (s : State) (a : Nat) (b : Bool) : (s.setPoison a b).sec = s.sec := rfl
@[simp] theorem setPoison_pins (s : State) (a : Nat) (b : Bool) : (s.setPoison a b).pins = s.pins := rfl
@[simp] theorem setPoison_freeCtr (s : State) (a : Nat) (b : Bool) : (s.setPoison a b).freeCtr = s.freeCtr := rfl
@[simp] theorem setPoison_pending (s : State) (a : Nat) (b : Bool) : (s.setPoison a b).pending = s.pending := rfl

/-! ### setDom -/

@[simp] theorem setDom_regs (s : State) (d : Nat) (b : Bool) : (s.setDom d b).regs = s.regs := rfl
@[simp] theorem setDom_ctrs (s : State) (d : Nat) (b : Bool) : (s.setDom d b).ctrs = s.ctrs := rfl
@[simp] theorem setDom_snap (s : State) (d : Nat) (b : Bool) : (s.setDom d b).snap = s.snap := rfl
@[simp] theorem setDom_mem (s : State) (d : Nat) (b : Bool) : (s.setDom d b).mem = s.mem := rfl
@[simp] theorem setDom_nv (s : State) (d : Nat) (b : Bool) : (s.setDom d b).nv = s.nv := rfl
@[simp] theorem setDom_poison (s : State) (d : Nat) (b : Bool) : (s.setDom d b).poison = s.poison := rfl
@[simp] theorem setDom_rdata (s : State) (d : Nat) (b : Bool) : (s.setDom d b).rdata = s.rdata := rfl
@[simp] theorem setDom_busErr (s : State) (d : Nat) (b : Bool) : (s.setDom d b).busErr = s.busErr := rfl
@[simp] theorem setDom_dataExc (s : State) (d : Nat) (b : Bool) : (s.setDom d b).dataExc = s.dataExc := rfl
theorem setDom_plat (s : State) (d : Nat) (b : Bool) : (s.setDom d b).plat = { s.plat with doms := tput false s.plat.doms d b } := rfl
@[simp] theorem setDom_gh (s : State) (d : Nat) (b : Bool) : (s.setDom d b).gh = s.gh := rfl
@[simp] theorem setDom_sdl (s : State) (d : Nat) (b : Bool) : (s.setDom d b).sdl = s.sdl := rfl
@[simp] theorem setDom_ice (s : State) (d : Nat) (b : Bool) : (s.setDom d b).ice = s.ice := rfl
@[simp] theorem setDom_cal (s : State) (d : Nat) (b : Bool) : (s.setDom d b).cal = s.cal := rfl
@[simp] theorem setDom_ksk (s : State) (d : Nat) (b : Bool) : (s.setDom d b).ksk = s.ksk := rfl
@[simp] theorem setDom_replies (s : State) (d : Nat) (b : Bool) : (s.setDom d b).replies = s.replies := rfl
@[simp] theorem setDom_locks (s : State) (d : Nat) (b : Bool) : (s.setDom d b).locks = s.locks := rfl
@[simp] theorem setDom_msix (s : State) (d : Nat) (b : Bool) : (s.setDom d b).msix = s.msix := rfl
@[simp] theorem setDom_asm (s : State) (d : Nat) (b : Bool) : (s.setDom d b).asm = s.asm := rfl
@[simp] theorem setDom_held (s : State) (d : Nat) (b : Bool) : (s.setDom d b).held = s.held := rfl
@[simp] theorem setDom_dmaLast (s : State) (d : Nat) (b : Bool) : (s.setDom d b).dmaLast = s.dmaLast := rfl
@[simp] theorem setDom_spn (s : State) (d : Nat) (b : Bool) : (s.setDom d b).spn = s.spn := rfl
@[simp] theorem setDom_spnQueue (s : State) (d : Nat) (b : Bool) : (s.setDom d b).spnQueue = s.spnQueue := rfl
@[simp] theorem setDom_loops (s : State) (d : Nat) (b : Bool) : (s.setDom d b).loops = s.loops := rfl
@[simp] theorem setDom_acts (s : State) (d : Nat) (b : Bool) : (s.setDom d b).acts = s.acts := rfl
@[simp] theorem setDom_engs (s : State) (d : Nat) (b : Bool) : (s.setDom d b).engs = s.engs := rfl
@[simp] theorem setDom_wOff (s : State) (d : Nat) (b : Bool) : (s.setDom d b).wOff = s.wOff := rfl
@[simp] theorem setDom_dn (s : State) (d : Nat) (b : Bool) : (s.setDom d b).dn = s.dn := rfl
@[simp] theorem setDom_up (s : State) (d : Nat) (b : Bool) : (s.setDom d b).up = s.up := rfl
@[simp] theorem setDom_lnks (s : State) (d : Nat) (b : Bool) : (s.setDom d b).lnks = s.lnks := rfl
@[simp] theorem setDom_seqs (s : State) (d : Nat) (b : Bool) : (s.setDom d b).seqs = s.seqs := rfl
@[simp] theorem setDom_seqMaster (s : State) (d : Nat) (b : Bool) : (s.setDom d b).seqMaster = s.seqMaster := rfl
@[simp] theorem setDom_seqStaged (s : State) (d : Nat) (b : Bool) : (s.setDom d b).seqStaged = s.seqStaged := rfl
@[simp] theorem setDom_pool (s : State) (d : Nat) (b : Bool) : (s.setDom d b).pool = s.pool := rfl
@[simp] theorem setDom_poolOrd (s : State) (d : Nat) (b : Bool) : (s.setDom d b).poolOrd = s.poolOrd := rfl
@[simp] theorem setDom_chains (s : State) (d : Nat) (b : Bool) : (s.setDom d b).chains = s.chains := rfl
@[simp] theorem setDom_outqs (s : State) (d : Nat) (b : Bool) : (s.setDom d b).outqs = s.outqs := rfl
@[simp] theorem setDom_ldpc (s : State) (d : Nat) (b : Bool) : (s.setDom d b).ldpc = s.ldpc := rfl
@[simp] theorem setDom_dram (s : State) (d : Nat) (b : Bool) : (s.setDom d b).dram = s.dram := rfl
@[simp] theorem setDom_buf (s : State) (d : Nat) (b : Bool) : (s.setDom d b).buf = s.buf := rfl
@[simp] theorem setDom_flips (s : State) (d : Nat) (b : Bool) : (s.setDom d b).flips = s.flips := rfl
@[simp] theorem setDom_nvs (s : State) (d : Nat) (b : Bool) : (s.setDom d b).nvs = s.nvs := rfl
@[simp] theorem setDom_hif (s : State) (d : Nat) (b : Bool) : (s.setDom d b).hif = s.hif := rfl
@[simp] theorem setDom_sec (s : State) (d : Nat) (b : Bool) : (s.setDom d b).sec = s.sec := rfl
@[simp] theorem setDom_pins (s : State) (d : Nat) (b : Bool) : (s.setDom d b).pins = s.pins := rfl
@[simp] theorem setDom_freeCtr (s : State) (d : Nat) (b : Bool) : (s.setDom d b).freeCtr = s.freeCtr := rfl
@[simp] theorem setDom_pending (s : State) (d : Nat) (b : Bool) : (s.setDom d b).pending = s.pending := rfl

/-! ### deny -/

@[simp] theorem deny_ctrs (s : State) : (deny s).ctrs = s.ctrs := rfl
@[simp] theorem deny_snap (s : State) : (deny s).snap = s.snap := rfl
@[simp] theorem deny_mem (s : State) : (deny s).mem = s.mem := rfl
@[simp] theorem deny_nv (s : State) : (deny s).nv = s.nv := rfl
@[simp] theorem deny_poison (s : State) : (deny s).poison = s.poison := rfl
@[simp] theorem deny_rdata (s : State) : (deny s).rdata = s.rdata := rfl
@[simp] theorem deny_busErr (s : State) : (deny s).busErr = s.busErr := rfl
@[simp] theorem deny_dataExc (s : State) : (deny s).dataExc = s.dataExc := rfl
@[simp] theorem deny_plat (s : State) : (deny s).plat = s.plat := rfl
@[simp] theorem deny_gh (s : State) : (deny s).gh = s.gh := rfl
@[simp] theorem deny_sdl (s : State) : (deny s).sdl = s.sdl := rfl
@[simp] theorem deny_ice (s : State) : (deny s).ice = s.ice := rfl
@[simp] theorem deny_cal (s : State) : (deny s).cal = s.cal := rfl
@[simp] theorem deny_ksk (s : State) : (deny s).ksk = s.ksk := rfl
@[simp] theorem deny_replies (s : State) : (deny s).replies = s.replies := rfl
@[simp] theorem deny_locks (s : State) : (deny s).locks = s.locks := rfl
@[simp] theorem deny_msix (s : State) : (deny s).msix = s.msix := rfl
@[simp] theorem deny_asm (s : State) : (deny s).asm = s.asm := rfl
@[simp] theorem deny_held (s : State) : (deny s).held = s.held := rfl
@[simp] theorem deny_dmaLast (s : State) : (deny s).dmaLast = s.dmaLast := rfl
@[simp] theorem deny_spn (s : State) : (deny s).spn = s.spn := rfl
@[simp] theorem deny_spnQueue (s : State) : (deny s).spnQueue = s.spnQueue := rfl
@[simp] theorem deny_loops (s : State) : (deny s).loops = s.loops := rfl
@[simp] theorem deny_acts (s : State) : (deny s).acts = s.acts := rfl
@[simp] theorem deny_engs (s : State) : (deny s).engs = s.engs := rfl
@[simp] theorem deny_wOff (s : State) : (deny s).wOff = s.wOff := rfl
@[simp] theorem deny_dn (s : State) : (deny s).dn = s.dn := rfl
@[simp] theorem deny_up (s : State) : (deny s).up = s.up := rfl
@[simp] theorem deny_lnks (s : State) : (deny s).lnks = s.lnks := rfl
@[simp] theorem deny_seqs (s : State) : (deny s).seqs = s.seqs := rfl
@[simp] theorem deny_seqMaster (s : State) : (deny s).seqMaster = s.seqMaster := rfl
@[simp] theorem deny_seqStaged (s : State) : (deny s).seqStaged = s.seqStaged := rfl
@[simp] theorem deny_pool (s : State) : (deny s).pool = s.pool := rfl
@[simp] theorem deny_poolOrd (s : State) : (deny s).poolOrd = s.poolOrd := rfl
@[simp] theorem deny_chains (s : State) : (deny s).chains = s.chains := rfl
@[simp] theorem deny_outqs (s : State) : (deny s).outqs = s.outqs := rfl
@[simp] theorem deny_ldpc (s : State) : (deny s).ldpc = s.ldpc := rfl
@[simp] theorem deny_dram (s : State) : (deny s).dram = s.dram := rfl
@[simp] theorem deny_buf (s : State) : (deny s).buf = s.buf := rfl
@[simp] theorem deny_flips (s : State) : (deny s).flips = s.flips := rfl
@[simp] theorem deny_nvs (s : State) : (deny s).nvs = s.nvs := rfl
@[simp] theorem deny_hif (s : State) : (deny s).hif = s.hif := rfl
@[simp] theorem deny_sec (s : State) : (deny s).sec = s.sec := rfl
@[simp] theorem deny_pins (s : State) : (deny s).pins = s.pins := rfl
@[simp] theorem deny_freeCtr (s : State) : (deny s).freeCtr = s.freeCtr := rfl
@[simp] theorem deny_pending (s : State) : (deny s).pending = s.pending := rfl

/-! ### badAccess -/

@[simp] theorem badAccess_ctrs (s : State) : (badAccess s).ctrs = s.ctrs := rfl
@[simp] theorem badAccess_snap (s : State) : (badAccess s).snap = s.snap := rfl
@[simp] theorem badAccess_mem (s : State) : (badAccess s).mem = s.mem := rfl
@[simp] theorem badAccess_nv (s : State) : (badAccess s).nv = s.nv := rfl
@[simp] theorem badAccess_poison (s : State) : (badAccess s).poison = s.poison := rfl
@[simp] theorem badAccess_rdata (s : State) : (badAccess s).rdata = s.rdata := rfl
@[simp] theorem badAccess_busErr (s : State) : (badAccess s).busErr = s.busErr := rfl
@[simp] theorem badAccess_dataExc (s : State) : (badAccess s).dataExc = s.dataExc := rfl
@[simp] theorem badAccess_plat (s : State) : (badAccess s).plat = s.plat := rfl
@[simp] theorem badAccess_gh (s : State) : (badAccess s).gh = s.gh := rfl
@[simp] theorem badAccess_sdl (s : State) : (badAccess s).sdl = s.sdl := rfl
@[simp] theorem badAccess_ice (s : State) : (badAccess s).ice = s.ice := rfl
@[simp] theorem badAccess_cal (s : State) : (badAccess s).cal = s.cal := rfl
@[simp] theorem badAccess_ksk (s : State) : (badAccess s).ksk = s.ksk := rfl
@[simp] theorem badAccess_replies (s : State) : (badAccess s).replies = s.replies := rfl
@[simp] theorem badAccess_locks (s : State) : (badAccess s).locks = s.locks := rfl
@[simp] theorem badAccess_msix (s : State) : (badAccess s).msix = s.msix := rfl
@[simp] theorem badAccess_asm (s : State) : (badAccess s).asm = s.asm := rfl
@[simp] theorem badAccess_held (s : State) : (badAccess s).held = s.held := rfl
@[simp] theorem badAccess_dmaLast (s : State) : (badAccess s).dmaLast = s.dmaLast := rfl
@[simp] theorem badAccess_spn (s : State) : (badAccess s).spn = s.spn := rfl
@[simp] theorem badAccess_spnQueue (s : State) : (badAccess s).spnQueue = s.spnQueue := rfl
@[simp] theorem badAccess_loops (s : State) : (badAccess s).loops = s.loops := rfl
@[simp] theorem badAccess_acts (s : State) : (badAccess s).acts = s.acts := rfl
@[simp] theorem badAccess_engs (s : State) : (badAccess s).engs = s.engs := rfl
@[simp] theorem badAccess_wOff (s : State) : (badAccess s).wOff = s.wOff := rfl
@[simp] theorem badAccess_dn (s : State) : (badAccess s).dn = s.dn := rfl
@[simp] theorem badAccess_up (s : State) : (badAccess s).up = s.up := rfl
@[simp] theorem badAccess_lnks (s : State) : (badAccess s).lnks = s.lnks := rfl
@[simp] theorem badAccess_seqs (s : State) : (badAccess s).seqs = s.seqs := rfl
@[simp] theorem badAccess_seqMaster (s : State) : (badAccess s).seqMaster = s.seqMaster := rfl
@[simp] theorem badAccess_seqStaged (s : State) : (badAccess s).seqStaged = s.seqStaged := rfl
@[simp] theorem badAccess_pool (s : State) : (badAccess s).pool = s.pool := rfl
@[simp] theorem badAccess_poolOrd (s : State) : (badAccess s).poolOrd = s.poolOrd := rfl
@[simp] theorem badAccess_chains (s : State) : (badAccess s).chains = s.chains := rfl
@[simp] theorem badAccess_outqs (s : State) : (badAccess s).outqs = s.outqs := rfl
@[simp] theorem badAccess_ldpc (s : State) : (badAccess s).ldpc = s.ldpc := rfl
@[simp] theorem badAccess_dram (s : State) : (badAccess s).dram = s.dram := rfl
@[simp] theorem badAccess_buf (s : State) : (badAccess s).buf = s.buf := rfl
@[simp] theorem badAccess_flips (s : State) : (badAccess s).flips = s.flips := rfl
@[simp] theorem badAccess_nvs (s : State) : (badAccess s).nvs = s.nvs := rfl
@[simp] theorem badAccess_hif (s : State) : (badAccess s).hif = s.hif := rfl
@[simp] theorem badAccess_sec (s : State) : (badAccess s).sec = s.sec := rfl
@[simp] theorem badAccess_pins (s : State) : (badAccess s).pins = s.pins := rfl
@[simp] theorem badAccess_freeCtr (s : State) : (badAccess s).freeCtr = s.freeCtr := rfl
@[simp] theorem badAccess_pending (s : State) : (badAccess s).pending = s.pending := rfl

/-! ### modPlat -/

@[simp] theorem modPlat_regs (s : State) (f : PlatSt → PlatSt) : (modPlat f s).regs = s.regs := rfl
@[simp] theorem modPlat_ctrs (s : State) (f : PlatSt → PlatSt) : (modPlat f s).ctrs = s.ctrs := rfl
@[simp] theorem modPlat_snap (s : State) (f : PlatSt → PlatSt) : (modPlat f s).snap = s.snap := rfl
@[simp] theorem modPlat_mem (s : State) (f : PlatSt → PlatSt) : (modPlat f s).mem = s.mem := rfl
@[simp] theorem modPlat_nv (s : State) (f : PlatSt → PlatSt) : (modPlat f s).nv = s.nv := rfl
@[simp] theorem modPlat_poison (s : State) (f : PlatSt → PlatSt) : (modPlat f s).poison = s.poison := rfl
@[simp] theorem modPlat_rdata (s : State) (f : PlatSt → PlatSt) : (modPlat f s).rdata = s.rdata := rfl
@[simp] theorem modPlat_busErr (s : State) (f : PlatSt → PlatSt) : (modPlat f s).busErr = s.busErr := rfl
@[simp] theorem modPlat_dataExc (s : State) (f : PlatSt → PlatSt) : (modPlat f s).dataExc = s.dataExc := rfl
theorem modPlat_plat (s : State) (f : PlatSt → PlatSt) : (modPlat f s).plat = f s.plat := rfl
@[simp] theorem modPlat_gh (s : State) (f : PlatSt → PlatSt) : (modPlat f s).gh = s.gh := rfl
@[simp] theorem modPlat_sdl (s : State) (f : PlatSt → PlatSt) : (modPlat f s).sdl = s.sdl := rfl
@[simp] theorem modPlat_ice (s : State) (f : PlatSt → PlatSt) : (modPlat f s).ice = s.ice := rfl
@[simp] theorem modPlat_cal (s : State) (f : PlatSt → PlatSt) : (modPlat f s).cal = s.cal := rfl
@[simp] theorem modPlat_ksk (s : State) (f : PlatSt → PlatSt) : (modPlat f s).ksk = s.ksk := rfl
@[simp] theorem modPlat_replies (s : State) (f : PlatSt → PlatSt) : (modPlat f s).replies = s.replies := rfl
@[simp] theorem modPlat_locks (s : State) (f : PlatSt → PlatSt) : (modPlat f s).locks = s.locks := rfl
@[simp] theorem modPlat_msix (s : State) (f : PlatSt → PlatSt) : (modPlat f s).msix = s.msix := rfl
@[simp] theorem modPlat_asm (s : State) (f : PlatSt → PlatSt) : (modPlat f s).asm = s.asm := rfl
@[simp] theorem modPlat_held (s : State) (f : PlatSt → PlatSt) : (modPlat f s).held = s.held := rfl
@[simp] theorem modPlat_dmaLast (s : State) (f : PlatSt → PlatSt) : (modPlat f s).dmaLast = s.dmaLast := rfl
@[simp] theorem modPlat_spn (s : State) (f : PlatSt → PlatSt) : (modPlat f s).spn = s.spn := rfl
@[simp] theorem modPlat_spnQueue (s : State) (f : PlatSt → PlatSt) : (modPlat f s).spnQueue = s.spnQueue := rfl
@[simp] theorem modPlat_loops (s : State) (f : PlatSt → PlatSt) : (modPlat f s).loops = s.loops := rfl
@[simp] theorem modPlat_acts (s : State) (f : PlatSt → PlatSt) : (modPlat f s).acts = s.acts := rfl
@[simp] theorem modPlat_engs (s : State) (f : PlatSt → PlatSt) : (modPlat f s).engs = s.engs := rfl
@[simp] theorem modPlat_wOff (s : State) (f : PlatSt → PlatSt) : (modPlat f s).wOff = s.wOff := rfl
@[simp] theorem modPlat_dn (s : State) (f : PlatSt → PlatSt) : (modPlat f s).dn = s.dn := rfl
@[simp] theorem modPlat_up (s : State) (f : PlatSt → PlatSt) : (modPlat f s).up = s.up := rfl
@[simp] theorem modPlat_lnks (s : State) (f : PlatSt → PlatSt) : (modPlat f s).lnks = s.lnks := rfl
@[simp] theorem modPlat_seqs (s : State) (f : PlatSt → PlatSt) : (modPlat f s).seqs = s.seqs := rfl
@[simp] theorem modPlat_seqMaster (s : State) (f : PlatSt → PlatSt) : (modPlat f s).seqMaster = s.seqMaster := rfl
@[simp] theorem modPlat_seqStaged (s : State) (f : PlatSt → PlatSt) : (modPlat f s).seqStaged = s.seqStaged := rfl
@[simp] theorem modPlat_pool (s : State) (f : PlatSt → PlatSt) : (modPlat f s).pool = s.pool := rfl
@[simp] theorem modPlat_poolOrd (s : State) (f : PlatSt → PlatSt) : (modPlat f s).poolOrd = s.poolOrd := rfl
@[simp] theorem modPlat_chains (s : State) (f : PlatSt → PlatSt) : (modPlat f s).chains = s.chains := rfl
@[simp] theorem modPlat_outqs (s : State) (f : PlatSt → PlatSt) : (modPlat f s).outqs = s.outqs := rfl
@[simp] theorem modPlat_ldpc (s : State) (f : PlatSt → PlatSt) : (modPlat f s).ldpc = s.ldpc := rfl
@[simp] theorem modPlat_dram (s : State) (f : PlatSt → PlatSt) : (modPlat f s).dram = s.dram := rfl
@[simp] theorem modPlat_buf (s : State) (f : PlatSt → PlatSt) : (modPlat f s).buf = s.buf := rfl
@[simp] theorem modPlat_flips (s : State) (f : PlatSt → PlatSt) : (modPlat f s).flips = s.flips := rfl
@[simp] theorem modPlat_nvs (s : State) (f : PlatSt → PlatSt) : (modPlat f s).nvs = s.nvs := rfl
@[simp] theorem modPlat_hif (s : State) (f : PlatSt → PlatSt) : (modPlat f s).hif = s.hif := rfl
@[simp] theorem modPlat_sec (s : State) (f : PlatSt → PlatSt) : (modPlat f s).sec = s.sec := rfl
@[simp] theorem modPlat_pins (s : State) (f : PlatSt → PlatSt) : (modPlat f s).pins = s.pins := rfl
@[simp] theorem modPlat_freeCtr (s : State) (f : PlatSt → PlatSt) : (modPlat f s).freeCtr = s.freeCtr := rfl
@[simp] theorem modPlat_pending (s : State) (f : PlatSt → PlatSt) : (modPlat f s).pending = s.pending := rfl

/-! ### modGh -/

@[simp] theorem modGh_regs (s : State) (f : GhSt → GhSt) : (modGh f s).regs = s.regs := rfl
@[simp] theorem modGh_ctrs (s : State) (f : GhSt → GhSt) : (modGh f s).ctrs = s.ctrs := rfl
@[simp] theorem modGh_snap (s : State) (f : GhSt → GhSt) : (modGh f s).snap = s.snap := rfl
@[simp] theorem modGh_mem (s : State) (f : GhSt → GhSt) : (modGh f s).mem = s.mem := rfl
@[simp] theorem modGh_nv (s : State) (f : GhSt → GhSt) : (modGh f s).nv = s.nv := rfl
@[simp] theorem modGh_poison (s : State) (f : GhSt → GhSt) : (modGh f s).poison = s.poison := rfl
@[simp] theorem modGh_rdata (s : State) (f : GhSt → GhSt) : (modGh f s).rdata = s.rdata := rfl
@[simp] theorem modGh_busErr (s : State) (f : GhSt → GhSt) : (modGh f s).busErr = s.busErr := rfl
@[simp] theorem modGh_dataExc (s : State) (f : GhSt → GhSt) : (modGh f s).dataExc = s.dataExc := rfl
@[simp] theorem modGh_plat (s : State) (f : GhSt → GhSt) : (modGh f s).plat = s.plat := rfl
theorem modGh_gh (s : State) (f : GhSt → GhSt) : (modGh f s).gh = f s.gh := rfl
@[simp] theorem modGh_sdl (s : State) (f : GhSt → GhSt) : (modGh f s).sdl = s.sdl := rfl
@[simp] theorem modGh_ice (s : State) (f : GhSt → GhSt) : (modGh f s).ice = s.ice := rfl
@[simp] theorem modGh_cal (s : State) (f : GhSt → GhSt) : (modGh f s).cal = s.cal := rfl
@[simp] theorem modGh_ksk (s : State) (f : GhSt → GhSt) : (modGh f s).ksk = s.ksk := rfl
@[simp] theorem modGh_replies (s : State) (f : GhSt → GhSt) : (modGh f s).replies = s.replies := rfl
@[simp] theorem modGh_locks (s : State) (f : GhSt → GhSt) : (modGh f s).locks = s.locks := rfl
@[simp] theorem modGh_msix (s : State) (f : GhSt → GhSt) : (modGh f s).msix = s.msix := rfl
@[simp] theorem modGh_asm (s : State) (f : GhSt → GhSt) : (modGh f s).asm = s.asm := rfl
@[simp] theorem modGh_held (s : State) (f : GhSt → GhSt) : (modGh f s).held = s.held := rfl
@[simp] theorem modGh_dmaLast (s : State) (f : GhSt → GhSt) : (modGh f s).dmaLast = s.dmaLast := rfl
@[simp] theorem modGh_spn (s : State) (f : GhSt → GhSt) : (modGh f s).spn = s.spn := rfl
@[simp] theorem modGh_spnQueue (s : State) (f : GhSt → GhSt) : (modGh f s).spnQueue = s.spnQueue := rfl
@[simp] theorem modGh_loops (s : State) (f : GhSt → GhSt) : (modGh f s).loops = s.loops := rfl
@[simp] theorem modGh_acts (s : State) (f : GhSt → GhSt) : (modGh f s).acts = s.acts := rfl
@[simp] theorem modGh_engs (s : State) (f : GhSt → GhSt) : (modGh f s).engs = s.engs := rfl
@[simp] theorem modGh_wOff (s : State) (f : GhSt → GhSt) : (modGh f s).wOff = s.wOff := rfl
@[simp] theorem modGh_dn (s : State) (f : GhSt → GhSt) : (modGh f s).dn = s.dn := rfl
@[simp] theorem modGh_up (s : State) (f : GhSt → GhSt) : (modGh f s).up = s.up := rfl
@[simp] theorem modGh_lnks (s : State) (f : GhSt → GhSt) : (modGh f s).lnks = s.lnks := rfl
@[simp] theorem modGh_seqs (s : State) (f : GhSt → GhSt) : (modGh f s).seqs = s.seqs := rfl
@[simp] theorem modGh_seqMaster (s : State) (f : GhSt → GhSt) : (modGh f s).seqMaster = s.seqMaster := rfl
@[simp] theorem modGh_seqStaged (s : State) (f : GhSt → GhSt) : (modGh f s).seqStaged = s.seqStaged := rfl
@[simp] theorem modGh_pool (s : State) (f : GhSt → GhSt) : (modGh f s).pool = s.pool := rfl
@[simp] theorem modGh_poolOrd (s : State) (f : GhSt → GhSt) : (modGh f s).poolOrd = s.poolOrd := rfl
@[simp] theorem modGh_chains (s : State) (f : GhSt → GhSt) : (modGh f s).chains = s.chains := rfl
@[simp] theorem modGh_outqs (s : State) (f : GhSt → GhSt) : (modGh f s).outqs = s.outqs := rfl
@[simp] theorem modGh_ldpc (s : State) (f : GhSt → GhSt) : (modGh f s).ldpc = s.ldpc := rfl
@[simp] theorem modGh_dram (s : State) (f : GhSt → GhSt) : (modGh f s).dram = s.dram := rfl
@[simp] theorem modGh_buf (s : State) (f : GhSt → GhSt) : (modGh f s).buf = s.buf := rfl
@[simp] theorem modGh_flips (s : State) (f : GhSt → GhSt) : (modGh f s).flips = s.flips := rfl
@[simp] theorem modGh_nvs (s : State) (f : GhSt → GhSt) : (modGh f s).nvs = s.nvs := rfl
@[simp] theorem modGh_hif (s : State) (f : GhSt → GhSt) : (modGh f s).hif = s.hif := rfl
@[simp] theorem modGh_sec (s : State) (f : GhSt → GhSt) : (modGh f s).sec = s.sec := rfl
@[simp] theorem modGh_pins (s : State) (f : GhSt → GhSt) : (modGh f s).pins = s.pins := rfl
@[simp] theorem modGh_freeCtr (s : State) (f : GhSt → GhSt) : (modGh f s).freeCtr = s.freeCtr := rfl
@[simp] theorem modGh_pending (s : State) (f : GhSt → GhSt) : (modGh f s).pending = s.pending := rfl

/-! ### modBuf -/

@[simp] theorem modBuf_regs (s : State) (f : BufSt → BufSt) : (modBuf f s).regs = s.regs := rfl
@[simp] theorem modBuf_ctrs (s : State) (f : BufSt → BufSt) : (modBuf f s).ctrs = s.ctrs := rfl
@[simp] theorem modBuf_snap (s : State) (f : BufSt → BufSt) : (modBuf f s).snap = s.snap := rfl
@[simp] theorem modBuf_mem (s : State) (f : BufSt → BufSt) : (modBuf f s).mem = s.mem := rfl
@[simp] theorem modBuf_nv (s : State) (f : BufSt → BufSt) : (modBuf f s).nv = s.nv := rfl
@[simp] theorem modBuf_poison (s : State) (f : BufSt → BufSt) : (modBuf f s).poison = s.poison := rfl
@[simp] theorem modBuf_rdata (s : State) (f : BufSt → BufSt) : (modBuf f s).rdata = s.rdata := rfl
@[simp] theorem modBuf_busErr (s : State) (f : BufSt → BufSt) : (modBuf f s).busErr = s.busErr := rfl
@[simp] theorem modBuf_dataExc (s : State) (f : BufSt → BufSt) : (modBuf f s).dataExc = s.dataExc := rfl
@[simp] theorem modBuf_plat (s : State) (f : BufSt → BufSt) : (modBuf f s).plat = s.plat := rfl
@[simp] theorem modBuf_gh (s : State) (f : BufSt → BufSt) : (modBuf f s).gh = s.gh := rfl
@[simp] theorem modBuf_sdl (s : State) (f : BufSt → BufSt) : (modBuf f s).sdl = s.sdl := rfl
@[simp] theorem modBuf_ice (s : State) (f : BufSt → BufSt) : (modBuf f s).ice = s.ice := rfl
@[simp] theorem modBuf_cal (s : State) (f : BufSt → BufSt) : (modBuf f s).cal = s.cal := rfl
@[simp] theorem modBuf_ksk (s : State) (f : BufSt → BufSt) : (modBuf f s).ksk = s.ksk := rfl
@[simp] theorem modBuf_replies (s : State) (f : BufSt → BufSt) : (modBuf f s).replies = s.replies := rfl
@[simp] theorem modBuf_locks (s : State) (f : BufSt → BufSt) : (modBuf f s).locks = s.locks := rfl
@[simp] theorem modBuf_msix (s : State) (f : BufSt → BufSt) : (modBuf f s).msix = s.msix := rfl
@[simp] theorem modBuf_asm (s : State) (f : BufSt → BufSt) : (modBuf f s).asm = s.asm := rfl
@[simp] theorem modBuf_held (s : State) (f : BufSt → BufSt) : (modBuf f s).held = s.held := rfl
@[simp] theorem modBuf_dmaLast (s : State) (f : BufSt → BufSt) : (modBuf f s).dmaLast = s.dmaLast := rfl
@[simp] theorem modBuf_spn (s : State) (f : BufSt → BufSt) : (modBuf f s).spn = s.spn := rfl
@[simp] theorem modBuf_spnQueue (s : State) (f : BufSt → BufSt) : (modBuf f s).spnQueue = s.spnQueue := rfl
@[simp] theorem modBuf_loops (s : State) (f : BufSt → BufSt) : (modBuf f s).loops = s.loops := rfl
@[simp] theorem modBuf_acts (s : State) (f : BufSt → BufSt) : (modBuf f s).acts = s.acts := rfl
@[simp] theorem modBuf_engs (s : State) (f : BufSt → BufSt) : (modBuf f s).engs = s.engs := rfl
@[simp] theorem modBuf_wOff (s : State) (f : BufSt → BufSt) : (modBuf f s).wOff = s.wOff := rfl
@[simp] theorem modBuf_dn (s : State) (f : BufSt → BufSt) : (modBuf f s).dn = s.dn := rfl
@[simp] theorem modBuf_up (s : State) (f : BufSt → BufSt) : (modBuf f s).up = s.up := rfl
@[simp] theorem modBuf_lnks (s : State) (f : BufSt → BufSt) : (modBuf f s).lnks = s.lnks := rfl
@[simp] theorem modBuf_seqs (s : State) (f : BufSt → BufSt) : (modBuf f s).seqs = s.seqs := rfl
@[simp] theorem modBuf_seqMaster (s : State) (f : BufSt → BufSt) : (modBuf f s).seqMaster = s.seqMaster := rfl
@[simp] theorem modBuf_seqStaged (s : State) (f : BufSt → BufSt) : (modBuf f s).seqStaged = s.seqStaged := rfl
@[simp] theorem modBuf_pool (s : State) (f : BufSt → BufSt) : (modBuf f s).pool = s.pool := rfl
@[simp] theorem modBuf_poolOrd (s : State) (f : BufSt → BufSt) : (modBuf f s).poolOrd = s.poolOrd := rfl
@[simp] theorem modBuf_chains (s : State) (f : BufSt → BufSt) : (modBuf f s).chains = s.chains := rfl
@[simp] theorem modBuf_outqs (s : State) (f : BufSt → BufSt) : (modBuf f s).outqs = s.outqs := rfl
@[simp] theorem modBuf_ldpc (s : State) (f : BufSt → BufSt) : (modBuf f s).ldpc = s.ldpc := rfl
@[simp] theorem modBuf_dram (s : State) (f : BufSt → BufSt) : (modBuf f s).dram = s.dram := rfl
theorem modBuf_buf (s : State) (f : BufSt → BufSt) : (modBuf f s).buf = f s.buf := rfl
@[simp] theorem modBuf_flips (s : State) (f : BufSt → BufSt) : (modBuf f s).flips = s.flips := rfl
@[simp] theorem modBuf_nvs (s : State) (f : BufSt → BufSt) : (modBuf f s).nvs = s.nvs := rfl
@[simp] theorem modBuf_hif (s : State) (f : BufSt → BufSt) : (modBuf f s).hif = s.hif := rfl
@[simp] theorem modBuf_sec (s : State) (f : BufSt → BufSt) : (modBuf f s).sec = s.sec := rfl
@[simp] theorem modBuf_pins (s : State) (f : BufSt → BufSt) : (modBuf f s).pins = s.pins := rfl
@[simp] theorem modBuf_freeCtr (s : State) (f : BufSt → BufSt) : (modBuf f s).freeCtr = s.freeCtr := rfl
@[simp] theorem modBuf_pending (s : State) (f : BufSt → BufSt) : (modBuf f s).pending = s.pending := rfl

/-! ### modHif -/

@[simp] theorem modHif_regs (s : State) (f : HifSt → HifSt) : (modHif f s).regs = s.regs := rfl
@[simp] theorem modHif_ctrs (s : State) (f : HifSt → HifSt) : (modHif f s).ctrs = s.ctrs := rfl
@[simp] theorem modHif_snap (s : State) (f : HifSt → HifSt) : (modHif f s).snap = s.snap := rfl
@[simp] theorem modHif_mem (s : State) (f : HifSt → HifSt) : (modHif f s).mem = s.mem := rfl
@[simp] theorem modHif_nv (s : State) (f : HifSt → HifSt) : (modHif f s).nv = s.nv := rfl
@[simp] theorem modHif_poison (s : State) (f : HifSt → HifSt) : (modHif f s).poison = s.poison := rfl
@[simp] theorem modHif_rdata (s : State) (f : HifSt → HifSt) : (modHif f s).rdata = s.rdata := rfl
@[simp] theorem modHif_busErr (s : State) (f : HifSt → HifSt) : (modHif f s).busErr = s.busErr := rfl
@[simp] theorem modHif_dataExc (s : State) (f : HifSt → HifSt) : (modHif f s).dataExc = s.dataExc := rfl
@[simp] theorem modHif_plat (s : State) (f : HifSt → HifSt) : (modHif f s).plat = s.plat := rfl
@[simp] theorem modHif_gh (s : State) (f : HifSt → HifSt) : (modHif f s).gh = s.gh := rfl
@[simp] theorem modHif_sdl (s : State) (f : HifSt → HifSt) : (modHif f s).sdl = s.sdl := rfl
@[simp] theorem modHif_ice (s : State) (f : HifSt → HifSt) : (modHif f s).ice = s.ice := rfl
@[simp] theorem modHif_cal (s : State) (f : HifSt → HifSt) : (modHif f s).cal = s.cal := rfl
@[simp] theorem modHif_ksk (s : State) (f : HifSt → HifSt) : (modHif f s).ksk = s.ksk := rfl
@[simp] theorem modHif_replies (s : State) (f : HifSt → HifSt) : (modHif f s).replies = s.replies := rfl
@[simp] theorem modHif_locks (s : State) (f : HifSt → HifSt) : (modHif f s).locks = s.locks := rfl
@[simp] theorem modHif_msix (s : State) (f : HifSt → HifSt) : (modHif f s).msix = s.msix := rfl
@[simp] theorem modHif_asm (s : State) (f : HifSt → HifSt) : (modHif f s).asm = s.asm := rfl
@[simp] theorem modHif_held (s : State) (f : HifSt → HifSt) : (modHif f s).held = s.held := rfl
@[simp] theorem modHif_dmaLast (s : State) (f : HifSt → HifSt) : (modHif f s).dmaLast = s.dmaLast := rfl
@[simp] theorem modHif_spn (s : State) (f : HifSt → HifSt) : (modHif f s).spn = s.spn := rfl
@[simp] theorem modHif_spnQueue (s : State) (f : HifSt → HifSt) : (modHif f s).spnQueue = s.spnQueue := rfl
@[simp] theorem modHif_loops (s : State) (f : HifSt → HifSt) : (modHif f s).loops = s.loops := rfl
@[simp] theorem modHif_acts (s : State) (f : HifSt → HifSt) : (modHif f s).acts = s.acts := rfl
@[simp] theorem modHif_engs (s : State) (f : HifSt → HifSt) : (modHif f s).engs = s.engs := rfl
@[simp] theorem modHif_wOff (s : State) (f : HifSt → HifSt) : (modHif f s).wOff = s.wOff := rfl
@[simp] theorem modHif_dn (s : State) (f : HifSt → HifSt) : (modHif f s).dn = s.dn := rfl
@[simp] theorem modHif_up (s : State) (f : HifSt → HifSt) : (modHif f s).up = s.up := rfl
@[simp] theorem modHif_lnks (s : State) (f : HifSt → HifSt) : (modHif f s).lnks = s.lnks := rfl
@[simp] theorem modHif_seqs (s : State) (f : HifSt → HifSt) : (modHif f s).seqs = s.seqs := rfl
@[simp] theorem modHif_seqMaster (s : State) (f : HifSt → HifSt) : (modHif f s).seqMaster = s.seqMaster := rfl
@[simp] theorem modHif_seqStaged (s : State) (f : HifSt → HifSt) : (modHif f s).seqStaged = s.seqStaged := rfl
@[simp] theorem modHif_pool (s : State) (f : HifSt → HifSt) : (modHif f s).pool = s.pool := rfl
@[simp] theorem modHif_poolOrd (s : State) (f : HifSt → HifSt) : (modHif f s).poolOrd = s.poolOrd := rfl
@[simp] theorem modHif_chains (s : State) (f : HifSt → HifSt) : (modHif f s).chains = s.chains := rfl
@[simp] theorem modHif_outqs (s : State) (f : HifSt → HifSt) : (modHif f s).outqs = s.outqs := rfl
@[simp] theorem modHif_ldpc (s : State) (f : HifSt → HifSt) : (modHif f s).ldpc = s.ldpc := rfl
@[simp] theorem modHif_dram (s : State) (f : HifSt → HifSt) : (modHif f s).dram = s.dram := rfl
@[simp] theorem modHif_buf (s : State) (f : HifSt → HifSt) : (modHif f s).buf = s.buf := rfl
@[simp] theorem modHif_flips (s : State) (f : HifSt → HifSt) : (modHif f s).flips = s.flips := rfl
@[simp] theorem modHif_nvs (s : State) (f : HifSt → HifSt) : (modHif f s).nvs = s.nvs := rfl
theorem modHif_hif (s : State) (f : HifSt → HifSt) : (modHif f s).hif = f s.hif := rfl
@[simp] theorem modHif_sec (s : State) (f : HifSt → HifSt) : (modHif f s).sec = s.sec := rfl
@[simp] theorem modHif_pins (s : State) (f : HifSt → HifSt) : (modHif f s).pins = s.pins := rfl
@[simp] theorem modHif_freeCtr (s : State) (f : HifSt → HifSt) : (modHif f s).freeCtr = s.freeCtr := rfl
@[simp] theorem modHif_pending (s : State) (f : HifSt → HifSt) : (modHif f s).pending = s.pending := rfl

/-! ### modNvs -/

@[simp] theorem modNvs_regs (s : State) (f : NvSt → NvSt) : (modNvs f s).regs = s.regs := rfl
@[simp] theorem modNvs_ctrs (s : State) (f : NvSt → NvSt) : (modNvs f s).ctrs = s.ctrs := rfl
@[simp] theorem modNvs_snap (s : State) (f : NvSt → NvSt) : (modNvs f s).snap = s.snap := rfl
@[simp] theorem modNvs_mem (s : State) (f : NvSt → NvSt) : (modNvs f s).mem = s.mem := rfl
@[simp] theorem modNvs_nv (s : State) (f : NvSt → NvSt) : (modNvs f s).nv = s.nv := rfl
@[simp] theorem modNvs_poison (s : State) (f : NvSt → NvSt) : (modNvs f s).poison = s.poison := rfl
@[simp] theorem modNvs_rdata (s : State) (f : NvSt → NvSt) : (modNvs f s).rdata = s.rdata := rfl
@[simp] theorem modNvs_busErr (s : State) (f : NvSt → NvSt) : (modNvs f s).busErr = s.busErr := rfl
@[simp] theorem modNvs_dataExc (s : State) (f : NvSt → NvSt) : (modNvs f s).dataExc = s.dataExc := rfl
@[simp] theorem modNvs_plat (s : State) (f : NvSt → NvSt) : (modNvs f s).plat = s.plat := rfl
@[simp] theorem modNvs_gh (s : State) (f : NvSt → NvSt) : (modNvs f s).gh = s.gh := rfl
@[simp] theorem modNvs_sdl (s : State) (f : NvSt → NvSt) : (modNvs f s).sdl = s.sdl := rfl
@[simp] theorem modNvs_ice (s : State) (f : NvSt → NvSt) : (modNvs f s).ice = s.ice := rfl
@[simp] theorem modNvs_cal (s : State) (f : NvSt → NvSt) : (modNvs f s).cal = s.cal := rfl
@[simp] theorem modNvs_ksk (s : State) (f : NvSt → NvSt) : (modNvs f s).ksk = s.ksk := rfl
@[simp] theorem modNvs_replies (s : State) (f : NvSt → NvSt) : (modNvs f s).replies = s.replies := rfl
@[simp] theorem modNvs_locks (s : State) (f : NvSt → NvSt) : (modNvs f s).locks = s.locks := rfl
@[simp] theorem modNvs_msix (s : State) (f : NvSt → NvSt) : (modNvs f s).msix = s.msix := rfl
@[simp] theorem modNvs_asm (s : State) (f : NvSt → NvSt) : (modNvs f s).asm = s.asm := rfl
@[simp] theorem modNvs_held (s : State) (f : NvSt → NvSt) : (modNvs f s).held = s.held := rfl
@[simp] theorem modNvs_dmaLast (s : State) (f : NvSt → NvSt) : (modNvs f s).dmaLast = s.dmaLast := rfl
@[simp] theorem modNvs_spn (s : State) (f : NvSt → NvSt) : (modNvs f s).spn = s.spn := rfl
@[simp] theorem modNvs_spnQueue (s : State) (f : NvSt → NvSt) : (modNvs f s).spnQueue = s.spnQueue := rfl
@[simp] theorem modNvs_loops (s : State) (f : NvSt → NvSt) : (modNvs f s).loops = s.loops := rfl
@[simp] theorem modNvs_acts (s : State) (f : NvSt → NvSt) : (modNvs f s).acts = s.acts := rfl
@[simp] theorem modNvs_engs (s : State) (f : NvSt → NvSt) : (modNvs f s).engs = s.engs := rfl
@[simp] theorem modNvs_wOff (s : State) (f : NvSt → NvSt) : (modNvs f s).wOff = s.wOff := rfl
@[simp] theorem modNvs_dn (s : State) (f : NvSt → NvSt) : (modNvs f s).dn = s.dn := rfl
@[simp] theorem modNvs_up (s : State) (f : NvSt → NvSt) : (modNvs f s).up = s.up := rfl
@[simp] theorem modNvs_lnks (s : State) (f : NvSt → NvSt) : (modNvs f s).lnks = s.lnks := rfl
@[simp] theorem modNvs_seqs (s : State) (f : NvSt → NvSt) : (modNvs f s).seqs = s.seqs := rfl
@[simp] theorem modNvs_seqMaster (s : State) (f : NvSt → NvSt) : (modNvs f s).seqMaster = s.seqMaster := rfl
@[simp] theorem modNvs_seqStaged (s : State) (f : NvSt → NvSt) : (modNvs f s).seqStaged = s.seqStaged := rfl
@[simp] theorem modNvs_pool (s : State) (f : NvSt → NvSt) : (modNvs f s).pool = s.pool := rfl
@[simp] theorem modNvs_poolOrd (s : State) (f : NvSt → NvSt) : (modNvs f s).poolOrd = s.poolOrd := rfl
@[simp] theorem modNvs_chains (s : State) (f : NvSt → NvSt) : (modNvs f s).chains = s.chains := rfl
@[simp] theorem modNvs_outqs (s : State) (f : NvSt → NvSt) : (modNvs f s).outqs = s.outqs := rfl
@[simp] theorem modNvs_ldpc (s : State) (f : NvSt → NvSt) : (modNvs f s).ldpc = s.ldpc := rfl
@[simp] theorem modNvs_dram (s : State) (f : NvSt → NvSt) : (modNvs f s).dram = s.dram := rfl
@[simp] theorem modNvs_buf (s : State) (f : NvSt → NvSt) : (modNvs f s).buf = s.buf := rfl
@[simp] theorem modNvs_flips (s : State) (f : NvSt → NvSt) : (modNvs f s).flips = s.flips := rfl
theorem modNvs_nvs (s : State) (f : NvSt → NvSt) : (modNvs f s).nvs = f s.nvs := rfl
@[simp] theorem modNvs_hif (s : State) (f : NvSt → NvSt) : (modNvs f s).hif = s.hif := rfl
@[simp] theorem modNvs_sec (s : State) (f : NvSt → NvSt) : (modNvs f s).sec = s.sec := rfl
@[simp] theorem modNvs_pins (s : State) (f : NvSt → NvSt) : (modNvs f s).pins = s.pins := rfl
@[simp] theorem modNvs_freeCtr (s : State) (f : NvSt → NvSt) : (modNvs f s).freeCtr = s.freeCtr := rfl
@[simp] theorem modNvs_pending (s : State) (f : NvSt → NvSt) : (modNvs f s).pending = s.pending := rfl

/-! ### modSec -/

@[simp] theorem modSec_regs (s : State) (f : SecSt → SecSt) : (modSec f s).regs = s.regs := rfl
@[simp] theorem modSec_ctrs (s : State) (f : SecSt → SecSt) : (modSec f s).ctrs = s.ctrs := rfl
@[simp] theorem modSec_snap (s : State) (f : SecSt → SecSt) : (modSec f s).snap = s.snap := rfl
@[simp] theorem modSec_mem (s : State) (f : SecSt → SecSt) : (modSec f s).mem = s.mem := rfl
@[simp] theorem modSec_nv (s : State) (f : SecSt → SecSt) : (modSec f s).nv = s.nv := rfl
@[simp] theorem modSec_poison (s : State) (f : SecSt → SecSt) : (modSec f s).poison = s.poison := rfl
@[simp] theorem modSec_rdata (s : State) (f : SecSt → SecSt) : (modSec f s).rdata = s.rdata := rfl
@[simp] theorem modSec_busErr (s : State) (f : SecSt → SecSt) : (modSec f s).busErr = s.busErr := rfl
@[simp] theorem modSec_dataExc (s : State) (f : SecSt → SecSt) : (modSec f s).dataExc = s.dataExc := rfl
@[simp] theorem modSec_plat (s : State) (f : SecSt → SecSt) : (modSec f s).plat = s.plat := rfl
@[simp] theorem modSec_gh (s : State) (f : SecSt → SecSt) : (modSec f s).gh = s.gh := rfl
@[simp] theorem modSec_sdl (s : State) (f : SecSt → SecSt) : (modSec f s).sdl = s.sdl := rfl
@[simp] theorem modSec_ice (s : State) (f : SecSt → SecSt) : (modSec f s).ice = s.ice := rfl
@[simp] theorem modSec_cal (s : State) (f : SecSt → SecSt) : (modSec f s).cal = s.cal := rfl
@[simp] theorem modSec_ksk (s : State) (f : SecSt → SecSt) : (modSec f s).ksk = s.ksk := rfl
@[simp] theorem modSec_replies (s : State) (f : SecSt → SecSt) : (modSec f s).replies = s.replies := rfl
@[simp] theorem modSec_locks (s : State) (f : SecSt → SecSt) : (modSec f s).locks = s.locks := rfl
@[simp] theorem modSec_msix (s : State) (f : SecSt → SecSt) : (modSec f s).msix = s.msix := rfl
@[simp] theorem modSec_asm (s : State) (f : SecSt → SecSt) : (modSec f s).asm = s.asm := rfl
@[simp] theorem modSec_held (s : State) (f : SecSt → SecSt) : (modSec f s).held = s.held := rfl
@[simp] theorem modSec_dmaLast (s : State) (f : SecSt → SecSt) : (modSec f s).dmaLast = s.dmaLast := rfl
@[simp] theorem modSec_spn (s : State) (f : SecSt → SecSt) : (modSec f s).spn = s.spn := rfl
@[simp] theorem modSec_spnQueue (s : State) (f : SecSt → SecSt) : (modSec f s).spnQueue = s.spnQueue := rfl
@[simp] theorem modSec_loops (s : State) (f : SecSt → SecSt) : (modSec f s).loops = s.loops := rfl
@[simp] theorem modSec_acts (s : State) (f : SecSt → SecSt) : (modSec f s).acts = s.acts := rfl
@[simp] theorem modSec_engs (s : State) (f : SecSt → SecSt) : (modSec f s).engs = s.engs := rfl
@[simp] theorem modSec_wOff (s : State) (f : SecSt → SecSt) : (modSec f s).wOff = s.wOff := rfl
@[simp] theorem modSec_dn (s : State) (f : SecSt → SecSt) : (modSec f s).dn = s.dn := rfl
@[simp] theorem modSec_up (s : State) (f : SecSt → SecSt) : (modSec f s).up = s.up := rfl
@[simp] theorem modSec_lnks (s : State) (f : SecSt → SecSt) : (modSec f s).lnks = s.lnks := rfl
@[simp] theorem modSec_seqs (s : State) (f : SecSt → SecSt) : (modSec f s).seqs = s.seqs := rfl
@[simp] theorem modSec_seqMaster (s : State) (f : SecSt → SecSt) : (modSec f s).seqMaster = s.seqMaster := rfl
@[simp] theorem modSec_seqStaged (s : State) (f : SecSt → SecSt) : (modSec f s).seqStaged = s.seqStaged := rfl
@[simp] theorem modSec_pool (s : State) (f : SecSt → SecSt) : (modSec f s).pool = s.pool := rfl
@[simp] theorem modSec_poolOrd (s : State) (f : SecSt → SecSt) : (modSec f s).poolOrd = s.poolOrd := rfl
@[simp] theorem modSec_chains (s : State) (f : SecSt → SecSt) : (modSec f s).chains = s.chains := rfl
@[simp] theorem modSec_outqs (s : State) (f : SecSt → SecSt) : (modSec f s).outqs = s.outqs := rfl
@[simp] theorem modSec_ldpc (s : State) (f : SecSt → SecSt) : (modSec f s).ldpc = s.ldpc := rfl
@[simp] theorem modSec_dram (s : State) (f : SecSt → SecSt) : (modSec f s).dram = s.dram := rfl
@[simp] theorem modSec_buf (s : State) (f : SecSt → SecSt) : (modSec f s).buf = s.buf := rfl
@[simp] theorem modSec_flips (s : State) (f : SecSt → SecSt) : (modSec f s).flips = s.flips := rfl
@[simp] theorem modSec_nvs (s : State) (f : SecSt → SecSt) : (modSec f s).nvs = s.nvs := rfl
@[simp] theorem modSec_hif (s : State) (f : SecSt → SecSt) : (modSec f s).hif = s.hif := rfl
theorem modSec_sec (s : State) (f : SecSt → SecSt) : (modSec f s).sec = f s.sec := rfl
@[simp] theorem modSec_pins (s : State) (f : SecSt → SecSt) : (modSec f s).pins = s.pins := rfl
@[simp] theorem modSec_freeCtr (s : State) (f : SecSt → SecSt) : (modSec f s).freeCtr = s.freeCtr := rfl
@[simp] theorem modSec_pending (s : State) (f : SecSt → SecSt) : (modSec f s).pending = s.pending := rfl

/-! ### modPins -/

@[simp] theorem modPins_regs (s : State) (f : PinSt → PinSt) : (modPins f s).regs = s.regs := rfl
@[simp] theorem modPins_ctrs (s : State) (f : PinSt → PinSt) : (modPins f s).ctrs = s.ctrs := rfl
@[simp] theorem modPins_snap (s : State) (f : PinSt → PinSt) : (modPins f s).snap = s.snap := rfl
@[simp] theorem modPins_mem (s : State) (f : PinSt → PinSt) : (modPins f s).mem = s.mem := rfl
@[simp] theorem modPins_nv (s : State) (f : PinSt → PinSt) : (modPins f s).nv = s.nv := rfl
@[simp] theorem modPins_poison (s : State) (f : PinSt → PinSt) : (modPins f s).poison = s.poison := rfl
@[simp] theorem modPins_rdata (s : State) (f : PinSt → PinSt) : (modPins f s).rdata = s.rdata := rfl
@[simp] theorem modPins_busErr (s : State) (f : PinSt → PinSt) : (modPins f s).busErr = s.busErr := rfl
@[simp] theorem modPins_dataExc (s : State) (f : PinSt → PinSt) : (modPins f s).dataExc = s.dataExc := rfl
@[simp] theorem modPins_plat (s : State) (f : PinSt → PinSt) : (modPins f s).plat = s.plat := rfl
@[simp] theorem modPins_gh (s : State) (f : PinSt → PinSt) : (modPins f s).gh = s.gh := rfl
@[simp] theorem modPins_sdl (s : State) (f : PinSt → PinSt) : (modPins f s).sdl = s.sdl := rfl
@[simp] theorem modPins_ice (s : State) (f : PinSt → PinSt) : (modPins f s).ice = s.ice := rfl
@[simp] theorem modPins_cal (s : State) (f : PinSt → PinSt) : (modPins f s).cal = s.cal := rfl
@[simp] theorem modPins_ksk (s : State) (f : PinSt → PinSt) : (modPins f s).ksk = s.ksk := rfl
@[simp] theorem modPins_replies (s : State) (f : PinSt → PinSt) : (modPins f s).replies = s.replies := rfl
@[simp] theorem modPins_locks (s : State) (f : PinSt → PinSt) : (modPins f s).locks = s.locks := rfl
@[simp] theorem modPins_msix (s : State) (f : PinSt → PinSt) : (modPins f s).msix = s.msix := rfl
@[simp] theorem modPins_asm (s : State) (f : PinSt → PinSt) : (modPins f s).asm = s.asm := rfl
@[simp] theorem modPins_held (s : State) (f : PinSt → PinSt) : (modPins f s).held = s.held := rfl
@[simp] theorem modPins_dmaLast (s : State) (f : PinSt → PinSt) : (modPins f s).dmaLast = s.dmaLast := rfl
@[simp] theorem modPins_spn (s : State) (f : PinSt → PinSt) : (modPins f s).spn = s.spn := rfl
@[simp] theorem modPins_spnQueue (s : State) (f : PinSt → PinSt) : (modPins f s).spnQueue = s.spnQueue := rfl
@[simp] theorem modPins_loops (s : State) (f : PinSt → PinSt) : (modPins f s).loops = s.loops := rfl
@[simp] theorem modPins_acts (s : State) (f : PinSt → PinSt) : (modPins f s).acts = s.acts := rfl
@[simp] theorem modPins_engs (s : State) (f : PinSt → PinSt) : (modPins f s).engs = s.engs := rfl
@[simp] theorem modPins_wOff (s : State) (f : PinSt → PinSt) : (modPins f s).wOff = s.wOff := rfl
@[simp] theorem modPins_dn (s : State) (f : PinSt → PinSt) : (modPins f s).dn = s.dn := rfl
@[simp] theorem modPins_up (s : State) (f : PinSt → PinSt) : (modPins f s).up = s.up := rfl
@[simp] theorem modPins_lnks (s : State) (f : PinSt → PinSt) : (modPins f s).lnks = s.lnks := rfl
@[simp] theorem modPins_seqs (s : State) (f : PinSt → PinSt) : (modPins f s).seqs = s.seqs := rfl
@[simp] theorem modPins_seqMaster (s : State) (f : PinSt → PinSt) : (modPins f s).seqMaster = s.seqMaster := rfl
@[simp] theorem modPins_seqStaged (s : State) (f : PinSt → PinSt) : (modPins f s).seqStaged = s.seqStaged := rfl
@[simp] theorem modPins_pool (s : State) (f : PinSt → PinSt) : (modPins f s).pool = s.pool := rfl
@[simp] theorem modPins_poolOrd (s : State) (f : PinSt → PinSt) : (modPins f s).poolOrd = s.poolOrd := rfl
@[simp] theorem modPins_chains (s : State) (f : PinSt → PinSt) : (modPins f s).chains = s.chains := rfl
@[simp] theorem modPins_outqs (s : State) (f : PinSt → PinSt) : (modPins f s).outqs = s.outqs := rfl
@[simp] theorem modPins_ldpc (s : State) (f : PinSt → PinSt) : (modPins f s).ldpc = s.ldpc := rfl
@[simp] theorem modPins_dram (s : State) (f : PinSt → PinSt) : (modPins f s).dram = s.dram := rfl
@[simp] theorem modPins_buf (s : State) (f : PinSt → PinSt) : (modPins f s).buf = s.buf := rfl
@[simp] theorem modPins_flips (s : State) (f : PinSt → PinSt) : (modPins f s).flips = s.flips := rfl
@[simp] theorem modPins_nvs (s : State) (f : PinSt → PinSt) : (modPins f s).nvs = s.nvs := rfl
@[simp] theorem modPins_hif (s : State) (f : PinSt → PinSt) : (modPins f s).hif = s.hif := rfl
@[simp] theorem modPins_sec (s : State) (f : PinSt → PinSt) : (modPins f s).sec = s.sec := rfl
theorem modPins_pins (s : State) (f : PinSt → PinSt) : (modPins f s).pins = f s.pins := rfl
@[simp] theorem modPins_freeCtr (s : State) (f : PinSt → PinSt) : (modPins f s).freeCtr = s.freeCtr := rfl
@[simp] theorem modPins_pending (s : State) (f : PinSt → PinSt) : (modPins f s).pending = s.pending := rfl

/-! ### modSpin -/

@[simp] theorem modSpin_regs (s : State) (h : Nat) (f : Spindle → Spindle) : (modSpin h f s).regs = s.regs := rfl
@[simp] theorem modSpin_ctrs (s : State) (h : Nat) (f : Spindle → Spindle) : (modSpin h f s).ctrs = s.ctrs := rfl
@[simp] theorem modSpin_snap (s : State) (h : Nat) (f : Spindle → Spindle) : (modSpin h f s).snap = s.snap := rfl
@[simp] theorem modSpin_mem (s : State) (h : Nat) (f : Spindle → Spindle) : (modSpin h f s).mem = s.mem := rfl
@[simp] theorem modSpin_nv (s : State) (h : Nat) (f : Spindle → Spindle) : (modSpin h f s).nv = s.nv := rfl
@[simp] theorem modSpin_poison (s : State) (h : Nat) (f : Spindle → Spindle) : (modSpin h f s).poison = s.poison := rfl
@[simp] theorem modSpin_rdata (s : State) (h : Nat) (f : Spindle → Spindle) : (modSpin h f s).rdata = s.rdata := rfl
@[simp] theorem modSpin_busErr (s : State) (h : Nat) (f : Spindle → Spindle) : (modSpin h f s).busErr = s.busErr := rfl
@[simp] theorem modSpin_dataExc (s : State) (h : Nat) (f : Spindle → Spindle) : (modSpin h f s).dataExc = s.dataExc := rfl
@[simp] theorem modSpin_plat (s : State) (h : Nat) (f : Spindle → Spindle) : (modSpin h f s).plat = s.plat := rfl
@[simp] theorem modSpin_gh (s : State) (h : Nat) (f : Spindle → Spindle) : (modSpin h f s).gh = s.gh := rfl
@[simp] theorem modSpin_sdl (s : State) (h : Nat) (f : Spindle → Spindle) : (modSpin h f s).sdl = s.sdl := rfl
@[simp] theorem modSpin_ice (s : State) (h : Nat) (f : Spindle → Spindle) : (modSpin h f s).ice = s.ice := rfl
@[simp] theorem modSpin_cal (s : State) (h : Nat) (f : Spindle → Spindle) : (modSpin h f s).cal = s.cal := rfl
@[simp] theorem modSpin_ksk (s : State) (h : Nat) (f : Spindle → Spindle) : (modSpin h f s).ksk = s.ksk := rfl
@[simp] theorem modSpin_replies (s : State) (h : Nat) (f : Spindle → Spindle) : (modSpin h f s).replies = s.replies := rfl
@[simp] theorem modSpin_locks (s : State) (h : Nat) (f : Spindle → Spindle) : (modSpin h f s).locks = s.locks := rfl
@[simp] theorem modSpin_msix (s : State) (h : Nat) (f : Spindle → Spindle) : (modSpin h f s).msix = s.msix := rfl
@[simp] theorem modSpin_asm (s : State) (h : Nat) (f : Spindle → Spindle) : (modSpin h f s).asm = s.asm := rfl
@[simp] theorem modSpin_held (s : State) (h : Nat) (f : Spindle → Spindle) : (modSpin h f s).held = s.held := rfl
@[simp] theorem modSpin_dmaLast (s : State) (h : Nat) (f : Spindle → Spindle) : (modSpin h f s).dmaLast = s.dmaLast := rfl
theorem modSpin_spn (s : State) (h : Nat) (f : Spindle → Spindle) : (modSpin h f s).spn = tmod {} s.spn h f := rfl
@[simp] theorem modSpin_spnQueue (s : State) (h : Nat) (f : Spindle → Spindle) : (modSpin h f s).spnQueue = s.spnQueue := rfl
@[simp] theorem modSpin_loops (s : State) (h : Nat) (f : Spindle → Spindle) : (modSpin h f s).loops = s.loops := rfl
@[simp] theorem modSpin_acts (s : State) (h : Nat) (f : Spindle → Spindle) : (modSpin h f s).acts = s.acts := rfl
@[simp] theorem modSpin_engs (s : State) (h : Nat) (f : Spindle → Spindle) : (modSpin h f s).engs = s.engs := rfl
@[simp] theorem modSpin_wOff (s : State) (h : Nat) (f : Spindle → Spindle) : (modSpin h f s).wOff = s.wOff := rfl
@[simp] theorem modSpin_dn (s : State) (h : Nat) (f : Spindle → Spindle) : (modSpin h f s).dn = s.dn := rfl
@[simp] theorem modSpin_up (s : State) (h : Nat) (f : Spindle → Spindle) : (modSpin h f s).up = s.up := rfl
@[simp] theorem modSpin_lnks (s : State) (h : Nat) (f : Spindle → Spindle) : (modSpin h f s).lnks = s.lnks := rfl
@[simp] theorem modSpin_seqs (s : State) (h : Nat) (f : Spindle → Spindle) : (modSpin h f s).seqs = s.seqs := rfl
@[simp] theorem modSpin_seqMaster (s : State) (h : Nat) (f : Spindle → Spindle) : (modSpin h f s).seqMaster = s.seqMaster := rfl
@[simp] theorem modSpin_seqStaged (s : State) (h : Nat) (f : Spindle → Spindle) : (modSpin h f s).seqStaged = s.seqStaged := rfl
@[simp] theorem modSpin_pool (s : State) (h : Nat) (f : Spindle → Spindle) : (modSpin h f s).pool = s.pool := rfl
@[simp] theorem modSpin_poolOrd (s : State) (h : Nat) (f : Spindle → Spindle) : (modSpin h f s).poolOrd = s.poolOrd := rfl
@[simp] theorem modSpin_chains (s : State) (h : Nat) (f : Spindle → Spindle) : (modSpin h f s).chains = s.chains := rfl
@[simp] theorem modSpin_outqs (s : State) (h : Nat) (f : Spindle → Spindle) : (modSpin h f s).outqs = s.outqs := rfl
@[simp] theorem modSpin_ldpc (s : State) (h : Nat) (f : Spindle → Spindle) : (modSpin h f s).ldpc = s.ldpc := rfl
@[simp] theorem modSpin_dram (s : State) (h : Nat) (f : Spindle → Spindle) : (modSpin h f s).dram = s.dram := rfl
@[simp] theorem modSpin_buf (s : State) (h : Nat) (f : Spindle → Spindle) : (modSpin h f s).buf = s.buf := rfl
@[simp] theorem modSpin_flips (s : State) (h : Nat) (f : Spindle → Spindle) : (modSpin h f s).flips = s.flips := rfl
@[simp] theorem modSpin_nvs (s : State) (h : Nat) (f : Spindle → Spindle) : (modSpin h f s).nvs = s.nvs := rfl
@[simp] theorem modSpin_hif (s : State) (h : Nat) (f : Spindle → Spindle) : (modSpin h f s).hif = s.hif := rfl
@[simp] theorem modSpin_sec (s : State) (h : Nat) (f : Spindle → Spindle) : (modSpin h f s).sec = s.sec := rfl
@[simp] theorem modSpin_pins (s : State) (h : Nat) (f : Spindle → Spindle) : (modSpin h f s).pins = s.pins := rfl
@[simp] theorem modSpin_freeCtr (s : State) (h : Nat) (f : Spindle → Spindle) : (modSpin h f s).freeCtr = s.freeCtr := rfl
@[simp] theorem modSpin_pending (s : State) (h : Nat) (f : Spindle → Spindle) : (modSpin h f s).pending = s.pending := rfl

/-! ### modAct -/

@[simp] theorem modAct_regs (s : State) (a : Nat) (f : ActSt → ActSt) : (modAct a f s).regs = s.regs := rfl
@[simp] theorem modAct_ctrs (s : State) (a : Nat) (f : ActSt → ActSt) : (modAct a f s).ctrs = s.ctrs := rfl
@[simp] theorem modAct_snap (s : State) (a : Nat) (f : ActSt → ActSt) : (modAct a f s).snap = s.snap := rfl
@[simp] theorem modAct_mem (s : State) (a : Nat) (f : ActSt → ActSt) : (modAct a f s).mem = s.mem := rfl
@[simp] theorem modAct_nv (s : State) (a : Nat) (f : ActSt → ActSt) : (modAct a f s).nv = s.nv := rfl
@[simp] theorem modAct_poison (s : State) (a : Nat) (f : ActSt → ActSt) : (modAct a f s).poison = s.poison := rfl
@[simp] theorem modAct_rdata (s : State) (a : Nat) (f : ActSt → ActSt) : (modAct a f s).rdata = s.rdata := rfl
@[simp] theorem modAct_busErr (s : State) (a : Nat) (f : ActSt → ActSt) : (modAct a f s).busErr = s.busErr := rfl
@[simp] theorem modAct_dataExc (s : State) (a : Nat) (f : ActSt → ActSt) : (modAct a f s).dataExc = s.dataExc := rfl
@[simp] theorem modAct_plat (s : State) (a : Nat) (f : ActSt → ActSt) : (modAct a f s).plat = s.plat := rfl
@[simp] theorem modAct_gh (s : State) (a : Nat) (f : ActSt → ActSt) : (modAct a f s).gh = s.gh := rfl
@[simp] theorem modAct_sdl (s : State) (a : Nat) (f : ActSt → ActSt) : (modAct a f s).sdl = s.sdl := rfl
@[simp] theorem modAct_ice (s : State) (a : Nat) (f : ActSt → ActSt) : (modAct a f s).ice = s.ice := rfl
@[simp] theorem modAct_cal (s : State) (a : Nat) (f : ActSt → ActSt) : (modAct a f s).cal = s.cal := rfl
@[simp] theorem modAct_ksk (s : State) (a : Nat) (f : ActSt → ActSt) : (modAct a f s).ksk = s.ksk := rfl
@[simp] theorem modAct_replies (s : State) (a : Nat) (f : ActSt → ActSt) : (modAct a f s).replies = s.replies := rfl
@[simp] theorem modAct_locks (s : State) (a : Nat) (f : ActSt → ActSt) : (modAct a f s).locks = s.locks := rfl
@[simp] theorem modAct_msix (s : State) (a : Nat) (f : ActSt → ActSt) : (modAct a f s).msix = s.msix := rfl
@[simp] theorem modAct_asm (s : State) (a : Nat) (f : ActSt → ActSt) : (modAct a f s).asm = s.asm := rfl
@[simp] theorem modAct_held (s : State) (a : Nat) (f : ActSt → ActSt) : (modAct a f s).held = s.held := rfl
@[simp] theorem modAct_dmaLast (s : State) (a : Nat) (f : ActSt → ActSt) : (modAct a f s).dmaLast = s.dmaLast := rfl
@[simp] theorem modAct_spn (s : State) (a : Nat) (f : ActSt → ActSt) : (modAct a f s).spn = s.spn := rfl
@[simp] theorem modAct_spnQueue (s : State) (a : Nat) (f : ActSt → ActSt) : (modAct a f s).spnQueue = s.spnQueue := rfl
@[simp] theorem modAct_loops (s : State) (a : Nat) (f : ActSt → ActSt) : (modAct a f s).loops = s.loops := rfl
theorem modAct_acts (s : State) (a : Nat) (f : ActSt → ActSt) : (modAct a f s).acts = tmod {} s.acts a f := rfl
@[simp] theorem modAct_engs (s : State) (a : Nat) (f : ActSt → ActSt) : (modAct a f s).engs = s.engs := rfl
@[simp] theorem modAct_wOff (s : State) (a : Nat) (f : ActSt → ActSt) : (modAct a f s).wOff = s.wOff := rfl
@[simp] theorem modAct_dn (s : State) (a : Nat) (f : ActSt → ActSt) : (modAct a f s).dn = s.dn := rfl
@[simp] theorem modAct_up (s : State) (a : Nat) (f : ActSt → ActSt) : (modAct a f s).up = s.up := rfl
@[simp] theorem modAct_lnks (s : State) (a : Nat) (f : ActSt → ActSt) : (modAct a f s).lnks = s.lnks := rfl
@[simp] theorem modAct_seqs (s : State) (a : Nat) (f : ActSt → ActSt) : (modAct a f s).seqs = s.seqs := rfl
@[simp] theorem modAct_seqMaster (s : State) (a : Nat) (f : ActSt → ActSt) : (modAct a f s).seqMaster = s.seqMaster := rfl
@[simp] theorem modAct_seqStaged (s : State) (a : Nat) (f : ActSt → ActSt) : (modAct a f s).seqStaged = s.seqStaged := rfl
@[simp] theorem modAct_pool (s : State) (a : Nat) (f : ActSt → ActSt) : (modAct a f s).pool = s.pool := rfl
@[simp] theorem modAct_poolOrd (s : State) (a : Nat) (f : ActSt → ActSt) : (modAct a f s).poolOrd = s.poolOrd := rfl
@[simp] theorem modAct_chains (s : State) (a : Nat) (f : ActSt → ActSt) : (modAct a f s).chains = s.chains := rfl
@[simp] theorem modAct_outqs (s : State) (a : Nat) (f : ActSt → ActSt) : (modAct a f s).outqs = s.outqs := rfl
@[simp] theorem modAct_ldpc (s : State) (a : Nat) (f : ActSt → ActSt) : (modAct a f s).ldpc = s.ldpc := rfl
@[simp] theorem modAct_dram (s : State) (a : Nat) (f : ActSt → ActSt) : (modAct a f s).dram = s.dram := rfl
@[simp] theorem modAct_buf (s : State) (a : Nat) (f : ActSt → ActSt) : (modAct a f s).buf = s.buf := rfl
@[simp] theorem modAct_flips (s : State) (a : Nat) (f : ActSt → ActSt) : (modAct a f s).flips = s.flips := rfl
@[simp] theorem modAct_nvs (s : State) (a : Nat) (f : ActSt → ActSt) : (modAct a f s).nvs = s.nvs := rfl
@[simp] theorem modAct_hif (s : State) (a : Nat) (f : ActSt → ActSt) : (modAct a f s).hif = s.hif := rfl
@[simp] theorem modAct_sec (s : State) (a : Nat) (f : ActSt → ActSt) : (modAct a f s).sec = s.sec := rfl
@[simp] theorem modAct_pins (s : State) (a : Nat) (f : ActSt → ActSt) : (modAct a f s).pins = s.pins := rfl
@[simp] theorem modAct_freeCtr (s : State) (a : Nat) (f : ActSt → ActSt) : (modAct a f s).freeCtr = s.freeCtr := rfl
@[simp] theorem modAct_pending (s : State) (a : Nat) (f : ActSt → ActSt) : (modAct a f s).pending = s.pending := rfl

/-! ### modSeq -/

@[simp] theorem modSeq_regs (s : State) (a : Nat) (f : SeqSt → SeqSt) : (modSeq a f s).regs = s.regs := rfl
@[simp] theorem modSeq_ctrs (s : State) (a : Nat) (f : SeqSt → SeqSt) : (modSeq a f s).ctrs = s.ctrs := rfl
@[simp] theorem modSeq_snap (s : State) (a : Nat) (f : SeqSt → SeqSt) : (modSeq a f s).snap = s.snap := rfl
@[simp] theorem modSeq_mem (s : State) (a : Nat) (f : SeqSt → SeqSt) : (modSeq a f s).mem = s.mem := rfl
@[simp] theorem modSeq_nv (s : State) (a : Nat) (f : SeqSt → SeqSt) : (modSeq a f s).nv = s.nv := rfl
@[simp] theorem modSeq_poison (s : State) (a : Nat) (f : SeqSt → SeqSt) : (modSeq a f s).poison = s.poison := rfl
@[simp] theorem modSeq_rdata (s : State) (a : Nat) (f : SeqSt → SeqSt) : (modSeq a f s).rdata = s.rdata := rfl
@[simp] theorem modSeq_busErr (s : State) (a : Nat) (f : SeqSt → SeqSt) : (modSeq a f s).busErr = s.busErr := rfl
@[simp] theorem modSeq_dataExc (s : State) (a : Nat) (f : SeqSt → SeqSt) : (modSeq a f s).dataExc = s.dataExc := rfl
@[simp] theorem modSeq_plat (s : State) (a : Nat) (f : SeqSt → SeqSt) : (modSeq a f s).plat = s.plat := rfl
@[simp] theorem modSeq_gh (s : State) (a : Nat) (f : SeqSt → SeqSt) : (modSeq a f s).gh = s.gh := rfl
@[simp] theorem modSeq_sdl (s : State) (a : Nat) (f : SeqSt → SeqSt) : (modSeq a f s).sdl = s.sdl := rfl
@[simp] theorem modSeq_ice (s : State) (a : Nat) (f : SeqSt → SeqSt) : (modSeq a f s).ice = s.ice := rfl
@[simp] theorem modSeq_cal (s : State) (a : Nat) (f : SeqSt → SeqSt) : (modSeq a f s).cal = s.cal := rfl
@[simp] theorem modSeq_ksk (s : State) (a : Nat) (f : SeqSt → SeqSt) : (modSeq a f s).ksk = s.ksk := rfl
@[simp] theorem modSeq_replies (s : State) (a : Nat) (f : SeqSt → SeqSt) : (modSeq a f s).replies = s.replies := rfl
@[simp] theorem modSeq_locks (s : State) (a : Nat) (f : SeqSt → SeqSt) : (modSeq a f s).locks = s.locks := rfl
@[simp] theorem modSeq_msix (s : State) (a : Nat) (f : SeqSt → SeqSt) : (modSeq a f s).msix = s.msix := rfl
@[simp] theorem modSeq_asm (s : State) (a : Nat) (f : SeqSt → SeqSt) : (modSeq a f s).asm = s.asm := rfl
@[simp] theorem modSeq_held (s : State) (a : Nat) (f : SeqSt → SeqSt) : (modSeq a f s).held = s.held := rfl
@[simp] theorem modSeq_dmaLast (s : State) (a : Nat) (f : SeqSt → SeqSt) : (modSeq a f s).dmaLast = s.dmaLast := rfl
@[simp] theorem modSeq_spn (s : State) (a : Nat) (f : SeqSt → SeqSt) : (modSeq a f s).spn = s.spn := rfl
@[simp] theorem modSeq_spnQueue (s : State) (a : Nat) (f : SeqSt → SeqSt) : (modSeq a f s).spnQueue = s.spnQueue := rfl
@[simp] theorem modSeq_loops (s : State) (a : Nat) (f : SeqSt → SeqSt) : (modSeq a f s).loops = s.loops := rfl
@[simp] theorem modSeq_acts (s : State) (a : Nat) (f : SeqSt → SeqSt) : (modSeq a f s).acts = s.acts := rfl
@[simp] theorem modSeq_engs (s : State) (a : Nat) (f : SeqSt → SeqSt) : (modSeq a f s).engs = s.engs := rfl
@[simp] theorem modSeq_wOff (s : State) (a : Nat) (f : SeqSt → SeqSt) : (modSeq a f s).wOff = s.wOff := rfl
@[simp] theorem modSeq_dn (s : State) (a : Nat) (f : SeqSt → SeqSt) : (modSeq a f s).dn = s.dn := rfl
@[simp] theorem modSeq_up (s : State) (a : Nat) (f : SeqSt → SeqSt) : (modSeq a f s).up = s.up := rfl
@[simp] theorem modSeq_lnks (s : State) (a : Nat) (f : SeqSt → SeqSt) : (modSeq a f s).lnks = s.lnks := rfl
theorem modSeq_seqs (s : State) (a : Nat) (f : SeqSt → SeqSt) : (modSeq a f s).seqs = tmod {} s.seqs a f := rfl
@[simp] theorem modSeq_seqMaster (s : State) (a : Nat) (f : SeqSt → SeqSt) : (modSeq a f s).seqMaster = s.seqMaster := rfl
@[simp] theorem modSeq_seqStaged (s : State) (a : Nat) (f : SeqSt → SeqSt) : (modSeq a f s).seqStaged = s.seqStaged := rfl
@[simp] theorem modSeq_pool (s : State) (a : Nat) (f : SeqSt → SeqSt) : (modSeq a f s).pool = s.pool := rfl
@[simp] theorem modSeq_poolOrd (s : State) (a : Nat) (f : SeqSt → SeqSt) : (modSeq a f s).poolOrd = s.poolOrd := rfl
@[simp] theorem modSeq_chains (s : State) (a : Nat) (f : SeqSt → SeqSt) : (modSeq a f s).chains = s.chains := rfl
@[simp] theorem modSeq_outqs (s : State) (a : Nat) (f : SeqSt → SeqSt) : (modSeq a f s).outqs = s.outqs := rfl
@[simp] theorem modSeq_ldpc (s : State) (a : Nat) (f : SeqSt → SeqSt) : (modSeq a f s).ldpc = s.ldpc := rfl
@[simp] theorem modSeq_dram (s : State) (a : Nat) (f : SeqSt → SeqSt) : (modSeq a f s).dram = s.dram := rfl
@[simp] theorem modSeq_buf (s : State) (a : Nat) (f : SeqSt → SeqSt) : (modSeq a f s).buf = s.buf := rfl
@[simp] theorem modSeq_flips (s : State) (a : Nat) (f : SeqSt → SeqSt) : (modSeq a f s).flips = s.flips := rfl
@[simp] theorem modSeq_nvs (s : State) (a : Nat) (f : SeqSt → SeqSt) : (modSeq a f s).nvs = s.nvs := rfl
@[simp] theorem modSeq_hif (s : State) (a : Nat) (f : SeqSt → SeqSt) : (modSeq a f s).hif = s.hif := rfl
@[simp] theorem modSeq_sec (s : State) (a : Nat) (f : SeqSt → SeqSt) : (modSeq a f s).sec = s.sec := rfl
@[simp] theorem modSeq_pins (s : State) (a : Nat) (f : SeqSt → SeqSt) : (modSeq a f s).pins = s.pins := rfl
@[simp] theorem modSeq_freeCtr (s : State) (a : Nat) (f : SeqSt → SeqSt) : (modSeq a f s).freeCtr = s.freeCtr := rfl
@[simp] theorem modSeq_pending (s : State) (a : Nat) (f : SeqSt → SeqSt) : (modSeq a f s).pending = s.pending := rfl

/-! ### modLoop -/

@[simp] theorem modLoop_regs (s : State) (h l : Nat) (f : LoopSt → LoopSt) : (modLoop h l f s).regs = s.regs := rfl
@[simp] theorem modLoop_ctrs (s : State) (h l : Nat) (f : LoopSt → LoopSt) : (modLoop h l f s).ctrs = s.ctrs := rfl
@[simp] theorem modLoop_snap (s : State) (h l : Nat) (f : LoopSt → LoopSt) : (modLoop h l f s).snap = s.snap := rfl
@[simp] theorem modLoop_mem (s : State) (h l : Nat) (f : LoopSt → LoopSt) : (modLoop h l f s).mem = s.mem := rfl
@[simp] theorem modLoop_nv (s : State) (h l : Nat) (f : LoopSt → LoopSt) : (modLoop h l f s).nv = s.nv := rfl
@[simp] theorem modLoop_poison (s : State) (h l : Nat) (f : LoopSt → LoopSt) : (modLoop h l f s).poison = s.poison := rfl
@[simp] theorem modLoop_rdata (s : State) (h l : Nat) (f : LoopSt → LoopSt) : (modLoop h l f s).rdata = s.rdata := rfl
@[simp] theorem modLoop_busErr (s : State) (h l : Nat) (f : LoopSt → LoopSt) : (modLoop h l f s).busErr = s.busErr := rfl
@[simp] theorem modLoop_dataExc (s : State) (h l : Nat) (f : LoopSt → LoopSt) : (modLoop h l f s).dataExc = s.dataExc := rfl
@[simp] theorem modLoop_plat (s : State) (h l : Nat) (f : LoopSt → LoopSt) : (modLoop h l f s).plat = s.plat := rfl
@[simp] theorem modLoop_gh (s : State) (h l : Nat) (f : LoopSt → LoopSt) : (modLoop h l f s).gh = s.gh := rfl
@[simp] theorem modLoop_sdl (s : State) (h l : Nat) (f : LoopSt → LoopSt) : (modLoop h l f s).sdl = s.sdl := rfl
@[simp] theorem modLoop_ice (s : State) (h l : Nat) (f : LoopSt → LoopSt) : (modLoop h l f s).ice = s.ice := rfl
@[simp] theorem modLoop_cal (s : State) (h l : Nat) (f : LoopSt → LoopSt) : (modLoop h l f s).cal = s.cal := rfl
@[simp] theorem modLoop_ksk (s : State) (h l : Nat) (f : LoopSt → LoopSt) : (modLoop h l f s).ksk = s.ksk := rfl
@[simp] theorem modLoop_replies (s : State) (h l : Nat) (f : LoopSt → LoopSt) : (modLoop h l f s).replies = s.replies := rfl
@[simp] theorem modLoop_locks (s : State) (h l : Nat) (f : LoopSt → LoopSt) : (modLoop h l f s).locks = s.locks := rfl
@[simp] theorem modLoop_msix (s : State) (h l : Nat) (f : LoopSt → LoopSt) : (modLoop h l f s).msix = s.msix := rfl
@[simp] theorem modLoop_asm (s : State) (h l : Nat) (f : LoopSt → LoopSt) : (modLoop h l f s).asm = s.asm := rfl
@[simp] theorem modLoop_held (s : State) (h l : Nat) (f : LoopSt → LoopSt) : (modLoop h l f s).held = s.held := rfl
@[simp] theorem modLoop_dmaLast (s : State) (h l : Nat) (f : LoopSt → LoopSt) : (modLoop h l f s).dmaLast = s.dmaLast := rfl
@[simp] theorem modLoop_spn (s : State) (h l : Nat) (f : LoopSt → LoopSt) : (modLoop h l f s).spn = s.spn := rfl
@[simp] theorem modLoop_spnQueue (s : State) (h l : Nat) (f : LoopSt → LoopSt) : (modLoop h l f s).spnQueue = s.spnQueue := rfl
theorem modLoop_loops (s : State) (h l : Nat) (f : LoopSt → LoopSt) : (modLoop h l f s).loops = tmod {} s.loops (32 * h + l) f := rfl
@[simp] theorem modLoop_acts (s : State) (h l : Nat) (f : LoopSt → LoopSt) : (modLoop h l f s).acts = s.acts := rfl
@[simp] theorem modLoop_engs (s : State) (h l : Nat) (f : LoopSt → LoopSt) : (modLoop h l f s).engs = s.engs := rfl
@[simp] theorem modLoop_wOff (s : State) (h l : Nat) (f : LoopSt → LoopSt) : (modLoop h l f s).wOff = s.wOff := rfl
@[simp] theorem modLoop_dn (s : State) (h l : Nat) (f : LoopSt → LoopSt) : (modLoop h l f s).dn = s.dn := rfl
@[simp] theorem modLoop_up (s : State) (h l : Nat) (f : LoopSt → LoopSt) : (modLoop h l f s).up = s.up := rfl
@[simp] theorem modLoop_lnks (s : State) (h l : Nat) (f : LoopSt → LoopSt) : (modLoop h l f s).lnks = s.lnks := rfl
@[simp] theorem modLoop_seqs (s : State) (h l : Nat) (f : LoopSt → LoopSt) : (modLoop h l f s).seqs = s.seqs := rfl
@[simp] theorem modLoop_seqMaster (s : State) (h l : Nat) (f : LoopSt → LoopSt) : (modLoop h l f s).seqMaster = s.seqMaster := rfl
@[simp] theorem modLoop_seqStaged (s : State) (h l : Nat) (f : LoopSt → LoopSt) : (modLoop h l f s).seqStaged = s.seqStaged := rfl
@[simp] theorem modLoop_pool (s : State) (h l : Nat) (f : LoopSt → LoopSt) : (modLoop h l f s).pool = s.pool := rfl
@[simp] theorem modLoop_poolOrd (s : State) (h l : Nat) (f : LoopSt → LoopSt) : (modLoop h l f s).poolOrd = s.poolOrd := rfl
@[simp] theorem modLoop_chains (s : State) (h l : Nat) (f : LoopSt → LoopSt) : (modLoop h l f s).chains = s.chains := rfl
@[simp] theorem modLoop_outqs (s : State) (h l : Nat) (f : LoopSt → LoopSt) : (modLoop h l f s).outqs = s.outqs := rfl
@[simp] theorem modLoop_ldpc (s : State) (h l : Nat) (f : LoopSt → LoopSt) : (modLoop h l f s).ldpc = s.ldpc := rfl
@[simp] theorem modLoop_dram (s : State) (h l : Nat) (f : LoopSt → LoopSt) : (modLoop h l f s).dram = s.dram := rfl
@[simp] theorem modLoop_buf (s : State) (h l : Nat) (f : LoopSt → LoopSt) : (modLoop h l f s).buf = s.buf := rfl
@[simp] theorem modLoop_flips (s : State) (h l : Nat) (f : LoopSt → LoopSt) : (modLoop h l f s).flips = s.flips := rfl
@[simp] theorem modLoop_nvs (s : State) (h l : Nat) (f : LoopSt → LoopSt) : (modLoop h l f s).nvs = s.nvs := rfl
@[simp] theorem modLoop_hif (s : State) (h l : Nat) (f : LoopSt → LoopSt) : (modLoop h l f s).hif = s.hif := rfl
@[simp] theorem modLoop_sec (s : State) (h l : Nat) (f : LoopSt → LoopSt) : (modLoop h l f s).sec = s.sec := rfl
@[simp] theorem modLoop_pins (s : State) (h l : Nat) (f : LoopSt → LoopSt) : (modLoop h l f s).pins = s.pins := rfl
@[simp] theorem modLoop_freeCtr (s : State) (h l : Nat) (f : LoopSt → LoopSt) : (modLoop h l f s).freeCtr = s.freeCtr := rfl
@[simp] theorem modLoop_pending (s : State) (h l : Nat) (f : LoopSt → LoopSt) : (modLoop h l f s).pending = s.pending := rfl

/-! ### modLnk -/

@[simp] theorem modLnk_regs (s : State) (a : Nat) (f : LnkSt → LnkSt) : (modLnk a f s).regs = s.regs := rfl
@[simp] theorem modLnk_ctrs (s : State) (a : Nat) (f : LnkSt → LnkSt) : (modLnk a f s).ctrs = s.ctrs := rfl
@[simp] theorem modLnk_snap (s : State) (a : Nat) (f : LnkSt → LnkSt) : (modLnk a f s).snap = s.snap := rfl
@[simp] theorem modLnk_mem (s : State) (a : Nat) (f : LnkSt → LnkSt) : (modLnk a f s).mem = s.mem := rfl
@[simp] theorem modLnk_nv (s : State) (a : Nat) (f : LnkSt → LnkSt) : (modLnk a f s).nv = s.nv := rfl
@[simp] theorem modLnk_poison (s : State) (a : Nat) (f : LnkSt → LnkSt) : (modLnk a f s).poison = s.poison := rfl
@[simp] theorem modLnk_rdata (s : State) (a : Nat) (f : LnkSt → LnkSt) : (modLnk a f s).rdata = s.rdata := rfl
@[simp] theorem modLnk_busErr (s : State) (a : Nat) (f : LnkSt → LnkSt) : (modLnk a f s).busErr = s.busErr := rfl
@[simp] theorem modLnk_dataExc (s : State) (a : Nat) (f : LnkSt → LnkSt) : (modLnk a f s).dataExc = s.dataExc := rfl
@[simp] theorem modLnk_plat (s : State) (a : Nat) (f : LnkSt → LnkSt) : (modLnk a f s).plat = s.plat := rfl
@[simp] theorem modLnk_gh (s : State) (a : Nat) (f : LnkSt → LnkSt) : (modLnk a f s).gh = s.gh := rfl
@[simp] theorem modLnk_sdl (s : State) (a : Nat) (f : LnkSt → LnkSt) : (modLnk a f s).sdl = s.sdl := rfl
@[simp] theorem modLnk_ice (s : State) (a : Nat) (f : LnkSt → LnkSt) : (modLnk a f s).ice = s.ice := rfl
@[simp] theorem modLnk_cal (s : State) (a : Nat) (f : LnkSt → LnkSt) : (modLnk a f s).cal = s.cal := rfl
@[simp] theorem modLnk_ksk (s : State) (a : Nat) (f : LnkSt → LnkSt) : (modLnk a f s).ksk = s.ksk := rfl
@[simp] theorem modLnk_replies (s : State) (a : Nat) (f : LnkSt → LnkSt) : (modLnk a f s).replies = s.replies := rfl
@[simp] theorem modLnk_locks (s : State) (a : Nat) (f : LnkSt → LnkSt) : (modLnk a f s).locks = s.locks := rfl
@[simp] theorem modLnk_msix (s : State) (a : Nat) (f : LnkSt → LnkSt) : (modLnk a f s).msix = s.msix := rfl
@[simp] theorem modLnk_asm (s : State) (a : Nat) (f : LnkSt → LnkSt) : (modLnk a f s).asm = s.asm := rfl
@[simp] theorem modLnk_held (s : State) (a : Nat) (f : LnkSt → LnkSt) : (modLnk a f s).held = s.held := rfl
@[simp] theorem modLnk_dmaLast (s : State) (a : Nat) (f : LnkSt → LnkSt) : (modLnk a f s).dmaLast = s.dmaLast := rfl
@[simp] theorem modLnk_spn (s : State) (a : Nat) (f : LnkSt → LnkSt) : (modLnk a f s).spn = s.spn := rfl
@[simp] theorem modLnk_spnQueue (s : State) (a : Nat) (f : LnkSt → LnkSt) : (modLnk a f s).spnQueue = s.spnQueue := rfl
@[simp] theorem modLnk_loops (s : State) (a : Nat) (f : LnkSt → LnkSt) : (modLnk a f s).loops = s.loops := rfl
@[simp] theorem modLnk_acts (s : State) (a : Nat) (f : LnkSt → LnkSt) : (modLnk a f s).acts = s.acts := rfl
@[simp] theorem modLnk_engs (s : State) (a : Nat) (f : LnkSt → LnkSt) : (modLnk a f s).engs = s.engs := rfl
@[simp] theorem modLnk_wOff (s : State) (a : Nat) (f : LnkSt → LnkSt) : (modLnk a f s).wOff = s.wOff := rfl
@[simp] theorem modLnk_dn (s : State) (a : Nat) (f : LnkSt → LnkSt) : (modLnk a f s).dn = s.dn := rfl
@[simp] theorem modLnk_up (s : State) (a : Nat) (f : LnkSt → LnkSt) : (modLnk a f s).up = s.up := rfl
theorem modLnk_lnks (s : State) (a : Nat) (f : LnkSt → LnkSt) : (modLnk a f s).lnks = tmod {} s.lnks a f := rfl
@[simp] theorem modLnk_seqs (s : State) (a : Nat) (f : LnkSt → LnkSt) : (modLnk a f s).seqs = s.seqs := rfl
@[simp] theorem modLnk_seqMaster (s : State) (a : Nat) (f : LnkSt → LnkSt) : (modLnk a f s).seqMaster = s.seqMaster := rfl
@[simp] theorem modLnk_seqStaged (s : State) (a : Nat) (f : LnkSt → LnkSt) : (modLnk a f s).seqStaged = s.seqStaged := rfl
@[simp] theorem modLnk_pool (s : State) (a : Nat) (f : LnkSt → LnkSt) : (modLnk a f s).pool = s.pool := rfl
@[simp] theorem modLnk_poolOrd (s : State) (a : Nat) (f : LnkSt → LnkSt) : (modLnk a f s).poolOrd = s.poolOrd := rfl
@[simp] theorem modLnk_chains (s : State) (a : Nat) (f : LnkSt → LnkSt) : (modLnk a f s).chains = s.chains := rfl
@[simp] theorem modLnk_outqs (s : State) (a : Nat) (f : LnkSt → LnkSt) : (modLnk a f s).outqs = s.outqs := rfl
@[simp] theorem modLnk_ldpc (s : State) (a : Nat) (f : LnkSt → LnkSt) : (modLnk a f s).ldpc = s.ldpc := rfl
@[simp] theorem modLnk_dram (s : State) (a : Nat) (f : LnkSt → LnkSt) : (modLnk a f s).dram = s.dram := rfl
@[simp] theorem modLnk_buf (s : State) (a : Nat) (f : LnkSt → LnkSt) : (modLnk a f s).buf = s.buf := rfl
@[simp] theorem modLnk_flips (s : State) (a : Nat) (f : LnkSt → LnkSt) : (modLnk a f s).flips = s.flips := rfl
@[simp] theorem modLnk_nvs (s : State) (a : Nat) (f : LnkSt → LnkSt) : (modLnk a f s).nvs = s.nvs := rfl
@[simp] theorem modLnk_hif (s : State) (a : Nat) (f : LnkSt → LnkSt) : (modLnk a f s).hif = s.hif := rfl
@[simp] theorem modLnk_sec (s : State) (a : Nat) (f : LnkSt → LnkSt) : (modLnk a f s).sec = s.sec := rfl
@[simp] theorem modLnk_pins (s : State) (a : Nat) (f : LnkSt → LnkSt) : (modLnk a f s).pins = s.pins := rfl
@[simp] theorem modLnk_freeCtr (s : State) (a : Nat) (f : LnkSt → LnkSt) : (modLnk a f s).freeCtr = s.freeCtr := rfl
@[simp] theorem modLnk_pending (s : State) (a : Nat) (f : LnkSt → LnkSt) : (modLnk a f s).pending = s.pending := rfl

/-! ### modDn -/

@[simp] theorem modDn_regs (s : State) (a i : Nat) (f : DnLane → DnLane) : (modDn a i f s).regs = s.regs := rfl
@[simp] theorem modDn_ctrs (s : State) (a i : Nat) (f : DnLane → DnLane) : (modDn a i f s).ctrs = s.ctrs := rfl
@[simp] theorem modDn_snap (s : State) (a i : Nat) (f : DnLane → DnLane) : (modDn a i f s).snap = s.snap := rfl
@[simp] theorem modDn_mem (s : State) (a i : Nat) (f : DnLane → DnLane) : (modDn a i f s).mem = s.mem := rfl
@[simp] theorem modDn_nv (s : State) (a i : Nat) (f : DnLane → DnLane) : (modDn a i f s).nv = s.nv := rfl
@[simp] theorem modDn_poison (s : State) (a i : Nat) (f : DnLane → DnLane) : (modDn a i f s).poison = s.poison := rfl
@[simp] theorem modDn_rdata (s : State) (a i : Nat) (f : DnLane → DnLane) : (modDn a i f s).rdata = s.rdata := rfl
@[simp] theorem modDn_busErr (s : State) (a i : Nat) (f : DnLane → DnLane) : (modDn a i f s).busErr = s.busErr := rfl
@[simp] theorem modDn_dataExc (s : State) (a i : Nat) (f : DnLane → DnLane) : (modDn a i f s).dataExc = s.dataExc := rfl
@[simp] theorem modDn_plat (s : State) (a i : Nat) (f : DnLane → DnLane) : (modDn a i f s).plat = s.plat := rfl
@[simp] theorem modDn_gh (s : State) (a i : Nat) (f : DnLane → DnLane) : (modDn a i f s).gh = s.gh := rfl
@[simp] theorem modDn_sdl (s : State) (a i : Nat) (f : DnLane → DnLane) : (modDn a i f s).sdl = s.sdl := rfl
@[simp] theorem modDn_ice (s : State) (a i : Nat) (f : DnLane → DnLane) : (modDn a i f s).ice = s.ice := rfl
@[simp] theorem modDn_cal (s : State) (a i : Nat) (f : DnLane → DnLane) : (modDn a i f s).cal = s.cal := rfl
@[simp] theorem modDn_ksk (s : State) (a i : Nat) (f : DnLane → DnLane) : (modDn a i f s).ksk = s.ksk := rfl
@[simp] theorem modDn_replies (s : State) (a i : Nat) (f : DnLane → DnLane) : (modDn a i f s).replies = s.replies := rfl
@[simp] theorem modDn_locks (s : State) (a i : Nat) (f : DnLane → DnLane) : (modDn a i f s).locks = s.locks := rfl
@[simp] theorem modDn_msix (s : State) (a i : Nat) (f : DnLane → DnLane) : (modDn a i f s).msix = s.msix := rfl
@[simp] theorem modDn_asm (s : State) (a i : Nat) (f : DnLane → DnLane) : (modDn a i f s).asm = s.asm := rfl
@[simp] theorem modDn_held (s : State) (a i : Nat) (f : DnLane → DnLane) : (modDn a i f s).held = s.held := rfl
@[simp] theorem modDn_dmaLast (s : State) (a i : Nat) (f : DnLane → DnLane) : (modDn a i f s).dmaLast = s.dmaLast := rfl
@[simp] theorem modDn_spn (s : State) (a i : Nat) (f : DnLane → DnLane) : (modDn a i f s).spn = s.spn := rfl
@[simp] theorem modDn_spnQueue (s : State) (a i : Nat) (f : DnLane → DnLane) : (modDn a i f s).spnQueue = s.spnQueue := rfl
@[simp] theorem modDn_loops (s : State) (a i : Nat) (f : DnLane → DnLane) : (modDn a i f s).loops = s.loops := rfl
@[simp] theorem modDn_acts (s : State) (a i : Nat) (f : DnLane → DnLane) : (modDn a i f s).acts = s.acts := rfl
@[simp] theorem modDn_engs (s : State) (a i : Nat) (f : DnLane → DnLane) : (modDn a i f s).engs = s.engs := rfl
@[simp] theorem modDn_wOff (s : State) (a i : Nat) (f : DnLane → DnLane) : (modDn a i f s).wOff = s.wOff := rfl
theorem modDn_dn (s : State) (a i : Nat) (f : DnLane → DnLane) : (modDn a i f s).dn = tmod {} s.dn (4 * a + i) f := rfl
@[simp] theorem modDn_up (s : State) (a i : Nat) (f : DnLane → DnLane) : (modDn a i f s).up = s.up := rfl
@[simp] theorem modDn_lnks (s : State) (a i : Nat) (f : DnLane → DnLane) : (modDn a i f s).lnks = s.lnks := rfl
@[simp] theorem modDn_seqs (s : State) (a i : Nat) (f : DnLane → DnLane) : (modDn a i f s).seqs = s.seqs := rfl
@[simp] theorem modDn_seqMaster (s : State) (a i : Nat) (f : DnLane → DnLane) : (modDn a i f s).seqMaster = s.seqMaster := rfl
@[simp] theorem modDn_seqStaged (s : State) (a i : Nat) (f : DnLane → DnLane) : (modDn a i f s).seqStaged = s.seqStaged := rfl
@[simp] theorem modDn_pool (s : State) (a i : Nat) (f : DnLane → DnLane) : (modDn a i f s).pool = s.pool := rfl
@[simp] theorem modDn_poolOrd (s : State) (a i : Nat) (f : DnLane → DnLane) : (modDn a i f s).poolOrd = s.poolOrd := rfl
@[simp] theorem modDn_chains (s : State) (a i : Nat) (f : DnLane → DnLane) : (modDn a i f s).chains = s.chains := rfl
@[simp] theorem modDn_outqs (s : State) (a i : Nat) (f : DnLane → DnLane) : (modDn a i f s).outqs = s.outqs := rfl
@[simp] theorem modDn_ldpc (s : State) (a i : Nat) (f : DnLane → DnLane) : (modDn a i f s).ldpc = s.ldpc := rfl
@[simp] theorem modDn_dram (s : State) (a i : Nat) (f : DnLane → DnLane) : (modDn a i f s).dram = s.dram := rfl
@[simp] theorem modDn_buf (s : State) (a i : Nat) (f : DnLane → DnLane) : (modDn a i f s).buf = s.buf := rfl
@[simp] theorem modDn_flips (s : State) (a i : Nat) (f : DnLane → DnLane) : (modDn a i f s).flips = s.flips := rfl
@[simp] theorem modDn_nvs (s : State) (a i : Nat) (f : DnLane → DnLane) : (modDn a i f s).nvs = s.nvs := rfl
@[simp] theorem modDn_hif (s : State) (a i : Nat) (f : DnLane → DnLane) : (modDn a i f s).hif = s.hif := rfl
@[simp] theorem modDn_sec (s : State) (a i : Nat) (f : DnLane → DnLane) : (modDn a i f s).sec = s.sec := rfl
@[simp] theorem modDn_pins (s : State) (a i : Nat) (f : DnLane → DnLane) : (modDn a i f s).pins = s.pins := rfl
@[simp] theorem modDn_freeCtr (s : State) (a i : Nat) (f : DnLane → DnLane) : (modDn a i f s).freeCtr = s.freeCtr := rfl
@[simp] theorem modDn_pending (s : State) (a i : Nat) (f : DnLane → DnLane) : (modDn a i f s).pending = s.pending := rfl

/-! ### modUp -/

@[simp] theorem modUp_regs (s : State) (a i : Nat) (f : UpLane → UpLane) : (modUp a i f s).regs = s.regs := rfl
@[simp] theorem modUp_ctrs (s : State) (a i : Nat) (f : UpLane → UpLane) : (modUp a i f s).ctrs = s.ctrs := rfl
@[simp] theorem modUp_snap (s : State) (a i : Nat) (f : UpLane → UpLane) : (modUp a i f s).snap = s.snap := rfl
@[simp] theorem modUp_mem (s : State) (a i : Nat) (f : UpLane → UpLane) : (modUp a i f s).mem = s.mem := rfl
@[simp] theorem modUp_nv (s : State) (a i : Nat) (f : UpLane → UpLane) : (modUp a i f s).nv = s.nv := rfl
@[simp] theorem modUp_poison (s : State) (a i : Nat) (f : UpLane → UpLane) : (modUp a i f s).poison = s.poison := rfl
@[simp] theorem modUp_rdata (s : State) (a i : Nat) (f : UpLane → UpLane) : (modUp a i f s).rdata = s.rdata := rfl
@[simp] theorem modUp_busErr (s : State) (a i : Nat) (f : UpLane → UpLane) : (modUp a i f s).busErr = s.busErr := rfl
@[simp] theorem modUp_dataExc (s : State) (a i : Nat) (f : UpLane → UpLane) : (modUp a i f s).dataExc = s.dataExc := rfl
@[simp] theorem modUp_plat (s : State) (a i : Nat) (f : UpLane → UpLane) : (modUp a i f s).plat = s.plat := rfl
@[simp] theorem modUp_gh (s : State) (a i : Nat) (f : UpLane → UpLane) : (modUp a i f s).gh = s.gh := rfl
@[simp] theorem modUp_sdl (s : State) (a i : Nat) (f : UpLane → UpLane) : (modUp a i f s).sdl = s.sdl := rfl
@[simp] theorem modUp_ice (s : State) (a i : Nat) (f : UpLane → UpLane) : (modUp a i f s).ice = s.ice := rfl
@[simp] theorem modUp_cal (s : State) (a i : Nat) (f : UpLane → UpLane) : (modUp a i f s).cal = s.cal := rfl
@[simp] theorem modUp_ksk (s : State) (a i : Nat) (f : UpLane → UpLane) : (modUp a i f s).ksk = s.ksk := rfl
@[simp] theorem modUp_replies (s : State) (a i : Nat) (f : UpLane → UpLane) : (modUp a i f s).replies = s.replies := rfl
@[simp] theorem modUp_locks (s : State) (a i : Nat) (f : UpLane → UpLane) : (modUp a i f s).locks = s.locks := rfl
@[simp] theorem modUp_msix (s : State) (a i : Nat) (f : UpLane → UpLane) : (modUp a i f s).msix = s.msix := rfl
@[simp] theorem modUp_asm (s : State) (a i : Nat) (f : UpLane → UpLane) : (modUp a i f s).asm = s.asm := rfl
@[simp] theorem modUp_held (s : State) (a i : Nat) (f : UpLane → UpLane) : (modUp a i f s).held = s.held := rfl
@[simp] theorem modUp_dmaLast (s : State) (a i : Nat) (f : UpLane → UpLane) : (modUp a i f s).dmaLast = s.dmaLast := rfl
@[simp] theorem modUp_spn (s : State) (a i : Nat) (f : UpLane → UpLane) : (modUp a i f s).spn = s.spn := rfl
@[simp] theorem modUp_spnQueue (s : State) (a i : Nat) (f : UpLane → UpLane) : (modUp a i f s).spnQueue = s.spnQueue := rfl
@[simp] theorem modUp_loops (s : State) (a i : Nat) (f : UpLane → UpLane) : (modUp a i f s).loops = s.loops := rfl
@[simp] theorem modUp_acts (s : State) (a i : Nat) (f : UpLane → UpLane) : (modUp a i f s).acts = s.acts := rfl
@[simp] theorem modUp_engs (s : State) (a i : Nat) (f : UpLane → UpLane) : (modUp a i f s).engs = s.engs := rfl
@[simp] theorem modUp_wOff (s : State) (a i : Nat) (f : UpLane → UpLane) : (modUp a i f s).wOff = s.wOff := rfl
@[simp] theorem modUp_dn (s : State) (a i : Nat) (f : UpLane → UpLane) : (modUp a i f s).dn = s.dn := rfl
theorem modUp_up (s : State) (a i : Nat) (f : UpLane → UpLane) : (modUp a i f s).up = tmod {} s.up (4 * a + i) f := rfl
@[simp] theorem modUp_lnks (s : State) (a i : Nat) (f : UpLane → UpLane) : (modUp a i f s).lnks = s.lnks := rfl
@[simp] theorem modUp_seqs (s : State) (a i : Nat) (f : UpLane → UpLane) : (modUp a i f s).seqs = s.seqs := rfl
@[simp] theorem modUp_seqMaster (s : State) (a i : Nat) (f : UpLane → UpLane) : (modUp a i f s).seqMaster = s.seqMaster := rfl
@[simp] theorem modUp_seqStaged (s : State) (a i : Nat) (f : UpLane → UpLane) : (modUp a i f s).seqStaged = s.seqStaged := rfl
@[simp] theorem modUp_pool (s : State) (a i : Nat) (f : UpLane → UpLane) : (modUp a i f s).pool = s.pool := rfl
@[simp] theorem modUp_poolOrd (s : State) (a i : Nat) (f : UpLane → UpLane) : (modUp a i f s).poolOrd = s.poolOrd := rfl
@[simp] theorem modUp_chains (s : State) (a i : Nat) (f : UpLane → UpLane) : (modUp a i f s).chains = s.chains := rfl
@[simp] theorem modUp_outqs (s : State) (a i : Nat) (f : UpLane → UpLane) : (modUp a i f s).outqs = s.outqs := rfl
@[simp] theorem modUp_ldpc (s : State) (a i : Nat) (f : UpLane → UpLane) : (modUp a i f s).ldpc = s.ldpc := rfl
@[simp] theorem modUp_dram (s : State) (a i : Nat) (f : UpLane → UpLane) : (modUp a i f s).dram = s.dram := rfl
@[simp] theorem modUp_buf (s : State) (a i : Nat) (f : UpLane → UpLane) : (modUp a i f s).buf = s.buf := rfl
@[simp] theorem modUp_flips (s : State) (a i : Nat) (f : UpLane → UpLane) : (modUp a i f s).flips = s.flips := rfl
@[simp] theorem modUp_nvs (s : State) (a i : Nat) (f : UpLane → UpLane) : (modUp a i f s).nvs = s.nvs := rfl
@[simp] theorem modUp_hif (s : State) (a i : Nat) (f : UpLane → UpLane) : (modUp a i f s).hif = s.hif := rfl
@[simp] theorem modUp_sec (s : State) (a i : Nat) (f : UpLane → UpLane) : (modUp a i f s).sec = s.sec := rfl
@[simp] theorem modUp_pins (s : State) (a i : Nat) (f : UpLane → UpLane) : (modUp a i f s).pins = s.pins := rfl
@[simp] theorem modUp_freeCtr (s : State) (a i : Nat) (f : UpLane → UpLane) : (modUp a i f s).freeCtr = s.freeCtr := rfl
@[simp] theorem modUp_pending (s : State) (a i : Nat) (f : UpLane → UpLane) : (modUp a i f s).pending = s.pending := rfl

/-! ### setKq -/

@[simp] theorem setKq_regs (s : State) (c e : Nat) (q : List KItem) : (setKq c e q s).regs = s.regs := rfl
@[simp] theorem setKq_ctrs (s : State) (c e : Nat) (q : List KItem) : (setKq c e q s).ctrs = s.ctrs := rfl
@[simp] theorem setKq_snap (s : State) (c e : Nat) (q : List KItem) : (setKq c e q s).snap = s.snap := rfl
@[simp] theorem setKq_mem (s : State) (c e : Nat) (q : List KItem) : (setKq c e q s).mem = s.mem := rfl
@[simp] theorem setKq_nv (s : State) (c e : Nat) (q : List KItem) : (setKq c e q s).nv = s.nv := rfl
@[simp] theorem setKq_poison (s : State) (c e : Nat) (q : List KItem) : (setKq c e q s).poison = s.poison := rfl
@[simp] theorem setKq_rdata (s : State) (c e : Nat) (q : List KItem) : (setKq c e q s).rdata = s.rdata := rfl
@[simp] theorem setKq_busErr (s : State) (c e : Nat) (q : List KItem) : (setKq c e q s).busErr = s.busErr := rfl
@[simp] theorem setKq_dataExc (s : State) (c e : Nat) (q : List KItem) : (setKq c e q s).dataExc = s.dataExc := rfl
@[simp] theorem setKq_plat (s : State) (c e : Nat) (q : List KItem) : (setKq c e q s).plat = s.plat := rfl
@[simp] theorem setKq_gh (s : State) (c e : Nat) (q : List KItem) : (setKq c e q s).gh = s.gh := rfl
@[simp] theorem setKq_sdl (s : State) (c e : Nat) (q : List KItem) : (setKq c e q s).sdl = s.sdl := rfl
@[simp] theorem setKq_ice (s : State) (c e : Nat) (q : List KItem) : (setKq c e q s).ice = s.ice := rfl
@[simp] theorem setKq_cal (s : State) (c e : Nat) (q : List KItem) : (setKq c e q s).cal = s.cal := rfl
theorem setKq_ksk (s : State) (c e : Nat) (q : List KItem) : (setKq c e q s).ksk = tput [] s.ksk (2 * c + e) q := rfl
@[simp] theorem setKq_replies (s : State) (c e : Nat) (q : List KItem) : (setKq c e q s).replies = s.replies := rfl
@[simp] theorem setKq_locks (s : State) (c e : Nat) (q : List KItem) : (setKq c e q s).locks = s.locks := rfl
@[simp] theorem setKq_msix (s : State) (c e : Nat) (q : List KItem) : (setKq c e q s).msix = s.msix := rfl
@[simp] theorem setKq_asm (s : State) (c e : Nat) (q : List KItem) : (setKq c e q s).asm = s.asm := rfl
@[simp] theorem setKq_held (s : State) (c e : Nat) (q : List KItem) : (setKq c e q s).held = s.held := rfl
@[simp] theorem setKq_dmaLast (s : State) (c e : Nat) (q : List KItem) : (setKq c e q s).dmaLast = s.dmaLast := rfl
@[simp] theorem setKq_spn (s : State) (c e : Nat) (q : List KItem) : (setKq c e q s).spn = s.spn := rfl
@[simp] theorem setKq_spnQueue (s : State) (c e : Nat) (q : List KItem) : (setKq c e q s).spnQueue = s.spnQueue := rfl
@[simp] theorem setKq_loops (s : State) (c e : Nat) (q : List KItem) : (setKq c e q s).loops = s.loops := rfl
@[simp] theorem setKq_acts (s : State) (c e : Nat) (q : List KItem) : (setKq c e q s).acts = s.acts := rfl
@[simp] theorem setKq_engs (s : State) (c e : Nat) (q : List KItem) : (setKq c e q s).engs = s.engs := rfl
@[simp] theorem setKq_wOff (s : State) (c e : Nat) (q : List KItem) : (setKq c e q s).wOff = s.wOff := rfl
@[simp] theorem setKq_dn (s : State) (c e : Nat) (q : List KItem) : (setKq c e q s).dn = s.dn := rfl
@[simp] theorem setKq_up (s : State) (c e : Nat) (q : List KItem) : (setKq c e q s).up = s.up := rfl
@[simp] theorem setKq_lnks (s : State) (c e : Nat) (q : List KItem) : (setKq c e q s).lnks = s.lnks := rfl
@[simp] theorem setKq_seqs (s : State) (c e : Nat) (q : List KItem) : (setKq c e q s).seqs = s.seqs := rfl
@[simp] theorem setKq_seqMaster (s : State) (c e : Nat) (q : List KItem) : (setKq c e q s).seqMaster = s.seqMaster := rfl
@[simp] theorem setKq_seqStaged (s : State) (c e : Nat) (q : List KItem) : (setKq c e q s).seqStaged = s.seqStaged := rfl
@[simp] theorem setKq_pool (s : State) (c e : Nat) (q : List KItem) : (setKq c e q s).pool = s.pool := rfl
@[simp] theorem setKq_poolOrd (s : State) (c e : Nat) (q : List KItem) : (setKq c e q s).poolOrd = s.poolOrd := rfl
@[simp] theorem setKq_chains (s : State) (c e : Nat) (q : List KItem) : (setKq c e q s).chains = s.chains := rfl
@[simp] theorem setKq_outqs (s : State) (c e : Nat) (q : List KItem) : (setKq c e q s).outqs = s.outqs := rfl
@[simp] theorem setKq_ldpc (s : State) (c e : Nat) (q : List KItem) : (setKq c e q s).ldpc = s.ldpc := rfl
@[simp] theorem setKq_dram (s : State) (c e : Nat) (q : List KItem) : (setKq c e q s).dram = s.dram := rfl
@[simp] theorem setKq_buf (s : State) (c e : Nat) (q : List KItem) : (setKq c e q s).buf = s.buf := rfl
@[simp] theorem setKq_flips (s : State) (c e : Nat) (q : List KItem) : (setKq c e q s).flips = s.flips := rfl
@[simp] theorem setKq_nvs (s : State) (c e : Nat) (q : List KItem) : (setKq c e q s).nvs = s.nvs := rfl
@[simp] theorem setKq_hif (s : State) (c e : Nat) (q : List KItem) : (setKq c e q s).hif = s.hif := rfl
@[simp] theorem setKq_sec (s : State) (c e : Nat) (q : List KItem) : (setKq c e q s).sec = s.sec := rfl
@[simp] theorem setKq_pins (s : State) (c e : Nat) (q : List KItem) : (setKq c e q s).pins = s.pins := rfl
@[simp] theorem setKq_freeCtr (s : State) (c e : Nat) (q : List KItem) : (setKq c e q s).freeCtr = s.freeCtr := rfl
@[simp] theorem setKq_pending (s : State) (c e : Nat) (q : List KItem) : (setKq c e q s).pending = s.pending := rfl

/-! ### setStile -/

@[simp] theorem setStile_regs (s : State) (i : Nat) (l : LockSt) : (setStile i l s).regs = s.regs := rfl
@[simp] theorem setStile_ctrs (s : State) (i : Nat) (l : LockSt) : (setStile i l s).ctrs = s.ctrs := rfl
@[simp] theorem setStile_snap (s : State) (i : Nat) (l : LockSt) : (setStile i l s).snap = s.snap := rfl
@[simp] theorem setStile_mem (s : State) (i : Nat) (l : LockSt) : (setStile i l s).mem = s.mem := rfl
@[simp] theorem setStile_nv (s : State) (i : Nat) (l : LockSt) : (setStile i l s).nv = s.nv := rfl
@[simp] theorem setStile_poison (s : State) (i : Nat) (l : LockSt) : (setStile i l s).poison = s.poison := rfl
@[simp] theorem setStile_rdata (s : State) (i : Nat) (l : LockSt) : (setStile i l s).rdata = s.rdata := rfl
@[simp] theorem setStile_busErr (s : State) (i : Nat) (l : LockSt) : (setStile i l s).busErr = s.busErr := rfl
@[simp] theorem setStile_dataExc (s : State) (i : Nat) (l : LockSt) : (setStile i l s).dataExc = s.dataExc := rfl
@[simp] theorem setStile_plat (s : State) (i : Nat) (l : LockSt) : (setStile i l s).plat = s.plat := rfl
@[simp] theorem setStile_gh (s : State) (i : Nat) (l : LockSt) : (setStile i l s).gh = s.gh := rfl
@[simp] theorem setStile_sdl (s : State) (i : Nat) (l : LockSt) : (setStile i l s).sdl = s.sdl := rfl
@[simp] theorem setStile_ice (s : State) (i : Nat) (l : LockSt) : (setStile i l s).ice = s.ice := rfl
@[simp] theorem setStile_cal (s : State) (i : Nat) (l : LockSt) : (setStile i l s).cal = s.cal := rfl
@[simp] theorem setStile_ksk (s : State) (i : Nat) (l : LockSt) : (setStile i l s).ksk = s.ksk := rfl
@[simp] theorem setStile_replies (s : State) (i : Nat) (l : LockSt) : (setStile i l s).replies = s.replies := rfl
theorem setStile_locks (s : State) (i : Nat) (l : LockSt) : (setStile i l s).locks = tput {} s.locks i l := rfl
@[simp] theorem setStile_msix (s : State) (i : Nat) (l : LockSt) : (setStile i l s).msix = s.msix := rfl
@[simp] theorem setStile_asm (s : State) (i : Nat) (l : LockSt) : (setStile i l s).asm = s.asm := rfl
@[simp] theorem setStile_held (s : State) (i : Nat) (l : LockSt) : (setStile i l s).held = s.held := rfl
@[simp] theorem setStile_dmaLast (s : State) (i : Nat) (l : LockSt) : (setStile i l s).dmaLast = s.dmaLast := rfl
@[simp] theorem setStile_spn (s : State) (i : Nat) (l : LockSt) : (setStile i l s).spn = s.spn := rfl
@[simp] theorem setStile_spnQueue (s : State) (i : Nat) (l : LockSt) : (setStile i l s).spnQueue = s.spnQueue := rfl
@[simp] theorem setStile_loops (s : State) (i : Nat) (l : LockSt) : (setStile i l s).loops = s.loops := rfl
@[simp] theorem setStile_acts (s : State) (i : Nat) (l : LockSt) : (setStile i l s).acts = s.acts := rfl
@[simp] theorem setStile_engs (s : State) (i : Nat) (l : LockSt) : (setStile i l s).engs = s.engs := rfl
@[simp] theorem setStile_wOff (s : State) (i : Nat) (l : LockSt) : (setStile i l s).wOff = s.wOff := rfl
@[simp] theorem setStile_dn (s : State) (i : Nat) (l : LockSt) : (setStile i l s).dn = s.dn := rfl
@[simp] theorem setStile_up (s : State) (i : Nat) (l : LockSt) : (setStile i l s).up = s.up := rfl
@[simp] theorem setStile_lnks (s : State) (i : Nat) (l : LockSt) : (setStile i l s).lnks = s.lnks := rfl
@[simp] theorem setStile_seqs (s : State) (i : Nat) (l : LockSt) : (setStile i l s).seqs = s.seqs := rfl
@[simp] theorem setStile_seqMaster (s : State) (i : Nat) (l : LockSt) : (setStile i l s).seqMaster = s.seqMaster := rfl
@[simp] theorem setStile_seqStaged (s : State) (i : Nat) (l : LockSt) : (setStile i l s).seqStaged = s.seqStaged := rfl
@[simp] theorem setStile_pool (s : State) (i : Nat) (l : LockSt) : (setStile i l s).pool = s.pool := rfl
@[simp] theorem setStile_poolOrd (s : State) (i : Nat) (l : LockSt) : (setStile i l s).poolOrd = s.poolOrd := rfl
@[simp] theorem setStile_chains (s : State) (i : Nat) (l : LockSt) : (setStile i l s).chains = s.chains := rfl
@[simp] theorem setStile_outqs (s : State) (i : Nat) (l : LockSt) : (setStile i l s).outqs = s.outqs := rfl
@[simp] theorem setStile_ldpc (s : State) (i : Nat) (l : LockSt) : (setStile i l s).ldpc = s.ldpc := rfl
@[simp] theorem setStile_dram (s : State) (i : Nat) (l : LockSt) : (setStile i l s).dram = s.dram := rfl
@[simp] theorem setStile_buf (s : State) (i : Nat) (l : LockSt) : (setStile i l s).buf = s.buf := rfl
@[simp] theorem setStile_flips (s : State) (i : Nat) (l : LockSt) : (setStile i l s).flips = s.flips := rfl
@[simp] theorem setStile_nvs (s : State) (i : Nat) (l : LockSt) : (setStile i l s).nvs = s.nvs := rfl
@[simp] theorem setStile_hif (s : State) (i : Nat) (l : LockSt) : (setStile i l s).hif = s.hif := rfl
@[simp] theorem setStile_sec (s : State) (i : Nat) (l : LockSt) : (setStile i l s).sec = s.sec := rfl
@[simp] theorem setStile_pins (s : State) (i : Nat) (l : LockSt) : (setStile i l s).pins = s.pins := rfl
@[simp] theorem setStile_freeCtr (s : State) (i : Nat) (l : LockSt) : (setStile i l s).freeCtr = s.freeCtr := rfl
@[simp] theorem setStile_pending (s : State) (i : Nat) (l : LockSt) : (setStile i l s).pending = s.pending := rfl

end Sys2Proof.Machine
end

