-- ==== Sys2Proof/Laws/Shared.lean ====
section
/-! SUPPORT. What the operations that families share leave unchanged, one lemma for each operation, so that no proof unfolds one. -/

namespace Sys2Proof.Machine

/-- What each step of an operation over a list leaves alone, the whole leaves alone. -/
theorem each_same {α β : Type} (p : State → β) (l : List α) (f : α → State → State) (s : State) (hf : ∀ x t, p (f x t) = p t) :
    p (each l f s) = p s := by
  induction l generalizing s with
  | nil => rfl
  | cons x r ih => rw [each, ih, hf]

/-- What an operation leaves alone, it leaves alone under a condition. -/
theorem onlyIf_same {β : Type} (p : State → β) (c : Bool) (f : State → State) (s : State) (hf : p (f s) = p s) : p (onlyIf c f s) = p s := by
  unfold onlyIf; split
  · exact hf
  · rfl

/-- A Lodge record changes registers and what the Gatehouse keeps, and nothing else (R445–R448). -/
theorem lodgeWrite_only (s : State) (c : Cls) (code src detail missed : Nat) (inj : Bool) :
    ∃ r g, lodgeWrite c code src detail missed inj s = { s with regs := r, gh := g } := by
  have h : ∀ (l : List Nat) (t : State), (∃ r g, t = { s with regs := r, gh := g }) →
      ∃ r g, each l (fun k t => t.flag (GH_NOTICE k) F_GH_NOTICE_PENDING) t = { s with regs := r, gh := g } := by
    intro l
    induction l with
    | nil => exact fun _ ht => ht
    | cons x l ih =>
      rintro t ⟨r, g, rfl⟩
      exact ih _ ⟨_, _, rfl⟩
  unfold lodgeWrite; dsimp only
  split
  · exact h _ _ ⟨_, _, rfl⟩
  · exact ⟨_, _, rfl⟩

/-- A free value is drawn: the counter goes on. -/
@[simp] theorem fresh_frame (s : State) :
    (s.fresh.2).regs = s.regs ∧ (s.fresh.2).ctrs = s.ctrs ∧ (s.fresh.2).snap = s.snap ∧ (s.fresh.2).mem = s.mem ∧ (s.fresh.2).nv = s.nv ∧
    (s.fresh.2).poison = s.poison ∧ (s.fresh.2).rdata = s.rdata ∧ (s.fresh.2).busErr = s.busErr ∧ (s.fresh.2).dataExc = s.dataExc ∧ (s.fresh.2).plat =
    s.plat ∧ (s.fresh.2).gh = s.gh ∧ (s.fresh.2).sdl = s.sdl ∧ (s.fresh.2).ice = s.ice ∧ (s.fresh.2).cal = s.cal ∧ (s.fresh.2).ksk = s.ksk ∧
    (s.fresh.2).replies = s.replies ∧ (s.fresh.2).locks = s.locks ∧ (s.fresh.2).msix = s.msix ∧ (s.fresh.2).asm = s.asm ∧ (s.fresh.2).held = s.held ∧
    (s.fresh.2).dmaLast = s.dmaLast ∧ (s.fresh.2).spn = s.spn ∧ (s.fresh.2).spnQueue = s.spnQueue ∧ (s.fresh.2).loops = s.loops ∧ (s.fresh.2).acts =
    s.acts ∧ (s.fresh.2).engs = s.engs ∧ (s.fresh.2).wOff = s.wOff ∧ (s.fresh.2).dn = s.dn ∧ (s.fresh.2).up = s.up ∧ (s.fresh.2).lnks = s.lnks ∧
    (s.fresh.2).seqs = s.seqs ∧ (s.fresh.2).seqMaster = s.seqMaster ∧ (s.fresh.2).seqStaged = s.seqStaged ∧ (s.fresh.2).pool = s.pool ∧
    (s.fresh.2).poolOrd = s.poolOrd ∧ (s.fresh.2).chains = s.chains ∧ (s.fresh.2).outqs = s.outqs ∧ (s.fresh.2).ldpc = s.ldpc ∧ (s.fresh.2).dram = s.dram
    ∧ (s.fresh.2).buf = s.buf ∧ (s.fresh.2).flips = s.flips ∧ (s.fresh.2).nvs = s.nvs ∧ (s.fresh.2).hif = s.hif ∧ (s.fresh.2).sec = s.sec ∧
    (s.fresh.2).pins = s.pins ∧ (s.fresh.2).pending = s.pending := by
  unfold State.fresh; simp

/-- An emitted event changes its entry of the event table alone (R463, R464). -/
@[simp] theorem emit_frame (s : State) (code : Nat) :
    (emit code s).snap = s.snap ∧ (emit code s).mem = s.mem ∧ (emit code s).nv = s.nv ∧ (emit code s).poison = s.poison ∧ (emit code s).rdata = s.rdata ∧
    (emit code s).busErr = s.busErr ∧ (emit code s).dataExc = s.dataExc ∧ (emit code s).plat = s.plat ∧ (emit code s).gh = s.gh ∧ (emit code s).sdl =
    s.sdl ∧ (emit code s).ice = s.ice ∧ (emit code s).cal = s.cal ∧ (emit code s).ksk = s.ksk ∧ (emit code s).replies = s.replies ∧ (emit code s).locks =
    s.locks ∧ (emit code s).msix = s.msix ∧ (emit code s).asm = s.asm ∧ (emit code s).held = s.held ∧ (emit code s).dmaLast = s.dmaLast ∧ (emit code
    s).spn = s.spn ∧ (emit code s).spnQueue = s.spnQueue ∧ (emit code s).loops = s.loops ∧ (emit code s).acts = s.acts ∧ (emit code s).engs = s.engs ∧
    (emit code s).wOff = s.wOff ∧ (emit code s).dn = s.dn ∧ (emit code s).up = s.up ∧ (emit code s).lnks = s.lnks ∧ (emit code s).seqs = s.seqs ∧ (emit
    code s).seqMaster = s.seqMaster ∧ (emit code s).seqStaged = s.seqStaged ∧ (emit code s).pool = s.pool ∧ (emit code s).poolOrd = s.poolOrd ∧ (emit code
    s).chains = s.chains ∧ (emit code s).outqs = s.outqs ∧ (emit code s).ldpc = s.ldpc ∧ (emit code s).dram = s.dram ∧ (emit code s).buf = s.buf ∧ (emit
    code s).flips = s.flips ∧ (emit code s).nvs = s.nvs ∧ (emit code s).hif = s.hif ∧ (emit code s).sec = s.sec ∧ (emit code s).pins = s.pins ∧ (emit code
    s).freeCtr = s.freeCtr ∧ (emit code s).pending = s.pending := by
  unfold emit; dsimp only
  split <;> exact ⟨rfl, rfl, rfl, rfl, rfl, rfl, rfl, rfl, rfl, rfl, rfl, rfl, rfl, rfl, rfl, rfl, rfl, rfl, rfl, rfl, rfl, rfl, rfl, rfl, rfl, rfl, rfl, rfl, rfl, rfl, rfl, rfl, rfl, rfl, rfl, rfl, rfl, rfl, rfl, rfl, rfl, rfl, rfl, rfl, rfl⟩

/-- A Lodge record (R445–R448). -/
@[simp] theorem lodgeWrite_frame (s : State) (c : Cls) (code src detail missed : Nat) (inj : Bool) :
    (lodgeWrite c code src detail missed inj s).ctrs = s.ctrs ∧ (lodgeWrite c code src detail missed inj s).snap = s.snap ∧ (lodgeWrite c code src detail
    missed inj s).mem = s.mem ∧ (lodgeWrite c code src detail missed inj s).nv = s.nv ∧ (lodgeWrite c code src detail missed inj s).poison = s.poison ∧
    (lodgeWrite c code src detail missed inj s).rdata = s.rdata ∧ (lodgeWrite c code src detail missed inj s).busErr = s.busErr ∧ (lodgeWrite c code src
    detail missed inj s).dataExc = s.dataExc ∧ (lodgeWrite c code src detail missed inj s).plat = s.plat ∧ (lodgeWrite c code src detail missed inj s).sdl
    = s.sdl ∧ (lodgeWrite c code src detail missed inj s).ice = s.ice ∧ (lodgeWrite c code src detail missed inj s).cal = s.cal ∧ (lodgeWrite c code src
    detail missed inj s).ksk = s.ksk ∧ (lodgeWrite c code src detail missed inj s).replies = s.replies ∧ (lodgeWrite c code src detail missed inj s).locks
    = s.locks ∧ (lodgeWrite c code src detail missed inj s).msix = s.msix ∧ (lodgeWrite c code src detail missed inj s).asm = s.asm ∧ (lodgeWrite c code
    src detail missed inj s).held = s.held ∧ (lodgeWrite c code src detail missed inj s).dmaLast = s.dmaLast ∧ (lodgeWrite c code src detail missed inj
    s).spn = s.spn ∧ (lodgeWrite c code src detail missed inj s).spnQueue = s.spnQueue ∧ (lodgeWrite c code src detail missed inj s).loops = s.loops ∧
    (lodgeWrite c code src detail missed inj s).acts = s.acts ∧ (lodgeWrite c code src detail missed inj s).engs = s.engs ∧ (lodgeWrite c code src detail
    missed inj s).wOff = s.wOff ∧ (lodgeWrite c code src detail missed inj s).dn = s.dn ∧ (lodgeWrite c code src detail missed inj s).up = s.up ∧
    (lodgeWrite c code src detail missed inj s).lnks = s.lnks ∧ (lodgeWrite c code src detail missed inj s).seqs = s.seqs ∧ (lodgeWrite c code src detail
    missed inj s).seqMaster = s.seqMaster ∧ (lodgeWrite c code src detail missed inj s).seqStaged = s.seqStaged ∧ (lodgeWrite c code src detail missed inj
    s).pool = s.pool ∧ (lodgeWrite c code src detail missed inj s).poolOrd = s.poolOrd ∧ (lodgeWrite c code src detail missed inj s).chains = s.chains ∧
    (lodgeWrite c code src detail missed inj s).outqs = s.outqs ∧ (lodgeWrite c code src detail missed inj s).ldpc = s.ldpc ∧ (lodgeWrite c code src
    detail missed inj s).dram = s.dram ∧ (lodgeWrite c code src detail missed inj s).buf = s.buf ∧ (lodgeWrite c code src detail missed inj s).flips =
    s.flips ∧ (lodgeWrite c code src detail missed inj s).nvs = s.nvs ∧ (lodgeWrite c code src detail missed inj s).hif = s.hif ∧ (lodgeWrite c code src
    detail missed inj s).sec = s.sec ∧ (lodgeWrite c code src detail missed inj s).pins = s.pins ∧ (lodgeWrite c code src detail missed inj s).freeCtr =
    s.freeCtr ∧ (lodgeWrite c code src detail missed inj s).pending = s.pending := by
  obtain ⟨r, g, h⟩ := lodgeWrite_only s c code src detail missed inj
  rw [h]
  exact ⟨rfl, rfl, rfl, rfl, rfl, rfl, rfl, rfl, rfl, rfl, rfl, rfl, rfl, rfl, rfl, rfl, rfl, rfl, rfl, rfl, rfl, rfl, rfl, rfl, rfl, rfl, rfl, rfl, rfl, rfl, rfl, rfl, rfl, rfl, rfl, rfl, rfl, rfl, rfl, rfl, rfl, rfl, rfl, rfl, rfl⟩

/-- A condition reported to the Lodge, recorded or counted as missed (R445). -/
@[simp] theorem lodge_frame (s : State) (c : Cls) (code src detail : Nat) (inj : Bool) :
    (lodge c code src detail inj s).snap = s.snap ∧ (lodge c code src detail inj s).mem = s.mem ∧ (lodge c code src detail inj s).nv = s.nv ∧ (lodge c
    code src detail inj s).poison = s.poison ∧ (lodge c code src detail inj s).rdata = s.rdata ∧ (lodge c code src detail inj s).busErr = s.busErr ∧
    (lodge c code src detail inj s).dataExc = s.dataExc ∧ (lodge c code src detail inj s).plat = s.plat ∧ (lodge c code src detail inj s).sdl = s.sdl ∧
    (lodge c code src detail inj s).ice = s.ice ∧ (lodge c code src detail inj s).cal = s.cal ∧ (lodge c code src detail inj s).ksk = s.ksk ∧ (lodge c
    code src detail inj s).replies = s.replies ∧ (lodge c code src detail inj s).locks = s.locks ∧ (lodge c code src detail inj s).msix = s.msix ∧ (lodge
    c code src detail inj s).asm = s.asm ∧ (lodge c code src detail inj s).held = s.held ∧ (lodge c code src detail inj s).dmaLast = s.dmaLast ∧ (lodge c
    code src detail inj s).spn = s.spn ∧ (lodge c code src detail inj s).spnQueue = s.spnQueue ∧ (lodge c code src detail inj s).loops = s.loops ∧ (lodge
    c code src detail inj s).acts = s.acts ∧ (lodge c code src detail inj s).engs = s.engs ∧ (lodge c code src detail inj s).wOff = s.wOff ∧ (lodge c code
    src detail inj s).dn = s.dn ∧ (lodge c code src detail inj s).up = s.up ∧ (lodge c code src detail inj s).lnks = s.lnks ∧ (lodge c code src detail inj
    s).seqs = s.seqs ∧ (lodge c code src detail inj s).seqMaster = s.seqMaster ∧ (lodge c code src detail inj s).seqStaged = s.seqStaged ∧ (lodge c code
    src detail inj s).pool = s.pool ∧ (lodge c code src detail inj s).poolOrd = s.poolOrd ∧ (lodge c code src detail inj s).chains = s.chains ∧ (lodge c
    code src detail inj s).outqs = s.outqs ∧ (lodge c code src detail inj s).ldpc = s.ldpc ∧ (lodge c code src detail inj s).dram = s.dram ∧ (lodge c code
    src detail inj s).buf = s.buf ∧ (lodge c code src detail inj s).flips = s.flips ∧ (lodge c code src detail inj s).nvs = s.nvs ∧ (lodge c code src
    detail inj s).hif = s.hif ∧ (lodge c code src detail inj s).sec = s.sec ∧ (lodge c code src detail inj s).pins = s.pins ∧ (lodge c code src detail inj
    s).freeCtr = s.freeCtr ∧ (lodge c code src detail inj s).pending = s.pending := by
  unfold lodge; try dsimp only
  repeat' split
  all_goals simp

/-- The speed source of a spindle state. -/
@[simp] theorem showSpeed_frame (s : State) (h n : Nat) :
    (showSpeed h n s).ctrs = s.ctrs ∧ (showSpeed h n s).snap = s.snap ∧ (showSpeed h n s).mem = s.mem ∧ (showSpeed h n s).nv = s.nv ∧ (showSpeed h n
    s).poison = s.poison ∧ (showSpeed h n s).rdata = s.rdata ∧ (showSpeed h n s).busErr = s.busErr ∧ (showSpeed h n s).dataExc = s.dataExc ∧ (showSpeed h
    n s).plat = s.plat ∧ (showSpeed h n s).gh = s.gh ∧ (showSpeed h n s).sdl = s.sdl ∧ (showSpeed h n s).ice = s.ice ∧ (showSpeed h n s).cal = s.cal ∧
    (showSpeed h n s).ksk = s.ksk ∧ (showSpeed h n s).replies = s.replies ∧ (showSpeed h n s).locks = s.locks ∧ (showSpeed h n s).msix = s.msix ∧
    (showSpeed h n s).asm = s.asm ∧ (showSpeed h n s).held = s.held ∧ (showSpeed h n s).dmaLast = s.dmaLast ∧ (showSpeed h n s).spn = s.spn ∧ (showSpeed h
    n s).spnQueue = s.spnQueue ∧ (showSpeed h n s).loops = s.loops ∧ (showSpeed h n s).acts = s.acts ∧ (showSpeed h n s).engs = s.engs ∧ (showSpeed h n
    s).wOff = s.wOff ∧ (showSpeed h n s).dn = s.dn ∧ (showSpeed h n s).up = s.up ∧ (showSpeed h n s).lnks = s.lnks ∧ (showSpeed h n s).seqs = s.seqs ∧
    (showSpeed h n s).seqMaster = s.seqMaster ∧ (showSpeed h n s).seqStaged = s.seqStaged ∧ (showSpeed h n s).pool = s.pool ∧ (showSpeed h n s).poolOrd =
    s.poolOrd ∧ (showSpeed h n s).chains = s.chains ∧ (showSpeed h n s).outqs = s.outqs ∧ (showSpeed h n s).ldpc = s.ldpc ∧ (showSpeed h n s).dram =
    s.dram ∧ (showSpeed h n s).buf = s.buf ∧ (showSpeed h n s).flips = s.flips ∧ (showSpeed h n s).nvs = s.nvs ∧ (showSpeed h n s).hif = s.hif ∧
    (showSpeed h n s).sec = s.sec ∧ (showSpeed h n s).pins = s.pins ∧ (showSpeed h n s).freeCtr = s.freeCtr ∧ (showSpeed h n s).pending = s.pending := by
  unfold showSpeed; try dsimp only
  repeat' split
  all_goals simp

/-- The on-time of the limit regulator at ALIGNING (R53). -/
@[simp] theorem limitStart_frame (s : State) (h n : Nat) :
    (limitStart h n s).regs = s.regs ∧ (limitStart h n s).ctrs = s.ctrs ∧ (limitStart h n s).snap = s.snap ∧ (limitStart h n s).mem = s.mem ∧ (limitStart
    h n s).nv = s.nv ∧ (limitStart h n s).poison = s.poison ∧ (limitStart h n s).rdata = s.rdata ∧ (limitStart h n s).busErr = s.busErr ∧ (limitStart h n
    s).dataExc = s.dataExc ∧ (limitStart h n s).plat = s.plat ∧ (limitStart h n s).gh = s.gh ∧ (limitStart h n s).sdl = s.sdl ∧ (limitStart h n s).ice =
    s.ice ∧ (limitStart h n s).cal = s.cal ∧ (limitStart h n s).ksk = s.ksk ∧ (limitStart h n s).replies = s.replies ∧ (limitStart h n s).locks = s.locks
    ∧ (limitStart h n s).msix = s.msix ∧ (limitStart h n s).asm = s.asm ∧ (limitStart h n s).held = s.held ∧ (limitStart h n s).dmaLast = s.dmaLast ∧
    (limitStart h n s).spnQueue = s.spnQueue ∧ (limitStart h n s).loops = s.loops ∧ (limitStart h n s).acts = s.acts ∧ (limitStart h n s).engs = s.engs ∧
    (limitStart h n s).wOff = s.wOff ∧ (limitStart h n s).dn = s.dn ∧ (limitStart h n s).up = s.up ∧ (limitStart h n s).lnks = s.lnks ∧ (limitStart h n
    s).seqs = s.seqs ∧ (limitStart h n s).seqMaster = s.seqMaster ∧ (limitStart h n s).seqStaged = s.seqStaged ∧ (limitStart h n s).pool = s.pool ∧
    (limitStart h n s).poolOrd = s.poolOrd ∧ (limitStart h n s).chains = s.chains ∧ (limitStart h n s).outqs = s.outqs ∧ (limitStart h n s).ldpc = s.ldpc
    ∧ (limitStart h n s).dram = s.dram ∧ (limitStart h n s).buf = s.buf ∧ (limitStart h n s).flips = s.flips ∧ (limitStart h n s).nvs = s.nvs ∧
    (limitStart h n s).hif = s.hif ∧ (limitStart h n s).sec = s.sec ∧ (limitStart h n s).pins = s.pins ∧ (limitStart h n s).freeCtr = s.freeCtr ∧
    (limitStart h n s).pending = s.pending := by
  unfold limitStart; try dsimp only
  repeat' split
  all_goals simp

/-- A spindle enters a state. -/
@[simp] theorem spnGo_frame (s : State) (h n cause : Nat) :
    (spnGo h n cause s).ctrs = s.ctrs ∧ (spnGo h n cause s).snap = s.snap ∧ (spnGo h n cause s).mem = s.mem ∧ (spnGo h n cause s).nv = s.nv ∧ (spnGo h n
    cause s).poison = s.poison ∧ (spnGo h n cause s).rdata = s.rdata ∧ (spnGo h n cause s).busErr = s.busErr ∧ (spnGo h n cause s).dataExc = s.dataExc ∧
    (spnGo h n cause s).plat = s.plat ∧ (spnGo h n cause s).gh = s.gh ∧ (spnGo h n cause s).sdl = s.sdl ∧ (spnGo h n cause s).ice = s.ice ∧ (spnGo h n
    cause s).cal = s.cal ∧ (spnGo h n cause s).ksk = s.ksk ∧ (spnGo h n cause s).replies = s.replies ∧ (spnGo h n cause s).locks = s.locks ∧ (spnGo h n
    cause s).msix = s.msix ∧ (spnGo h n cause s).asm = s.asm ∧ (spnGo h n cause s).held = s.held ∧ (spnGo h n cause s).dmaLast = s.dmaLast ∧ (spnGo h n
    cause s).spnQueue = s.spnQueue ∧ (spnGo h n cause s).loops = s.loops ∧ (spnGo h n cause s).acts = s.acts ∧ (spnGo h n cause s).engs = s.engs ∧ (spnGo
    h n cause s).wOff = s.wOff ∧ (spnGo h n cause s).dn = s.dn ∧ (spnGo h n cause s).up = s.up ∧ (spnGo h n cause s).lnks = s.lnks ∧ (spnGo h n cause
    s).seqs = s.seqs ∧ (spnGo h n cause s).seqMaster = s.seqMaster ∧ (spnGo h n cause s).seqStaged = s.seqStaged ∧ (spnGo h n cause s).pool = s.pool ∧
    (spnGo h n cause s).poolOrd = s.poolOrd ∧ (spnGo h n cause s).chains = s.chains ∧ (spnGo h n cause s).outqs = s.outqs ∧ (spnGo h n cause s).ldpc =
    s.ldpc ∧ (spnGo h n cause s).dram = s.dram ∧ (spnGo h n cause s).buf = s.buf ∧ (spnGo h n cause s).flips = s.flips ∧ (spnGo h n cause s).nvs = s.nvs ∧
    (spnGo h n cause s).hif = s.hif ∧ (spnGo h n cause s).sec = s.sec ∧ (spnGo h n cause s).pins = s.pins ∧ (spnGo h n cause s).freeCtr = s.freeCtr ∧
    (spnGo h n cause s).pending = s.pending := by
  unfold spnGo; try dsimp only
  repeat' split
  all_goals simp

/-- A start ends (R70, R71). -/
@[simp] theorem endStart_frame (s : State) (h : Nat) :
    (endStart h s).ctrs = s.ctrs ∧ (endStart h s).snap = s.snap ∧ (endStart h s).mem = s.mem ∧ (endStart h s).nv = s.nv ∧ (endStart h s).poison = s.poison
    ∧ (endStart h s).rdata = s.rdata ∧ (endStart h s).busErr = s.busErr ∧ (endStart h s).dataExc = s.dataExc ∧ (endStart h s).plat = s.plat ∧ (endStart h
    s).gh = s.gh ∧ (endStart h s).sdl = s.sdl ∧ (endStart h s).ice = s.ice ∧ (endStart h s).cal = s.cal ∧ (endStart h s).ksk = s.ksk ∧ (endStart h
    s).replies = s.replies ∧ (endStart h s).locks = s.locks ∧ (endStart h s).msix = s.msix ∧ (endStart h s).asm = s.asm ∧ (endStart h s).held = s.held ∧
    (endStart h s).dmaLast = s.dmaLast ∧ (endStart h s).loops = s.loops ∧ (endStart h s).acts = s.acts ∧ (endStart h s).engs = s.engs ∧ (endStart h
    s).wOff = s.wOff ∧ (endStart h s).dn = s.dn ∧ (endStart h s).up = s.up ∧ (endStart h s).lnks = s.lnks ∧ (endStart h s).seqs = s.seqs ∧ (endStart h
    s).seqMaster = s.seqMaster ∧ (endStart h s).seqStaged = s.seqStaged ∧ (endStart h s).pool = s.pool ∧ (endStart h s).poolOrd = s.poolOrd ∧ (endStart h
    s).chains = s.chains ∧ (endStart h s).outqs = s.outqs ∧ (endStart h s).ldpc = s.ldpc ∧ (endStart h s).dram = s.dram ∧ (endStart h s).buf = s.buf ∧
    (endStart h s).flips = s.flips ∧ (endStart h s).nvs = s.nvs ∧ (endStart h s).hif = s.hif ∧ (endStart h s).sec = s.sec ∧ (endStart h s).pins = s.pins ∧
    (endStart h s).freeCtr = s.freeCtr ∧ (endStart h s).pending = s.pending := by
  unfold endStart; simp

/-- LOADED of an HDA. -/
@[simp] theorem showLoaded_frame (s : State) (h : Nat) :
    (showLoaded h s).ctrs = s.ctrs ∧ (showLoaded h s).snap = s.snap ∧ (showLoaded h s).mem = s.mem ∧ (showLoaded h s).nv = s.nv ∧ (showLoaded h s).poison
    = s.poison ∧ (showLoaded h s).rdata = s.rdata ∧ (showLoaded h s).busErr = s.busErr ∧ (showLoaded h s).dataExc = s.dataExc ∧ (showLoaded h s).plat =
    s.plat ∧ (showLoaded h s).gh = s.gh ∧ (showLoaded h s).sdl = s.sdl ∧ (showLoaded h s).ice = s.ice ∧ (showLoaded h s).cal = s.cal ∧ (showLoaded h
    s).ksk = s.ksk ∧ (showLoaded h s).replies = s.replies ∧ (showLoaded h s).locks = s.locks ∧ (showLoaded h s).msix = s.msix ∧ (showLoaded h s).asm =
    s.asm ∧ (showLoaded h s).held = s.held ∧ (showLoaded h s).dmaLast = s.dmaLast ∧ (showLoaded h s).spn = s.spn ∧ (showLoaded h s).spnQueue = s.spnQueue
    ∧ (showLoaded h s).loops = s.loops ∧ (showLoaded h s).acts = s.acts ∧ (showLoaded h s).engs = s.engs ∧ (showLoaded h s).wOff = s.wOff ∧ (showLoaded h
    s).dn = s.dn ∧ (showLoaded h s).up = s.up ∧ (showLoaded h s).lnks = s.lnks ∧ (showLoaded h s).seqs = s.seqs ∧ (showLoaded h s).seqMaster = s.seqMaster
    ∧ (showLoaded h s).seqStaged = s.seqStaged ∧ (showLoaded h s).pool = s.pool ∧ (showLoaded h s).poolOrd = s.poolOrd ∧ (showLoaded h s).chains =
    s.chains ∧ (showLoaded h s).outqs = s.outqs ∧ (showLoaded h s).ldpc = s.ldpc ∧ (showLoaded h s).dram = s.dram ∧ (showLoaded h s).buf = s.buf ∧
    (showLoaded h s).flips = s.flips ∧ (showLoaded h s).nvs = s.nvs ∧ (showLoaded h s).hif = s.hif ∧ (showLoaded h s).sec = s.sec ∧ (showLoaded h s).pins
    = s.pins ∧ (showLoaded h s).freeCtr = s.freeCtr ∧ (showLoaded h s).pending = s.pending := by
  unfold showLoaded; simp

/-- An actuator enters a state. -/
@[simp] theorem setActState_frame (s : State) (a n : Nat) :
    (setActState a n s).ctrs = s.ctrs ∧ (setActState a n s).snap = s.snap ∧ (setActState a n s).mem = s.mem ∧ (setActState a n s).nv = s.nv ∧ (setActState
    a n s).poison = s.poison ∧ (setActState a n s).rdata = s.rdata ∧ (setActState a n s).busErr = s.busErr ∧ (setActState a n s).dataExc = s.dataExc ∧
    (setActState a n s).plat = s.plat ∧ (setActState a n s).gh = s.gh ∧ (setActState a n s).sdl = s.sdl ∧ (setActState a n s).ice = s.ice ∧ (setActState a
    n s).cal = s.cal ∧ (setActState a n s).ksk = s.ksk ∧ (setActState a n s).replies = s.replies ∧ (setActState a n s).locks = s.locks ∧ (setActState a n
    s).msix = s.msix ∧ (setActState a n s).asm = s.asm ∧ (setActState a n s).held = s.held ∧ (setActState a n s).dmaLast = s.dmaLast ∧ (setActState a n
    s).spn = s.spn ∧ (setActState a n s).spnQueue = s.spnQueue ∧ (setActState a n s).loops = s.loops ∧ (setActState a n s).acts = s.acts ∧ (setActState a
    n s).engs = s.engs ∧ (setActState a n s).wOff = s.wOff ∧ (setActState a n s).dn = s.dn ∧ (setActState a n s).up = s.up ∧ (setActState a n s).lnks =
    s.lnks ∧ (setActState a n s).seqs = s.seqs ∧ (setActState a n s).seqMaster = s.seqMaster ∧ (setActState a n s).seqStaged = s.seqStaged ∧ (setActState
    a n s).pool = s.pool ∧ (setActState a n s).poolOrd = s.poolOrd ∧ (setActState a n s).chains = s.chains ∧ (setActState a n s).outqs = s.outqs ∧
    (setActState a n s).ldpc = s.ldpc ∧ (setActState a n s).dram = s.dram ∧ (setActState a n s).buf = s.buf ∧ (setActState a n s).flips = s.flips ∧
    (setActState a n s).nvs = s.nvs ∧ (setActState a n s).hif = s.hif ∧ (setActState a n s).sec = s.sec ∧ (setActState a n s).pins = s.pins ∧ (setActState
    a n s).freeCtr = s.freeCtr ∧ (setActState a n s).pending = s.pending := by
  unfold setActState; simp

/-- FORCED of an actuator and its bit of GH_ACT_FORCE. -/
@[simp] theorem setForced_frame (s : State) (a : Nat) (b : Bool) :
    (setForced a b s).ctrs = s.ctrs ∧ (setForced a b s).snap = s.snap ∧ (setForced a b s).mem = s.mem ∧ (setForced a b s).nv = s.nv ∧ (setForced a b
    s).poison = s.poison ∧ (setForced a b s).rdata = s.rdata ∧ (setForced a b s).busErr = s.busErr ∧ (setForced a b s).dataExc = s.dataExc ∧ (setForced a
    b s).plat = s.plat ∧ (setForced a b s).gh = s.gh ∧ (setForced a b s).sdl = s.sdl ∧ (setForced a b s).ice = s.ice ∧ (setForced a b s).cal = s.cal ∧
    (setForced a b s).ksk = s.ksk ∧ (setForced a b s).replies = s.replies ∧ (setForced a b s).locks = s.locks ∧ (setForced a b s).msix = s.msix ∧
    (setForced a b s).asm = s.asm ∧ (setForced a b s).held = s.held ∧ (setForced a b s).dmaLast = s.dmaLast ∧ (setForced a b s).spn = s.spn ∧ (setForced a
    b s).spnQueue = s.spnQueue ∧ (setForced a b s).loops = s.loops ∧ (setForced a b s).acts = s.acts ∧ (setForced a b s).engs = s.engs ∧ (setForced a b
    s).wOff = s.wOff ∧ (setForced a b s).dn = s.dn ∧ (setForced a b s).up = s.up ∧ (setForced a b s).lnks = s.lnks ∧ (setForced a b s).seqs = s.seqs ∧
    (setForced a b s).seqMaster = s.seqMaster ∧ (setForced a b s).seqStaged = s.seqStaged ∧ (setForced a b s).pool = s.pool ∧ (setForced a b s).poolOrd =
    s.poolOrd ∧ (setForced a b s).chains = s.chains ∧ (setForced a b s).outqs = s.outqs ∧ (setForced a b s).ldpc = s.ldpc ∧ (setForced a b s).dram =
    s.dram ∧ (setForced a b s).buf = s.buf ∧ (setForced a b s).flips = s.flips ∧ (setForced a b s).nvs = s.nvs ∧ (setForced a b s).hif = s.hif ∧
    (setForced a b s).sec = s.sec ∧ (setForced a b s).pins = s.pins ∧ (setForced a b s).freeCtr = s.freeCtr ∧ (setForced a b s).pending = s.pending := by
  unfold setForced; simp

/-- FORCED follows its conditions. -/
@[simp] theorem refreshForced_frame (s : State) (a : Nat) :
    (refreshForced a s).ctrs = s.ctrs ∧ (refreshForced a s).snap = s.snap ∧ (refreshForced a s).mem = s.mem ∧ (refreshForced a s).nv = s.nv ∧
    (refreshForced a s).poison = s.poison ∧ (refreshForced a s).rdata = s.rdata ∧ (refreshForced a s).busErr = s.busErr ∧ (refreshForced a s).dataExc =
    s.dataExc ∧ (refreshForced a s).plat = s.plat ∧ (refreshForced a s).gh = s.gh ∧ (refreshForced a s).sdl = s.sdl ∧ (refreshForced a s).ice = s.ice ∧
    (refreshForced a s).cal = s.cal ∧ (refreshForced a s).ksk = s.ksk ∧ (refreshForced a s).replies = s.replies ∧ (refreshForced a s).locks = s.locks ∧
    (refreshForced a s).msix = s.msix ∧ (refreshForced a s).asm = s.asm ∧ (refreshForced a s).held = s.held ∧ (refreshForced a s).dmaLast = s.dmaLast ∧
    (refreshForced a s).spn = s.spn ∧ (refreshForced a s).spnQueue = s.spnQueue ∧ (refreshForced a s).loops = s.loops ∧ (refreshForced a s).acts = s.acts
    ∧ (refreshForced a s).engs = s.engs ∧ (refreshForced a s).wOff = s.wOff ∧ (refreshForced a s).dn = s.dn ∧ (refreshForced a s).up = s.up ∧
    (refreshForced a s).lnks = s.lnks ∧ (refreshForced a s).seqs = s.seqs ∧ (refreshForced a s).seqMaster = s.seqMaster ∧ (refreshForced a s).seqStaged =
    s.seqStaged ∧ (refreshForced a s).pool = s.pool ∧ (refreshForced a s).poolOrd = s.poolOrd ∧ (refreshForced a s).chains = s.chains ∧ (refreshForced a
    s).outqs = s.outqs ∧ (refreshForced a s).ldpc = s.ldpc ∧ (refreshForced a s).dram = s.dram ∧ (refreshForced a s).buf = s.buf ∧ (refreshForced a
    s).flips = s.flips ∧ (refreshForced a s).nvs = s.nvs ∧ (refreshForced a s).hif = s.hif ∧ (refreshForced a s).sec = s.sec ∧ (refreshForced a s).pins =
    s.pins ∧ (refreshForced a s).freeCtr = s.freeCtr ∧ (refreshForced a s).pending = s.pending := by
  unfold refreshForced; simp

/-- FAULTS_24H. -/
@[simp] theorem showFaults_frame (s : State) (a : Nat) :
    (showFaults a s).ctrs = s.ctrs ∧ (showFaults a s).snap = s.snap ∧ (showFaults a s).mem = s.mem ∧ (showFaults a s).nv = s.nv ∧ (showFaults a s).poison
    = s.poison ∧ (showFaults a s).rdata = s.rdata ∧ (showFaults a s).busErr = s.busErr ∧ (showFaults a s).dataExc = s.dataExc ∧ (showFaults a s).plat =
    s.plat ∧ (showFaults a s).gh = s.gh ∧ (showFaults a s).sdl = s.sdl ∧ (showFaults a s).ice = s.ice ∧ (showFaults a s).cal = s.cal ∧ (showFaults a
    s).ksk = s.ksk ∧ (showFaults a s).replies = s.replies ∧ (showFaults a s).locks = s.locks ∧ (showFaults a s).msix = s.msix ∧ (showFaults a s).asm =
    s.asm ∧ (showFaults a s).held = s.held ∧ (showFaults a s).dmaLast = s.dmaLast ∧ (showFaults a s).spn = s.spn ∧ (showFaults a s).spnQueue = s.spnQueue
    ∧ (showFaults a s).loops = s.loops ∧ (showFaults a s).acts = s.acts ∧ (showFaults a s).engs = s.engs ∧ (showFaults a s).wOff = s.wOff ∧ (showFaults a
    s).dn = s.dn ∧ (showFaults a s).up = s.up ∧ (showFaults a s).lnks = s.lnks ∧ (showFaults a s).seqs = s.seqs ∧ (showFaults a s).seqMaster = s.seqMaster
    ∧ (showFaults a s).seqStaged = s.seqStaged ∧ (showFaults a s).pool = s.pool ∧ (showFaults a s).poolOrd = s.poolOrd ∧ (showFaults a s).chains =
    s.chains ∧ (showFaults a s).outqs = s.outqs ∧ (showFaults a s).ldpc = s.ldpc ∧ (showFaults a s).dram = s.dram ∧ (showFaults a s).buf = s.buf ∧
    (showFaults a s).flips = s.flips ∧ (showFaults a s).nvs = s.nvs ∧ (showFaults a s).hif = s.hif ∧ (showFaults a s).sec = s.sec ∧ (showFaults a s).pins
    = s.pins ∧ (showFaults a s).freeCtr = s.freeCtr ∧ (showFaults a s).pending = s.pending := by
  unfold showFaults; simp

/-- A change of a retract in progress. -/
@[simp] theorem modRetr_frame (s : State) (a : Nat) (f : Retract → Retract) :
    (modRetr a f s).regs = s.regs ∧ (modRetr a f s).ctrs = s.ctrs ∧ (modRetr a f s).snap = s.snap ∧ (modRetr a f s).mem = s.mem ∧ (modRetr a f s).nv =
    s.nv ∧ (modRetr a f s).poison = s.poison ∧ (modRetr a f s).rdata = s.rdata ∧ (modRetr a f s).busErr = s.busErr ∧ (modRetr a f s).dataExc = s.dataExc ∧
    (modRetr a f s).plat = s.plat ∧ (modRetr a f s).sdl = s.sdl ∧ (modRetr a f s).ice = s.ice ∧ (modRetr a f s).cal = s.cal ∧ (modRetr a f s).ksk = s.ksk
    ∧ (modRetr a f s).replies = s.replies ∧ (modRetr a f s).locks = s.locks ∧ (modRetr a f s).msix = s.msix ∧ (modRetr a f s).asm = s.asm ∧ (modRetr a f
    s).held = s.held ∧ (modRetr a f s).dmaLast = s.dmaLast ∧ (modRetr a f s).spn = s.spn ∧ (modRetr a f s).spnQueue = s.spnQueue ∧ (modRetr a f s).loops =
    s.loops ∧ (modRetr a f s).acts = s.acts ∧ (modRetr a f s).engs = s.engs ∧ (modRetr a f s).wOff = s.wOff ∧ (modRetr a f s).dn = s.dn ∧ (modRetr a f
    s).up = s.up ∧ (modRetr a f s).lnks = s.lnks ∧ (modRetr a f s).seqs = s.seqs ∧ (modRetr a f s).seqMaster = s.seqMaster ∧ (modRetr a f s).seqStaged =
    s.seqStaged ∧ (modRetr a f s).pool = s.pool ∧ (modRetr a f s).poolOrd = s.poolOrd ∧ (modRetr a f s).chains = s.chains ∧ (modRetr a f s).outqs =
    s.outqs ∧ (modRetr a f s).ldpc = s.ldpc ∧ (modRetr a f s).dram = s.dram ∧ (modRetr a f s).buf = s.buf ∧ (modRetr a f s).flips = s.flips ∧ (modRetr a f
    s).nvs = s.nvs ∧ (modRetr a f s).hif = s.hif ∧ (modRetr a f s).sec = s.sec ∧ (modRetr a f s).pins = s.pins ∧ (modRetr a f s).freeCtr = s.freeCtr ∧
    (modRetr a f s).pending = s.pending := by
  unfold modRetr; simp

/-- Fence permission withdrawn from some head slots (R125, R144, R217). -/
@[simp] theorem fenceOff_frame (s : State) (a mask cause : Nat) :
    (fenceOff a mask cause s).ctrs = s.ctrs ∧ (fenceOff a mask cause s).snap = s.snap ∧ (fenceOff a mask cause s).mem = s.mem ∧ (fenceOff a mask cause
    s).nv = s.nv ∧ (fenceOff a mask cause s).poison = s.poison ∧ (fenceOff a mask cause s).rdata = s.rdata ∧ (fenceOff a mask cause s).busErr = s.busErr ∧
    (fenceOff a mask cause s).dataExc = s.dataExc ∧ (fenceOff a mask cause s).plat = s.plat ∧ (fenceOff a mask cause s).gh = s.gh ∧ (fenceOff a mask cause
    s).sdl = s.sdl ∧ (fenceOff a mask cause s).ice = s.ice ∧ (fenceOff a mask cause s).cal = s.cal ∧ (fenceOff a mask cause s).ksk = s.ksk ∧ (fenceOff a
    mask cause s).replies = s.replies ∧ (fenceOff a mask cause s).locks = s.locks ∧ (fenceOff a mask cause s).msix = s.msix ∧ (fenceOff a mask cause
    s).asm = s.asm ∧ (fenceOff a mask cause s).held = s.held ∧ (fenceOff a mask cause s).dmaLast = s.dmaLast ∧ (fenceOff a mask cause s).spn = s.spn ∧
    (fenceOff a mask cause s).spnQueue = s.spnQueue ∧ (fenceOff a mask cause s).loops = s.loops ∧ (fenceOff a mask cause s).engs = s.engs ∧ (fenceOff a
    mask cause s).dn = s.dn ∧ (fenceOff a mask cause s).up = s.up ∧ (fenceOff a mask cause s).lnks = s.lnks ∧ (fenceOff a mask cause s).seqMaster =
    s.seqMaster ∧ (fenceOff a mask cause s).seqStaged = s.seqStaged ∧ (fenceOff a mask cause s).pool = s.pool ∧ (fenceOff a mask cause s).poolOrd =
    s.poolOrd ∧ (fenceOff a mask cause s).chains = s.chains ∧ (fenceOff a mask cause s).outqs = s.outqs ∧ (fenceOff a mask cause s).ldpc = s.ldpc ∧
    (fenceOff a mask cause s).dram = s.dram ∧ (fenceOff a mask cause s).buf = s.buf ∧ (fenceOff a mask cause s).flips = s.flips ∧ (fenceOff a mask cause
    s).nvs = s.nvs ∧ (fenceOff a mask cause s).hif = s.hif ∧ (fenceOff a mask cause s).sec = s.sec ∧ (fenceOff a mask cause s).pins = s.pins ∧ (fenceOff a
    mask cause s).freeCtr = s.freeCtr ∧ (fenceOff a mask cause s).pending = s.pending := by
  unfold fenceOff; simp

/-- RETRACT is sent on the next locked lane (R430). -/
@[simp] theorem retractSend_frame (s : State) (a : Nat) :
    (retractSend a s).regs = s.regs ∧ (retractSend a s).ctrs = s.ctrs ∧ (retractSend a s).snap = s.snap ∧ (retractSend a s).mem = s.mem ∧ (retractSend a
    s).nv = s.nv ∧ (retractSend a s).poison = s.poison ∧ (retractSend a s).rdata = s.rdata ∧ (retractSend a s).busErr = s.busErr ∧ (retractSend a
    s).dataExc = s.dataExc ∧ (retractSend a s).plat = s.plat ∧ (retractSend a s).sdl = s.sdl ∧ (retractSend a s).ice = s.ice ∧ (retractSend a s).cal =
    s.cal ∧ (retractSend a s).ksk = s.ksk ∧ (retractSend a s).replies = s.replies ∧ (retractSend a s).locks = s.locks ∧ (retractSend a s).msix = s.msix ∧
    (retractSend a s).asm = s.asm ∧ (retractSend a s).held = s.held ∧ (retractSend a s).dmaLast = s.dmaLast ∧ (retractSend a s).spn = s.spn ∧ (retractSend
    a s).spnQueue = s.spnQueue ∧ (retractSend a s).loops = s.loops ∧ (retractSend a s).acts = s.acts ∧ (retractSend a s).engs = s.engs ∧ (retractSend a
    s).wOff = s.wOff ∧ (retractSend a s).up = s.up ∧ (retractSend a s).lnks = s.lnks ∧ (retractSend a s).seqs = s.seqs ∧ (retractSend a s).seqMaster =
    s.seqMaster ∧ (retractSend a s).seqStaged = s.seqStaged ∧ (retractSend a s).pool = s.pool ∧ (retractSend a s).poolOrd = s.poolOrd ∧ (retractSend a
    s).chains = s.chains ∧ (retractSend a s).outqs = s.outqs ∧ (retractSend a s).ldpc = s.ldpc ∧ (retractSend a s).dram = s.dram ∧ (retractSend a s).buf =
    s.buf ∧ (retractSend a s).flips = s.flips ∧ (retractSend a s).nvs = s.nvs ∧ (retractSend a s).hif = s.hif ∧ (retractSend a s).sec = s.sec ∧
    (retractSend a s).pins = s.pins ∧ (retractSend a s).freeCtr = s.freeCtr ∧ (retractSend a s).pending = s.pending := by
  unfold retractSend; try dsimp only
  repeat' split
  all_goals simp

/-- An actuator enters ISOLATED (R427). -/
@[simp] theorem enterIsolated_frame (s : State) (a : Nat) :
    (enterIsolated a s).snap = s.snap ∧ (enterIsolated a s).mem = s.mem ∧ (enterIsolated a s).nv = s.nv ∧ (enterIsolated a s).poison = s.poison ∧
    (enterIsolated a s).rdata = s.rdata ∧ (enterIsolated a s).busErr = s.busErr ∧ (enterIsolated a s).dataExc = s.dataExc ∧ (enterIsolated a s).plat =
    s.plat ∧ (enterIsolated a s).gh = s.gh ∧ (enterIsolated a s).sdl = s.sdl ∧ (enterIsolated a s).ice = s.ice ∧ (enterIsolated a s).cal = s.cal ∧
    (enterIsolated a s).ksk = s.ksk ∧ (enterIsolated a s).replies = s.replies ∧ (enterIsolated a s).locks = s.locks ∧ (enterIsolated a s).msix = s.msix ∧
    (enterIsolated a s).asm = s.asm ∧ (enterIsolated a s).held = s.held ∧ (enterIsolated a s).dmaLast = s.dmaLast ∧ (enterIsolated a s).spn = s.spn ∧
    (enterIsolated a s).spnQueue = s.spnQueue ∧ (enterIsolated a s).loops = s.loops ∧ (enterIsolated a s).engs = s.engs ∧ (enterIsolated a s).dn = s.dn ∧
    (enterIsolated a s).up = s.up ∧ (enterIsolated a s).lnks = s.lnks ∧ (enterIsolated a s).seqMaster = s.seqMaster ∧ (enterIsolated a s).seqStaged =
    s.seqStaged ∧ (enterIsolated a s).pool = s.pool ∧ (enterIsolated a s).poolOrd = s.poolOrd ∧ (enterIsolated a s).chains = s.chains ∧ (enterIsolated a
    s).outqs = s.outqs ∧ (enterIsolated a s).ldpc = s.ldpc ∧ (enterIsolated a s).dram = s.dram ∧ (enterIsolated a s).buf = s.buf ∧ (enterIsolated a
    s).flips = s.flips ∧ (enterIsolated a s).nvs = s.nvs ∧ (enterIsolated a s).hif = s.hif ∧ (enterIsolated a s).sec = s.sec ∧ (enterIsolated a s).pins =
    s.pins ∧ (enterIsolated a s).freeCtr = s.freeCtr ∧ (enterIsolated a s).pending = s.pending := by
  unfold enterIsolated; try dsimp only
  repeat' split
  all_goals simp

/-- A forced retract starts (R427, R434). -/
@[simp] theorem startRetract_frame (s : State) (a : Nat) (isolate power reset : Bool) :
    (startRetract a isolate power reset s).snap = s.snap ∧ (startRetract a isolate power reset s).mem = s.mem ∧ (startRetract a isolate power reset s).nv
    = s.nv ∧ (startRetract a isolate power reset s).poison = s.poison ∧ (startRetract a isolate power reset s).rdata = s.rdata ∧ (startRetract a isolate
    power reset s).busErr = s.busErr ∧ (startRetract a isolate power reset s).dataExc = s.dataExc ∧ (startRetract a isolate power reset s).plat = s.plat ∧
    (startRetract a isolate power reset s).sdl = s.sdl ∧ (startRetract a isolate power reset s).ice = s.ice ∧ (startRetract a isolate power reset s).cal =
    s.cal ∧ (startRetract a isolate power reset s).ksk = s.ksk ∧ (startRetract a isolate power reset s).replies = s.replies ∧ (startRetract a isolate
    power reset s).locks = s.locks ∧ (startRetract a isolate power reset s).msix = s.msix ∧ (startRetract a isolate power reset s).asm = s.asm ∧
    (startRetract a isolate power reset s).held = s.held ∧ (startRetract a isolate power reset s).dmaLast = s.dmaLast ∧ (startRetract a isolate power
    reset s).spn = s.spn ∧ (startRetract a isolate power reset s).spnQueue = s.spnQueue ∧ (startRetract a isolate power reset s).loops = s.loops ∧
    (startRetract a isolate power reset s).engs = s.engs ∧ (startRetract a isolate power reset s).up = s.up ∧ (startRetract a isolate power reset s).lnks
    = s.lnks ∧ (startRetract a isolate power reset s).seqMaster = s.seqMaster ∧ (startRetract a isolate power reset s).seqStaged = s.seqStaged ∧
    (startRetract a isolate power reset s).pool = s.pool ∧ (startRetract a isolate power reset s).poolOrd = s.poolOrd ∧ (startRetract a isolate power
    reset s).chains = s.chains ∧ (startRetract a isolate power reset s).outqs = s.outqs ∧ (startRetract a isolate power reset s).ldpc = s.ldpc ∧
    (startRetract a isolate power reset s).dram = s.dram ∧ (startRetract a isolate power reset s).buf = s.buf ∧ (startRetract a isolate power reset
    s).flips = s.flips ∧ (startRetract a isolate power reset s).nvs = s.nvs ∧ (startRetract a isolate power reset s).hif = s.hif ∧ (startRetract a isolate
    power reset s).sec = s.sec ∧ (startRetract a isolate power reset s).pins = s.pins ∧ (startRetract a isolate power reset s).freeCtr = s.freeCtr ∧
    (startRetract a isolate power reset s).pending = s.pending := by
  unfold startRetract; try dsimp only
  repeat' split
  all_goals simp

/-- An actuator fault is recorded. -/
@[simp] theorem actRecord_frame (s : State) (a code src detail : Nat) (inj : Bool) :
    (actRecord a code src detail inj s).snap = s.snap ∧ (actRecord a code src detail inj s).mem = s.mem ∧ (actRecord a code src detail inj s).nv = s.nv ∧
    (actRecord a code src detail inj s).poison = s.poison ∧ (actRecord a code src detail inj s).rdata = s.rdata ∧ (actRecord a code src detail inj
    s).busErr = s.busErr ∧ (actRecord a code src detail inj s).dataExc = s.dataExc ∧ (actRecord a code src detail inj s).plat = s.plat ∧ (actRecord a code
    src detail inj s).sdl = s.sdl ∧ (actRecord a code src detail inj s).ice = s.ice ∧ (actRecord a code src detail inj s).cal = s.cal ∧ (actRecord a code
    src detail inj s).ksk = s.ksk ∧ (actRecord a code src detail inj s).replies = s.replies ∧ (actRecord a code src detail inj s).locks = s.locks ∧
    (actRecord a code src detail inj s).msix = s.msix ∧ (actRecord a code src detail inj s).asm = s.asm ∧ (actRecord a code src detail inj s).held =
    s.held ∧ (actRecord a code src detail inj s).dmaLast = s.dmaLast ∧ (actRecord a code src detail inj s).spn = s.spn ∧ (actRecord a code src detail inj
    s).spnQueue = s.spnQueue ∧ (actRecord a code src detail inj s).loops = s.loops ∧ (actRecord a code src detail inj s).acts = s.acts ∧ (actRecord a code
    src detail inj s).engs = s.engs ∧ (actRecord a code src detail inj s).wOff = s.wOff ∧ (actRecord a code src detail inj s).dn = s.dn ∧ (actRecord a
    code src detail inj s).up = s.up ∧ (actRecord a code src detail inj s).lnks = s.lnks ∧ (actRecord a code src detail inj s).seqs = s.seqs ∧ (actRecord
    a code src detail inj s).seqMaster = s.seqMaster ∧ (actRecord a code src detail inj s).seqStaged = s.seqStaged ∧ (actRecord a code src detail inj
    s).pool = s.pool ∧ (actRecord a code src detail inj s).poolOrd = s.poolOrd ∧ (actRecord a code src detail inj s).chains = s.chains ∧ (actRecord a code
    src detail inj s).outqs = s.outqs ∧ (actRecord a code src detail inj s).ldpc = s.ldpc ∧ (actRecord a code src detail inj s).dram = s.dram ∧ (actRecord
    a code src detail inj s).buf = s.buf ∧ (actRecord a code src detail inj s).flips = s.flips ∧ (actRecord a code src detail inj s).nvs = s.nvs ∧
    (actRecord a code src detail inj s).hif = s.hif ∧ (actRecord a code src detail inj s).sec = s.sec ∧ (actRecord a code src detail inj s).pins = s.pins
    ∧ (actRecord a code src detail inj s).freeCtr = s.freeCtr ∧ (actRecord a code src detail inj s).pending = s.pending := by
  unfold actRecord; simp

/-- An actuator fault: its record and its forced retract (R427). -/
@[simp] theorem actFault_frame (s : State) (a code src detail : Nat) (inj : Bool) :
    (actFault a code src detail inj s).snap = s.snap ∧ (actFault a code src detail inj s).mem = s.mem ∧ (actFault a code src detail inj s).nv = s.nv ∧
    (actFault a code src detail inj s).poison = s.poison ∧ (actFault a code src detail inj s).rdata = s.rdata ∧ (actFault a code src detail inj s).busErr
    = s.busErr ∧ (actFault a code src detail inj s).dataExc = s.dataExc ∧ (actFault a code src detail inj s).plat = s.plat ∧ (actFault a code src detail
    inj s).sdl = s.sdl ∧ (actFault a code src detail inj s).ice = s.ice ∧ (actFault a code src detail inj s).cal = s.cal ∧ (actFault a code src detail inj
    s).ksk = s.ksk ∧ (actFault a code src detail inj s).replies = s.replies ∧ (actFault a code src detail inj s).locks = s.locks ∧ (actFault a code src
    detail inj s).msix = s.msix ∧ (actFault a code src detail inj s).asm = s.asm ∧ (actFault a code src detail inj s).held = s.held ∧ (actFault a code src
    detail inj s).dmaLast = s.dmaLast ∧ (actFault a code src detail inj s).spn = s.spn ∧ (actFault a code src detail inj s).spnQueue = s.spnQueue ∧
    (actFault a code src detail inj s).loops = s.loops ∧ (actFault a code src detail inj s).engs = s.engs ∧ (actFault a code src detail inj s).up = s.up ∧
    (actFault a code src detail inj s).lnks = s.lnks ∧ (actFault a code src detail inj s).seqMaster = s.seqMaster ∧ (actFault a code src detail inj
    s).seqStaged = s.seqStaged ∧ (actFault a code src detail inj s).pool = s.pool ∧ (actFault a code src detail inj s).poolOrd = s.poolOrd ∧ (actFault a
    code src detail inj s).chains = s.chains ∧ (actFault a code src detail inj s).outqs = s.outqs ∧ (actFault a code src detail inj s).ldpc = s.ldpc ∧
    (actFault a code src detail inj s).dram = s.dram ∧ (actFault a code src detail inj s).buf = s.buf ∧ (actFault a code src detail inj s).flips = s.flips
    ∧ (actFault a code src detail inj s).nvs = s.nvs ∧ (actFault a code src detail inj s).hif = s.hif ∧ (actFault a code src detail inj s).sec = s.sec ∧
    (actFault a code src detail inj s).pins = s.pins ∧ (actFault a code src detail inj s).freeCtr = s.freeCtr ∧ (actFault a code src detail inj s).pending
    = s.pending := by
  unfold actFault; simp

/-- A change of a tag entry. -/
@[simp] theorem modTag_frame (s : State) (e : Nat) (f : TagLine → TagLine) :
    (modTag e f s).regs = s.regs ∧ (modTag e f s).ctrs = s.ctrs ∧ (modTag e f s).snap = s.snap ∧ (modTag e f s).mem = s.mem ∧ (modTag e f s).nv = s.nv ∧
    (modTag e f s).poison = s.poison ∧ (modTag e f s).rdata = s.rdata ∧ (modTag e f s).busErr = s.busErr ∧ (modTag e f s).dataExc = s.dataExc ∧ (modTag e
    f s).plat = s.plat ∧ (modTag e f s).gh = s.gh ∧ (modTag e f s).sdl = s.sdl ∧ (modTag e f s).ice = s.ice ∧ (modTag e f s).cal = s.cal ∧ (modTag e f
    s).ksk = s.ksk ∧ (modTag e f s).replies = s.replies ∧ (modTag e f s).locks = s.locks ∧ (modTag e f s).msix = s.msix ∧ (modTag e f s).asm = s.asm ∧
    (modTag e f s).held = s.held ∧ (modTag e f s).dmaLast = s.dmaLast ∧ (modTag e f s).spn = s.spn ∧ (modTag e f s).spnQueue = s.spnQueue ∧ (modTag e f
    s).loops = s.loops ∧ (modTag e f s).acts = s.acts ∧ (modTag e f s).engs = s.engs ∧ (modTag e f s).wOff = s.wOff ∧ (modTag e f s).dn = s.dn ∧ (modTag e
    f s).up = s.up ∧ (modTag e f s).lnks = s.lnks ∧ (modTag e f s).seqs = s.seqs ∧ (modTag e f s).seqMaster = s.seqMaster ∧ (modTag e f s).seqStaged =
    s.seqStaged ∧ (modTag e f s).pool = s.pool ∧ (modTag e f s).poolOrd = s.poolOrd ∧ (modTag e f s).chains = s.chains ∧ (modTag e f s).outqs = s.outqs ∧
    (modTag e f s).ldpc = s.ldpc ∧ (modTag e f s).dram = s.dram ∧ (modTag e f s).flips = s.flips ∧ (modTag e f s).nvs = s.nvs ∧ (modTag e f s).hif = s.hif
    ∧ (modTag e f s).sec = s.sec ∧ (modTag e f s).pins = s.pins ∧ (modTag e f s).freeCtr = s.freeCtr ∧ (modTag e f s).pending = s.pending := by
  unfold modTag; simp

/-- The cache status registers (R281, R284, R285). -/
@[simp] theorem bufShow_frame (s : State) :
    (bufShow s).snap = s.snap ∧ (bufShow s).mem = s.mem ∧ (bufShow s).nv = s.nv ∧ (bufShow s).poison = s.poison ∧ (bufShow s).rdata = s.rdata ∧ (bufShow
    s).busErr = s.busErr ∧ (bufShow s).dataExc = s.dataExc ∧ (bufShow s).plat = s.plat ∧ (bufShow s).gh = s.gh ∧ (bufShow s).sdl = s.sdl ∧ (bufShow s).ice
    = s.ice ∧ (bufShow s).cal = s.cal ∧ (bufShow s).ksk = s.ksk ∧ (bufShow s).replies = s.replies ∧ (bufShow s).locks = s.locks ∧ (bufShow s).msix =
    s.msix ∧ (bufShow s).asm = s.asm ∧ (bufShow s).held = s.held ∧ (bufShow s).dmaLast = s.dmaLast ∧ (bufShow s).spn = s.spn ∧ (bufShow s).spnQueue =
    s.spnQueue ∧ (bufShow s).loops = s.loops ∧ (bufShow s).acts = s.acts ∧ (bufShow s).engs = s.engs ∧ (bufShow s).wOff = s.wOff ∧ (bufShow s).dn = s.dn ∧
    (bufShow s).up = s.up ∧ (bufShow s).lnks = s.lnks ∧ (bufShow s).seqs = s.seqs ∧ (bufShow s).seqMaster = s.seqMaster ∧ (bufShow s).seqStaged =
    s.seqStaged ∧ (bufShow s).pool = s.pool ∧ (bufShow s).poolOrd = s.poolOrd ∧ (bufShow s).chains = s.chains ∧ (bufShow s).outqs = s.outqs ∧ (bufShow
    s).ldpc = s.ldpc ∧ (bufShow s).dram = s.dram ∧ (bufShow s).flips = s.flips ∧ (bufShow s).nvs = s.nvs ∧ (bufShow s).hif = s.hif ∧ (bufShow s).sec =
    s.sec ∧ (bufShow s).pins = s.pins ∧ (bufShow s).freeCtr = s.freeCtr ∧ (bufShow s).pending = s.pending := by
  unfold bufShow; try dsimp only
  repeat' split
  all_goals simp

/-- A change of an in-flight sector. -/
@[simp] theorem modFly_frame (s : State) (a id : Nat) (f : FlyEnt → FlyEnt) :
    (modFly a id f s).regs = s.regs ∧ (modFly a id f s).ctrs = s.ctrs ∧ (modFly a id f s).snap = s.snap ∧ (modFly a id f s).mem = s.mem ∧ (modFly a id f
    s).nv = s.nv ∧ (modFly a id f s).poison = s.poison ∧ (modFly a id f s).rdata = s.rdata ∧ (modFly a id f s).busErr = s.busErr ∧ (modFly a id f
    s).dataExc = s.dataExc ∧ (modFly a id f s).plat = s.plat ∧ (modFly a id f s).gh = s.gh ∧ (modFly a id f s).sdl = s.sdl ∧ (modFly a id f s).ice = s.ice
    ∧ (modFly a id f s).cal = s.cal ∧ (modFly a id f s).ksk = s.ksk ∧ (modFly a id f s).replies = s.replies ∧ (modFly a id f s).locks = s.locks ∧ (modFly
    a id f s).msix = s.msix ∧ (modFly a id f s).asm = s.asm ∧ (modFly a id f s).held = s.held ∧ (modFly a id f s).dmaLast = s.dmaLast ∧ (modFly a id f
    s).spn = s.spn ∧ (modFly a id f s).spnQueue = s.spnQueue ∧ (modFly a id f s).loops = s.loops ∧ (modFly a id f s).acts = s.acts ∧ (modFly a id f
    s).engs = s.engs ∧ (modFly a id f s).wOff = s.wOff ∧ (modFly a id f s).dn = s.dn ∧ (modFly a id f s).up = s.up ∧ (modFly a id f s).lnks = s.lnks ∧
    (modFly a id f s).seqMaster = s.seqMaster ∧ (modFly a id f s).seqStaged = s.seqStaged ∧ (modFly a id f s).pool = s.pool ∧ (modFly a id f s).poolOrd =
    s.poolOrd ∧ (modFly a id f s).chains = s.chains ∧ (modFly a id f s).outqs = s.outqs ∧ (modFly a id f s).ldpc = s.ldpc ∧ (modFly a id f s).dram =
    s.dram ∧ (modFly a id f s).buf = s.buf ∧ (modFly a id f s).flips = s.flips ∧ (modFly a id f s).nvs = s.nvs ∧ (modFly a id f s).hif = s.hif ∧ (modFly a
    id f s).sec = s.sec ∧ (modFly a id f s).pins = s.pins ∧ (modFly a id f s).freeCtr = s.freeCtr ∧ (modFly a id f s).pending = s.pending := by
  unfold modFly; simp

/-- An outcome reaches the commands whose blocks it concerns. -/
@[simp] theorem hostOutcome_frame (s : State) (p : MediaPlace) (op : Nat × Nat) (c : Nat) :
    (hostOutcome p op c s).regs = s.regs ∧ (hostOutcome p op c s).ctrs = s.ctrs ∧ (hostOutcome p op c s).snap = s.snap ∧ (hostOutcome p op c s).mem =
    s.mem ∧ (hostOutcome p op c s).nv = s.nv ∧ (hostOutcome p op c s).poison = s.poison ∧ (hostOutcome p op c s).rdata = s.rdata ∧ (hostOutcome p op c
    s).busErr = s.busErr ∧ (hostOutcome p op c s).dataExc = s.dataExc ∧ (hostOutcome p op c s).plat = s.plat ∧ (hostOutcome p op c s).gh = s.gh ∧
    (hostOutcome p op c s).sdl = s.sdl ∧ (hostOutcome p op c s).ice = s.ice ∧ (hostOutcome p op c s).cal = s.cal ∧ (hostOutcome p op c s).ksk = s.ksk ∧
    (hostOutcome p op c s).replies = s.replies ∧ (hostOutcome p op c s).locks = s.locks ∧ (hostOutcome p op c s).msix = s.msix ∧ (hostOutcome p op c
    s).asm = s.asm ∧ (hostOutcome p op c s).held = s.held ∧ (hostOutcome p op c s).dmaLast = s.dmaLast ∧ (hostOutcome p op c s).spn = s.spn ∧ (hostOutcome
    p op c s).spnQueue = s.spnQueue ∧ (hostOutcome p op c s).loops = s.loops ∧ (hostOutcome p op c s).acts = s.acts ∧ (hostOutcome p op c s).engs = s.engs
    ∧ (hostOutcome p op c s).wOff = s.wOff ∧ (hostOutcome p op c s).dn = s.dn ∧ (hostOutcome p op c s).up = s.up ∧ (hostOutcome p op c s).lnks = s.lnks ∧
    (hostOutcome p op c s).seqs = s.seqs ∧ (hostOutcome p op c s).seqMaster = s.seqMaster ∧ (hostOutcome p op c s).seqStaged = s.seqStaged ∧ (hostOutcome
    p op c s).pool = s.pool ∧ (hostOutcome p op c s).poolOrd = s.poolOrd ∧ (hostOutcome p op c s).chains = s.chains ∧ (hostOutcome p op c s).outqs =
    s.outqs ∧ (hostOutcome p op c s).ldpc = s.ldpc ∧ (hostOutcome p op c s).dram = s.dram ∧ (hostOutcome p op c s).buf = s.buf ∧ (hostOutcome p op c
    s).flips = s.flips ∧ (hostOutcome p op c s).nvs = s.nvs ∧ (hostOutcome p op c s).sec = s.sec ∧ (hostOutcome p op c s).pins = s.pins ∧ (hostOutcome p
    op c s).freeCtr = s.freeCtr ∧ (hostOutcome p op c s).pending = s.pending := by
  unfold hostOutcome; try dsimp only
  repeat' split
  all_goals simp

/-- What a track outcome says of the blocks of commands and of a Sanitize. -/
@[simp] theorem mediaNote_frame (s : State) (p : MediaPlace) (op : Nat × Nat) (oc base : Nat) :
    (mediaNote p op oc base s).regs = s.regs ∧ (mediaNote p op oc base s).ctrs = s.ctrs ∧ (mediaNote p op oc base s).snap = s.snap ∧ (mediaNote p op oc
    base s).mem = s.mem ∧ (mediaNote p op oc base s).nv = s.nv ∧ (mediaNote p op oc base s).poison = s.poison ∧ (mediaNote p op oc base s).rdata = s.rdata
    ∧ (mediaNote p op oc base s).busErr = s.busErr ∧ (mediaNote p op oc base s).dataExc = s.dataExc ∧ (mediaNote p op oc base s).plat = s.plat ∧
    (mediaNote p op oc base s).gh = s.gh ∧ (mediaNote p op oc base s).sdl = s.sdl ∧ (mediaNote p op oc base s).ice = s.ice ∧ (mediaNote p op oc base
    s).cal = s.cal ∧ (mediaNote p op oc base s).ksk = s.ksk ∧ (mediaNote p op oc base s).replies = s.replies ∧ (mediaNote p op oc base s).locks = s.locks
    ∧ (mediaNote p op oc base s).msix = s.msix ∧ (mediaNote p op oc base s).asm = s.asm ∧ (mediaNote p op oc base s).held = s.held ∧ (mediaNote p op oc
    base s).dmaLast = s.dmaLast ∧ (mediaNote p op oc base s).spn = s.spn ∧ (mediaNote p op oc base s).spnQueue = s.spnQueue ∧ (mediaNote p op oc base
    s).loops = s.loops ∧ (mediaNote p op oc base s).acts = s.acts ∧ (mediaNote p op oc base s).engs = s.engs ∧ (mediaNote p op oc base s).wOff = s.wOff ∧
    (mediaNote p op oc base s).dn = s.dn ∧ (mediaNote p op oc base s).up = s.up ∧ (mediaNote p op oc base s).lnks = s.lnks ∧ (mediaNote p op oc base
    s).seqs = s.seqs ∧ (mediaNote p op oc base s).seqMaster = s.seqMaster ∧ (mediaNote p op oc base s).seqStaged = s.seqStaged ∧ (mediaNote p op oc base
    s).pool = s.pool ∧ (mediaNote p op oc base s).poolOrd = s.poolOrd ∧ (mediaNote p op oc base s).chains = s.chains ∧ (mediaNote p op oc base s).outqs =
    s.outqs ∧ (mediaNote p op oc base s).ldpc = s.ldpc ∧ (mediaNote p op oc base s).dram = s.dram ∧ (mediaNote p op oc base s).buf = s.buf ∧ (mediaNote p
    op oc base s).flips = s.flips ∧ (mediaNote p op oc base s).nvs = s.nvs ∧ (mediaNote p op oc base s).sec = s.sec ∧ (mediaNote p op oc base s).pins =
    s.pins ∧ (mediaNote p op oc base s).freeCtr = s.freeCtr ∧ (mediaNote p op oc base s).pending = s.pending := by
  unfold mediaNote; try dsimp only
  repeat' split
  all_goals simp

/-- A sector has its outcome (R233). -/
@[simp] theorem settle_frame (s : State) (a id oc cause iter : Nat) :
    (settle a id oc cause iter s).regs = s.regs ∧ (settle a id oc cause iter s).ctrs = s.ctrs ∧ (settle a id oc cause iter s).snap = s.snap ∧ (settle a id
    oc cause iter s).mem = s.mem ∧ (settle a id oc cause iter s).nv = s.nv ∧ (settle a id oc cause iter s).poison = s.poison ∧ (settle a id oc cause iter
    s).rdata = s.rdata ∧ (settle a id oc cause iter s).busErr = s.busErr ∧ (settle a id oc cause iter s).dataExc = s.dataExc ∧ (settle a id oc cause iter
    s).plat = s.plat ∧ (settle a id oc cause iter s).gh = s.gh ∧ (settle a id oc cause iter s).sdl = s.sdl ∧ (settle a id oc cause iter s).ice = s.ice ∧
    (settle a id oc cause iter s).cal = s.cal ∧ (settle a id oc cause iter s).ksk = s.ksk ∧ (settle a id oc cause iter s).replies = s.replies ∧ (settle a
    id oc cause iter s).locks = s.locks ∧ (settle a id oc cause iter s).msix = s.msix ∧ (settle a id oc cause iter s).asm = s.asm ∧ (settle a id oc cause
    iter s).held = s.held ∧ (settle a id oc cause iter s).dmaLast = s.dmaLast ∧ (settle a id oc cause iter s).spn = s.spn ∧ (settle a id oc cause iter
    s).spnQueue = s.spnQueue ∧ (settle a id oc cause iter s).loops = s.loops ∧ (settle a id oc cause iter s).acts = s.acts ∧ (settle a id oc cause iter
    s).engs = s.engs ∧ (settle a id oc cause iter s).wOff = s.wOff ∧ (settle a id oc cause iter s).dn = s.dn ∧ (settle a id oc cause iter s).up = s.up ∧
    (settle a id oc cause iter s).lnks = s.lnks ∧ (settle a id oc cause iter s).seqMaster = s.seqMaster ∧ (settle a id oc cause iter s).seqStaged =
    s.seqStaged ∧ (settle a id oc cause iter s).pool = s.pool ∧ (settle a id oc cause iter s).poolOrd = s.poolOrd ∧ (settle a id oc cause iter s).chains =
    s.chains ∧ (settle a id oc cause iter s).outqs = s.outqs ∧ (settle a id oc cause iter s).ldpc = s.ldpc ∧ (settle a id oc cause iter s).dram = s.dram ∧
    (settle a id oc cause iter s).buf = s.buf ∧ (settle a id oc cause iter s).flips = s.flips ∧ (settle a id oc cause iter s).nvs = s.nvs ∧ (settle a id
    oc cause iter s).sec = s.sec ∧ (settle a id oc cause iter s).pins = s.pins ∧ (settle a id oc cause iter s).freeCtr = s.freeCtr ∧ (settle a id oc cause
    iter s).pending = s.pending := by
  unfold settle; try dsimp only
  repeat' split
  all_goals simp

/-- Queued sectors end NOT_GATED. -/
@[simp] theorem notGated_frame (s : State) (a : Nat) (p : FlyEnt → Bool) (cause : Nat) :
    (notGated a p cause s).regs = s.regs ∧ (notGated a p cause s).ctrs = s.ctrs ∧ (notGated a p cause s).snap = s.snap ∧ (notGated a p cause s).mem =
    s.mem ∧ (notGated a p cause s).nv = s.nv ∧ (notGated a p cause s).poison = s.poison ∧ (notGated a p cause s).rdata = s.rdata ∧ (notGated a p cause
    s).busErr = s.busErr ∧ (notGated a p cause s).dataExc = s.dataExc ∧ (notGated a p cause s).plat = s.plat ∧ (notGated a p cause s).gh = s.gh ∧
    (notGated a p cause s).sdl = s.sdl ∧ (notGated a p cause s).ice = s.ice ∧ (notGated a p cause s).cal = s.cal ∧ (notGated a p cause s).ksk = s.ksk ∧
    (notGated a p cause s).replies = s.replies ∧ (notGated a p cause s).locks = s.locks ∧ (notGated a p cause s).msix = s.msix ∧ (notGated a p cause
    s).asm = s.asm ∧ (notGated a p cause s).held = s.held ∧ (notGated a p cause s).dmaLast = s.dmaLast ∧ (notGated a p cause s).spn = s.spn ∧ (notGated a
    p cause s).spnQueue = s.spnQueue ∧ (notGated a p cause s).loops = s.loops ∧ (notGated a p cause s).acts = s.acts ∧ (notGated a p cause s).engs =
    s.engs ∧ (notGated a p cause s).wOff = s.wOff ∧ (notGated a p cause s).dn = s.dn ∧ (notGated a p cause s).up = s.up ∧ (notGated a p cause s).lnks =
    s.lnks ∧ (notGated a p cause s).seqMaster = s.seqMaster ∧ (notGated a p cause s).seqStaged = s.seqStaged ∧ (notGated a p cause s).pool = s.pool ∧
    (notGated a p cause s).poolOrd = s.poolOrd ∧ (notGated a p cause s).chains = s.chains ∧ (notGated a p cause s).outqs = s.outqs ∧ (notGated a p cause
    s).ldpc = s.ldpc ∧ (notGated a p cause s).dram = s.dram ∧ (notGated a p cause s).buf = s.buf ∧ (notGated a p cause s).flips = s.flips ∧ (notGated a p
    cause s).nvs = s.nvs ∧ (notGated a p cause s).sec = s.sec ∧ (notGated a p cause s).pins = s.pins ∧ (notGated a p cause s).freeCtr = s.freeCtr ∧
    (notGated a p cause s).pending = s.pending := by
  unfold notGated
  exact ⟨(each_same State.regs _ _ _ (fun _ _ => by simp)).trans (by simp), (each_same State.ctrs _ _ _ (fun _ _ => by simp)).trans (by simp), (each_same
      State.snap _ _ _ (fun _ _ => by simp)).trans (by simp), (each_same State.mem _ _ _ (fun _ _ => by simp)).trans (by simp), (each_same State.nv _ _ _
      (fun _ _ => by simp)).trans (by simp), (each_same State.poison _ _ _ (fun _ _ => by simp)).trans (by simp), (each_same State.rdata _ _ _ (fun _ _ =>
      by simp)).trans (by simp), (each_same State.busErr _ _ _ (fun _ _ => by simp)).trans (by simp), (each_same State.dataExc _ _ _ (fun _ _ => by
      simp)).trans (by simp), (each_same State.plat _ _ _ (fun _ _ => by simp)).trans (by simp), (each_same State.gh _ _ _ (fun _ _ => by simp)).trans (by
      simp), (each_same State.sdl _ _ _ (fun _ _ => by simp)).trans (by simp), (each_same State.ice _ _ _ (fun _ _ => by simp)).trans (by simp), (each_same
      State.cal _ _ _ (fun _ _ => by simp)).trans (by simp), (each_same State.ksk _ _ _ (fun _ _ => by simp)).trans (by simp), (each_same State.replies _ _
      _ (fun _ _ => by simp)).trans (by simp), (each_same State.locks _ _ _ (fun _ _ => by simp)).trans (by simp), (each_same State.msix _ _ _ (fun _ _ =>
      by simp)).trans (by simp), (each_same State.asm _ _ _ (fun _ _ => by simp)).trans (by simp), (each_same State.held _ _ _ (fun _ _ => by simp)).trans
      (by simp), (each_same State.dmaLast _ _ _ (fun _ _ => by simp)).trans (by simp), (each_same State.spn _ _ _ (fun _ _ => by simp)).trans (by simp),
      (each_same State.spnQueue _ _ _ (fun _ _ => by simp)).trans (by simp), (each_same State.loops _ _ _ (fun _ _ => by simp)).trans (by simp), (each_same
      State.acts _ _ _ (fun _ _ => by simp)).trans (by simp), (each_same State.engs _ _ _ (fun _ _ => by simp)).trans (by simp), (each_same State.wOff _ _ _
      (fun _ _ => by simp)).trans (by simp), (each_same State.dn _ _ _ (fun _ _ => by simp)).trans (by simp), (each_same State.up _ _ _ (fun _ _ => by
      simp)).trans (by simp), (each_same State.lnks _ _ _ (fun _ _ => by simp)).trans (by simp), (each_same State.seqMaster _ _ _ (fun _ _ => by
      simp)).trans (by simp), (each_same State.seqStaged _ _ _ (fun _ _ => by simp)).trans (by simp), (each_same State.pool _ _ _ (fun _ _ => by
      simp)).trans (by simp), (each_same State.poolOrd _ _ _ (fun _ _ => by simp)).trans (by simp), (each_same State.chains _ _ _ (fun _ _ => by
      simp)).trans (by simp), (each_same State.outqs _ _ _ (fun _ _ => by simp)).trans (by simp), (each_same State.ldpc _ _ _ (fun _ _ => by simp)).trans
      (by simp), (each_same State.dram _ _ _ (fun _ _ => by simp)).trans (by simp), (each_same State.buf _ _ _ (fun _ _ => by simp)).trans (by simp),
      (each_same State.flips _ _ _ (fun _ _ => by simp)).trans (by simp), (each_same State.nvs _ _ _ (fun _ _ => by simp)).trans (by simp), (each_same
      State.sec _ _ _ (fun _ _ => by simp)).trans (by simp), (each_same State.pins _ _ _ (fun _ _ => by simp)).trans (by simp), (each_same State.freeCtr _ _
      _ (fun _ _ => by simp)).trans (by simp), (each_same State.pending _ _ _ (fun _ _ => by simp)).trans (by simp)⟩

/-- A sequencer enters a state. -/
@[simp] theorem setSeqState_frame (s : State) (a n : Nat) :
    (setSeqState a n s).ctrs = s.ctrs ∧ (setSeqState a n s).snap = s.snap ∧ (setSeqState a n s).mem = s.mem ∧ (setSeqState a n s).nv = s.nv ∧ (setSeqState
    a n s).poison = s.poison ∧ (setSeqState a n s).rdata = s.rdata ∧ (setSeqState a n s).busErr = s.busErr ∧ (setSeqState a n s).dataExc = s.dataExc ∧
    (setSeqState a n s).plat = s.plat ∧ (setSeqState a n s).gh = s.gh ∧ (setSeqState a n s).sdl = s.sdl ∧ (setSeqState a n s).ice = s.ice ∧ (setSeqState a
    n s).cal = s.cal ∧ (setSeqState a n s).ksk = s.ksk ∧ (setSeqState a n s).replies = s.replies ∧ (setSeqState a n s).locks = s.locks ∧ (setSeqState a n
    s).msix = s.msix ∧ (setSeqState a n s).asm = s.asm ∧ (setSeqState a n s).held = s.held ∧ (setSeqState a n s).dmaLast = s.dmaLast ∧ (setSeqState a n
    s).spn = s.spn ∧ (setSeqState a n s).spnQueue = s.spnQueue ∧ (setSeqState a n s).loops = s.loops ∧ (setSeqState a n s).acts = s.acts ∧ (setSeqState a
    n s).engs = s.engs ∧ (setSeqState a n s).wOff = s.wOff ∧ (setSeqState a n s).dn = s.dn ∧ (setSeqState a n s).up = s.up ∧ (setSeqState a n s).lnks =
    s.lnks ∧ (setSeqState a n s).seqs = s.seqs ∧ (setSeqState a n s).seqMaster = s.seqMaster ∧ (setSeqState a n s).seqStaged = s.seqStaged ∧ (setSeqState
    a n s).pool = s.pool ∧ (setSeqState a n s).poolOrd = s.poolOrd ∧ (setSeqState a n s).chains = s.chains ∧ (setSeqState a n s).outqs = s.outqs ∧
    (setSeqState a n s).ldpc = s.ldpc ∧ (setSeqState a n s).dram = s.dram ∧ (setSeqState a n s).buf = s.buf ∧ (setSeqState a n s).flips = s.flips ∧
    (setSeqState a n s).nvs = s.nvs ∧ (setSeqState a n s).hif = s.hif ∧ (setSeqState a n s).sec = s.sec ∧ (setSeqState a n s).pins = s.pins ∧ (setSeqState
    a n s).freeCtr = s.freeCtr ∧ (setSeqState a n s).pending = s.pending := by
  unfold setSeqState; simp

/-- A sequencer stops. -/
@[simp] theorem seqStop_frame (s : State) (a : Nat) :
    (seqStop a s).ctrs = s.ctrs ∧ (seqStop a s).snap = s.snap ∧ (seqStop a s).mem = s.mem ∧ (seqStop a s).nv = s.nv ∧ (seqStop a s).poison = s.poison ∧
    (seqStop a s).rdata = s.rdata ∧ (seqStop a s).busErr = s.busErr ∧ (seqStop a s).dataExc = s.dataExc ∧ (seqStop a s).plat = s.plat ∧ (seqStop a s).gh =
    s.gh ∧ (seqStop a s).sdl = s.sdl ∧ (seqStop a s).ice = s.ice ∧ (seqStop a s).cal = s.cal ∧ (seqStop a s).ksk = s.ksk ∧ (seqStop a s).replies =
    s.replies ∧ (seqStop a s).locks = s.locks ∧ (seqStop a s).msix = s.msix ∧ (seqStop a s).asm = s.asm ∧ (seqStop a s).held = s.held ∧ (seqStop a
    s).dmaLast = s.dmaLast ∧ (seqStop a s).spn = s.spn ∧ (seqStop a s).spnQueue = s.spnQueue ∧ (seqStop a s).loops = s.loops ∧ (seqStop a s).acts = s.acts
    ∧ (seqStop a s).engs = s.engs ∧ (seqStop a s).wOff = s.wOff ∧ (seqStop a s).dn = s.dn ∧ (seqStop a s).up = s.up ∧ (seqStop a s).lnks = s.lnks ∧
    (seqStop a s).seqMaster = s.seqMaster ∧ (seqStop a s).seqStaged = s.seqStaged ∧ (seqStop a s).pool = s.pool ∧ (seqStop a s).poolOrd = s.poolOrd ∧
    (seqStop a s).chains = s.chains ∧ (seqStop a s).outqs = s.outqs ∧ (seqStop a s).ldpc = s.ldpc ∧ (seqStop a s).dram = s.dram ∧ (seqStop a s).buf =
    s.buf ∧ (seqStop a s).flips = s.flips ∧ (seqStop a s).nvs = s.nvs ∧ (seqStop a s).sec = s.sec ∧ (seqStop a s).pins = s.pins ∧ (seqStop a s).freeCtr =
    s.freeCtr ∧ (seqStop a s).pending = s.pending := by
  unfold seqStop; simp

/-- A result record is posted (R248). -/
@[simp] theorem resPost_frame (s : State) (a : Nat) (w0 w1 : W32) :
    (resPost a w0 w1 s).ctrs = s.ctrs ∧ (resPost a w0 w1 s).snap = s.snap ∧ (resPost a w0 w1 s).mem = s.mem ∧ (resPost a w0 w1 s).nv = s.nv ∧ (resPost a
    w0 w1 s).poison = s.poison ∧ (resPost a w0 w1 s).rdata = s.rdata ∧ (resPost a w0 w1 s).busErr = s.busErr ∧ (resPost a w0 w1 s).dataExc = s.dataExc ∧
    (resPost a w0 w1 s).plat = s.plat ∧ (resPost a w0 w1 s).gh = s.gh ∧ (resPost a w0 w1 s).sdl = s.sdl ∧ (resPost a w0 w1 s).ice = s.ice ∧ (resPost a w0
    w1 s).cal = s.cal ∧ (resPost a w0 w1 s).ksk = s.ksk ∧ (resPost a w0 w1 s).replies = s.replies ∧ (resPost a w0 w1 s).locks = s.locks ∧ (resPost a w0 w1
    s).msix = s.msix ∧ (resPost a w0 w1 s).asm = s.asm ∧ (resPost a w0 w1 s).held = s.held ∧ (resPost a w0 w1 s).dmaLast = s.dmaLast ∧ (resPost a w0 w1
    s).spn = s.spn ∧ (resPost a w0 w1 s).spnQueue = s.spnQueue ∧ (resPost a w0 w1 s).loops = s.loops ∧ (resPost a w0 w1 s).acts = s.acts ∧ (resPost a w0
    w1 s).engs = s.engs ∧ (resPost a w0 w1 s).wOff = s.wOff ∧ (resPost a w0 w1 s).dn = s.dn ∧ (resPost a w0 w1 s).up = s.up ∧ (resPost a w0 w1 s).lnks =
    s.lnks ∧ (resPost a w0 w1 s).seqMaster = s.seqMaster ∧ (resPost a w0 w1 s).seqStaged = s.seqStaged ∧ (resPost a w0 w1 s).pool = s.pool ∧ (resPost a w0
    w1 s).poolOrd = s.poolOrd ∧ (resPost a w0 w1 s).chains = s.chains ∧ (resPost a w0 w1 s).outqs = s.outqs ∧ (resPost a w0 w1 s).ldpc = s.ldpc ∧ (resPost
    a w0 w1 s).dram = s.dram ∧ (resPost a w0 w1 s).buf = s.buf ∧ (resPost a w0 w1 s).flips = s.flips ∧ (resPost a w0 w1 s).nvs = s.nvs ∧ (resPost a w0 w1
    s).hif = s.hif ∧ (resPost a w0 w1 s).sec = s.sec ∧ (resPost a w0 w1 s).pins = s.pins ∧ (resPost a w0 w1 s).freeCtr = s.freeCtr ∧ (resPost a w0 w1
    s).pending = s.pending := by
  unfold resPost; try dsimp only
  repeat' split
  all_goals simp

/-- A descriptor slot is freed. -/
@[simp] theorem slotFree_frame (s : State) (a d : Nat) :
    (slotFree a d s).ctrs = s.ctrs ∧ (slotFree a d s).snap = s.snap ∧ (slotFree a d s).mem = s.mem ∧ (slotFree a d s).nv = s.nv ∧ (slotFree a d s).poison
    = s.poison ∧ (slotFree a d s).rdata = s.rdata ∧ (slotFree a d s).busErr = s.busErr ∧ (slotFree a d s).dataExc = s.dataExc ∧ (slotFree a d s).plat =
    s.plat ∧ (slotFree a d s).gh = s.gh ∧ (slotFree a d s).sdl = s.sdl ∧ (slotFree a d s).ice = s.ice ∧ (slotFree a d s).cal = s.cal ∧ (slotFree a d
    s).ksk = s.ksk ∧ (slotFree a d s).replies = s.replies ∧ (slotFree a d s).locks = s.locks ∧ (slotFree a d s).msix = s.msix ∧ (slotFree a d s).asm =
    s.asm ∧ (slotFree a d s).held = s.held ∧ (slotFree a d s).dmaLast = s.dmaLast ∧ (slotFree a d s).spn = s.spn ∧ (slotFree a d s).spnQueue = s.spnQueue
    ∧ (slotFree a d s).loops = s.loops ∧ (slotFree a d s).acts = s.acts ∧ (slotFree a d s).engs = s.engs ∧ (slotFree a d s).wOff = s.wOff ∧ (slotFree a d
    s).dn = s.dn ∧ (slotFree a d s).up = s.up ∧ (slotFree a d s).lnks = s.lnks ∧ (slotFree a d s).seqMaster = s.seqMaster ∧ (slotFree a d s).seqStaged =
    s.seqStaged ∧ (slotFree a d s).pool = s.pool ∧ (slotFree a d s).poolOrd = s.poolOrd ∧ (slotFree a d s).chains = s.chains ∧ (slotFree a d s).outqs =
    s.outqs ∧ (slotFree a d s).ldpc = s.ldpc ∧ (slotFree a d s).dram = s.dram ∧ (slotFree a d s).buf = s.buf ∧ (slotFree a d s).flips = s.flips ∧
    (slotFree a d s).nvs = s.nvs ∧ (slotFree a d s).hif = s.hif ∧ (slotFree a d s).sec = s.sec ∧ (slotFree a d s).pins = s.pins ∧ (slotFree a d s).freeCtr
    = s.freeCtr ∧ (slotFree a d s).pending = s.pending := by
  unfold slotFree; try dsimp only
  repeat' split
  all_goals simp

/-- A track operation ends. -/
@[simp] theorem opDone_frame (s : State) (a d status code : Nat) (trunc reset : Bool) (count : Nat) :
    (opDone a d status code trunc reset count s).ctrs = s.ctrs ∧ (opDone a d status code trunc reset count s).snap = s.snap ∧ (opDone a d status code
    trunc reset count s).mem = s.mem ∧ (opDone a d status code trunc reset count s).nv = s.nv ∧ (opDone a d status code trunc reset count s).poison =
    s.poison ∧ (opDone a d status code trunc reset count s).rdata = s.rdata ∧ (opDone a d status code trunc reset count s).busErr = s.busErr ∧ (opDone a d
    status code trunc reset count s).dataExc = s.dataExc ∧ (opDone a d status code trunc reset count s).plat = s.plat ∧ (opDone a d status code trunc
    reset count s).gh = s.gh ∧ (opDone a d status code trunc reset count s).sdl = s.sdl ∧ (opDone a d status code trunc reset count s).ice = s.ice ∧
    (opDone a d status code trunc reset count s).cal = s.cal ∧ (opDone a d status code trunc reset count s).ksk = s.ksk ∧ (opDone a d status code trunc
    reset count s).replies = s.replies ∧ (opDone a d status code trunc reset count s).locks = s.locks ∧ (opDone a d status code trunc reset count s).msix
    = s.msix ∧ (opDone a d status code trunc reset count s).asm = s.asm ∧ (opDone a d status code trunc reset count s).held = s.held ∧ (opDone a d status
    code trunc reset count s).dmaLast = s.dmaLast ∧ (opDone a d status code trunc reset count s).spn = s.spn ∧ (opDone a d status code trunc reset count
    s).spnQueue = s.spnQueue ∧ (opDone a d status code trunc reset count s).loops = s.loops ∧ (opDone a d status code trunc reset count s).acts = s.acts ∧
    (opDone a d status code trunc reset count s).engs = s.engs ∧ (opDone a d status code trunc reset count s).wOff = s.wOff ∧ (opDone a d status code
    trunc reset count s).dn = s.dn ∧ (opDone a d status code trunc reset count s).up = s.up ∧ (opDone a d status code trunc reset count s).lnks = s.lnks ∧
    (opDone a d status code trunc reset count s).seqMaster = s.seqMaster ∧ (opDone a d status code trunc reset count s).seqStaged = s.seqStaged ∧ (opDone
    a d status code trunc reset count s).pool = s.pool ∧ (opDone a d status code trunc reset count s).poolOrd = s.poolOrd ∧ (opDone a d status code trunc
    reset count s).chains = s.chains ∧ (opDone a d status code trunc reset count s).outqs = s.outqs ∧ (opDone a d status code trunc reset count s).ldpc =
    s.ldpc ∧ (opDone a d status code trunc reset count s).dram = s.dram ∧ (opDone a d status code trunc reset count s).buf = s.buf ∧ (opDone a d status
    code trunc reset count s).flips = s.flips ∧ (opDone a d status code trunc reset count s).nvs = s.nvs ∧ (opDone a d status code trunc reset count
    s).hif = s.hif ∧ (opDone a d status code trunc reset count s).sec = s.sec ∧ (opDone a d status code trunc reset count s).pins = s.pins ∧ (opDone a d
    status code trunc reset count s).freeCtr = s.freeCtr ∧ (opDone a d status code trunc reset count s).pending = s.pending := by
  unfold opDone; simp

/-- A sequencer fault (R252). -/
@[simp] theorem seqFault_frame (s : State) (a : Nat) (cause : Fld) :
    (seqFault a cause s).snap = s.snap ∧ (seqFault a cause s).mem = s.mem ∧ (seqFault a cause s).nv = s.nv ∧ (seqFault a cause s).poison = s.poison ∧
    (seqFault a cause s).rdata = s.rdata ∧ (seqFault a cause s).busErr = s.busErr ∧ (seqFault a cause s).dataExc = s.dataExc ∧ (seqFault a cause s).plat =
    s.plat ∧ (seqFault a cause s).sdl = s.sdl ∧ (seqFault a cause s).ice = s.ice ∧ (seqFault a cause s).cal = s.cal ∧ (seqFault a cause s).ksk = s.ksk ∧
    (seqFault a cause s).replies = s.replies ∧ (seqFault a cause s).locks = s.locks ∧ (seqFault a cause s).msix = s.msix ∧ (seqFault a cause s).asm =
    s.asm ∧ (seqFault a cause s).held = s.held ∧ (seqFault a cause s).dmaLast = s.dmaLast ∧ (seqFault a cause s).spn = s.spn ∧ (seqFault a cause
    s).spnQueue = s.spnQueue ∧ (seqFault a cause s).loops = s.loops ∧ (seqFault a cause s).acts = s.acts ∧ (seqFault a cause s).engs = s.engs ∧ (seqFault
    a cause s).wOff = s.wOff ∧ (seqFault a cause s).dn = s.dn ∧ (seqFault a cause s).up = s.up ∧ (seqFault a cause s).lnks = s.lnks ∧ (seqFault a cause
    s).seqMaster = s.seqMaster ∧ (seqFault a cause s).seqStaged = s.seqStaged ∧ (seqFault a cause s).pool = s.pool ∧ (seqFault a cause s).poolOrd =
    s.poolOrd ∧ (seqFault a cause s).chains = s.chains ∧ (seqFault a cause s).outqs = s.outqs ∧ (seqFault a cause s).ldpc = s.ldpc ∧ (seqFault a cause
    s).dram = s.dram ∧ (seqFault a cause s).buf = s.buf ∧ (seqFault a cause s).flips = s.flips ∧ (seqFault a cause s).nvs = s.nvs ∧ (seqFault a cause
    s).sec = s.sec ∧ (seqFault a cause s).pins = s.pins ∧ (seqFault a cause s).freeCtr = s.freeCtr ∧ (seqFault a cause s).pending = s.pending := by
  unfold seqFault; try dsimp only
  repeat' split
  all_goals simp

/-- The next word. -/
@[simp] theorem goTo_frame (s : State) (a n : Nat) :
    (goTo a n s).regs = s.regs ∧ (goTo a n s).ctrs = s.ctrs ∧ (goTo a n s).snap = s.snap ∧ (goTo a n s).mem = s.mem ∧ (goTo a n s).nv = s.nv ∧ (goTo a n
    s).poison = s.poison ∧ (goTo a n s).rdata = s.rdata ∧ (goTo a n s).busErr = s.busErr ∧ (goTo a n s).dataExc = s.dataExc ∧ (goTo a n s).plat = s.plat ∧
    (goTo a n s).gh = s.gh ∧ (goTo a n s).sdl = s.sdl ∧ (goTo a n s).ice = s.ice ∧ (goTo a n s).cal = s.cal ∧ (goTo a n s).ksk = s.ksk ∧ (goTo a n
    s).replies = s.replies ∧ (goTo a n s).locks = s.locks ∧ (goTo a n s).msix = s.msix ∧ (goTo a n s).asm = s.asm ∧ (goTo a n s).held = s.held ∧ (goTo a n
    s).dmaLast = s.dmaLast ∧ (goTo a n s).spn = s.spn ∧ (goTo a n s).spnQueue = s.spnQueue ∧ (goTo a n s).loops = s.loops ∧ (goTo a n s).acts = s.acts ∧
    (goTo a n s).engs = s.engs ∧ (goTo a n s).wOff = s.wOff ∧ (goTo a n s).dn = s.dn ∧ (goTo a n s).up = s.up ∧ (goTo a n s).lnks = s.lnks ∧ (goTo a n
    s).seqMaster = s.seqMaster ∧ (goTo a n s).seqStaged = s.seqStaged ∧ (goTo a n s).pool = s.pool ∧ (goTo a n s).poolOrd = s.poolOrd ∧ (goTo a n
    s).chains = s.chains ∧ (goTo a n s).outqs = s.outqs ∧ (goTo a n s).ldpc = s.ldpc ∧ (goTo a n s).dram = s.dram ∧ (goTo a n s).buf = s.buf ∧ (goTo a n
    s).flips = s.flips ∧ (goTo a n s).nvs = s.nvs ∧ (goTo a n s).hif = s.hif ∧ (goTo a n s).sec = s.sec ∧ (goTo a n s).pins = s.pins ∧ (goTo a n
    s).freeCtr = s.freeCtr ∧ (goTo a n s).pending = s.pending := by
  unfold goTo; simp

/-- A write of a general register (R227). -/
@[simp] theorem gPut_frame (s : State) (a r : Nat) (v : W32) :
    (gPut a r v s).regs = s.regs ∧ (gPut a r v s).ctrs = s.ctrs ∧ (gPut a r v s).snap = s.snap ∧ (gPut a r v s).mem = s.mem ∧ (gPut a r v s).nv = s.nv ∧
    (gPut a r v s).poison = s.poison ∧ (gPut a r v s).rdata = s.rdata ∧ (gPut a r v s).busErr = s.busErr ∧ (gPut a r v s).dataExc = s.dataExc ∧ (gPut a r
    v s).plat = s.plat ∧ (gPut a r v s).gh = s.gh ∧ (gPut a r v s).sdl = s.sdl ∧ (gPut a r v s).ice = s.ice ∧ (gPut a r v s).cal = s.cal ∧ (gPut a r v
    s).ksk = s.ksk ∧ (gPut a r v s).replies = s.replies ∧ (gPut a r v s).locks = s.locks ∧ (gPut a r v s).msix = s.msix ∧ (gPut a r v s).asm = s.asm ∧
    (gPut a r v s).held = s.held ∧ (gPut a r v s).dmaLast = s.dmaLast ∧ (gPut a r v s).spn = s.spn ∧ (gPut a r v s).spnQueue = s.spnQueue ∧ (gPut a r v
    s).loops = s.loops ∧ (gPut a r v s).acts = s.acts ∧ (gPut a r v s).engs = s.engs ∧ (gPut a r v s).wOff = s.wOff ∧ (gPut a r v s).dn = s.dn ∧ (gPut a r
    v s).up = s.up ∧ (gPut a r v s).lnks = s.lnks ∧ (gPut a r v s).seqMaster = s.seqMaster ∧ (gPut a r v s).seqStaged = s.seqStaged ∧ (gPut a r v s).pool
    = s.pool ∧ (gPut a r v s).poolOrd = s.poolOrd ∧ (gPut a r v s).chains = s.chains ∧ (gPut a r v s).outqs = s.outqs ∧ (gPut a r v s).ldpc = s.ldpc ∧
    (gPut a r v s).dram = s.dram ∧ (gPut a r v s).buf = s.buf ∧ (gPut a r v s).flips = s.flips ∧ (gPut a r v s).nvs = s.nvs ∧ (gPut a r v s).hif = s.hif ∧
    (gPut a r v s).sec = s.sec ∧ (gPut a r v s).pins = s.pins ∧ (gPut a r v s).freeCtr = s.freeCtr ∧ (gPut a r v s).pending = s.pending := by
  unfold gPut; try dsimp only
  repeat' split
  all_goals simp

/-- The host interface status registers. -/
@[simp] theorem hifShow_frame (s : State) :
    (hifShow s).ctrs = s.ctrs ∧ (hifShow s).snap = s.snap ∧ (hifShow s).mem = s.mem ∧ (hifShow s).nv = s.nv ∧ (hifShow s).poison = s.poison ∧ (hifShow
    s).rdata = s.rdata ∧ (hifShow s).busErr = s.busErr ∧ (hifShow s).dataExc = s.dataExc ∧ (hifShow s).plat = s.plat ∧ (hifShow s).gh = s.gh ∧ (hifShow
    s).sdl = s.sdl ∧ (hifShow s).ice = s.ice ∧ (hifShow s).cal = s.cal ∧ (hifShow s).ksk = s.ksk ∧ (hifShow s).replies = s.replies ∧ (hifShow s).locks =
    s.locks ∧ (hifShow s).msix = s.msix ∧ (hifShow s).asm = s.asm ∧ (hifShow s).held = s.held ∧ (hifShow s).dmaLast = s.dmaLast ∧ (hifShow s).spn = s.spn
    ∧ (hifShow s).spnQueue = s.spnQueue ∧ (hifShow s).loops = s.loops ∧ (hifShow s).acts = s.acts ∧ (hifShow s).engs = s.engs ∧ (hifShow s).wOff = s.wOff
    ∧ (hifShow s).dn = s.dn ∧ (hifShow s).up = s.up ∧ (hifShow s).lnks = s.lnks ∧ (hifShow s).seqs = s.seqs ∧ (hifShow s).seqMaster = s.seqMaster ∧
    (hifShow s).seqStaged = s.seqStaged ∧ (hifShow s).pool = s.pool ∧ (hifShow s).poolOrd = s.poolOrd ∧ (hifShow s).chains = s.chains ∧ (hifShow s).outqs
    = s.outqs ∧ (hifShow s).ldpc = s.ldpc ∧ (hifShow s).dram = s.dram ∧ (hifShow s).buf = s.buf ∧ (hifShow s).flips = s.flips ∧ (hifShow s).nvs = s.nvs ∧
    (hifShow s).hif = s.hif ∧ (hifShow s).sec = s.sec ∧ (hifShow s).pins = s.pins ∧ (hifShow s).freeCtr = s.freeCtr ∧ (hifShow s).pending = s.pending := by
  unfold hifShow; simp

/-- What a tag holds. -/
@[simp] theorem setTask_frame (s : State) (t : Nat) (x : Option HTask) :
    (setTask t x s).regs = s.regs ∧ (setTask t x s).ctrs = s.ctrs ∧ (setTask t x s).snap = s.snap ∧ (setTask t x s).mem = s.mem ∧ (setTask t x s).nv =
    s.nv ∧ (setTask t x s).poison = s.poison ∧ (setTask t x s).rdata = s.rdata ∧ (setTask t x s).busErr = s.busErr ∧ (setTask t x s).dataExc = s.dataExc ∧
    (setTask t x s).plat = s.plat ∧ (setTask t x s).gh = s.gh ∧ (setTask t x s).sdl = s.sdl ∧ (setTask t x s).ice = s.ice ∧ (setTask t x s).cal = s.cal ∧
    (setTask t x s).ksk = s.ksk ∧ (setTask t x s).replies = s.replies ∧ (setTask t x s).locks = s.locks ∧ (setTask t x s).msix = s.msix ∧ (setTask t x
    s).asm = s.asm ∧ (setTask t x s).held = s.held ∧ (setTask t x s).dmaLast = s.dmaLast ∧ (setTask t x s).spn = s.spn ∧ (setTask t x s).spnQueue =
    s.spnQueue ∧ (setTask t x s).loops = s.loops ∧ (setTask t x s).acts = s.acts ∧ (setTask t x s).engs = s.engs ∧ (setTask t x s).wOff = s.wOff ∧
    (setTask t x s).dn = s.dn ∧ (setTask t x s).up = s.up ∧ (setTask t x s).lnks = s.lnks ∧ (setTask t x s).seqs = s.seqs ∧ (setTask t x s).seqMaster =
    s.seqMaster ∧ (setTask t x s).seqStaged = s.seqStaged ∧ (setTask t x s).pool = s.pool ∧ (setTask t x s).poolOrd = s.poolOrd ∧ (setTask t x s).chains =
    s.chains ∧ (setTask t x s).outqs = s.outqs ∧ (setTask t x s).ldpc = s.ldpc ∧ (setTask t x s).dram = s.dram ∧ (setTask t x s).buf = s.buf ∧ (setTask t
    x s).flips = s.flips ∧ (setTask t x s).nvs = s.nvs ∧ (setTask t x s).sec = s.sec ∧ (setTask t x s).pins = s.pins ∧ (setTask t x s).freeCtr = s.freeCtr
    ∧ (setTask t x s).pending = s.pending := by
  unfold setTask; simp

/-- A change of a command. -/
@[simp] theorem modTask_frame (s : State) (t : Nat) (f : HTask → HTask) :
    (modTask t f s).regs = s.regs ∧ (modTask t f s).ctrs = s.ctrs ∧ (modTask t f s).snap = s.snap ∧ (modTask t f s).mem = s.mem ∧ (modTask t f s).nv =
    s.nv ∧ (modTask t f s).poison = s.poison ∧ (modTask t f s).rdata = s.rdata ∧ (modTask t f s).busErr = s.busErr ∧ (modTask t f s).dataExc = s.dataExc ∧
    (modTask t f s).plat = s.plat ∧ (modTask t f s).gh = s.gh ∧ (modTask t f s).sdl = s.sdl ∧ (modTask t f s).ice = s.ice ∧ (modTask t f s).cal = s.cal ∧
    (modTask t f s).ksk = s.ksk ∧ (modTask t f s).replies = s.replies ∧ (modTask t f s).locks = s.locks ∧ (modTask t f s).msix = s.msix ∧ (modTask t f
    s).asm = s.asm ∧ (modTask t f s).held = s.held ∧ (modTask t f s).dmaLast = s.dmaLast ∧ (modTask t f s).spn = s.spn ∧ (modTask t f s).spnQueue =
    s.spnQueue ∧ (modTask t f s).loops = s.loops ∧ (modTask t f s).acts = s.acts ∧ (modTask t f s).engs = s.engs ∧ (modTask t f s).wOff = s.wOff ∧
    (modTask t f s).dn = s.dn ∧ (modTask t f s).up = s.up ∧ (modTask t f s).lnks = s.lnks ∧ (modTask t f s).seqs = s.seqs ∧ (modTask t f s).seqMaster =
    s.seqMaster ∧ (modTask t f s).seqStaged = s.seqStaged ∧ (modTask t f s).pool = s.pool ∧ (modTask t f s).poolOrd = s.poolOrd ∧ (modTask t f s).chains =
    s.chains ∧ (modTask t f s).outqs = s.outqs ∧ (modTask t f s).ldpc = s.ldpc ∧ (modTask t f s).dram = s.dram ∧ (modTask t f s).buf = s.buf ∧ (modTask t
    f s).flips = s.flips ∧ (modTask t f s).nvs = s.nvs ∧ (modTask t f s).sec = s.sec ∧ (modTask t f s).pins = s.pins ∧ (modTask t f s).freeCtr = s.freeCtr
    ∧ (modTask t f s).pending = s.pending := by
  unfold modTask; simp

/-- A completion is posted (R320). -/
@[simp] theorem postCpl_frame (s : State) (t status : Nat) (dw0 dw1 : W32) :
    (postCpl t status dw0 dw1 s).ctrs = s.ctrs ∧ (postCpl t status dw0 dw1 s).snap = s.snap ∧ (postCpl t status dw0 dw1 s).mem = s.mem ∧ (postCpl t status
    dw0 dw1 s).nv = s.nv ∧ (postCpl t status dw0 dw1 s).poison = s.poison ∧ (postCpl t status dw0 dw1 s).rdata = s.rdata ∧ (postCpl t status dw0 dw1
    s).busErr = s.busErr ∧ (postCpl t status dw0 dw1 s).dataExc = s.dataExc ∧ (postCpl t status dw0 dw1 s).plat = s.plat ∧ (postCpl t status dw0 dw1 s).gh
    = s.gh ∧ (postCpl t status dw0 dw1 s).sdl = s.sdl ∧ (postCpl t status dw0 dw1 s).ice = s.ice ∧ (postCpl t status dw0 dw1 s).cal = s.cal ∧ (postCpl t
    status dw0 dw1 s).ksk = s.ksk ∧ (postCpl t status dw0 dw1 s).replies = s.replies ∧ (postCpl t status dw0 dw1 s).locks = s.locks ∧ (postCpl t status
    dw0 dw1 s).msix = s.msix ∧ (postCpl t status dw0 dw1 s).asm = s.asm ∧ (postCpl t status dw0 dw1 s).held = s.held ∧ (postCpl t status dw0 dw1
    s).dmaLast = s.dmaLast ∧ (postCpl t status dw0 dw1 s).spn = s.spn ∧ (postCpl t status dw0 dw1 s).spnQueue = s.spnQueue ∧ (postCpl t status dw0 dw1
    s).loops = s.loops ∧ (postCpl t status dw0 dw1 s).acts = s.acts ∧ (postCpl t status dw0 dw1 s).engs = s.engs ∧ (postCpl t status dw0 dw1 s).wOff =
    s.wOff ∧ (postCpl t status dw0 dw1 s).dn = s.dn ∧ (postCpl t status dw0 dw1 s).up = s.up ∧ (postCpl t status dw0 dw1 s).lnks = s.lnks ∧ (postCpl t
    status dw0 dw1 s).seqs = s.seqs ∧ (postCpl t status dw0 dw1 s).seqMaster = s.seqMaster ∧ (postCpl t status dw0 dw1 s).seqStaged = s.seqStaged ∧
    (postCpl t status dw0 dw1 s).pool = s.pool ∧ (postCpl t status dw0 dw1 s).poolOrd = s.poolOrd ∧ (postCpl t status dw0 dw1 s).chains = s.chains ∧
    (postCpl t status dw0 dw1 s).outqs = s.outqs ∧ (postCpl t status dw0 dw1 s).ldpc = s.ldpc ∧ (postCpl t status dw0 dw1 s).dram = s.dram ∧ (postCpl t
    status dw0 dw1 s).buf = s.buf ∧ (postCpl t status dw0 dw1 s).flips = s.flips ∧ (postCpl t status dw0 dw1 s).nvs = s.nvs ∧ (postCpl t status dw0 dw1
    s).sec = s.sec ∧ (postCpl t status dw0 dw1 s).pins = s.pins ∧ (postCpl t status dw0 dw1 s).freeCtr = s.freeCtr ∧ (postCpl t status dw0 dw1 s).pending
    = s.pending := by
  unfold postCpl; try dsimp only
  repeat' split
  all_goals simp

/-- A command completes with a status and a double word. -/
@[simp] theorem completeDw_frame (s : State) (t sct sc : Nat) (dw0 : W32) :
    (completeDw t sct sc dw0 s).ctrs = s.ctrs ∧ (completeDw t sct sc dw0 s).snap = s.snap ∧ (completeDw t sct sc dw0 s).mem = s.mem ∧ (completeDw t sct sc
    dw0 s).nv = s.nv ∧ (completeDw t sct sc dw0 s).poison = s.poison ∧ (completeDw t sct sc dw0 s).rdata = s.rdata ∧ (completeDw t sct sc dw0 s).busErr =
    s.busErr ∧ (completeDw t sct sc dw0 s).dataExc = s.dataExc ∧ (completeDw t sct sc dw0 s).plat = s.plat ∧ (completeDw t sct sc dw0 s).gh = s.gh ∧
    (completeDw t sct sc dw0 s).sdl = s.sdl ∧ (completeDw t sct sc dw0 s).ice = s.ice ∧ (completeDw t sct sc dw0 s).cal = s.cal ∧ (completeDw t sct sc dw0
    s).ksk = s.ksk ∧ (completeDw t sct sc dw0 s).replies = s.replies ∧ (completeDw t sct sc dw0 s).locks = s.locks ∧ (completeDw t sct sc dw0 s).msix =
    s.msix ∧ (completeDw t sct sc dw0 s).asm = s.asm ∧ (completeDw t sct sc dw0 s).held = s.held ∧ (completeDw t sct sc dw0 s).dmaLast = s.dmaLast ∧
    (completeDw t sct sc dw0 s).spn = s.spn ∧ (completeDw t sct sc dw0 s).spnQueue = s.spnQueue ∧ (completeDw t sct sc dw0 s).loops = s.loops ∧
    (completeDw t sct sc dw0 s).acts = s.acts ∧ (completeDw t sct sc dw0 s).engs = s.engs ∧ (completeDw t sct sc dw0 s).wOff = s.wOff ∧ (completeDw t sct
    sc dw0 s).dn = s.dn ∧ (completeDw t sct sc dw0 s).up = s.up ∧ (completeDw t sct sc dw0 s).lnks = s.lnks ∧ (completeDw t sct sc dw0 s).seqs = s.seqs ∧
    (completeDw t sct sc dw0 s).seqMaster = s.seqMaster ∧ (completeDw t sct sc dw0 s).seqStaged = s.seqStaged ∧ (completeDw t sct sc dw0 s).pool = s.pool
    ∧ (completeDw t sct sc dw0 s).poolOrd = s.poolOrd ∧ (completeDw t sct sc dw0 s).chains = s.chains ∧ (completeDw t sct sc dw0 s).outqs = s.outqs ∧
    (completeDw t sct sc dw0 s).ldpc = s.ldpc ∧ (completeDw t sct sc dw0 s).dram = s.dram ∧ (completeDw t sct sc dw0 s).buf = s.buf ∧ (completeDw t sct sc
    dw0 s).flips = s.flips ∧ (completeDw t sct sc dw0 s).nvs = s.nvs ∧ (completeDw t sct sc dw0 s).sec = s.sec ∧ (completeDw t sct sc dw0 s).pins = s.pins
    ∧ (completeDw t sct sc dw0 s).pending = s.pending := by
  unfold completeDw; try dsimp only
  repeat' split
  all_goals simp

/-- A command completes with a status. -/
@[simp] theorem complete_frame (s : State) (t sct sc : Nat) :
    (complete t sct sc s).ctrs = s.ctrs ∧ (complete t sct sc s).snap = s.snap ∧ (complete t sct sc s).mem = s.mem ∧ (complete t sct sc s).nv = s.nv ∧
    (complete t sct sc s).poison = s.poison ∧ (complete t sct sc s).rdata = s.rdata ∧ (complete t sct sc s).busErr = s.busErr ∧ (complete t sct sc
    s).dataExc = s.dataExc ∧ (complete t sct sc s).plat = s.plat ∧ (complete t sct sc s).gh = s.gh ∧ (complete t sct sc s).sdl = s.sdl ∧ (complete t sct
    sc s).ice = s.ice ∧ (complete t sct sc s).cal = s.cal ∧ (complete t sct sc s).ksk = s.ksk ∧ (complete t sct sc s).replies = s.replies ∧ (complete t
    sct sc s).locks = s.locks ∧ (complete t sct sc s).msix = s.msix ∧ (complete t sct sc s).asm = s.asm ∧ (complete t sct sc s).held = s.held ∧ (complete
    t sct sc s).dmaLast = s.dmaLast ∧ (complete t sct sc s).spn = s.spn ∧ (complete t sct sc s).spnQueue = s.spnQueue ∧ (complete t sct sc s).loops =
    s.loops ∧ (complete t sct sc s).acts = s.acts ∧ (complete t sct sc s).engs = s.engs ∧ (complete t sct sc s).wOff = s.wOff ∧ (complete t sct sc s).dn =
    s.dn ∧ (complete t sct sc s).up = s.up ∧ (complete t sct sc s).lnks = s.lnks ∧ (complete t sct sc s).seqs = s.seqs ∧ (complete t sct sc s).seqMaster =
    s.seqMaster ∧ (complete t sct sc s).seqStaged = s.seqStaged ∧ (complete t sct sc s).pool = s.pool ∧ (complete t sct sc s).poolOrd = s.poolOrd ∧
    (complete t sct sc s).chains = s.chains ∧ (complete t sct sc s).outqs = s.outqs ∧ (complete t sct sc s).ldpc = s.ldpc ∧ (complete t sct sc s).dram =
    s.dram ∧ (complete t sct sc s).buf = s.buf ∧ (complete t sct sc s).flips = s.flips ∧ (complete t sct sc s).nvs = s.nvs ∧ (complete t sct sc s).sec =
    s.sec ∧ (complete t sct sc s).pins = s.pins ∧ (complete t sct sc s).pending = s.pending := by
  unfold complete; simp

/-- A command completes without error. -/
@[simp] theorem done_frame (s : State) (t : Nat) :
    (done t s).ctrs = s.ctrs ∧ (done t s).snap = s.snap ∧ (done t s).mem = s.mem ∧ (done t s).nv = s.nv ∧ (done t s).poison = s.poison ∧ (done t s).rdata
    = s.rdata ∧ (done t s).busErr = s.busErr ∧ (done t s).dataExc = s.dataExc ∧ (done t s).plat = s.plat ∧ (done t s).gh = s.gh ∧ (done t s).sdl = s.sdl ∧
    (done t s).ice = s.ice ∧ (done t s).cal = s.cal ∧ (done t s).ksk = s.ksk ∧ (done t s).replies = s.replies ∧ (done t s).locks = s.locks ∧ (done t
    s).msix = s.msix ∧ (done t s).asm = s.asm ∧ (done t s).held = s.held ∧ (done t s).dmaLast = s.dmaLast ∧ (done t s).spn = s.spn ∧ (done t s).spnQueue =
    s.spnQueue ∧ (done t s).loops = s.loops ∧ (done t s).acts = s.acts ∧ (done t s).engs = s.engs ∧ (done t s).wOff = s.wOff ∧ (done t s).dn = s.dn ∧
    (done t s).up = s.up ∧ (done t s).lnks = s.lnks ∧ (done t s).seqs = s.seqs ∧ (done t s).seqMaster = s.seqMaster ∧ (done t s).seqStaged = s.seqStaged ∧
    (done t s).pool = s.pool ∧ (done t s).poolOrd = s.poolOrd ∧ (done t s).chains = s.chains ∧ (done t s).outqs = s.outqs ∧ (done t s).ldpc = s.ldpc ∧
    (done t s).dram = s.dram ∧ (done t s).buf = s.buf ∧ (done t s).flips = s.flips ∧ (done t s).nvs = s.nvs ∧ (done t s).sec = s.sec ∧ (done t s).pins =
    s.pins ∧ (done t s).pending = s.pending := by
  unfold done; simp

/-- A command completes with Invalid Field. -/
@[simp] theorem badField_frame (s : State) (t : Nat) :
    (badField t s).ctrs = s.ctrs ∧ (badField t s).snap = s.snap ∧ (badField t s).mem = s.mem ∧ (badField t s).nv = s.nv ∧ (badField t s).poison = s.poison
    ∧ (badField t s).rdata = s.rdata ∧ (badField t s).busErr = s.busErr ∧ (badField t s).dataExc = s.dataExc ∧ (badField t s).plat = s.plat ∧ (badField t
    s).gh = s.gh ∧ (badField t s).sdl = s.sdl ∧ (badField t s).ice = s.ice ∧ (badField t s).cal = s.cal ∧ (badField t s).ksk = s.ksk ∧ (badField t
    s).replies = s.replies ∧ (badField t s).locks = s.locks ∧ (badField t s).msix = s.msix ∧ (badField t s).asm = s.asm ∧ (badField t s).held = s.held ∧
    (badField t s).dmaLast = s.dmaLast ∧ (badField t s).spn = s.spn ∧ (badField t s).spnQueue = s.spnQueue ∧ (badField t s).loops = s.loops ∧ (badField t
    s).acts = s.acts ∧ (badField t s).engs = s.engs ∧ (badField t s).wOff = s.wOff ∧ (badField t s).dn = s.dn ∧ (badField t s).up = s.up ∧ (badField t
    s).lnks = s.lnks ∧ (badField t s).seqs = s.seqs ∧ (badField t s).seqMaster = s.seqMaster ∧ (badField t s).seqStaged = s.seqStaged ∧ (badField t
    s).pool = s.pool ∧ (badField t s).poolOrd = s.poolOrd ∧ (badField t s).chains = s.chains ∧ (badField t s).outqs = s.outqs ∧ (badField t s).ldpc =
    s.ldpc ∧ (badField t s).dram = s.dram ∧ (badField t s).buf = s.buf ∧ (badField t s).flips = s.flips ∧ (badField t s).nvs = s.nvs ∧ (badField t s).sec
    = s.sec ∧ (badField t s).pins = s.pins ∧ (badField t s).pending = s.pending := by
  unfold badField; simp

/-- A read statistic. -/
@[simp] theorem rchStat_frame (s : State) (a n : Nat) :
    (rchStat a n s).regs = s.regs ∧ (rchStat a n s).snap = s.snap ∧ (rchStat a n s).mem = s.mem ∧ (rchStat a n s).nv = s.nv ∧ (rchStat a n s).poison =
    s.poison ∧ (rchStat a n s).rdata = s.rdata ∧ (rchStat a n s).busErr = s.busErr ∧ (rchStat a n s).dataExc = s.dataExc ∧ (rchStat a n s).plat = s.plat ∧
    (rchStat a n s).gh = s.gh ∧ (rchStat a n s).sdl = s.sdl ∧ (rchStat a n s).ice = s.ice ∧ (rchStat a n s).cal = s.cal ∧ (rchStat a n s).ksk = s.ksk ∧
    (rchStat a n s).replies = s.replies ∧ (rchStat a n s).locks = s.locks ∧ (rchStat a n s).msix = s.msix ∧ (rchStat a n s).asm = s.asm ∧ (rchStat a n
    s).held = s.held ∧ (rchStat a n s).dmaLast = s.dmaLast ∧ (rchStat a n s).spn = s.spn ∧ (rchStat a n s).spnQueue = s.spnQueue ∧ (rchStat a n s).loops =
    s.loops ∧ (rchStat a n s).acts = s.acts ∧ (rchStat a n s).engs = s.engs ∧ (rchStat a n s).wOff = s.wOff ∧ (rchStat a n s).dn = s.dn ∧ (rchStat a n
    s).up = s.up ∧ (rchStat a n s).lnks = s.lnks ∧ (rchStat a n s).seqs = s.seqs ∧ (rchStat a n s).seqMaster = s.seqMaster ∧ (rchStat a n s).seqStaged =
    s.seqStaged ∧ (rchStat a n s).pool = s.pool ∧ (rchStat a n s).poolOrd = s.poolOrd ∧ (rchStat a n s).chains = s.chains ∧ (rchStat a n s).outqs =
    s.outqs ∧ (rchStat a n s).ldpc = s.ldpc ∧ (rchStat a n s).dram = s.dram ∧ (rchStat a n s).buf = s.buf ∧ (rchStat a n s).flips = s.flips ∧ (rchStat a n
    s).nvs = s.nvs ∧ (rchStat a n s).hif = s.hif ∧ (rchStat a n s).sec = s.sec ∧ (rchStat a n s).pins = s.pins ∧ (rchStat a n s).freeCtr = s.freeCtr ∧
    (rchStat a n s).pending = s.pending := by
  unfold rchStat; simp

/-- A statistic of the retention pool. -/
@[simp] theorem poolStat_frame (s : State) (n : Nat) :
    (poolStat n s).regs = s.regs ∧ (poolStat n s).snap = s.snap ∧ (poolStat n s).mem = s.mem ∧ (poolStat n s).nv = s.nv ∧ (poolStat n s).poison = s.poison
    ∧ (poolStat n s).rdata = s.rdata ∧ (poolStat n s).busErr = s.busErr ∧ (poolStat n s).dataExc = s.dataExc ∧ (poolStat n s).plat = s.plat ∧ (poolStat n
    s).gh = s.gh ∧ (poolStat n s).sdl = s.sdl ∧ (poolStat n s).ice = s.ice ∧ (poolStat n s).cal = s.cal ∧ (poolStat n s).ksk = s.ksk ∧ (poolStat n
    s).replies = s.replies ∧ (poolStat n s).locks = s.locks ∧ (poolStat n s).msix = s.msix ∧ (poolStat n s).asm = s.asm ∧ (poolStat n s).held = s.held ∧
    (poolStat n s).dmaLast = s.dmaLast ∧ (poolStat n s).spn = s.spn ∧ (poolStat n s).spnQueue = s.spnQueue ∧ (poolStat n s).loops = s.loops ∧ (poolStat n
    s).acts = s.acts ∧ (poolStat n s).engs = s.engs ∧ (poolStat n s).wOff = s.wOff ∧ (poolStat n s).dn = s.dn ∧ (poolStat n s).up = s.up ∧ (poolStat n
    s).lnks = s.lnks ∧ (poolStat n s).seqs = s.seqs ∧ (poolStat n s).seqMaster = s.seqMaster ∧ (poolStat n s).seqStaged = s.seqStaged ∧ (poolStat n
    s).pool = s.pool ∧ (poolStat n s).poolOrd = s.poolOrd ∧ (poolStat n s).chains = s.chains ∧ (poolStat n s).outqs = s.outqs ∧ (poolStat n s).ldpc =
    s.ldpc ∧ (poolStat n s).dram = s.dram ∧ (poolStat n s).buf = s.buf ∧ (poolStat n s).flips = s.flips ∧ (poolStat n s).nvs = s.nvs ∧ (poolStat n s).hif
    = s.hif ∧ (poolStat n s).sec = s.sec ∧ (poolStat n s).pins = s.pins ∧ (poolStat n s).freeCtr = s.freeCtr ∧ (poolStat n s).pending = s.pending := by
  unfold poolStat; simp

/-- A statistic of the host interface. -/
@[simp] theorem hifStat_frame (s : State) (n k : Nat) :
    (hifStat n k s).regs = s.regs ∧ (hifStat n k s).snap = s.snap ∧ (hifStat n k s).mem = s.mem ∧ (hifStat n k s).nv = s.nv ∧ (hifStat n k s).poison =
    s.poison ∧ (hifStat n k s).rdata = s.rdata ∧ (hifStat n k s).busErr = s.busErr ∧ (hifStat n k s).dataExc = s.dataExc ∧ (hifStat n k s).plat = s.plat ∧
    (hifStat n k s).gh = s.gh ∧ (hifStat n k s).sdl = s.sdl ∧ (hifStat n k s).ice = s.ice ∧ (hifStat n k s).cal = s.cal ∧ (hifStat n k s).ksk = s.ksk ∧
    (hifStat n k s).replies = s.replies ∧ (hifStat n k s).locks = s.locks ∧ (hifStat n k s).msix = s.msix ∧ (hifStat n k s).asm = s.asm ∧ (hifStat n k
    s).held = s.held ∧ (hifStat n k s).dmaLast = s.dmaLast ∧ (hifStat n k s).spn = s.spn ∧ (hifStat n k s).spnQueue = s.spnQueue ∧ (hifStat n k s).loops =
    s.loops ∧ (hifStat n k s).acts = s.acts ∧ (hifStat n k s).engs = s.engs ∧ (hifStat n k s).wOff = s.wOff ∧ (hifStat n k s).dn = s.dn ∧ (hifStat n k
    s).up = s.up ∧ (hifStat n k s).lnks = s.lnks ∧ (hifStat n k s).seqs = s.seqs ∧ (hifStat n k s).seqMaster = s.seqMaster ∧ (hifStat n k s).seqStaged =
    s.seqStaged ∧ (hifStat n k s).pool = s.pool ∧ (hifStat n k s).poolOrd = s.poolOrd ∧ (hifStat n k s).chains = s.chains ∧ (hifStat n k s).outqs =
    s.outqs ∧ (hifStat n k s).ldpc = s.ldpc ∧ (hifStat n k s).dram = s.dram ∧ (hifStat n k s).buf = s.buf ∧ (hifStat n k s).flips = s.flips ∧ (hifStat n k
    s).nvs = s.nvs ∧ (hifStat n k s).hif = s.hif ∧ (hifStat n k s).sec = s.sec ∧ (hifStat n k s).pins = s.pins ∧ (hifStat n k s).freeCtr = s.freeCtr ∧
    (hifStat n k s).pending = s.pending := by
  unfold hifStat; simp

/-- The state registers of the retention pool. -/
@[simp] theorem poolShow_frame (s : State) :
    (poolShow s).ctrs = s.ctrs ∧ (poolShow s).snap = s.snap ∧ (poolShow s).mem = s.mem ∧ (poolShow s).nv = s.nv ∧ (poolShow s).poison = s.poison ∧
    (poolShow s).rdata = s.rdata ∧ (poolShow s).busErr = s.busErr ∧ (poolShow s).dataExc = s.dataExc ∧ (poolShow s).plat = s.plat ∧ (poolShow s).gh = s.gh
    ∧ (poolShow s).sdl = s.sdl ∧ (poolShow s).ice = s.ice ∧ (poolShow s).cal = s.cal ∧ (poolShow s).ksk = s.ksk ∧ (poolShow s).replies = s.replies ∧
    (poolShow s).locks = s.locks ∧ (poolShow s).msix = s.msix ∧ (poolShow s).asm = s.asm ∧ (poolShow s).held = s.held ∧ (poolShow s).dmaLast = s.dmaLast ∧
    (poolShow s).spn = s.spn ∧ (poolShow s).spnQueue = s.spnQueue ∧ (poolShow s).loops = s.loops ∧ (poolShow s).acts = s.acts ∧ (poolShow s).engs = s.engs
    ∧ (poolShow s).wOff = s.wOff ∧ (poolShow s).dn = s.dn ∧ (poolShow s).up = s.up ∧ (poolShow s).lnks = s.lnks ∧ (poolShow s).seqs = s.seqs ∧ (poolShow
    s).seqMaster = s.seqMaster ∧ (poolShow s).seqStaged = s.seqStaged ∧ (poolShow s).pool = s.pool ∧ (poolShow s).poolOrd = s.poolOrd ∧ (poolShow
    s).chains = s.chains ∧ (poolShow s).outqs = s.outqs ∧ (poolShow s).ldpc = s.ldpc ∧ (poolShow s).dram = s.dram ∧ (poolShow s).buf = s.buf ∧ (poolShow
    s).flips = s.flips ∧ (poolShow s).nvs = s.nvs ∧ (poolShow s).hif = s.hif ∧ (poolShow s).sec = s.sec ∧ (poolShow s).pins = s.pins ∧ (poolShow
    s).freeCtr = s.freeCtr ∧ (poolShow s).pending = s.pending := by
  unfold poolShow
  exact ⟨rfl, rfl, rfl, rfl, rfl, rfl, rfl, rfl, rfl, rfl, rfl, rfl, rfl, rfl, rfl, rfl, rfl, rfl, rfl, rfl, rfl, rfl, rfl, rfl, rfl, rfl, rfl, rfl, rfl, rfl, rfl, rfl, rfl, rfl, rfl, rfl, rfl, rfl, rfl, rfl, rfl, rfl, rfl, rfl, rfl, rfl⟩

/-- A change of a pool slot. -/
@[simp] theorem modPool_frame (s : State) (p : Nat) (f : PoolSlot → PoolSlot) :
    (modPool p f s).ctrs = s.ctrs ∧ (modPool p f s).snap = s.snap ∧ (modPool p f s).mem = s.mem ∧ (modPool p f s).nv = s.nv ∧ (modPool p f s).poison =
    s.poison ∧ (modPool p f s).rdata = s.rdata ∧ (modPool p f s).busErr = s.busErr ∧ (modPool p f s).dataExc = s.dataExc ∧ (modPool p f s).plat = s.plat ∧
    (modPool p f s).gh = s.gh ∧ (modPool p f s).sdl = s.sdl ∧ (modPool p f s).ice = s.ice ∧ (modPool p f s).cal = s.cal ∧ (modPool p f s).ksk = s.ksk ∧
    (modPool p f s).replies = s.replies ∧ (modPool p f s).locks = s.locks ∧ (modPool p f s).msix = s.msix ∧ (modPool p f s).asm = s.asm ∧ (modPool p f
    s).held = s.held ∧ (modPool p f s).dmaLast = s.dmaLast ∧ (modPool p f s).spn = s.spn ∧ (modPool p f s).spnQueue = s.spnQueue ∧ (modPool p f s).loops =
    s.loops ∧ (modPool p f s).acts = s.acts ∧ (modPool p f s).engs = s.engs ∧ (modPool p f s).wOff = s.wOff ∧ (modPool p f s).dn = s.dn ∧ (modPool p f
    s).up = s.up ∧ (modPool p f s).lnks = s.lnks ∧ (modPool p f s).seqs = s.seqs ∧ (modPool p f s).seqMaster = s.seqMaster ∧ (modPool p f s).seqStaged =
    s.seqStaged ∧ (modPool p f s).poolOrd = s.poolOrd ∧ (modPool p f s).chains = s.chains ∧ (modPool p f s).outqs = s.outqs ∧ (modPool p f s).ldpc =
    s.ldpc ∧ (modPool p f s).dram = s.dram ∧ (modPool p f s).buf = s.buf ∧ (modPool p f s).flips = s.flips ∧ (modPool p f s).nvs = s.nvs ∧ (modPool p f
    s).hif = s.hif ∧ (modPool p f s).sec = s.sec ∧ (modPool p f s).pins = s.pins ∧ (modPool p f s).freeCtr = s.freeCtr ∧ (modPool p f s).pending =
    s.pending := by
  unfold modPool; simp

/-- The erase of a bank. -/
@[simp] theorem setErase_frame (s : State) (b : Nat) (e : Option NvErase) :
    (setErase b e s).regs = s.regs ∧ (setErase b e s).ctrs = s.ctrs ∧ (setErase b e s).snap = s.snap ∧ (setErase b e s).mem = s.mem ∧ (setErase b e s).nv
    = s.nv ∧ (setErase b e s).poison = s.poison ∧ (setErase b e s).rdata = s.rdata ∧ (setErase b e s).busErr = s.busErr ∧ (setErase b e s).dataExc =
    s.dataExc ∧ (setErase b e s).plat = s.plat ∧ (setErase b e s).gh = s.gh ∧ (setErase b e s).sdl = s.sdl ∧ (setErase b e s).ice = s.ice ∧ (setErase b e
    s).cal = s.cal ∧ (setErase b e s).ksk = s.ksk ∧ (setErase b e s).replies = s.replies ∧ (setErase b e s).locks = s.locks ∧ (setErase b e s).msix =
    s.msix ∧ (setErase b e s).asm = s.asm ∧ (setErase b e s).held = s.held ∧ (setErase b e s).dmaLast = s.dmaLast ∧ (setErase b e s).spn = s.spn ∧
    (setErase b e s).spnQueue = s.spnQueue ∧ (setErase b e s).loops = s.loops ∧ (setErase b e s).acts = s.acts ∧ (setErase b e s).engs = s.engs ∧
    (setErase b e s).wOff = s.wOff ∧ (setErase b e s).dn = s.dn ∧ (setErase b e s).up = s.up ∧ (setErase b e s).lnks = s.lnks ∧ (setErase b e s).seqs =
    s.seqs ∧ (setErase b e s).seqMaster = s.seqMaster ∧ (setErase b e s).seqStaged = s.seqStaged ∧ (setErase b e s).pool = s.pool ∧ (setErase b e
    s).poolOrd = s.poolOrd ∧ (setErase b e s).chains = s.chains ∧ (setErase b e s).outqs = s.outqs ∧ (setErase b e s).ldpc = s.ldpc ∧ (setErase b e
    s).dram = s.dram ∧ (setErase b e s).buf = s.buf ∧ (setErase b e s).flips = s.flips ∧ (setErase b e s).hif = s.hif ∧ (setErase b e s).sec = s.sec ∧
    (setErase b e s).pins = s.pins ∧ (setErase b e s).freeCtr = s.freeCtr ∧ (setErase b e s).pending = s.pending := by
  unfold setErase; simp

/-- The state of a way (R287). -/
@[simp] theorem setWayState_frame (s : State) (w n : Nat) :
    (setWayState w n s).ctrs = s.ctrs ∧ (setWayState w n s).snap = s.snap ∧ (setWayState w n s).mem = s.mem ∧ (setWayState w n s).nv = s.nv ∧ (setWayState
    w n s).poison = s.poison ∧ (setWayState w n s).rdata = s.rdata ∧ (setWayState w n s).busErr = s.busErr ∧ (setWayState w n s).dataExc = s.dataExc ∧
    (setWayState w n s).plat = s.plat ∧ (setWayState w n s).gh = s.gh ∧ (setWayState w n s).sdl = s.sdl ∧ (setWayState w n s).ice = s.ice ∧ (setWayState w
    n s).cal = s.cal ∧ (setWayState w n s).ksk = s.ksk ∧ (setWayState w n s).replies = s.replies ∧ (setWayState w n s).locks = s.locks ∧ (setWayState w n
    s).msix = s.msix ∧ (setWayState w n s).asm = s.asm ∧ (setWayState w n s).held = s.held ∧ (setWayState w n s).dmaLast = s.dmaLast ∧ (setWayState w n
    s).spn = s.spn ∧ (setWayState w n s).spnQueue = s.spnQueue ∧ (setWayState w n s).loops = s.loops ∧ (setWayState w n s).acts = s.acts ∧ (setWayState w
    n s).engs = s.engs ∧ (setWayState w n s).wOff = s.wOff ∧ (setWayState w n s).dn = s.dn ∧ (setWayState w n s).up = s.up ∧ (setWayState w n s).lnks =
    s.lnks ∧ (setWayState w n s).seqs = s.seqs ∧ (setWayState w n s).seqMaster = s.seqMaster ∧ (setWayState w n s).seqStaged = s.seqStaged ∧ (setWayState
    w n s).pool = s.pool ∧ (setWayState w n s).poolOrd = s.poolOrd ∧ (setWayState w n s).chains = s.chains ∧ (setWayState w n s).outqs = s.outqs ∧
    (setWayState w n s).ldpc = s.ldpc ∧ (setWayState w n s).dram = s.dram ∧ (setWayState w n s).buf = s.buf ∧ (setWayState w n s).flips = s.flips ∧
    (setWayState w n s).nvs = s.nvs ∧ (setWayState w n s).hif = s.hif ∧ (setWayState w n s).sec = s.sec ∧ (setWayState w n s).pins = s.pins ∧ (setWayState
    w n s).freeCtr = s.freeCtr ∧ (setWayState w n s).pending = s.pending := by
  unfold setWayState; simp

/-- A submission queue. -/
@[simp] theorem setSq_frame (s : State) (i : Nat) (x : Option SqSt) :
    (setSq i x s).regs = s.regs ∧ (setSq i x s).ctrs = s.ctrs ∧ (setSq i x s).snap = s.snap ∧ (setSq i x s).mem = s.mem ∧ (setSq i x s).nv = s.nv ∧ (setSq
    i x s).poison = s.poison ∧ (setSq i x s).rdata = s.rdata ∧ (setSq i x s).busErr = s.busErr ∧ (setSq i x s).dataExc = s.dataExc ∧ (setSq i x s).plat =
    s.plat ∧ (setSq i x s).gh = s.gh ∧ (setSq i x s).sdl = s.sdl ∧ (setSq i x s).ice = s.ice ∧ (setSq i x s).cal = s.cal ∧ (setSq i x s).ksk = s.ksk ∧
    (setSq i x s).replies = s.replies ∧ (setSq i x s).locks = s.locks ∧ (setSq i x s).msix = s.msix ∧ (setSq i x s).asm = s.asm ∧ (setSq i x s).held =
    s.held ∧ (setSq i x s).dmaLast = s.dmaLast ∧ (setSq i x s).spn = s.spn ∧ (setSq i x s).spnQueue = s.spnQueue ∧ (setSq i x s).loops = s.loops ∧ (setSq
    i x s).acts = s.acts ∧ (setSq i x s).engs = s.engs ∧ (setSq i x s).wOff = s.wOff ∧ (setSq i x s).dn = s.dn ∧ (setSq i x s).up = s.up ∧ (setSq i x
    s).lnks = s.lnks ∧ (setSq i x s).seqs = s.seqs ∧ (setSq i x s).seqMaster = s.seqMaster ∧ (setSq i x s).seqStaged = s.seqStaged ∧ (setSq i x s).pool =
    s.pool ∧ (setSq i x s).poolOrd = s.poolOrd ∧ (setSq i x s).chains = s.chains ∧ (setSq i x s).outqs = s.outqs ∧ (setSq i x s).ldpc = s.ldpc ∧ (setSq i
    x s).dram = s.dram ∧ (setSq i x s).buf = s.buf ∧ (setSq i x s).flips = s.flips ∧ (setSq i x s).nvs = s.nvs ∧ (setSq i x s).sec = s.sec ∧ (setSq i x
    s).pins = s.pins ∧ (setSq i x s).freeCtr = s.freeCtr ∧ (setSq i x s).pending = s.pending := by
  unfold setSq; simp

/-- A completion queue. -/
@[simp] theorem setCq_frame (s : State) (i : Nat) (x : Option CqSt) :
    (setCq i x s).regs = s.regs ∧ (setCq i x s).ctrs = s.ctrs ∧ (setCq i x s).snap = s.snap ∧ (setCq i x s).mem = s.mem ∧ (setCq i x s).nv = s.nv ∧ (setCq
    i x s).poison = s.poison ∧ (setCq i x s).rdata = s.rdata ∧ (setCq i x s).busErr = s.busErr ∧ (setCq i x s).dataExc = s.dataExc ∧ (setCq i x s).plat =
    s.plat ∧ (setCq i x s).gh = s.gh ∧ (setCq i x s).sdl = s.sdl ∧ (setCq i x s).ice = s.ice ∧ (setCq i x s).cal = s.cal ∧ (setCq i x s).ksk = s.ksk ∧
    (setCq i x s).replies = s.replies ∧ (setCq i x s).locks = s.locks ∧ (setCq i x s).msix = s.msix ∧ (setCq i x s).asm = s.asm ∧ (setCq i x s).held =
    s.held ∧ (setCq i x s).dmaLast = s.dmaLast ∧ (setCq i x s).spn = s.spn ∧ (setCq i x s).spnQueue = s.spnQueue ∧ (setCq i x s).loops = s.loops ∧ (setCq
    i x s).acts = s.acts ∧ (setCq i x s).engs = s.engs ∧ (setCq i x s).wOff = s.wOff ∧ (setCq i x s).dn = s.dn ∧ (setCq i x s).up = s.up ∧ (setCq i x
    s).lnks = s.lnks ∧ (setCq i x s).seqs = s.seqs ∧ (setCq i x s).seqMaster = s.seqMaster ∧ (setCq i x s).seqStaged = s.seqStaged ∧ (setCq i x s).pool =
    s.pool ∧ (setCq i x s).poolOrd = s.poolOrd ∧ (setCq i x s).chains = s.chains ∧ (setCq i x s).outqs = s.outqs ∧ (setCq i x s).ldpc = s.ldpc ∧ (setCq i
    x s).dram = s.dram ∧ (setCq i x s).buf = s.buf ∧ (setCq i x s).flips = s.flips ∧ (setCq i x s).nvs = s.nvs ∧ (setCq i x s).sec = s.sec ∧ (setCq i x
    s).pins = s.pins ∧ (setCq i x s).freeCtr = s.freeCtr ∧ (setCq i x s).pending = s.pending := by
  unfold setCq; simp

/-- An SPDM response. -/
@[simp] theorem spdmReply_frame (s : State) (r : List Byte) :
    (spdmReply r s).regs = s.regs ∧ (spdmReply r s).ctrs = s.ctrs ∧ (spdmReply r s).snap = s.snap ∧ (spdmReply r s).mem = s.mem ∧ (spdmReply r s).nv =
    s.nv ∧ (spdmReply r s).poison = s.poison ∧ (spdmReply r s).rdata = s.rdata ∧ (spdmReply r s).busErr = s.busErr ∧ (spdmReply r s).dataExc = s.dataExc ∧
    (spdmReply r s).plat = s.plat ∧ (spdmReply r s).gh = s.gh ∧ (spdmReply r s).sdl = s.sdl ∧ (spdmReply r s).ice = s.ice ∧ (spdmReply r s).cal = s.cal ∧
    (spdmReply r s).ksk = s.ksk ∧ (spdmReply r s).replies = s.replies ∧ (spdmReply r s).locks = s.locks ∧ (spdmReply r s).msix = s.msix ∧ (spdmReply r
    s).asm = s.asm ∧ (spdmReply r s).held = s.held ∧ (spdmReply r s).dmaLast = s.dmaLast ∧ (spdmReply r s).spn = s.spn ∧ (spdmReply r s).spnQueue =
    s.spnQueue ∧ (spdmReply r s).loops = s.loops ∧ (spdmReply r s).acts = s.acts ∧ (spdmReply r s).engs = s.engs ∧ (spdmReply r s).wOff = s.wOff ∧
    (spdmReply r s).dn = s.dn ∧ (spdmReply r s).up = s.up ∧ (spdmReply r s).lnks = s.lnks ∧ (spdmReply r s).seqs = s.seqs ∧ (spdmReply r s).seqMaster =
    s.seqMaster ∧ (spdmReply r s).seqStaged = s.seqStaged ∧ (spdmReply r s).pool = s.pool ∧ (spdmReply r s).poolOrd = s.poolOrd ∧ (spdmReply r s).chains =
    s.chains ∧ (spdmReply r s).outqs = s.outqs ∧ (spdmReply r s).ldpc = s.ldpc ∧ (spdmReply r s).dram = s.dram ∧ (spdmReply r s).buf = s.buf ∧ (spdmReply
    r s).flips = s.flips ∧ (spdmReply r s).nvs = s.nvs ∧ (spdmReply r s).hif = s.hif ∧ (spdmReply r s).pins = s.pins ∧ (spdmReply r s).freeCtr = s.freeCtr
    ∧ (spdmReply r s).pending = s.pending := by
  unfold spdmReply; simp

/-- The reported currents (R63). -/
@[simp] theorem setCurrents_frame (s : State) (h : Nat) (u v : Int) :
    (setCurrents h u v s).ctrs = s.ctrs ∧ (setCurrents h u v s).snap = s.snap ∧ (setCurrents h u v s).mem = s.mem ∧ (setCurrents h u v s).nv = s.nv ∧
    (setCurrents h u v s).poison = s.poison ∧ (setCurrents h u v s).rdata = s.rdata ∧ (setCurrents h u v s).busErr = s.busErr ∧ (setCurrents h u v
    s).dataExc = s.dataExc ∧ (setCurrents h u v s).plat = s.plat ∧ (setCurrents h u v s).gh = s.gh ∧ (setCurrents h u v s).sdl = s.sdl ∧ (setCurrents h u
    v s).ice = s.ice ∧ (setCurrents h u v s).cal = s.cal ∧ (setCurrents h u v s).ksk = s.ksk ∧ (setCurrents h u v s).replies = s.replies ∧ (setCurrents h
    u v s).locks = s.locks ∧ (setCurrents h u v s).msix = s.msix ∧ (setCurrents h u v s).asm = s.asm ∧ (setCurrents h u v s).held = s.held ∧ (setCurrents
    h u v s).dmaLast = s.dmaLast ∧ (setCurrents h u v s).spn = s.spn ∧ (setCurrents h u v s).spnQueue = s.spnQueue ∧ (setCurrents h u v s).loops = s.loops
    ∧ (setCurrents h u v s).acts = s.acts ∧ (setCurrents h u v s).engs = s.engs ∧ (setCurrents h u v s).wOff = s.wOff ∧ (setCurrents h u v s).dn = s.dn ∧
    (setCurrents h u v s).up = s.up ∧ (setCurrents h u v s).lnks = s.lnks ∧ (setCurrents h u v s).seqs = s.seqs ∧ (setCurrents h u v s).seqMaster =
    s.seqMaster ∧ (setCurrents h u v s).seqStaged = s.seqStaged ∧ (setCurrents h u v s).pool = s.pool ∧ (setCurrents h u v s).poolOrd = s.poolOrd ∧
    (setCurrents h u v s).chains = s.chains ∧ (setCurrents h u v s).outqs = s.outqs ∧ (setCurrents h u v s).ldpc = s.ldpc ∧ (setCurrents h u v s).dram =
    s.dram ∧ (setCurrents h u v s).buf = s.buf ∧ (setCurrents h u v s).flips = s.flips ∧ (setCurrents h u v s).nvs = s.nvs ∧ (setCurrents h u v s).hif =
    s.hif ∧ (setCurrents h u v s).sec = s.sec ∧ (setCurrents h u v s).pins = s.pins ∧ (setCurrents h u v s).freeCtr = s.freeCtr ∧ (setCurrents h u v
    s).pending = s.pending := by
  unfold setCurrents
  exact ⟨rfl, rfl, rfl, rfl, rfl, rfl, rfl, rfl, rfl, rfl, rfl, rfl, rfl, rfl, rfl, rfl, rfl, rfl, rfl, rfl, rfl, rfl, rfl, rfl, rfl, rfl, rfl, rfl, rfl, rfl, rfl, rfl, rfl, rfl, rfl, rfl, rfl, rfl, rfl, rfl, rfl, rfl, rfl, rfl, rfl, rfl⟩

/-- A refused spindle command (R49). -/
@[simp] theorem spnRefuse_frame (s : State) (h : Nat) :
    (spnRefuse h s).snap = s.snap ∧ (spnRefuse h s).mem = s.mem ∧ (spnRefuse h s).nv = s.nv ∧ (spnRefuse h s).poison = s.poison ∧ (spnRefuse h s).rdata =
    s.rdata ∧ (spnRefuse h s).busErr = s.busErr ∧ (spnRefuse h s).dataExc = s.dataExc ∧ (spnRefuse h s).plat = s.plat ∧ (spnRefuse h s).gh = s.gh ∧
    (spnRefuse h s).sdl = s.sdl ∧ (spnRefuse h s).ice = s.ice ∧ (spnRefuse h s).cal = s.cal ∧ (spnRefuse h s).ksk = s.ksk ∧ (spnRefuse h s).replies =
    s.replies ∧ (spnRefuse h s).locks = s.locks ∧ (spnRefuse h s).msix = s.msix ∧ (spnRefuse h s).asm = s.asm ∧ (spnRefuse h s).held = s.held ∧ (spnRefuse
    h s).dmaLast = s.dmaLast ∧ (spnRefuse h s).spn = s.spn ∧ (spnRefuse h s).spnQueue = s.spnQueue ∧ (spnRefuse h s).loops = s.loops ∧ (spnRefuse h
    s).acts = s.acts ∧ (spnRefuse h s).engs = s.engs ∧ (spnRefuse h s).wOff = s.wOff ∧ (spnRefuse h s).dn = s.dn ∧ (spnRefuse h s).up = s.up ∧ (spnRefuse
    h s).lnks = s.lnks ∧ (spnRefuse h s).seqs = s.seqs ∧ (spnRefuse h s).seqMaster = s.seqMaster ∧ (spnRefuse h s).seqStaged = s.seqStaged ∧ (spnRefuse h
    s).pool = s.pool ∧ (spnRefuse h s).poolOrd = s.poolOrd ∧ (spnRefuse h s).chains = s.chains ∧ (spnRefuse h s).outqs = s.outqs ∧ (spnRefuse h s).ldpc =
    s.ldpc ∧ (spnRefuse h s).dram = s.dram ∧ (spnRefuse h s).buf = s.buf ∧ (spnRefuse h s).flips = s.flips ∧ (spnRefuse h s).nvs = s.nvs ∧ (spnRefuse h
    s).hif = s.hif ∧ (spnRefuse h s).sec = s.sec ∧ (spnRefuse h s).pins = s.pins ∧ (spnRefuse h s).freeCtr = s.freeCtr ∧ (spnRefuse h s).pending =
    s.pending := by
  unfold spnRefuse; simp

/-- A string of bytes in a run of registers. -/
@[simp] theorem putWords_frame (s : State) (r : Nat → Reg) (n : Nat) (b : List Byte) :
    (putWords r n b s).ctrs = s.ctrs ∧ (putWords r n b s).snap = s.snap ∧ (putWords r n b s).mem = s.mem ∧ (putWords r n b s).nv = s.nv ∧ (putWords r n b
    s).poison = s.poison ∧ (putWords r n b s).rdata = s.rdata ∧ (putWords r n b s).busErr = s.busErr ∧ (putWords r n b s).dataExc = s.dataExc ∧ (putWords
    r n b s).plat = s.plat ∧ (putWords r n b s).gh = s.gh ∧ (putWords r n b s).sdl = s.sdl ∧ (putWords r n b s).ice = s.ice ∧ (putWords r n b s).cal =
    s.cal ∧ (putWords r n b s).ksk = s.ksk ∧ (putWords r n b s).replies = s.replies ∧ (putWords r n b s).locks = s.locks ∧ (putWords r n b s).msix =
    s.msix ∧ (putWords r n b s).asm = s.asm ∧ (putWords r n b s).held = s.held ∧ (putWords r n b s).dmaLast = s.dmaLast ∧ (putWords r n b s).spn = s.spn ∧
    (putWords r n b s).spnQueue = s.spnQueue ∧ (putWords r n b s).loops = s.loops ∧ (putWords r n b s).acts = s.acts ∧ (putWords r n b s).engs = s.engs ∧
    (putWords r n b s).wOff = s.wOff ∧ (putWords r n b s).dn = s.dn ∧ (putWords r n b s).up = s.up ∧ (putWords r n b s).lnks = s.lnks ∧ (putWords r n b
    s).seqs = s.seqs ∧ (putWords r n b s).seqMaster = s.seqMaster ∧ (putWords r n b s).seqStaged = s.seqStaged ∧ (putWords r n b s).pool = s.pool ∧
    (putWords r n b s).poolOrd = s.poolOrd ∧ (putWords r n b s).chains = s.chains ∧ (putWords r n b s).outqs = s.outqs ∧ (putWords r n b s).ldpc = s.ldpc
    ∧ (putWords r n b s).dram = s.dram ∧ (putWords r n b s).buf = s.buf ∧ (putWords r n b s).flips = s.flips ∧ (putWords r n b s).nvs = s.nvs ∧ (putWords
    r n b s).hif = s.hif ∧ (putWords r n b s).sec = s.sec ∧ (putWords r n b s).pins = s.pins ∧ (putWords r n b s).freeCtr = s.freeCtr ∧ (putWords r n b
    s).pending = s.pending := by
  unfold putWords
  exact ⟨(each_same State.ctrs _ _ _ (fun _ _ => by simp)).trans (by simp), (each_same State.snap _ _ _ (fun _ _ => by simp)).trans (by simp), (each_same
      State.mem _ _ _ (fun _ _ => by simp)).trans (by simp), (each_same State.nv _ _ _ (fun _ _ => by simp)).trans (by simp), (each_same State.poison _ _ _
      (fun _ _ => by simp)).trans (by simp), (each_same State.rdata _ _ _ (fun _ _ => by simp)).trans (by simp), (each_same State.busErr _ _ _ (fun _ _ =>
      by simp)).trans (by simp), (each_same State.dataExc _ _ _ (fun _ _ => by simp)).trans (by simp), (each_same State.plat _ _ _ (fun _ _ => by
      simp)).trans (by simp), (each_same State.gh _ _ _ (fun _ _ => by simp)).trans (by simp), (each_same State.sdl _ _ _ (fun _ _ => by simp)).trans (by
      simp), (each_same State.ice _ _ _ (fun _ _ => by simp)).trans (by simp), (each_same State.cal _ _ _ (fun _ _ => by simp)).trans (by simp), (each_same
      State.ksk _ _ _ (fun _ _ => by simp)).trans (by simp), (each_same State.replies _ _ _ (fun _ _ => by simp)).trans (by simp), (each_same State.locks _
      _ _ (fun _ _ => by simp)).trans (by simp), (each_same State.msix _ _ _ (fun _ _ => by simp)).trans (by simp), (each_same State.asm _ _ _ (fun _ _ =>
      by simp)).trans (by simp), (each_same State.held _ _ _ (fun _ _ => by simp)).trans (by simp), (each_same State.dmaLast _ _ _ (fun _ _ => by
      simp)).trans (by simp), (each_same State.spn _ _ _ (fun _ _ => by simp)).trans (by simp), (each_same State.spnQueue _ _ _ (fun _ _ => by simp)).trans
      (by simp), (each_same State.loops _ _ _ (fun _ _ => by simp)).trans (by simp), (each_same State.acts _ _ _ (fun _ _ => by simp)).trans (by simp),
      (each_same State.engs _ _ _ (fun _ _ => by simp)).trans (by simp), (each_same State.wOff _ _ _ (fun _ _ => by simp)).trans (by simp), (each_same
      State.dn _ _ _ (fun _ _ => by simp)).trans (by simp), (each_same State.up _ _ _ (fun _ _ => by simp)).trans (by simp), (each_same State.lnks _ _ _
      (fun _ _ => by simp)).trans (by simp), (each_same State.seqs _ _ _ (fun _ _ => by simp)).trans (by simp), (each_same State.seqMaster _ _ _ (fun _ _ =>
      by simp)).trans (by simp), (each_same State.seqStaged _ _ _ (fun _ _ => by simp)).trans (by simp), (each_same State.pool _ _ _ (fun _ _ => by
      simp)).trans (by simp), (each_same State.poolOrd _ _ _ (fun _ _ => by simp)).trans (by simp), (each_same State.chains _ _ _ (fun _ _ => by
      simp)).trans (by simp), (each_same State.outqs _ _ _ (fun _ _ => by simp)).trans (by simp), (each_same State.ldpc _ _ _ (fun _ _ => by simp)).trans
      (by simp), (each_same State.dram _ _ _ (fun _ _ => by simp)).trans (by simp), (each_same State.buf _ _ _ (fun _ _ => by simp)).trans (by simp),
      (each_same State.flips _ _ _ (fun _ _ => by simp)).trans (by simp), (each_same State.nvs _ _ _ (fun _ _ => by simp)).trans (by simp), (each_same
      State.hif _ _ _ (fun _ _ => by simp)).trans (by simp), (each_same State.sec _ _ _ (fun _ _ => by simp)).trans (by simp), (each_same State.pins _ _ _
      (fun _ _ => by simp)).trans (by simp), (each_same State.freeCtr _ _ _ (fun _ _ => by simp)).trans (by simp), (each_same State.pending _ _ _ (fun _ _
      => by simp)).trans (by simp)⟩

/-- A vector is signalled or pends. -/
@[simp] theorem msixSignal_frame (s : State) (v : Nat) :
    (msixSignal v s).regs = s.regs ∧ (msixSignal v s).ctrs = s.ctrs ∧ (msixSignal v s).snap = s.snap ∧ (msixSignal v s).mem = s.mem ∧ (msixSignal v s).nv
    = s.nv ∧ (msixSignal v s).poison = s.poison ∧ (msixSignal v s).rdata = s.rdata ∧ (msixSignal v s).busErr = s.busErr ∧ (msixSignal v s).dataExc =
    s.dataExc ∧ (msixSignal v s).plat = s.plat ∧ (msixSignal v s).gh = s.gh ∧ (msixSignal v s).sdl = s.sdl ∧ (msixSignal v s).ice = s.ice ∧ (msixSignal v
    s).cal = s.cal ∧ (msixSignal v s).ksk = s.ksk ∧ (msixSignal v s).replies = s.replies ∧ (msixSignal v s).locks = s.locks ∧ (msixSignal v s).asm = s.asm
    ∧ (msixSignal v s).held = s.held ∧ (msixSignal v s).dmaLast = s.dmaLast ∧ (msixSignal v s).spn = s.spn ∧ (msixSignal v s).spnQueue = s.spnQueue ∧
    (msixSignal v s).loops = s.loops ∧ (msixSignal v s).acts = s.acts ∧ (msixSignal v s).engs = s.engs ∧ (msixSignal v s).wOff = s.wOff ∧ (msixSignal v
    s).dn = s.dn ∧ (msixSignal v s).up = s.up ∧ (msixSignal v s).lnks = s.lnks ∧ (msixSignal v s).seqs = s.seqs ∧ (msixSignal v s).seqMaster = s.seqMaster
    ∧ (msixSignal v s).seqStaged = s.seqStaged ∧ (msixSignal v s).pool = s.pool ∧ (msixSignal v s).poolOrd = s.poolOrd ∧ (msixSignal v s).chains =
    s.chains ∧ (msixSignal v s).outqs = s.outqs ∧ (msixSignal v s).ldpc = s.ldpc ∧ (msixSignal v s).dram = s.dram ∧ (msixSignal v s).buf = s.buf ∧
    (msixSignal v s).flips = s.flips ∧ (msixSignal v s).nvs = s.nvs ∧ (msixSignal v s).sec = s.sec ∧ (msixSignal v s).pins = s.pins ∧ (msixSignal v
    s).freeCtr = s.freeCtr ∧ (msixSignal v s).pending = s.pending := by
  unfold msixSignal; try dsimp only
  repeat' split
  all_goals simp

/-- NVS_STATUS shows what works (R395). -/
@[simp] theorem nvBusyShow_frame (s : State) :
    (nvBusyShow s).ctrs = s.ctrs ∧ (nvBusyShow s).snap = s.snap ∧ (nvBusyShow s).mem = s.mem ∧ (nvBusyShow s).nv = s.nv ∧ (nvBusyShow s).poison = s.poison
    ∧ (nvBusyShow s).rdata = s.rdata ∧ (nvBusyShow s).busErr = s.busErr ∧ (nvBusyShow s).dataExc = s.dataExc ∧ (nvBusyShow s).plat = s.plat ∧ (nvBusyShow
    s).gh = s.gh ∧ (nvBusyShow s).sdl = s.sdl ∧ (nvBusyShow s).ice = s.ice ∧ (nvBusyShow s).cal = s.cal ∧ (nvBusyShow s).ksk = s.ksk ∧ (nvBusyShow
    s).replies = s.replies ∧ (nvBusyShow s).locks = s.locks ∧ (nvBusyShow s).msix = s.msix ∧ (nvBusyShow s).asm = s.asm ∧ (nvBusyShow s).held = s.held ∧
    (nvBusyShow s).dmaLast = s.dmaLast ∧ (nvBusyShow s).spn = s.spn ∧ (nvBusyShow s).spnQueue = s.spnQueue ∧ (nvBusyShow s).loops = s.loops ∧ (nvBusyShow
    s).acts = s.acts ∧ (nvBusyShow s).engs = s.engs ∧ (nvBusyShow s).wOff = s.wOff ∧ (nvBusyShow s).dn = s.dn ∧ (nvBusyShow s).up = s.up ∧ (nvBusyShow
    s).lnks = s.lnks ∧ (nvBusyShow s).seqs = s.seqs ∧ (nvBusyShow s).seqMaster = s.seqMaster ∧ (nvBusyShow s).seqStaged = s.seqStaged ∧ (nvBusyShow
    s).pool = s.pool ∧ (nvBusyShow s).poolOrd = s.poolOrd ∧ (nvBusyShow s).chains = s.chains ∧ (nvBusyShow s).outqs = s.outqs ∧ (nvBusyShow s).ldpc =
    s.ldpc ∧ (nvBusyShow s).dram = s.dram ∧ (nvBusyShow s).buf = s.buf ∧ (nvBusyShow s).flips = s.flips ∧ (nvBusyShow s).nvs = s.nvs ∧ (nvBusyShow s).hif
    = s.hif ∧ (nvBusyShow s).sec = s.sec ∧ (nvBusyShow s).pins = s.pins ∧ (nvBusyShow s).freeCtr = s.freeCtr ∧ (nvBusyShow s).pending = s.pending := by
  unfold nvBusyShow
  exact ⟨rfl, rfl, rfl, rfl, rfl, rfl, rfl, rfl, rfl, rfl, rfl, rfl, rfl, rfl, rfl, rfl, rfl, rfl, rfl, rfl, rfl, rfl, rfl, rfl, rfl, rfl, rfl, rfl, rfl, rfl, rfl, rfl, rfl, rfl, rfl, rfl, rfl, rfl, rfl, rfl, rfl, rfl, rfl, rfl, rfl, rfl⟩

/-- A spindle enters BRAKING (R42, R73). -/
@[simp] theorem spnBraking_frame (s : State) (h cause : Nat) :
    (spnBraking h cause s).ctrs = s.ctrs ∧ (spnBraking h cause s).snap = s.snap ∧ (spnBraking h cause s).mem = s.mem ∧ (spnBraking h cause s).nv = s.nv ∧
    (spnBraking h cause s).poison = s.poison ∧ (spnBraking h cause s).rdata = s.rdata ∧ (spnBraking h cause s).busErr = s.busErr ∧ (spnBraking h cause
    s).dataExc = s.dataExc ∧ (spnBraking h cause s).plat = s.plat ∧ (spnBraking h cause s).gh = s.gh ∧ (spnBraking h cause s).sdl = s.sdl ∧ (spnBraking h
    cause s).ice = s.ice ∧ (spnBraking h cause s).cal = s.cal ∧ (spnBraking h cause s).ksk = s.ksk ∧ (spnBraking h cause s).replies = s.replies ∧
    (spnBraking h cause s).locks = s.locks ∧ (spnBraking h cause s).msix = s.msix ∧ (spnBraking h cause s).asm = s.asm ∧ (spnBraking h cause s).held =
    s.held ∧ (spnBraking h cause s).dmaLast = s.dmaLast ∧ (spnBraking h cause s).spnQueue = s.spnQueue ∧ (spnBraking h cause s).loops = s.loops ∧
    (spnBraking h cause s).acts = s.acts ∧ (spnBraking h cause s).engs = s.engs ∧ (spnBraking h cause s).wOff = s.wOff ∧ (spnBraking h cause s).dn = s.dn
    ∧ (spnBraking h cause s).up = s.up ∧ (spnBraking h cause s).lnks = s.lnks ∧ (spnBraking h cause s).seqs = s.seqs ∧ (spnBraking h cause s).seqMaster =
    s.seqMaster ∧ (spnBraking h cause s).seqStaged = s.seqStaged ∧ (spnBraking h cause s).pool = s.pool ∧ (spnBraking h cause s).poolOrd = s.poolOrd ∧
    (spnBraking h cause s).chains = s.chains ∧ (spnBraking h cause s).outqs = s.outqs ∧ (spnBraking h cause s).ldpc = s.ldpc ∧ (spnBraking h cause s).dram
    = s.dram ∧ (spnBraking h cause s).buf = s.buf ∧ (spnBraking h cause s).flips = s.flips ∧ (spnBraking h cause s).nvs = s.nvs ∧ (spnBraking h cause
    s).hif = s.hif ∧ (spnBraking h cause s).sec = s.sec ∧ (spnBraking h cause s).pins = s.pins ∧ (spnBraking h cause s).pending = s.pending := by
  unfold spnBraking; try dsimp only
  repeat' split
  all_goals simp

/-- A front-end access is sent (R160). -/
@[simp] theorem feSend_frame (s : State) (a : Nat) (acc : FeAcc) :
    (feSend a acc s).regs = s.regs ∧ (feSend a acc s).ctrs = s.ctrs ∧ (feSend a acc s).snap = s.snap ∧ (feSend a acc s).mem = s.mem ∧ (feSend a acc s).nv
    = s.nv ∧ (feSend a acc s).poison = s.poison ∧ (feSend a acc s).rdata = s.rdata ∧ (feSend a acc s).busErr = s.busErr ∧ (feSend a acc s).dataExc =
    s.dataExc ∧ (feSend a acc s).plat = s.plat ∧ (feSend a acc s).gh = s.gh ∧ (feSend a acc s).sdl = s.sdl ∧ (feSend a acc s).ice = s.ice ∧ (feSend a acc
    s).cal = s.cal ∧ (feSend a acc s).ksk = s.ksk ∧ (feSend a acc s).replies = s.replies ∧ (feSend a acc s).locks = s.locks ∧ (feSend a acc s).msix =
    s.msix ∧ (feSend a acc s).asm = s.asm ∧ (feSend a acc s).held = s.held ∧ (feSend a acc s).dmaLast = s.dmaLast ∧ (feSend a acc s).spn = s.spn ∧ (feSend
    a acc s).spnQueue = s.spnQueue ∧ (feSend a acc s).loops = s.loops ∧ (feSend a acc s).acts = s.acts ∧ (feSend a acc s).engs = s.engs ∧ (feSend a acc
    s).wOff = s.wOff ∧ (feSend a acc s).up = s.up ∧ (feSend a acc s).seqs = s.seqs ∧ (feSend a acc s).seqMaster = s.seqMaster ∧ (feSend a acc s).seqStaged
    = s.seqStaged ∧ (feSend a acc s).pool = s.pool ∧ (feSend a acc s).poolOrd = s.poolOrd ∧ (feSend a acc s).chains = s.chains ∧ (feSend a acc s).outqs =
    s.outqs ∧ (feSend a acc s).ldpc = s.ldpc ∧ (feSend a acc s).dram = s.dram ∧ (feSend a acc s).buf = s.buf ∧ (feSend a acc s).flips = s.flips ∧ (feSend
    a acc s).nvs = s.nvs ∧ (feSend a acc s).hif = s.hif ∧ (feSend a acc s).sec = s.sec ∧ (feSend a acc s).pins = s.pins ∧ (feSend a acc s).freeCtr =
    s.freeCtr ∧ (feSend a acc s).pending = s.pending := by
  unfold feSend; try dsimp only
  repeat' split
  all_goals simp

/-- A front-end access is sent or held (R161). -/
@[simp] theorem feBegin_frame (s : State) (a : Nat) (acc : FeAcc) :
    (feBegin a acc s).regs = s.regs ∧ (feBegin a acc s).ctrs = s.ctrs ∧ (feBegin a acc s).snap = s.snap ∧ (feBegin a acc s).mem = s.mem ∧ (feBegin a acc
    s).nv = s.nv ∧ (feBegin a acc s).poison = s.poison ∧ (feBegin a acc s).rdata = s.rdata ∧ (feBegin a acc s).busErr = s.busErr ∧ (feBegin a acc
    s).dataExc = s.dataExc ∧ (feBegin a acc s).plat = s.plat ∧ (feBegin a acc s).gh = s.gh ∧ (feBegin a acc s).sdl = s.sdl ∧ (feBegin a acc s).ice = s.ice
    ∧ (feBegin a acc s).cal = s.cal ∧ (feBegin a acc s).ksk = s.ksk ∧ (feBegin a acc s).replies = s.replies ∧ (feBegin a acc s).locks = s.locks ∧ (feBegin
    a acc s).msix = s.msix ∧ (feBegin a acc s).asm = s.asm ∧ (feBegin a acc s).held = s.held ∧ (feBegin a acc s).dmaLast = s.dmaLast ∧ (feBegin a acc
    s).spn = s.spn ∧ (feBegin a acc s).spnQueue = s.spnQueue ∧ (feBegin a acc s).loops = s.loops ∧ (feBegin a acc s).acts = s.acts ∧ (feBegin a acc
    s).engs = s.engs ∧ (feBegin a acc s).wOff = s.wOff ∧ (feBegin a acc s).up = s.up ∧ (feBegin a acc s).seqs = s.seqs ∧ (feBegin a acc s).seqMaster =
    s.seqMaster ∧ (feBegin a acc s).seqStaged = s.seqStaged ∧ (feBegin a acc s).pool = s.pool ∧ (feBegin a acc s).poolOrd = s.poolOrd ∧ (feBegin a acc
    s).chains = s.chains ∧ (feBegin a acc s).outqs = s.outqs ∧ (feBegin a acc s).ldpc = s.ldpc ∧ (feBegin a acc s).dram = s.dram ∧ (feBegin a acc s).buf =
    s.buf ∧ (feBegin a acc s).flips = s.flips ∧ (feBegin a acc s).nvs = s.nvs ∧ (feBegin a acc s).hif = s.hif ∧ (feBegin a acc s).sec = s.sec ∧ (feBegin a
    acc s).pins = s.pins ∧ (feBegin a acc s).freeCtr = s.freeCtr ∧ (feBegin a acc s).pending = s.pending := by
  unfold feBegin; try dsimp only
  repeat' split
  all_goals simp

/-- A front-end access begins or waits (R160). -/
@[simp] theorem feStart_frame (s : State) (a : Nat) (acc : FeAcc) :
    (feStart a acc s).regs = s.regs ∧ (feStart a acc s).ctrs = s.ctrs ∧ (feStart a acc s).snap = s.snap ∧ (feStart a acc s).mem = s.mem ∧ (feStart a acc
    s).nv = s.nv ∧ (feStart a acc s).poison = s.poison ∧ (feStart a acc s).rdata = s.rdata ∧ (feStart a acc s).busErr = s.busErr ∧ (feStart a acc
    s).dataExc = s.dataExc ∧ (feStart a acc s).plat = s.plat ∧ (feStart a acc s).gh = s.gh ∧ (feStart a acc s).sdl = s.sdl ∧ (feStart a acc s).ice = s.ice
    ∧ (feStart a acc s).cal = s.cal ∧ (feStart a acc s).ksk = s.ksk ∧ (feStart a acc s).replies = s.replies ∧ (feStart a acc s).locks = s.locks ∧ (feStart
    a acc s).msix = s.msix ∧ (feStart a acc s).asm = s.asm ∧ (feStart a acc s).held = s.held ∧ (feStart a acc s).dmaLast = s.dmaLast ∧ (feStart a acc
    s).spn = s.spn ∧ (feStart a acc s).spnQueue = s.spnQueue ∧ (feStart a acc s).loops = s.loops ∧ (feStart a acc s).acts = s.acts ∧ (feStart a acc
    s).engs = s.engs ∧ (feStart a acc s).wOff = s.wOff ∧ (feStart a acc s).up = s.up ∧ (feStart a acc s).seqs = s.seqs ∧ (feStart a acc s).seqMaster =
    s.seqMaster ∧ (feStart a acc s).seqStaged = s.seqStaged ∧ (feStart a acc s).pool = s.pool ∧ (feStart a acc s).poolOrd = s.poolOrd ∧ (feStart a acc
    s).chains = s.chains ∧ (feStart a acc s).outqs = s.outqs ∧ (feStart a acc s).ldpc = s.ldpc ∧ (feStart a acc s).dram = s.dram ∧ (feStart a acc s).buf =
    s.buf ∧ (feStart a acc s).flips = s.flips ∧ (feStart a acc s).nvs = s.nvs ∧ (feStart a acc s).hif = s.hif ∧ (feStart a acc s).sec = s.sec ∧ (feStart a
    acc s).pins = s.pins ∧ (feStart a acc s).freeCtr = s.freeCtr ∧ (feStart a acc s).pending = s.pending := by
  unfold feStart; try dsimp only
  repeat' split
  all_goals simp

/-- A row of the journal is opened (R402). -/
@[simp] theorem jOpen_frame (s : State) (k seq : Nat) :
    (jOpen k seq s).regs = s.regs ∧ (jOpen k seq s).ctrs = s.ctrs ∧ (jOpen k seq s).snap = s.snap ∧ (jOpen k seq s).mem = s.mem ∧ (jOpen k seq s).nv =
    s.nv ∧ (jOpen k seq s).poison = s.poison ∧ (jOpen k seq s).rdata = s.rdata ∧ (jOpen k seq s).busErr = s.busErr ∧ (jOpen k seq s).dataExc = s.dataExc ∧
    (jOpen k seq s).plat = s.plat ∧ (jOpen k seq s).gh = s.gh ∧ (jOpen k seq s).sdl = s.sdl ∧ (jOpen k seq s).ice = s.ice ∧ (jOpen k seq s).cal = s.cal ∧
    (jOpen k seq s).ksk = s.ksk ∧ (jOpen k seq s).replies = s.replies ∧ (jOpen k seq s).locks = s.locks ∧ (jOpen k seq s).msix = s.msix ∧ (jOpen k seq
    s).asm = s.asm ∧ (jOpen k seq s).held = s.held ∧ (jOpen k seq s).dmaLast = s.dmaLast ∧ (jOpen k seq s).spn = s.spn ∧ (jOpen k seq s).spnQueue =
    s.spnQueue ∧ (jOpen k seq s).loops = s.loops ∧ (jOpen k seq s).acts = s.acts ∧ (jOpen k seq s).engs = s.engs ∧ (jOpen k seq s).wOff = s.wOff ∧ (jOpen
    k seq s).dn = s.dn ∧ (jOpen k seq s).up = s.up ∧ (jOpen k seq s).lnks = s.lnks ∧ (jOpen k seq s).seqs = s.seqs ∧ (jOpen k seq s).seqMaster =
    s.seqMaster ∧ (jOpen k seq s).seqStaged = s.seqStaged ∧ (jOpen k seq s).pool = s.pool ∧ (jOpen k seq s).poolOrd = s.poolOrd ∧ (jOpen k seq s).chains =
    s.chains ∧ (jOpen k seq s).outqs = s.outqs ∧ (jOpen k seq s).ldpc = s.ldpc ∧ (jOpen k seq s).dram = s.dram ∧ (jOpen k seq s).buf = s.buf ∧ (jOpen k
    seq s).flips = s.flips ∧ (jOpen k seq s).hif = s.hif ∧ (jOpen k seq s).sec = s.sec ∧ (jOpen k seq s).pins = s.pins ∧ (jOpen k seq s).freeCtr =
    s.freeCtr ∧ (jOpen k seq s).pending = s.pending := by
  unfold jOpen; try dsimp only
  repeat' split
  all_goals simp

/-- Room for an entry of the journal (R402). -/
@[simp] theorem jRoom_frame (s : State) :
    (jRoom s).regs = s.regs ∧ (jRoom s).ctrs = s.ctrs ∧ (jRoom s).snap = s.snap ∧ (jRoom s).mem = s.mem ∧ (jRoom s).nv = s.nv ∧ (jRoom s).poison =
    s.poison ∧ (jRoom s).rdata = s.rdata ∧ (jRoom s).busErr = s.busErr ∧ (jRoom s).dataExc = s.dataExc ∧ (jRoom s).plat = s.plat ∧ (jRoom s).gh = s.gh ∧
    (jRoom s).sdl = s.sdl ∧ (jRoom s).ice = s.ice ∧ (jRoom s).cal = s.cal ∧ (jRoom s).ksk = s.ksk ∧ (jRoom s).replies = s.replies ∧ (jRoom s).locks =
    s.locks ∧ (jRoom s).msix = s.msix ∧ (jRoom s).asm = s.asm ∧ (jRoom s).held = s.held ∧ (jRoom s).dmaLast = s.dmaLast ∧ (jRoom s).spn = s.spn ∧ (jRoom
    s).spnQueue = s.spnQueue ∧ (jRoom s).loops = s.loops ∧ (jRoom s).acts = s.acts ∧ (jRoom s).engs = s.engs ∧ (jRoom s).wOff = s.wOff ∧ (jRoom s).dn =
    s.dn ∧ (jRoom s).up = s.up ∧ (jRoom s).lnks = s.lnks ∧ (jRoom s).seqs = s.seqs ∧ (jRoom s).seqMaster = s.seqMaster ∧ (jRoom s).seqStaged = s.seqStaged
    ∧ (jRoom s).pool = s.pool ∧ (jRoom s).poolOrd = s.poolOrd ∧ (jRoom s).chains = s.chains ∧ (jRoom s).outqs = s.outqs ∧ (jRoom s).ldpc = s.ldpc ∧ (jRoom
    s).dram = s.dram ∧ (jRoom s).buf = s.buf ∧ (jRoom s).flips = s.flips ∧ (jRoom s).hif = s.hif ∧ (jRoom s).sec = s.sec ∧ (jRoom s).pins = s.pins ∧
    (jRoom s).freeCtr = s.freeCtr ∧ (jRoom s).pending = s.pending := by
  unfold jRoom; try dsimp only
  repeat' split
  all_goals simp

/-- An entry goes into the row in use. -/
@[simp] theorem jPut_frame (s : State) (e : Nat → JEntry) :
    (jPut e s).regs = s.regs ∧ (jPut e s).ctrs = s.ctrs ∧ (jPut e s).snap = s.snap ∧ (jPut e s).mem = s.mem ∧ (jPut e s).nv = s.nv ∧ (jPut e s).poison =
    s.poison ∧ (jPut e s).rdata = s.rdata ∧ (jPut e s).busErr = s.busErr ∧ (jPut e s).dataExc = s.dataExc ∧ (jPut e s).plat = s.plat ∧ (jPut e s).gh =
    s.gh ∧ (jPut e s).sdl = s.sdl ∧ (jPut e s).ice = s.ice ∧ (jPut e s).cal = s.cal ∧ (jPut e s).ksk = s.ksk ∧ (jPut e s).replies = s.replies ∧ (jPut e
    s).locks = s.locks ∧ (jPut e s).msix = s.msix ∧ (jPut e s).asm = s.asm ∧ (jPut e s).held = s.held ∧ (jPut e s).dmaLast = s.dmaLast ∧ (jPut e s).spn =
    s.spn ∧ (jPut e s).spnQueue = s.spnQueue ∧ (jPut e s).loops = s.loops ∧ (jPut e s).acts = s.acts ∧ (jPut e s).engs = s.engs ∧ (jPut e s).wOff = s.wOff
    ∧ (jPut e s).dn = s.dn ∧ (jPut e s).up = s.up ∧ (jPut e s).lnks = s.lnks ∧ (jPut e s).seqs = s.seqs ∧ (jPut e s).seqMaster = s.seqMaster ∧ (jPut e
    s).seqStaged = s.seqStaged ∧ (jPut e s).pool = s.pool ∧ (jPut e s).poolOrd = s.poolOrd ∧ (jPut e s).chains = s.chains ∧ (jPut e s).outqs = s.outqs ∧
    (jPut e s).ldpc = s.ldpc ∧ (jPut e s).dram = s.dram ∧ (jPut e s).buf = s.buf ∧ (jPut e s).flips = s.flips ∧ (jPut e s).hif = s.hif ∧ (jPut e s).sec =
    s.sec ∧ (jPut e s).pins = s.pins ∧ (jPut e s).freeCtr = s.freeCtr ∧ (jPut e s).pending = s.pending := by
  unfold jPut; try dsimp only
  repeat' split
  all_goals simp

/-- An entry of the journal (R402). -/
@[simp] theorem jAppend_frame (s : State) (b : Bool) (n : Nat) :
    (jAppend b n s).regs = s.regs ∧ (jAppend b n s).ctrs = s.ctrs ∧ (jAppend b n s).snap = s.snap ∧ (jAppend b n s).mem = s.mem ∧ (jAppend b n s).nv =
    s.nv ∧ (jAppend b n s).poison = s.poison ∧ (jAppend b n s).rdata = s.rdata ∧ (jAppend b n s).busErr = s.busErr ∧ (jAppend b n s).dataExc = s.dataExc ∧
    (jAppend b n s).plat = s.plat ∧ (jAppend b n s).gh = s.gh ∧ (jAppend b n s).sdl = s.sdl ∧ (jAppend b n s).ice = s.ice ∧ (jAppend b n s).cal = s.cal ∧
    (jAppend b n s).ksk = s.ksk ∧ (jAppend b n s).replies = s.replies ∧ (jAppend b n s).locks = s.locks ∧ (jAppend b n s).msix = s.msix ∧ (jAppend b n
    s).asm = s.asm ∧ (jAppend b n s).held = s.held ∧ (jAppend b n s).dmaLast = s.dmaLast ∧ (jAppend b n s).spn = s.spn ∧ (jAppend b n s).spnQueue =
    s.spnQueue ∧ (jAppend b n s).loops = s.loops ∧ (jAppend b n s).acts = s.acts ∧ (jAppend b n s).engs = s.engs ∧ (jAppend b n s).wOff = s.wOff ∧
    (jAppend b n s).dn = s.dn ∧ (jAppend b n s).up = s.up ∧ (jAppend b n s).lnks = s.lnks ∧ (jAppend b n s).seqs = s.seqs ∧ (jAppend b n s).seqMaster =
    s.seqMaster ∧ (jAppend b n s).seqStaged = s.seqStaged ∧ (jAppend b n s).pool = s.pool ∧ (jAppend b n s).poolOrd = s.poolOrd ∧ (jAppend b n s).chains =
    s.chains ∧ (jAppend b n s).outqs = s.outqs ∧ (jAppend b n s).ldpc = s.ldpc ∧ (jAppend b n s).dram = s.dram ∧ (jAppend b n s).buf = s.buf ∧ (jAppend b
    n s).flips = s.flips ∧ (jAppend b n s).hif = s.hif ∧ (jAppend b n s).sec = s.sec ∧ (jAppend b n s).pins = s.pins ∧ (jAppend b n s).freeCtr = s.freeCtr
    ∧ (jAppend b n s).pending = s.pending := by
  unfold jAppend; try dsimp only
  repeat' split
  all_goals simp

/-- A direct NV operation ends. -/
@[simp] theorem nvEnd_frame (s : State) (r : Nat) :
    (nvEnd r s).ctrs = s.ctrs ∧ (nvEnd r s).snap = s.snap ∧ (nvEnd r s).mem = s.mem ∧ (nvEnd r s).nv = s.nv ∧ (nvEnd r s).poison = s.poison ∧ (nvEnd r
    s).rdata = s.rdata ∧ (nvEnd r s).busErr = s.busErr ∧ (nvEnd r s).dataExc = s.dataExc ∧ (nvEnd r s).plat = s.plat ∧ (nvEnd r s).gh = s.gh ∧ (nvEnd r
    s).sdl = s.sdl ∧ (nvEnd r s).ice = s.ice ∧ (nvEnd r s).cal = s.cal ∧ (nvEnd r s).ksk = s.ksk ∧ (nvEnd r s).replies = s.replies ∧ (nvEnd r s).locks =
    s.locks ∧ (nvEnd r s).msix = s.msix ∧ (nvEnd r s).asm = s.asm ∧ (nvEnd r s).held = s.held ∧ (nvEnd r s).dmaLast = s.dmaLast ∧ (nvEnd r s).spn = s.spn
    ∧ (nvEnd r s).spnQueue = s.spnQueue ∧ (nvEnd r s).loops = s.loops ∧ (nvEnd r s).acts = s.acts ∧ (nvEnd r s).engs = s.engs ∧ (nvEnd r s).wOff = s.wOff
    ∧ (nvEnd r s).dn = s.dn ∧ (nvEnd r s).up = s.up ∧ (nvEnd r s).lnks = s.lnks ∧ (nvEnd r s).seqs = s.seqs ∧ (nvEnd r s).seqMaster = s.seqMaster ∧ (nvEnd
    r s).seqStaged = s.seqStaged ∧ (nvEnd r s).pool = s.pool ∧ (nvEnd r s).poolOrd = s.poolOrd ∧ (nvEnd r s).chains = s.chains ∧ (nvEnd r s).outqs =
    s.outqs ∧ (nvEnd r s).ldpc = s.ldpc ∧ (nvEnd r s).dram = s.dram ∧ (nvEnd r s).buf = s.buf ∧ (nvEnd r s).flips = s.flips ∧ (nvEnd r s).nvs = s.nvs ∧
    (nvEnd r s).hif = s.hif ∧ (nvEnd r s).sec = s.sec ∧ (nvEnd r s).pins = s.pins ∧ (nvEnd r s).freeCtr = s.freeCtr ∧ (nvEnd r s).pending = s.pending := by
  unfold nvEnd; simp

/-- Units of the NV store become blank (R401). -/
@[simp] theorem nvClear_frame (s : State) (off n : Nat) :
    (nvClear off n s).regs = s.regs ∧ (nvClear off n s).ctrs = s.ctrs ∧ (nvClear off n s).snap = s.snap ∧ (nvClear off n s).mem = s.mem ∧ (nvClear off n
    s).poison = s.poison ∧ (nvClear off n s).rdata = s.rdata ∧ (nvClear off n s).busErr = s.busErr ∧ (nvClear off n s).dataExc = s.dataExc ∧ (nvClear off
    n s).plat = s.plat ∧ (nvClear off n s).gh = s.gh ∧ (nvClear off n s).sdl = s.sdl ∧ (nvClear off n s).ice = s.ice ∧ (nvClear off n s).cal = s.cal ∧
    (nvClear off n s).ksk = s.ksk ∧ (nvClear off n s).replies = s.replies ∧ (nvClear off n s).locks = s.locks ∧ (nvClear off n s).msix = s.msix ∧ (nvClear
    off n s).asm = s.asm ∧ (nvClear off n s).held = s.held ∧ (nvClear off n s).dmaLast = s.dmaLast ∧ (nvClear off n s).spn = s.spn ∧ (nvClear off n
    s).spnQueue = s.spnQueue ∧ (nvClear off n s).loops = s.loops ∧ (nvClear off n s).acts = s.acts ∧ (nvClear off n s).engs = s.engs ∧ (nvClear off n
    s).wOff = s.wOff ∧ (nvClear off n s).dn = s.dn ∧ (nvClear off n s).up = s.up ∧ (nvClear off n s).lnks = s.lnks ∧ (nvClear off n s).seqs = s.seqs ∧
    (nvClear off n s).seqMaster = s.seqMaster ∧ (nvClear off n s).seqStaged = s.seqStaged ∧ (nvClear off n s).pool = s.pool ∧ (nvClear off n s).poolOrd =
    s.poolOrd ∧ (nvClear off n s).chains = s.chains ∧ (nvClear off n s).outqs = s.outqs ∧ (nvClear off n s).ldpc = s.ldpc ∧ (nvClear off n s).dram =
    s.dram ∧ (nvClear off n s).buf = s.buf ∧ (nvClear off n s).flips = s.flips ∧ (nvClear off n s).hif = s.hif ∧ (nvClear off n s).sec = s.sec ∧ (nvClear
    off n s).pins = s.pins ∧ (nvClear off n s).freeCtr = s.freeCtr ∧ (nvClear off n s).pending = s.pending := by
  unfold nvClear
  exact ⟨rfl, rfl, rfl, rfl, rfl, rfl, rfl, rfl, rfl, rfl, rfl, rfl, rfl, rfl, rfl, rfl, rfl, rfl, rfl, rfl, rfl, rfl, rfl, rfl, rfl, rfl, rfl, rfl, rfl, rfl, rfl, rfl, rfl, rfl, rfl, rfl, rfl, rfl, rfl, rfl, rfl, rfl, rfl, rfl, rfl⟩

/-- A unit is programmed (R397). -/
@[simp] theorem nvUnit_frame (s : State) (off : Nat) (l : List Byte) :
    (nvUnit off l s).regs = s.regs ∧ (nvUnit off l s).ctrs = s.ctrs ∧ (nvUnit off l s).snap = s.snap ∧ (nvUnit off l s).mem = s.mem ∧ (nvUnit off l
    s).poison = s.poison ∧ (nvUnit off l s).rdata = s.rdata ∧ (nvUnit off l s).busErr = s.busErr ∧ (nvUnit off l s).dataExc = s.dataExc ∧ (nvUnit off l
    s).plat = s.plat ∧ (nvUnit off l s).gh = s.gh ∧ (nvUnit off l s).sdl = s.sdl ∧ (nvUnit off l s).ice = s.ice ∧ (nvUnit off l s).cal = s.cal ∧ (nvUnit
    off l s).ksk = s.ksk ∧ (nvUnit off l s).replies = s.replies ∧ (nvUnit off l s).locks = s.locks ∧ (nvUnit off l s).msix = s.msix ∧ (nvUnit off l s).asm
    = s.asm ∧ (nvUnit off l s).held = s.held ∧ (nvUnit off l s).dmaLast = s.dmaLast ∧ (nvUnit off l s).spn = s.spn ∧ (nvUnit off l s).spnQueue =
    s.spnQueue ∧ (nvUnit off l s).loops = s.loops ∧ (nvUnit off l s).acts = s.acts ∧ (nvUnit off l s).engs = s.engs ∧ (nvUnit off l s).wOff = s.wOff ∧
    (nvUnit off l s).dn = s.dn ∧ (nvUnit off l s).up = s.up ∧ (nvUnit off l s).lnks = s.lnks ∧ (nvUnit off l s).seqs = s.seqs ∧ (nvUnit off l s).seqMaster
    = s.seqMaster ∧ (nvUnit off l s).seqStaged = s.seqStaged ∧ (nvUnit off l s).pool = s.pool ∧ (nvUnit off l s).poolOrd = s.poolOrd ∧ (nvUnit off l
    s).chains = s.chains ∧ (nvUnit off l s).outqs = s.outqs ∧ (nvUnit off l s).ldpc = s.ldpc ∧ (nvUnit off l s).dram = s.dram ∧ (nvUnit off l s).buf =
    s.buf ∧ (nvUnit off l s).flips = s.flips ∧ (nvUnit off l s).hif = s.hif ∧ (nvUnit off l s).sec = s.sec ∧ (nvUnit off l s).pins = s.pins ∧ (nvUnit off
    l s).freeCtr = s.freeCtr ∧ (nvUnit off l s).pending = s.pending := by
  unfold nvUnit; rw [wrNvs_eq s off l]; dsimp only
  split <;> exact ⟨rfl, rfl, rfl, rfl, rfl, rfl, rfl, rfl, rfl, rfl, rfl, rfl, rfl, rfl, rfl, rfl, rfl, rfl, rfl, rfl, rfl, rfl, rfl, rfl, rfl, rfl, rfl, rfl, rfl, rfl, rfl, rfl, rfl, rfl, rfl, rfl, rfl, rfl, rfl, rfl, rfl, rfl, rfl, rfl, rfl⟩

/-- Units are programmed (R397). -/
@[simp] theorem nvUnits_frame (s : State) (off : Nat) (l : List Byte) (i n : Nat) :
    (nvUnits off l i n s).regs = s.regs ∧ (nvUnits off l i n s).ctrs = s.ctrs ∧ (nvUnits off l i n s).snap = s.snap ∧ (nvUnits off l i n s).mem = s.mem ∧
    (nvUnits off l i n s).poison = s.poison ∧ (nvUnits off l i n s).rdata = s.rdata ∧ (nvUnits off l i n s).busErr = s.busErr ∧ (nvUnits off l i n
    s).dataExc = s.dataExc ∧ (nvUnits off l i n s).plat = s.plat ∧ (nvUnits off l i n s).gh = s.gh ∧ (nvUnits off l i n s).sdl = s.sdl ∧ (nvUnits off l i
    n s).ice = s.ice ∧ (nvUnits off l i n s).cal = s.cal ∧ (nvUnits off l i n s).ksk = s.ksk ∧ (nvUnits off l i n s).replies = s.replies ∧ (nvUnits off l
    i n s).locks = s.locks ∧ (nvUnits off l i n s).msix = s.msix ∧ (nvUnits off l i n s).asm = s.asm ∧ (nvUnits off l i n s).held = s.held ∧ (nvUnits off
    l i n s).dmaLast = s.dmaLast ∧ (nvUnits off l i n s).spn = s.spn ∧ (nvUnits off l i n s).spnQueue = s.spnQueue ∧ (nvUnits off l i n s).loops = s.loops
    ∧ (nvUnits off l i n s).acts = s.acts ∧ (nvUnits off l i n s).engs = s.engs ∧ (nvUnits off l i n s).wOff = s.wOff ∧ (nvUnits off l i n s).dn = s.dn ∧
    (nvUnits off l i n s).up = s.up ∧ (nvUnits off l i n s).lnks = s.lnks ∧ (nvUnits off l i n s).seqs = s.seqs ∧ (nvUnits off l i n s).seqMaster =
    s.seqMaster ∧ (nvUnits off l i n s).seqStaged = s.seqStaged ∧ (nvUnits off l i n s).pool = s.pool ∧ (nvUnits off l i n s).poolOrd = s.poolOrd ∧
    (nvUnits off l i n s).chains = s.chains ∧ (nvUnits off l i n s).outqs = s.outqs ∧ (nvUnits off l i n s).ldpc = s.ldpc ∧ (nvUnits off l i n s).dram =
    s.dram ∧ (nvUnits off l i n s).buf = s.buf ∧ (nvUnits off l i n s).flips = s.flips ∧ (nvUnits off l i n s).hif = s.hif ∧ (nvUnits off l i n s).sec =
    s.sec ∧ (nvUnits off l i n s).pins = s.pins ∧ (nvUnits off l i n s).freeCtr = s.freeCtr ∧ (nvUnits off l i n s).pending = s.pending := by
  unfold nvUnits
  exact ⟨(each_same State.regs _ _ _ (fun _ _ => by simp)).trans (by simp), (each_same State.ctrs _ _ _ (fun _ _ => by simp)).trans (by simp), (each_same
      State.snap _ _ _ (fun _ _ => by simp)).trans (by simp), (each_same State.mem _ _ _ (fun _ _ => by simp)).trans (by simp), (each_same State.poison _ _
      _ (fun _ _ => by simp)).trans (by simp), (each_same State.rdata _ _ _ (fun _ _ => by simp)).trans (by simp), (each_same State.busErr _ _ _ (fun _ _ =>
      by simp)).trans (by simp), (each_same State.dataExc _ _ _ (fun _ _ => by simp)).trans (by simp), (each_same State.plat _ _ _ (fun _ _ => by
      simp)).trans (by simp), (each_same State.gh _ _ _ (fun _ _ => by simp)).trans (by simp), (each_same State.sdl _ _ _ (fun _ _ => by simp)).trans (by
      simp), (each_same State.ice _ _ _ (fun _ _ => by simp)).trans (by simp), (each_same State.cal _ _ _ (fun _ _ => by simp)).trans (by simp), (each_same
      State.ksk _ _ _ (fun _ _ => by simp)).trans (by simp), (each_same State.replies _ _ _ (fun _ _ => by simp)).trans (by simp), (each_same State.locks _
      _ _ (fun _ _ => by simp)).trans (by simp), (each_same State.msix _ _ _ (fun _ _ => by simp)).trans (by simp), (each_same State.asm _ _ _ (fun _ _ =>
      by simp)).trans (by simp), (each_same State.held _ _ _ (fun _ _ => by simp)).trans (by simp), (each_same State.dmaLast _ _ _ (fun _ _ => by
      simp)).trans (by simp), (each_same State.spn _ _ _ (fun _ _ => by simp)).trans (by simp), (each_same State.spnQueue _ _ _ (fun _ _ => by simp)).trans
      (by simp), (each_same State.loops _ _ _ (fun _ _ => by simp)).trans (by simp), (each_same State.acts _ _ _ (fun _ _ => by simp)).trans (by simp),
      (each_same State.engs _ _ _ (fun _ _ => by simp)).trans (by simp), (each_same State.wOff _ _ _ (fun _ _ => by simp)).trans (by simp), (each_same
      State.dn _ _ _ (fun _ _ => by simp)).trans (by simp), (each_same State.up _ _ _ (fun _ _ => by simp)).trans (by simp), (each_same State.lnks _ _ _
      (fun _ _ => by simp)).trans (by simp), (each_same State.seqs _ _ _ (fun _ _ => by simp)).trans (by simp), (each_same State.seqMaster _ _ _ (fun _ _ =>
      by simp)).trans (by simp), (each_same State.seqStaged _ _ _ (fun _ _ => by simp)).trans (by simp), (each_same State.pool _ _ _ (fun _ _ => by
      simp)).trans (by simp), (each_same State.poolOrd _ _ _ (fun _ _ => by simp)).trans (by simp), (each_same State.chains _ _ _ (fun _ _ => by
      simp)).trans (by simp), (each_same State.outqs _ _ _ (fun _ _ => by simp)).trans (by simp), (each_same State.ldpc _ _ _ (fun _ _ => by simp)).trans
      (by simp), (each_same State.dram _ _ _ (fun _ _ => by simp)).trans (by simp), (each_same State.buf _ _ _ (fun _ _ => by simp)).trans (by simp),
      (each_same State.flips _ _ _ (fun _ _ => by simp)).trans (by simp), (each_same State.hif _ _ _ (fun _ _ => by simp)).trans (by simp), (each_same
      State.sec _ _ _ (fun _ _ => by simp)).trans (by simp), (each_same State.pins _ _ _ (fun _ _ => by simp)).trans (by simp), (each_same State.freeCtr _ _
      _ (fun _ _ => by simp)).trans (by simp), (each_same State.pending _ _ _ (fun _ _ => by simp)).trans (by simp)⟩

/-- A unit whose program is cut short (R400). -/
@[simp] theorem unitCut_frame (s : State) (off : Nat) (l : List Byte) :
    (unitCut off l s).regs = s.regs ∧ (unitCut off l s).ctrs = s.ctrs ∧ (unitCut off l s).snap = s.snap ∧ (unitCut off l s).mem = s.mem ∧ (unitCut off l
    s).poison = s.poison ∧ (unitCut off l s).rdata = s.rdata ∧ (unitCut off l s).busErr = s.busErr ∧ (unitCut off l s).dataExc = s.dataExc ∧ (unitCut off
    l s).plat = s.plat ∧ (unitCut off l s).gh = s.gh ∧ (unitCut off l s).sdl = s.sdl ∧ (unitCut off l s).ice = s.ice ∧ (unitCut off l s).cal = s.cal ∧
    (unitCut off l s).ksk = s.ksk ∧ (unitCut off l s).replies = s.replies ∧ (unitCut off l s).locks = s.locks ∧ (unitCut off l s).msix = s.msix ∧ (unitCut
    off l s).asm = s.asm ∧ (unitCut off l s).held = s.held ∧ (unitCut off l s).dmaLast = s.dmaLast ∧ (unitCut off l s).spn = s.spn ∧ (unitCut off l
    s).spnQueue = s.spnQueue ∧ (unitCut off l s).loops = s.loops ∧ (unitCut off l s).acts = s.acts ∧ (unitCut off l s).engs = s.engs ∧ (unitCut off l
    s).wOff = s.wOff ∧ (unitCut off l s).dn = s.dn ∧ (unitCut off l s).up = s.up ∧ (unitCut off l s).lnks = s.lnks ∧ (unitCut off l s).seqs = s.seqs ∧
    (unitCut off l s).seqMaster = s.seqMaster ∧ (unitCut off l s).seqStaged = s.seqStaged ∧ (unitCut off l s).pool = s.pool ∧ (unitCut off l s).poolOrd =
    s.poolOrd ∧ (unitCut off l s).chains = s.chains ∧ (unitCut off l s).outqs = s.outqs ∧ (unitCut off l s).ldpc = s.ldpc ∧ (unitCut off l s).dram =
    s.dram ∧ (unitCut off l s).buf = s.buf ∧ (unitCut off l s).flips = s.flips ∧ (unitCut off l s).hif = s.hif ∧ (unitCut off l s).sec = s.sec ∧ (unitCut
    off l s).pins = s.pins ∧ (unitCut off l s).pending = s.pending := by
  unfold unitCut; try dsimp only
  repeat' split
  all_goals simp

/-- A refused program of an indeterminate sector (R399). -/
@[simp] theorem indetProg_frame (s : State) :
    (indetProg s).ctrs = s.ctrs ∧ (indetProg s).snap = s.snap ∧ (indetProg s).mem = s.mem ∧ (indetProg s).nv = s.nv ∧ (indetProg s).poison = s.poison ∧
    (indetProg s).rdata = s.rdata ∧ (indetProg s).busErr = s.busErr ∧ (indetProg s).dataExc = s.dataExc ∧ (indetProg s).plat = s.plat ∧ (indetProg s).gh =
    s.gh ∧ (indetProg s).sdl = s.sdl ∧ (indetProg s).ice = s.ice ∧ (indetProg s).cal = s.cal ∧ (indetProg s).ksk = s.ksk ∧ (indetProg s).replies =
    s.replies ∧ (indetProg s).locks = s.locks ∧ (indetProg s).msix = s.msix ∧ (indetProg s).asm = s.asm ∧ (indetProg s).held = s.held ∧ (indetProg
    s).dmaLast = s.dmaLast ∧ (indetProg s).spn = s.spn ∧ (indetProg s).spnQueue = s.spnQueue ∧ (indetProg s).loops = s.loops ∧ (indetProg s).acts = s.acts
    ∧ (indetProg s).engs = s.engs ∧ (indetProg s).wOff = s.wOff ∧ (indetProg s).dn = s.dn ∧ (indetProg s).up = s.up ∧ (indetProg s).lnks = s.lnks ∧
    (indetProg s).seqs = s.seqs ∧ (indetProg s).seqMaster = s.seqMaster ∧ (indetProg s).seqStaged = s.seqStaged ∧ (indetProg s).pool = s.pool ∧ (indetProg
    s).poolOrd = s.poolOrd ∧ (indetProg s).chains = s.chains ∧ (indetProg s).outqs = s.outqs ∧ (indetProg s).ldpc = s.ldpc ∧ (indetProg s).dram = s.dram ∧
    (indetProg s).buf = s.buf ∧ (indetProg s).flips = s.flips ∧ (indetProg s).nvs = s.nvs ∧ (indetProg s).hif = s.hif ∧ (indetProg s).sec = s.sec ∧
    (indetProg s).pins = s.pins ∧ (indetProg s).freeCtr = s.freeCtr ∧ (indetProg s).pending = s.pending := by
  unfold indetProg; try dsimp only
  repeat' split
  all_goals simp

/-- A unit is programmed by an engine (R399). -/
@[simp] theorem engineUnit_frame (s : State) (off : Nat) (l : List Byte) :
    (engineUnit off l s).ctrs = s.ctrs ∧ (engineUnit off l s).snap = s.snap ∧ (engineUnit off l s).mem = s.mem ∧ (engineUnit off l s).poison = s.poison ∧
    (engineUnit off l s).rdata = s.rdata ∧ (engineUnit off l s).busErr = s.busErr ∧ (engineUnit off l s).dataExc = s.dataExc ∧ (engineUnit off l s).plat =
    s.plat ∧ (engineUnit off l s).gh = s.gh ∧ (engineUnit off l s).sdl = s.sdl ∧ (engineUnit off l s).ice = s.ice ∧ (engineUnit off l s).cal = s.cal ∧
    (engineUnit off l s).ksk = s.ksk ∧ (engineUnit off l s).replies = s.replies ∧ (engineUnit off l s).locks = s.locks ∧ (engineUnit off l s).msix =
    s.msix ∧ (engineUnit off l s).asm = s.asm ∧ (engineUnit off l s).held = s.held ∧ (engineUnit off l s).dmaLast = s.dmaLast ∧ (engineUnit off l s).spn =
    s.spn ∧ (engineUnit off l s).spnQueue = s.spnQueue ∧ (engineUnit off l s).loops = s.loops ∧ (engineUnit off l s).acts = s.acts ∧ (engineUnit off l
    s).engs = s.engs ∧ (engineUnit off l s).wOff = s.wOff ∧ (engineUnit off l s).dn = s.dn ∧ (engineUnit off l s).up = s.up ∧ (engineUnit off l s).lnks =
    s.lnks ∧ (engineUnit off l s).seqs = s.seqs ∧ (engineUnit off l s).seqMaster = s.seqMaster ∧ (engineUnit off l s).seqStaged = s.seqStaged ∧
    (engineUnit off l s).pool = s.pool ∧ (engineUnit off l s).poolOrd = s.poolOrd ∧ (engineUnit off l s).chains = s.chains ∧ (engineUnit off l s).outqs =
    s.outqs ∧ (engineUnit off l s).ldpc = s.ldpc ∧ (engineUnit off l s).dram = s.dram ∧ (engineUnit off l s).buf = s.buf ∧ (engineUnit off l s).flips =
    s.flips ∧ (engineUnit off l s).hif = s.hif ∧ (engineUnit off l s).sec = s.sec ∧ (engineUnit off l s).pins = s.pins ∧ (engineUnit off l s).freeCtr =
    s.freeCtr ∧ (engineUnit off l s).pending = s.pending := by
  unfold engineUnit; try dsimp only
  repeat' split
  all_goals simp

/-- NVS_INDET and NVS_WEAR show the sectors (R404, R405). -/
@[simp] theorem nvShow_frame (s : State) :
    (nvShow s).ctrs = s.ctrs ∧ (nvShow s).snap = s.snap ∧ (nvShow s).mem = s.mem ∧ (nvShow s).nv = s.nv ∧ (nvShow s).poison = s.poison ∧ (nvShow s).rdata
    = s.rdata ∧ (nvShow s).busErr = s.busErr ∧ (nvShow s).dataExc = s.dataExc ∧ (nvShow s).plat = s.plat ∧ (nvShow s).gh = s.gh ∧ (nvShow s).sdl = s.sdl ∧
    (nvShow s).ice = s.ice ∧ (nvShow s).cal = s.cal ∧ (nvShow s).ksk = s.ksk ∧ (nvShow s).replies = s.replies ∧ (nvShow s).locks = s.locks ∧ (nvShow
    s).msix = s.msix ∧ (nvShow s).asm = s.asm ∧ (nvShow s).held = s.held ∧ (nvShow s).dmaLast = s.dmaLast ∧ (nvShow s).spn = s.spn ∧ (nvShow s).spnQueue =
    s.spnQueue ∧ (nvShow s).loops = s.loops ∧ (nvShow s).acts = s.acts ∧ (nvShow s).engs = s.engs ∧ (nvShow s).wOff = s.wOff ∧ (nvShow s).dn = s.dn ∧
    (nvShow s).up = s.up ∧ (nvShow s).lnks = s.lnks ∧ (nvShow s).seqs = s.seqs ∧ (nvShow s).seqMaster = s.seqMaster ∧ (nvShow s).seqStaged = s.seqStaged ∧
    (nvShow s).pool = s.pool ∧ (nvShow s).poolOrd = s.poolOrd ∧ (nvShow s).chains = s.chains ∧ (nvShow s).outqs = s.outqs ∧ (nvShow s).ldpc = s.ldpc ∧
    (nvShow s).dram = s.dram ∧ (nvShow s).buf = s.buf ∧ (nvShow s).flips = s.flips ∧ (nvShow s).nvs = s.nvs ∧ (nvShow s).hif = s.hif ∧ (nvShow s).sec =
    s.sec ∧ (nvShow s).pins = s.pins ∧ (nvShow s).freeCtr = s.freeCtr ∧ (nvShow s).pending = s.pending := by
  unfold nvShow
  exact ⟨rfl, rfl, rfl, rfl, rfl, rfl, rfl, rfl, rfl, rfl, rfl, rfl, rfl, rfl, rfl, rfl, rfl, rfl, rfl, rfl, rfl, rfl, rfl, rfl, rfl, rfl, rfl, rfl, rfl, rfl, rfl, rfl, rfl, rfl, rfl, rfl, rfl, rfl, rfl, rfl, rfl, rfl, rfl, rfl, rfl, rfl⟩

/-- A worn sector (R405). -/
@[simp] theorem nvWorn_frame (s : State) (n : Nat) (inj : Bool) :
    (nvWorn n inj s).snap = s.snap ∧ (nvWorn n inj s).mem = s.mem ∧ (nvWorn n inj s).nv = s.nv ∧ (nvWorn n inj s).poison = s.poison ∧ (nvWorn n inj
    s).rdata = s.rdata ∧ (nvWorn n inj s).busErr = s.busErr ∧ (nvWorn n inj s).dataExc = s.dataExc ∧ (nvWorn n inj s).plat = s.plat ∧ (nvWorn n inj s).sdl
    = s.sdl ∧ (nvWorn n inj s).ice = s.ice ∧ (nvWorn n inj s).cal = s.cal ∧ (nvWorn n inj s).ksk = s.ksk ∧ (nvWorn n inj s).replies = s.replies ∧ (nvWorn
    n inj s).locks = s.locks ∧ (nvWorn n inj s).msix = s.msix ∧ (nvWorn n inj s).asm = s.asm ∧ (nvWorn n inj s).held = s.held ∧ (nvWorn n inj s).dmaLast =
    s.dmaLast ∧ (nvWorn n inj s).spn = s.spn ∧ (nvWorn n inj s).spnQueue = s.spnQueue ∧ (nvWorn n inj s).loops = s.loops ∧ (nvWorn n inj s).acts = s.acts
    ∧ (nvWorn n inj s).engs = s.engs ∧ (nvWorn n inj s).wOff = s.wOff ∧ (nvWorn n inj s).dn = s.dn ∧ (nvWorn n inj s).up = s.up ∧ (nvWorn n inj s).lnks =
    s.lnks ∧ (nvWorn n inj s).seqs = s.seqs ∧ (nvWorn n inj s).seqMaster = s.seqMaster ∧ (nvWorn n inj s).seqStaged = s.seqStaged ∧ (nvWorn n inj s).pool
    = s.pool ∧ (nvWorn n inj s).poolOrd = s.poolOrd ∧ (nvWorn n inj s).chains = s.chains ∧ (nvWorn n inj s).outqs = s.outqs ∧ (nvWorn n inj s).ldpc =
    s.ldpc ∧ (nvWorn n inj s).dram = s.dram ∧ (nvWorn n inj s).buf = s.buf ∧ (nvWorn n inj s).flips = s.flips ∧ (nvWorn n inj s).nvs = s.nvs ∧ (nvWorn n
    inj s).hif = s.hif ∧ (nvWorn n inj s).sec = s.sec ∧ (nvWorn n inj s).pins = s.pins ∧ (nvWorn n inj s).freeCtr = s.freeCtr ∧ (nvWorn n inj s).pending =
    s.pending := by
  unfold nvWorn; try dsimp only
  repeat' split
  all_goals simp

/-- The older rows of the journal are erased (R402). -/
@[simp] theorem jClear_frame (s : State) :
    (jClear s).regs = s.regs ∧ (jClear s).ctrs = s.ctrs ∧ (jClear s).snap = s.snap ∧ (jClear s).mem = s.mem ∧ (jClear s).nv = s.nv ∧ (jClear s).poison =
    s.poison ∧ (jClear s).rdata = s.rdata ∧ (jClear s).busErr = s.busErr ∧ (jClear s).dataExc = s.dataExc ∧ (jClear s).plat = s.plat ∧ (jClear s).gh =
    s.gh ∧ (jClear s).sdl = s.sdl ∧ (jClear s).ice = s.ice ∧ (jClear s).cal = s.cal ∧ (jClear s).ksk = s.ksk ∧ (jClear s).replies = s.replies ∧ (jClear
    s).locks = s.locks ∧ (jClear s).msix = s.msix ∧ (jClear s).asm = s.asm ∧ (jClear s).held = s.held ∧ (jClear s).dmaLast = s.dmaLast ∧ (jClear s).spn =
    s.spn ∧ (jClear s).spnQueue = s.spnQueue ∧ (jClear s).loops = s.loops ∧ (jClear s).acts = s.acts ∧ (jClear s).engs = s.engs ∧ (jClear s).wOff = s.wOff
    ∧ (jClear s).dn = s.dn ∧ (jClear s).up = s.up ∧ (jClear s).lnks = s.lnks ∧ (jClear s).seqs = s.seqs ∧ (jClear s).seqMaster = s.seqMaster ∧ (jClear
    s).seqStaged = s.seqStaged ∧ (jClear s).pool = s.pool ∧ (jClear s).poolOrd = s.poolOrd ∧ (jClear s).chains = s.chains ∧ (jClear s).outqs = s.outqs ∧
    (jClear s).ldpc = s.ldpc ∧ (jClear s).dram = s.dram ∧ (jClear s).buf = s.buf ∧ (jClear s).flips = s.flips ∧ (jClear s).hif = s.hif ∧ (jClear s).sec =
    s.sec ∧ (jClear s).pins = s.pins ∧ (jClear s).freeCtr = s.freeCtr ∧ (jClear s).pending = s.pending := by
  unfold jClear; try dsimp only
  repeat' split
  all_goals simp

/-- BEGIN of an erase (R402). -/
@[simp] theorem eraseBegin_frame (s : State) (n : Nat) :
    (eraseBegin n s).snap = s.snap ∧ (eraseBegin n s).mem = s.mem ∧ (eraseBegin n s).nv = s.nv ∧ (eraseBegin n s).poison = s.poison ∧ (eraseBegin n
    s).rdata = s.rdata ∧ (eraseBegin n s).busErr = s.busErr ∧ (eraseBegin n s).dataExc = s.dataExc ∧ (eraseBegin n s).plat = s.plat ∧ (eraseBegin n s).sdl
    = s.sdl ∧ (eraseBegin n s).ice = s.ice ∧ (eraseBegin n s).cal = s.cal ∧ (eraseBegin n s).ksk = s.ksk ∧ (eraseBegin n s).replies = s.replies ∧
    (eraseBegin n s).locks = s.locks ∧ (eraseBegin n s).msix = s.msix ∧ (eraseBegin n s).asm = s.asm ∧ (eraseBegin n s).held = s.held ∧ (eraseBegin n
    s).dmaLast = s.dmaLast ∧ (eraseBegin n s).spn = s.spn ∧ (eraseBegin n s).spnQueue = s.spnQueue ∧ (eraseBegin n s).loops = s.loops ∧ (eraseBegin n
    s).acts = s.acts ∧ (eraseBegin n s).engs = s.engs ∧ (eraseBegin n s).wOff = s.wOff ∧ (eraseBegin n s).dn = s.dn ∧ (eraseBegin n s).up = s.up ∧
    (eraseBegin n s).lnks = s.lnks ∧ (eraseBegin n s).seqs = s.seqs ∧ (eraseBegin n s).seqMaster = s.seqMaster ∧ (eraseBegin n s).seqStaged = s.seqStaged
    ∧ (eraseBegin n s).pool = s.pool ∧ (eraseBegin n s).poolOrd = s.poolOrd ∧ (eraseBegin n s).chains = s.chains ∧ (eraseBegin n s).outqs = s.outqs ∧
    (eraseBegin n s).ldpc = s.ldpc ∧ (eraseBegin n s).dram = s.dram ∧ (eraseBegin n s).buf = s.buf ∧ (eraseBegin n s).flips = s.flips ∧ (eraseBegin n
    s).hif = s.hif ∧ (eraseBegin n s).sec = s.sec ∧ (eraseBegin n s).pins = s.pins ∧ (eraseBegin n s).freeCtr = s.freeCtr ∧ (eraseBegin n s).pending =
    s.pending := by
  unfold eraseBegin; try dsimp only
  repeat' split
  all_goals simp

/-- END of an erase (R402). -/
@[simp] theorem eraseDone_frame (s : State) (n : Nat) :
    (eraseDone n s).ctrs = s.ctrs ∧ (eraseDone n s).snap = s.snap ∧ (eraseDone n s).mem = s.mem ∧ (eraseDone n s).poison = s.poison ∧ (eraseDone n
    s).rdata = s.rdata ∧ (eraseDone n s).busErr = s.busErr ∧ (eraseDone n s).dataExc = s.dataExc ∧ (eraseDone n s).plat = s.plat ∧ (eraseDone n s).gh =
    s.gh ∧ (eraseDone n s).sdl = s.sdl ∧ (eraseDone n s).ice = s.ice ∧ (eraseDone n s).cal = s.cal ∧ (eraseDone n s).ksk = s.ksk ∧ (eraseDone n s).replies
    = s.replies ∧ (eraseDone n s).locks = s.locks ∧ (eraseDone n s).msix = s.msix ∧ (eraseDone n s).asm = s.asm ∧ (eraseDone n s).held = s.held ∧
    (eraseDone n s).dmaLast = s.dmaLast ∧ (eraseDone n s).spn = s.spn ∧ (eraseDone n s).spnQueue = s.spnQueue ∧ (eraseDone n s).loops = s.loops ∧
    (eraseDone n s).acts = s.acts ∧ (eraseDone n s).engs = s.engs ∧ (eraseDone n s).wOff = s.wOff ∧ (eraseDone n s).dn = s.dn ∧ (eraseDone n s).up = s.up
    ∧ (eraseDone n s).lnks = s.lnks ∧ (eraseDone n s).seqs = s.seqs ∧ (eraseDone n s).seqMaster = s.seqMaster ∧ (eraseDone n s).seqStaged = s.seqStaged ∧
    (eraseDone n s).pool = s.pool ∧ (eraseDone n s).poolOrd = s.poolOrd ∧ (eraseDone n s).chains = s.chains ∧ (eraseDone n s).outqs = s.outqs ∧ (eraseDone
    n s).ldpc = s.ldpc ∧ (eraseDone n s).dram = s.dram ∧ (eraseDone n s).buf = s.buf ∧ (eraseDone n s).flips = s.flips ∧ (eraseDone n s).hif = s.hif ∧
    (eraseDone n s).sec = s.sec ∧ (eraseDone n s).pins = s.pins ∧ (eraseDone n s).freeCtr = s.freeCtr ∧ (eraseDone n s).pending = s.pending := by
  unfold eraseDone; try dsimp only
  repeat' split
  all_goals simp

/-- A whole erase (R401). -/
@[simp] theorem eraseSector_frame (s : State) (n : Nat) :
    (eraseSector n s).snap = s.snap ∧ (eraseSector n s).mem = s.mem ∧ (eraseSector n s).poison = s.poison ∧ (eraseSector n s).rdata = s.rdata ∧
    (eraseSector n s).busErr = s.busErr ∧ (eraseSector n s).dataExc = s.dataExc ∧ (eraseSector n s).plat = s.plat ∧ (eraseSector n s).sdl = s.sdl ∧
    (eraseSector n s).ice = s.ice ∧ (eraseSector n s).cal = s.cal ∧ (eraseSector n s).ksk = s.ksk ∧ (eraseSector n s).replies = s.replies ∧ (eraseSector n
    s).locks = s.locks ∧ (eraseSector n s).msix = s.msix ∧ (eraseSector n s).asm = s.asm ∧ (eraseSector n s).held = s.held ∧ (eraseSector n s).dmaLast =
    s.dmaLast ∧ (eraseSector n s).spn = s.spn ∧ (eraseSector n s).spnQueue = s.spnQueue ∧ (eraseSector n s).loops = s.loops ∧ (eraseSector n s).acts =
    s.acts ∧ (eraseSector n s).engs = s.engs ∧ (eraseSector n s).wOff = s.wOff ∧ (eraseSector n s).dn = s.dn ∧ (eraseSector n s).up = s.up ∧ (eraseSector
    n s).lnks = s.lnks ∧ (eraseSector n s).seqs = s.seqs ∧ (eraseSector n s).seqMaster = s.seqMaster ∧ (eraseSector n s).seqStaged = s.seqStaged ∧
    (eraseSector n s).pool = s.pool ∧ (eraseSector n s).poolOrd = s.poolOrd ∧ (eraseSector n s).chains = s.chains ∧ (eraseSector n s).outqs = s.outqs ∧
    (eraseSector n s).ldpc = s.ldpc ∧ (eraseSector n s).dram = s.dram ∧ (eraseSector n s).buf = s.buf ∧ (eraseSector n s).flips = s.flips ∧ (eraseSector n
    s).hif = s.hif ∧ (eraseSector n s).sec = s.sec ∧ (eraseSector n s).pins = s.pins ∧ (eraseSector n s).freeCtr = s.freeCtr ∧ (eraseSector n s).pending =
    s.pending := by
  unfold eraseSector; try dsimp only
  repeat' split
  all_goals simp

/-- An erase of a bank begins (R402). -/
@[simp] theorem eraseGo_frame (s : State) (b : Nat) :
    (eraseGo b s).snap = s.snap ∧ (eraseGo b s).mem = s.mem ∧ (eraseGo b s).nv = s.nv ∧ (eraseGo b s).poison = s.poison ∧ (eraseGo b s).rdata = s.rdata ∧
    (eraseGo b s).busErr = s.busErr ∧ (eraseGo b s).dataExc = s.dataExc ∧ (eraseGo b s).plat = s.plat ∧ (eraseGo b s).sdl = s.sdl ∧ (eraseGo b s).ice =
    s.ice ∧ (eraseGo b s).cal = s.cal ∧ (eraseGo b s).ksk = s.ksk ∧ (eraseGo b s).replies = s.replies ∧ (eraseGo b s).locks = s.locks ∧ (eraseGo b s).msix
    = s.msix ∧ (eraseGo b s).asm = s.asm ∧ (eraseGo b s).held = s.held ∧ (eraseGo b s).dmaLast = s.dmaLast ∧ (eraseGo b s).spn = s.spn ∧ (eraseGo b
    s).spnQueue = s.spnQueue ∧ (eraseGo b s).loops = s.loops ∧ (eraseGo b s).acts = s.acts ∧ (eraseGo b s).engs = s.engs ∧ (eraseGo b s).wOff = s.wOff ∧
    (eraseGo b s).dn = s.dn ∧ (eraseGo b s).up = s.up ∧ (eraseGo b s).lnks = s.lnks ∧ (eraseGo b s).seqs = s.seqs ∧ (eraseGo b s).seqMaster = s.seqMaster
    ∧ (eraseGo b s).seqStaged = s.seqStaged ∧ (eraseGo b s).pool = s.pool ∧ (eraseGo b s).poolOrd = s.poolOrd ∧ (eraseGo b s).chains = s.chains ∧ (eraseGo
    b s).outqs = s.outqs ∧ (eraseGo b s).ldpc = s.ldpc ∧ (eraseGo b s).dram = s.dram ∧ (eraseGo b s).buf = s.buf ∧ (eraseGo b s).flips = s.flips ∧
    (eraseGo b s).hif = s.hif ∧ (eraseGo b s).sec = s.sec ∧ (eraseGo b s).pins = s.pins ∧ (eraseGo b s).freeCtr = s.freeCtr ∧ (eraseGo b s).pending =
    s.pending := by
  unfold eraseGo; try dsimp only
  repeat' split
  all_goals simp

/-- A bank takes up an erase (R408). -/
@[simp] theorem eraseStart_frame (s : State) (n : Nat) (direct : Bool) :
    (eraseStart n direct s).snap = s.snap ∧ (eraseStart n direct s).mem = s.mem ∧ (eraseStart n direct s).nv = s.nv ∧ (eraseStart n direct s).poison =
    s.poison ∧ (eraseStart n direct s).rdata = s.rdata ∧ (eraseStart n direct s).busErr = s.busErr ∧ (eraseStart n direct s).dataExc = s.dataExc ∧
    (eraseStart n direct s).plat = s.plat ∧ (eraseStart n direct s).sdl = s.sdl ∧ (eraseStart n direct s).ice = s.ice ∧ (eraseStart n direct s).cal =
    s.cal ∧ (eraseStart n direct s).ksk = s.ksk ∧ (eraseStart n direct s).replies = s.replies ∧ (eraseStart n direct s).locks = s.locks ∧ (eraseStart n
    direct s).msix = s.msix ∧ (eraseStart n direct s).asm = s.asm ∧ (eraseStart n direct s).held = s.held ∧ (eraseStart n direct s).dmaLast = s.dmaLast ∧
    (eraseStart n direct s).spn = s.spn ∧ (eraseStart n direct s).spnQueue = s.spnQueue ∧ (eraseStart n direct s).loops = s.loops ∧ (eraseStart n direct
    s).acts = s.acts ∧ (eraseStart n direct s).engs = s.engs ∧ (eraseStart n direct s).wOff = s.wOff ∧ (eraseStart n direct s).dn = s.dn ∧ (eraseStart n
    direct s).up = s.up ∧ (eraseStart n direct s).lnks = s.lnks ∧ (eraseStart n direct s).seqs = s.seqs ∧ (eraseStart n direct s).seqMaster = s.seqMaster
    ∧ (eraseStart n direct s).seqStaged = s.seqStaged ∧ (eraseStart n direct s).pool = s.pool ∧ (eraseStart n direct s).poolOrd = s.poolOrd ∧ (eraseStart
    n direct s).chains = s.chains ∧ (eraseStart n direct s).outqs = s.outqs ∧ (eraseStart n direct s).ldpc = s.ldpc ∧ (eraseStart n direct s).dram =
    s.dram ∧ (eraseStart n direct s).buf = s.buf ∧ (eraseStart n direct s).flips = s.flips ∧ (eraseStart n direct s).hif = s.hif ∧ (eraseStart n direct
    s).sec = s.sec ∧ (eraseStart n direct s).pins = s.pins ∧ (eraseStart n direct s).freeCtr = s.freeCtr ∧ (eraseStart n direct s).pending = s.pending := by
  unfold eraseStart; try dsimp only
  repeat' split
  all_goals simp

/-- An engine starts an erase when its bank is free (R408). -/
@[simp] theorem engineErase_frame (s : State) (n : Nat) :
    (engineErase n s).snap = s.snap ∧ (engineErase n s).mem = s.mem ∧ (engineErase n s).nv = s.nv ∧ (engineErase n s).poison = s.poison ∧ (engineErase n
    s).rdata = s.rdata ∧ (engineErase n s).busErr = s.busErr ∧ (engineErase n s).dataExc = s.dataExc ∧ (engineErase n s).plat = s.plat ∧ (engineErase n
    s).sdl = s.sdl ∧ (engineErase n s).ice = s.ice ∧ (engineErase n s).cal = s.cal ∧ (engineErase n s).ksk = s.ksk ∧ (engineErase n s).replies = s.replies
    ∧ (engineErase n s).locks = s.locks ∧ (engineErase n s).msix = s.msix ∧ (engineErase n s).asm = s.asm ∧ (engineErase n s).held = s.held ∧ (engineErase
    n s).dmaLast = s.dmaLast ∧ (engineErase n s).spn = s.spn ∧ (engineErase n s).spnQueue = s.spnQueue ∧ (engineErase n s).loops = s.loops ∧ (engineErase
    n s).acts = s.acts ∧ (engineErase n s).engs = s.engs ∧ (engineErase n s).wOff = s.wOff ∧ (engineErase n s).dn = s.dn ∧ (engineErase n s).up = s.up ∧
    (engineErase n s).lnks = s.lnks ∧ (engineErase n s).seqs = s.seqs ∧ (engineErase n s).seqMaster = s.seqMaster ∧ (engineErase n s).seqStaged =
    s.seqStaged ∧ (engineErase n s).pool = s.pool ∧ (engineErase n s).poolOrd = s.poolOrd ∧ (engineErase n s).chains = s.chains ∧ (engineErase n s).outqs
    = s.outqs ∧ (engineErase n s).ldpc = s.ldpc ∧ (engineErase n s).dram = s.dram ∧ (engineErase n s).buf = s.buf ∧ (engineErase n s).flips = s.flips ∧
    (engineErase n s).hif = s.hif ∧ (engineErase n s).sec = s.sec ∧ (engineErase n s).pins = s.pins ∧ (engineErase n s).freeCtr = s.freeCtr ∧ (engineErase
    n s).pending = s.pending := by
  unfold engineErase; try dsimp only
  repeat' split
  all_goals simp

end Sys2Proof.Machine
end

