-- ==== Sys2Proof/WellFormed.lean ====
section
/-! DEFINITION. Well-formed commands: the indexes that R2 and R359 reserve are not named (heads 6 and 7, Kiosk channels 44 to
63, masters 12 to 15), nor supply bits, domain numbers and groups of DRAM slots that do not exist (R438, R497, R302). -/

namespace Sys2Proof

/-- Whether a command names only indexes that exist. -/
def Instr.wf (i : Instr) : Bool :=
  match i with
  | .registerWrite m _ _ => decide (m.toNat < 12)
  | .snapshotCaptureRead m _ _ => decide (m.toNat < 12)
  | .unmappedAccess m _ => decide (m.toNat < 12)
  | .badWidthAccess m _ _ => decide (m.toNat < 12)
  | .poweredOffAccess m _ => decide (m.toNat < 12)
  | .hostReservedAccess _ _ _ _ => true
  | .powerOn _ _ _ => true
  | .bootStageEnd _ _ _ => true
  | .sysRstNAssert => true
  | .sysRstNRelease _ _ => true
  | .chipReset m _ => decide (m.toNat < 12)
  | .perst => true
  | .functionLevelReset => true
  | .controllerReset => true
  | .ccEnable _ => true
  | .coreReset m _ => decide (m.toNat < 12)
  | .actuatorReset m _ => decide (m.toNat < 12)
  | .domainOn m d => decide (m.toNat < 12) && decide (d.toNat < 106)
  | .domainOff m d => decide (m.toNat < 12) && decide (d.toNat < 106)
  | .domainOnComplete => true
  | .coreWaitPowerOff _ => true
  | .fabricFreqChange m _ => decide (m.toNat < 12)
  | .referenceLost => true
  | .referenceRestored => true
  | .fwReady m => decide (m.toNat < 12)
  | .recInfo _ _ => true
  | .recWrite _ _ => true
  | .recCommit _ _ _ => true
  | .calRun m _ => decide (m.toNat < 12)
  | .calRunEnd _ => true
  | .calStep _ _ => true
  | .start m _ => decide (m.toNat < 12)
  | .brake m _ => decide (m.toNat < 12)
  | .coast m _ => decide (m.toNat < 12)
  | .targetWrite m _ _ => decide (m.toNat < 12)
  | .startMask m _ => decide (m.toNat < 12)
  | .startAdmitted => true
  | .alignDone _ => true
  | .rampEnd _ => true
  | .handover _ _ => true
  | .handoverTimeout _ => true
  | .pwmPeriod _ _ _ _ => true
  | .skipRunLimit _ => true
  | .zeroCrossing _ _ _ _ => true
  | .commutationStep _ => true
  | .currentLimit _ _ _ => true
  | .overcurrentTrip _ _ => true
  | .catchDecided _ _ _ _ _ => true
  | .catchWindowExpired _ => true
  | .atSpeedReached _ _ => true
  | .speedOutOfTolerance _ _ => true
  | .speedBandFault _ _ => true
  | .spinupTimeout _ => true
  | .below30Rpm _ => true
  | .brakeHandoff _ _ => true
  | .shortBrakeTimeout _ => true
  | .chopperOn _ _ => true
  | .chopperOff _ _ => true
  | .chopperFault _ _ _ => true
  | .railOvervoltage _ _ => true
  | .powerLossDetected _ _ => true
  | .powerLossBrakeEnd _ _ => true
  | .railRecovered _ _ => true
  | .servoWedge _ _ _ _ => true
  | .servoLost _ => true
  | .timerLock _ _ => true
  | .timerLockLost _ => true
  | .vcmSatFault _ => true
  | .openLimitFault _ => true
  | .slotOpen m _ _ => decide (m.toNat < 12)
  | .slotClose m _ _ => decide (m.toNat < 12)
  | .coefPageWrite m _ l _ _ => decide (m.toNat < 12) && decide (l.toNat < 21)
  | .srvLoad m _ => decide (m.toNat < 12)
  | .srvUnload m _ => decide (m.toNat < 12)
  | .srvSeek m _ => decide (m.toNat < 12)
  | .loadAcquired _ _ => true
  | .loadingTimeout _ => true
  | .trajectoryEnd _ => true
  | .readSettled _ => true
  | .writeSettled _ _ => true
  | .settleTimeout _ => true
  | .unloadComplete _ => true
  | .headLeavesStripe _ _ => true
  | .headRejoins _ _ => true
  | .rejoinRunEnd _ _ => true
  | .sampleFrame _ _ _ _ _ => true
  | .servoFrame _ _ _ _ _ => true
  | .status _ _ => true
  | .scmdLost _ => true
  | .regData _ _ => true
  | .invalidBlock _ _ => true
  | .laneQueueOverflow _ _ => true
  | .blockLockLost _ _ _ => true
  | .retrainAttemptEnd _ _ _ _ => true
  | .downstreamBlockSlot _ _ _ => true
  | .train m _ => decide (m.toNat < 12)
  | .trainingEnd _ _ _ _ => true
  | .feRegWrite m _ _ => decide (m.toNat < 12)
  | .feRegRead m _ _ => decide (m.toNat < 12)
  | .feRegWriteRelease _ => true
  | .feRegTimeout _ => true
  | .readGateSectorStart _ _ _ => true
  | .syncMarkDecision _ _ => true
  | .sampleQueueOverflow _ _ _ => true
  | .codewordStart _ _ => true
  | .codewordComplete _ _ => true
  | .otfDecodeEnd _ _ => true
  | .poolEccError _ _ _ _ _ => true
  | .drDispatch => true
  | .drAttemptEnd _ _ => true
  | .drRecovered _ pass _ _ => decide (pass.toNat < 6)
  | .retainedWaitAge _ => true
  | .sectorFetch _ _ => true
  | .codewordEncoded _ _ => true
  | .sectorSendStart _ _ => true
  | .servoGuardCut _ _ => true
  | .writeSectorOutcome _ _ => true
  | .uwNop _ => true
  | .uwLdi _ _ _ => true
  | .uwLui _ _ _ => true
  | .uwMov _ _ _ => true
  | .uwAdd _ _ _ => true
  | .uwAddi _ _ _ => true
  | .uwSub _ _ _ => true
  | .uwAnd _ _ _ => true
  | .uwAndi _ _ _ => true
  | .uwOr _ _ _ => true
  | .uwOri _ _ _ => true
  | .uwXor _ _ _ => true
  | .uwShli _ _ _ => true
  | .uwShri _ _ _ => true
  | .uwInsf _ _ _ _ => true
  | .uwExtf _ _ _ _ => true
  | .uwBeq _ _ _ _ => true
  | .uwBne _ _ _ _ => true
  | .uwBltu _ _ _ _ => true
  | .uwBgeu _ _ _ _ => true
  | .uwBbs _ _ _ _ => true
  | .uwBbc _ _ _ _ => true
  | .uwJmp _ _ => true
  | .uwCall _ _ => true
  | .uwRet _ _ => true
  | .uwLd _ _ _ _ => true
  | .uwSt _ _ _ _ => true
  | .uwLdd _ _ _ => true
  | .uwStd _ _ _ => true
  | .uwRdp _ _ _ => true
  | .uwWrp _ _ _ => true
  | .uwWait _ _ _ _ => true
  | .waitEnd _ => true
  | .waitTimeout _ => true
  | .uwGate _ _ _ => true
  | .gateStallEnd _ => true
  | .uwSeek _ _ _ => true
  | .uwZone _ _ _ => true
  | .zoneComplete _ => true
  | .uwOutq _ _ => true
  | .uwPost _ _ _ _ => true
  | .uwNext _ _ => true
  | .uwDone _ _ _ => true
  | .uwTrap _ _ => true
  | .uwIllegal _ _ => true
  | .allotWatchdog _ => true
  | .storeEccError _ _ => true
  | .gateEntryOpen _ _ => true
  | .seqPost m _ _ => decide (m.toNat < 12)
  | .seqCancel m _ _ => decide (m.toNat < 12)
  | .seqRun m _ => decide (m.toNat < 12)
  | .seqHalt m _ => decide (m.toNat < 12)
  | .seqReload m _ => decide (m.toNat < 12)
  | .resultRecordRead m _ => decide (m.toNat < 12)
  | .seqFmtWrite m _ _ _ _ => decide (m.toNat < 12)
  | .loadVerify m => decide (m.toNat < 12)
  | .loadVerifyEnd => true
  | .loadCommit m => decide (m.toNat < 12)
  | .seqStoreReload _ => true
  | .lookupRead _ _ => true
  | .lookupWrite _ _ => true
  | .tagCommit _ _ => true
  | .tagRelease _ _ => true
  | .fillDone _ _ => true
  | .writebackRequest => true
  | .dirtyAgeExpired _ _ => true
  | .wbRequestRead => true
  | .wbDone m _ => decide (m.toNat < 12)
  | .wakeRead _ => true
  | .raRequestRead => true
  | .wrEn m _ => decide (m.toNat < 12)
  | .rdEn m _ => decide (m.toNat < 12)
  | .wayDisable m _ => decide (m.toNat < 12)
  | .wayEnable m _ => decide (m.toNat < 12)
  | .wayOff _ => true
  | .wayOn _ => true
  | .maintInval m _ => decide (m.toNat < 12)
  | .maintClean m _ => decide (m.toNat < 12)
  | .maintCleanInval m _ => decide (m.toNat < 12)
  | .maintDiscard m _ => decide (m.toNat < 12)
  | .maintInvalClass m _ => decide (m.toNat < 12)
  | .maintCleanAll m _ => decide (m.toNat < 12)
  | .maintEnd => true
  | .dramSlot _ _ _ _ => true
  | .dramEccError _ _ => true
  | .tagEccError _ _ _ => true
  | .scrubRead => true
  | .flipmaskArm _ => true
  | .sqTailDoorbell _ _ => true
  | .cqHeadDoorbell _ _ => true
  | .entryFetch _ _ _ => true
  | .rangeLockGrant _ => true
  | .taskRead m => decide (m.toNat < 12)
  | .xferRequest _ _ => true
  | .xferEnd _ _ _ _ => true
  | .xferResultRead m => decide (m.toNat < 12)
  | .completionPost _ _ => true
  | .completionWrite _ => true
  | .urgRead m => decide (m.toNat < 12)
  | .hold m _ => decide (m.toNat < 12)
  | .linkL0Entry _ _ _ => true
  | .aerError _ _ _ _ _ _ => true
  | .poisonedTlpWrite _ => true
  | .createIoSubmissionQueue _ => true
  | .createIoCompletionQueue _ => true
  | .deleteIoSubmissionQueue _ => true
  | .deleteIoCompletionQueue _ => true
  | .getLogPage _ => true
  | .identify _ => true
  | .abort _ => true
  | .setFeatures _ => true
  | .setFeaturesVolatileWriteCache _ => true
  | .setFeaturesTimestamp _ _ => true
  | .getFeatures _ => true
  | .getFeaturesTimestamp _ => true
  | .asynchronousEventRequest _ => true
  | .namespaceCreate _ _ => true
  | .namespaceDelete _ => true
  | .namespaceAttachment _ _ => true
  | .firmwareImageDownload _ _ => true
  | .firmwareCommit _ => true
  | .firmwareActivate _ => true
  | .activationDrainEnd => true
  | .activationTimeout => true
  | .activationHoldTimeout => true
  | .securitySend _ _ => true
  | .securityReceive _ => true
  | .sanitize _ => true
  | .sanitizeEnd => true
  | .flush _ => true
  | .write _ _ => true
  | .read _ _ => true
  | .compare _ _ _ _ => true
  | .writeZeroes _ => true
  | .datasetManagement _ => true
  | .verify _ => true
  | .zoneAppend _ _ => true
  | .zoneOpen _ => true
  | .zoneClose _ => true
  | .zoneFinish _ => true
  | .zoneReset _ => true
  | .reportZones _ => true
  | .invalidCommandOpcode _ => true
  | .kioskPost m ch _ _ => decide (m.toNat < 12) && decide (ch.toNat < 44)
  | .kioskReceive m ch _ => decide (m.toNat < 12) && decide (ch.toNat < 44)
  | .kioskDiscRead m ch _ => decide (m.toNat < 12) && decide (ch.toNat < 44)
  | .getInfo ch _ _ => decide (ch.toNat < 44)
  | .hdaState ch _ _ => decide (ch.toNat < 44)
  | .spinDown ch _ _ => decide (ch.toNat < 44)
  | .spinUp ch _ _ => decide (ch.toNat < 44)
  | .ways ch _ _ => decide (ch.toNat < 44)
  | .setSubsys ch _ _ => decide (ch.toNat < 44)
  | .setAccel ch _ _ => decide (ch.toNat < 44)
  | .iceClear ch _ _ => decide (ch.toNat < 44)
  | .shedChallenge ch _ _ => decide (ch.toNat < 44)
  | .shedResponse ch _ _ => decide (ch.toNat < 44)
  | .echo ch _ _ => decide (ch.toNat < 44)
  | .unknownOp ch _ _ => decide (ch.toNat < 44)
  | .messageReply => true
  | .lockAcquire m _ => decide (m.toNat < 12)
  | .lockRelease m _ => decide (m.toNat < 12)
  | .lockBreak m _ => decide (m.toNat < 12)
  | .dmaStart m _ _ => decide (m.toNat < 12)
  | .dmaStop m _ => decide (m.toNat < 12)
  | .dmaBurst => true
  | .nvProgram m _ => decide (m.toNat < 12)
  | .nvProgramEnd => true
  | .nvErase m _ => decide (m.toNat < 12)
  | .nvEraseEnd _ _ => true
  | .nvSuspend m _ => decide (m.toNat < 12)
  | .nvResume m _ => decide (m.toNat < 12)
  | .nvBlankCheck m _ => decide (m.toNat < 12)
  | .nvsWindowRead m _ _ => decide (m.toNat < 12)
  | .recordRead m _ => decide (m.toNat < 12)
  | .recordWrite m _ => decide (m.toNat < 12)
  | .recordWriteEnd _ => true
  | .slotCommit m _ => decide (m.toNat < 12)
  | .slotCommitActivate m _ => decide (m.toNat < 12)
  | .slotActivate m _ => decide (m.toNat < 12)
  | .commitEnd _ _ => true
  | .ghInfo _ _ _ => true
  | .setFence _ _ _ => true
  | .retract _ _ _ => true
  | .recover _ _ _ _ => true
  | .releaseSpindle _ _ _ => true
  | .chopperTest _ _ _ => true
  | .chopperTestEnd _ _ _ => true
  | .setNotice _ _ _ => true
  | .inject _ _ _ _ => true
  | .retractRegTimeout _ => true
  | .retractPoll _ _ => true
  | .retractTimeout _ _ => true
  | .supplyExcursion b _ => decide (b.toNat < 6)
  | .supplyFault b _ => decide (b.toNat < 6)
  | .supplyRecovered => true
  | .temperatureSample _ => true
  | .thermalDetected => true
  | .thermalGrave => true
  | .lockstepMismatch => true
  | .ghSramUncorrectable => true
  | .noticeRead m _ => decide (m.toNat < 12)
  | .supplyStickyRead m => decide (m.toNat < 12)
  | .sundialRead m => decide (m.toNat < 12)
  | .epochHiWrite m _ => decide (m.toNat < 12)
  | .epochLoWrite m _ => decide (m.toNat < 12)
  | .compareWrite m _ _ _ => decide (m.toNat < 12)
  | .timerCompare _ => true
  | .histogramSample _ _ => true
  | .snapshotCapture _ => true
  | .snapshotWrite _ => true
  | .foldAdd m _ _ => decide (m.toNat < 12)
  | .icehouseClear m => decide (m.toNat < 12)
  | .imageVerify m => decide (m.toNat < 12)
  | .imageVerifyEnd => true
  | .measurementExtend m _ => decide (m.toNat < 12)
  | .keyEnroll m => decide (m.toNat < 12)
  | .shedClose m => decide (m.toNat < 12)
  | .nonceExpired => true
  | .spdmGetVersion => true
  | .spdmGetCapabilities => true
  | .spdmNegotiateAlgorithms => true
  | .spdmGetDigests => true
  | .spdmGetCertificate => true
  | .spdmChallenge => true
  | .spdmGetMeasurements => true
  | .smbusSetPointer _ => true
  | .smbusBlockRead => true
  | .smbusCopyRefresh => true
  | .bypass => true
  | .idcode => true
  | .samplePreload _ _ => true
  | .extest => true
  | .clamp => true
  | .highz => true
  | .alignBlock _ _ _ => true
  | .perstRelease => true
  | .normalShutdown => true
  | .configurationRequest _ _ _ => true
  | .gatehouseSupplyLost => true
  | .faultAgedOut => true
  | .interruptCoalescingTimeout _ => true

end Sys2Proof
end

