-- ==== Sys2Proof/Tests/Slice0.lean ====
section
/-! SUPPORT. Tests of single steps against the spec's own numbers, terms that well-formedness refuses, and for each statement with hypotheses a
state and operands that meet them. -/

namespace Sys2Proof.Tests
open Sys2Proof Sys2Proof.Machine

set_option maxRecDepth 20000
set_option Elab.async false

/-! ### Small states -/

/-- The state after reset with every power domain on. -/
def R : State := { State.reset with plat := { State.reset.plat with doms := (List.range 106).map (fun d => (d, true)) } }
/-- A register field is set. -/
def F (r : Reg) (f : Fld) (n : Nat) (s : State) : State := s.setf r f n
/-- A spindle in a state. -/
def sp (h n : Nat) (s : State := R) : State := s.setf (SPN_STATE h) F_SPN_STATE_STATE n
/-- An in-flight sector. -/
def fe (id slot mode : Nat) (st : FlySt) (p : Option Nat := none) : FlyEnt := { id := id, slot := slot, mode := mode, reread := 0, sector := 7, k := 1, op := 0, cls := 0, tag := 0, cyl := 5, head := 2, base := 0x1000000000, st := st, pool := p }
/-- The in-flight list of an actuator. -/
def wf (a : Nat) (l : List FlyEnt) (s : State := R) : State := modSeq a (fun q => { q with fly := l }) s
/-- A retention-pool slot. -/
def wp (p st a id : Nat) (s : State) : State := { s with pool := tput {} s.pool p { st := st, act := a, id := id } }
/-- User bytes of a sector. -/
def ubytes : List Byte := List.replicate 4096 7
/-- The information bits of those user bytes. -/
def ginfo (a : Nat) (e : FlyEnt) : List Byte := scramble (e.aw a) (ubytes ++ checkBytes ubytes (e.aw a))
/-- An entry with the ratios of those bits. -/
def gcode (a : Nat) (e : FlyEnt) : FlyEnt := { e with code := (byteBits (ginfo a e)).map (fun b => if b then -1 else 1) }
/-- A retained sector whose first attempt can be computed: its ratios are its own bits, and no check remains. -/
def drState : State := { wf 38 [fe 4 1 0 .retrying (some 3)] with ldpc := [], pool := [(3, { st := 4, act := 38, id := 4, plan := [(0, 4, 25)], llrs := (gcode 38 (fe 4 1 0 .coded)).code })] }
/-- A run of zero bits. -/
def zbits (n : Nat) : List Bool := List.replicate n false
/-- A chain that searches these bits for a sync mark. -/
def hunt (a i : Nat) (l : List Bool) (s : State) : State := modChain a i (fun c => { c with phase := .hunt, bits := l.mapIdx (fun k b => { llr := if b then -1 else 1, erased := false, pos := k }) }) s
/-- A submission-queue entry. -/
def mkSqe (op ns d10 d11 d12 d13 : Nat) : List W32 := [BitVec.ofNat 32 (op + 5 * 65536), BitVec.ofNat 32 ns, 0, 0, 0, 0, 0, 0, 0, 0, BitVec.ofNat 32 d10, BitVec.ofNat 32 d11, BitVec.ofNat 32 d12, BitVec.ofNat 32 d13, 0, 0]
/-- A presented admin command. -/
def adm (op d10 d11 : Nat) (ns : Nat := 0) (d12 d13 : Nat := 0) : HTask := { sqid := 0, cls := 1, admin := true, sqe := mkSqe op ns d10 d11 d12 d13, fetched := 0, st := 2, ord := 0 }
/-- A presented I/O command. -/
def io (op lba nlb lock : Nat) (d13 : Nat := 0) (d12 : Nat := 0) : HTask := { sqid := 1, cls := 0, admin := false, sqe := mkSqe op 1 lba 0 (nlb - 1 + d12) d13, fetched := 0, st := 2, ord := 0, lock := lock, ns := if lock = 0 then 0 else 1, lba := lba, nlb := nlb }
/-- A Read with two host pages. -/
def iop (t lba nlb : Nat) : HTask := { io 2 lba nlb 2 with sqe := [BitVec.ofNat 32 (2 + t * 65536), 1, 0, 0, 0, 0, 0x7000, 0, 0x9000, 0, BitVec.ofNat 32 lba, 0, BitVec.ofNat 32 (nlb - 1), 0, 0, 0] }
/-- A tag that holds a command. -/
def H (t : Nat) (x : HTask) (s : State := R) : State := setTask t (some x) s
/-- A namespace. -/
def ns1 (z : Bool := false) : NsSt := { zoned := z, nsze := 2 ^ 19, mode := 0, width := 4, cylFirst := 0, cylLast := 9, shift := if z then 17 else 0, mask := 2 ^ 38, attached := true, lines := [4096], up := true }
/-- Namespace 1. -/
def NS (n : NsSt) (s : State) : State := modHif (fun h => { h with nss := [(1, some n)] }) s
/-- The bytes of a VALID mark before its CRC. -/
def mark : List Byte := leBytes 0x56414C44 4 ++ List.replicate 20 0
/-- A slot with a VALID mark. -/
def VM (k : Nat) (s : State) : State := s.wrNvs (markOff k) (mark ++ leBytes (crc32 mark) 4)
/-- Every way of the cache is on. -/
def onWays (s : State) : State := s.wr BUF_WAY_STATE 0xAAAAAAAA
/-- A Kiosk queue. -/
def kqs (c e : Nat) (q : List KItem) (s : State := R) : State := setKq c e q s
/-- A DMA channel set up. -/
def dm (n mode src dst cnt : Nat) (s : State := R) : State := ((F (DMA_CTL n) F_DMA_CTL_MODE mode s).wr (DMA_SRC_LO n) (BitVec.ofNat 32 src)).wr (DMA_DST_LO n) (BitVec.ofNat 32 dst) |>.wr (DMA_COUNT n) (BitVec.ofNat 32 cnt)
/-- A DMA channel that runs. -/
def dmb (n mode src dst cnt : Nat) (s : State := R) : State := F (DMA_STATUS n) F_DMA_STATUS_BUSY 1 (dm n mode src dst cnt s)
/-- The Gatehouse runs. -/
def G (s : State := R) : State := F GH_ID F_GH_ID_RUNNING 1 s
/-- The Potting Shed open with a scope. -/
def scope (n : Nat) (s : State := R) : State := F SEC_SHED F_SEC_SHED_SCOPE n s
/-- A retract in progress. -/
def rtr (a : Nat) (x : Retract) (s : State) : State := modRetr a (fun _ => x) (setActState a 6 s)
/-- Locked downstream lanes. -/
def lk (a n : Nat) (s : State) : State := F (LNK_SKEW a) F_LNK_SKEW_DN_LOCKED n s
/-- A capture. -/
def cap (n : Nat) : IceCapture := iceTake n R
/-- Captures that wait. -/
def bufs (l : List IceCapture) (s : State := R) : State := { s with ice := { s.ice with bufs := l } }
/-- An SPDM connection at a stage with a request. -/
def spdmAt (n : Nat) (b : List Nat) (s : State := R) : State := modSec (fun x => { x with stage := n, req := some (ascii b) }) s
/-- A customer key. -/
def key0 : List Byte := List.replicate 32 1
/-- Start-up has ended. -/
def U (s : State := R) : State := F PWR_BOOT F_PWR_BOOT_STAGE 7 s
/-- Captures whose moment has come. -/
def due (l : List Nat) (s : State := R) : State := { s with ice := { s.ice with due := l } }

/-! ### Ill-formed commands (R2, R359, R438, R497, R302) -/

theorem test_wf_registers : Instr.wf (.registerWrite 11 0x42000000 0) = true ∧ Instr.wf (.registerWrite 12 0x42000000 0) = false := by decide
theorem test_wf_capture : Instr.wf (.snapshotCaptureRead 11 0x47001000 false) = true ∧ Instr.wf (.snapshotCaptureRead 15 0x47001000 false) = false := by decide
theorem test_wf_domain : Instr.wf (.domainOn 11 105) = true ∧ Instr.wf (.domainOn 11 106) = false ∧ Instr.wf (.domainOff 12 105) = false := by decide
theorem test_wf_channel : Instr.wf (.getInfo 43 0 0) = true ∧ Instr.wf (.getInfo 44 0 0) = false ∧ Instr.wf (.kioskPost 0 44 false 0) = false := by decide
theorem test_wf_supply : Instr.wf (.supplyFault 5 3) = true ∧ Instr.wf (.supplyFault 6 3) = false := by decide
theorem test_wf_pass : Instr.wf (.drRecovered 0 5 0 []) = true ∧ Instr.wf (.drRecovered 0 6 0 []) = false := by decide
theorem test_wf_coefficient : Instr.wf (.coefPageWrite 0 0 20 0 0) = true ∧ Instr.wf (.coefPageWrite 0 0 21 0 0) = false := by decide

/-! ### Numbers of the spec's own examples -/

/-- spec/08, the worked example of a stalled miss: the key 0x8_0001_0040 lies in set 584 (R265). -/
theorem test_cache_set : setOf 0x800010040 = 584 := by decide
/-- spec/02, the worked example of skip-and-predict: after 0.80 A and 0.76 A the report is 0.72 A and then 0.68 A (R65). -/
theorem test_predict :
    let s0 := samplePredicted 5 (sampleTaken 5 760 0 (sampleTaken 5 800 0 R))
    curOf (s0.rd (SPN_CURRENT0 5)) F_SPN_CURRENT0_I_U = 720 ∧
      curOf ((samplePredicted 5 s0).rd (SPN_CURRENT0 5)) F_SPN_CURRENT0_I_U = 680 := by decide +kernel
/-- spec/02, the worked example of asymmetric pulse shift with a dead time of 100 ns (R66). -/
theorem test_shift : shiftK 900 1100 = some 2 ∧ shiftRest 2 1800 1100 100 = ([700], 0) ∧ shiftK 400 1100 = some 3 ∧
    shiftRest 3 1200 1100 100 = ([0, 100], 0) := by decide
/-- spec/03, the worked example of a seek: 200,000 tracks with V_MAX 18,229, A_MAX 6,782 and J 16 take 364 wedges (R118). -/
theorem test_seek_wedges : seekWedges 200000 18229 6782 16 = 364 := by decide +kernel
/-- spec/01: actuator 38's registers begin at 0x4098_0000 (R26). -/
theorem test_actuator_base : (RCH_FLAGS 38).key / 0x40000 * 0x40000 = 0x40980000 := by decide

/-! ### Single commands -/

/-- COAST from AT_SPEED leaves the spindle coasting (R56). -/
theorem test_coast : (match exec (.coast 0 3) (sp 3 5) with | .next t => spnState 3 t | _ => 99) = 7 := by decide +kernel
/-- A write of a read-only register is counted and changes nothing (R6). -/
theorem test_read_only : (match exec (.registerWrite 0 (BitVec.ofNat 48 BUF_WAY_STATE.key) 5) R with
    | .next t => ((t.rd BUF_WAY_STATE).toNat, (t.rd PWR_DENIED_WRITES).toNat) | _ => (9, 9)) = (0, 1) := by decide +kernel
/-- Results wrap at 32 bits, and g0 stays 0 (R227). -/
theorem test_microword_add : (match exec (.uwAdd 63 3 4) (modSeq 63 (fun q => { q with g := [(3, 0xFFFFFFFF), (4, 2)] }) (seqStart 63 R)) with
    | .next t => gGet 63 3 t | _ => 9) = 1 := by decide +kernel
theorem test_microword_g0 : (match exec (.uwLdi 63 0 7) (seqStart 63 R) with | .next t => gGet 63 0 t | _ => 9) = 0 := by decide +kernel
/-- An empty queue moves the Sundial by one edge of 10 ns (R458). -/
theorem test_idle : (match step State.reset with | .next t => t.sdl.now | _ => 0) = 10 := by decide +kernel
/-- A step takes the front command alone off the queue. -/
theorem test_queue : (match step { sp 3 5 with pending := [.coast 0 3, .referenceLost] } with | .next t => t.pending | _ => []) = [.referenceLost] := by
  decide +kernel
/-- A byte written is read back, and writing what an unlisted address reads as removes the entry. -/
theorem test_memory : (R.wrByte 0x20000000 5).mem = [(0x20000000, 5)] ∧ ((R.wrByte 0x20000000 5).wrByte 0x20000000 0).mem = [] := by decide +kernel
/-- spec/16, the worked example of gate outputs: in step 1 phase U is modulated, V is low and W floats (R41, R42, R525). -/
theorem test_gate_outputs : gateOutputs 5 (F (SPN_CURRENT1 5) F_SPN_CURRENT1_DUTY 16384 (modSpin 5 (fun x => { x with step := 1 }) (sp 5 5))) =
    [(.pulse, .complement), (.low, .high), (.low, .low)] := by decide +kernel
theorem test_gate_outputs_short_brake : gateOutputs 5 (sp 5 8) = [(.low, .high), (.low, .high), (.low, .high)] := by decide +kernel
/-- The core supply is set to 0.75 V at first (R521). -/
theorem test_core_supply : coreSupplyMv State.reset = 750 := by decide +kernel
/-- A state in canonical form whose step answers a next state that is so too. -/
theorem witness_StepsKeepCanonicalForm : Canonical ({ sp 3 5 with pending := [.coast 0 3] }.wrByte 0x20000000 5) ∧ NvBanks R ∧
    (match step R with | .next _ => true | _ => false) = true ∧
    (match exec (.coast 0 3) (sp 3 5) with | .next t => t.pending == [] | _ => false) = true := by decide +kernel
/-- R395: 3 wait states are too few at 250 MHz under either supply, 5 are enough under both, and 23 at every frequency. -/
theorem test_wait_states : nvWsOk R = true ∧ nvWsOk (R.setf CLK_FABRIC F_CLK_FABRIC_FREQ 3) = true ∧ nvWsOk (R.setf NVS_WS F_NVS_WS_WS 3) = false ∧
    nvWsOk (R.setf NVS_WS F_NVS_WS_WS 5) = true := by decide +kernel
/-! ### Witnesses of the statements -/

/-- Every command of a list answers a next state in its state. -/
def answersAll (l : List (Instr × State)) : Bool :=
  l.all (fun x => match exec x.1 x.2 with | .next _ => true | _ => false)

/-- States and operands that meet the hypotheses of StepRunsFront, clause by clause. -/
theorem witness_StepRunsFront :
    (∃ (c : Instr) (l : List Instr) (s : State), (s.pending = c :: l)) ∧
    (∃ (s : State), (s.pending = [])) :=
  ⟨⟨(.below30Rpm 3 : Instr), ([.referenceLost] : List Instr), { R with pending := [.below30Rpm 3, .referenceLost] }, by decide +kernel⟩,
   ⟨R, by decide +kernel⟩⟩

/-- States and operands that meet the hypotheses of RegisterWrites, clause by clause. -/
theorem witness_RegisterWrites :
    (∃ (m : Master) (a : Addr) (s : State), (m.toNat ≠ 9) ∧ (inRegs a.toNat = true) ∧ (a.toNat % 4 = 0) ∧ (gatedOff a.toNat s = true)) ∧
    (∃ (m : Master) (a : Addr) (s : State), (m.toNat ≠ 9) ∧ (inRegs a.toNat = true) ∧ (a.toNat % 4 = 0) ∧ (gatedOff a.toNat s = false) ∧ (specOf a.toNat = none) ∧ (ctrOf a.toNat = none) ∧ (inStore a.toNat = false)) ∧
    (∃ (m : Master) (a : Addr) (s : State), (m.toNat ≠ 9) ∧ (a.toNat % 4 = 0) ∧ (gatedOff a.toNat s = false) ∧ (inStore a.toNat = true)) ∧
    (∃ (m : Master) (a : Addr) (r : _) (s : State), (m.toNat ≠ 9) ∧ (inRegs a.toNat = true) ∧ (a.toNat % 4 = 0) ∧ ((a.toNat < 0x44000000 ∨ 0x44016000 ≤ a.toNat)) ∧ (gatedOff a.toNat s = false) ∧ (specOf a.toNat = some r) ∧ (writable m r s = false)) ∧
    (∃ (m : Master), (m.toNat ≠ 9)) ∧
    (∃ (m : Master), (m.toNat ≠ 9)) ∧
    (∃ (m : Master) (a : Addr), (m.toNat ≠ 9) ∧ (inSram a.toNat = true) ∧ (inSram (a.toNat + 3) = true)) ∧
    (∃ (m : Master) (a : Addr), (m.toNat ≠ 9) ∧ (inNvWin a.toNat = true)) ∧
    (∃ (m : Master) (s : State), (m.toNat = 9) ∧ (barOk s = false)) ∧
    (∃ (m : Master) (a : Addr) (s : State), (m.toNat = 9) ∧ (barOk s = true) ∧ (a.toNat % 4 = 0) ∧ ((0x1408 ≤ a.toNat ∧ a.toNat < 0x4000 ∨ 0x100002000 ≤ a.toNat ∧ a.toNat < 0x100400000))) :=
  ⟨⟨0, 0x4000A010, R.setDom 0 false, by decide +kernel⟩,
   ⟨0, 0x49000FF0, R, by decide +kernel⟩,
   ⟨0, 0x40010004, R, by decide +kernel⟩,
   ⟨0, 0x49010008, ((specOf 0x49010008).getD ⟨0, [], .chip, 0, []⟩), R, by decide +kernel⟩,
   ⟨0, by decide +kernel⟩,
   ⟨0, by decide +kernel⟩,
   ⟨0, 0x207FFFFC, by decide +kernel⟩,
   ⟨0, 0x11FFFFFC, by decide +kernel⟩,
   ⟨9, R, by decide +kernel⟩,
   ⟨9, 0x1408, F PWR_BOOT F_PWR_BOOT_FW_READY 1 R, by decide +kernel⟩⟩

/-- States and operands that meet the hypotheses of AccessesSnapshots, clause by clause. -/
theorem witness_AccessesSnapshots :
    (∃ (m : Master) (a : Addr), (m.toNat ≠ 9) ∧ (mapped a.toNat = false)) ∧
    (∃ (a : Addr), (mapped a.toNat = true)) ∧
    (∃ (m : Master) (a : Addr) (n : Nat), (m.toNat ≠ 9) ∧ (inRegs a.toNat = true) ∧ (¬ (n = 4 ∧ a.toNat % 4 = 0)) ∧ (¬ (n = 8 ∧ a.toNat % 8 = 0))) ∧
    (∃ (a : Addr) (n : Nat), ((n = 4 ∧ a.toNat % 4 = 0 ∨ n = 8 ∧ a.toNat % 8 = 0))) ∧
    (∃ (m : Master) (a : Addr) (s : State), (m.toNat ≠ 9) ∧ (gatedOff a.toNat s = true)) ∧
    (∃ (a : Addr) (s : State), (gatedOff a.toNat s = false)) ∧
    (∃ (b : Slot) (o : W32) (n : Nat), (0 < hostVoid b.toNat o.toNat n) ∧ (readWindow b.toNat o.toNat = false)) ∧
    (∃ (b : Slot) (o : W32) (n : Nat) (s : State), (hostVoid b.toNat o.toNat n = 2) ∧ (barOk s = true)) ∧
    (∃ (b : Slot) (o : W32) (n : Nat) (s : State), ((hostVoid b.toNat o.toNat n = 1 ∨ hostVoid b.toNat o.toNat n = 2 ∧ barOk s = false))) ∧
    (∃ (m : Master) (a : Addr) (n : Nat) (j : Nat) (s : State), (m.toNat ≠ 9) ∧ (snapWords a.toNat = some n) ∧ (gatedOff a.toNat s = false) ∧ (j < n)) ∧
    (∃ (m : Master) (a : Addr) (n : Nat) (s : State), (m.toNat ≠ 9) ∧ (snapWords a.toNat = some n) ∧ (gatedOff a.toNat s = true)) ∧
    (∃ (a : Addr) (n : Nat) (j : Nat) (s : State), (snapWords a.toNat = some n) ∧ (barOk s = true) ∧ (inMirror a.toNat = true) ∧ (j < n)) :=
  ⟨⟨0, 0x3000000000, by decide +kernel⟩,
   ⟨0x49000010, by decide +kernel⟩,
   ⟨0, 0x49000014, (8 : Nat), by decide +kernel⟩,
   ⟨0x49000018, (8 : Nat), by decide +kernel⟩,
   ⟨0, 0x40FC0000, R.setDom 63 false, by decide +kernel⟩,
   ⟨0x40FC0000, R, by decide +kernel⟩,
   ⟨(0 : Slot), 0x3FFC, (4 : Nat), by decide +kernel⟩,
   ⟨(1 : Slot), 0x10000, (4 : Nat), F PWR_BOOT F_PWR_BOOT_FW_READY 1 R, by decide +kernel⟩,
   ⟨(1 : Slot), 0x4, (8 : Nat), F PWR_BOOT F_PWR_BOOT_FW_READY 1 R, by decide +kernel⟩,
   ⟨0, 0x49000030, (4 : Nat), (3 : Nat), R, by decide +kernel⟩,
   ⟨0, 0x41000040, (4 : Nat), R.setDom 103 false, by decide +kernel⟩,
   ⟨0x46001020, (8 : Nat), (7 : Nat), F PWR_BOOT F_PWR_BOOT_FW_READY 1 R, by decide +kernel⟩⟩

/-- States and operands that meet the hypotheses of SpindleCommands, clause by clause. -/
theorem witness_SpindleCommands :
    (∃ (m : Master) (h : Hda) (s : State), (mayCmd m = true) ∧ (s.domOn 103 = true) ∧ (spnForced h.toNat s = true)) ∧
    (∃ (m : Master) (h : Hda) (s : State), (mayCmd m = true) ∧ (s.domOn 103 = true) ∧ (spnForced h.toNat s = false) ∧ (graveLatched s = false) ∧ (h.toNat ∉ s.spnQueue) ∧ ((spnState h.toNat s = 0 ∨ spnState h.toNat s = 7 ∨ spnState h.toNat s = 6 ∨ (spnState h.toNat s = 8 ∧ (spin h.toNat s).accel = false)))) ∧
    (∃ (m : Master) (h : Hda) (s : State), (mayCmd m = true) ∧ (s.domOn 103 = true) ∧ (spnForced h.toNat s = false) ∧ (graveLatched s = false) ∧ (1 ≤ spnState h.toNat s) ∧ (spnState h.toNat s ≤ 5)) ∧
    (∃ (m : Master) (h : Hda) (s : State), (mayCmd m = true) ∧ (s.domOn 103 = true) ∧ (spnForced h.toNat s = true ∨ hdaLoaded h.toNat s = true)) ∧
    (∃ (m : Master) (h : Hda) (s : State), (mayCmd m = true) ∧ (s.domOn 103 = true) ∧ (spnForced h.toNat s = false) ∧ (hdaLoaded h.toNat s = false)) ∧
    (∃ (m : Master) (h : Hda) (s : State), (mayCmd m = true) ∧ (s.domOn 103 = true) ∧ (spnForced h.toNat s = false) ∧ (hdaLoaded h.toNat s = false)) ∧
    (∃ (m : Master) (s : State), (mayCmd m = true) ∧ (s.domOn 103 = false)) :=
  ⟨⟨8, 15, F (SPN_STATE 15) F_SPN_STATE_FORCED 1 R, by decide +kernel⟩,
   ⟨0, 0, R, by decide +kernel⟩,
   ⟨0, 3, sp 3 1, by decide +kernel⟩,
   ⟨0, 3, setActState 12 4 (sp 3 5), by decide +kernel⟩,
   ⟨0, 3, sp 3 5, by decide +kernel⟩,
   ⟨0, 3, sp 3 5, by decide +kernel⟩,
   ⟨0, (sp 3 5).setDom 103 false, by decide +kernel⟩⟩

/-- States and operands that meet the hypotheses of SpindleStarts, clause by clause. -/
theorem witness_SpindleStarts :
    (∃ (m : Master) (h : Hda) (s : State), (mayCmd m = true) ∧ (s.domOn 103 = true) ∧ (hdaLoaded h.toNat s = true)) ∧
    (∃ (m : Master) (h : Hda) (v : W32) (s : State), (mayCmd m = true) ∧ (s.domOn 103 = true) ∧ (hdaLoaded h.toNat s = false) ∧ (3600 ≤ fget v F_SPN_TARGET_RPM) ∧ (fget v F_SPN_TARGET_RPM ≤ 10000)) ∧
    (∃ (m : Master) (mask : BitVec 16) (s : State), (mayCmd m = true) ∧ (s.domOn 103 = true) ∧ (graveLatched s = false) ∧ (s.spnQueue = []) ∧ ((∀ h ∈ bitsOf 16 mask.toNat, spnForced h s = false ∧ (spnState h s = 0 ∨ spnState h s = 7)))) ∧
    (∃ (s : State) (h : _) (q : _), (s.spnQueue = h :: q) ∧ (h ∉ q) ∧ (s.plat.rst = .run) ∧ ((accelerating s).length < s.fld SPN_ACCEL_MAX F_SPN_ACCEL_MAX_MAX)) ∧
    (∃ (s : State), (s.fld SPN_ACCEL_MAX F_SPN_ACCEL_MAX_MAX ≤ (accelerating s).length)) ∧
    (∃ (h : Hda) (s : State), (spnState h.toNat s = 2)) ∧
    (∃ (h : Hda) (s : State), (spnState h.toNat s = 3)) ∧
    (∃ (h : Hda) (s : State), (spnState h.toNat s = 3) ∧ ((spin h.toNat s).looking = true) ∧ (6 ≤ (spin h.toNat s).crossings)) ∧
    (∃ (h : Hda) (s : State), (spnState h.toNat s = 3) ∧ ((spin h.toNat s).looking = true) ∧ ((spin h.toNat s).attempts = 0)) ∧
    (∃ (h : Hda) (s : State), (spnState h.toNat s = 3) ∧ ((spin h.toNat s).looking = true) ∧ ((spin h.toNat s).attempts ≠ 0)) :=
  ⟨⟨0, 3, setActState 12 4 R, by decide +kernel⟩,
   ⟨0, 3, 8000, sp 3 5, by decide +kernel⟩,
   ⟨0, 0x8003, sp 15 0, by decide +kernel⟩,
   ⟨spnStart 5 (sp 5 0), 5, ([]:List Nat), by decide +kernel⟩,
   ⟨spnStart 6 (F SPN_ACCEL_MAX F_SPN_ACCEL_MAX_MAX 1 (modSpin 5 (fun x => { x with accel := true }) R)), by decide +kernel⟩,
   ⟨7, sp 7 2, by decide +kernel⟩,
   ⟨7, sp 7 3, by decide +kernel⟩,
   ⟨7, modSpin 7 (fun x => { x with looking := true, crossings := 6 }) (sp 7 3), by decide +kernel⟩,
   ⟨7, modSpin 7 (fun x => { x with looking := true, accel := true }) (sp 7 3), by decide +kernel⟩,
   ⟨7, setActState 29 4 (modSpin 7 (fun x => { x with looking := true, attempts := 1, accel := true }) (sp 7 3)), by decide +kernel⟩⟩

/-- States and operands that meet the hypotheses of SpindleDrive, clause by clause. -/
theorem witness_SpindleDrive :
    (∃ (h : Hda) (ton : BitVec 16) (s : State), (s.domOn 103 = true) ∧ (2 ≤ spnState h.toNat s) ∧ (spnState h.toNat s ≤ 6) ∧ ((spin h.toNat s).group = []) ∧ (tMin h.toNat s ≤ onTime h.toNat (regulate h.toNat ton.toNat s))) ∧
    (∃ (h : Hda) (ton : BitVec 16) (s : State), (s.domOn 103 = true) ∧ (2 ≤ spnState h.toNat s) ∧ (spnState h.toNat s ≤ 6) ∧ ((spin h.toNat s).group = []) ∧ (onTime h.toNat (regulate h.toNat ton.toNat s) < tMin h.toNat s) ∧ ((spin h.toNat s).mode = 0) ∧ ((spin h.toNat s).skips < s.fld (SPN_PWM h.toNat) F_SPN_PWM_MAX_SKIP)) ∧
    (∃ (h : Hda) (s : State), (s.fld (SPN_PWM h.toNat) F_SPN_PWM_MAX_SKIP ≤ (spin h.toNat s).skips) ∧ ((spin h.toNat s).skipTold = false)) ∧
    (∃ (h : Hda) (phase : Slot) (v0 : BitVec 16) (v1 : BitVec 16) (s : State) (b : _) (back : _), (3 ≤ spnState h.toNat s) ∧ (spnState h.toNat s ≤ 6) ∧ (crossing (v0.toInt - bemfThreshold h.toNat phase.toNat s) (v1.toInt - bemfThreshold h.toNat phase.toNat s) = some (b, back)) ∧ (s.fld (SPN_COMM h.toNat) F_SPN_COMM_BLANK * (spin h.toNat s).prevDur ≤ (mticks s - back - (spin h.toNat s).stepAt) * 100) ∧ (floatOf (spin h.toNat s).step = (phase.toNat, b)) ∧ ((spin h.toNat s).xSeen = false)) ∧
    (∃ (h : Hda) (s : State), (4 ≤ spnState h.toNat s) ∧ (spnState h.toNat s ≤ 6) ∧ ((spin h.toNat s).stepDue = true)) ∧
    (∃ (h : Hda) (ma : BitVec 16) (s : State), (2 ≤ spnState h.toNat s) ∧ (spnState h.toNat s ≤ 6) ∧ (s.fld (SPN_ILIMIT h.toNat) F_SPN_ILIMIT_LIMIT_MA < ma.toNat)) ∧
    (∃ (h : Hda) (ma : BitVec 16) (s : State), (2 ≤ spnState h.toNat s) ∧ (spnState h.toNat s ≤ 6) ∧ (s.fld (SPN_ILIMIT h.toNat) F_SPN_ILIMIT_TRIP_MA < ma.toNat)) ∧
    (∃ (h : Hda) (n : W32) (s : State), (spnState h.toNat s = 1) ∧ (n ≠ 0)) ∧
    (∃ (h : Hda) (s : State), (spnState h.toNat s = 1)) :=
  ⟨⟨1, 1200, sp 1 3, by decide +kernel⟩,
   ⟨1, 1199, modSpin 1 (fun x => { x with prevU := 800 }) (F (SPN_CURRENT0 1) F_SPN_CURRENT0_I_U 760 (sp 1 6)), by decide +kernel⟩,
   ⟨1, modSpin 1 (fun x => { x with skips := 8 }) R, by decide +kernel⟩,
   ⟨1, 2, 100, -300, F (SPN_STATE 1) F_SPN_STATE_DIR 1 (modSpin 1 (fun x => { x with step := 1, xs := [0, 0, 0, 0, 0, 0] }) (sp 1 3)), false, 1500, by decide +kernel⟩,
   ⟨1, modSpin 1 (fun x => { x with step := 6, stepDue := true }) (sp 1 5), by decide +kernel⟩,
   ⟨1, 2501, sp 1 2, by decide +kernel⟩,
   ⟨1, 6001, setActState 5 4 (sp 1 4), by decide +kernel⟩,
   ⟨1, 517000, sp 1 1, by decide +kernel⟩,
   ⟨1, sp 1 1, by decide +kernel⟩⟩

/-- States and operands that meet the hypotheses of SpindleSpeed, clause by clause. -/
theorem witness_SpindleSpeed :
    (∃ (h : Hda) (v : BitVec 20) (s : State), (spnState h.toNat s = 4) ∧ (within h.toNat v.toNat 1 s = true) ∧ (32 ≤ (spin h.toNat s).revRun) ∧ ((spin h.toNat s).setpoint = 65536 * s.fld (SPN_TARGET h.toNat) F_SPN_TARGET_RPM)) ∧
    (∃ (h : Hda) (v : BitVec 20) (s : State), (spnState h.toNat s = 5) ∧ (within h.toNat v.toNat 10 s = false)) ∧
    (∃ (h : Hda) (v : BitVec 20) (s : State), (hdaLoaded h.toNat s = true) ∧ (within h.toNat v.toNat 50 s = false) ∧ (spnState h.toNat s = 4 ∨ spnState h.toNat s = 5)) ∧
    (∃ (h : Hda) (s : State), ((spin h.toNat s).accel = true)) ∧
    (∃ (h : Hda) (s : State), (spnState h.toNat s = 8)) ∧
    (∃ (h : Hda) (v : BitVec 20) (s : State), (spnState h.toNat s = 6) ∧ (inPowerBrake h.toNat s = false) ∧ (v.toNat < 16 * s.fld (SPN_BRAKE h.toNat) F_SPN_BRAKE_HANDOFF_RPM)) ∧
    (∃ (h : Hda) (s : State), (spnState h.toNat s = 8)) :=
  ⟨⟨1, 115200, modSpin 1 (fun x => { x with accel := true, revRun := 32, setpoint := 65536 * 7200 }) (sp 1 4), by decide +kernel⟩,
   ⟨1, 116353, sp 1 5, by decide +kernel⟩,
   ⟨1, 109439, setActState 4 4 (sp 1 5), by decide +kernel⟩,
   ⟨1, modSpin 1 (fun x => { x with accel := true }) (sp 1 4), by decide +kernel⟩,
   ⟨1, sp 1 8, by decide +kernel⟩,
   ⟨1, 9599, sp 1 6, by decide +kernel⟩,
   ⟨1, sp 1 8, by decide +kernel⟩⟩

/-- States and operands that meet the hypotheses of MotorRails, clause by clause. -/
theorem witness_MotorRails :
    (∃ (mv : BitVec 16), (13600 ≤ mv.toNat)) ∧
    (∃ (mv : BitVec 16), (mv.toNat ≤ 13000)) ∧
    (∃ (r : Rail) (mv : BitVec 16) (ma : BitVec 16) (s : State), (14400 ≤ mv.toNat ∨ (13600 ≤ mv.toNat ∧ ma.toNat < 500 ∧ s.fld (GH_RAIL r.toNat) F_GH_RAIL_CHOP_ON = 1)) ∧ (s.fld (GH_RAIL r.toNat) F_GH_RAIL_CHOP_FAULT = 0)) ∧
    (∃ (mv : BitVec 16), (15200 ≤ mv.toNat)) ∧
    (∃ (mv : BitVec 16), (mv.toNat < 10800)) ∧
    (∃ (h : Hda) (v : BitVec 20) (s : State), (inPowerBrake h.toNat s = true) ∧ (railRetracting (railOf h.toNat) s = false ∨ v.toNat < 16 * s.fld (SPN_BRAKE h.toNat) F_SPN_BRAKE_HANDOFF_RPM)) ∧
    (∃ (r : Rail) (mv : BitVec 16) (s : State), (s.fld (GH_RAIL r.toNat) F_GH_RAIL_PWRLOSS = 1) ∧ (11400 ≤ mv.toNat) ∧ ((∀ h ∈ hdasOf r.toNat, inPowerBrake h s = false))) :=
  ⟨⟨13600, by decide +kernel⟩,
   ⟨13000, by decide +kernel⟩,
   ⟨1, 14400, 900, sp 4 6 (sp 5 4), by decide +kernel⟩,
   ⟨15200, by decide +kernel⟩,
   ⟨10799, by decide +kernel⟩,
   ⟨9, 9600, powerBrake 9 (sp 9 5), by decide +kernel⟩,
   ⟨2, 11400, F (GH_RAIL 2) F_GH_RAIL_PWRLOSS 1 R, by decide +kernel⟩⟩

/-- States and operands that meet the hypotheses of ServoFaults, clause by clause. -/
theorem witness_ServoFaults :
    (∃ (a : Act) (s : State), (loaded a.toNat s = true) ∧ (8 ≤ (act a.toNat s).lostRun)) ∧
    (∃ (h : Hda) (s : State), (s.fld (SRV_STATUS h.toNat) F_SRV_STATUS_LOCKED = 0) ∧ ((tget {} s.engs h.toNat).syncRun.any (fun n => decide (4 ≤ n)) = true)) ∧
    (∃ (h : Hda) (s : State), (s.fld (SRV_STATUS h.toNat) F_SRV_STATUS_LOCKED = 1) ∧ (8 ≤ (tget {} s.engs h.toNat).lossRun)) ∧
    (∃ (a : Act) (s : State), (actState a.toNat s = 3 ∨ actState a.toNat s = 4) ∧ (256 ≤ (act a.toNat s).vcmClamps)) ∧
    (∃ (a : Act) (s : State), (1 ≤ actState a.toNat s) ∧ (actState a.toNat s ≤ 5) ∧ (64 ≤ (act a.toNat s).openRun)) ∧
    (∃ (a : Act) (s : State), (actState a.toNat s = 1)) ∧
    (∃ (a : Act) (s : State), (actState a.toNat s = 3) ∧ ((act a.toNat s).settleTold = false) ∧ (8 * s.fld (SRV_SETTLE (hdaOf a.toNat)) F_SRV_SETTLE_TMO ≤ (act a.toNat s).settleWedges)) :=
  ⟨⟨38, modAct 38 (fun x => { x with lostRun := 8 }) (setActState 38 4 R), by decide +kernel⟩,
   ⟨9, { sp 9 5 with engs := [(9, { syncRun := [0, 3, 4] })] }, by decide +kernel⟩,
   ⟨9, F (SRV_STATUS 9) F_SRV_STATUS_LOCKED 1 { sp 9 5 with engs := [(9, { lossRun := 8 })] }, by decide +kernel⟩,
   ⟨63, modAct 63 (fun x => { x with vcmClamps := 256 }) (setActState 63 3 R), by decide +kernel⟩,
   ⟨0, modAct 0 (fun x => { x with openRun := 64 }) (setActState 0 4 R), by decide +kernel⟩,
   ⟨5, setActState 5 1 R, by decide +kernel⟩,
   ⟨5, modAct 5 (fun x => { x with settleWedges := 512 }) (setActState 5 3 R), by decide +kernel⟩⟩

/-- States and operands that meet the hypotheses of CoefficientPages, clause by clause. -/
theorem witness_CoefficientPages :
    (∃ (m : Master) (h : Hda) (v : W32) (s : State), (mayCmd m = true) ∧ (coefRefused h.toNat (v ||| 0x100) s = true)) ∧
    (∃ (m : Master) (h : Hda) (v : W32) (s : State), (mayCmd m = true) ∧ (coefRefused h.toNat (v ||| 0x200) s = true)) ∧
    (∃ (v : _), (v.toNat.testBit 8 ≠ v.toNat.testBit 9) ∧ (fget v F_SRV_COEF_CTL_CLOSE_MODE ≤ 2)) ∧
    (∃ (m : Master) (h : Hda) (v : W32) (s : State), (mayCmd m = true) ∧ (coefRefused h.toNat (v ||| 0x100) s = false)) ∧
    (∃ (m : Master) (h : Hda) (v : W32) (s : State), (mayCmd m = true) ∧ (coefRefused h.toNat (v ||| 0x200) s = false)) ∧
    (∃ (m : Master) (h : Hda) (l : BitVec 5) (w : BitVec 6) (s : State), (mayCmd m = true) ∧ (slotIsOpen h.toNat l.toNat s = true) ∧ (2 ≤ w.toNat) ∧ (w.toNat < 36) ∧ (l.toNat ≤ 20)) ∧
    (∃ (m : Master) (h : Hda) (v : W32) (s : State), (mayCmd m = true) ∧ (v.toNat.testBit 9 = false) ∧ (fget v F_SRV_COEF_CTL_LOOP ≤ 20) ∧ (fget v F_SRV_COEF_CTL_CLOSE_MODE ≤ 2) ∧ ((fget v F_SRV_COEF_CTL_LOOP = 20 ∨ actState (slotAct h.toNat (fget v F_SRV_COEF_CTL_LOOP)) s ∉ [1, 2, 3, 5, 6]))) ∧
    (∃ (m : Master) (h : Hda) (v : W32) (s : State), (mayCmd m = true) ∧ (v.toNat.testBit 8 = false) ∧ (fget v F_SRV_COEF_CTL_LOOP ≤ 20) ∧ (fget v F_SRV_COEF_CTL_CLOSE_MODE ≤ 2) ∧ ((s.rd (SRV_COEF h.toNat (fget v F_SRV_COEF_CTL_LOOP) 0)).toNat % 8 ≤ 6) ∧ ((s.rd (SRV_COEF h.toNat (fget v F_SRV_COEF_CTL_LOOP) 1)).toNat % 65536 ≤ outLimMax (fget v F_SRV_COEF_CTL_LOOP)) ∧ ((slotIsOpen h.toNat (fget v F_SRV_COEF_CTL_LOOP) s = true ∨ none ∈ (loop h.toNat (fget v F_SRV_COEF_CTL_LOOP) s).pend))) ∧
    (∃ (m : Master) (h : Hda) (l : BitVec 5) (s : State), (mayCmd m = true) ∧ (slotIsOpen h.toNat l.toNat s = true) ∧ (l.toNat ≤ 20)) ∧
    (∃ (m : Master) (h : Hda) (l : BitVec 5) (s : State), (mayCmd m = true) ∧ (slotIsOpen h.toNat l.toNat s = false)) :=
  ⟨⟨0, 2, 21, R, by decide +kernel⟩,
   ⟨0, 2, 4, R, by decide +kernel⟩,
   ⟨(0x104:W32), by decide +kernel⟩,
   ⟨0, 2, 20, R, by decide +kernel⟩,
   ⟨0, 2, 0x2014, modLoop 2 20 (fun x => { x with isOpen := true }) R, by decide +kernel⟩,
   ⟨0, 2, 20, 35, modLoop 2 20 (fun x => { x with isOpen := true }) R, by decide +kernel⟩,
   ⟨0, 2, 20, setActState 8 3 R, by decide +kernel⟩,
   ⟨0, 2, 0x2014, modLoop 2 20 (fun x => { x with isOpen := true }) R, by decide +kernel⟩,
   ⟨0, 2, 20, modLoop 2 20 (fun x => { x with isOpen := true }) R, by decide +kernel⟩,
   ⟨0, 2, 20, R, by decide +kernel⟩⟩

/-- States and operands that meet the hypotheses of ServoCommands, clause by clause. -/
theorem witness_ServoCommands :
    (∃ (m : Master) (a : Act) (s : State), (mayCmd m = true) ∧ (actState a.toNat s = 0) ∧ (spnState (hdaOf a.toNat) s = 5) ∧ (2 ≤ linkMode a.toNat s) ∧ (stripeDegraded a.toNat (s.rd (SRV_SEEK1 a.toNat)) s = false) ∧ (graveLatched s = false) ∧ (s.gh.thermal = false)) ∧
    (∃ (m : Master) (a : Act) (s : State), (mayCmd m = true) ∧ (actState a.toNat s ≠ 0)) ∧
    (∃ (m : Master) (a : Act) (s : State), (mayCmd m = true) ∧ (2 ≤ actState a.toNat s) ∧ (actState a.toNat s ≤ 4)) ∧
    (∃ (m : Master) (a : Act) (s : State), (mayCmd m = true) ∧ (¬ (2 ≤ actState a.toNat s ∧ actState a.toNat s ≤ 4))) ∧
    (∃ (m : Master) (a : Act) (s : State), (mayCmd m = true) ∧ (seekOk a.toNat (s.rd (SRV_SEEK0 a.toNat)) (s.rd (SRV_SEEK1 a.toNat)) s = true)) ∧
    (∃ (m : Master) (a : Act) (s : State), (mayCmd m = true) ∧ (seekOk a.toNat (s.rd (SRV_SEEK0 a.toNat)) (s.rd (SRV_SEEK1 a.toNat)) s = false)) :=
  ⟨⟨0, 38, F (LNK_STATE 38) F_LNK_STATE_MODE 2 (sp 9 5), by decide +kernel⟩,
   ⟨0, 38, setActState 38 4 R, by decide +kernel⟩,
   ⟨0, 38, modAct 38 (fun x => { x with fence := 15 }) (F (SRV_ACT_STATE 38) F_SRV_ACT_STATE_WSET 15 (setActState 38 4 R)), by decide +kernel⟩,
   ⟨0, 38, R, by decide +kernel⟩,
   ⟨0, 38, F (SRV_SEEK0 38) F_SRV_SEEK0_CYL 4 (F (SRV_ACT_LIMIT 38) F_SRV_ACT_LIMIT_MAX_CYL 100 (((F (SRV_PROF 9 0) F_SRV_PROF_V_MAX 100 (F (SRV_PROF 9 0) F_SRV_PROF_A_MAX 100 (setActState 38 4 R))).wr (SRV_SEEK1 38) 0x0098))), by decide +kernel⟩,
   ⟨0, 38, R, by decide +kernel⟩⟩

/-- States and operands that meet the hypotheses of ServoSettling, clause by clause. -/
theorem witness_ServoSettling :
    (∃ (a : Act) (s : State), (actState a.toNat s = 1) ∧ (4 ≤ (act a.toNat s).syncRun)) ∧
    (∃ (a : Act) (s : State), (actState a.toNat s = 2) ∧ ((act a.toNat s).traj.n ≤ (act a.toNat s).traj.k)) ∧
    (∃ (a : Act) (s : State), (actState a.toNat s = 3) ∧ (s.fld (SRV_SETTLE (hdaOf a.toNat)) F_SRV_SETTLE_READ_COUNT ≤ (act a.toNat s).readRun)) ∧
    (∃ (a : Act) (i : Slot) (s : State), (2 ≤ actState a.toNat s) ∧ (actState a.toNat s ≤ 4) ∧ (i.toNat ∈ headsIn a.toNat s) ∧ (s.fld (SRV_SETTLE (hdaOf a.toNat)) F_SRV_SETTLE_WRITE_COUNT ≤ l4 0 (act a.toNat s).wRun i.toNat)) ∧
    (∃ (a : Act) (s : State), (actState a.toNat s = 5)) ∧
    (∃ (a : Act) (i : Slot) (s : State), (2 ≤ actState a.toNat s) ∧ (actState a.toNat s ≤ 4) ∧ (i.toNat ∈ headsIn a.toNat s) ∧ (2 ≤ (loop (hdaOf a.toNat) (maSlot a.toNat i.toNat) s).clamps ∨ 4 ≤ l4 0 (act a.toNat s).missRun i.toNat)) ∧
    (∃ (a : Act) (i : Slot) (s : State), ((actMask a.toNat F_SRV_ACT_STATE_REACH_OUT s).testBit i.toNat = true) ∧ (s.fld (SRV_STATUS (hdaOf a.toNat)) F_SRV_STATUS_INDEX = 0)) ∧
    (∃ (a : Act) (i : Slot) (n : _) (s : State), (l4 none (act a.toNat s).rejoin i.toNat = some n) ∧ (s.fld (SRV_SETTLE (hdaOf a.toNat)) F_SRV_SETTLE_READ_COUNT ≤ n)) :=
  ⟨⟨1, modAct 1 (fun x => { x with syncRun := 4, nextStripe := 15 }) (setActState 1 1 R), by decide +kernel⟩,
   ⟨1, modAct 1 (fun x => { x with traj := { n := 5, k := 5 }, nextStripe := 3 }) (setActState 1 2 R), by decide +kernel⟩,
   ⟨1, modAct 1 (fun x => { x with readRun := 8, seekWedges := some 364 }) (setActState 1 3 R), by decide +kernel⟩,
   ⟨1, 3, modAct 1 (fun x => { x with stripe := 15, wRun := [0, 0, 0, 12] }) (setActState 1 4 R), by decide +kernel⟩,
   ⟨1, setActState 1 5 R, by decide +kernel⟩,
   ⟨1, 3, modAct 1 (fun x => { x with stripe := 15, missRun := [0, 0, 0, 4], outRevs := [0, 0, 0, 2] }) (setActState 1 4 R), by decide +kernel⟩,
   ⟨1, 2, F (SRV_ACT_STATE 1) F_SRV_ACT_STATE_REACH_OUT 4 (modAct 1 (fun x => { x with stripe := 15 }) (setActState 1 4 R)), by decide +kernel⟩,
   ⟨1, 2, 8, modAct 1 (fun x => { x with stripe := 15, rejoin := [none, none, some 8] }) (setActState 1 4 R), by decide +kernel⟩⟩

/-- States and operands that meet the hypotheses of LinkReception, clause by clause. -/
theorem witness_LinkReception :
    (∃ (a : Act) (i : Slot) (hd : BitVec 64) (data : List (Bool × BitVec 64)) (tl : BitVec 64) (s : State), ((s.fld (LNK_STATE a.toNat) F_LNK_STATE_LOCKED).testBit i.toNat = true) ∧ ((frameCheck (upLane a.toNat i.toNat s) false hd data tl).intact = true) ∧ (q64 tl 12 1 = 0)) ∧
    (∃ (a : Act) (i : Slot) (hd : BitVec 64) (data : List (Bool × BitVec 64)) (tl : BitVec 64) (p : Nat) (s : State), ((s.fld (LNK_STATE a.toNat) F_LNK_STATE_LOCKED).testBit i.toNat = true) ∧ (captureSlot a.toNat (q64 hd 8 2) s = some p) ∧ ((frameCheck (upLane a.toNat i.toNat s) false hd data tl).crcBad = false)) ∧
    (∃ (hd : BitVec 64) (data : List (Bool × BitVec 64)) (tl : BitVec 64), (frameCrc hd data ≠ q64 tl 16 32)) ∧
    (∃ (l : UpLane) (b : Bool) (hd : BitVec 64) (data : List (Bool × BitVec 64)) (tl : BitVec 64), ((frameCheck l b hd data tl).crcBad = false)) ∧
    (∃ (a : Act) (i : Slot) (hd : BitVec 64) (data : List (Bool × BitVec 64)) (tl : BitVec 64) (s : State), ((frameCheck (upLane a.toNat i.toNat s) false hd data tl).crcBad = true)) ∧
    (∃ (a : Act) (i : Slot) (s : State), ((s.fld (LNK_STATE a.toNat) F_LNK_STATE_LOCKED).testBit i.toNat = true)) ∧
    (∃ (a : Act) (s : State), (8 ≤ (lnk a.toNat s).scmdErr)) ∧
    (∃ (a : Act) (i : Slot) (s : State), ((s.fld (LNK_STATE a.toNat) F_LNK_STATE_LOCKED).testBit i.toNat = true)) ∧
    (∃ (a : Act) (k : Byte) (s : State), (linkMode a.toNat s ≠ 0) ∧ (k.toNat ≤ 8)) :=
  ⟨⟨21, 1, 0x10000000000021, [(true, 0)], (0x2D + 9 * 256 + BitVec.ofNat 64 (65536 * frameCrc 0x10000000000021 [(true, 0)])), F (LNK_STATE 21) F_LNK_STATE_LOCKED 15 R, by decide +kernel⟩,
   ⟨21, 1, 0x10000000000021, [(true, 0)], (0x2D + 9 * 256 + BitVec.ofNat 64 (65536 * frameCrc 0x10000000000021 [(true, 0)])), (9 : Nat), modSeq 21 (fun q => { q with fly := [{ id := 1, slot := 0, mode := 0, reread := 0, sector := 0, k := 0, op := 0, cls := 0, tag := 0, cyl := 0, head := 0, base := 0, st := .open, pool := some 9 }] }) (F (LNK_STATE 21) F_LNK_STATE_LOCKED 15 R), by decide +kernel⟩,
   ⟨0x10000000000021, [(true, 0)], 0x92D, by decide +kernel⟩,
   ⟨{ synced := true, scnt := 4 }, false, 0x100000D0000021, [(true, 0)], (0x2D + 9 * 256 + BitVec.ofNat 64 (65536 * frameCrc 0x100000D0000021 [(true, 0)])), by decide +kernel⟩,
   ⟨21, 1, 0x10000000000021, [(true, 0)], 0x92D, F (LNK_STATE 21) F_LNK_STATE_LOCKED 15 R, by decide +kernel⟩,
   ⟨21, 3, F (LNK_STATE 21) F_LNK_STATE_LOCKED 15 R, by decide +kernel⟩,
   ⟨4, modLnk 4 (fun x => { x with scmdErr := 8 }) (setActState 4 4 R), by decide +kernel⟩,
   ⟨4, 2, F (LNK_STATE 4) F_LNK_STATE_LOCKED 15 (F (LNK_STATE 4) F_LNK_STATE_MODE 2 R), by decide +kernel⟩,
   ⟨4, 8, F (LNK_STATE 4) F_LNK_STATE_MODE 2 R, by decide +kernel⟩⟩

/-- States and operands that meet the hypotheses of LinkLanes, clause by clause. -/
theorem witness_LinkLanes :
    (∃ (a : Act) (d : Bool) (i : Slot) (s : State), (lockOf a.toNat d i.toNat s = true) ∧ ((lossNote a.toNat d i.toNat s).1 < 16)) ∧
    (∃ (a : Act) (d : Bool) (i : Slot) (s : State), (0 < attemptsOf a.toNat d i.toNat s)) ∧
    (∃ (a : Act) (i : Slot) (s : State), (attemptsOf a.toNat false i.toNat s = 3) ∧ (linkMode a.toNat s = 2) ∧ (s.fld (LNK_STATE a.toNat) F_LNK_STATE_UP_FAILED = 0) ∧ (s.fld (LNK_STATE a.toNat) F_LNK_STATE_DN_FAILED = 0)) ∧
    (∃ (m : Master) (a : Act) (s : State), (mayCmd m = true) ∧ (s.domOn a.toNat = true) ∧ (actState a.toNat s = 0 ∨ actState a.toNat s = 7)) ∧
    (∃ (m : Master) (a : Act) (s : State), (mayCmd m = true) ∧ (s.domOn a.toNat = true) ∧ (actState a.toNat s ≠ 0) ∧ (actState a.toNat s ≠ 7)) ∧
    (∃ (a : Act) (s : State), (linkMode a.toNat s = 1) ∧ (s.fld (LNK_STATE a.toNat) F_LNK_STATE_UP_FAILED = 0) ∧ ((tget false s.plat.actRst a.toNat) = false) ∧ ((lnk a.toNat s).fe = none)) ∧
    (∃ (a : Act) (i : Slot) (s : State), (s.domOn a.toNat = true) ∧ (linkMode a.toNat s ≠ 1) ∧ (tget 0 s.wOff (4 * a.toNat + i.toNat) ≠ 0)) ∧
    (∃ (a : Act) (i : Slot) (p : _) (r : List Nat) (s : State), (s.domOn a.toNat = true) ∧ (linkMode a.toNat s ≠ 1) ∧ ((tget {} s.dn (4 * a.toNat + i.toNat)).ret = []) ∧ (tget 0 s.wOff (4 * a.toNat + i.toNat) = 0) ∧ ((tget {} s.dn (4 * a.toNat + i.toNat)).scmd = p :: r)) :=
  ⟨⟨21, false, 1, F (LNK_STATE 21) F_LNK_STATE_LOCKED 15 (F (LNK_STATE 21) F_LNK_STATE_MODE 2 R), by decide +kernel⟩,
   ⟨21, false, 1, modUp 21 1 (fun x => { x with attempts := 3, retrain := true }) R, by decide +kernel⟩,
   ⟨21, 1, modUp 21 1 (fun x => { x with attempts := 3, retrain := true }) (F (LNK_STATE 21) F_LNK_STATE_MODE 2 R), by decide +kernel⟩,
   ⟨0, 21, F (LNK_STATE 21) F_LNK_STATE_UP_FAILED 2 (setActState 21 7 R), by decide +kernel⟩,
   ⟨0, 21, setActState 21 4 R, by decide +kernel⟩,
   ⟨21, F (LNK_STATE 21) F_LNK_STATE_MODE 1 R, by decide +kernel⟩,
   ⟨21, 1, { R with wOff := [(85, 3)], dn := [(85, { ret := [7], scmd := [0x66] })] }, by decide +kernel⟩,
   ⟨21, 1, 0x66, ([5, 6] : List Nat), { R with dn := [(85, { scmd := [0x66, 5, 6] })] }, by decide +kernel⟩⟩

/-- States and operands that meet the hypotheses of FrontEndAccess, clause by clause. -/
theorem witness_FrontEndAccess :
    (∃ (m : Master) (a : Act) (v : W32) (s : State), (mayCmd m = true) ∧ (s.domOn a.toNat = true) ∧ (s.fld (LNK_FE_RESULT a.toNat) F_LNK_FE_RESULT_BUSY = 0) ∧ ((lnk a.toNat s).fe = none) ∧ (fget v F_LNK_FE_CMD_ADDR < 0xF00)) ∧
    (∃ (m : Master) (a : Act) (v : W32) (s : State), (mayCmd m = true) ∧ (s.domOn a.toNat = true) ∧ (s.fld (LNK_FE_RESULT a.toNat) F_LNK_FE_RESULT_BUSY = 0) ∧ (0xF00 ≤ fget v F_LNK_FE_CMD_ADDR)) ∧
    (∃ (m : Master) (a : Act) (s : State), (mayCmd m = true) ∧ (s.domOn a.toNat = true) ∧ (s.fld (LNK_FE_RESULT a.toNat) F_LNK_FE_RESULT_BUSY = 0) ∧ ((lnk a.toNat s).fe = none)) ∧
    (∃ (m : Master) (a : Act) (s : State), (mayCmd m = true) ∧ (s.domOn a.toNat = true) ∧ (s.fld (LNK_FE_RESULT a.toNat) F_LNK_FE_RESULT_BUSY = 1)) ∧
    (∃ (a : Act) (f : FeAcc) (s : State), ((lnk a.toNat s).fe = some f) ∧ (f.held = true) ∧ (writeGateOpen a.toNat s = false)) ∧
    (∃ (a : Act) (v : BitVec 64) (f : FeAcc) (s : State), (q64 v 0 8 = 0x3C) ∧ (crc 8 0x07 0x00 (leBytes v.toNat 7) = q64 v 56 8) ∧ (q64 v 36 4 ≠ 15) ∧ ((lnk a.toNat s).fe = some f) ∧ (f.held = false) ∧ (f.tag = q64 v 36 4) ∧ (f.kind = .soft)) ∧
    (∃ (a : Act) (f : FeAcc) (s : State), ((lnk a.toNat s).fe = some f) ∧ (f.held = false) ∧ (f.again = true) ∧ (f.kind = .soft)) ∧
    (∃ (a : Act) (f : FeAcc) (s : State), ((lnk a.toNat s).fe = some f) ∧ (f.held = false) ∧ (f.again = false)) :=
  ⟨⟨0, 21, 0x0EFF1234, R, by decide +kernel⟩,
   ⟨0, 21, 0x0F000000, R, by decide +kernel⟩,
   ⟨0, 21, R, by decide +kernel⟩,
   ⟨0, 21, F (LNK_FE_RESULT 21) F_LNK_FE_RESULT_BUSY 1 R, by decide +kernel⟩,
   ⟨21, ({ tag := 0, write := true, addr := 5, data := 6, kind := .soft, again := false, held := true } : FeAcc), modLnk 21 (fun x => { x with fe := some { tag := 0, write := true, addr := 5, data := 6, kind := .soft, again := false, held := true } }) R, by decide +kernel⟩,
   ⟨21, (BitVec.ofNat 64 (0x1230000003C + 2^56 * crc 8 7 0 (leBytes 0x1230000003C 7))), ({ tag := 2, write := false, addr := 5, data := 6, kind := .soft, again := false, held := false } : FeAcc), modLnk 21 (fun x => { x with fe := some { tag := 2, write := false, addr := 5, data := 6, kind := .soft, again := false, held := false } }) R, by decide +kernel⟩,
   ⟨21, ({ tag := 2, write := false, addr := 5, data := 6, kind := .soft, again := true, held := false } : FeAcc), modLnk 21 (fun x => { x with fe := some { tag := 2, write := false, addr := 5, data := 6, kind := .soft, again := true, held := false } }) R, by decide +kernel⟩,
   ⟨21, ({ tag := 2, write := false, addr := 5, data := 6, kind := .soft, again := false, held := false } : FeAcc), modLnk 21 (fun x => { x with fe := some { tag := 2, write := false, addr := 5, data := 6, kind := .soft, again := false, held := false } }) R, by decide +kernel⟩⟩

/-- States and operands that meet the hypotheses of SectorCapture, clause by clause. -/
theorem witness_SectorCapture :
    (∃ (a : Act) (i : Slot) (e : FlyEnt) (p : Nat) (s : State), (readingEnt a.toNat i.toNat s = some e) ∧ (flyGet a.toNat e.id s = some e) ∧ (e.st = .open) ∧ (e.pool = none) ∧ (e.unheld = false) ∧ (((fly a.toNat s).filter (fun x => x.slot == i.toNat && x.pool.isSome && (x.st == .open || x.st == .filling || x.st == .coded))).length < 4) ∧ (poolPick s = some p)) ∧
    (∃ (a : Act) (i : Slot) (e : FlyEnt) (s : State), (readingEnt a.toNat i.toNat s = some e) ∧ (flyGet a.toNat e.id s = some e) ∧ (e.st = .open) ∧ (e.pool = none) ∧ (e.unheld = false)) ∧
    (∃ (a : Act) (i : Slot) (e : FlyEnt) (n : Nat) (s : State), (readingEnt a.toNat i.toNat s = some e) ∧ (flyGet a.toNat e.id s = some e) ∧ (e.st = .open) ∧ (e.dead = false) ∧ (e.mode = 0) ∧ ((chain a.toNat i.toNat s).phase = .hunt) ∧ (syncFind a.toNat i.toNat s = some (true, n))) ∧
    (∃ (a : Act) (i : Slot) (e : FlyEnt) (n : Nat) (s : State), (readingEnt a.toNat i.toNat s = some e) ∧ (flyGet a.toNat e.id s = some e) ∧ (e.st = .open) ∧ ((chain a.toNat i.toNat s).phase = .hunt) ∧ (syncFind a.toNat i.toNat s = some (false, n))) ∧
    (∃ (a : Act) (i : Slot) (e : FlyEnt) (s : State), (readingEnt a.toNat i.toNat s = some e) ∧ (flyGet a.toNat e.id s = some e) ∧ (e.st = .open) ∧ ((chain a.toNat i.toNat s).phase = .hunt) ∧ (syncFind a.toNat i.toNat s = none)) ∧
    (∃ (a : Act) (i : Slot) (e : FlyEnt) (s : State), (readingEnt a.toNat i.toNat s = some e) ∧ (flyGet a.toNat e.id s = some e) ∧ (e.st = .open) ∧ ((codewords a.toNat i.toNat s).length < 4)) ∧
    (∃ (a : Act) (i : Slot) (e : FlyEnt) (p : Nat) (s : State) (u : State), ((fly a.toNat s).find? (fun x => x.slot == i.toNat && x.mode != 2 && x.st == .done && x.inQ) = none) ∧ (readingEnt a.toNat i.toNat s = some e) ∧ (flyGet a.toNat e.id s = some e) ∧ (e.st = .filling) ∧ (e.pool = some p) ∧ (u = chainWork a.toNat i.toNat (chainFlush (chainPar a.toNat i.toNat e.cyl s)) s) ∧ ((chain a.toNat i.toNat u).phase ≠ .resync) ∧ (codeErased (chain a.toNat i.toNat u) ≤ s.fld (RCH_SYNC a.toNat) F_RCH_SYNC_ERASE_MAX)) ∧
    (∃ (a : Act) (i : Slot) (e : FlyEnt) (s : State) (u : State), ((fly a.toNat s).find? (fun x => x.slot == i.toNat && x.mode != 2 && x.st == .done && x.inQ) = none) ∧ (readingEnt a.toNat i.toNat s = some e) ∧ (flyGet a.toNat e.id s = some e) ∧ (e.st = .filling) ∧ (e.dead = false) ∧ (u = chainWork a.toNat i.toNat (chainFlush (chainPar a.toNat i.toNat e.cyl s)) s) ∧ ((chain a.toNat i.toNat u).phase ≠ .resync) ∧ (s.fld (RCH_SYNC a.toNat) F_RCH_SYNC_ERASE_MAX < codeErased (chain a.toNat i.toNat u)) ∧ (e.reread < s.fld (RCH_RETRY a.toNat) F_RCH_RETRY_MAX_REVS)) ∧
    (∃ (a : Act) (i : Slot) (e : FlyEnt) (s : State), ((fly a.toNat s).find? (fun x => x.slot == i.toNat && x.mode != 2 && x.st == .done && x.inQ) = some e) ∧ (e.taken = false) ∧ (flyGet a.toNat e.id s = some e)) :=
  ⟨⟨38, 1, fe 4 1 0 .open, (0 : Nat), wf 38 [fe 4 1 0 .open], by decide +kernel⟩,
   ⟨38, 1, fe 4 1 0 .open, wf 38 [fe 4 1 0 .open], by decide +kernel⟩,
   ⟨38, 1, fe 4 1 0 .open (some 3), (190 : Nat), hunt 38 1 (zbits 190 ++ poisonMark) (F (RCH_SYNC 38) F_RCH_SYNC_SYNC_WIN 8 <| wp 3 1 38 4 (wf 38 [fe 4 1 0 .open (some 3)])), by decide +kernel⟩,
   ⟨38, 1, fe 4 1 0 .open (some 3), (195 : Nat), hunt 38 1 (zbits 195 ++ dataMark) (F (RCH_SYNC 38) F_RCH_SYNC_SYNC_WIN 8 <| wp 3 1 38 4 (wf 38 [fe 4 1 0 .open (some 3)])), by decide +kernel⟩,
   ⟨38, 1, fe 4 1 0 .open, hunt 38 1 (zbits 300) (F (RCH_SYNC 38) F_RCH_SYNC_SYNC_WIN 8 (wf 38 [fe 4 1 0 .open])), by decide +kernel⟩,
   ⟨38, 1, fe 4 1 0 .open, wf 38 [fe 4 1 0 .open], by decide +kernel⟩,
   ⟨38, 1, fe 4 1 0 .filling (some 3), (3 : Nat), modChain 38 1 (fun c => { c with phase := .data, n := 36470, bad := 1590 }) (wp 3 1 38 4 (wf 38 [fe 4 1 0 .filling (some 3)])), chainWork 38 1 (chainFlush (chainPar 38 1 5 (modChain 38 1 (fun c => { c with phase := .data, n := 36470, bad := 1590 }) (wp 3 1 38 4 (wf 38 [fe 4 1 0 .filling (some 3)]))))) (modChain 38 1 (fun c => { c with phase := .data, n := 36470, bad := 1590 }) (wp 3 1 38 4 (wf 38 [fe 4 1 0 .filling (some 3)]))), ⟨by decide +kernel, by decide +kernel, by decide +kernel, by decide +kernel, by decide +kernel, rfl, by decide +kernel, by decide +kernel⟩⟩,
   ⟨38, 1, fe 4 1 0 .filling (some 3), modChain 38 1 (fun c => { c with phase := .data, n := 36480, bad := 1601 }) (wp 3 1 38 4 (wf 38 [fe 4 1 0 .filling (some 3)])), chainWork 38 1 (chainFlush (chainPar 38 1 5 (modChain 38 1 (fun c => { c with phase := .data, n := 36480, bad := 1601 }) (wp 3 1 38 4 (wf 38 [fe 4 1 0 .filling (some 3)]))))) (modChain 38 1 (fun c => { c with phase := .data, n := 36480, bad := 1601 }) (wp 3 1 38 4 (wf 38 [fe 4 1 0 .filling (some 3)]))), ⟨by decide +kernel, by decide +kernel, by decide +kernel, by decide +kernel, by decide +kernel, rfl, by decide +kernel, by decide +kernel, by decide +kernel⟩⟩,
   ⟨38, 1, fe 4 1 0 .done, wf 38 [fe 4 1 0 .done], by decide +kernel⟩⟩

/-- States and operands that meet the hypotheses of SectorDecoding, clause by clause. -/
theorem witness_SectorDecoding :
    (∃ (a : Act) (i : Slot) (e : FlyEnt) (user : List Byte) (s : State), ((codewords a.toNat i.toNat s).find? (fun x => x.st == .coded) = some e) ∧ (flyGet a.toNat e.id s = some e) ∧ ((outq a.toNat s).length < 16) ∧ ((otfRun a.toNat e s).conv = true) ∧ (decodeInfo (e.aw a.toNat) (otfRun a.toNat e s).info = some user)) ∧
    (∃ (a : Nat) (x : OutSec) (q : List OutSec) (e : FlyEnt) (s : State), (outq a s = x :: q) ∧ (flyGet a x.id s = some e) ∧ (e.dead = false) ∧ (e.mode = 0) ∧ (x.user.length = 4096)) ∧
    (∃ (a : Act) (i : Slot) (e : FlyEnt) (p : Nat) (s : State), ((codewords a.toNat i.toNat s).find? (fun x => x.st == .coded) = some e) ∧ (flyGet a.toNat e.id s = some e) ∧ (e.unheld = false) ∧ (e.pool = some p) ∧ (s.fld (RCH_RETRY a.toNat) F_RCH_RETRY_DR_EN = 1) ∧ (poolCount poolRetained s + poolCount poolRetrying s < s.fld RCH_POOL_CTL F_RCH_POOL_CTL_RET_MAX) ∧ ((otfRun a.toNat e s).conv = false ∨ decodeInfo (e.aw a.toNat) (otfRun a.toNat e s).info = none)) ∧
    (∃ (p : Nat) (e : FlyEnt) (s : State), (drNext s = some p) ∧ (poolCount poolRetrying s < 32) ∧ (flyGet (poolSlot p s).act (poolSlot p s).id s = some e) ∧ (drPlan (poolSlot p s).act e.cyl s ≠ [])) ∧
    (∃ (p : BitVec 9) (c : Bool) (x : Nat × Nat × Nat) (y : Nat × Nat × Nat) (r : List (Nat × Nat × Nat)) (s : State), ((poolSlot p.toNat s).st = poolRetrying) ∧ ((poolSlot p.toNat s).plan = x :: y :: r) ∧ ((drAttempt p.toNat s).found = none) ∧ ((drAttempt p.toNat s).conv = c)) ∧
    (∃ (p : BitVec 9) (c : Bool) (x : Nat × Nat × Nat) (e : FlyEnt) (s : State), ((poolSlot p.toNat s).st = poolRetrying) ∧ ((poolSlot p.toNat s).plan = [x]) ∧ ((drAttempt p.toNat s).found = none) ∧ ((drAttempt p.toNat s).conv = c) ∧ (flyGet (poolSlot p.toNat s).act (poolSlot p.toNat s).id s = some e) ∧ (e.pool = some p.toNat) ∧ (e.dead = false) ∧ (e.reread < s.fld (RCH_RETRY (poolSlot p.toNat s).act) F_RCH_RETRY_MAX_REVS)) ∧
    (∃ (p : BitVec 9) (ps : Head) (is : BitVec 5) (info : List Byte) (user : List Byte) (e : FlyEnt) (s : State), ((poolSlot p.toNat s).st = poolRetrying) ∧ ((drAttempt p.toNat s).found = some (ps.toNat, is.toNat, info)) ∧ ((outq (poolSlot p.toNat s).act s).length < 16) ∧ (flyGet (poolSlot p.toNat s).act (poolSlot p.toNat s).id s = some e) ∧ (e.pool = some p.toNat) ∧ (decodeInfo (e.aw (poolSlot p.toNat s).act) info = some user)) ∧
    (∃ (p : BitVec 9) (e : FlyEnt) (s : State), ((poolSlot p.toNat s).st = poolRetained) ∧ (flyGet (poolSlot p.toNat s).act (poolSlot p.toNat s).id s = some e) ∧ (e.pool = some p.toNat) ∧ (e.dead = false) ∧ (e.reread < s.fld (RCH_RETRY (poolSlot p.toNat s).act) F_RCH_RETRY_MAX_REVS)) :=
  ⟨⟨38, 1, gcode 38 (fe 4 1 0 .coded (some 3)), ubytes, { wp 3 2 38 4 (wf 38 [gcode 38 (fe 4 1 0 .coded (some 3))]) with ldpc := [] }, ⟨rfl, rfl, by decide +kernel, by decide +kernel, (by rw [otfRun_info _ _ _ (ginfo 38 (fe 4 1 0 .coded (some 3))) 19 (by simp [ginfo, checkBytes_length, ubytes, ldpcK]) rfl rfl (by decide +kernel)]; exact decodeInfo_encoded _ _ (by simp [ubytes]))⟩⟩,
   ⟨(38 : Nat), ({ id := 4, oc := 0, iters := 7, user := ubytes } : OutSec), ([{ id := 5, oc := 1, iters := 0, user := [] }] : List OutSec), fe 4 1 0 .out, modOutq 38 (fun _ => [{ id := 4, oc := 0, iters := 7, user := ubytes }, { id := 5, oc := 1, iters := 0, user := [] }]) (wf 38 [fe 4 1 0 .out]), by decide +kernel⟩,
   ⟨38, 1, fe 4 1 0 .coded (some 3), (3 : Nat), { wp 3 2 38 4 (wf 38 [fe 4 1 0 .coded (some 3)]) with ldpc := [] }, by decide +kernel⟩,
   ⟨(3 : Nat), fe 4 1 0 .retained (some 3), wp 3 3 38 4 (wf 38 [fe 4 1 0 .retained (some 3)]), by decide +kernel⟩,
   ⟨3, false, ((0, 4, 25) : Nat × Nat × Nat), ((1, 4, 25) : Nat × Nat × Nat), ([] : List (Nat × Nat × Nat)), { R with pool := [(3, { st := 4, plan := [(0, 4, 25), (1, 4, 25)] })] }, by decide +kernel⟩,
   ⟨3, true, ((0, 1, 25) : Nat × Nat × Nat), fe 4 1 0 .retrying (some 3), { wf 38 [fe 4 1 0 .retrying (some 3)] with ldpc := [], pool := [(3, { st := 4, act := 38, id := 4, plan := [(0, 1, 25)] })] }, by decide +kernel⟩,
   ⟨3, 1, 1, ginfo 38 (fe 4 1 0 .coded), ubytes, fe 4 1 0 .retrying (some 3), drState, ⟨by decide +kernel, (drAttempt_found 3 drState (fe 4 1 0 .retrying (some 3)) 0 3 24 [] (ginfo 38 (fe 4 1 0 .coded)) ubytes (by simp [ginfo, checkBytes_length, ubytes, ldpcK]) rfl rfl rfl rfl rfl (decodeInfo_encoded _ _ (by simp [ubytes]))), by decide +kernel, by decide +kernel, by decide +kernel, decodeInfo_encoded _ _ (by simp [ubytes])⟩⟩,
   ⟨3, fe 4 1 0 .retained (some 3), { wf 38 [fe 4 1 0 .retained (some 3)] with pool := [(3, { st := 3, act := 38, id := 4 })] }, by decide +kernel⟩⟩

/-- States and operands that meet the hypotheses of SectorWriting, clause by clause. -/
theorem witness_SectorWriting :
    (∃ (a : Act) (i : Slot) (e : FlyEnt) (s : State), (((fly a.toNat s).filter (fun x => x.slot == i.toNat && x.mode == 2 && x.st != .done)).find? (fun x => !x.fetched) = some e) ∧ (((fly a.toNat s).filter (fun x => x.slot == i.toNat && x.mode == 2 && x.st != .done && x.fetched)).length < 3) ∧ (flyGet a.toNat e.id s = some e)) ∧
    (∃ (a : Act) (i : Slot) (e : FlyEnt) (s : State), ((fly a.toNat s).find? (fun x => x.slot == i.toNat && x.mode == 2 && x.fetched && !x.ready && x.st != .done) = some e) ∧ (flyGet a.toNat e.id s = some e)) ∧
    (∃ (a : Act) (i : Slot) (e : FlyEnt) (s : State), ((fly a.toNat s).find? (fun x => x.slot == i.toNat && x.mode == 2 && !x.cut && (x.st == .open || (x.st == .sending && !x.rest.isEmpty))) = some e) ∧ (e.st = .open) ∧ (flyGet a.toNat e.id s = some e) ∧ (e.cause = 0) ∧ (e.ready = false)) ∧
    (∃ (a : Act) (i : Slot) (e : FlyEnt) (s : State) (u : State) (bl : List (List WBlk) × Option Nat), ((fly a.toNat s).find? (fun x => x.slot == i.toNat && x.mode == 2 && !x.cut && (x.st == .open || (x.st == .sending && !x.rest.isEmpty))) = some e) ∧ (e.st = .open) ∧ (flyGet a.toNat e.id s = some e) ∧ (e.ready = true) ∧ (tooEarly a.toNat e s = false) ∧ (u = gapSettle a.toNat e s) ∧ (bl = sectorBlocks a.toNat e (gapBefore a.toNat e u) false u)) ∧
    (∃ (a : Act) (i : Slot) (e : FlyEnt) (bl : List WBlk) (q : List (List WBlk)) (s : State), ((fly a.toNat s).find? (fun x => x.slot == i.toNat && x.mode == 2 && !x.cut && (x.st == .open || (x.st == .sending && !x.rest.isEmpty))) = some e) ∧ (e.st = .sending) ∧ (e.rest = bl :: q) ∧ (flyGet a.toNat e.id s = some e)) ∧
    (∃ (a : Act) (i : Slot) (e : FlyEnt) (s : State), ((fly a.toNat s).find? (fun x => x.slot == i.toNat && x.mode == 2 && x.st == .sending && !x.cut && decide (0 < x.left)) = some e) ∧ (flyGet a.toNat e.id s = some e) ∧ (e.cause = 0)) ∧
    (∃ (a : Act) (i : Slot) (e : FlyEnt) (s : State), (writingEnt a.toNat i.toNat s = some e) ∧ (flyGet a.toNat e.id s = some e) ∧ (e.dead = false) ∧ (e.slot = i.toNat) ∧ (e.st = .sending) ∧ (e.left = 0) ∧ (e.cut = false) ∧ (e.poison = false)) ∧
    (∃ (a : Act) (i : Slot) (e : FlyEnt) (s : State), (writingEnt a.toNat i.toNat s = some e) ∧ (flyGet a.toNat e.id s = some e) ∧ (e.dead = false) ∧ (e.cut = true) ∧ (0 < e.cells) ∧ (e.cells ≤ 36800) ∧ (e.cyl < 2 ^ 21) ∧ (e.head < 6) ∧ (e.slot < 4) ∧ (1 ≤ e.cause) ∧ (e.cause ≤ 8)) ∧
    (∃ (a : Act) (i : Slot) (e : FlyEnt) (s : State), (writingEnt a.toNat i.toNat s = some e) ∧ (flyGet a.toNat e.id s = some e) ∧ (e.dead = false) ∧ (e.cut = true) ∧ (e.cells = 0) ∧ (1 ≤ e.cause) ∧ (e.cause ≤ 8) ∧ (e.head < 6)) :=
  ⟨⟨38, 1, fe 4 1 2 .queued, wf 38 [fe 4 1 2 .queued], by decide +kernel⟩,
   ⟨38, 1, { fe 4 1 2 .open with fetched := true }, wf 38 [{ fe 4 1 2 .open with fetched := true }], by decide +kernel⟩,
   ⟨38, 1, fe 4 1 2 .open, wf 38 [fe 4 1 2 .open], by decide +kernel⟩,
   ⟨38, 1, { fe 4 1 2 .open with ready := true }, F (SEQ_FMT0 38 0) F_SEQ_FMT0_DA_START_NS 1000 (wf 38 [{ fe 4 1 2 .open with ready := true }]), F (SEQ_FMT0 38 0) F_SEQ_FMT0_DA_START_NS 1000 (wf 38 [{ fe 4 1 2 .open with ready := true }]), sectorBlocks 38 { fe 4 1 2 .open with ready := true } none false (F (SEQ_FMT0 38 0) F_SEQ_FMT0_DA_START_NS 1000 (wf 38 [{ fe 4 1 2 .open with ready := true }])), ⟨by decide +kernel, by decide +kernel, by decide +kernel, by decide +kernel, by decide +kernel, rfl, rfl⟩⟩,
   ⟨38, 1, { fe 4 1 2 .sending with rest := [[{ id := 4, pay := 5, cells := 12, last := true }]], partAt := 9 }, ([{ id := 4, pay := 5, cells := 12, last := true }] : List WBlk), ([] : List (List WBlk)), wf 38 [{ fe 4 1 2 .sending with rest := [[{ id := 4, pay := 5, cells := 12, last := true }]], partAt := 9 }], by decide +kernel⟩,
   ⟨38, 1, { fe 4 1 2 .sending with left := 5 }, wf 38 [{ fe 4 1 2 .sending with left := 5 }], by decide +kernel⟩,
   ⟨38, 1, fe 4 1 2 .sending, wf 38 [fe 4 1 2 .sending], by decide +kernel⟩,
   ⟨38, 1, { fe 4 1 2 .sending with cut := true, cause := 2, cells := 10800 }, wf 38 [{ fe 4 1 2 .sending with cut := true, cause := 2, cells := 10800 }], by decide +kernel⟩,
   ⟨38, 1, { fe 4 1 2 .sending with cut := true, cause := 7 }, wf 38 [{ fe 4 1 2 .sending with cut := true, cause := 7 }], by decide +kernel⟩⟩

/-- States and operands that meet the hypotheses of MicrowordArithmetic, clause by clause. -/
theorem witness_MicrowordArithmetic :
    (∃ (a : Act) (s : State), (Running a.toNat s)) ∧
    (∃ (a : Act) (s : State), (Running a.toNat s)) ∧
    (∃ (a : Act) (s : State), (Running a.toNat s)) ∧
    (∃ (a : Act) (s : State), (Running a.toNat s)) ∧
    (∃ (a : Act) (s : State), (Running a.toNat s)) ∧
    (∃ (a : Act) (s : State), (Running a.toNat s)) ∧
    (∃ (a : Act) (s : State), (Running a.toNat s)) ∧
    (∃ (a : Act) (s : State), (Running a.toNat s)) ∧
    (∃ (a : Act) (s : State), (Running a.toNat s)) ∧
    (∃ (a : Act) (s : State), (Running a.toNat s)) ∧
    (∃ (a : Act) (s : State), (Running a.toNat s)) ∧
    (∃ (a : Act) (s : State), (Running a.toNat s)) ∧
    (∃ (a : Act) (s : State), (Running a.toNat s)) ∧
    (∃ (a : Act) (s : State), (Running a.toNat s)) ∧
    (∃ (a : Act) (s : State), (Running a.toNat s)) ∧
    (∃ (a : Act) (s : State), (Running a.toNat s)) :=
  ⟨⟨63, modSeq 63 (fun q => { q with npc := 8191, g := [(3, 0xF0000001), (31, 0x12345678)] }) (seqStart 63 R), by decide +kernel⟩,
   ⟨63, modSeq 63 (fun q => { q with npc := 8191, g := [(3, 0xF0000001), (31, 0x12345678)] }) (seqStart 63 R), by decide +kernel⟩,
   ⟨63, modSeq 63 (fun q => { q with npc := 8191, g := [(3, 0xF0000001), (31, 0x12345678)] }) (seqStart 63 R), by decide +kernel⟩,
   ⟨63, modSeq 63 (fun q => { q with npc := 8191, g := [(3, 0xF0000001), (31, 0x12345678)] }) (seqStart 63 R), by decide +kernel⟩,
   ⟨63, modSeq 63 (fun q => { q with npc := 8191, g := [(3, 0xF0000001), (31, 0x12345678)] }) (seqStart 63 R), by decide +kernel⟩,
   ⟨63, modSeq 63 (fun q => { q with npc := 8191, g := [(3, 0xF0000001), (31, 0x12345678)] }) (seqStart 63 R), by decide +kernel⟩,
   ⟨63, modSeq 63 (fun q => { q with npc := 8191, g := [(3, 0xF0000001), (31, 0x12345678)] }) (seqStart 63 R), by decide +kernel⟩,
   ⟨63, modSeq 63 (fun q => { q with npc := 8191, g := [(3, 0xF0000001), (31, 0x12345678)] }) (seqStart 63 R), by decide +kernel⟩,
   ⟨63, modSeq 63 (fun q => { q with npc := 8191, g := [(3, 0xF0000001), (31, 0x12345678)] }) (seqStart 63 R), by decide +kernel⟩,
   ⟨63, modSeq 63 (fun q => { q with npc := 8191, g := [(3, 0xF0000001), (31, 0x12345678)] }) (seqStart 63 R), by decide +kernel⟩,
   ⟨63, modSeq 63 (fun q => { q with npc := 8191, g := [(3, 0xF0000001), (31, 0x12345678)] }) (seqStart 63 R), by decide +kernel⟩,
   ⟨63, modSeq 63 (fun q => { q with npc := 8191, g := [(3, 0xF0000001), (31, 0x12345678)] }) (seqStart 63 R), by decide +kernel⟩,
   ⟨63, modSeq 63 (fun q => { q with npc := 8191, g := [(3, 0xF0000001), (31, 0x12345678)] }) (seqStart 63 R), by decide +kernel⟩,
   ⟨63, modSeq 63 (fun q => { q with npc := 8191, g := [(3, 0xF0000001), (31, 0x12345678)] }) (seqStart 63 R), by decide +kernel⟩,
   ⟨63, modSeq 63 (fun q => { q with npc := 8191, g := [(3, 0xF0000001), (31, 0x12345678)] }) (seqStart 63 R), by decide +kernel⟩,
   ⟨63, modSeq 63 (fun q => { q with npc := 8191, g := [(3, 0xF0000001), (31, 0x12345678)] }) (seqStart 63 R), by decide +kernel⟩⟩

/-- States and operands that meet the hypotheses of MicrowordControl, clause by clause. -/
theorem witness_MicrowordControl :
    (∃ (a : Act) (imm : BitVec 16) (s : State), (Running a.toNat s) ∧ (TargetOk a.toNat imm s)) ∧
    (∃ (a : Act) (imm : BitVec 16) (s : State), (Running a.toNat s) ∧ (TargetOk a.toNat imm s)) ∧
    (∃ (a : Act) (imm : BitVec 16) (s : State), (Running a.toNat s) ∧ (TargetOk a.toNat imm s)) ∧
    (∃ (a : Act) (imm : BitVec 16) (s : State), (Running a.toNat s) ∧ (TargetOk a.toNat imm s)) ∧
    (∃ (a : Act) (imm : BitVec 16) (s : State), (Running a.toNat s) ∧ (TargetOk a.toNat imm s)) ∧
    (∃ (a : Act) (imm : BitVec 16) (s : State), (Running a.toNat s) ∧ (TargetOk a.toNat imm s)) ∧
    (∃ (a : Act) (imm : BitVec 16) (s : State), (Running a.toNat s) ∧ (TargetOk a.toNat imm s)) ∧
    (∃ (a : Act) (imm : BitVec 16) (s : State), (Running a.toNat s) ∧ (8192 ≤ imm.toNat)) ∧
    (∃ (a : Act) (imm : BitVec 16) (s : State), (Running a.toNat s) ∧ (imm.toNat < 6144) ∧ (64 ≤ imm.toNat) ∧ (6144 ≤ (seq a.toNat s).npc % 8192)) ∧
    (∃ (a : Act) (imm : BitVec 16) (s : State), (Running a.toNat s) ∧ (TargetOk a.toNat imm s) ∧ ((seq a.toNat s).stack.length < 8)) ∧
    (∃ (a : Act) (imm : BitVec 16) (s : State), (Running a.toNat s) ∧ (TargetOk a.toNat imm s) ∧ (8 ≤ (seq a.toNat s).stack.length)) ∧
    (∃ (a : Act) (imm : BitVec 16) (n : Nat) (r : List Nat) (s : State), (Running a.toNat s) ∧ (imm.toNat < 8192) ∧ ((seq a.toNat s).stack = n :: r) ∧ (n < 8192) ∧ (((seq a.toNat s).npc % 8192 < 6144 ∨ 6144 ≤ n ∨ (seq a.toNat s).allot = some (r.length + 1)))) ∧
    (∃ (a : Act) (imm : BitVec 16) (s : State), (Running a.toNat s) ∧ (imm.toNat < 8192) ∧ ((seq a.toNat s).stack = [])) ∧
    (∃ (a : Act) (s : State), (Running a.toNat s)) ∧
    (∃ (a : Act) (w : W32) (s : State), (Running a.toNat s) ∧ (((0x27 ≤ w.toNat / 2 ^ 26 ∧ w.toNat / 2 ^ 26 ≠ 0x3F) ∨ (0x10 ≤ w.toNat / 2 ^ 26 ∧ w.toNat / 2 ^ 26 ≤ 0x18 ∧ w.toNat / 2 ^ 13 % 8 ≠ 0)))) :=
  ⟨⟨63, 100, modSeq 63 (fun q => { q with npc := 5, g := [(3, 0xF0000001), (31, 0x12345678)] }) (seqStart 63 R), by decide +kernel⟩,
   ⟨63, 100, modSeq 63 (fun q => { q with npc := 5, g := [(3, 0xF0000001), (31, 0x12345678)] }) (seqStart 63 R), by decide +kernel⟩,
   ⟨63, 100, modSeq 63 (fun q => { q with npc := 5, g := [(3, 0xF0000001), (31, 0x12345678)] }) (seqStart 63 R), by decide +kernel⟩,
   ⟨63, 100, modSeq 63 (fun q => { q with npc := 5, g := [(3, 0xF0000001), (31, 0x12345678)] }) (seqStart 63 R), by decide +kernel⟩,
   ⟨63, 100, modSeq 63 (fun q => { q with npc := 5, g := [(3, 0xF0000001), (31, 0x12345678)] }) (seqStart 63 R), by decide +kernel⟩,
   ⟨63, 100, modSeq 63 (fun q => { q with npc := 5, g := [(3, 0xF0000001), (31, 0x12345678)] }) (seqStart 63 R), by decide +kernel⟩,
   ⟨63, 100, modSeq 63 (fun q => { q with npc := 5, g := [(3, 0xF0000001), (31, 0x12345678)] }) (seqStart 63 R), by decide +kernel⟩,
   ⟨63, 8192, modSeq 63 (fun q => { q with npc := 5, g := [(3, 0xF0000001), (31, 0x12345678)] }) (seqStart 63 R), by decide +kernel⟩,
   ⟨63, 64, modSeq 63 (fun q => { q with npc := 7000, g := [(3, 0xF0000001), (31, 0x12345678)] }) (seqStart 63 R), by decide +kernel⟩,
   ⟨63, 8, modSeq 63 (fun q => { q with npc := 7000, g := [(3, 0xF0000001), (31, 0x12345678)] }) (seqStart 63 R), by decide +kernel⟩,
   ⟨63, 8, modSeq 63 (fun q => { q with stack := [1,2,3,4,5,6,7,8] }) (seqStart 63 R), by decide +kernel⟩,
   ⟨63, 0, (9 : Nat), ([] : List Nat), modSeq 63 (fun q => { q with stack := [9] }) (seqStart 63 R), by decide +kernel⟩,
   ⟨63, 0, seqStart 63 R, by decide +kernel⟩,
   ⟨63, modSeq 63 (fun q => { q with npc := 7000, g := [(3, 0xF0000001), (31, 0x12345678)] }) (seqStart 63 R), by decide +kernel⟩,
   ⟨63, 0x9C000000, modSeq 63 (fun q => { q with npc := 5, g := [(3, 0xF0000001), (31, 0x12345678)] }) (seqStart 63 R), by decide +kernel⟩⟩

/-- States and operands that meet the hypotheses of SequencerPorts, clause by clause. -/
theorem witness_SequencerPorts :
    (∃ (a : Act) (imm : BitVec 16) (s : State), (Running a.toNat s) ∧ (imm.toNat % 256 ∉ [0x00, 0x01, 0x02, 0x03, 0x05, 0x06, 0x07, 0x09, 0x0A, 0x0B, 0x0C, 0x0D, 0x0E])) ∧
    (∃ (a : Act) (imm : BitVec 16) (s : State), (Running a.toNat s) ∧ ((seq a.toNat s).npc % 8192 < 6144) ∧ (imm.toNat % 256 ∉ [0x04, 0x08, 0x0C, 0x10])) ∧
    (∃ (a : Act) (ra : BitVec 5) (imm : BitVec 16) (s : State), (Running a.toNat s) ∧ (imm.toNat % 256 = 0x0C) ∧ (((gGet a.toNat ra s).toNat = 0 ∨ 65535 < (gGet a.toNat ra s).toNat))) :=
  ⟨⟨63, 0x0F, modSeq 63 (fun q => { q with g := [(3, 7)] }) (seqStart 63 R), by decide +kernel⟩,
   ⟨63, 0x00, modSeq 63 (fun q => { q with g := [(3, 7)] }) (seqStart 63 R), by decide +kernel⟩,
   ⟨63, 0, 0x0C, modSeq 63 (fun q => { q with npc := 7000 }) (seqStart 63 R), by decide +kernel⟩⟩

/-- States and operands that meet the hypotheses of MicrowordAccesses, clause by clause. -/
theorem witness_MicrowordAccesses :
    (∃ (a : Act) (s : State), (Running a.toNat s)) ∧
    (∃ (a : Act) (rb : BitVec 5) (imm : BitVec 16) (s : State), (Running a.toNat s) ∧ (((seq a.toNat s).npc % 8192 < 6144 ∨ 768 ≤ ((gGet a.toNat rb s).toNat + imm.toNat) % 1024))) ∧
    (∃ (a : Act) (rb : BitVec 5) (imm : BitVec 16) (s : State), (Running a.toNat s) ∧ (6144 ≤ (seq a.toNat s).npc % 8192) ∧ (((gGet a.toNat rb s).toNat + imm.toNat) % 1024 < 768)) ∧
    (∃ (a : Act) (d : _) (s : State), (Running a.toNat s) ∧ (runSlot a.toNat s = some d)) ∧
    (∃ (a : Act) (s : State), (Running a.toNat s) ∧ (runSlot a.toNat s = none)) ∧
    (∃ (a : Act) (imm : BitVec 16) (d : _) (s : State), (Running a.toNat s) ∧ (runSlot a.toNat s = some d) ∧ (12 ≤ imm.toNat % 16)) ∧
    (∃ (a : Act) (imm : BitVec 16) (s : State), (Running a.toNat s) ∧ (imm.toNat % 16 < 12)) ∧
    (∃ (a : Act) (imm : BitVec 16) (s : State), (Running a.toNat s) ∧ (imm.toNat % 256 = 0x0C)) ∧
    (∃ (a : Act) (imm : BitVec 16) (s : State), (Running a.toNat s) ∧ (imm.toNat % 256 = 0x0E)) ∧
    (∃ (a : Act) (ra : BitVec 5) (imm : BitVec 16) (s : State), (Running a.toNat s) ∧ (imm.toNat % 256 = 0x0C) ∧ (1 ≤ (gGet a.toNat ra s).toNat) ∧ ((gGet a.toNat ra s).toNat ≤ 65535)) ∧
    (∃ (a : Act) (imm : BitVec 16) (s : State), (Running a.toNat s) ∧ (imm.toNat % 256 = 0x10)) ∧
    (∃ (a : Act) (imm : BitVec 16) (s : State), (Running a.toNat s) ∧ (6144 ≤ (seq a.toNat s).npc % 8192) ∧ (imm.toNat % 256 ∉ [0x04, 0x08, 0x0C, 0x10])) :=
  ⟨⟨63, modSeq 63 (fun q => { q with g := [(4, 0xFFFFFFFF)] }) ((seqStart 63 R).wr (SEQ_SCRATCH 63 1022) 99), by decide +kernel⟩,
   ⟨63, 4, 0x0001, modSeq 63 (fun q => { q with g := [(4, 0xFFFFFFFF)] }) (seqStart 63 R), by decide +kernel⟩,
   ⟨63, 4, 767, modSeq 63 (fun q => { q with g := [(4, 0xFFFFFC00)], npc := 6144 }) (seqStart 63 R), by decide +kernel⟩,
   ⟨63, 9, F (SEQ_SLOTS 63) F_SEQ_SLOTS_RUN_VALID 1 (F (SEQ_SLOTS 63) F_SEQ_SLOTS_RUN_SLOT 9 ((seqStart 63 R).wr (SEQ_DESC 63 9 12) 77)), by decide +kernel⟩,
   ⟨63, seqStart 63 R, by decide +kernel⟩,
   ⟨63, 12, 9, modSeq 63 (fun q => { q with g := [(4, 5)] }) (F (SEQ_SLOTS 63) F_SEQ_SLOTS_RUN_VALID 1 (F (SEQ_SLOTS 63) F_SEQ_SLOTS_RUN_SLOT 9 (seqStart 63 R))), by decide +kernel⟩,
   ⟨63, 11, seqStart 63 R, by decide +kernel⟩,
   ⟨63, 0x0C, seqStart 63 R, by decide +kernel⟩,
   ⟨63, 0x0E, seqStart 63 R, by decide +kernel⟩,
   ⟨63, 4, 0x0C, modSeq 63 (fun q => { q with g := [(4, 65535)], npc := 7000 }) (seqStart 63 R), by decide +kernel⟩,
   ⟨63, 0x10, modSeq 63 (fun q => { q with g := [(4, 65535)], npc := 7000 }) (seqStart 63 R), by decide +kernel⟩,
   ⟨63, 0x00, modSeq 63 (fun q => { q with g := [(4, 65535)], npc := 8191 }) (seqStart 63 R), by decide +kernel⟩⟩

/-- States and operands that meet the hypotheses of MicrowordWaits, clause by clause. -/
theorem witness_MicrowordWaits :
    (∃ (a : Act) (imm : BitVec 16) (s : State), (Running a.toNat s) ∧ (imm.toNat % 256 ≠ 5)) ∧
    (∃ (a : Act) (imm : BitVec 16) (s : State), (Running a.toNat s) ∧ (imm.toNat % 256 = 5) ∧ (6144 ≤ (seq a.toNat s).npc % 8192)) ∧
    (∃ (a : Act) (r : BitVec 5) (arg : _) (cyc : _) (wedge : _) (o : _) (rest : _) (e : FlyEnt) (s : State), ((seq a.toNat s).block = .wait 3 arg r.toNat cyc wedge) ∧ ((seq a.toNat s).outq = o :: rest) ∧ (flyGet a.toNat o s = some e)) ∧
    (∃ (a : Act) (r : BitVec 5) (arg : _) (cyc : _) (wedge : _) (s : State), ((seq a.toNat s).block = .wait 6 arg r.toNat cyc wedge) ∧ ((seq a.toNat s).fly = [])) ∧
    (∃ (a : Act) (r : BitVec 5) (ev : Nat) (arg : _) (cyc : _) (wedge : _) (s : State), ((seq a.toNat s).block = .wait ev arg r.toNat cyc wedge)) ∧
    (∃ (a : Act) (w : W32) (k : _) (s : State), ((seq a.toNat s).block = .gate w k)) ∧
    (∃ (a : Act) (ra : BitVec 5) (rb : BitVec 5) (d : _) (s : State), (Running a.toNat s) ∧ (runSlot a.toNat s = some d) ∧ ((seq a.toNat s).npc % 8192 < 6144) ∧ (((gGet a.toNat ra s).toNat / 2 ^ 30 = 3 ∨ zoneSpt a.toNat (zoneNow a.toNat s) s ≤ (gGet a.toNat ra s).toNat % 65536 ∨ ((gGet a.toNat ra s).toNat / 2 ^ 30 ≠ 1 ∧ descLimit a.toNat d s ≤ (gGet a.toNat rb s).toNat) ∨ modeAllowed (descKind a.toNat d s) ((gGet a.toNat ra s).toNat / 2 ^ 30) = false))) ∧
    (∃ (a : Act) (ra : BitVec 5) (rb : BitVec 5) (d : _) (s : State), (Running a.toNat s) ∧ (runSlot a.toNat s = some d) ∧ ((gGet a.toNat ra s).toNat / 2 ^ 30 < 3) ∧ ((gGet a.toNat ra s).toNat % 65536 < zoneSpt a.toNat (zoneNow a.toNat s) s) ∧ (((gGet a.toNat ra s).toNat / 2 ^ 30 = 1 ∨ (gGet a.toNat rb s).toNat < descLimit a.toNat d s)) ∧ (modeAllowed (descKind a.toNat d s) ((gGet a.toNat ra s).toNat / 2 ^ 30) = true)) ∧
    (∃ (a : Act) (w : W32) (k : _) (s : State), ((seq a.toNat s).block = .gate w k) ∧ (gateRoom a.toNat (w.toNat / 2 ^ 28 % 4) s = true)) ∧
    (∃ (a : Act) (i : Slot) (e : FlyEnt) (s : State), ((fly a.toNat s).find? (fun x => x.slot == i.toNat && x.inQ && x.st == .queued) = some e) ∧ (flyGet a.toNat e.id s = some e) ∧ (e.dead = false) ∧ (e.mode ≠ 2) ∧ ((actMask a.toNat F_SRV_ACT_STATE_IN_STRIPE s).testBit i.toNat = false)) ∧
    (∃ (a : Act) (i : Slot) (e : FlyEnt) (s : State), ((fly a.toNat s).find? (fun x => x.slot == i.toNat && x.inQ && x.st == .queued) = some e) ∧ (flyGet a.toNat e.id s = some e) ∧ (e.dead = false) ∧ (e.mode ≠ 2) ∧ ((actMask a.toNat F_SRV_ACT_STATE_IN_STRIPE s).testBit i.toNat = true) ∧ ((actState a.toNat s ≠ 4 ∨ s.fld (SRV_ACT_STATE a.toNat) F_SRV_ACT_STATE_READ_SETTLED = 0))) ∧
    (∃ (a : Act) (i : Slot) (e : FlyEnt) (s : State), ((fly a.toNat s).find? (fun x => x.slot == i.toNat && x.inQ && x.st == .queued) = some e) ∧ (flyGet a.toNat e.id s = some e) ∧ (e.dead = false) ∧ (e.mode ≠ 2) ∧ ((actMask a.toNat F_SRV_ACT_STATE_IN_STRIPE s).testBit i.toNat = true) ∧ (actState a.toNat s = 4) ∧ (s.fld (SRV_ACT_STATE a.toNat) F_SRV_ACT_STATE_READ_SETTLED = 1)) ∧
    (∃ (a : Act) (s : State), (Running a.toNat s)) ∧
    (∃ (a : Act) (rb : BitVec 5) (s : State), (Running a.toNat s) ∧ (gatesClear a.toNat s = true) ∧ (zoneRate a.toNat (zoneOf a.toNat (gGet a.toNat rb s).toNat s) s = (lnk a.toNat s).rate)) ∧
    (∃ (a : Act) (s : State), (Running a.toNat s) ∧ (gatesClear a.toNat s = false)) ∧
    (∃ (a : Act) (dst : Nat) (cyl : Nat) (s : State), ((seq a.toNat s).block = .zone dst cyl false) ∧ (gatesClear a.toNat s = true) ∧ (zoneRate a.toNat (zoneOf a.toNat cyl s) s = (lnk a.toNat s).rate)) ∧
    (∃ (a : Act) (s : State), (Running a.toNat s) ∧ ((seq a.toNat s).outq = [])) ∧
    (∃ (a : Act) (o : _) (rest : _) (e : FlyEnt) (s : State), (Running a.toNat s) ∧ ((seq a.toNat s).outq = o :: rest) ∧ (flyGet a.toNat o s = some e)) ∧
    (∃ (a : Act) (imm : BitVec 16) (d : _) (s : State), (Running a.toNat s) ∧ (runSlot a.toNat s = some d) ∧ (imm.toNat % 4 = 3) ∧ (resRoom a.toNat s = true)) ∧
    (∃ (a : Act) (s : State), (Running a.toNat s) ∧ ((seq a.toNat s).npc % 8192 < 6144) ∧ (resRoom a.toNat s = false)) ∧
    (∃ (a : Act) (typ : Nat) (w1 : W32) (f : Nat) (s : State), ((seq a.toNat s).block = .post typ w1 f) ∧ (resRoom a.toNat s = true)) :=
  ⟨⟨63, 0x03, seqStart 63 R, by decide +kernel⟩,
   ⟨63, 0x05, modSeq 63 (fun q => { q with npc := 8191 }) (seqStart 63 R), by decide +kernel⟩,
   ⟨63, 4, 0, 0, 0, 4, ([]:List Nat), { fe 4 1 0 .done with word := 0x80000007 }, modSeq 63 (fun q => { q with block := .wait 3 0 4 0 0, outq := [4] }) (setSeqState 63 3 (wf 63 [{ fe 4 1 0 .done with word := 0x80000007 }])), by decide +kernel⟩,
   ⟨63, 4, 0, 0, 0, modSeq 63 (fun q => { q with block := .wait 6 0 4 0 0, g := [(4, 3)] }) (setSeqState 63 3 R), by decide +kernel⟩,
   ⟨63, 4, (2 : Nat), 0, 0, 0, modSeq 63 (fun q => { q with block := .wait 2 0 4 0 0, g := [(4, 3)] }) (setSeqState 63 3 R), by decide +kernel⟩,
   ⟨63, (0 : W32), 0, modSeq 63 (fun q => { q with block := .gate 0 0 }) (setSeqState 63 4 R), by decide +kernel⟩,
   ⟨63, 4, 0, 9, F (SEQ_SLOTS 63) F_SEQ_SLOTS_RUN_VALID 1 (F (SEQ_SLOTS 63) F_SEQ_SLOTS_RUN_SLOT 9 (seqStart 63 R)), by decide +kernel⟩,
   ⟨63, 4, 0, 9, F (SEQ_SLOTS 63) F_SEQ_SLOTS_RUN_VALID 1 (F (SEQ_SLOTS 63) F_SEQ_SLOTS_RUN_SLOT 9 (F (SEQ_FMT0 63 0) F_SEQ_FMT0_SPT 462 ((modSeq 63 (fun q => { q with g := [(4, 0x400001CD)] }) (seqStart 63 R)).wr (SEQ_DESC 63 9 0) 3))), by decide +kernel⟩,
   ⟨63, (0 : W32), 0, modSeq 63 (fun q => { q with block := .gate 0 0 }) (setSeqState 63 4 R), by decide +kernel⟩,
   ⟨63, 1, fe 4 1 0 .queued, wf 63 [fe 4 1 0 .queued], by decide +kernel⟩,
   ⟨63, 1, fe 4 1 0 .queued, F (SRV_ACT_STATE 63) F_SRV_ACT_STATE_IN_STRIPE 2 (wf 63 [fe 4 1 0 .queued]), by decide +kernel⟩,
   ⟨63, 1, fe 4 1 0 .queued, F (SRV_ACT_STATE 63) F_SRV_ACT_STATE_READ_SETTLED 1 (setActState 63 4 (F (SRV_ACT_STATE 63) F_SRV_ACT_STATE_IN_STRIPE 2 (wf 63 [fe 4 1 0 .queued]))), by decide +kernel⟩,
   ⟨63, modSeq 63 (fun q => { q with g := [(4, 0x30000), (5, 0xBA98)] }) (setActState 63 4 (seqStart 63 R)), by decide +kernel⟩,
   ⟨63, 5, F (RCH_ZONE1 63 0) F_RCH_ZONE1_RATE_MHZ 2400 (modLnk 63 (fun l => { l with rate := 2400 }) (seqStart 63 R)), by decide +kernel⟩,
   ⟨63, seqStart 63 (wf 63 [fe 4 1 0 .queued]), by decide +kernel⟩,
   ⟨63, (4 : Nat), (5 : Nat), F (RCH_ZONE1 63 0) F_RCH_ZONE1_RATE_MHZ 2400 (modLnk 63 (fun l => { l with rate := 2400 }) (modSeq 63 (fun q => { q with block := .zone 4 5 false }) (setSeqState 63 3 R))), by decide +kernel⟩,
   ⟨63, seqStart 63 R, by decide +kernel⟩,
   ⟨63, 4, ([]:List Nat), { fe 4 1 0 .done with word := 0x80000007, inQ := false }, modSeq 63 (fun q => { q with outq := [4] }) (seqStart 63 (wf 63 [{ fe 4 1 0 .done with word := 0x80000007, inQ := false }])), by decide +kernel⟩,
   ⟨63, 3, 9, F (SEQ_SLOTS 63) F_SEQ_SLOTS_RUN_VALID 1 (F (SEQ_SLOTS 63) F_SEQ_SLOTS_RUN_SLOT 9 (modSeq 63 (fun q => { q with g := [(4, 0x30000), (5, 0xFBA98)] }) ((seqStart 63 R).wr (SEQ_DESC 63 9 0) 0x70003))), by decide +kernel⟩,
   ⟨63, modSeq 63 (fun q => { q with res := List.replicate 256 (0, 0) }) (seqStart 63 R), by decide +kernel⟩,
   ⟨63, (3 : Nat), (5 : W32), (7 : Nat), modSeq 63 (fun q => { q with block := .post 3 5 7 }) (setSeqState 63 4 R), by decide +kernel⟩⟩

/-- States and operands that meet the hypotheses of SequencerOperations, clause by clause. -/
theorem witness_SequencerOperations :
    (∃ (m : Master) (a : Act) (v : W32) (s : State), (mayCmd m = true) ∧ (s.domOn a.toNat = true) ∧ (postOk a.toNat (v.toNat % 16) s = true)) ∧
    (∃ (m : Master) (a : Act) (v : W32) (s : State), (mayCmd m = true) ∧ (s.domOn a.toNat = true) ∧ ((slotBusy a.toNat (v.toNat % 16) s = true ∨ kindOk a.toNat (descKind a.toNat (v.toNat % 16) s) s = false ∨ seqState a.toNat s = 5 ∨ s.fld (SEQ_STATE a.toNat) F_SEQ_STATE_RELOAD_PENDING = 1 ∨ bufferOk (descBase a.toNat (v.toNat % 16) s) (descLimit a.toNat (v.toNat % 16) s) = false))) ∧
    (∃ (a : Act) (o : SeqOp) (s : State), (Running a.toNat s) ∧ ((seq a.toNat s).npc % 8192 < 6144) ∧ (nextOp (seq a.toNat s).ops = some o) ∧ (o.slot < 16)) ∧
    (∃ (a : Act) (s : State), (Running a.toNat s) ∧ ((seq a.toNat s).npc % 8192 < 6144) ∧ ((seq a.toNat s).ops = [])) ∧
    (∃ (a : Act) (s : State), (Running a.toNat s) ∧ (6144 ≤ (seq a.toNat s).npc % 8192)) ∧
    (∃ (a : Act) (ra : BitVec 5) (d : _) (s : State), (Running a.toNat s) ∧ ((seq a.toNat s).npc % 8192 < 6144) ∧ (runSlot a.toNat s = some d) ∧ ((gGet a.toNat ra s).toNat % 16 ≠ 2) ∧ ((gGet a.toNat ra s).toNat % 16 ≠ 5)) ∧
    (∃ (m : Master) (a : Act) (v : W32) (o : SeqOp) (s : State), (mayCmd m = true) ∧ (s.domOn a.toNat = true) ∧ ((seq a.toNat s).ops.find? (fun x => x.slot == v.toNat % 16) = some o) ∧ (o.ran = false)) ∧
    (∃ (m : Master) (a : Act) (v : W32) (o : SeqOp) (s : State), (mayCmd m = true) ∧ (s.domOn a.toNat = true) ∧ ((seq a.toNat s).ops.find? (fun x => x.slot == v.toNat % 16) = some o) ∧ (o.ran = true)) ∧
    (∃ (a : Act) (s : State), ((seq a.toNat s).allot.isSome = true) ∧ (s.fld (SEQ_ALLOT a.toNat) F_SEQ_ALLOT_MAX_WEDGES < (seq a.toNat s).wdog)) ∧
    (∃ (a : Act) (s : State), (s.domOn a.toNat = true) ∧ (seqState a.toNat s ≠ 5) ∧ (seqState a.toNat s ≠ 6)) ∧
    (∃ (a : Act) (w0 : W32) (w1 : W32) (r : List (W32 × W32)) (s : State), (s.domOn a.toNat = true) ∧ ((seq a.toNat s).res = (w0, w1) :: r) ∧ (r.length < 256)) ∧
    (∃ (a : Act) (s : State), (s.domOn a.toNat = true) ∧ ((seq a.toNat s).res = [])) :=
  ⟨⟨0, 63, 15, (setSeqState 63 1 R).wr (SEQ_DESC 63 15 0) 4, by decide +kernel⟩,
   ⟨0, 63, 15, setSeqState 63 1 R, by decide +kernel⟩,
   ⟨63, ({ slot := 7, cls := 0 } : SeqOp), modSeq 63 (fun q => { q with ops := [{ slot := 3, cls := 2 }, { slot := 7, cls := 0 }, { slot := 8, cls := 0 }] }) (seqStart 63 R), by decide +kernel⟩,
   ⟨63, seqStart 63 R, by decide +kernel⟩,
   ⟨63, modSeq 63 (fun q => { q with npc := 6144 }) (seqStart 63 R), by decide +kernel⟩,
   ⟨63, 4, 9, F (SEQ_SLOTS 63) F_SEQ_SLOTS_RUN_VALID 1 (F (SEQ_SLOTS 63) F_SEQ_SLOTS_RUN_SLOT 9 (F (SEQ_SLOTS 63) F_SEQ_SLOTS_BUSY 0x200 (modSeq 63 (fun q => { q with g := [(4, 0x31), (5, 0xFBA98)] }) ((seqStart 63 R).wr (SEQ_DESC 63 9 0) 0x70003)))), by decide +kernel⟩,
   ⟨0, 63, 7, ({ slot := 7, cls := 0 } : SeqOp), modSeq 63 (fun q => { q with ops := [{ slot := 3, cls := 2 }, { slot := 7, cls := 0 }] }) R, by decide +kernel⟩,
   ⟨0, 63, 7, ({ slot := 7, cls := 0, ran := true } : SeqOp), modSeq 63 (fun q => { q with ops := [{ slot := 3, cls := 2 }, { slot := 7, cls := 0, ran := true }] }) R, by decide +kernel⟩,
   ⟨63, modSeq 63 (fun q => { q with allot := some 1, wdog := 577 }) (seqStart 63 R), by decide +kernel⟩,
   ⟨63, setSeqState 63 1 R, by decide +kernel⟩,
   ⟨63, (7 : W32), (8 : W32), ([] : List (W32 × W32)), modSeq 63 (fun q => { q with res := [(7, 8)] }) R, by decide +kernel⟩,
   ⟨63, R.wr (SEQ_RES1 63) 9, by decide +kernel⟩⟩

/-- States and operands that meet the hypotheses of SequencerControl, clause by clause. -/
theorem witness_SequencerControl :
    (∃ (m : Master) (a : Act) (s : State), (mayCmd m = true) ∧ (s.domOn a.toNat = true) ∧ (seqState a.toNat s = 5)) ∧
    (∃ (m : Master) (a : Act) (s : State), (mayCmd m = true) ∧ (s.domOn a.toNat = true) ∧ (seqState a.toNat s ≠ 5)) ∧
    (∃ (m : Master) (a : Act) (s : State), (mayCmd m = true) ∧ (s.domOn a.toNat = true) ∧ (seqState a.toNat s ≠ 5) ∧ (seqState a.toNat s ≠ 6)) ∧
    (∃ (m : Master) (a : Act) (s : State), (mayCmd m = true) ∧ (s.domOn a.toNat = true)) ∧
    (∃ (m : Master) (a : Act) (z : BitVec 5) (hi : Bool) (v : W32) (s : State), (mayCmd m = true) ∧ (s.domOn a.toNat = true) ∧ (((fly a.toNat s).any (fun e => e.inQ) = true ∨ fmtLimits (if hi = true then zoneSpt a.toNat z.toNat s else fget v F_SEQ_FMT0_SPT) (if hi = true ∧ (fget v F_SEQ_FMT1_DA_CELLS = 0 ∨ 4096 ≤ fget v F_SEQ_FMT1_DA_CELLS) then fget v F_SEQ_FMT1_DA_CELLS else s.fld (SEQ_FMT1 a.toNat z.toNat) F_SEQ_FMT1_DA_CELLS) (s.fld (SRV_WEDGE (hdaOf a.toNat)) F_SRV_WEDGE_WEDGES) = false))) ∧
    (∃ (m : Master) (a : Act) (z : BitVec 5) (v : W32) (s : State), (mayCmd m = true) ∧ (s.domOn a.toNat = true) ∧ ((fly a.toNat s).any (fun e => e.inQ) = false) ∧ (fmtLimits (fget v F_SEQ_FMT0_SPT) (s.fld (SEQ_FMT1 a.toNat z.toNat) F_SEQ_FMT1_DA_CELLS) (s.fld (SRV_WEDGE (hdaOf a.toNat)) F_SRV_WEDGE_WEDGES) = true) ∧ (200 ≤ fget v F_SEQ_FMT0_DA_START_NS) ∧ (fget v F_SEQ_FMT0_DA_START_NS ≤ 4000)) ∧
    (∃ (m : Master), (mayCmd m = true)) ∧
    (∃ (s : State), (loadResult s = 1) ∧ (loadPlace (loadRes s) 24576 = false)) ∧
    (∃ (s : State), (loadResult s = 1) ∧ (loadPlace (loadRes s) 24576 = true) ∧ (loadAllot s = 0)) ∧
    (∃ (m : Master) (s : State), (mayCmd m = true) ∧ (loadResult s ≠ 2)) ∧
    (∃ (m : Master) (i : SeqImage) (s : State), (mayCmd m = true) ∧ (loadResult s = 2) ∧ (s.seqStaged = some i)) ∧
    (∃ (a : Act) (s : State), (s.domOn a.toNat = true) ∧ (reloadReady a.toNat s = true)) :=
  ⟨⟨0, 63, modSeq 63 (fun q => { q with g := [(4, 0x31), (5, 0xFBA98)], stack := [3] }) (setSeqState 63 5 R), by decide +kernel⟩,
   ⟨0, 63, setSeqState 63 3 R, by decide +kernel⟩,
   ⟨0, 63, setSeqState 63 3 (wf 63 [fe 4 1 0 .queued, fe 5 1 2 .queued, fe 6 2 2 .open]), by decide +kernel⟩,
   ⟨0, 63, setSeqState 63 5 R, by decide +kernel⟩,
   ⟨0, 63, 31, false, 0x01CE0258, R, by decide +kernel⟩,
   ⟨0, 63, 31, 0x01CE0258, F (SEQ_FMT1 63 31) F_SEQ_FMT1_DA_CELLS 33302 (F (SRV_WEDGE 15) F_SRV_WEDGE_WEDGES 512 R), by decide +kernel⟩,
   ⟨0, by decide +kernel⟩,
   ⟨F SEQ_LOAD_STATUS F_SEQ_LOAD_STATUS_RESULT 1 R, by decide +kernel⟩,
   ⟨F SEQ_LOAD_STATUS F_SEQ_LOAD_STATUS_RESULT 1 (R.wr SEQ_LOAD_RES_LO 0x20000008), by decide +kernel⟩,
   ⟨0, R, by decide +kernel⟩,
   ⟨0, ({ words := [], allot := false, imageId := 5, entries := [] } : SeqImage), F SEQ_LOAD_STATUS F_SEQ_LOAD_STATUS_RESULT 2 { R with seqStaged := some { words := [], allot := false, imageId := 5, entries := [] } }, by decide +kernel⟩,
   ⟨63, setSeqState 63 6 R, by decide +kernel⟩⟩

/-- States and operands that meet the hypotheses of TagOperations, clause by clause. -/
theorem witness_TagOperations :
    (∃ (c : CoreId) (v : W32) (e : Nat) (s : State), (v.toNat.testBit 30 = false) ∧ (fget v F_BUF_TE_CMD_STATUS < 3) ∧ (lookFind (teKey c.toNat s) false s = some e) ∧ ((tag e s).st ≠ 1) ∧ ((tag e s).covers false (fget v F_BUF_TE_CMD_FIRST) (fget v F_BUF_TE_CMD_LAST) = true)) ∧
    (∃ (c : CoreId) (v : W32) (e : Nat) (s : State), (v.toNat.testBit 30 = false) ∧ (lookFind (teKey c.toNat s) false s = none) ∧ (rdEn s = true) ∧ (victim (setOf (teKey c.toNat s)) s = some e) ∧ (e < 131072)) ∧
    (∃ (c : CoreId) (v : W32) (e : Nat) (s : State), (v.toNat.testBit 30 = false) ∧ (lookFind (teKey c.toNat s) false s = some e) ∧ ((tag e s).st = 1)) ∧
    (∃ (c : CoreId) (v : W32) (e : Nat) (s : State), (v.toNat.testBit 30 = false) ∧ (lookFind (teKey c.toNat s) false s = some e) ∧ ((tag e s).st = 3) ∧ ((tag e s).covers false (fget v F_BUF_TE_CMD_FIRST) (fget v F_BUF_TE_CMD_LAST) = false)) ∧
    (∃ (c : CoreId) (v : W32) (s : State), (v.toNat.testBit 30 = false) ∧ (lookFind (teKey c.toNat s) false s = none) ∧ (rdEn s = true) ∧ (victim (setOf (teKey c.toNat s)) s = none)) ∧
    (∃ (c : CoreId) (s : State), (lookFind (teKey c.toNat s) false s = none) ∧ (rdEn s = false)) ∧
    (∃ (c : CoreId) (v : W32) (e : Nat) (s : State), (lookFind (teKey c.toNat s) true s = some e) ∧ (wrDraining s = false) ∧ ((tag e s).st = 3) ∧ ((tag e s).covers true (fget v F_BUF_TE_CMD_FIRST) (fget v F_BUF_TE_CMD_LAST) = true)) ∧
    (∃ (c : CoreId) (e : Nat) (s : State), (lookFind (teKey c.toNat s) true s = some e) ∧ (wrDraining s = true) ∧ (((tag e s).st = 3 ∨ (tag e s).st = 4))) ∧
    (∃ (c : CoreId) (e : Nat) (s : State), (lookFind (teKey c.toNat s) true s = none) ∧ (wrEn s = true) ∧ (setWriteLines (setOf (teKey c.toNat s)) s < s.fld BUF_WB_CTL F_BUF_WB_CTL_SET_MAX) ∧ (victim (setOf (teKey c.toNat s)) s = some e) ∧ (e < 131072)) ∧
    (∃ (c : CoreId) (s : State), (lookFind (teKey c.toNat s) true s = none) ∧ (wrEn s = true) ∧ (s.fld BUF_WB_CTL F_BUF_WB_CTL_SET_MAX ≤ setWriteLines (setOf (teKey c.toNat s)) s)) ∧
    (∃ (c : CoreId) (s : State), (lookFind (teKey c.toNat s) true s = none) ∧ (wrEn s = false)) ∧
    (∃ (c : CoreId) (s : State), ((tag (teEntry c.toNat s) s).st = 3) ∧ ((tag (teEntry c.toNat s) s).first ≤ (tag (teEntry c.toNat s) s).last)) ∧
    (∃ (c : CoreId) (s : State), ((tag (teEntry c.toNat s) s).st = 3) ∧ ((tag (teEntry c.toNat s) s).last < (tag (teEntry c.toNat s) s).first)) ∧
    (∃ (c : CoreId) (s : State), ((tag (teEntry c.toNat s) s).st = 4)) ∧
    (∃ (c : CoreId) (s : State), ((tag (teEntry c.toNat s) s).st = 3) ∧ ((tag (teEntry c.toNat s) s).doomed = false)) ∧
    (∃ (c : CoreId) (s : State), ((tag (teEntry c.toNat s) s).st = 2) ∧ ((tag (teEntry c.toNat s) s).doomed = true) ∧ ((tag (teEntry c.toNat s) s).pins = 1)) ∧
    (∃ (c : CoreId) (v : W32) (s : State), ((tag (teEntry c.toNat s) s).st = 1) ∧ ((tag (teEntry c.toNat s) s).merge = false) ∧ ((tag (teEntry c.toNat s) s).doomed = false) ∧ (fget v F_BUF_TE_CMD_STATUS = 0) ∧ (rdEn s = true)) ∧
    (∃ (c : CoreId) (v : W32) (s : State), ((tag (teEntry c.toNat s) s).st = 1) ∧ ((tag (teEntry c.toNat s) s).merge = true) ∧ ((tag (teEntry c.toNat s) s).doomed = false) ∧ (fget v F_BUF_TE_CMD_STATUS = 2)) :=
  ⟨⟨7, 0, (9355 : Nat), F BUF_CLASS_CTL F_BUF_CLASS_CTL_RD_EN 1 ((R.wr (BUF_TE_KEY0 7) 0x00010040).wr (BUF_TE_KEY1 7) 8 |> modTag 9355 (fun _ => { st := 2, key := 0x800010040 })), by decide +kernel⟩,
   ⟨7, 0, (9355 : Nat), setWayState 11 2 (F BUF_CLASS_CTL F_BUF_CLASS_CTL_RD_EN 1 ((R.wr (BUF_TE_KEY0 7) 0x00010040).wr (BUF_TE_KEY1 7) 8)), by decide +kernel⟩,
   ⟨7, 0, (9355 : Nat), F BUF_CLASS_CTL F_BUF_CLASS_CTL_RD_EN 1 ((R.wr (BUF_TE_KEY0 7) 0x00010040).wr (BUF_TE_KEY1 7) 0x5120008 |> modTag 9355 (fun _ => { st := 1, key := 0x800010040 })), by decide +kernel⟩,
   ⟨7, 0, (9355 : Nat), F BUF_CLASS_CTL F_BUF_CLASS_CTL_RD_EN 1 ((R.wr (BUF_TE_KEY0 7) 0x00010040).wr (BUF_TE_KEY1 7) 8 |> modTag 9355 (fun _ => { st := 3, part := true, first := 1, last := 3, key := 0x800010040 })), by decide +kernel⟩,
   ⟨7, 0, F BUF_CLASS_CTL F_BUF_CLASS_CTL_RD_EN 1 R, by decide +kernel⟩,
   ⟨7, R, by decide +kernel⟩,
   ⟨7, 0, (9355 : Nat), (R.wr (BUF_TE_KEY0 7) 0x00010040).wr (BUF_TE_KEY1 7) 8 |> modTag 9355 (fun _ => { st := 3, part := true, first := 1, last := 3, key := 0x800010040 }), by decide +kernel⟩,
   ⟨7, (9355 : Nat), F BUF_CLASS_STATUS F_BUF_CLASS_STATUS_WR_DRAINING 1 ((R.wr (BUF_TE_KEY0 7) 0x00010040).wr (BUF_TE_KEY1 7) 8 |> modTag 9355 (fun _ => { st := 4, first := 1, last := 3, key := 0x800010040 })), by decide +kernel⟩,
   ⟨7, (9355 : Nat), setWayState 11 2 (F BUF_CLASS_CTL F_BUF_CLASS_CTL_WR_EN 1 ((R.wr (BUF_TE_KEY0 7) 0x00010040).wr (BUF_TE_KEY1 7) 8)), by decide +kernel⟩,
   ⟨7, F BUF_WB_CTL F_BUF_WB_CTL_SET_MAX 1 (F BUF_CLASS_CTL F_BUF_CLASS_CTL_WR_EN 1 (modTag 3 (fun _ => { st := 3, part := true, first := 1, last := 3, key := 8192 }) R)), by decide +kernel⟩,
   ⟨7, R, by decide +kernel⟩,
   ⟨7, (R.wr (BUF_TE_KEY0 7) 0x248).wr (BUF_TE_KEY1 7) 11 |> modTag 9355 (fun _ => { st := 3, part := true, first := 1, last := 3, key := 0x800010040 }), by decide +kernel⟩,
   ⟨7, (R.wr (BUF_TE_KEY0 7) 0x248).wr (BUF_TE_KEY1 7) 11 |> modTag 9355 (fun _ => { st := 3, part := true, first := 127, last := 0, key := 0x800010040 }), by decide +kernel⟩,
   ⟨7, (R.wr (BUF_TE_KEY0 7) 0x248).wr (BUF_TE_KEY1 7) 11 |> modTag 9355 (fun _ => { st := 4, first := 1, last := 3, key := 0x800010040 }), by decide +kernel⟩,
   ⟨7, (R.wr (BUF_TE_KEY0 7) 0x248).wr (BUF_TE_KEY1 7) 11 |> modTag 9355 (fun _ => { st := 3, pins := 1, first := 127, last := 0, key := 0x800010040 }), by decide +kernel⟩,
   ⟨7, (R.wr (BUF_TE_KEY0 7) 0x248).wr (BUF_TE_KEY1 7) 11 |> modTag 9355 (fun _ => { st := 2, doomed := true, pins := 1, key := 0x800010040 }), by decide +kernel⟩,
   ⟨7, 0, F BUF_CLASS_CTL F_BUF_CLASS_CTL_RD_EN 1 ((R.wr (BUF_TE_KEY0 7) 0x248).wr (BUF_TE_KEY1 7) 11 |> modTag 9355 (fun _ => { st := 1, pins := 1, waiters := [(7, 3)], key := 0x800010040 })), by decide +kernel⟩,
   ⟨7, 0x01000000, (R.wr (BUF_TE_KEY0 7) 0x248).wr (BUF_TE_KEY1 7) 11 |> modTag 9355 (fun _ => { st := 1, merge := true, part := true, first := 3, last := 9, pins := 1, waiters := [(7, 3)], key := 0x800010040 }), by decide +kernel⟩⟩

/-- States and operands that meet the hypotheses of WriteBackMaintenance, clause by clause. -/
theorem witness_WriteBackMaintenance :
    (∃ (e : Nat) (s : State), (wbNext s = some e) ∧ ((tag e s).takeable = true) ∧ (s.buf.wbq.length < 512)) ∧
    (∃ (set : BitVec 13) (w : Way) (s : State), ((tag (16 * set.toNat + w.toNat) s).takeable = true) ∧ (s.buf.wbq.length < 512)) ∧
    (∃ (set : BitVec 13) (w : Way) (s : State), ((tag (16 * set.toNat + w.toNat) s).takeable = true) ∧ ((tag (16 * set.toNat + w.toNat) s).due = false) ∧ (512 ≤ s.buf.wbq.length)) ∧
    (∃ (s : State), (s.buf.wbq = [])) ∧
    (∃ (e : Nat) (k : Nat) (f : Nat) (l : Nat) (r : List (Nat × Nat × Nat × Nat)) (s : State), (s.buf.wbq = (e, k, f, l) :: r) ∧ (e < 131072) ∧ (f < 128) ∧ (l < 128) ∧ (k < 2 ^ 40)) ∧
    (∃ (c : CoreId) (s : State), (tget [] s.buf.wakes c.toNat = [])) ∧
    (∃ (s : State), (s.buf.raq = [])) ∧
    (∃ (c : CoreId) (k : Nat) (f : _) (r : List (Nat × Bool)) (s : State), (tget [] s.buf.wakes c.toNat = (k, f) :: r) ∧ (k < 2048)) ∧
    (∃ (k : Nat) (c : Nat) (r : List (Nat × Nat)) (s : State), (s.buf.raq = (k, c) :: r) ∧ (c < 4) ∧ (k < 2 ^ 40)) ∧
    (∃ (m : Master), (mayCmd m = true)) ∧
    (∃ (m : Master) (v : W32) (s : State), (mayCmd m = true) ∧ ((tag (16 * fget v F_BUF_WB_DONE_SET + fget v F_BUF_WB_DONE_WAY) s).st = 4) ∧ ((tag (16 * fget v F_BUF_WB_DONE_SET + fget v F_BUF_WB_DONE_WAY) s).pins = 0) ∧ (s.buf.mWait = []) ∧ ((tag (16 * fget v F_BUF_WB_DONE_SET + fget v F_BUF_WB_DONE_WAY) s).doomed = true ∨ (fget v F_BUF_WB_DONE_RESULT = 0 ∧ (tag (16 * fget v F_BUF_WB_DONE_SET + fget v F_BUF_WB_DONE_WAY) s).redirty = false ∧ rdEn s = false))) ∧
    (∃ (m : Master) (v : W32) (s : State), (mayCmd m = true) ∧ ((tag (16 * fget v F_BUF_WB_DONE_SET + fget v F_BUF_WB_DONE_WAY) s).st = 4) ∧ ((tag (16 * fget v F_BUF_WB_DONE_SET + fget v F_BUF_WB_DONE_WAY) s).doomed = false) ∧ (s.buf.mWait = [])) ∧
    (∃ (m : Master) (s : State), (mayCmd m = true) ∧ (s.fld BUF_MAINT_STATUS F_BUF_MAINT_STATUS_BUSY = 1)) ∧
    (∃ (m : Master) (v : W32) (e : Nat × TagLine) (s : State), (mayCmd m = true) ∧ (s.fld BUF_MAINT_STATUS F_BUF_MAINT_STATUS_BUSY = 0) ∧ (s.buf.tags = [e]) ∧ (maintKey s = e.2.key) ∧ (fget v F_BUF_MAINT_CTL_COUNT = 1) ∧ (e.2.doomed = false) ∧ (e.2.drainW = [])) ∧
    (∃ (m : Master) (s : State), (mayCmd m = true) ∧ (s.fld BUF_MAINT_STATUS F_BUF_MAINT_STATUS_BUSY = 0) ∧ (s.buf.tags = [])) ∧
    (∃ (s : State), (s.fld BUF_MAINT_STATUS F_BUF_MAINT_STATUS_BUSY = 1) ∧ (s.buf.mWait = [])) :=
  ⟨⟨(9355 : Nat), modTag 9355 (fun _ => { st := 3, due := true, first := 1, last := 3, key := 0x800010040 }) R, by decide +kernel⟩,
   ⟨584, 11, modTag 9355 (fun _ => { st := 3, first := 1, last := 3, key := 0x800010040 }) R, by decide +kernel⟩,
   ⟨584, 11, modBuf (fun b => { b with wbq := List.replicate 512 (0, 0, 0, 0) }) (modTag 9355 (fun _ => { st := 3, first := 1, last := 3, key := 0x800010040 }) R), by decide +kernel⟩,
   ⟨R, by decide +kernel⟩,
   ⟨(131071 : Nat), (0xFFFFFFFFFF : Nat), (127 : Nat), (127 : Nat), ([] : List (Nat × Nat × Nat × Nat)), modBuf (fun b => { b with wbq := [(131071, 0xFFFFFFFFFF, 127, 127)] }) R, by decide +kernel⟩,
   ⟨7, R, by decide +kernel⟩,
   ⟨R, by decide +kernel⟩,
   ⟨7, (2047 : Nat), true, ([] : List (Nat × Bool)), modBuf (fun b => { b with wakes := [(7, [(2047, true)])] }) R, by decide +kernel⟩,
   ⟨(0xFFFFFFFFFF : Nat), (3 : Nat), ([] : List (Nat × Nat)), modBuf (fun b => { b with raq := [(0xFFFFFFFFFF, 3)] }) R, by decide +kernel⟩,
   ⟨3, by decide +kernel⟩,
   ⟨3, 0x4002C248, F BUF_CLASS_CTL F_BUF_CLASS_CTL_RD_EN 1 (modTag 9355 (fun _ => { st := 4, doomed := true, redirty := true, key := 0x800010040 }) R), by decide +kernel⟩,
   ⟨3, 0x0002C248, F BUF_CLASS_CTL F_BUF_CLASS_CTL_RD_EN 1 (modTag 9355 (fun _ => { st := 4, first := 1, last := 3, key := 0x800010040 }) R), by decide +kernel⟩,
   ⟨3, F BUF_MAINT_STATUS F_BUF_MAINT_STATUS_BUSY 1 R, by decide +kernel⟩,
   ⟨3, 1, ((9355, { st := 3, first := 1, last := 3, key := 0x800010040 }) : Nat × TagLine), (((modTag 9355 (fun _ => { st := 3, first := 1, last := 3, key := 0x800010040 }) R).wr BUF_MAINT_KEY0 0x00010040).wr BUF_MAINT_KEY1 8), by decide +kernel⟩,
   ⟨3, R, by decide +kernel⟩,
   ⟨F BUF_MAINT_STATUS F_BUF_MAINT_STATUS_BUSY 1 (F BUF_CLASS_STATUS F_BUF_CLASS_STATUS_RD_STALE 1 (modBuf (fun b => { b with mOp := 5 }) R)), by decide +kernel⟩⟩

/-- States and operands that meet the hypotheses of ReadClassEnable, clause by clause. -/
theorem witness_ReadClassEnable :
    (∃ (m : Master), (mayCmd m = true)) :=
  ⟨0, by decide +kernel⟩

/-- States and operands that meet the hypotheses of ClassesWaysDram, clause by clause. -/
theorem witness_ClassesWaysDram :
    (∃ (m : Master) (s : State), (mayCmd m = true) ∧ (wrEn s = true) ∧ (s.buf.tags.any (fun x => x.2.dirtyClass) = true)) ∧
    (∃ (m : Master) (s : State), (mayCmd m = true) ∧ (wrEn s = true) ∧ (s.buf.tags = [])) ∧
    (∃ (m : Master), (mayCmd m = true)) ∧
    (∃ (m : Master) (s : State), (mayCmd m = true) ∧ (rdEn s = true)) ∧
    (∃ (m : Master) (w : Way) (s : State), (mayCmd m = true) ∧ (wayState w.toNat s = 2)) ∧
    (∃ (m : Master) (w : Way) (s : State), (mayCmd m = true) ∧ ((s.fld BUF_CFG F_BUF_CFG_RANK1_PRESENT).testBit (w.toNat / 2) = true)) ∧
    (∃ (m : Master) (w : Way) (s : State), (mayCmd m = true) ∧ ((s.fld BUF_CFG F_BUF_CFG_RANK1_PRESENT).testBit (w.toNat / 2) = false)) ∧
    (∃ (w : Way) (s : State), (wayState w.toNat s = 3) ∧ (s.buf.tags.all (fun x => x.1 % 16 != w.toNat) = true)) ∧
    (∃ (w : Way) (s : State), (wayState w.toNat s = 1)) ∧
    (∃ (c : BitVec 3) (req : Byte) (r : Nat × DramCh) (s : State), (slotGive (if (outOn c.toNat s).isEmpty then req else req ||| 2) (tget {} s.dram c.toNat) = r)) ∧
    (∃ (addr : Addr) (s : State), (dramOn addr.toNat s = true) ∧ (dramOn (addr.toNat / 8 * 8) s = true) ∧ (tget (0, 0) s.flips (addr.toNat / 8) = (0, 0))) ∧
    (∃ (set : BitVec 13) (w : Way) (s : State), ((tag (16 * set.toNat + w.toNat) s).st = 0)) ∧
    (∃ (s : State), (s.fld BUF_SCRUB_CTL F_BUF_SCRUB_CTL_EN = 1) ∧ ((s.rd BUF_SCRUB_STATE0).toNat < 2 ^ 30 - 1)) ∧
    (∃ (s : State), (s.fld BUF_SCRUB_CTL F_BUF_SCRUB_CTL_EN = 1) ∧ ((s.rd BUF_SCRUB_STATE0).toNat = 2 ^ 31 - 1)) ∧
    (∃ (addr : Addr) (s : State), (s.fld BUF_FLIPMASK2 F_BUF_FLIPMASK2_ARM = 1) ∧ (dramOn addr.toNat s = true) ∧ (dramChan addr.toNat = s.fld BUF_FLIPMASK2 F_BUF_FLIPMASK2_CH)) :=
  ⟨⟨0, F BUF_CLASS_CTL F_BUF_CLASS_CTL_WR_EN 1 (modTag 9355 (fun _ => { st := 3, key := 0x800010040 }) R), by decide +kernel⟩,
   ⟨0, F BUF_CLASS_CTL F_BUF_CLASS_CTL_WR_EN 1 R, by decide +kernel⟩,
   ⟨0, by decide +kernel⟩,
   ⟨0, F BUF_CLASS_CTL F_BUF_CLASS_CTL_RD_EN 1 (modTag 9355 (fun _ => { st := 2, key := 0x800010040 }) R), by decide +kernel⟩,
   ⟨0, 15, setWayState 15 2 (F BUF_WAY_CTL F_BUF_WAY_CTL_EN 0xFFFF R), by decide +kernel⟩,
   ⟨0, 15, F BUF_CFG F_BUF_CFG_RANK1_PRESENT 0x80 R, by decide +kernel⟩,
   ⟨0, 15, R, by decide +kernel⟩,
   ⟨15, setWayState 15 3 R, by decide +kernel⟩,
   ⟨15, setWayState 15 1 R, by decide +kernel⟩,
   ⟨7, 0, (slotGive 0 {} : Nat × DramCh), R.setCtr (BUF_BW 7 11) (2 ^ 64 - 1), by decide +kernel⟩,
   ⟨0x1FFFFFFFFF, R, by decide +kernel⟩,
   ⟨8191, 15, R, by decide +kernel⟩,
   ⟨R, by decide +kernel⟩,
   ⟨R.wr BUF_SCRUB_STATE0 0x7FFFFFFF, by decide +kernel⟩,
   ⟨0x1000007008, (R.wr BUF_FLIPMASK2 0x80070001).wr BUF_FLIPMASK0 3, by decide +kernel⟩⟩

/-- States and operands that meet the hypotheses of CommandIntake, clause by clause. -/
theorem witness_CommandIntake :
    (∃ (q : BitVec 16) (v : W32) (x : SqSt) (s : State), (barOk s = true) ∧ (sq q.toNat s = some x) ∧ (v.toNat < x.size)) ∧
    (∃ (q : BitVec 16) (v : W32) (x : CqSt) (s : State), (barOk s = true) ∧ (cq q.toNat s = some x) ∧ (v.toNat < x.size)) ∧
    (∃ (s : State), (barOk s = true)) ∧
    (∃ (q : Byte) (t : Tag) (x : SqSt) (s : State), (fetchOk q.toNat t.toNat s = some x)) ∧
    (∃ (q : Byte) (t : Tag) (x : SqSt) (s : State), (fetchOk q.toNat t.toNat s = some x) ∧ (q = 0)) ∧
    (∃ (t : Tag) (x : HTask) (s : State), (task t.toNat s = some x) ∧ (x.st = 0) ∧ (grantable x s = true)) ∧
    (∃ (t : Tag) (x : HTask) (s : State), (task t.toNat s = some x) ∧ (grantable x s = false)) ∧
    (∃ (m : Master) (s : State), (mayCmd m = true) ∧ (s.fld HIF_ACT F_HIF_ACT_HOLD = 1)) ∧
    (∃ (m : Master) (t : Nat) (x : HTask) (s : State), (mayCmd m = true) ∧ (nextTask s = some (t, x)) ∧ (t < 2048) ∧ (x.cls < 4) ∧ (x.sqid < 129)) ∧
    (∃ (t : Nat) (x : HTask) (s : State), (nextTask s = some (t, x))) :=
  ⟨⟨1, 63, ({ cq := 1, prio := 0, size := 64 } : SqSt), setSq 1 (some { cq := 1, prio := 0, size := 64 }) (F PWR_BOOT F_PWR_BOOT_FW_READY 1 R), by decide +kernel⟩,
   ⟨1, 63, ({ vec := 1, ien := true, size := 64 } : CqSt), setCq 1 (some { vec := 1, ien := true, size := 64 }) (F PWR_BOOT F_PWR_BOOT_FW_READY 1 R), by decide +kernel⟩,
   ⟨F PWR_BOOT F_PWR_BOOT_FW_READY 1 R, by decide +kernel⟩,
   ⟨1, 2047, ({ cq := 1, prio := 0, size := 64, tail := 3 } : SqSt), setSq 1 (some { cq := 1, prio := 0, size := 64, tail := 3 }) (modHif (fun h => { h with en := true }) R), by decide +kernel⟩,
   ⟨0, 0, ({ cq := 0, prio := 1, size := 64, tail := 3 } : SqSt), setSq 0 (some { cq := 0, prio := 1, size := 64, tail := 3 }) (modHif (fun h => { h with en := true }) R), by decide +kernel⟩,
   ⟨9, { io 1 0 8 2 with st := 0 }, H 9 { io 1 0 8 2 with st := 0 }, by decide +kernel⟩,
   ⟨9, { io 1 0 8 2 with st := 0, ord := 4 }, H 9 { io 1 0 8 2 with st := 0, ord := 4 } (H 7 (io 2 7 8 1)), by decide +kernel⟩,
   ⟨0, F HIF_ACT F_HIF_ACT_HOLD 1 (H 9 { io 2 0 8 2 with st := 1 }), by decide +kernel⟩,
   ⟨8, (2047 : Nat), { io 2 0 8 2 with st := 1 }, H 2047 { io 2 0 8 2 with st := 1 } (H 3 { adm 6 0 0 with st := 1 }), by decide +kernel⟩,
   ⟨(2047 : Nat), { io 2 0 8 2 with st := 1 }, H 2047 { io 2 0 8 2 with st := 1 } (H 3 { adm 6 0 0 with st := 1 }), by decide +kernel⟩⟩

/-- States and operands that meet the hypotheses of TransfersCompletions, clause by clause. -/
theorem witness_TransfersCompletions :
    (∃ (c : CoreId) (v : W32) (s : State), (presented (fget v F_HIF_XFER3_TAG) s = true) ∧ (s.hif.xfers.length + s.hif.xres.length < 256) ∧ (s.fld (HIF_XFER2 c.toNat) F_HIF_XFER2_COUNT ≠ 0)) ∧
    (∃ (v : W32) (s : State), ((presented (fget v F_HIF_XFER3_TAG) s = false ∨ 256 ≤ s.hif.xfers.length + s.hif.xres.length))) ∧
    (∃ (ix : Byte) (x : HXfer) (s : State), (s.hif.xfers[ix.toNat]? = some x)) ∧
    (∃ (ix : Byte) (data : List Byte) (x : HXfer) (s : State), (s.hif.xfers[ix.toNat]? = some x) ∧ (x.dir = true) ∧ (data.length = 4096 * x.count)) ∧
    (∃ (ix : Byte) (ps : List (BitVec 64)) (x : HXfer) (y : _) (k : Nat) (r : List Nat) (s : State), (s.hif.xfers[ix.toNat]? = some x) ∧ (x.dir = false) ∧ (task x.tag s = some y) ∧ ((List.range x.count).filter (fun k => sectorPoisoned (x.addr + 4096 * k) s) = k :: r) ∧ ((List.range x.count).all (fun k => sectorPoisoned (x.addr + 4096 * k) s || (prpPieces y ps (hostPage s) (4096 * y.nlb) (x.first + k) (s.rdBytes (x.addr + 4096 * k) 4096)).isSome) = true)) ∧
    (∃ (ix : Byte) (ps : List (BitVec 64)) (x : HXfer) (y : _) (l : List (Option (List (Nat × List Byte)))) (s : State), (s.hif.xfers[ix.toNat]? = some x) ∧ (x.dir = false) ∧ (task x.tag s = some y) ∧ ((List.range x.count).any (fun k => sectorPoisoned (x.addr + 4096 * k) s) = false) ∧ ((List.range x.count).map (fun k => prpPieces y ps (hostPage s) (4096 * y.nlb) (x.first + k) (s.rdBytes (x.addr + 4096 * k) 4096)) = l)) ∧
    (∃ (m : Master) (a : Nat) (st : Nat) (n : Nat) (f : Nat) (r : List (Nat × Nat × Nat × Nat)) (s : State), (mayCmd m = true) ∧ (s.hif.xres = (a, st, n, f) :: r) ∧ (a < 2048) ∧ (st < 4) ∧ (n < 1024) ∧ (f < 1024)) ∧
    (∃ (v : W32) (s : State), (presented (fget v F_HIF_CPL2_TAG) s = true)) ∧
    (∃ (v : W32) (s : State), (presented (fget v F_HIF_CPL2_TAG) s = false)) ∧
    (∃ (t : Tag) (c : HCpl) (q : CqSt) (s : State), (cplReady t.toNat s = some (c, q))) ∧
    (∃ (t : Tag) (x : _) (s : State), (s.hif.xfers.any (fun y => y.tag == t.toNat) = true) ∧ (task t.toNat s = some x)) ∧
    (∃ (q : Byte) (x : CqSt) (s : State), (cq q.toNat s = some x) ∧ (x.agg ≠ 0)) ∧
    (∃ (m : Master), (mayCmd m = true)) ∧
    (∃ (m : Master) (s : State), (mayCmd m = true) ∧ (s.fld HIF_ACT F_HIF_ACT_HOLD = 0)) ∧
    (∃ (m : Master) (s : State), (mayCmd m = true) ∧ (s.hif.act = .none)) ∧
    (∃ (r : BitVec 4) (w : BitVec 5) (s : State), (s.plat.perst = false) ∧ (1 ≤ r.toNat) ∧ (r.toNat ≤ 6) ∧ ((w = 1 ∨ w = 4 ∨ w = 8 ∨ w = 16))) ∧
    (∃ (t : Tag) (s : State), (presented t.toNat s = true)) :=
  ⟨⟨7, 0x40000009, F (HIF_XFER2 7) F_HIF_XFER2_COUNT 512 (H 9 (io 1 0 8 2)), by decide +kernel⟩,
   ⟨0x40000009, R, by decide +kernel⟩,
   ⟨0, ({ tag := 9, addr := 0x1000000000, dir := true, first := 0, count := 1 } : HXfer), modHif (fun h => { h with xfers := [{ tag := 9, addr := 0x1000000000, dir := true, first := 0, count := 1 }] }) R, by decide +kernel⟩,
   ⟨0, ubytes, ({ tag := 9, addr := 0x1000000000, dir := true, first := 0, count := 1 } : HXfer), modHif (fun h => { h with xfers := [{ tag := 9, addr := 0x1000000000, dir := true, first := 0, count := 1 }] }) R, by decide +kernel⟩,
   ⟨0, [], ({ tag := 9, addr := 0x1000000000, dir := false, first := 0, count := 2 } : HXfer), iop 9 3 2, (1 : Nat), ([] : List Nat), (modHif (fun h => { h with xfers := [{ tag := 9, addr := 0x1000000000, dir := false, first := 0, count := 2 }] }) (H 9 (iop 9 3 2))).setPoison 0x1000001040 true, by decide +kernel⟩,
   ⟨0, [], ({ tag := 9, addr := 0x1000000000, dir := false, first := 0, count := 1 } : HXfer), iop 9 3 2, ([prpPieces (iop 9 3 2) [] 4096 8192 0 (List.replicate 4096 0)] : List (Option (List (Nat × List Byte)))), (modHif (fun h => { h with xfers := [{ tag := 9, addr := 0x1000000000, dir := false, first := 0, count := 1 }] }) (H 9 (iop 9 3 2))), by decide +kernel⟩,
   ⟨0, (2047 : Nat), (3 : Nat), (1023 : Nat), (511 : Nat), ([] : List (Nat × Nat × Nat × Nat)), modHif (fun h => { h with xres := [(2047, 3, 1023, 511)] }) R, by decide +kernel⟩,
   ⟨0x47850009, H 9 (io 1 0 8 2), by decide +kernel⟩,
   ⟨0x47850009, H 9 { io 1 0 8 2 with st := 1 }, by decide +kernel⟩,
   ⟨9, ({ tag := 9, cq := 1, sqid := 1, sqhd := 3, cid := 5, status := 0, dw0 := 0, dw1 := 0 } : HCpl), ({ vec := 1, ien := true, size := 64, tail := 63, head := 5 } : CqSt), modHif (fun h => { h with cpls := [{ tag := 9, cq := 1, sqid := 1, sqhd := 3, cid := 5, status := 0, dw0 := 0, dw1 := 0 }] }) (setCq 1 (some { vec := 1, ien := true, size := 64, tail := 63, head := 5 }) (H 9 { io 1 0 8 2 with st := 3 })), by decide +kernel⟩,
   ⟨9, io 1 0 8 2, modHif (fun h => { h with xfers := [{ tag := 9, addr := 0x1000000000, dir := true, first := 0, count := 1 }] }) (H 9 (io 1 0 8 2)), by decide +kernel⟩,
   ⟨1, ({ vec := 2039, ien := true, size := 64, agg := 3 } : CqSt), setCq 1 (some { vec := 2039, ien := true, size := 64, agg := 3 }) R, by decide +kernel⟩,
   ⟨0, by decide +kernel⟩,
   ⟨0, F HIF_ACT F_HIF_ACT_HELD 5 R, by decide +kernel⟩,
   ⟨0, F HIF_ACT F_HIF_ACT_HOLD 1 R, by decide +kernel⟩,
   ⟨6, 16, { R with plat := { R.plat with perst := false } }, by decide +kernel⟩,
   ⟨9, H 9 (io 1 0 8 2), by decide +kernel⟩⟩

/-- States and operands that meet the hypotheses of AdminCommands, clause by clause. -/
theorem witness_AdminCommands :
    (∃ (t : Tag) (x : _) (s : State), (Presented t.toNat true 0x05 x s) ∧ ((x.dw 10 % 65536 = 0 ∨ 128 < x.dw 10 % 65536 ∨ (cq (x.dw 10 % 65536) s).isSome = true))) ∧
    (∃ (t : Tag) (x : _) (s : State), (Presented t.toNat true 0x05 x s) ∧ (1 ≤ x.dw 10 % 65536) ∧ (x.dw 10 % 65536 ≤ 128) ∧ (cq (x.dw 10 % 65536) s = none) ∧ (1 ≤ x.dw 10 / 65536) ∧ (x.dw 10 / 65536 ≤ 4095)) ∧
    (∃ (t : Tag) (x : _) (s : State), (Presented t.toNat true 0x01 x s) ∧ (1 ≤ x.dw 10 % 65536) ∧ (x.dw 10 % 65536 ≤ 128) ∧ (sq (x.dw 10 % 65536) s = none) ∧ (1 ≤ x.dw 10 / 65536) ∧ (x.dw 10 / 65536 ≤ 4095) ∧ (x.dw 11 / 65536 ≠ 0) ∧ ((cq (x.dw 11 / 65536) s).isSome = true) ∧ (x.dw 11 % 2 = 1)) ∧
    (∃ (t : Tag) (x : _) (y : SqSt) (s : State), (Presented t.toNat true 0x00 x s) ∧ (sq (x.dw 10 % 65536) s = some y) ∧ (x.dw 10 % 65536 ≠ 0) ∧ ((tasksOf s).all (fun z => z.2.sqid != x.dw 10 % 65536) = true)) ∧
    (∃ (t : Tag) (x : _) (y : SqSt) (z : Nat) (w : _) (s : State), (Presented t.toNat true 0x00 x s) ∧ (sq (x.dw 10 % 65536) s = some y) ∧ (x.dw 10 % 65536 ≠ 0) ∧ ((tasksOf s).filter (fun e => e.2.sqid == x.dw 10 % 65536 && e.2.st != 3) = [(z, w)]) ∧ (task z s = some w) ∧ (z ≠ t.toNat)) ∧
    (∃ (t : Tag) (x : _) (y : CqSt) (s : State), (Presented t.toNat true 0x04 x s) ∧ (cq (x.dw 10 % 65536) s = some y) ∧ (x.dw 10 % 65536 ≠ 0) ∧ (s.hif.sqs = [])) ∧
    (∃ (t : Tag) (x : _) (s : State), (task t.toNat s = some x) ∧ (x.st = 2) ∧ (x.admin = true) ∧ (x.op = 0x02) ∧ (x.odd = false)) ∧
    (∃ (t : Tag) (x : _) (s : State), (task t.toNat s = some x) ∧ (x.st = 2) ∧ (x.admin = true) ∧ (x.op = 0x06) ∧ (x.odd = false) ∧ (x.dw 10 % 256 = 0x01)) ∧
    (∃ (t : Tag) (x : _) (s : State), (task t.toNat s = some x) ∧ (x.st = 2) ∧ (x.admin = true) ∧ (x.op = 0x08) ∧ (x.odd = false)) ∧
    (∃ (t : Tag) (x : HTask) (s : State), (task t.toNat s = some x) ∧ (x.st = 2) ∧ (x.admin = true) ∧ (x.op = 0x08) ∧ (x.odd = true)) ∧
    (∃ (t : Tag) (x : _) (s : State), (Presented t.toNat true 0x09 x s) ∧ (x.dw 10 % 256 = 0x07)) ∧
    (∃ (t : Tag) (x : _) (s : State), (Presented t.toNat true 0x09 x s) ∧ (x.dw 10 % 256 = 0x01)) ∧
    (∃ (t : Tag) (x : _) (s : State), (Presented t.toNat true 0x09 x s) ∧ (x.dw 10 % 256 ∉ [0x01, 0x02, 0x04, 0x06, 0x07, 0x08, 0x09, 0x0B, 0x0E])) ∧
    (∃ (t : Tag) (x : _) (s : State), (task t.toNat s = some x) ∧ (x.st = 2) ∧ (x.admin = true) ∧ (x.op = 0x0A) ∧ (x.odd = false)) ∧
    (∃ (t : Tag) (x : _) (s : State), (Presented t.toNat true 0x09 x s) ∧ (x.dw 10 % 256 = 0x06)) ∧
    (∃ (t : Tag) (ms : BitVec 64) (x : _) (s : State), (Presented t.toNat true 0x09 x s) ∧ (x.dw 10 % 256 = 0x0E) ∧ (s.sdl.now < 2 ^ 64) ∧ (ms.toNat < 2 ^ 44)) ∧
    (∃ (t : Tag) (x : _) (s : State), (task t.toNat s = some x) ∧ (x.st = 2) ∧ (x.admin = true) ∧ (x.op = 0x0A) ∧ (x.odd = false) ∧ (x.dw 10 % 256 = 0x0E)) ∧
    (∃ (t : Tag) (x : _) (s : State), (task t.toNat s = some x) ∧ (x.st = 2) ∧ (x.admin = true) ∧ (x.op = 0x0C) ∧ (x.odd = false) ∧ (t.toNat ∉ s.hif.aers)) ∧
    (∃ (t : Tag) (x : _) (s : State), (task t.toNat s = some x) ∧ (x.st = 2) ∧ (x.admin = true) ∧ (x.op = 0x09) ∧ (s.hif.sanit.isSome = true)) :=
  ⟨⟨9, adm 5 0x3F0081 3, H 9 (adm 5 0x3F0081 3), by decide +kernel⟩,
   ⟨9, adm 5 0xFFF0080 0x7F70003, H 9 (adm 5 0xFFF0080 0x7F70003), by decide +kernel⟩,
   ⟨9, adm 1 0xFFF0080 0x10005, setCq 1 (some { vec := 1, ien := true, size := 64 }) (H 9 (adm 1 0xFFF0080 0x10005)), by decide +kernel⟩,
   ⟨9, adm 0 1 0, ({ cq := 1, prio := 0, size := 64 } : SqSt), setSq 1 (some { cq := 1, prio := 0, size := 64 }) (H 9 (adm 0 1 0)), by decide +kernel⟩,
   ⟨9, adm 0 1 0, ({ cq := 1, prio := 0, size := 64 } : SqSt), (10 : Nat), io 2 0 8 1, setSq 1 (some { cq := 1, prio := 0, size := 64 }) (H 9 (adm 0 1 0) (H 10 (io 2 0 8 1))), by decide +kernel⟩,
   ⟨9, adm 4 1 0, ({ vec := 1, ien := true, size := 64 } : CqSt), setCq 1 (some { vec := 1, ien := true, size := 64 }) (H 9 (adm 4 1 0)), by decide +kernel⟩,
   ⟨9, adm 2 0x3F0006 0, H 9 (adm 2 0x3F0006 0), by decide +kernel⟩,
   ⟨9, adm 6 1 0, H 9 (adm 6 1 0), by decide +kernel⟩,
   ⟨9, adm 8 0x50001 0, H 9 (adm 8 0x50001 0) (H 10 (io 2 0 8 1)), by decide +kernel⟩,
   ⟨9, { adm 8 0 0 with sqe := [0x00054108] }, H 9 { adm 8 0 0 with sqe := [0x00054108] }, by decide +kernel⟩,
   ⟨9, adm 9 7 0x00010001, H 9 (adm 9 7 0x00010001), by decide +kernel⟩,
   ⟨9, adm 9 1 0x08040203, H 9 (adm 9 1 0x08040203), by decide +kernel⟩,
   ⟨9, adm 9 0x0F 0, H 9 (adm 9 0x0F 0), by decide +kernel⟩,
   ⟨9, adm 0x0A 1 0, H 9 (adm 0x0A 1 0), by decide +kernel⟩,
   ⟨9, adm 9 6 1, H 9 (adm 9 6 1), by decide +kernel⟩,
   ⟨9, 1780000000000, adm 9 0x0E 0, { H 9 (adm 9 0x0E 0) with sdl := { R.sdl with now := 123456789 } }, by decide +kernel⟩,
   ⟨9, adm 0x0A 0x0E 0, H 9 (adm 0x0A 0x0E 0), by decide +kernel⟩,
   ⟨9, adm 0x0C 0 0, modHif (fun h => { h with aers := [1,2,3,4,5,6,7] }) (H 9 (adm 0x0C 0 0)), by decide +kernel⟩,
   ⟨9, adm 9 1 0x08040203, modHif (fun h => { h with sanit := some { passes := 1, pattern := 0, invert := false } }) (H 9 (adm 9 1 0x08040203)), by decide +kernel⟩⟩

/-- States and operands that meet the hypotheses of NamespaceFirmware, clause by clause. -/
theorem witness_NamespaceFirmware :
    (∃ (t : Tag) (d : List Byte) (x : _) (s : State), (Presented t.toNat true 0x0D x s) ∧ (x.dw 10 % 16 = 0) ∧ (x.dw 11 / 2 ^ 24 = 0) ∧ (fieldOf d 8 8 = fieldOf d 0 8) ∧ (fieldOf d 26 1 = 0) ∧ (fieldOf d 0 8 ≠ 0)) ∧
    (∃ (t : Tag) (x : _) (n : _) (s : State), (Presented t.toNat true 0x0D x s) ∧ (x.dw 10 % 16 = 1) ∧ (x.nsid ≠ 0xFFFFFFFF) ∧ (nsAt x.nsid s = some n)) ∧
    (∃ (t : Tag) (d : List Byte) (x : _) (n : _) (s : State), (Presented t.toNat true 0x15 x s) ∧ (x.dw 10 % 16 = 0) ∧ (nsAt x.nsid s = some n) ∧ (fieldOf d 0 2 = 1) ∧ (fieldOf d 2 2 = 0) ∧ (n.attached = false)) ∧
    (∃ (t : Tag) (d : List Byte) (x : _) (s : State), (Presented t.toNat true 0x11 x s) ∧ (d.length = 4 * (x.dw 10 + 1)) ∧ (4 * x.dw 11 + d.length ≤ 12324864) ∧ (s.hif.image = [])) ∧
    (∃ (t : Tag) (x : _) (s : State), (Presented t.toNat true 0x10 x s) ∧ (x.dw 10 / 8 % 8 < 3) ∧ (fwBusy s = false) ∧ (1 ≤ x.dw 10 % 8) ∧ (x.dw 10 % 8 ≤ 2) ∧ (s.hif.runSlot = some (x.dw 10 % 8 - 1))) ∧
    (∃ (t : Tag) (x : _) (s : State), (Presented t.toNat true 0x10 x s) ∧ (x.dw 10 / 8 % 8 < 3) ∧ (fwBusy s = true)) ∧
    (∃ (t : Tag) (x : _) (k : Nat) (s : State), (Presented t.toNat true 0x10 x s) ∧ (x.dw 10 / 8 % 8 = 2) ∧ (fwBusy s = false) ∧ (x.dw 10 % 8 ≤ 2) ∧ (fwSlot (x.dw 10 % 8) s = k) ∧ (s.hif.runSlot ≠ some k) ∧ (slotBootable k s = true) ∧ ((actBlank k s).isSome = true)) ∧
    (∃ (t : Tag) (x : _) (k : Nat) (s : State), (Presented t.toNat true 0x10 x s) ∧ (x.dw 10 / 8 % 8 < 2) ∧ (fwBusy s = false) ∧ (x.dw 10 % 8 ≤ 2) ∧ (fwSlot (x.dw 10 % 8) s = k) ∧ (s.hif.runSlot ≠ some k) ∧ (s.domOn 105 = true) ∧ (s.sec.verify = none)) ∧
    (∃ (t : Tag) (x : _) (s : State), (Presented t.toNat true 0x10 x s) ∧ (x.dw 10 / 8 % 8 = 3) ∧ (s.hif.act = .none) ∧ (fwBusy s = false) ∧ (1 ≤ x.dw 10 % 8) ∧ (x.dw 10 % 8 ≤ 2) ∧ (s.hif.runSlot ≠ some (x.dw 10 % 8 - 1)) ∧ (slotBootable (x.dw 10 % 8 - 1) s = false)) ∧
    (∃ (t : Tag) (x : _) (s : State), (Presented t.toNat true 0x10 x s) ∧ (x.dw 10 / 8 % 8 = 3) ∧ (s.hif.act = .none) ∧ (fwBusy s = false) ∧ (1 ≤ x.dw 10 % 8) ∧ (x.dw 10 % 8 ≤ 2) ∧ (s.hif.runSlot ≠ some (x.dw 10 % 8 - 1)) ∧ (slotBootable (x.dw 10 % 8 - 1) s = true)) ∧
    (∃ (k : Nat) (j : Nat) (s : State), (s.hif.act = .drain k j) ∧ (drained k s = true)) ∧
    (∃ (k : Nat) (j : Nat) (x : _) (s : State), (s.hif.act = .drain k j) ∧ (task k s = some x)) ∧
    (∃ (k : Nat) (j : Nat) (s : State), (s.hif.act = .fresh k j)) ∧
    (∃ (t : Tag) (x : _) (s : State), (Presented t.toNat true 0x81 x s) ∧ (x.dw 10 / 2 ^ 24 ≠ 0xE8) ∧ (x.dw 10 / 2 ^ 24 ≠ 0x00)) ∧
    (∃ (t : Tag) (x : _) (s : State), (Presented t.toNat true 0x81 x s) ∧ (x.dw 10 / 2 ^ 24 = 0xE8 ∨ x.dw 10 / 2 ^ 24 = 0x00)) ∧
    (∃ (t : Tag) (x : _) (s : State), (Presented t.toNat true 0x82 x s) ∧ (x.dw 10 / 2 ^ 24 = 0)) ∧
    (∃ (t : Tag) (x : _) (s : State), (Presented t.toNat true 0x84 x s) ∧ (x.dw 10 % 8 ≠ 3)) ∧
    (∃ (t : Tag) (x : _) (s : State), (Presented t.toNat true 0x84 x s) ∧ (x.dw 10 % 8 = 3) ∧ (s.buf.tags = [])) ∧
    (∃ (j : SanJob) (s : State), (s.hif.sanit = some j)) :=
  ⟨⟨9, leBytes 1 8 ++ leBytes 1 8 ++ List.replicate 3120 0, adm 0x0D 0 0, H 9 (adm 0x0D 0 0), by decide +kernel⟩,
   ⟨9, adm 0x0D 1 0 1, ns1, NS ns1 (H 9 (adm 0x0D 1 0 1)), by decide +kernel⟩,
   ⟨9, [1, 0, 0, 0], adm 0x15 0 0 1, { ns1 with attached := false }, NS { ns1 with attached := false } (H 9 (adm 0x15 0 0 1)), by decide +kernel⟩,
   ⟨9, [1, 2, 3, 4], adm 0x11 0 5, H 9 (adm 0x11 0 5), by decide +kernel⟩,
   ⟨9, adm 0x10 9 0, modHif (fun h => { h with runSlot := some 0 }) (H 9 (adm 0x10 9 0)), by decide +kernel⟩,
   ⟨9, adm 0x10 9 0, modHif (fun h => { h with commit := some 3 }) (H 9 (adm 0x10 9 0)), by decide +kernel⟩,
   ⟨9, adm 0x10 0x12 0, (1 : Nat), VM 1 (modHif (fun h => { h with runSlot := some 0 }) (H 9 (adm 0x10 0x12 0))), by decide +kernel⟩,
   ⟨9, adm 0x10 9 0, (0 : Nat), modHif (fun h => { h with runSlot := some 1 }) (H 9 (adm 0x10 9 0)), by decide +kernel⟩,
   ⟨9, adm 0x10 0x1A 0, modHif (fun h => { h with runSlot := some 0 }) (H 9 (adm 0x10 0x1A 0)), by decide +kernel⟩,
   ⟨9, adm 0x10 0x1A 0, VM 1 (modHif (fun h => { h with runSlot := some 0 }) (H 9 (adm 0x10 0x1A 0))), by decide +kernel⟩,
   ⟨(9 : Nat), (1 : Nat), modHif (fun h => { h with act := .drain 9 1 }) (H 9 (adm 0x10 0x1A 0)), by decide +kernel⟩,
   ⟨(9 : Nat), (1 : Nat), adm 0x10 0x1A 0, F HIF_ACT F_HIF_ACT_HOLD 1 (modHif (fun h => { h with act := .drain 9 1 }) (H 9 (adm 0x10 0x1A 0))), by decide +kernel⟩,
   ⟨(9 : Nat), (1 : Nat), modHif (fun h => { h with act := .fresh 9 1 }) (H 9 (adm 0x10 0x1A 0)), by decide +kernel⟩,
   ⟨9, adm 0x81 0x01000000 0, H 9 (adm 0x81 0x01000000 0), by decide +kernel⟩,
   ⟨9, adm 0x81 0xE8000000 0, H 9 (adm 0x81 0xE8000000 0), by decide +kernel⟩,
   ⟨9, adm 0x82 0 0, H 9 (adm 0x82 0 0), by decide +kernel⟩,
   ⟨9, adm 0x84 2 0, H 9 (adm 0x84 2 0), by decide +kernel⟩,
   ⟨9, adm 0x84 0x103 0xDEADBEEF, H 9 (adm 0x84 0x103 0xDEADBEEF), by decide +kernel⟩,
   ⟨({ passes := 16, pattern := 0, invert := false, pass := 16 } : SanJob), modHif (fun h => { h with sanit := some { passes := 16, pattern := 0, invert := false, pass := 16 } }) R, by decide +kernel⟩⟩

/-- States and operands that meet the hypotheses of IoCommands, clause by clause. -/
theorem witness_IoCommands :
    (∃ (t : Tag) (x : _) (s : State), (Presented t.toNat false 0x00 x s) ∧ (wrEn s = false)) ∧
    (∃ (t : Tag) (x : _) (s : State), (Presented t.toNat false 0x00 x s) ∧ (wrEn s = true) ∧ (s.buf.cleaned = x.cleans) ∧ (s.buf.cleans = x.cleans) ∧ (s.fld BUF_MAINT_STATUS F_BUF_MAINT_STATUS_BUSY = 0)) ∧
    (∃ (t : Tag) (x : _) (s : State), (Presented t.toNat false 0x00 x s) ∧ (wrEn s = true) ∧ (x.cleans < s.buf.cleaned)) ∧
    (∃ (t : Tag) (x : _) (n : _) (s : State), (Presented t.toNat false 0x02 x s) ∧ (nsAt x.nsid s = some n) ∧ (n.attached = true) ∧ (n.nsze < x.lba + x.nlb)) ∧
    (∃ (t : Tag) (r : Slot) (x : _) (n : _) (s : State), (Presented t.toNat false 0x02 x s) ∧ (nsAt x.nsid s = some n) ∧ (n.attached = true) ∧ (x.lba + x.nlb ≤ n.nsze) ∧ (x.nlb ≤ 512) ∧ ((liveRuns n x.lba x.nlb).any (fun r => rangeLost x.nsid r.1 r.2 s) = true)) ∧
    (∃ (t : Tag) (x : HTask) (n : _) (l : List (Nat × Nat)) (s : State), (Presented t.toNat false 0x02 x s) ∧ (nsAt x.nsid s = some n) ∧ (n.attached = true) ∧ (x.lba + x.nlb ≤ n.nsze) ∧ (x.nlb ≤ 512) ∧ (l = liveRuns n x.lba x.nlb) ∧ (l.any (fun r => rangeLost x.nsid r.1 r.2 s) = false) ∧ ((x.fua && l.any (fun r => rangeDirty x.nsid r.1 r.2 s)) = false) ∧ (l.all (fun r => rangeHits x.nsid r.1 r.2 s) = false)) ∧
    (∃ (t : Tag) (r : Slot) (x : HTask) (n : _) (s : State), (Presented t.toNat false 0x02 x s) ∧ (nsAt x.nsid s = some n) ∧ (n.attached = true) ∧ (x.lba + x.nlb ≤ n.nsze) ∧ (x.nlb ≤ 512) ∧ ((liveRuns n x.lba x.nlb = [] ∨ ((liveRuns n x.lba x.nlb).any (fun l => rangeLost x.nsid l.1 l.2 s) = false ∧ (x.fua && (liveRuns n x.lba x.nlb).any (fun l => rangeDirty x.nsid l.1 l.2 s)) = false ∧ (liveRuns n x.lba x.nlb).all (fun l => rangeHits x.nsid l.1 l.2 s) = true))) ∧ (x.allMoved = true) ∧ (r.toNat % 4 ≠ 3)) ∧
    (∃ (t : Tag) (x : HTask) (n : _) (s : State), (Presented t.toNat false 0x02 x s) ∧ (nsAt x.nsid s = some n) ∧ (n.attached = true) ∧ (x.lba + x.nlb ≤ n.nsze) ∧ (x.nlb ≤ 512) ∧ (x.fua = true) ∧ ((liveRuns n x.lba x.nlb).any (fun l => rangeLost x.nsid l.1 l.2 s) = false) ∧ ((liveRuns n x.lba x.nlb).any (fun l => rangeDirty x.nsid l.1 l.2 s) = true)) ∧
    (∃ (t : Tag) (x : HTask) (n : _) (s : State), (Presented t.toNat false 0x05 x s) ∧ (nsAt x.nsid s = some n) ∧ (n.attached = true) ∧ (x.lba + x.nlb ≤ n.nsze) ∧ (x.nlb ≤ 512) ∧ ((liveRuns n x.lba x.nlb).any (fun l => rangeLost x.nsid l.1 l.2 s) = false) ∧ ((x.fua && (liveRuns n x.lba x.nlb).any (fun l => rangeDirty x.nsid l.1 l.2 s)) = false) ∧ ((liveRuns n x.lba x.nlb).all (fun l => rangeHits x.nsid l.1 l.2 s) = true)) ∧
    (∃ (t : Tag) (x : HTask) (n : _) (s : State), (Presented t.toNat false 0x0C x s) ∧ (nsAt x.nsid s = some n) ∧ (n.attached = true) ∧ (x.lba + x.nlb ≤ n.nsze) ∧ (liveRuns n x.lba x.nlb ≠ []) ∧ ((liveRuns n x.lba x.nlb).any (fun l => rangeLost x.nsid l.1 l.2 s) = false) ∧ ((liveRuns n x.lba x.nlb).any (fun l => rangeIsolated n l.1 l.2 s) = false) ∧ ((liveRuns n x.lba x.nlb).any (fun l => rangeUnready n l.1 l.2 s) = false) ∧ ((liveRuns n x.lba x.nlb).any (fun l => rangeHeld n l.1 l.2 s) = false)) ∧
    (∃ (t : Tag) (x : HTask) (n : _) (e : Nat × Nat) (s : State), (Presented t.toNat false 0x01 x s) ∧ (nsAt x.nsid s = some n) ∧ (n.attached = true) ∧ (x.lba + x.nlb ≤ n.nsze) ∧ (x.nlb ≤ 512) ∧ (x.bad = some e) ∧ (e.1 < 8) ∧ (e.2 < 256)) ∧
    (∃ (t : Tag) (x : _) (n : _) (s : State), (Presented t.toNat false 0x01 x s) ∧ (nsAt x.nsid s = some n) ∧ (n.attached = true) ∧ (x.lba + x.nlb ≤ n.nsze) ∧ (x.nlb ≤ 512) ∧ (x.bad = none)) ∧
    (∃ (t : Tag) (x : HTask) (n : _) (s : State), (Presented t.toNat false 0x01 x s) ∧ (nsAt x.nsid s = some n) ∧ (n.attached = true) ∧ (x.lba + x.nlb ≤ n.nsze) ∧ (x.nlb ≤ 512) ∧ (x.bad = none) ∧ (s.hif.lost.length < 4096) ∧ (rangeIsolated n x.lba x.nlb s = false) ∧ (rangeUnready n x.lba x.nlb s = false) ∧ (toMedia x s = true) ∧ (allWritten x s = false)) ∧
    (∃ (t : Tag) (x : _) (y : _) (n : _) (s : State), (Presented t.toNat false 0x08 x s) ∧ (nsAt x.nsid s = some n) ∧ (n.attached = true) ∧ (x.lba + x.nlb ≤ n.nsze) ∧ (x.bad = none) ∧ (s.hif.lost.length < 4096) ∧ (rangeIsolated n x.lba x.nlb s = false) ∧ (rangeUnready n x.lba x.nlb s = false) ∧ (rangeHeld n x.lba x.nlb s = false) ∧ (task t.toNat (each (linesOf x.lba x.nlb) (zeroLine t.toNat) s) = some y) ∧ (y.allMoved = true) ∧ (toMedia y (each (linesOf x.lba x.nlb) (zeroLine t.toNat) s) = false)) ∧
    (∃ (t : Nat) (x : _) (l : Nat) (r : Nat × Option Nat × State) (e : Nat) (s : State), (task t s = some x) ∧ (x.movedBlock (linePart x l).1 = false) ∧ (x.waits = none) ∧ ((∀ w ∈ s.buf.setW, w.2 ≠ (0, t))) ∧ (r.1 = 1 ∨ r.1 = 3) ∧ (r.2.1 = some e) ∧ (lookup { key := lineKey x.nsid l, first := partFirst x.lba l, last := partFirst x.lba l + (linePart x l).2 - 1, core := 0, task := t, write := true, ra := false } s = r) ∧ (0 < (linePart x l).2)) ∧
    (∃ (t : Tag) (x : _) (n : _) (s : State), (Presented t.toNat false 0x09 x s) ∧ (nsAt x.nsid s = some n) ∧ (n.attached = true)) ∧
    (∃ (t : Tag) (x : HTask) (n : _) (s : State), (Presented t.toNat false 0x7D x s) ∧ (nsAt x.nsid s = some n) ∧ (n.attached = true) ∧ (n.zoned = true) ∧ (x.dw 10 + x.dw 11 * 2 ^ 32 < n.nsze) ∧ ((x.dw 10 + x.dw 11 * 2 ^ 32) % n.zsize = 0) ∧ (x.nlb ≤ 512) ∧ (x.bad = none) ∧ (s.hif.lost.length < 4096) ∧ (rangeIsolated n x.lba x.nlb s = false) ∧ (rangeUnready n x.lba x.nlb s = false) ∧ (rangeHeld n x.lba x.nlb s = false) ∧ (x.allMoved = true) ∧ (toMedia x s = false)) ∧
    (∃ (t : Tag) (x : _) (n : NsSt) (s : State), (Presented t.toNat false 0x79 x s) ∧ (nsAt x.nsid s = some n) ∧ (n.attached = true) ∧ (n.zoned = true) ∧ ((x.dw 13).testBit 8 = false) ∧ (x.dw 10 + x.dw 11 * 2 ^ 32 < n.nsze) ∧ ((x.dw 10 + x.dw 11 * 2 ^ 32) % n.zsize = 0) ∧ (rangeIsolated n (x.dw 10 + x.dw 11 * 2 ^ 32) (n.zcap ((x.dw 10 + x.dw 11 * 2 ^ 32) / n.zsize)) s = false) ∧ (rangeUnready n (x.dw 10 + x.dw 11 * 2 ^ 32) (n.zcap ((x.dw 10 + x.dw 11 * 2 ^ 32) / n.zsize)) s = false) ∧ (rangeHeld n (x.dw 10 + x.dw 11 * 2 ^ 32) (n.zcap ((x.dw 10 + x.dw 11 * 2 ^ 32) / n.zsize)) s = false)) ∧
    (∃ (t : Tag) (x : _) (n : _) (s : State), (Presented t.toNat false 0x7A x s) ∧ (nsAt x.nsid s = some n) ∧ (n.attached = true) ∧ (n.zoned = true) ∧ (x.dw 13 % 256 = 0) ∧ (x.dw 10 + x.dw 11 * 2 ^ 32 < n.nsze)) ∧
    (∃ (t : Tag) (x : _) (s : State), (task t.toNat s = some x) ∧ (x.st = 2) ∧ (s.hif.sanit = none) ∧ (supported x = false) ∧ ((x.admin = true ∨ x.op ≠ 0x79))) ∧
    (∃ (t : Tag) (x : _) (s : State), (task t.toNat s = some x) ∧ (x.st = 2) ∧ (x.admin = false) ∧ (x.op = 0x01) ∧ (s.hif.sanit.isSome = true)) ∧
    (∃ (n : _) (lba : Nat) (nlb : Nat), (zoneEntry n false lba nlb = none)) :=
  ⟨⟨9, io 0 0 1 0, H 9 (io 0 0 1 0), by decide +kernel⟩,
   ⟨9, io 0 0 1 0, F BUF_CLASS_CTL F_BUF_CLASS_CTL_WR_EN 1 (H 9 (io 0 0 1 0)), by decide +kernel⟩,
   ⟨9, io 0 0 1 0, F BUF_CLASS_CTL F_BUF_CLASS_CTL_WR_EN 1 (modBuf (fun b => { b with cleaned := 1, cleans := 1 }) (H 9 (io 0 0 1 0))), by decide +kernel⟩,
   ⟨9, io 2 524287 2 1, ns1, NS ns1 (H 9 (io 2 524287 2 1)), by decide +kernel⟩,
   ⟨9, 0, io 2 0 8 1, ns1, modHif (fun h => { h with lost := [(1, 7, 1)] }) (NS ns1 (H 9 (io 2 0 8 1))), by decide +kernel⟩,
   ⟨9, { io 2 0 8 1 with moved := [(3, 5), (0, 3)] }, ns1, ([(0, 8)] : List (Nat × Nat)), sp 9 5 (NS ns1 (H 9 { io 2 0 8 1 with moved := [(3, 5), (0, 3)] })), by decide +kernel⟩,
   ⟨9, 0, { io 2 131072 8 1 with moved := [(0, 8)] }, ns1 true, NS (ns1 true) (H 9 { io 2 131072 8 1 with moved := [(0, 8)] }), by decide +kernel⟩,
   ⟨9, { io 2 0 1 1 0 (2 ^ 30) with moved := [(0, 1)] }, ns1, F BUF_CLASS_CTL F_BUF_CLASS_CTL_RD_EN 1 (modTag 0 (fun _ => { st := 3, key := 0, first := 0, last := 127 }) (NS ns1 (H 9 { io 2 0 1 1 0 (2 ^ 30) with moved := [(0, 1)] }))), by decide +kernel⟩,
   ⟨9, { io 5 0 1 1 with moved := [(0, 1)] }, ns1, F BUF_CLASS_CTL F_BUF_CLASS_CTL_RD_EN 1 (modTag 0 (fun _ => { st := 2, key := 0 }) (NS ns1 (H 9 { io 5 0 1 1 with moved := [(0, 1)] }))), by decide +kernel⟩,
   ⟨9, { io 0x0C 0 2 1 with media := [(0, 0), (1, 0)] }, ns1, sp 9 5 (NS ns1 (H 9 { io 0x0C 0 2 1 with media := [(0, 0), (1, 0)] })), by decide +kernel⟩,
   ⟨9, { io 1 0 8 2 with bad := some (1, 0xB8) }, ns1, ((1, 0xB8) : Nat × Nat), NS ns1 (H 9 { io 1 0 8 2 with bad := some (1, 0xB8) }), by decide +kernel⟩,
   ⟨9, io 1 0 8 2, ns1, NS ns1 (H 9 (io 1 0 8 2)), by decide +kernel⟩,
   ⟨9, { io 1 0 1 2 with moved := [(0, 1)], media := [(0, 2)] }, ns1, modTag 0 (fun _ => { st := 3, first := 0, last := 3, key := 0 }) (sp 9 5 (NS ns1 (H 9 { io 1 0 1 2 with moved := [(0, 1)], media := [(0, 2)] }))), by decide +kernel⟩,
   ⟨9, io 8 127 1 2, { io 8 127 1 2 with moved := [(0, 1)] }, ns1, F BUF_CLASS_CTL F_BUF_CLASS_CTL_WR_EN 1 (onWays (sp 9 5 (NS ns1 (H 9 (io 8 127 1 2))))), by decide +kernel⟩,
   ⟨(9 : Nat), io 8 126 4 2, (1 : Nat), (lookup { key := lineKey 1 1, first := 0, last := 1, core := 0, task := 9, write := true, ra := false } (F BUF_CLASS_CTL F_BUF_CLASS_CTL_WR_EN 1 (onWays (H 9 (io 8 126 4 2)))) : Nat × Option Nat × State), ((lookup { key := lineKey 1 1, first := 0, last := 1, core := 0, task := 9, write := true, ra := false } (F BUF_CLASS_CTL F_BUF_CLASS_CTL_WR_EN 1 (onWays (H 9 (io 8 126 4 2))))).2.1.getD 0 : Nat), F BUF_CLASS_CTL F_BUF_CLASS_CTL_WR_EN 1 (onWays (H 9 (io 8 126 4 2))), ⟨by decide +kernel, by decide +kernel, by decide +kernel, by decide +kernel, by decide +kernel, by decide +kernel, rfl, by decide +kernel⟩⟩,
   ⟨9, io 9 0 8 0, ns1, NS ns1 (H 9 (io 9 0 8 0)), by decide +kernel⟩,
   ⟨9, { io 0x7D 131072 8 2 with lba := 131080, moved := [(0, 8)] }, ns1 true, F BUF_CLASS_CTL F_BUF_CLASS_CTL_WR_EN 1 (sp 9 5 (NS (ns1 true) (H 9 { io 0x7D 131072 8 2 with lba := 131080, moved := [(0, 8)] }))), by decide +kernel⟩,
   ⟨9, io 0x79 131072 8 2 1, ({ ns1 true with zones := [(1, 1, 5)] } : NsSt), sp 9 5 (NS { ns1 true with zones := [(1, 1, 5)] } (H 9 (io 0x79 131072 8 2 1))), by decide +kernel⟩,
   ⟨9, io 0x7A 0 1024 0, ns1 true, NS (ns1 true) (H 9 (io 0x7A 0 1024 0)), by decide +kernel⟩,
   ⟨9, io 0x04 0 1 0, H 9 (io 0x04 0 1 0), by decide +kernel⟩,
   ⟨9, io 1 0 1 0, modHif (fun h => { h with sanit := some { passes := 1, pattern := 0, invert := false } }) (H 9 (io 1 0 1 0)), by decide +kernel⟩,
   ⟨ns1 true, (131072 : Nat), (8 : Nat), by decide +kernel⟩⟩

/-- States and operands that meet the hypotheses of KioskChannels, clause by clause. -/
theorem witness_KioskChannels :
    (∃ (m : Master) (ch : Chan) (e : Bool), (ownsEnd m.toNat ch.toNat (b2n e) = false)) ∧
    (∃ (m : Master) (ch : Chan) (e : Bool) (s : State), (ownsEnd m.toNat ch.toNat (b2n e) = true) ∧ (endInReset ch.toNat (b2n e) s = false) ∧ (endInReset ch.toNat (1 - b2n e) s = false) ∧ (16 ≤ kwords (kq ch.toNat (1 - b2n e) s))) ∧
    (∃ (m : Master) (ch : Chan) (e : Bool) (s : State), (ownsEnd m.toNat ch.toNat (b2n e) = true) ∧ (endInReset ch.toNat (b2n e) s = false) ∧ (endInReset ch.toNat (1 - b2n e) s = false) ∧ (kwords (kq ch.toNat (1 - b2n e) s) < 16)) ∧
    (∃ (m : Master) (ch : Chan) (e : Bool) (s : State), (ownsEnd m.toNat ch.toNat (b2n e) = true) ∧ (endInReset ch.toNat (b2n e) s = false) ∧ (endInReset ch.toNat (1 - b2n e) s = true) ∧ (s.rd (KSK_DISC ch.toNat (b2n e)) ≠ 0xFFFFFFFF)) ∧
    (∃ (m : Master) (ch : Chan) (e : Bool), (ownsEnd m.toNat ch.toNat (b2n e) = false)) ∧
    (∃ (ch : Chan) (e : Bool) (s : State), (kq ch.toNat (b2n e) s = [])) ∧
    (∃ (m : Master) (ch : Chan) (e : Bool) (w : _) (q : List KItem) (s : State), (ownsEnd m.toNat ch.toNat (b2n e) = true) ∧ (kq ch.toNat (b2n e) s = .word w :: q)) ∧
    (∃ (m : Master) (ch : Chan) (e : Bool) (n : _) (q : List KItem) (s : State), (ownsEnd m.toNat ch.toNat (b2n e) = true) ∧ (kq ch.toNat (b2n e) s = .marker n :: q) ∧ (n < 2 ^ 16)) ∧
    (∃ (m : Master) (ch : Chan) (e : Bool), (ownsEnd m.toNat ch.toNat (b2n e) = true)) ∧
    (∃ (h : HeldReply) (r : List HeldReply) (s : State), (s.replies = h :: r) ∧ (h.toEnd ≤ 1) ∧ (kwords (kq h.chan h.toEnd s) + h.words.length ≤ 16) ∧ (endInReset h.chan 0 s = false) ∧ (endInReset h.chan 1 s = false)) ∧
    (∃ (s : State), ((∀ h ∈ s.replies, 16 < kwords (kq h.chan h.toEnd s) + h.words.length))) ∧
    (∃ (n : Nat) (q : List KItem), (KItem.marker n ∈ q)) :=
  ⟨⟨3, 8, true, by decide +kernel⟩,
   ⟨1, 8, true, U (kqs 8 0 (List.replicate 16 (.word 3))), by decide +kernel⟩,
   ⟨1, 8, true, U (R), by decide +kernel⟩,
   ⟨0, 3, false, U ({ R with plat := { R.plat with perst := true } }), by decide +kernel⟩,
   ⟨3, 8, true, by decide +kernel⟩,
   ⟨8, true, R, by decide +kernel⟩,
   ⟨1, 8, true, 5, ([] : List KItem), kqs 8 1 [.word 5], by decide +kernel⟩,
   ⟨1, 8, true, 2, ([KItem.word 6] : List KItem), kqs 8 1 [.marker 2, .word 6], by decide +kernel⟩,
   ⟨1, 8, true, by decide +kernel⟩,
   ⟨({ chan := 3, toEnd := 1, words := [1, 2] } : HeldReply), ([] : List HeldReply), U ({ R with replies := [{ chan := 3, toEnd := 1, words := [1, 2] }] }), by decide +kernel⟩,
   ⟨{ kqs 3 1 (List.replicate 15 (.word 0)) with replies := [{ chan := 3, toEnd := 1, words := [1, 2] }] }, by decide +kernel⟩,
   ⟨(4 : Nat), ([KItem.word 3, KItem.marker 4] : List KItem), by decide +kernel⟩⟩

/-- States and operands that meet the hypotheses of StileLocks, clause by clause. -/
theorem witness_StileLocks :
    (∃ (m : Master) (ix : Lock) (s : State), (m.toNat < 8) ∧ ((lockAt ix.toNat s).held = false)) ∧
    (∃ (m : Master) (ix : Lock) (s : State), (m.toNat < 8) ∧ ((lockAt ix.toNat s).held = true)) ∧
    (∃ (m : Master), (8 ≤ m.toNat)) ∧
    (∃ (m : Master) (ix : Lock) (s : State), ((lockAt ix.toNat s).held = true) ∧ ((lockAt ix.toNat s).owner = m.toNat)) ∧
    (∃ (m : Master) (ix : Lock) (s : State), (((lockAt ix.toNat s).held = false ∨ (lockAt ix.toNat s).owner ≠ m.toNat))) ∧
    (∃ (m : Master) (ix : Lock) (s : State), (m.toNat ≠ 9) ∧ ((lockAt ix.toNat s).held = true)) ∧
    (∃ (m : Master) (ix : Lock) (s : State), (m.toNat ≠ 9) ∧ ((lockAt ix.toNat s).held = false)) :=
  ⟨⟨3, 9, setStile 9 { held := false, broken := true, owner := 0 } R, by decide +kernel⟩,
   ⟨3, 9, setStile 9 { held := true, broken := true, owner := 3 } R, by decide +kernel⟩,
   ⟨11, by decide +kernel⟩,
   ⟨3, 9, setStile 9 { held := true, broken := true, owner := 3 } R, by decide +kernel⟩,
   ⟨4, 9, setStile 9 { held := true, broken := true, owner := 3 } R, by decide +kernel⟩,
   ⟨4, 9, setStile 9 { held := true, broken := false, owner := 3 } R, by decide +kernel⟩,
   ⟨4, 9, R, by decide +kernel⟩⟩

/-- States and operands that meet the hypotheses of DmaChannels, clause by clause. -/
theorem witness_DmaChannels :
    (∃ (m : Master) (n : DmaCh) (s : State), ((m.toNat = 9 ∨ dmaBusy n.toNat s = true))) ∧
    (∃ (m : Master) (n : DmaCh) (v : W32) (s : State), (m.toNat ≠ 9) ∧ (dmaBusy n.toNat s = false) ∧ (fget v F_DMA_CTL_MODE = 3)) ∧
    (∃ (m : Master) (n : DmaCh) (v : W32) (s : State), (m.toNat ≠ 9) ∧ (dmaBusy n.toNat s = false) ∧ (fget v F_DMA_CTL_MODE ≤ 2) ∧ (dmaKOk (fget v F_DMA_CTL_SRC_K) = true) ∧ (dmaKOk (fget v F_DMA_CTL_DST_K) = true) ∧ ((fget v F_DMA_CTL_DST_K ≠ 0 ∧ dmaDst n.toNat s % 2 ^ fget v F_DMA_CTL_DST_K ≠ 0))) ∧
    (∃ (m : Master) (n : DmaCh) (v : W32) (s : State), (m.toNat ≠ 9) ∧ (dmaBusy n.toNat s = false) ∧ (fget v F_DMA_CTL_MODE ≤ 2) ∧ (fget v F_DMA_CTL_SRC_K = 0) ∧ (fget v F_DMA_CTL_DST_K = 0) ∧ (dmaRange s false (dmaDst n.toNat s) (s.rd (DMA_COUNT n.toNat)).toNat = false)) ∧
    (∃ (m : Master) (n : DmaCh) (v : W32) (s : State), (m.toNat ≠ 9) ∧ (dmaBusy n.toNat s = false) ∧ (fget v F_DMA_CTL_MODE = 0) ∧ (fget v F_DMA_CTL_SRC_K = 0) ∧ (fget v F_DMA_CTL_DST_K = 0) ∧ (8 ≤ (s.rd (DMA_COUNT n.toNat)).toNat) ∧ ((s.rd (DMA_COUNT n.toNat)).toNat % 8 = 0) ∧ (dmaSrc n.toNat s % 8 = 0) ∧ (dmaDst n.toNat s % 8 = 0) ∧ (dmaRange s true (dmaSrc n.toNat s) (s.rd (DMA_COUNT n.toNat)).toNat = true) ∧ (dmaRange s false (dmaDst n.toNat s) (s.rd (DMA_COUNT n.toNat)).toNat = true)) ∧
    (∃ (m : Master) (n : DmaCh) (s : State), (m.toNat ≠ 9) ∧ (dmaBusy n.toNat s = true)) ∧
    (∃ (s : State), ((∀ n, n < 64 → dmaBusy n s = false))) ∧
    (∃ (s : State) (n : Nat) (len : Nat), (dmaTurn s = some n) ∧ (s.fld (DMA_CTL n) F_DMA_CTL_MODE = 1) ∧ ((s.rd (DMA_DONE_BYTES n)).toNat < (s.rd (DMA_COUNT n)).toNat) ∧ ((s.rd (DMA_DONE_BYTES n)).toNat % 8 = 0) ∧ (len = dmaLenAt n 1 (s.rd (DMA_DONE_BYTES n)).toNat ((s.rd (DMA_COUNT n)).toNat - (s.rd (DMA_DONE_BYTES n)).toNat) s)) ∧
    (∃ (s : State) (n : Nat) (len : Nat), (dmaTurn s = some n) ∧ (s.fld (DMA_CTL n) F_DMA_CTL_MODE = 0) ∧ ((s.rd (DMA_DONE_BYTES n)).toNat < (s.rd (DMA_COUNT n)).toNat) ∧ (len = dmaLenAt n 0 (s.rd (DMA_DONE_BYTES n)).toNat ((s.rd (DMA_COUNT n)).toNat - (s.rd (DMA_DONE_BYTES n)).toNat) s) ∧ (dmaIndet n (s.rd (DMA_DONE_BYTES n)).toNat len s = false)) ∧
    (∃ (s : State) (n : Nat) (len : Nat), (dmaTurn s = some n) ∧ (s.fld (DMA_CTL n) F_DMA_CTL_MODE = 0) ∧ (len = dmaLenAt n 0 (s.rd (DMA_DONE_BYTES n)).toNat ((s.rd (DMA_COUNT n)).toNat - (s.rd (DMA_DONE_BYTES n)).toNat) s) ∧ (dmaIndet n (s.rd (DMA_DONE_BYTES n)).toNat len s = true)) ∧
    (∃ (s : State) (n : Nat) (off : Nat) (p : _), (dmaTurn s = some n) ∧ (s.fld (DMA_CTL n) F_DMA_CTL_MODE = 2) ∧ (s.rd (DMA_DONE_BYTES n) = 0) ∧ (8 ≤ (s.rd (DMA_COUNT n)).toNat) ∧ (dmaDiff n s 0 = some (off, p))) ∧
    (∃ (s : State) (n : Nat), (dmaTurn s = some n) ∧ (s.fld (DMA_CTL n) F_DMA_CTL_MODE = 2) ∧ (s.rd (DMA_DONE_BYTES n) = 0) ∧ (s.rd (DMA_COUNT n) = 8) ∧ (dmaDiff n s 0 = none)) :=
  ⟨⟨0, 5, dmb 5 0 0x20000000 0x20001000 64, by decide +kernel⟩,
   ⟨0, 5, 0x80000003, dm 5 0 0x20000000 0x20001000 64, by decide +kernel⟩,
   ⟨0, 5, 0x80300000, dm 5 0 0x20000000 0x20000100 64, by decide +kernel⟩,
   ⟨0, 5, 0x80000000, dm 5 0 0x20000000 0x207FFFC8 64, by decide +kernel⟩,
   ⟨0, 5, 0x80000000, dm 5 0 0x10000000 0x207FFFC0 64, by decide +kernel⟩,
   ⟨0, 5, dmb 5 0 0x20000000 0x20001000 64, by decide +kernel⟩,
   ⟨R, by decide +kernel⟩,
   ⟨((dmb 5 1 0 0x20001008 64).wr (DMA_FILL_LO 5) 0x11223344).wr (DMA_FILL_HI 5) 0x55667788, (5 : Nat), (56 : Nat), by decide +kernel⟩,
   ⟨((dmb 5 0 0x20000000 0x20000010 24).wrBytes 0x20000000 [1, 2, 3, 4, 5, 6, 7, 8, 9, 10, 11, 12, 13, 14, 15, 16, 17, 18, 19, 20]).setPoison 0x20000000 true, (5 : Nat), (24 : Nat), by decide +kernel⟩,
   ⟨modNvs (fun n => { n with indet := [(0, true)] }) (dmb 5 0 0x10000000 0x20000010 24), (5 : Nat), (24 : Nat), by decide +kernel⟩,
   ⟨(dmb 5 2 0x20000000 0x20000010 24).wrByte 0x20000003 7, (5 : Nat), (0 : Nat), false, by decide +kernel⟩,
   ⟨dmb 5 2 0x20000000 0x20000010 8, (5 : Nat), by decide +kernel⟩⟩

/-- States and operands that meet the hypotheses of ManagementMessages, clause by clause. -/
theorem witness_ManagementMessages :
    (∃ (ch : Chan) (s : State), (Serves ch s) ∧ (ReplyRoom ch.toNat 1 6 s)) ∧
    (∃ (ch : Chan) (s : State), (ch.toNat < 8) ∧ (s.fld PWR_BOOT F_PWR_BOOT_RECOVERY = 0) ∧ (msgBusy ch.toNat s = true)) ∧
    (∃ (ch : Chan) (s : State), (Serves ch s) ∧ (ReplyRoom ch.toNat 1 6 s)) ∧
    (∃ (ch : Chan) (n : Nat) (s : State), (Serves ch s) ∧ (0 < n) ∧ (ReplyRoom ch.toNat 1 2 s)) ∧
    (∃ (ch : Chan) (w : W32) (s : State), (Serves ch s) ∧ (ReplyRoom ch.toNat 1 2 s) ∧ ((1 ≤ w.toNat ∧ w.toNat ≤ 16))) ∧
    (∃ (ch : Chan) (w : W32) (s : State), (Serves ch s) ∧ (ReplyRoom ch.toNat 1 2 s) ∧ ((w.toNat < 1 ∨ 16 < w.toNat))) ∧
    (∃ (ch : Chan) (s : State), (Serves ch s) ∧ (ReplyRoom ch.toNat 1 2 s)) ∧
    (∃ (ch : Chan) (l : List W32) (s : State), (Serves ch s) ∧ (l.length ≤ 13) ∧ (ReplyRoom ch.toNat 1 (l.length + 2) s)) ∧
    (∃ (ch : Chan) (op : Byte) (s : State), (Serves ch s) ∧ (knownOp ch.toNat op.toNat = false) ∧ (ReplyRoom ch.toNat 1 2 s)) ∧
    (∃ (ch : Chan) (op : Byte) (s : State), (36 ≤ ch.toNat) ∧ (ch.toNat < 44) ∧ (ghRunning s = true) ∧ (Turn ch.toNat s) ∧ (knownOp ch.toNat op.toNat = false) ∧ (ReplyRoom ch.toNat 0 2 s)) ∧
    (∃ (ch : Chan) (seq : Seq) (w : W32) (h : Nat) (s : State), (Serves ch s) ∧ (w.toNat % 2 ^ 16 = 2 ^ h) ∧ (hdaOps h s = true) ∧ ((∀ j ∈ s.hif.jobs, ¬ (j.chan = ch.toNat ∧ j.seq = seq.toNat ∧ j.op = 3)))) ∧
    (∃ (h : Nat) (j : HJob) (s : State), (j.op = 3) ∧ (j.at h = 0) ∧ (hdaOps h s = false)) ∧
    (∃ (h : Nat) (j : HJob) (s : State), (j.at h = 1) ∧ (hdaDirty h s = [])) ∧
    (∃ (h : Nat) (j : HJob) (s : State), (j.at h = 1) ∧ (hdaDirty h s ≠ []) ∧ ((hdaDirty h s).all (fun e => lineStuck e.2.key s) = true)) ∧
    (∃ (h : Nat) (j : HJob) (s : State), (j.at h = 2) ∧ (hdaLoaded h s = false)) ∧
    (∃ (ch : Chan) (w : W32) (h : Nat) (a : Nat) (s : State), (Serves ch s) ∧ (w.toNat % 2 ^ 16 = 2 ^ h) ∧ (h < 16) ∧ ((actsOf h).find? (fun a => !s.domOn a) = some a) ∧ (a < 64) ∧ (s.fld PWR_DOM_RESULT F_PWR_DOM_RESULT_BUSY = 0)) ∧
    (∃ (h : Nat) (j : HJob) (s : State), (j.at h = 0) ∧ ((∀ a ∈ actsOf h, s.domOn a = true)) ∧ (atSpeed h s = false)) ∧
    (∃ (ch : Chan) (w : W32) (s : State), (Serves ch s) ∧ (ReplyRoom ch.toNat 1 3 s) ∧ (w.toNat % 2 ^ 16 = s.fld BUF_WAY_CTL F_BUF_WAY_CTL_EN) ∧ ((∀ k, k < 16 → w.toNat.testBit k = true → wayState k s = 2))) ∧
    (∃ (ch : Chan) (w : W32) (p : Nat) (r : _) (s : State), (Serves ch s) ∧ (wayPairs (w.toNat % 2 ^ 16) (s.fld BUF_WAY_CTL F_BUF_WAY_CTL_EN) = (p, false) :: r)) ∧
    (∃ (ch : Chan), (8 ≤ ch.toNat) ∧ (ch.toNat < 36)) :=
  ⟨⟨2, U (sp 9 5), by decide +kernel⟩,
   ⟨2, { R with replies := [{ chan := 2, toEnd := 1, words := [1, 2] }] }, by decide +kernel⟩,
   ⟨2, U (sp 9 5), by decide +kernel⟩,
   ⟨2, 1, U (R), by decide +kernel⟩,
   ⟨2, (16 : W32), U (R), by decide +kernel⟩,
   ⟨2, (17 : W32), U (R), by decide +kernel⟩,
   ⟨2, U (R), by decide +kernel⟩,
   ⟨2, ([5, 6] : List W32), U (R), by decide +kernel⟩,
   ⟨2, 0x77, U (R), by decide +kernel⟩,
   ⟨37, 0x77, U (F GH_ID F_GH_ID_RUNNING 1 R), by decide +kernel⟩,
   ⟨2, 7, (0x200 : W32), (9 : Nat), modSeq 38 (fun q => { q with ops := [{ slot := 1, cls := 0 }] }) R, by decide +kernel⟩,
   ⟨(9 : Nat), ({ chan := 0, seq := 0, op := 3, named := [9] } : HJob), R, by decide +kernel⟩,
   ⟨(9 : Nat), ({ chan := 0, seq := 0, op := 3, named := [9], phase := [(9, 1)] } : HJob), R, by decide +kernel⟩,
   ⟨(9 : Nat), ({ chan := 0, seq := 0, op := 3, named := [9], phase := [(9, 1)] } : HJob), setActState 38 7 (NS ns1 (modTag 0 (fun _ => { st := 3, first := 0, last := 3, key := 0 }) R)), by decide +kernel⟩,
   ⟨(9 : Nat), ({ chan := 0, seq := 0, op := 3, named := [9], phase := [(9, 2)] } : HJob), sp 9 5, by decide +kernel⟩,
   ⟨2, (0x200 : W32), (9 : Nat), (37 : Nat), R.setDom 37 false, by decide +kernel⟩,
   ⟨(9 : Nat), ({ chan := 0, seq := 0, op := 4, named := [9] } : HJob), R, by decide +kernel⟩,
   ⟨2, (0 : W32), U (F BUF_WAY_CTL F_BUF_WAY_CTL_EN 0 R), by decide +kernel⟩,
   ⟨2, (0xFF : W32), (7 : Nat), ((List.range 3).map (fun k => (6 - k, false)) ++ (List.range 4).map (fun k => (k, true))), F BUF_WAY_CTL F_BUF_WAY_CTL_EN 0xFF00 R, by decide +kernel⟩,
   ⟨9, by decide +kernel⟩⟩

/-- States and operands that meet the hypotheses of NvCommands, clause by clause. -/
theorem witness_NvCommands :
    (∃ (m : Master), (m.toNat = 9)) ∧
    (∃ (m : Master) (s : State), (m.toNat ≠ 9) ∧ (s.domOn 104 = false)) ∧
    (∃ (m : Master) (s : State), (m.toNat ≠ 9) ∧ (s.domOn 104 = true) ∧ (s.nvs.prog.isSome = true)) ∧
    (∃ (m : Master) (v : W32) (s : State), (m.toNat ≠ 9) ∧ (s.domOn 104 = true) ∧ (nvRunning s = false) ∧ (nvOpen m (nvSector (fget v F_NVS_CMD_ADDR)) s = false)) ∧
    (∃ (m : Master) (v : W32) (s : State), (m.toNat ≠ 9) ∧ (s.domOn 104 = true) ∧ (nvRunning s = false) ∧ (nvOpen m (nvSector (fget v F_NVS_CMD_ADDR)) s = true) ∧ (fget v F_NVS_CMD_ADDR % 32 ≠ 0)) ∧
    (∃ (m : Master) (v : W32) (s : State), (m.toNat ≠ 9) ∧ (s.domOn 104 = true) ∧ (nvRunning s = false) ∧ (nvOpen m (nvSector (fget v F_NVS_CMD_ADDR)) s = true) ∧ (fget v F_NVS_CMD_ADDR % 32 = 0) ∧ (nvIndet (nvSector (fget v F_NVS_CMD_ADDR)) s = true)) ∧
    (∃ (m : Master) (v : W32) (s : State), (m.toNat ≠ 9) ∧ (s.domOn 104 = true) ∧ (nvRunning s = false) ∧ (nvOpen m (nvSector (fget v F_NVS_CMD_ADDR)) s = true) ∧ (fget v F_NVS_CMD_ADDR % 32 = 0) ∧ (nvIndet (nvSector (fget v F_NVS_CMD_ADDR)) s = false) ∧ (nvBlank s (fget v F_NVS_CMD_ADDR) 32 = false)) ∧
    (∃ (m : Master) (v : W32) (s : State), (m.toNat ≠ 9) ∧ (s.domOn 104 = true) ∧ (nvRunning s = false) ∧ (nvOpen m (nvSector (fget v F_NVS_CMD_ADDR)) s = true) ∧ (fget v F_NVS_CMD_ADDR % 32 = 0) ∧ (nvIndet (nvSector (fget v F_NVS_CMD_ADDR)) s = false) ∧ (nvBlank s (fget v F_NVS_CMD_ADDR) 32 = true)) ∧
    (∃ (off : Nat) (l : List Byte) (s : State), (s.nvs.prog = some (off, l))) ∧
    (∃ (m : Master) (v : W32) (s : State), (m.toNat ≠ 9) ∧ (s.domOn 104 = true) ∧ (nvRunning s = false) ∧ (nvOpen m (nvSector (fget v F_NVS_CMD_ADDR)) s = true) ∧ ((bankErase (bankOf (nvSector (fget v F_NVS_CMD_ADDR))) s).isSome = true)) ∧
    (∃ (m : Master) (v : W32) (s : State), (m.toNat ≠ 9) ∧ (s.domOn 104 = true) ∧ (nvRunning s = false) ∧ (nvOpen m (nvSector (fget v F_NVS_CMD_ADDR)) s = true) ∧ (bankErase (bankOf (nvSector (fget v F_NVS_CMD_ADDR))) s = none) ∧ (s.nvs.commit = none) ∧ (s.nvs.jold = false)) ∧
    (∃ (m : Master) (v : W32) (s : State), (m.toNat ≠ 9) ∧ (s.domOn 104 = true) ∧ (nvRunning s = false) ∧ (nvOpen m (nvSector (fget v F_NVS_CMD_ADDR)) s = true) ∧ (bankErase (bankOf (nvSector (fget v F_NVS_CMD_ADDR))) s = none) ∧ (s.nvs.commit = none) ∧ (s.nvs.jold = true)) ∧
    (∃ (par : Bool) (e : NvErase) (s : State), (bankErase (b2n par) s = some e) ∧ (eraseHeld e s = false) ∧ (e.begun = true) ∧ (e.direct = true) ∧ (e.sector < 152) ∧ (s.ice.erase = none)) ∧
    (∃ (par : Bool) (e : NvErase) (s : State), (bankErase (b2n par) s = some e) ∧ ((eraseHeld e s = true ∨ e.begun = false))) ∧
    (∃ (m : Master) (e : NvErase) (s : State), (m.toNat ≠ 9) ∧ (s.domOn 104 = true) ∧ (s.nvs.prog = none) ∧ (bankErase 0 s = some e) ∧ (e.susp = false) ∧ (bankErase 1 s = none)) ∧
    (∃ (m : Master) (e : NvErase) (s : State), (m.toNat ≠ 9) ∧ (s.domOn 104 = true) ∧ (s.nvs.prog = none) ∧ (bankErase 0 s = some e) ∧ (e.susp = true) ∧ (bankErase 1 s = none)) ∧
    (∃ (m : Master) (s : State), (m.toNat ≠ 9) ∧ (s.domOn 104 = true) ∧ (s.nvs.prog = none) ∧ (bankErase 0 s = none) ∧ (bankErase 1 s = none)) ∧
    (∃ (m : Master) (v : W32) (s : State), (m.toNat ≠ 9) ∧ (s.domOn 104 = true) ∧ (nvRunning s = false) ∧ (nvOpen m (nvSector (fget v F_NVS_CMD_ADDR)) s = true)) ∧
    (∃ (m : Master) (off : BitVec 25) (ecc : Slot) (s : State), (m.toNat < 9) ∧ (s.domOn 104 = true) ∧ (ecc.toNat < 2) ∧ (nvBadGran off.toNat s = false) ∧ (nvIndet (nvSector off.toNat) s = false) ∧ (nvWsOk s = true) ∧ (s.nvs.prog = none) ∧ (s.nvs.recw = none) ∧ (s.nvs.commit = none)) ∧
    (∃ (m : Master) (off : BitVec 25) (ecc : Slot) (s : State), (m.toNat < 9) ∧ (s.domOn 104 = true) ∧ (ecc.toNat < 2) ∧ (nvBadGran off.toNat s = false) ∧ (nvIndet (nvSector off.toNat) s = false) ∧ (nvWsOk s = false) ∧ (s.nvs.prog = none) ∧ (s.nvs.recw = none) ∧ (s.nvs.commit = none)) ∧
    (∃ (m : Master) (off : BitVec 25) (s : State), (m.toNat < 9) ∧ (s.domOn 104 = true) ∧ (nvIndet (nvSector off.toNat) s = false) ∧ (s.nvs.prog = none) ∧ (s.nvs.recw = none) ∧ (s.nvs.commit = none)) ∧
    (∃ (m : Master) (off : BitVec 25) (p : Nat × List Byte) (s : State), (m.toNat < 9) ∧ (s.domOn 104 = true) ∧ (s.nvs.prog = some p) ∧ (p.2.length ≤ 32) ∧ (p.1 % 32 = 0) ∧ (planeOf (nvSector p.1) = planeOf (nvSector off.toNat)) ∧ (s.nvs.recw = none) ∧ (s.nvs.commit = none)) ∧
    (∃ (m : Master) (off : BitVec 25) (s : State), (m.toNat < 8) ∧ (s.domOn 104 = true) ∧ (s.nvs.prog = none) ∧ (s.nvs.recw = none) ∧ (s.nvs.commit = none) ∧ (nvBadGran off.toNat s = false) ∧ (nvIndet (nvSector off.toNat) s = true)) :=
  ⟨⟨9, by decide +kernel⟩,
   ⟨0, R.setDom 104 false, by decide +kernel⟩,
   ⟨0, modNvs (fun n => { n with prog := some (0, []) }) R, by decide +kernel⟩,
   ⟨0, 0x1E00000, R, by decide +kernel⟩,
   ⟨0, 0x1B00004, R, by decide +kernel⟩,
   ⟨0, 0x1B00020, modNvs (fun n => { n with indet := [(108, true)] }) R, by decide +kernel⟩,
   ⟨0, 0x1B00020, R.wrNv 0x1B00021 0x7F, by decide +kernel⟩,
   ⟨0, 0x1B00020, R, by decide +kernel⟩,
   ⟨(0x1B00020 : Nat), ([1, 2, 3] : List Byte), modNvs (fun n => { n with prog := some (0x1B00020, [1, 2, 3]) }) R, by decide +kernel⟩,
   ⟨0, 0x1B00020, setErase 0 (some { sector := 100, susp := true }) R, by decide +kernel⟩,
   ⟨0, 0x1B00020, modNvs (fun n => { n with erases := [(108, 100000)] }) R, by decide +kernel⟩,
   ⟨0, 0x1B00020, modNvs (fun n => { n with jold := true }) R, by decide +kernel⟩,
   ⟨false, ({ sector := 108 } : NvErase), (setErase 0 (some { sector := 108 }) R).wrNv 0x1B00021 0x7F, by decide +kernel⟩,
   ⟨false, ({ sector := 108, susp := true } : NvErase), setErase 0 (some { sector := 108, susp := true }) R, by decide +kernel⟩,
   ⟨0, ({ sector := 108 } : NvErase), setErase 0 (some { sector := 108 }) R, by decide +kernel⟩,
   ⟨0, ({ sector := 108, susp := true } : NvErase), setErase 0 (some { sector := 108, susp := true }) R, by decide +kernel⟩,
   ⟨0, R, by decide +kernel⟩,
   ⟨0, 0x1B00000, R, by decide +kernel⟩,
   ⟨0, 0x1B00020, 1, F NVS_WS F_NVS_WS_WS 23 (R.wrNv 0x1B00021 0x7F), by decide +kernel⟩,
   ⟨0, 0x1B00020, 1, F NVS_WS F_NVS_WS_WS 4 (F CLK_FABRIC F_CLK_FABRIC_FREQ 1 R), by decide +kernel⟩,
   ⟨0, 0x1B00020, R, by decide +kernel⟩,
   ⟨0, 0x1B00024, ((0x1B00020, [1, 2, 3]) : Nat × List Byte), modNvs (fun n => { n with prog := some (0x1B00020, [1, 2, 3]) }) R, by decide +kernel⟩,
   ⟨0, 0x1B00020, modNvs (fun n => { n with indet := [(108, true)] }) R, by decide +kernel⟩⟩

/-- States and operands that meet the hypotheses of RecordsCommits, clause by clause. -/
theorem witness_RecordsCommits :
    (∃ (m : Master) (s : State), (m.toNat ≠ 9) ∧ (s.domOn 104 = true) ∧ (s.nvs.recw.isSome = true)) ∧
    (∃ (m : Master) (v : W32) (s : State), (m.toNat ≠ 9) ∧ (s.domOn 104 = true) ∧ (s.nvs.recw = none) ∧ ((recOf (fget v F_NVS_REC_CTL_ID) s = none ∨ (recOf (fget v F_NVS_REC_CTL_ID) s).map Prod.snd = some 0))) ∧
    (∃ (m : Master) (v : W32) (p : Nat) (len : Nat) (i : Nat) (s : State), (m.toNat ≠ 9) ∧ (s.domOn 104 = true) ∧ (s.nvs.recw = none) ∧ (recOf (fget v F_NVS_REC_CTL_ID) s = some (p, len)) ∧ (0 < len) ∧ (len ≤ 240) ∧ (4 * (i + 1) ≤ len)) ∧
    (∃ (m : Master) (v : W32) (s : State), (m.toNat ≠ 9) ∧ (s.domOn 104 = true) ∧ (s.nvs.recw = none) ∧ (s.nvs.next < 256) ∧ (fget v F_NVS_REC_CTL_LEN ≤ 240) ∧ (inOldest (fget v F_NVS_REC_CTL_ID) s = false) ∧ (parFree s ≤ parAged s)) ∧
    (∃ (m : Master) (v : W32) (s : State), (m.toNat ≠ 9) ∧ (s.domOn 104 = true) ∧ (s.nvs.recw = none) ∧ (s.nvs.next < 256) ∧ (fget v F_NVS_REC_CTL_LEN ≤ 240) ∧ ((inOldest (fget v F_NVS_REC_CTL_ID) s = true ∨ parAged s < parFree s))) ∧
    (∃ (m : Master) (v : W32) (s : State), (m.toNat ≠ 9) ∧ (s.domOn 104 = true) ∧ (s.nvs.recw = none) ∧ (240 < fget v F_NVS_REC_CTL_LEN)) ∧
    (∃ (m : Master) (v : W32) (s : State), (m.toNat ≠ 9) ∧ (s.domOn 104 = true) ∧ (s.nvs.recw = none) ∧ (fget v F_NVS_REC_CTL_LEN ≤ 240) ∧ (256 ≤ s.nvs.next) ∧ ((bankErase 1 s).isSome = true)) ∧
    (∃ (id : Nat) (p : List Byte) (s : State), (s.nvs.recw = some (id, p)) ∧ (s.nvs.recHold = false) ∧ (nvIndet (120 + s.nvs.head) s = false) ∧ (id < 1024) ∧ (p.length ≤ 240)) ∧
    (∃ (id : Nat) (p : List Byte) (s : State), (s.nvs.recw = some (id, p)) ∧ (s.nvs.recHold = false) ∧ (nvIndet (120 + s.nvs.head) s = false)) ∧
    (∃ (m : Master) (s : State), (m.toNat ≠ 9) ∧ (s.domOn 104 = true) ∧ (s.nvs.commit.isSome = true)) ∧
    (∃ (m : Master) (s : State), (m.toNat ≠ 9) ∧ (s.domOn 104 = true) ∧ (s.nvs.commit = none) ∧ (commitArgs (commitSrc s) (s.fld NVS_COMMIT_LEN F_NVS_COMMIT_LEN_BYTES) = false)) ∧
    (∃ (m : Master) (s : State), (m.toNat ≠ 9) ∧ (s.domOn 104 = true) ∧ (s.nvs.commit = none) ∧ (commitArgs (commitSrc s) (s.fld NVS_COMMIT_LEN F_NVS_COMMIT_LEN_BYTES) = true)) ∧
    (∃ (m : Master) (slot : Bool) (s : State), (m.toNat ≠ 9) ∧ (s.domOn 104 = true) ∧ (s.nvs.commit = none) ∧ (slotBootable (b2n slot) s = false)) ∧
    (∃ (m : Master) (slot : Bool) (s : State), (m.toNat ≠ 9) ∧ (s.domOn 104 = true) ∧ (s.nvs.commit = none) ∧ (slotBootable (b2n slot) s = true) ∧ ((actBlank (b2n slot) s).isSome = true)) ∧
    (∃ (k : Nat) (a : Nat) (n : Nat) (i : Nat) (s : State), (s.nvs.commit = some (k, 2, a, n)) ∧ (s.nvs.cpos.step = 6) ∧ (k < 2) ∧ (nvIndet (slotSec k) s = false) ∧ (actBlank k s = some i)) ∧
    (∃ (k : Nat) (act : Nat) (a : Nat) (n : Nat) (s : State), (s.nvs.commit = some (k, act, a, n)) ∧ (s.nvs.cpos.step < 5) ∧ (commitBlocked s = false) ∧ (k < 2) ∧ (act < 2) ∧ (commitArgs a n = true) ∧ (s.nvs.cpos.pos < 48 ∨ (s.rdNvs (markOff k) 32 = List.replicate 32 0xFF ∧ slotRevoked k s = false))) ∧
    (∃ (res : Slot) (k : Nat) (act : Nat) (a : Nat) (n : Nat) (s : State), (s.nvs.commit = some (k, act, a, n)) ∧ (s.nvs.cpos.step < 5) ∧ (commitBlocked s = false) ∧ (act < 2) ∧ ((res.toNat = 2 ∨ res.toNat = 3))) :=
  ⟨⟨0, modNvs (fun n => { n with recw := some (0, []) }) R, by decide +kernel⟩,
   ⟨0, 5, R, by decide +kernel⟩,
   ⟨0, 5, (257 : Nat), (9 : Nat), (1 : Nat), modNvs (fun n => { n with idx := [(5, some (257, 9))] }) (R.wrNvs (recOff 1 1) (recBytes 5 3 [1, 2, 3, 4, 5, 6, 7, 8, 9])), by decide +kernel⟩,
   ⟨0, 5, modNvs (fun n => { n with next := 255, head := 7, idx := [(6, some (1, 9))] }) R, by decide +kernel⟩,
   ⟨0, 0x00500006, modNvs (fun n => { n with next := 255, head := 7, idx := [(6, some (1, 9))] }) R, by decide +kernel⟩,
   ⟨0, 0x0FF00006, R, by decide +kernel⟩,
   ⟨0, 0x00500006, setErase 1 (some { sector := 97 }) (modNvs (fun n => { n with next := 256 }) R), by decide +kernel⟩,
   ⟨(5 : Nat), ([1, 2, 3, 4, 5] : List Byte), modNvs (fun n => { n with recw := some (5, [1, 2, 3, 4, 5]), head := 3, next := 7, seq := 70 }) R, by decide +kernel⟩,
   ⟨(5 : Nat), ([1, 2, 3, 4, 5] : List Byte), modNvs (fun n => { n with recw := some (5, [1, 2, 3, 4, 5]), head := 3, next := 7, seq := 70 }) R, by decide +kernel⟩,
   ⟨0, modNvs (fun n => { n with commit := some (0, 0, 0, 0) }) R, by decide +kernel⟩,
   ⟨0, R, by decide +kernel⟩,
   ⟨0, VM 1 ((R.wr NVS_COMMIT_LEN 4096).wr NVS_COMMIT_SRC_LO 0x20000000), by decide +kernel⟩,
   ⟨0, true, R, by decide +kernel⟩,
   ⟨0, true, VM 1 R, by decide +kernel⟩,
   ⟨(1 : Nat), (0 : Nat), (0 : Nat), (1 : Nat), modNvs (fun n => { n with commit := some (1, 2, 0, 0), cpos := { step := 6 } }) (actProgram 1 0 (VM 1 R)), by decide +kernel⟩,
   ⟨(1 : Nat), (1 : Nat), (0x20000000 : Nat), (4096 : Nat), (modNvs (fun n => { n with commit := some (1, 1, 0x20000000, 4096) }) R).wrByte 0x20000005 9, by decide +kernel⟩,
   ⟨2, (1 : Nat), (1 : Nat), (0x20000000 : Nat), (4096 : Nat), modNvs (fun n => { n with commit := some (1, 1, 0x20000000, 4096) }) R, by decide +kernel⟩⟩

/-- States and operands that meet the hypotheses of GatehouseRequests, clause by clause. -/
theorem witness_GatehouseRequests :
    (∃ (s : State), (ghRunning s = false)) ∧
    (∃ (c : CoreId) (s : State), (ghRunning s = true) ∧ (msgBusy (36 + c.toNat) s = true)) ∧
    (∃ (c : CoreId) (s : State), (ghRunning s = true) ∧ (Turn (36 + c.toNat) s) ∧ (ReplyRoom (36 + c.toNat) 0 4 s)) ∧
    (∃ (c : CoreId) (n : Nat) (s : State), (ghRunning s = true) ∧ (Turn (36 + c.toNat) s) ∧ (0 < n) ∧ (ReplyRoom (36 + c.toNat) 0 2 s)) ∧
    (∃ (c : CoreId) (w : W32) (s : State), (ghRunning s = true) ∧ (Turn (36 + c.toNat) s) ∧ (ReplyRoom (36 + c.toNat) 0 2 s) ∧ ((w.toNat % 256 < 20 ∨ 205 < w.toNat % 256 ∨ w.toNat / 256 % 256 < 10 ∨ 128 < w.toNat / 256 % 256))) ∧
    (∃ (c : CoreId) (mk : W32) (w : W32) (h : Nat) (s : State), (ghRunning s = true) ∧ (Turn (36 + c.toNat) s) ∧ (ReplyRoom (36 + c.toNat) 0 3 s) ∧ (20 ≤ w.toNat % 256) ∧ (w.toNat % 256 ≤ 205) ∧ (10 ≤ w.toNat / 256 % 256) ∧ (w.toNat / 256 % 256 ≤ 128) ∧ (h < 16) ∧ (mk.toNat.testBit h = true) ∧ (w.toNat % 256 < s.fld (SRV_SETTLE h) F_SRV_SETTLE_WRITE_THR)) ∧
    (∃ (c : CoreId) (mk : W32) (w : W32) (s : State), (ghRunning s = true) ∧ (Turn (36 + c.toNat) s) ∧ (ReplyRoom (36 + c.toNat) 0 2 s) ∧ (20 ≤ w.toNat % 256) ∧ (w.toNat % 256 ≤ 205) ∧ (10 ≤ w.toNat / 256 % 256) ∧ (w.toNat / 256 % 256 ≤ 128) ∧ ((∀ h, h < 16 → mk.toNat.testBit h = true → s.fld (SRV_SETTLE h) F_SRV_SETTLE_WRITE_THR ≤ w.toNat % 256))) ∧
    (∃ (c : CoreId) (s : State), (ghRunning s = true) ∧ (Turn (36 + c.toNat) s) ∧ (graveLatched s = true) ∧ (ReplyRoom (36 + c.toNat) 0 3 s)) ∧
    (∃ (c : CoreId) (mk : W32) (a : Nat) (s : State), (ghRunning s = true) ∧ (Turn (36 + c.toNat) s) ∧ (graveLatched s = false) ∧ (mk.toNat = 2 ^ a) ∧ (a < 32) ∧ (loaded a s = true) ∧ (actState a s ≠ 6)) ∧
    (∃ (c : CoreId) (w : W32) (reg : BitVec 16) (r : Nat) (s : State), (ghRunning s = true) ∧ (Turn (36 + c.toNat) s) ∧ (w.toNat < 64) ∧ (recoverReason w.toNat reg.toNat s = some r) ∧ (r < 8) ∧ (ReplyRoom (36 + c.toNat) 0 3 s)) ∧
    (∃ (c : CoreId) (w : W32) (reg : BitVec 16) (s : State), (ghRunning s = true) ∧ (Turn (36 + c.toNat) s) ∧ (w.toNat < 64) ∧ (recoverReason w.toNat reg.toNat s = none)) ∧
    (∃ (c : CoreId) (s : State), (ghRunning s = true) ∧ (Turn (36 + c.toNat) s) ∧ (ReplyRoom (36 + c.toNat) 0 3 s)) ∧
    (∃ (c : CoreId) (w : W32) (s : State), (ghRunning s = true) ∧ (Turn (36 + c.toNat) s) ∧ (w.toNat < 4) ∧ (graveLatched s = false) ∧ (ReplyRoom (36 + c.toNat) 0 3 s) ∧ ((s.fld (GH_RAIL w.toNat) F_GH_RAIL_MV < 11400 ∨ 12600 < s.fld (GH_RAIL w.toNat) F_GH_RAIL_MV ∨ (hdasOf w.toNat).any (fun h => spnState h s == 6) = true))) ∧
    (∃ (c : CoreId) (w : W32) (s : State), (ghRunning s = true) ∧ (Turn (36 + c.toNat) s) ∧ (w.toNat < 4) ∧ (graveLatched s = false) ∧ (11400 ≤ s.fld (GH_RAIL w.toNat) F_GH_RAIL_MV) ∧ (s.fld (GH_RAIL w.toNat) F_GH_RAIL_MV ≤ 12600) ∧ ((hdasOf w.toNat).any (fun h => spnState h s == 6) = false)) ∧
    (∃ (r : Rail) (c : Nat) (q : Nat) (s : State), (ghRunning s = true) ∧ (chopTests r.toNat s = [(c, q)]) ∧ (c < 8) ∧ (s.fld (GH_RAIL r.toNat) F_GH_RAIL_MV < 13600) ∧ (ReplyRoom (36 + c) 0 3 s)) ∧
    (∃ (c : CoreId) (s : State), (ghRunning s = true) ∧ (Turn (36 + c.toNat) s) ∧ (ReplyRoom (36 + c.toNat) 0 2 s)) ∧
    (∃ (c : CoreId) (s : State), (ghRunning s = true) ∧ (Turn (36 + c.toNat) s) ∧ (shedOpen 1 s = false) ∧ (ReplyRoom (36 + c.toNat) 0 3 s)) ∧
    (∃ (c : CoreId) (k : W32) (src : W32) (s : State), (ghRunning s = true) ∧ (Turn (36 + c.toNat) s) ∧ (shedOpen 1 s = true) ∧ (injSources (k.toNat % 65536) ≤ src.toNat % 256) ∧ (ReplyRoom (36 + c.toNat) 0 2 s)) ∧
    (∃ (c : CoreId) (k : W32) (s : State), (ghRunning s = true) ∧ (Turn (36 + c.toNat) s) ∧ (shedOpen 1 s = true) ∧ (0x18 ≤ k.toNat) ∧ (k.toNat ≤ 0x1A) ∧ (graveLatched s = false)) :=
  ⟨⟨F GH_ID F_GH_ID_RUNNING 0 R, by decide +kernel⟩,
   ⟨3, modGh (fun g => { g with chopTest := [(2, [(3, 9)])] }) G, by decide +kernel⟩,
   ⟨3, U (G), by decide +kernel⟩,
   ⟨3, 2, U (G), by decide +kernel⟩,
   ⟨3, (0x0A13 : W32), U (G), by decide +kernel⟩,
   ⟨3, (0x200 : W32), (0x0A20 : W32), (9 : Nat), U (F (SRV_SETTLE 9) F_SRV_SETTLE_WRITE_THR 0x21 G), by decide +kernel⟩,
   ⟨3, (0x201 : W32), (0x0AC8 : W32), U (G), by decide +kernel⟩,
   ⟨3, U (F GH_GRAVE F_GH_GRAVE_LATCHED 1 G), by decide +kernel⟩,
   ⟨3, (4 : W32), (2 : Nat), lk 2 6 (setActState 2 4 G), by decide +kernel⟩,
   ⟨3, (4 : W32), 0, (2 : Nat), U (G), by decide +kernel⟩,
   ⟨3, (4 : W32), 0, F (LNK_STATE 4) F_LNK_STATE_MODE 2 (setActState 4 7 G), by decide +kernel⟩,
   ⟨3, U (F (SPN_STATE 9) F_SPN_STATE_CAUSE 2 (setSpnForced 9 true G)), by decide +kernel⟩,
   ⟨3, (2 : W32), U (F (GH_RAIL 2) F_GH_RAIL_MV 12601 G), by decide +kernel⟩,
   ⟨3, (2 : W32), F (GH_RAIL 2) F_GH_RAIL_MV 12600 G, by decide +kernel⟩,
   ⟨2, (3 : Nat), (9 : Nat), U (modGh (fun g => { g with chopTest := [(2, [(3, 9)])] }) (F (GH_RAIL 2) F_GH_RAIL_REGEN_INHIBIT 1 G)), by decide +kernel⟩,
   ⟨3, U (G), by decide +kernel⟩,
   ⟨3, U (G), by decide +kernel⟩,
   ⟨3, (0x16 : W32), (4 : W32), U (scope 2 G), by decide +kernel⟩,
   ⟨3, (0x19 : W32), scope 2 G, by decide +kernel⟩⟩

/-- States and operands that meet the hypotheses of GatehouseConditions, clause by clause. -/
theorem witness_GatehouseConditions :
    (∃ (b : BitVec 3) (mv : BitVec 16) (s : State), (supplyOutside b.toNat mv.toNat = true) ∧ (supplyNow b.toNat s = false)) ∧
    (∃ (b : BitVec 3) (mv : BitVec 16) (s : State), ((supplyOutside b.toNat mv.toNat = false ∨ supplyNow b.toNat s = true))) ∧
    (∃ (b : BitVec 3) (mv : BitVec 16) (s : State), (supplyOutside b.toNat mv.toNat = true) ∧ (supplyNow b.toNat s = true) ∧ (tget false s.gh.supplyOut b.toNat = false)) ∧
    (∃ (s : State), (ghRunning s = true)) ∧
    (∃ (s : State), (ghRunning s = false)) ∧
    (∃ (s : State), (150 ≤ s.fld GH_TEMP F_GH_TEMP_TJ) ∧ (s.gh.thermal = false)) ∧
    (∃ (s : State), ((s.fld GH_TEMP F_GH_TEMP_TJ < 150 ∨ s.gh.thermal = true))) ∧
    (∃ (s : State), (165 ≤ s.fld GH_TEMP F_GH_TEMP_TJ) ∧ (graveLatched s = false)) ∧
    (∃ (s : State), (ghRunning s = true) ∧ (graveLatched s = false)) ∧
    (∃ (s : State), (graveLatched s = true) ∧ (ghRunning s = true)) ∧
    (∃ (a : Nat), (a < 64)) :=
  ⟨⟨1, 891, R, by decide +kernel⟩,
   ⟨1, 890, R, by decide +kernel⟩,
   ⟨1, 891, F GH_SUPPLY F_GH_SUPPLY_NOW 2 (setActState 5 4 R), by decide +kernel⟩,
   ⟨writeInhibitAll G, by decide +kernel⟩,
   ⟨F GH_ID F_GH_ID_RUNNING 0 (writeInhibitAll R), by decide +kernel⟩,
   ⟨F GH_TEMP F_GH_TEMP_TJ 151 (setActState 5 4 R), by decide +kernel⟩,
   ⟨F GH_TEMP F_GH_TEMP_TJ 149 R, by decide +kernel⟩,
   ⟨F GH_TEMP F_GH_TEMP_TJ 165 R, by decide +kernel⟩,
   ⟨setActState 5 4 (sp 9 5 G), by decide +kernel⟩,
   ⟨F GH_GRAVE F_GH_GRAVE_LATCHED 1 G, by decide +kernel⟩,
   ⟨(5 : Nat), by decide +kernel⟩⟩

/-- States and operands that meet the hypotheses of Retracts, clause by clause. -/
theorem witness_Retracts :
    (∃ (a : Act) (i : Nat) (s : State), ((retr a.toNat s).active = true) ∧ ((retr a.toNat s).acked = false) ∧ (retractLane a.toNat s = some i)) ∧
    (∃ (a : Act) (s : State), (((retr a.toNat s).active = false ∨ (retr a.toNat s).acked = true ∨ retractLane a.toNat s = none))) ∧
    (∃ (a : Act) (v : BitVec 16) (s : State), ((retr a.toNat s).active = true) ∧ (dnLocked a.toNat s ≠ []) ∧ (v ≠ 0)) ∧
    (∃ (a : Act) (s : State), ((retr a.toNat s).active = true) ∧ (dnLocked a.toNat s ≠ []) ∧ ((retr a.toNat s).isolate = false) ∧ (graveLatched s = false) ∧ ((retr a.toNat s).reset = false) ∧ (isolated a.toNat s = false) ∧ (writeInhibit s = false) ∧ (s.plat.rst = .run)) ∧
    (∃ (a : Act) (s : State), ((retr a.toNat s).active = true) ∧ (dnLocked a.toNat s ≠ []) ∧ ((retr a.toNat s).isolate = true) ∧ ((retr a.toNat s).reset = false) ∧ (isolated a.toNat s = false) ∧ (s.plat.rst = .run)) ∧
    (∃ (a : Act) (s : State), ((retr a.toNat s).active = true) ∧ ((retr a.toNat s).reset = false) ∧ (s.plat.rst = .run)) ∧
    (∃ (a : Act) (s : State), ((retr a.toNat s).active = true) ∧ ((retr a.toNat s).lastRead ≠ 0x8000)) :=
  ⟨⟨5, (1 : Nat), lk 5 3 (rtr 5 { active := true, tried := [0] } R), by decide +kernel⟩,
   ⟨5, lk 5 3 (rtr 5 { active := true, tried := [0, 1] } R), by decide +kernel⟩,
   ⟨5, 1, lk 5 3 (rtr 5 { active := true, tried := [0] } R), by decide +kernel⟩,
   ⟨5, lk 5 3 (rtr 5 { active := true, tried := [0] } R), by decide +kernel⟩,
   ⟨5, lk 5 3 (rtr 5 { active := true, isolate := true, tried := [0] } R), by decide +kernel⟩,
   ⟨5, lk 5 3 (rtr 5 { active := true, tried := [0] } R), by decide +kernel⟩,
   ⟨5, lk 5 3 (rtr 5 { active := true, tried := [0] } R), by decide +kernel⟩⟩

/-- States and operands that meet the hypotheses of EventTable, clause by clause. -/
theorem witness_EventTable :
    (∃ (code : Nat), (code < 2 ^ 16) ∧ (code / 2 ^ 9 % 8 = 0) ∧ (code / 2 ^ 4 % 16 = 0)) :=
  ⟨(0xA104 : Nat), by decide +kernel⟩

/-- States and operands that meet the hypotheses of SundialSamples, clause by clause. -/
theorem witness_SundialSamples :
    (∃ (m : Master), (m.toNat = 9)) ∧
    (∃ (m : Master), (m.toNat ≠ 9)) ∧
    (∃ (m : Master), (m.toNat ≠ 9)) ∧
    (∃ (m : Master), (m.toNat ≠ 9)) ∧
    (∃ (m : Master), (m.toNat ≠ 9)) ∧
    (∃ (c : CoreId) (s : State), (s.fld (SDL_CMP_CTL c.toNat) F_SDL_CMP_CTL_ARM = 1) ∧ (cmpValue c.toNat s ≤ s.sdl.now)) ∧
    (∃ (c : CoreId) (s : State), ((s.fld (SDL_CMP_CTL c.toNat) F_SDL_CMP_CTL_ARM = 0 ∨ s.sdl.now < cmpValue c.toNat s))) ∧
    (∃ (k : Nat), (1 ≤ k) ∧ (k ≤ 14)) ∧
    (∃ (n : Nat) (s : State), (n < 2 ^ 31) ∧ (s.ctr (ICE_HIST 5 (binRail n)) + 1 < 2 ^ 48 - 1) ∧ (toSigned 32 (s.rd (ICE_EXT_MIN 1)).toNat ≤ n) ∧ ((n : Int) ≤ toSigned 32 (s.rd (ICE_EXT_MAX 1)).toNat)) ∧
    (∃ (x : Int) (s : State), (-2 ^ 31 ≤ x) ∧ (x < 2 ^ 31) ∧ (toSigned 32 (s.rd (ICE_EXT_MIN 6)).toNat ≤ toSigned 32 (s.rd (ICE_EXT_MAX 6)).toNat) ∧ (x < toSigned 32 (s.rd (ICE_EXT_MIN 6)).toNat)) ∧
    (∃ (m : Master), (m.toNat ≠ 9)) ∧
    (∃ (m : Master), (m.toNat = 9)) :=
  ⟨⟨9, by decide +kernel⟩,
   ⟨10, by decide +kernel⟩,
   ⟨0, by decide +kernel⟩,
   ⟨0, by decide +kernel⟩,
   ⟨0, by decide +kernel⟩,
   ⟨3, F (SDL_CMP_CTL 3) F_SDL_CMP_CTL_ARM 1 R, by decide +kernel⟩,
   ⟨3, R, by decide +kernel⟩,
   ⟨(3 : Nat), by decide +kernel⟩,
   ⟨12000, (R.wr (ICE_EXT_MIN 1) 11000).wr (ICE_EXT_MAX 1) 13000, by decide +kernel⟩,
   ⟨-3, { (R.wr (ICE_EXT_MIN 6) 5).wr (ICE_EXT_MAX 6) 50 with sdl := { R.sdl with now := 0x123456789A } }, by decide +kernel⟩,
   ⟨0, by decide +kernel⟩,
   ⟨9, by decide +kernel⟩⟩

/-- States and operands that meet the hypotheses of SnapshotsClear, clause by clause. -/
theorem witness_SnapshotsClear :
    (∃ (r : Slot) (i : Nat) (s : State), (r.toNat ∈ s.ice.due) ∧ (s.ice.bufs.length < 2) ∧ (i < 512)) ∧
    (∃ (r : Slot) (s : State), (r.toNat ∉ s.ice.due)) ∧
    (∃ (r : Slot) (a : _) (b : _) (s : State), (r.toNat ∈ s.ice.due) ∧ (s.ice.bufs = [a, b])) ∧
    (∃ (s : State), (iceCanWrite s = false)) ∧
    (∃ (c : _) (r : List IceCapture) (s : State), (iceCanWrite s = true) ∧ (s.ice.bufs = c :: r) ∧ (s.fld ICE_STATE F_ICE_STATE_HEAD % 256 ≠ 0) ∧ (nvBlank s (slotOff (s.fld ICE_STATE F_ICE_STATE_HEAD)) 1024 = true)) ∧
    (∃ (s : State), (s.ice.tokens = [])) ∧
    (∃ (m : Master) (ch : Nat) (q : Nat) (r : List (Nat × Nat)) (h : Nat) (b : Nat) (e : Nat) (i : Nat) (s : State), (m.toNat ≠ 9) ∧ (s.ice.tokens = (ch, q) :: r) ∧ (s.ice.erase = none) ∧ (ReplyRoom ch 1 2 s) ∧ (bankErase 0 s = none) ∧ (s.nvs.jold = false) ∧ (h < 6) ∧ (b < 16) ∧ (e < 8) ∧ (i < 32)) ∧
    (∃ (ch : Chan) (p : List W32) (s : State), (Serves ch s) ∧ (s.domOn 105 = true) ∧ (s.sec.verify = none) ∧ (p.length = 17) ∧ (ReplyRoom ch.toNat 1 3 s)) :=
  ⟨⟨2, (33 : Nat), due [0, 2] (emit 0x1001 R), by decide +kernel⟩,
   ⟨2, due [0], by decide +kernel⟩,
   ⟨0, cap 0, cap 2, due [0] (bufs [cap 0, cap 2]), by decide +kernel⟩,
   ⟨bufs [cap 0] (R.setDom 104 false), by decide +kernel⟩,
   ⟨cap 0, ([] : List IceCapture), F ICE_STATE F_ICE_STATE_HEAD 2047 (bufs [cap 0]), by decide +kernel⟩,
   ⟨R, by decide +kernel⟩,
   ⟨0, (2 : Nat), (9 : Nat), ([] : List (Nat × Nat)), (5 : Nat), (3 : Nat), (2 : Nat), (31 : Nat), U ({ (emit 0x1001 R) with ice := { R.ice with tokens := [(2, 9)], bufs := [cap 0, cap 2] } }), by decide +kernel⟩,
   ⟨2, List.replicate 17 (5 : W32), U (R), by decide +kernel⟩⟩

/-- States and operands that meet the hypotheses of SecurityEngine, clause by clause. -/
theorem witness_SecurityEngine :
    (∃ (m : Master), (m.toNat = 9)) ∧
    (∃ (m : Master) (s : State), (m.toNat ≠ 9) ∧ (s.domOn 105 = false)) ∧
    (∃ (m : Master) (s : State), (m.toNat ≠ 9) ∧ (s.domOn 105 = true) ∧ (s.sec.verify.isSome = true)) ∧
    (∃ (m : Master) (s : State), (m.toNat ≠ 9) ∧ (s.domOn 105 = true) ∧ (s.sec.verify = none)) ∧
    (∃ (a : Nat) (s : State), (s.sec.verify = some a) ∧ (s.sec.waits = [])) ∧
    (∃ (m : Master) (v : W32) (s : State), (m.toNat ≠ 9) ∧ (s.domOn 105 = true) ∧ (fget v F_SEC_EXTEND_CTL_INDEX < 6)) ∧
    (∃ (m : Master) (v : W32) (j : Nat) (w : Nat) (s : State), (m.toNat ≠ 9) ∧ (s.domOn 105 = true) ∧ (6 ≤ fget v F_SEC_EXTEND_CTL_INDEX) ∧ (w < 16) ∧ (j < 8)) ∧
    (∃ (m : Master) (s : State), (m.toNat ≠ 9) ∧ (s.domOn 105 = true) ∧ (shedOpen 2 s = false)) ∧
    (∃ (m : Master) (k : _) (s : State), (m.toNat ≠ 9) ∧ (s.domOn 105 = true) ∧ (shedOpen 2 s = true) ∧ (s.sec.custKey = some k)) ∧
    (∃ (m : Master) (s : State), (m.toNat ≠ 9) ∧ (s.domOn 105 = true) ∧ (shedOpen 2 s = true) ∧ (s.sec.custKey = none)) :=
  ⟨⟨9, by decide +kernel⟩,
   ⟨0, R.setDom 105 false, by decide +kernel⟩,
   ⟨0, modSec (fun x => { x with verify := some 0x20000000 }) R, by decide +kernel⟩,
   ⟨0, R.wr SEC_VERIFY_LO 0x20000000, by decide +kernel⟩,
   ⟨(0x20000000 : Nat), modSec (fun x => { x with verify := some 0x20000000 }) R, by decide +kernel⟩,
   ⟨0, 0x80000005, R, by decide +kernel⟩,
   ⟨3, 0x80000007, (6 : Nat), (15 : Nat), F SEC_MLOG_COUNT F_SEC_MLOG_COUNT_COUNT 63 R, by decide +kernel⟩,
   ⟨0, R, by decide +kernel⟩,
   ⟨0, key0, modSec (fun x => { x with custKey := some key0 }) (scope 4), by decide +kernel⟩,
   ⟨0, scope 4, by decide +kernel⟩⟩

/-- States and operands that meet the hypotheses of PottingShed, clause by clause. -/
theorem witness_PottingShed :
    (∃ (ch : Chan) (sc : W32) (s : State), (Serves ch s) ∧ (s.domOn 105 = true) ∧ (32 ≤ sc.toNat) ∧ (ReplyRoom ch.toNat 1 2 s)) ∧
    (∃ (ch : Chan) (sc : W32) (s : State), (Serves ch s) ∧ (s.domOn 105 = true) ∧ (sc.toNat < 32) ∧ (s.fld SEC_SHED F_SEC_SHED_FAILS = 4) ∧ (ReplyRoom ch.toNat 1 3 s)) ∧
    (∃ (ch : Chan) (sc : W32) (s : State), (Serves ch s) ∧ (s.domOn 105 = true) ∧ (sc.toNat < 32) ∧ (s.fld SEC_SHED F_SEC_SHED_FAILS < 4) ∧ (ReplyRoom ch.toNat 1 10 s)) ∧
    (∃ (ch : Chan) (p : List W32) (n : _) (sc : Nat) (s : State), (Serves ch s) ∧ (s.domOn 105 = true) ∧ (s.sec.verify = none) ∧ (p.length = (if s.sec.custKey.isSome then 33 else 17)) ∧ (s.sec.nonce = some (n, sc)) ∧ (sc < 32) ∧ (ReplyRoom ch.toNat 1 2 s)) ∧
    (∃ (ch : Chan) (p : List W32) (s : State), (Serves ch s) ∧ (s.domOn 105 = true) ∧ (s.sec.verify = none) ∧ (p.length = (if s.sec.custKey.isSome then 33 else 17)) ∧ (s.sec.nonce = none) ∧ (ReplyRoom ch.toNat 1 2 s)) ∧
    (∃ (n : _) (sc : Nat) (s : State), (s.sec.nonce = some (n, sc))) ∧
    (∃ (ch : Chan) (s : State), (Serves ch s) ∧ (s.domOn 105 = false)) ∧
    (∃ (m : Master) (s : State), (m.toNat ≠ 9) ∧ (s.domOn 105 = true)) :=
  ⟨⟨2, (32 : W32), U (R), by decide +kernel⟩,
   ⟨2, (2 : W32), U (F SEC_SHED F_SEC_SHED_FAILS 4 R), by decide +kernel⟩,
   ⟨2, (31 : W32), U (R), by decide +kernel⟩,
   ⟨2, List.replicate 17 (1 : W32), key0, (2 : Nat), U (modSec (fun x => { x with nonce := some (key0, 2) }) R), by decide +kernel⟩,
   ⟨2, List.replicate 17 (1 : W32), U (R), by decide +kernel⟩,
   ⟨key0, (2 : Nat), modSec (fun x => { x with nonce := some (key0, 2) }) R, by decide +kernel⟩,
   ⟨2, R.setDom 105 false, by decide +kernel⟩,
   ⟨3, scope 31, by decide +kernel⟩⟩

/-- States and operands that meet the hypotheses of SpdmRequests, clause by clause. -/
theorem witness_SpdmRequests :
    (∃ (b : _) (s : State), (s.sec.req = some b) ∧ ((s.domOn 105 = false ∨ s.sec.verify.isSome = true))) ∧
    (∃ (b : _) (s : State), (s.sec.req = some b) ∧ (reqByte b 1 = 0x84) ∧ (s.domOn 105 = true) ∧ (s.sec.verify = none)) ∧
    (∃ (b : _) (s : State), (s.sec.req = some b) ∧ (reqByte b 1 = 0xE1) ∧ (s.domOn 105 = true) ∧ (s.sec.verify = none) ∧ (s.sec.stage ≠ 1)) ∧
    (∃ (b : _) (s : State), (s.sec.req = some b) ∧ (reqByte b 1 = 0xE1) ∧ (reqByte b 0 = 0x12) ∧ (s.domOn 105 = true) ∧ (s.sec.verify = none) ∧ (s.sec.stage = 1)) ∧
    (∃ (b : _) (s : State), (s.sec.req = some b) ∧ (reqByte b 1 = 0xE3) ∧ (reqByte b 0 = 0x12) ∧ (s.domOn 105 = true) ∧ (s.sec.verify = none) ∧ (s.sec.stage = 2)) ∧
    (∃ (b : _) (s : State), (s.sec.req = some b) ∧ (reqByte b 1 = 0x81) ∧ (reqByte b 0 = 0x12) ∧ (s.domOn 105 = true) ∧ (s.sec.verify = none) ∧ (3 ≤ s.sec.stage)) ∧
    (∃ (b : _) (s : State), (s.sec.req = some b) ∧ (reqByte b 1 = 0x82) ∧ (reqByte b 0 = 0x12) ∧ (s.domOn 105 = true) ∧ (s.sec.verify = none) ∧ (3 ≤ s.sec.stage)) ∧
    (∃ (b : _) (s : State), (s.sec.req = some b) ∧ (reqByte b 1 = 0x83) ∧ (reqByte b 0 = 0x12) ∧ (s.domOn 105 = true) ∧ (s.sec.verify = none) ∧ (3 ≤ s.sec.stage)) ∧
    (∃ (b : _) (s : State), (s.sec.req = some b) ∧ (reqByte b 1 = 0xE0) ∧ (reqByte b 0 = 0x12) ∧ (s.domOn 105 = true) ∧ (s.sec.verify = none) ∧ (3 ≤ s.sec.stage)) ∧
    (∃ (s : State), (s.sec.req = none)) :=
  ⟨⟨ascii [0x12, 0xE1], spdmAt 1 [0x12, 0xE1] (R.setDom 105 false), by decide +kernel⟩,
   ⟨ascii [0x10, 0x84, 0, 0], spdmAt 3 [0x10, 0x84, 0, 0], by decide +kernel⟩,
   ⟨ascii [0x12, 0xE1, 0, 0], spdmAt 3 [0x12, 0xE1, 0, 0], by decide +kernel⟩,
   ⟨ascii [0x12, 0xE1, 0, 0], spdmAt 1 [0x12, 0xE1, 0, 0], by decide +kernel⟩,
   ⟨ascii [0x12, 0xE3, 0, 0, 0, 0, 1, 0, 0, 4, 0, 0, 4, 0, 0, 0], spdmAt 2 [0x12, 0xE3, 0, 0, 0, 0, 1, 0, 0, 4, 0, 0, 4, 0, 0, 0], by decide +kernel⟩,
   ⟨ascii [0x12, 0x81, 0, 0], spdmAt 3 [0x12, 0x81, 0, 0], by decide +kernel⟩,
   ⟨ascii [0x12, 0x82, 1, 0, 0, 0, 3, 0], spdmAt 3 [0x12, 0x82, 1, 0, 0, 0, 3, 0], by decide +kernel⟩,
   ⟨ascii [0x12, 0x83, 0, 0], spdmAt 3 [0x12, 0x83, 0, 0], by decide +kernel⟩,
   ⟨ascii [0x12, 0xE0, 0, 9], spdmAt 3 [0x12, 0xE0, 0, 9], by decide +kernel⟩,
   ⟨R, by decide +kernel⟩⟩

/-- States and operands that meet the hypotheses of DomainsClocks, clause by clause. -/
theorem witness_DomainsClocks :
    (∃ (m : Master), (m.toNat = 9)) ∧
    (∃ (m : Master) (d : BitVec 7) (s : State), (m.toNat ≠ 9) ∧ ((s.fld PWR_DOM_RESULT F_PWR_DOM_RESULT_BUSY = 1 ∨ 105 < d.toNat))) ∧
    (∃ (m : Master) (d : BitVec 7) (s : State), (m.toNat ≠ 9) ∧ (s.fld PWR_DOM_RESULT F_PWR_DOM_RESULT_BUSY = 0) ∧ (86 ≤ d.toNat) ∧ (d.toNat ≤ 102)) ∧
    (∃ (m : Master) (d : BitVec 7) (s : State), (m.toNat ≠ 9) ∧ (s.fld PWR_DOM_RESULT F_PWR_DOM_RESULT_BUSY = 0) ∧ ((d.toNat < 86 ∨ 103 ≤ d.toNat ∧ d.toNat ≤ 105)) ∧ (s.domOn d.toNat = true)) ∧
    (∃ (m : Master) (d : BitVec 7) (s : State), (m.toNat ≠ 9) ∧ (s.fld PWR_DOM_RESULT F_PWR_DOM_RESULT_BUSY = 0) ∧ ((d.toNat < 86 ∨ 103 ≤ d.toNat ∧ d.toNat ≤ 105)) ∧ (s.domOn d.toNat = false)) ∧
    (∃ (m : Master) (d : BitVec 7) (s : State), (m.toNat ≠ 9) ∧ (s.fld PWR_DOM_RESULT F_PWR_DOM_RESULT_BUSY = 0) ∧ (64 ≤ d.toNat) ∧ (d.toNat < 72) ∧ (s.domOn d.toNat = true)) ∧
    (∃ (m : Master) (d : BitVec 7) (s : State), (m.toNat ≠ 9) ∧ (s.fld PWR_DOM_RESULT F_PWR_DOM_RESULT_BUSY = 0) ∧ (d.toNat < 64) ∧ (s.domOn d.toNat = true)) ∧
    (∃ (m : Master) (d : BitVec 7) (s : State), (m.toNat ≠ 9) ∧ (s.fld PWR_DOM_RESULT F_PWR_DOM_RESULT_BUSY = 0) ∧ (72 ≤ d.toNat) ∧ (d.toNat < 80) ∧ (s.domOn d.toNat = true)) ∧
    (∃ (c : CoreId) (s : State), (tget false s.plat.coreOffReq c.toNat = true)) ∧
    (∃ (c : CoreId) (s : State), (tget false s.plat.coreOffReq c.toNat = false)) ∧
    (∃ (d : Nat) (s : State), (s.plat.domPend = some d) ∧ (64 ≤ d) ∧ (d ≤ 105)) ∧
    (∃ (d : Nat) (s : State), (s.plat.domPend = some d) ∧ (d < 64)) ∧
    (∃ (m : Master), (m.toNat ≠ 9)) ∧
    (∃ (s : State), (s.fld CLK_STATUS F_CLK_STATUS_REF_LOST = 0)) ∧
    (∃ (s : State), (s.fld CLK_STATUS F_CLK_STATUS_REF_LOST = 1)) ∧
    (∃ (m : Master), (m.toNat ≠ 9)) ∧
    (∃ (m : Master) (j : Nat), (m.toNat ≠ 9) ∧ (j < 128)) :=
  ⟨⟨9, by decide +kernel⟩,
   ⟨0, (3 : BitVec 7), F PWR_DOM_RESULT F_PWR_DOM_RESULT_BUSY 1 R, by decide +kernel⟩,
   ⟨0, (86 : BitVec 7), R, by decide +kernel⟩,
   ⟨0, (105 : BitVec 7), R, by decide +kernel⟩,
   ⟨0, (0 : BitVec 7), R.setDom 0 false, by decide +kernel⟩,
   ⟨0, (71 : BitVec 7), R, by decide +kernel⟩,
   ⟨0, (5 : BitVec 7), R, by decide +kernel⟩,
   ⟨2, (75 : BitVec 7), R, by decide +kernel⟩,
   ⟨3, modPlat (fun p => { p with coreOffReq := [(3, true)] }) R, by decide +kernel⟩,
   ⟨3, R, by decide +kernel⟩,
   ⟨(104 : Nat), modPlat (fun p => { p with domPend := some 104 }) (R.setDom 104 false), by decide +kernel⟩,
   ⟨(5 : Nat), modPlat (fun p => { p with domPend := some 5 }) ((R.setDom 5 false).wr (GH_ISOLATED 0) 0x20), by decide +kernel⟩,
   ⟨0, by decide +kernel⟩,
   ⟨R, by decide +kernel⟩,
   ⟨F CLK_STATUS F_CLK_STATUS_REF_LOST 1 R, by decide +kernel⟩,
   ⟨0, by decide +kernel⟩,
   ⟨0, (7 : Nat), by decide +kernel⟩⟩

/-- States and operands that meet the hypotheses of ResetsStartUp, clause by clause. -/
theorem witness_ResetsStartUp :
    (∃ (s : State), (s.plat.rst = .run) ∧ (s.plat.ghDown = false) ∧ (s.fld PWR_BOOT F_PWR_BOOT_RECOVERY = 0)) ∧
    (∃ (s : State), (s.plat.rst = .run) ∧ (s.plat.ghDown = false) ∧ (s.fld PWR_BOOT F_PWR_BOOT_RECOVERY = 0) ∧ (s.fld PWR_BOOT F_PWR_BOOT_STAGE = 5)) ∧
    (∃ (s : State), ((s.plat.rst ≠ .run ∨ s.fld PWR_BOOT F_PWR_BOOT_RECOVERY = 1))) ∧
    (∃ (m : Master) (v : W32), (m.toNat ≠ 9) ∧ (fget v F_PWR_CHIP_RST_KEY ≠ 0xA5C3)) ∧
    (∃ (m : Master) (v : W32) (s : State), (m.toNat ≠ 9) ∧ (fget v F_PWR_CHIP_RST_KEY = 0xA5C3) ∧ (s.plat.rst = .run)) ∧
    (∃ (s : State), (s.plat.perst = false)) ∧
    (∃ (s : State), (barOk s = true) ∧ (s.hif.en = true)) ∧
    (∃ (s : State), (barOk s = true) ∧ (s.hif.en = false)) ∧
    (∃ (m : Master), (m.toNat ≠ 9)) ∧
    (∃ (s : State), (barOk s = true) ∧ (s.hif.en = true)) :=
  ⟨⟨F PWR_BOOT F_PWR_BOOT_STAGE 1 R, by decide +kernel⟩,
   ⟨F PWR_BOOT F_PWR_BOOT_STAGE 5 R, by decide +kernel⟩,
   ⟨F PWR_BOOT F_PWR_BOOT_RECOVERY 1 R, by decide +kernel⟩,
   ⟨0, 0x1, by decide +kernel⟩,
   ⟨0, 0x8000A5C3, R, by decide +kernel⟩,
   ⟨H 7 (io 2 0 8 1), by decide +kernel⟩,
   ⟨modHif (fun h => { h with en := true, rdy := true }) (F PWR_BOOT F_PWR_BOOT_FW_READY 1 (H 7 (io 2 0 8 1))), by decide +kernel⟩,
   ⟨F PWR_BOOT F_PWR_BOOT_FW_READY 1 R, by decide +kernel⟩,
   ⟨0, by decide +kernel⟩,
   ⟨modHif (fun h => { h with en := true }) (F PWR_BOOT F_PWR_BOOT_FW_READY 1 (NS (ns1 true) R)), by decide +kernel⟩⟩

/-- States and operands that meet the hypotheses of RecoveryCalibration, clause by clause. -/
theorem witness_RecoveryCalibration :
    (∃ (s : State), (s.fld PWR_BOOT F_PWR_BOOT_RECOVERY = 0) ∧ (ReplyRoom 0 1 2 s)) ∧
    (∃ (s : State), (s.fld PWR_BOOT F_PWR_BOOT_RECOVERY = 1) ∧ (ReplyRoom 0 1 5 s)) ∧
    (∃ (n : Nat) (s : State), (s.fld PWR_BOOT F_PWR_BOOT_RECOVERY = 1) ∧ (n ≠ 0) ∧ (ReplyRoom 0 1 2 s)) ∧
    (∃ (p : List W32) (s : State), (s.fld PWR_BOOT F_PWR_BOOT_RECOVERY = 1) ∧ (p.length = 15) ∧ ((p.headD 0).toNat % 56 = 0) ∧ ((p.headD 0).toNat ≤ 12324864)) ∧
    (∃ (p : List W32) (s : State), (s.fld PWR_BOOT F_PWR_BOOT_RECOVERY = 1) ∧ ((p.length ≠ 15 ∨ (p.headD 0).toNat % 56 ≠ 0)) ∧ (ReplyRoom 0 1 2 s)) ∧
    (∃ (k : W32) (s : State), (s.fld PWR_BOOT F_PWR_BOOT_RECOVERY = 1) ∧ (k.toNat < 2)) ∧
    (∃ (m : Master) (v : W32) (s : State), (m.toNat ≠ 9) ∧ ((5 ≤ fget v F_CAL_RUN_CLASS ∨ shedOpen 4 s = false ∨ s.fld CAL_STATUS F_CAL_STATUS_RUN_BUSY = 1 ∨ fget v F_CAL_RUN_CLASS < 2 ∧ fget v F_CAL_RUN_INDEX < 64 ∧ actState (fget v F_CAL_RUN_INDEX) s ≠ 0))) ∧
    (∃ (m : Master) (v : W32) (s : State), (m.toNat ≠ 9) ∧ ((fget v F_CAL_RUN_CLASS = 2 ∨ fget v F_CAL_RUN_CLASS = 3)) ∧ ((fget v F_CAL_RUN_INDEX < 16 ∨ fget v F_CAL_RUN_INDEX = 0xFF)) ∧ (shedOpen 4 s = true) ∧ (s.fld CAL_STATUS F_CAL_STATUS_RUN_BUSY = 0)) ∧
    (∃ (m : Master) (v : W32) (s : State), (m.toNat ≠ 9) ∧ (fget v F_CAL_RUN_CLASS < 2) ∧ (fget v F_CAL_RUN_INDEX < 64) ∧ (actState (fget v F_CAL_RUN_INDEX) s = 0) ∧ (shedOpen 4 s = true) ∧ (s.fld CAL_STATUS F_CAL_STATUS_RUN_BUSY = 0)) ∧
    (∃ (l : List (Nat × Int)) (c : Nat) (x : Nat) (s : State), (s.cal.run = some (c, x)) ∧ (c < 5) ∧ ((∀ y ∈ l, y.1 ∈ calRunItems c x)) ∧ (calBad c l = none)) ∧
    (∃ (l : List (Nat × Int)) (c : Nat) (x : Nat) (k : Nat) (y : Int) (s : State), (s.cal.run = some (c, x)) ∧ (c < 5) ∧ ((∀ z ∈ l, z.1 ∈ calRunItems c x)) ∧ (calBad c l = some (k, y))) ∧
    (∃ (s : State), (s.cal.run = none)) ∧
    (∃ (c : BitVec 3) (k : BitVec 9) (y : CalMove) (s : State), (s.cal.moves.find? (fun z => z.cls == c.toNat && z.item == k.toNat) = some y)) :=
  ⟨⟨U (R), by decide +kernel⟩,
   ⟨U (F PWR_BOOT F_PWR_BOOT_RECOVERY 1 R), by decide +kernel⟩,
   ⟨3, U (F PWR_BOOT F_PWR_BOOT_RECOVERY 1 R), by decide +kernel⟩,
   ⟨[112, 1, 2, 3, 4, 5, 6, 7, 8, 9, 10, 11, 12, 13, 14], F PWR_BOOT F_PWR_BOOT_RECOVERY 1 R, by decide +kernel⟩,
   ⟨[57, 1, 2, 3, 4, 5, 6, 7, 8, 9, 10, 11, 12, 13, 14], U (F PWR_BOOT F_PWR_BOOT_RECOVERY 1 R), by decide +kernel⟩,
   ⟨(1 : W32), F PWR_BOOT F_PWR_BOOT_RECOVERY 1 R, by decide +kernel⟩,
   ⟨0, 0x80000000, R, by decide +kernel⟩,
   ⟨0, 0x80000F03, scope 16, by decide +kernel⟩,
   ⟨0, 0x80003F01, scope 16, by decide +kernel⟩,
   ⟨([(6, -50), (7, 50), (8, 0)] : List (Nat × Int)), (2 : Nat), (2 : Nat), { R with cal := { R.cal with run := some (2, 2) } }, by decide +kernel⟩,
   ⟨([(6, -50), (7, 51), (8, 0)] : List (Nat × Int)), (2 : Nat), (2 : Nat), (7 : Nat), (51 : Int), { R with cal := { R.cal with run := some (2, 2) } }, by decide +kernel⟩,
   ⟨R, by decide +kernel⟩,
   ⟨2, 7, (⟨2, 7, -3⟩ : CalMove), { R with cal := { R.cal with moves := [{ cls := 2, item := 7, target := -3 }] } }, by decide +kernel⟩⟩

/-- States and operands that meet the hypotheses of PinsScan, clause by clause. -/
theorem witness_PinsScan :
    (∃ (o : BitVec 16) (s : State), (o.toNat < 256) ∧ (1 ≤ s.fld PWR_BOOT F_PWR_BOOT_STAGE) ∧ (s.plat.ghDown = false)) ∧
    (∃ (j : Nat) (s : State), (j < 32) ∧ ((1 ≤ s.fld PWR_BOOT F_PWR_BOOT_STAGE ∨ s.fld PWR_BOOT F_PWR_BOOT_RECOVERY = 1)) ∧ (s.plat.ghDown = false)) ∧
    (∃ (k : Nat) (s : State), (k < 256) ∧ (1 ≤ s.fld PWR_BOOT F_PWR_BOOT_STAGE) ∧ (s.plat.ghDown = false)) ∧
    (∃ (s : State), (s.plat.ghDown = false) ∧ (s.fld PWR_BOOT F_PWR_BOOT_STAGE = 0) ∧ (s.fld PWR_BOOT F_PWR_BOOT_RECOVERY = 0) ∧ (s.plat.rst = .run)) ∧
    (∃ (s : State), ((∀ h, h < 16 → spnState h s = 0 ∨ spnState h s = 7)) ∧ ((∀ a, a < 64 → loaded a s = false))) ∧
    (∃ (h : Nat) (a : Nat) (s : State), (h < 16) ∧ (a < 64) ∧ ((spnState h s ≠ 0 ∧ spnState h s ≠ 7 ∨ loaded a s = true))) :=
  ⟨⟨(255 : BitVec 16), F PWR_BOOT F_PWR_BOOT_STAGE 1 R, by decide +kernel⟩,
   ⟨(31 : Nat), modPins (fun p => { p with ptr := 240, copy := [(15, 7)] }) (F PWR_BOOT F_PWR_BOOT_RECOVERY 1 R), by decide +kernel⟩,
   ⟨(0 : Nat), F PWR_BOOT F_PWR_BOOT_STAGE 7 (G R), by decide +kernel⟩,
   ⟨R, by decide +kernel⟩,
   ⟨sp 15 7 (sp 3 0), by decide +kernel⟩,
   ⟨(15 : Nat), (0 : Nat), sp 15 8, by decide +kernel⟩⟩

/-- Commands of FramesMechanics that answer a next state, each with a state. -/
theorem witness_FramesMechanics_1 :
    answersAll [((.start 8 15), (F (SPN_STATE 15) F_SPN_STATE_FORCED 1 R)), ((.brake 0 3), (setActState 12 4 (sp 3 5))), ((.coast 0 3), (setActState 12 4 (sp 3 5))), ((.targetWrite 0 3 8000), (sp 3 5).setDom 103 false), ((.startMask 0 3), (sp 3 5).setDom 103 false), (.startAdmitted, (spnStart 5 (sp 5 0))), ((.alignDone 7), (sp 7 2)), ((.rampEnd 7), (sp 7 3)), ((.handover 7 7200), (modSpin 7 (fun x => { x with looking := true, crossings := 6 }) (sp 7 3))), ((.handoverTimeout 7), (modSpin 7 (fun x => { x with looking := true, accel := true }) (sp 7 3))), ((.pwmPeriod 1 1200 800 65000), (sp 1 3)), ((.skipRunLimit 1), (modSpin 1 (fun x => { x with skips := 8 }) R)), ((.zeroCrossing 1 2 100 (-300)), (F (SPN_STATE 1) F_SPN_STATE_DIR 1 (modSpin 1 (fun x => { x with step := 1, xs := [0, 0, 0, 0, 0, 0] }) (sp 1 3)))), ((.commutationStep 1), (modSpin 1 (fun x => { x with step := 6, stepDue := true }) (sp 1 5))), ((.currentLimit 1 2501 20000), (sp 1 2)), ((.overcurrentTrip 1 6001), (setActState 5 4 (sp 1 4))), ((.catchDecided 1 0 517000 6 12000), (sp 1 1)), ((.catchWindowExpired 1), (sp 1 1)), ((.atSpeedReached 1 115200), (modSpin 1 (fun x => { x with accel := true, revRun := 32, setpoint := 65536 * 7200 }) (sp 1 4))), ((.speedOutOfTolerance 1 116353), (sp 1 5)), ((.speedBandFault 1 109439), (setActState 4 4 (sp 1 5))), ((.spinupTimeout 1), (modSpin 1 (fun x => { x with accel := true }) (sp 1 4))), ((.below30Rpm 1), (sp 1 8)), ((.brakeHandoff 1 9599), (sp 1 6))] = true := by
  decide +kernel

/-- Commands of FramesMechanics that answer a next state, each with a state. -/
theorem witness_FramesMechanics_2 :
    answersAll [((.shortBrakeTimeout 1), (sp 1 8)), ((.chopperOn 0 13600), R), ((.chopperOff 3 13000), R), ((.chopperFault 1 14400 900), (sp 4 6 (sp 5 4))), ((.railOvervoltage 2 15200), (setActState 33 4 R)), ((.powerLossDetected 2 10799), (setActState 33 4 (sp 8 5 (sp 9 0 (sp 10 8))))), ((.servoWedge 3 115200 ([some 5, none]) 0xF), (setActState 12 4 (modAct 12 (fun x => { x with stripe := 3 }) (sp 3 5)))), ((.servoLost 38), (modAct 38 (fun x => { x with lostRun := 8 }) (setActState 38 4 R))), ((.timerLock 9 511), ({ sp 9 5 with engs := [(9, { syncRun := [0, 3, 4] })] })), ((.timerLockLost 9), (F (SRV_STATUS 9) F_SRV_STATUS_LOCKED 1 { sp 9 5 with engs := [(9, { lossRun := 8 })] })), ((.vcmSatFault 63), (modAct 63 (fun x => { x with vcmClamps := 256 }) (setActState 63 3 R))), ((.openLimitFault 0), (modAct 0 (fun x => { x with openRun := 64 }) (setActState 0 4 R))), ((.slotOpen 0 2 21), R), ((.slotClose 0 2 4), R), ((.coefPageWrite 0 2 20 35 0xFFFFFFFF), (modLoop 2 20 (fun x => { x with isOpen := true }) R)), ((.srvLoad 0 38), (F (LNK_STATE 38) F_LNK_STATE_MODE 2 (sp 9 5))), ((.srvUnload 0 38), (modAct 38 (fun x => { x with fence := 15 }) (F (SRV_ACT_STATE 38) F_SRV_ACT_STATE_WSET 15 (setActState 38 4 R)))), ((.srvSeek 0 38), (F (SRV_SEEK0 38) F_SRV_SEEK0_CYL 4 (F (SRV_ACT_LIMIT 38) F_SRV_ACT_LIMIT_MAX_CYL 100 (((F (SRV_PROF 9 0) F_SRV_PROF_V_MAX 100 (F (SRV_PROF 9 0) F_SRV_PROF_A_MAX 100 (setActState 38 4 R))).wr (SRV_SEEK1 38) 0x0098))))), ((.loadAcquired 1 77), (modAct 1 (fun x => { x with syncRun := 4, nextStripe := 15 }) (setActState 1 1 R))), ((.loadingTimeout 5), (setActState 5 1 R)), ((.trajectoryEnd 1), (modAct 1 (fun x => { x with traj := { n := 5, k := 5 }, nextStripe := 3 }) (setActState 1 2 R))), ((.readSettled 1), (modAct 1 (fun x => { x with readRun := 8, seekWedges := some 364 }) (setActState 1 3 R))), ((.writeSettled 1 3), (modAct 1 (fun x => { x with stripe := 15, wRun := [0, 0, 0, 12] }) (setActState 1 4 R))), ((.settleTimeout 5), (modAct 5 (fun x => { x with settleWedges := 512 }) (setActState 5 3 R)))] = true := by
  decide +kernel

/-- Commands of FramesMechanics that answer a next state, each with a state. -/
theorem witness_FramesMechanics_3 :
    answersAll [((.unloadComplete 1), (setActState 1 5 R)), ((.headLeavesStripe 1 3), (modAct 1 (fun x => { x with stripe := 15, missRun := [0, 0, 0, 4], outRevs := [0, 0, 0, 2] }) (setActState 1 4 R))), ((.headRejoins 1 2), (F (SRV_ACT_STATE 1) F_SRV_ACT_STATE_REACH_OUT 4 (modAct 1 (fun x => { x with stripe := 15 }) (setActState 1 4 R)))), ((.rejoinRunEnd 1 2), (modAct 1 (fun x => { x with stripe := 15, rejoin := [none, none, some 8] }) (setActState 1 4 R))), ((.sampleFrame 21 1 0x10000000000021 ([(true, 0)]) (0x2D + 9 * 256 + BitVec.ofNat 64 (65536 * frameCrc 0x10000000000021 [(true, 0)]))), (F (LNK_STATE 21) F_LNK_STATE_LOCKED 15 R)), ((.servoFrame 21 3 0x10000000000322 ([(true, 1)]) 0x92D), (F (LNK_STATE 21) F_LNK_STATE_LOCKED 15 R)), ((.status 63 0x840033), (F (WCH_STATE 63) F_WCH_STATE_GATE 15 (modAct 63 (fun x => { x with fence := 15 }) (F (LNK_SKEW 63) F_LNK_SKEW_DN_LOCKED 15 (setActState 63 6 R))))), ((.scmdLost 4), (modLnk 4 (fun x => { x with scmdErr := 8 }) (setActState 4 4 R))), ((.regData 21 (BitVec.ofNat 64 (0x1230000003C + 2^56 * crc 8 7 0 (leBytes 0x1230000003C 7)))), (modLnk 21 (fun x => { x with fe := some { tag := 2, write := false, addr := 5, data := 6, kind := .soft, again := false, held := false } }) R)), ((.invalidBlock 63 3), R), ((.laneQueueOverflow 4 2), (F (LNK_STATE 4) F_LNK_STATE_LOCKED 15 (F (LNK_STATE 4) F_LNK_STATE_MODE 2 R))), ((.blockLockLost 21 false 1), (F (LNK_STATE 21) F_LNK_STATE_LOCKED 15 (F (LNK_STATE 21) F_LNK_STATE_MODE 2 R))), ((.retrainAttemptEnd 21 false 1 true), (modUp 21 1 (fun x => { x with attempts := 3, retrain := true }) R)), ((.downstreamBlockSlot 21 1 false), ({ R with wOff := [(85, 3)], dn := [(85, { ret := [7], scmd := [0x66] })] })), ((.train 0 21), (F (LNK_STATE 21) F_LNK_STATE_UP_FAILED 2 (setActState 21 7 R))), ((.trainingEnd 21 0xFF 0 0xB046), (F (LNK_STATE 21) F_LNK_STATE_MODE 1 R)), ((.feRegWrite 0 21 0x0EFF1234), R), ((.feRegRead 0 21 0x0F080000), R), ((.feRegWriteRelease 21), (modLnk 21 (fun x => { x with fe := some { tag := 0, write := true, addr := 5, data := 6, kind := .soft, again := false, held := true } }) R)), ((.feRegTimeout 21), (modLnk 21 (fun x => { x with fe := some { tag := 2, write := false, addr := 5, data := 6, kind := .soft, again := true, held := false } }) R)), ((.alignBlock 4 3 8), (F (LNK_STATE 4) F_LNK_STATE_MODE 2 R))] = true := by
  decide +kernel

/-- Commands of FramesChannel that answer a next state, each with a state. -/
theorem witness_FramesChannel_1 :
    answersAll [((.readGateSectorStart 38 1 false), (wf 38 [fe 4 1 0 .open])), ((.syncMarkDecision 38 1), (hunt 38 1 (zbits 190 ++ poisonMark) (F (RCH_SYNC 38) F_RCH_SYNC_SYNC_WIN 8 <| wp 3 1 38 4 (wf 38 [fe 4 1 0 .open (some 3)])))), ((.sampleQueueOverflow 38 1 5), (wf 38 [fe 4 1 0 .filling])), ((.codewordStart 38 1), (wf 38 [fe 4 1 0 .open])), ((.codewordComplete 38 1), (modChain 38 1 (fun c => { c with phase := .data, n := 36470, bad := 1590 }) (wp 3 1 38 4 (wf 38 [fe 4 1 0 .filling (some 3)])))), ((.otfDecodeEnd 38 1), ({ wp 3 2 38 4 (wf 38 [gcode 38 (fe 4 1 0 .coded (some 3))]) with ldpc := [] })), ((.poolEccError 38 0 3 7 true), (wp 3 2 38 4 R)), (.drDispatch, (wp 3 3 38 4 (wf 38 [fe 4 1 0 .retained (some 3)]))), ((.drAttemptEnd 3 false), ({ R with pool := [(3, { st := 4, plan := [(0, 4, 25), (1, 4, 25)] })] })), ((.drRecovered 3 1 1 (ginfo 38 (fe 4 1 0 .coded))), drState), ((.retainedWaitAge 3), ({ wf 38 [fe 4 1 0 .retained (some 3)] with pool := [(3, { st := 3, act := 38, id := 4 })] })), ((.sectorFetch 38 1), (wf 38 [fe 4 1 2 .queued])), ((.codewordEncoded 38 1), (wf 38 [{ fe 4 1 2 .open with fetched := true }])), ((.sectorSendStart 38 1), (wf 38 [fe 4 1 2 .open])), ((.servoGuardCut 38 1), (wf 38 [{ fe 4 1 2 .sending with left := 5 }])), ((.writeSectorOutcome 38 1), (wf 38 [fe 4 1 2 .sending])), ((.uwNop 63), (modSeq 63 (fun q => { q with npc := 8191, g := [(3, 0xF0000001), (31, 0x12345678)] }) (seqStart 63 R))), ((.uwLdi 63 3 0x8F31), (modSeq 63 (fun q => { q with npc := 8191, g := [(3, 0xF0000001), (31, 0x12345678)] }) (seqStart 63 R))), ((.uwLui 63 3 0x8F31), (modSeq 63 (fun q => { q with npc := 8191, g := [(3, 0xF0000001), (31, 0x12345678)] }) (seqStart 63 R))), ((.uwMov 63 3 31), (modSeq 63 (fun q => { q with npc := 8191, g := [(3, 0xF0000001), (31, 0x12345678)] }) (seqStart 63 R))), ((.uwAdd 63 3 31), (modSeq 63 (fun q => { q with npc := 8191, g := [(3, 0xF0000001), (31, 0x12345678)] }) (seqStart 63 R))), ((.uwAddi 63 3 0x8F31), (modSeq 63 (fun q => { q with npc := 8191, g := [(3, 0xF0000001), (31, 0x12345678)] }) (seqStart 63 R))), ((.uwSub 63 3 31), (modSeq 63 (fun q => { q with npc := 8191, g := [(3, 0xF0000001), (31, 0x12345678)] }) (seqStart 63 R))), ((.uwAnd 63 3 31), (modSeq 63 (fun q => { q with npc := 8191, g := [(3, 0xF0000001), (31, 0x12345678)] }) (seqStart 63 R)))] = true := by
  decide +kernel

/-- Commands of FramesChannel that answer a next state, each with a state. -/
theorem witness_FramesChannel_2 :
    answersAll [((.uwAndi 63 3 0x8F31), (modSeq 63 (fun q => { q with npc := 8191, g := [(3, 0xF0000001), (31, 0x12345678)] }) (seqStart 63 R))), ((.uwOr 63 3 31), (modSeq 63 (fun q => { q with npc := 8191, g := [(3, 0xF0000001), (31, 0x12345678)] }) (seqStart 63 R))), ((.uwOri 63 3 0x8F31), (modSeq 63 (fun q => { q with npc := 8191, g := [(3, 0xF0000001), (31, 0x12345678)] }) (seqStart 63 R))), ((.uwXor 63 3 31), (modSeq 63 (fun q => { q with npc := 8191, g := [(3, 0xF0000001), (31, 0x12345678)] }) (seqStart 63 R))), ((.uwShli 63 3 0x8F31), (modSeq 63 (fun q => { q with npc := 8191, g := [(3, 0xF0000001), (31, 0x12345678)] }) (seqStart 63 R))), ((.uwShri 63 3 0x8F31), (modSeq 63 (fun q => { q with npc := 8191, g := [(3, 0xF0000001), (31, 0x12345678)] }) (seqStart 63 R))), ((.uwInsf 63 3 31 0x0064), (modSeq 63 (fun q => { q with npc := 8191, g := [(3, 0xF0000001), (31, 0x12345678)] }) (seqStart 63 R))), ((.uwExtf 63 3 31 0x0064), (modSeq 63 (fun q => { q with npc := 8191, g := [(3, 0xF0000001), (31, 0x12345678)] }) (seqStart 63 R))), ((.uwBeq 63 3 31 100), (modSeq 63 (fun q => { q with npc := 5, g := [(3, 0xF0000001), (31, 0x12345678)] }) (seqStart 63 R))), ((.uwBne 63 3 31 100), (modSeq 63 (fun q => { q with npc := 5, g := [(3, 0xF0000001), (31, 0x12345678)] }) (seqStart 63 R))), ((.uwBltu 63 3 31 100), (modSeq 63 (fun q => { q with npc := 5, g := [(3, 0xF0000001), (31, 0x12345678)] }) (seqStart 63 R))), ((.uwBgeu 63 3 31 100), (modSeq 63 (fun q => { q with npc := 5, g := [(3, 0xF0000001), (31, 0x12345678)] }) (seqStart 63 R))), ((.uwBbs 63 3 31 100), (modSeq 63 (fun q => { q with npc := 5, g := [(3, 0xF0000001), (31, 0x12345678)] }) (seqStart 63 R))), ((.uwBbc 63 3 31 100), (modSeq 63 (fun q => { q with npc := 5, g := [(3, 0xF0000001), (31, 0x12345678)] }) (seqStart 63 R))), ((.uwJmp 63 100), (modSeq 63 (fun q => { q with npc := 5, g := [(3, 0xF0000001), (31, 0x12345678)] }) (seqStart 63 R))), ((.uwCall 63 8192), (modSeq 63 (fun q => { q with npc := 5, g := [(3, 0xF0000001), (31, 0x12345678)] }) (seqStart 63 R))), ((.uwRet 63 8192), (modSeq 63 (fun q => { q with npc := 5, g := [(3, 0xF0000001), (31, 0x12345678)] }) (seqStart 63 R))), ((.uwLd 63 3 4 0xFFFF), (modSeq 63 (fun q => { q with g := [(4, 0xFFFFFFFF)] }) ((seqStart 63 R).wr (SEQ_SCRATCH 63 1022) 99))), ((.uwSt 63 4 4 0x0001), (modSeq 63 (fun q => { q with g := [(4, 0xFFFFFFFF)] }) (seqStart 63 R))), ((.uwLdd 63 4 0x1C), (F (SEQ_SLOTS 63) F_SEQ_SLOTS_RUN_VALID 1 (F (SEQ_SLOTS 63) F_SEQ_SLOTS_RUN_SLOT 9 ((seqStart 63 R).wr (SEQ_DESC 63 9 12) 77)))), ((.uwStd 63 4 12), (modSeq 63 (fun q => { q with g := [(4, 5)] }) (F (SEQ_SLOTS 63) F_SEQ_SLOTS_RUN_VALID 1 (F (SEQ_SLOTS 63) F_SEQ_SLOTS_RUN_SLOT 9 (seqStart 63 R))))), ((.uwRdp 63 3 0x0F), (modSeq 63 (fun q => { q with g := [(3, 7)] }) (seqStart 63 R))), ((.uwWrp 63 3 0x00), (modSeq 63 (fun q => { q with g := [(3, 7)] }) (seqStart 63 R))), ((.uwWait 63 4 0 0x03), (seqStart 63 R))] = true := by
  decide +kernel

/-- Commands of FramesChannel that answer a next state, each with a state. -/
theorem witness_FramesChannel_3 :
    answersAll [((.waitEnd 63), (modSeq 63 (fun q => { q with block := .wait 3 0 4 0 0, outq := [4] }) (setSeqState 63 3 (wf 63 [{ fe 4 1 0 .done with word := 0x80000007 }])))), ((.waitTimeout 63), (modSeq 63 (fun q => { q with block := .wait 2 0 4 0 0, g := [(4, 3)] }) (setSeqState 63 3 R))), ((.uwGate 63 4 0), (F (SEQ_SLOTS 63) F_SEQ_SLOTS_RUN_VALID 1 (F (SEQ_SLOTS 63) F_SEQ_SLOTS_RUN_SLOT 9 (seqStart 63 R)))), ((.gateStallEnd 63), (modSeq 63 (fun q => { q with block := .gate 0 0 }) (setSeqState 63 4 R))), ((.uwSeek 63 4 5), (modSeq 63 (fun q => { q with g := [(4, 0x30000), (5, 0xBA98)] }) (setActState 63 4 (seqStart 63 R)))), ((.uwZone 63 4 5), (F (RCH_ZONE1 63 0) F_RCH_ZONE1_RATE_MHZ 2400 (modLnk 63 (fun l => { l with rate := 2400 }) (seqStart 63 R)))), ((.zoneComplete 63), (F (RCH_ZONE1 63 0) F_RCH_ZONE1_RATE_MHZ 2400 (modLnk 63 (fun l => { l with rate := 2400 }) (modSeq 63 (fun q => { q with block := .zone 4 5 false }) (setSeqState 63 3 R))))), ((.uwOutq 63 4), (seqStart 63 R)), ((.uwPost 63 4 5 3), (F (SEQ_SLOTS 63) F_SEQ_SLOTS_RUN_VALID 1 (F (SEQ_SLOTS 63) F_SEQ_SLOTS_RUN_SLOT 9 (modSeq 63 (fun q => { q with g := [(4, 0x30000), (5, 0xFBA98)] }) ((seqStart 63 R).wr (SEQ_DESC 63 9 0) 0x70003))))), ((.uwNext 63 4), (modSeq 63 (fun q => { q with ops := [{ slot := 3, cls := 2 }, { slot := 7, cls := 0 }, { slot := 8, cls := 0 }] }) (seqStart 63 R))), ((.uwDone 63 4 5), (modSeq 63 (fun q => { q with npc := 6144 }) (seqStart 63 R))), ((.uwTrap 63 0x1FF), (modSeq 63 (fun q => { q with npc := 7000, g := [(3, 0xF0000001), (31, 0x12345678)] }) (seqStart 63 R))), ((.uwIllegal 63 0x9C000000), (modSeq 63 (fun q => { q with npc := 5, g := [(3, 0xF0000001), (31, 0x12345678)] }) (seqStart 63 R))), ((.allotWatchdog 63), (modSeq 63 (fun q => { q with allot := some 1, wdog := 577 }) (seqStart 63 R))), ((.storeEccError 63 false), (setSeqState 63 1 R)), ((.gateEntryOpen 63 1), (wf 63 [fe 4 1 0 .queued])), ((.seqPost 0 63 15), (setSeqState 63 1 R).wr (SEQ_DESC 63 15 0) 4), ((.seqCancel 0 63 7), (modSeq 63 (fun q => { q with ops := [{ slot := 3, cls := 2 }, { slot := 7, cls := 0 }] }) R)), ((.seqRun 0 63), (modSeq 63 (fun q => { q with g := [(4, 0x31), (5, 0xFBA98)], stack := [3] }) (setSeqState 63 5 R))), ((.seqHalt 0 63), (setSeqState 63 3 (wf 63 [fe 4 1 0 .queued, fe 5 1 2 .queued, fe 6 2 2 .open]))), ((.seqReload 0 63), (setSeqState 63 5 R)), ((.resultRecordRead 0 63), (modSeq 63 (fun q => { q with res := [(7, 8)] }) R)), ((.seqFmtWrite 0 63 31 false 0x01CE0258), R), ((.loadVerify 0), R)] = true := by
  decide +kernel

/-- Commands of FramesChannel that answer a next state, each with a state. -/
theorem witness_FramesChannel_4 :
    answersAll [(.loadVerifyEnd, (F SEQ_LOAD_STATUS F_SEQ_LOAD_STATUS_RESULT 1 R)), ((.loadCommit 0), R), ((.seqStoreReload 63), (setSeqState 63 6 R)), ((.dramSlot 7 0 false false), (R.setCtr (BUF_BW 7 11) (2 ^ 64 - 1)))] = true := by
  decide +kernel

/-- States that meet the further hypotheses of FramesChannel. -/
theorem witness_FramesChannel :
    outOn 0 R = [] ∧
    (∃ a l x r e, outOn 1 ({ (modSeq 38 (fun q => { q with fly := [fe 4 1 0 .out] }) R) with outqs := [(38, [{ id := 4, iters := 0, oc := 0, left := 1, user := ubytes }])] }) = a :: l ∧ outq a ({ (modSeq 38 (fun q => { q with fly := [fe 4 1 0 .out] }) R) with outqs := [(38, [{ id := 4, iters := 0, oc := 0, left := 1, user := ubytes }])] }) = x :: r ∧ flyGet a x.id ({ (modSeq 38 (fun q => { q with fly := [fe 4 1 0 .out] }) R) with outqs := [(38, [{ id := 4, iters := 0, oc := 0, left := 1, user := ubytes }])] }) = some e) :=
  ⟨by decide, ⟨38, [], _, [], _, by decide +kernel, rfl, rfl⟩⟩

/-- Commands of FramesStorageHost that answer a next state, each with a state. -/
theorem witness_FramesStorageHost_1 :
    answersAll [(.perst, R), (.functionLevelReset, (H 7 (io 2 0 8 1))), (.controllerReset, (modHif (fun h => { h with en := true, rdy := true }) (F PWR_BOOT F_PWR_BOOT_FW_READY 1 (H 7 (io 2 0 8 1))))), ((.ccEnable 0), (F PWR_BOOT F_PWR_BOOT_FW_READY 1 R)), ((.lookupRead 7 0), (F BUF_CLASS_CTL F_BUF_CLASS_CTL_RD_EN 1 ((R.wr (BUF_TE_KEY0 7) 0x00010040).wr (BUF_TE_KEY1 7) 8 |> modTag 9355 (fun _ => { st := 2, key := 0x800010040 })))), ((.lookupWrite 7 0), (R.wr (BUF_TE_KEY0 7) 0x00010040).wr (BUF_TE_KEY1 7) 8 |> modTag 9355 (fun _ => { st := 3, part := true, first := 1, last := 3, key := 0x800010040 })), ((.tagCommit 7 0x1FC000), (R.wr (BUF_TE_KEY0 7) 0x248).wr (BUF_TE_KEY1 7) 11 |> modTag 9355 (fun _ => { st := 3, part := true, first := 1, last := 3, key := 0x800010040 })), ((.tagRelease 7 0), (R.wr (BUF_TE_KEY0 7) 0x248).wr (BUF_TE_KEY1 7) 11 |> modTag 9355 (fun _ => { st := 3, pins := 1, first := 127, last := 0, key := 0x800010040 })), ((.fillDone 7 0), (F BUF_CLASS_CTL F_BUF_CLASS_CTL_RD_EN 1 ((R.wr (BUF_TE_KEY0 7) 0x248).wr (BUF_TE_KEY1 7) 11 |> modTag 9355 (fun _ => { st := 1, pins := 1, waiters := [(7, 3)], key := 0x800010040 })))), (.writebackRequest, (modTag 9355 (fun _ => { st := 3, due := true, first := 1, last := 3, key := 0x800010040 }) R)), ((.dirtyAgeExpired 584 11), (modTag 9355 (fun _ => { st := 3, first := 1, last := 3, key := 0x800010040 }) R)), (.wbRequestRead, R), ((.wbDone 3 0x0002C248), (modTag 9355 (fun _ => { st := 4, first := 1, last := 3, key := 0x800010040 }) R)), ((.wakeRead 7), R), (.raRequestRead, R), ((.wrEn 0 false), (F BUF_CLASS_CTL F_BUF_CLASS_CTL_WR_EN 1 (modTag 9355 (fun _ => { st := 3, key := 0x800010040 }) R))), ((.rdEn 0 true), (F BUF_CLASS_STATUS F_BUF_CLASS_STATUS_RD_STALE 1 (modTag 9355 (fun _ => { st := 2, key := 0x800010040 }) R))), ((.wayDisable 0 15), (setWayState 15 2 (F BUF_WAY_CTL F_BUF_WAY_CTL_EN 0xFFFF R))), ((.wayEnable 0 15), (F BUF_CFG F_BUF_CFG_RANK1_PRESENT 0x80 R)), ((.wayOff 15), (setWayState 15 3 R)), ((.wayOn 15), (setWayState 15 1 R)), ((.maintInval 3 1), (F BUF_MAINT_STATUS F_BUF_MAINT_STATUS_BUSY 1 R)), ((.maintClean 3 1), (F BUF_MAINT_STATUS F_BUF_MAINT_STATUS_BUSY 1 R)), ((.maintCleanInval 3 1), (F BUF_MAINT_STATUS F_BUF_MAINT_STATUS_BUSY 1 R))] = true := by
  decide +kernel

/-- Commands of FramesStorageHost that answer a next state, each with a state. -/
theorem witness_FramesStorageHost_2 :
    answersAll [((.maintDiscard 3 1), (F BUF_MAINT_STATUS F_BUF_MAINT_STATUS_BUSY 1 R)), ((.maintInvalClass 3 1), (F BUF_MAINT_STATUS F_BUF_MAINT_STATUS_BUSY 1 R)), ((.maintCleanAll 3 1), (F BUF_MAINT_STATUS F_BUF_MAINT_STATUS_BUSY 1 R)), (.maintEnd, (F BUF_MAINT_STATUS F_BUF_MAINT_STATUS_BUSY 1 (F BUF_CLASS_STATUS F_BUF_CLASS_STATUS_RD_STALE 1 (modBuf (fun b => { b with mOp := 5 }) R)))), ((.dramSlot 7 0 false false), (R.setCtr (BUF_BW 7 11) (2 ^ 64 - 1))), ((.dramEccError 0x1FFFFFFFFF true), R), ((.tagEccError 8191 15 true), R), (.scrubRead, R), ((.flipmaskArm 0x1000007008), (R.wr BUF_FLIPMASK2 0x80070001).wr BUF_FLIPMASK0 3), ((.sqTailDoorbell 1 63), (setSq 1 (some { cq := 1, prio := 0, size := 64 }) (F PWR_BOOT F_PWR_BOOT_FW_READY 1 R))), ((.cqHeadDoorbell 1 63), (setCq 1 (some { vec := 1, ien := true, size := 64 }) (F PWR_BOOT F_PWR_BOOT_FW_READY 1 R))), ((.entryFetch 1 2047 (mkSqe 2 1 0 0 7 0)), (setSq 1 (some { cq := 1, prio := 0, size := 64, tail := 3 }) (modHif (fun h => { h with en := true }) R))), ((.rangeLockGrant 9), (H 9 { io 1 0 8 2 with st := 0 })), ((.taskRead 0), (F HIF_ACT F_HIF_ACT_HOLD 1 (H 9 { io 2 0 8 2 with st := 1 }))), ((.xferRequest 7 0x40000009), (F (HIF_XFER2 7) F_HIF_XFER2_COUNT 512 (H 9 (io 1 0 8 2)))), ((.xferEnd 0 true ([]) ([])), (modHif (fun h => { h with xfers := [{ tag := 9, addr := 0x1000000000, dir := true, first := 0, count := 1 }] }) R)), ((.xferResultRead 0), (modHif (fun h => { h with xres := [(2047, 3, 1023, 511)] }) R)), ((.completionPost 7 0x47850009), (H 9 (io 1 0 8 2))), ((.completionWrite 9), (modHif (fun h => { h with cpls := [{ tag := 9, cq := 1, sqid := 1, sqhd := 3, cid := 5, status := 0, dw0 := 0, dw1 := 0 }] }) (setCq 1 (some { vec := 1, ien := true, size := 64, tail := 63, head := 5 }) (H 9 { io 1 0 8 2 with st := 3 })))), ((.urgRead 0), (R.wr HIF_URG1 77)), ((.hold 0 true), (F HIF_ACT F_HIF_ACT_HELD 5 R)), ((.linkL0Entry 6 16 true), ({ R with plat := { R.plat with perst := false } })), ((.aerError 3 0 0 false 12 ([1, 2, 3, 4])), R), ((.poisonedTlpWrite 2), R)] = true := by
  decide +kernel

/-- Commands of FramesStorageHost that answer a next state, each with a state. -/
theorem witness_FramesStorageHost_3 :
    answersAll [((.createIoSubmissionQueue 9), (setCq 1 (some { vec := 1, ien := true, size := 64 }) (H 9 (adm 1 0xFFF0080 0x10005)))), ((.createIoCompletionQueue 9), (H 9 (adm 5 0x3F0081 3))), ((.deleteIoSubmissionQueue 9), (setSq 1 (some { cq := 1, prio := 0, size := 64 }) (H 9 (adm 0 1 0)))), ((.deleteIoCompletionQueue 9), (setCq 1 (some { vec := 1, ien := true, size := 64 }) (H 9 (adm 4 1 0)))), ((.getLogPage 9), (H 9 (adm 2 0x3F0006 0))), ((.identify 9), (H 9 (adm 6 1 0))), ((.abort 9), (H 9 (adm 8 0x50001 0) (H 10 (io 2 0 8 1)))), ((.setFeatures 9), (H 9 (adm 9 7 0x00010001))), ((.setFeaturesVolatileWriteCache 9), (H 9 (adm 9 6 1))), ((.setFeaturesTimestamp 9 1780000000000), ({ H 9 (adm 9 0x0E 0) with sdl := { R.sdl with now := 123456789 } })), ((.getFeatures 9), (H 9 (adm 0x0A 1 0))), ((.getFeaturesTimestamp 9), (H 9 (adm 0x0A 0x0E 0))), ((.asynchronousEventRequest 9), (modHif (fun h => { h with aers := [1,2,3,4,5,6,7] }) (H 9 (adm 0x0C 0 0)))), ((.namespaceCreate 9 (leBytes 1 8 ++ leBytes 1 8 ++ List.replicate 3120 0)), (H 9 (adm 0x0D 0 0))), ((.namespaceDelete 9), (NS ns1 (H 9 (adm 0x0D 1 0 1)))), ((.namespaceAttachment 9 ([1, 0, 0, 0])), (NS { ns1 with attached := false } (H 9 (adm 0x15 0 0 1)))), ((.firmwareImageDownload 9 ([1, 2, 3, 4])), (H 9 (adm 0x11 0 5))), ((.firmwareCommit 9), (modHif (fun h => { h with runSlot := some 0 }) (H 9 (adm 0x10 9 0)))), ((.firmwareActivate 9), (modHif (fun h => { h with runSlot := some 0 }) (H 9 (adm 0x10 0x1A 0)))), (.activationDrainEnd, (modHif (fun h => { h with act := .drain 9 1 }) (H 9 (adm 0x10 0x1A 0)))), (.activationTimeout, (F HIF_ACT F_HIF_ACT_HOLD 1 (modHif (fun h => { h with act := .drain 9 1 }) (H 9 (adm 0x10 0x1A 0))))), (.activationHoldTimeout, (modHif (fun h => { h with act := .fresh 9 1 }) (H 9 (adm 0x10 0x1A 0)))), ((.sanitize 9), (H 9 (adm 0x84 2 0))), (.sanitizeEnd, (modHif (fun h => { h with sanit := some { passes := 16, pattern := 0, invert := false, pass := 16 } }) R))] = true := by
  decide +kernel

/-- Commands of FramesStorageHost that answer a next state, each with a state. -/
theorem witness_FramesStorageHost_4 :
    answersAll [((.flush 9), (H 9 (io 0 0 1 0))), ((.write 9 0), (NS ns1 (H 9 { io 1 0 8 2 with bad := some (1, 0xB8) }))), ((.compare 9 0x20000000 0x20100000 3), (F BUF_CLASS_CTL F_BUF_CLASS_CTL_RD_EN 1 (modTag 0 (fun _ => { st := 2, key := 0 }) (NS ns1 (H 9 { io 5 0 1 1 with moved := [(0, 1)] }))))), ((.writeZeroes 9), (F BUF_CLASS_CTL F_BUF_CLASS_CTL_WR_EN 1 (onWays (sp 9 5 (NS ns1 (H 9 (io 8 127 1 2))))))), ((.datasetManagement 9), (NS ns1 (H 9 (io 9 0 8 0)))), ((.verify 9), (sp 9 5 (NS ns1 (H 9 { io 0x0C 0 2 1 with media := [(0, 0), (1, 0)] })))), ((.zoneAppend 9 0), (F BUF_CLASS_CTL F_BUF_CLASS_CTL_WR_EN 1 (sp 9 5 (NS (ns1 true) (H 9 { io 0x7D 131072 8 2 with lba := 131080, moved := [(0, 8)] }))))), ((.zoneOpen 9), (sp 9 5 (NS { ns1 true with zones := [(1, 1, 5)] } (H 9 (io 0x79 131072 8 2 1))))), ((.zoneClose 9), (sp 9 5 (NS { ns1 true with zones := [(1, 1, 5)] } (H 9 (io 0x79 131072 8 2 1))))), ((.zoneFinish 9), (sp 9 5 (NS { ns1 true with zones := [(1, 1, 5)] } (H 9 (io 0x79 131072 8 2 1))))), ((.zoneReset 9), (sp 9 5 (NS { ns1 true with zones := [(1, 1, 5)] } (H 9 (io 0x79 131072 8 2 1))))), ((.reportZones 9), (NS (ns1 true) (H 9 (io 0x7A 0 1024 0)))), ((.invalidCommandOpcode 9), (H 9 (io 0x04 0 1 0))), ((.nvProgram 9 0), R), (.nvProgramEnd, (modNvs (fun n => { n with prog := some (0x1B00020, [1, 2, 3]) }) R)), ((.nvErase 0 0), (R.setDom 104 false)), ((.nvEraseEnd false false), (setErase 0 (some { sector := 108 }) R).wrNv 0x1B00021 0x7F), ((.nvSuspend 0 0), (setErase 0 (some { sector := 108 }) R)), ((.nvResume 0 0), (setErase 0 (some { sector := 108, susp := true }) R)), ((.nvBlankCheck 0 0x1E00000), R), ((.nvsWindowRead 0 0x1B00020 1), (F NVS_WS F_NVS_WS_WS 23 (R.wrNv 0x1B00021 0x7F))), ((.recordRead 0 5), (modNvs (fun n => { n with recw := some (0, []) }) R)), ((.recordWrite 0 5), (modNvs (fun n => { n with recw := some (0, []) }) R)), ((.recordWriteEnd false), (modNvs (fun n => { n with recw := some (5, [1, 2, 3, 4, 5]), head := 3, next := 7, seq := 70 }) R))] = true := by
  decide +kernel

/-- Commands of FramesStorageHost that answer a next state, each with a state. -/
theorem witness_FramesStorageHost_5 :
    answersAll [((.slotCommit 0 true), (modNvs (fun n => { n with commit := some (0, 0, 0, 0) }) R)), ((.slotCommitActivate 0 true), (modNvs (fun n => { n with commit := some (0, 0, 0, 0) }) R)), ((.slotActivate 0 true), (modNvs (fun n => { n with commit := some (0, 0, 0, 0) }) R)), ((.commitEnd 0 0), (modNvs (fun n => { n with commit := some (1, 2, 0, 0), cpos := { step := 6 } }) (actProgram 1 0 (VM 1 R)))), (.perstRelease, R), (.normalShutdown, (modHif (fun h => { h with en := true }) (F PWR_BOOT F_PWR_BOOT_FW_READY 1 (NS (ns1 true) R)))), ((.interruptCoalescingTimeout 1), (setCq 1 (some { vec := 2039, ien := true, size := 64, agg := 3 }) R)), ((.snapshotWrite false), (bufs [cap 0] (R.setDom 104 false)))] = true := by
  decide +kernel

/-- States that meet the further hypotheses of FramesStorageHost. -/
theorem witness_FramesStorageHost :
    (∃ x, (modHif (fun h => { h with xfers := [{ tag := 9, addr := 0x1000000000, dir := true, first := 0, count := 1 }] }) R).hif.xfers[0]? = some x) ∧
    (∃ x, task 9 (H 9 (adm 0x11 0 5)) = some x) ∧
    (∃ p, (modNvs (fun n => { n with prog := some (0x1E00008, [1, 2]) }) R).nvs.prog = some p) ∧
    (∃ e, NvBanks (setErase 0 (some { sector := 108 }) R) ∧ bankErase (b2n false) (setErase 0 (some { sector := 108 }) R) = some e) ∧
    (∃ p, (modNvs (fun n => { n with recw := some (5, [1, 2]) }) R).nvs.recw = some p) ∧
    (∃ k act a len, NvBanks (modNvs (fun n => { n with commit := some (1, 1, 0x20000000, 12324864) }) R) ∧
      (modNvs (fun n => { n with commit := some (1, 1, 0x20000000, 12324864) }) R).nvs.commit = some (k, act, a, len) ∧ len ≤ 12324864) ∧
    (∃ t k, (modHif (fun h => { h with act := .fresh 9 1 }) R).hif.act = .fresh t k) :=
  ⟨⟨_, rfl⟩, ⟨_, rfl⟩, ⟨_, rfl⟩, ⟨_, by decide, rfl⟩, ⟨_, rfl⟩, ⟨_, _, _, _, by decide, rfl, by decide⟩, ⟨_, _, rfl⟩⟩

/-- Commands of FramesPlatform that answer a next state, each with a state. -/
theorem witness_FramesPlatform_1 :
    answersAll [((.snapshotCaptureRead 0 0x49000030 false), R), ((.unmappedAccess 0 0x3000000000), R), ((.badWidthAccess 0 0x49000014 (8 : Nat)), R), ((.poweredOffAccess 0 0x40FC0000), (R.setDom 63 false)), ((.hostReservedAccess (0 : Slot) 0x3FFC (4 : Nat) false), ({ R with rdata := 5 })), ((.bootStageEnd (2 : Slot) true (240 : Byte)), (F PWR_BOOT F_PWR_BOOT_STAGE 1 R)), (.sysRstNAssert, R), ((.sysRstNRelease (1 : Slot) true), R), ((.chipReset 0 0x1), R), ((.coreReset 0 0x80000008), ({ R with locks := [(7, { held := true, owner := 3 })] })), ((.actuatorReset 0 0x80000005), R), ((.domainOn 9 (3 : BitVec 7)), R), ((.domainOff 9 (3 : BitVec 7)), R), (.domainOnComplete, (modPlat (fun p => { p with domPend := some 104 }) (R.setDom 104 false))), ((.coreWaitPowerOff 3), (modPlat (fun p => { p with coreOffReq := [(3, true)] }) R)), ((.fabricFreqChange 9 3), R), (.referenceLost, R), (.referenceRestored, R), ((.fwReady 0), (modHif (fun h => { h with en := true }) R)), ((.recInfo 5 0), (U (R))), ((.recWrite 5 ([])), (U (R))), ((.recCommit 5 ([]) 0), (U (R))), ((.calRun 0 0x80000000), R), ((.calRunEnd ([(6, -50), (7, 50), (8, 0)] : List (Nat × Int))), ({ R with cal := { R.cal with run := some (2, 2) } }))] = true := by
  decide +kernel

/-- Commands of FramesPlatform that answer a next state, each with a state. -/
theorem witness_FramesPlatform_2 :
    answersAll [((.calStep 2 7), ({ R with cal := { R.cal with moves := [{ cls := 2, item := 7, target := -3 }] } })), ((.powerLossBrakeEnd 9 9600), (powerBrake 9 (sp 9 5))), ((.railRecovered 2 11400), (F (GH_RAIL 2) F_GH_RAIL_PWRLOSS 1 R)), ((.securitySend 9 ([])), (H 9 (adm 0x81 0x01000000 0))), ((.securityReceive 9), (H 9 (adm 0x82 0 0))), ((.read 9 0), (NS ns1 (H 9 (io 2 524287 2 1)))), ((.kioskPost 3 8 true 5), R), ((.kioskReceive 3 8 true), R), ((.kioskDiscRead 3 8 true), R), ((.getInfo 2 7 0), (U (sp 9 5))), ((.hdaState 2 7 0), (U (sp 9 5))), ((.spinDown 2 7 [(0x200 : W32)]), (modSeq 38 (fun q => { q with ops := [{ slot := 1, cls := 0 }] }) R)), ((.spinUp 2 7 [(0x200 : W32)]), (R.setDom 37 false)), ((.ways 2 7 [(0 : W32)]), (U (F BUF_WAY_CTL F_BUF_WAY_CTL_EN 0 R))), ((.setSubsys 2 7 [(17 : W32)]), (U (R))), ((.setAccel 2 7 [(16 : W32)]), (U (R))), ((.iceClear 2 9 (List.replicate 17 (5 : W32))), (U (R))), ((.shedChallenge 2 7 [(32 : W32)]), (U (R))), ((.shedResponse 2 7 (List.replicate 17 (1 : W32))), (U (modSec (fun x => { x with nonce := some (key0, 2) }) R))), ((.echo 2 7 ([5, 6] : List W32)), ({ R with replies := [{ chan := 2, toEnd := 1, words := [1, 2] }] })), ((.unknownOp 2 0x77 7), (U (R))), (.messageReply, (U ({ R with replies := [{ chan := 3, toEnd := 1, words := [1, 2] }] }))), ((.lockAcquire 3 9), (setStile 9 { held := false, broken := true, owner := 0 } R)), ((.lockRelease 3 9), (setStile 9 { held := true, broken := true, owner := 3 } R))] = true := by
  decide +kernel

/-- Commands of FramesPlatform that answer a next state, each with a state. -/
theorem witness_FramesPlatform_3 :
    answersAll [((.lockBreak 4 9), (setStile 9 { held := true, broken := false, owner := 3 } R)), ((.dmaStart 0 5 0x80000000), (dmb 5 0 0x20000000 0x20001000 64)), ((.dmaStop 0 5), (dmb 5 0 0x20000000 0x20001000 64)), (.dmaBurst, R), ((.ghInfo 3 7 0), (F GH_ID F_GH_ID_RUNNING 0 R)), ((.setFence 3 7 ([1, 2] : List W32)), (F GH_ID F_GH_ID_RUNNING 0 R)), ((.retract 3 7 ([1, 2] : List W32)), (F GH_ID F_GH_ID_RUNNING 0 R)), ((.recover 3 7 ([1, 2] : List W32) 0), (F GH_ID F_GH_ID_RUNNING 0 R)), ((.releaseSpindle 3 7 ([1, 2] : List W32)), (F GH_ID F_GH_ID_RUNNING 0 R)), ((.chopperTest 3 7 ([1, 2] : List W32)), (F GH_ID F_GH_ID_RUNNING 0 R)), ((.chopperTestEnd 2 500 true), (U (modGh (fun g => { g with chopTest := [(2, [(3, 9)])] }) (F (GH_RAIL 2) F_GH_RAIL_REGEN_INHIBIT 1 G)))), ((.setNotice 3 7 ([1, 2] : List W32)), (F GH_ID F_GH_ID_RUNNING 0 R)), ((.inject 3 7 ([1, 2] : List W32) 0), (F GH_ID F_GH_ID_RUNNING 0 R)), ((.retractRegTimeout 5), (lk 5 3 (rtr 5 { active := true, tried := [0] } R))), ((.retractPoll 5 1), (lk 5 3 (rtr 5 { active := true, tried := [0] } R))), ((.retractTimeout 5 false), (lk 5 3 (rtr 5 { active := true, tried := [0] } R))), ((.supplyExcursion 1 891), R), ((.supplyFault 1 891), (F GH_SUPPLY F_GH_SUPPLY_NOW 2 (setActState 5 4 R))), (.supplyRecovered, (writeInhibitAll G)), ((.temperatureSample 150), R), (.thermalDetected, (F GH_TEMP F_GH_TEMP_TJ 151 (setActState 5 4 R))), (.thermalGrave, (F GH_TEMP F_GH_TEMP_TJ 165 R)), (.lockstepMismatch, (setActState 5 4 (sp 9 5 G))), (.ghSramUncorrectable, (setActState 5 4 (sp 9 5 G)))] = true := by
  decide +kernel

/-- Commands of FramesPlatform that answer a next state, each with a state. -/
theorem witness_FramesPlatform_4 :
    answersAll [((.noticeRead 9 2), (F (GH_NOTICE 2) F_GH_NOTICE_PENDING 1 R)), ((.supplyStickyRead 9), (F GH_SUPPLY F_GH_SUPPLY_STICKY 5 R)), ((.sundialRead 9), ({ R with sdl := { R.sdl with now := 0x123456789A } })), ((.epochHiWrite 0 5), R), ((.epochLoWrite 0 5), ({ R with sdl := { R.sdl with epochHi := 7 } })), ((.compareWrite 0 3 false 5), ({ R with sdl := { R.sdl with cmpHi := [(3, 7)] } })), ((.timerCompare 3), (F (SDL_CMP_CTL 3) F_SDL_CMP_CTL_ARM 1 R)), ((.histogramSample .rail 12000), (R.wr (ICE_EXT_MIN 1) 11000).wr (ICE_EXT_MAX 1) 13000), ((.snapshotCapture 2), (due [0, 2] (emit 0x1001 R))), ((.snapshotWrite false), (bufs [cap 0] (R.setDom 104 false))), ((.foldAdd 0 26 5), R), ((.icehouseClear 0), R), ((.imageVerify 9), R), (.imageVerifyEnd, (modSec (fun x => { x with verify := some 0x20000000 }) R)), ((.measurementExtend 0 0x80000006), (R.setDom 105 false)), ((.keyEnroll 0), R), ((.shedClose 3), (scope 31)), (.nonceExpired, (modSec (fun x => { x with nonce := some (key0, 2) }) (scope 31))), (.spdmGetVersion, (spdmAt 1 [0x12, 0xE1] (R.setDom 105 false))), (.spdmGetCapabilities, (spdmAt 1 [0x12, 0xE1] (R.setDom 105 false))), (.spdmNegotiateAlgorithms, (spdmAt 1 [0x12, 0xE1] (R.setDom 105 false))), (.spdmGetDigests, (spdmAt 1 [0x12, 0xE1] (R.setDom 105 false))), (.spdmGetCertificate, (spdmAt 1 [0x12, 0xE1] (R.setDom 105 false))), (.spdmChallenge, (spdmAt 1 [0x12, 0xE1] (R.setDom 105 false)))] = true := by
  decide +kernel

/-- Commands of FramesPlatform that answer a next state, each with a state. -/
theorem witness_FramesPlatform_5 :
    answersAll [(.spdmGetMeasurements, (spdmAt 1 [0x12, 0xE1] (R.setDom 105 false))), ((.smbusSetPointer (255 : BitVec 16)), (F PWR_BOOT F_PWR_BOOT_STAGE 1 R)), (.smbusBlockRead, (modPins (fun p => { p with ptr := 240, copy := [(15, 7)] }) (F PWR_BOOT F_PWR_BOOT_RECOVERY 1 R))), (.smbusCopyRefresh, (F PWR_BOOT F_PWR_BOOT_STAGE 7 (G R))), (.bypass, R), (.idcode, R), ((.samplePreload ([true] : List Bool) ([false] : List Bool)), R), (.extest, (sp 15 7 (sp 3 0))), (.clamp, (sp 15 7 (sp 3 0))), (.highz, (sp 15 7 (sp 3 0))), ((.configurationRequest 1 false 0), R), (.faultAgedOut, ({ modGh (fun g => { g with faultTimes := [(5, [1, 86400000000000])] }) R with sdl := { R.sdl with now := 86400000000005 } }))] = true := by
  decide +kernel

/-- States that meet the further hypotheses of FramesPlatform. -/
theorem witness_FramesPlatform :
    R.plat.rst = .run ∧
    NvBanks R :=
  ⟨rfl, by decide⟩

end Sys2Proof.Tests
end

namespace Sys2Proof.Machine

/- One by one: side by side these many short proofs run into the limit of memory. -/
set_option Elab.async false

/-! ### What a run of operations keeps

`Keeps s₀ s` holds from a state to itself, and each operation of the model carries it on: its lemma `Keeps.<operation>` is put together from the
lemmas of the operations that it calls, along its conditions, cases and loops, so no operation is looked into twice. The lemmas stand in the
order of the model's files. For a command the lemma says `Answers`. -/

/-- What the canonical form, the queue and the banks speak of. -/
def State.kept (s : State) :
    List Host.Cell × List Host.Cell × List (Nat × W32) × List (Nat × Nat) × List Instr × List (Nat × Option NvErase) × Option (Nat × Nat × Nat × Nat) :=
  (s.mem, s.nv, s.regs, s.ctrs, s.pending, s.nvs.erase, s.nvs.commit)

/-- From `s₀` to `s` the canonical form and the banks of the NV store are kept, and the queue of waiting commands is the same. -/
structure Keeps (s₀ s : State) : Prop where
  canonical : Canonical s₀ → Canonical s
  banks : NvBanks s₀ → NvBanks s
  pending : s.pending = s₀.pending

/-- A command answers a next state, and what is to be kept is kept. -/
def Answers (s₀ : State) (o : Host.Outcome State Fault Refusal) : Prop := ∃ t, o = .next t ∧ Keeps s₀ t

/-! ### The banks of the NV store -/

theorem mem_of_tget_eq_some {α : Type} {t : List (Nat × Option α)} {k : Nat} {x : α} (h : tget none t k = some x) : (k, some x) ∈ t := by
  induction t with
  | nil => cases h
  | cons e r ih =>
    obtain ⟨k', v⟩ := e
    rw [tget] at h
    split at h
    · next hk => subst hk h; exact List.mem_cons_self
    · exact List.mem_cons_of_mem _ (ih h)

theorem mem_tput {α : Type} [DecidableEq α] {d : α} {t : List (Nat × α)} {k : Nat} {v : α} {x : Nat × α} (h : x ∈ tput d t k v) :
    x = (k, v) ∨ x ∈ t := by
  unfold tput at h
  split at h
  · exact .inr (List.mem_filter.1 h).1
  · exact tins_mem h

/-- An erase in progress is of a sector of its bank. -/
theorem NvBanks.bankOf_sector {s : State} (hb : NvBanks s) {b : Nat} {e : NvErase} (h : bankErase b s = some e) : b = bankOf e.sector :=
  hb.1 _ (mem_of_tget_eq_some h) e rfl

/-- An erase in progress that is changed stays one of a sector of its bank. -/
theorem NvBanks.bankOf_sector_map {s : State} (hb : NvBanks s) {b : Nat} {f : NvErase → NvErase} (hf : ∀ e, (f e).sector = e.sector) :
    ∀ x ∈ (bankErase b s).map f, b = bankOf x.sector := by
  intro x hx
  obtain ⟨e, he, rfl⟩ := Option.map_eq_some_iff.1 hx
  rw [hf]
  exact hb.bankOf_sector he

/-- An erase of a sector of its bank is stored. -/
theorem NvBanks.setErase {s : State} (hb : NvBanks s) {b : Nat} {e : Option NvErase} (he : ∀ x ∈ e, b = bankOf x.sector) :
    NvBanks (setErase b e s) := by
  refine ⟨fun y hy x hx => ?_, hb.2⟩
  rcases mem_tput hy with rfl | hy
  · exact he x hx
  · exact hb.1 y hy x hx

/-- The commit engine takes up work on a slot, or is free. -/
theorem NvBanks.setCommit {s : State} (hb : NvBanks s) {f : NvSt → NvSt} (he : (f s.nvs).erase = s.nvs.erase)
    (hc : ∀ c ∈ (f s.nvs).commit, c.1 < 2) : NvBanks (modNvs f s) := ⟨he ▸ hb.1, hc⟩

namespace Keeps

variable {s₀ s t u : State}

protected theorem refl (s : State) : Keeps s s := ⟨id, id, rfl⟩

protected theorem trans (h : Keeps s₀ s) (h' : Keeps s t) : Keeps s₀ t :=
  ⟨h'.canonical ∘ h.canonical, h'.banks ∘ h.banks, h'.pending.trans h.pending⟩

/-- An intermediate state is used as often as need be. -/
protected theorem use (h : Keeps s₀ s) (k : Keeps s₀ s → Keeps s₀ t) : Keeps s₀ t := k h

protected theorem ite {c : Prop} [Decidable c] (h : Keeps s₀ t) (h' : Keeps s₀ u) : Keeps s₀ (if c then t else u) := by
  split
  · exact h
  · exact h'

/-- The state of a result. -/
protected theorem pair {α : Type} {a : α} (h : Keeps s₀ s) : Keeps s₀ (a, s).2 := h

/-- The states of results under a condition. -/
protected theorem iteSnd {α : Type} {c : Prop} [Decidable c] {p q : α × State} (h : Keeps s₀ p.2) (h' : Keeps s₀ q.2) :
    Keeps s₀ (if c then p else q).2 := by
  split
  · exact h
  · exact h'

protected theorem iteSnd₂ {α β : Type} {c : Prop} [Decidable c] {p q : α × β × State} (h : Keeps s₀ p.2.2) (h' : Keeps s₀ q.2.2) :
    Keeps s₀ (if c then p else q).2.2 := by
  split
  · exact h
  · exact h'

protected theorem iteFst {α : Type} {c : Prop} [Decidable c] {p q : State × α} (h : Keeps s₀ p.1) (h' : Keeps s₀ q.1) :
    Keeps s₀ (if c then p else q).1 := by
  split
  · exact h
  · exact h'

/-- One of two operations under a condition. -/
protected theorem iteFun {c : Prop} [Decidable c] {f g : State → State} (h : Keeps s₀ (f s)) (h' : Keeps s₀ (g s)) :
    Keeps s₀ ((if c then f else g) s) := by
  split
  · exact h
  · exact h'

/-- Parts of the state that neither the canonical form nor the banks speak of may change. -/
protected theorem same (h : Keeps s₀ s) (e : t.kept = s.kept := by rfl) : Keeps s₀ t := by
  obtain ⟨mem, nv, regs, ctrs, pending, erase, commit⟩ : t.mem = s.mem ∧ t.nv = s.nv ∧ t.regs = s.regs ∧ t.ctrs = s.ctrs ∧
      t.pending = s.pending ∧ t.nvs.erase = s.nvs.erase ∧ t.nvs.commit = s.nvs.commit := by simpa [State.kept] using e
  refine h.trans ⟨?_, ?_, pending⟩
  · simp only [Canonical, Memory.wf, mem, nv, regs, ctrs, imp_self]
  · simp only [NvBanks, erase, commit, imp_self]

/-! ### Parts of the state that neither the canonical form nor the banks speak of -/

protected theorem snap {v : List (Nat × W32)} (h : Keeps s₀ s) : Keeps s₀ { s with snap := v } := h.same
protected theorem poison {v : List (Nat × Byte)} (h : Keeps s₀ s) : Keeps s₀ { s with poison := v } := h.same
protected theorem rdata {v : W32} (h : Keeps s₀ s) : Keeps s₀ { s with rdata := v } := h.same
protected theorem busErr {v : Bool} (h : Keeps s₀ s) : Keeps s₀ { s with busErr := v } := h.same
protected theorem dataExc {v : Bool} (h : Keeps s₀ s) : Keeps s₀ { s with dataExc := v } := h.same
protected theorem plat {v : PlatSt} (h : Keeps s₀ s) : Keeps s₀ { s with plat := v } := h.same
protected theorem gh {v : GhSt} (h : Keeps s₀ s) : Keeps s₀ { s with gh := v } := h.same
protected theorem sdl {v : SdlSt} (h : Keeps s₀ s) : Keeps s₀ { s with sdl := v } := h.same
protected theorem ice {v : IceSt} (h : Keeps s₀ s) : Keeps s₀ { s with ice := v } := h.same
protected theorem cal {v : CalSt} (h : Keeps s₀ s) : Keeps s₀ { s with cal := v } := h.same
protected theorem ksk {v : List (Nat × List KItem)} (h : Keeps s₀ s) : Keeps s₀ { s with ksk := v } := h.same
protected theorem replies {v : List HeldReply} (h : Keeps s₀ s) : Keeps s₀ { s with replies := v } := h.same
protected theorem locks {v : List (Nat × LockSt)} (h : Keeps s₀ s) : Keeps s₀ { s with locks := v } := h.same
protected theorem msix {v : List Nat} (h : Keeps s₀ s) : Keeps s₀ { s with msix := v } := h.same
protected theorem asm {v : List (Nat × MsgAsm)} (h : Keeps s₀ s) : Keeps s₀ { s with asm := v } := h.same
protected theorem held {v : List HeldMsg} (h : Keeps s₀ s) : Keeps s₀ { s with held := v } := h.same
protected theorem dmaLast {v : Nat × Nat} (h : Keeps s₀ s) : Keeps s₀ { s with dmaLast := v } := h.same
protected theorem spn {v : List (Nat × Spindle)} (h : Keeps s₀ s) : Keeps s₀ { s with spn := v } := h.same
protected theorem spnQueue {v : List Nat} (h : Keeps s₀ s) : Keeps s₀ { s with spnQueue := v } := h.same
protected theorem loops {v : List (Nat × LoopSt)} (h : Keeps s₀ s) : Keeps s₀ { s with loops := v } := h.same
protected theorem acts {v : List (Nat × ActSt)} (h : Keeps s₀ s) : Keeps s₀ { s with acts := v } := h.same
protected theorem engs {v : List (Nat × EngSt)} (h : Keeps s₀ s) : Keeps s₀ { s with engs := v } := h.same
protected theorem wOff {v : List (Nat × Nat)} (h : Keeps s₀ s) : Keeps s₀ { s with wOff := v } := h.same
protected theorem dn {v : List (Nat × DnLane)} (h : Keeps s₀ s) : Keeps s₀ { s with dn := v } := h.same
protected theorem up {v : List (Nat × UpLane)} (h : Keeps s₀ s) : Keeps s₀ { s with up := v } := h.same
protected theorem lnks {v : List (Nat × LnkSt)} (h : Keeps s₀ s) : Keeps s₀ { s with lnks := v } := h.same
protected theorem seqs {v : List (Nat × SeqSt)} (h : Keeps s₀ s) : Keeps s₀ { s with seqs := v } := h.same
protected theorem seqMaster {v : Option SeqImage} (h : Keeps s₀ s) : Keeps s₀ { s with seqMaster := v } := h.same
protected theorem seqStaged {v : Option SeqImage} (h : Keeps s₀ s) : Keeps s₀ { s with seqStaged := v } := h.same
protected theorem pool {v : List (Nat × PoolSlot)} (h : Keeps s₀ s) : Keeps s₀ { s with pool := v } := h.same
protected theorem poolOrd {v : Nat} (h : Keeps s₀ s) : Keeps s₀ { s with poolOrd := v } := h.same
protected theorem chains {v : List (Nat × Chain)} (h : Keeps s₀ s) : Keeps s₀ { s with chains := v } := h.same
protected theorem outqs {v : List (Nat × List OutSec)} (h : Keeps s₀ s) : Keeps s₀ { s with outqs := v } := h.same
protected theorem ldpc {v : List (List (Option Nat))} (h : Keeps s₀ s) : Keeps s₀ { s with ldpc := v } := h.same
protected theorem dram {v : List (Nat × DramCh)} (h : Keeps s₀ s) : Keeps s₀ { s with dram := v } := h.same
protected theorem buf {v : BufSt} (h : Keeps s₀ s) : Keeps s₀ { s with buf := v } := h.same
protected theorem flips {v : List (Nat × Nat × Nat)} (h : Keeps s₀ s) : Keeps s₀ { s with flips := v } := h.same
protected theorem hif {v : HifSt} (h : Keeps s₀ s) : Keeps s₀ { s with hif := v } := h.same
protected theorem sec {v : SecSt} (h : Keeps s₀ s) : Keeps s₀ { s with sec := v } := h.same
protected theorem pins {v : PinSt} (h : Keeps s₀ s) : Keeps s₀ { s with pins := v } := h.same
protected theorem freeCtr {v : Nat} (h : Keeps s₀ s) : Keeps s₀ { s with freeCtr := v } := h.same

/-! ### Registers, counters, memory and the NV store -/

protected theorem wr {r : Reg} {v : W32} (h : Keeps s₀ s) : Keeps s₀ (s.wr r v) := h.trans ⟨wr_canonical s r v, id, rfl⟩

protected theorem setCtr {k n : Nat} (h : Keeps s₀ s) : Keeps s₀ (s.setCtr k n) := h.trans ⟨setCtr_canonical s k n, id, rfl⟩

protected theorem resetKeys {p : Nat → Bool} {ds : List Dom} (h : Keeps s₀ s) : Keeps s₀ (resetKeys p ds s) :=
  h.trans ⟨resetKeys_canonical p ds s, id, rfl⟩

protected theorem wrByte {a : Nat} {b : Byte} (h : Keeps s₀ s) : Keeps s₀ (s.wrByte a b) :=
  h.trans ⟨wrBytes_canonical s a [b], id, rfl⟩

protected theorem wrBytes {a : Nat} {l : List Byte} (h : Keeps s₀ s) : Keeps s₀ (s.wrBytes a l) :=
  h.trans ⟨wrBytes_canonical s a l, by rw [wrBytes_eq]; exact id, by rw [wrBytes_eq]⟩

protected theorem wrNv {o : Nat} {b : Byte} (h : Keeps s₀ s) : Keeps s₀ (s.wrNv o b) := h.trans ⟨wrNvs_canonical s o [b], id, rfl⟩

protected theorem wrNvs {o : Nat} {l : List Byte} (h : Keeps s₀ s) : Keeps s₀ (s.wrNvs o l) :=
  h.trans ⟨wrNvs_canonical s o l, by rw [wrNvs_eq]; exact id, by rw [wrNvs_eq]⟩

protected theorem nvClear {off n : Nat} (h : Keeps s₀ s) : Keeps s₀ (nvClear off n s) := h.trans ⟨nvClear_canonical off n s, id, rfl⟩

/-! ### Conditions and lists -/

protected theorem onlyIf {c : Bool} {f : State → State} (h : Keeps s₀ s) (hf : ∀ t, Keeps s₀ t → Keeps s₀ (f t)) : Keeps s₀ (onlyIf c f s) :=
  .ite (hf s h) h

protected theorem each {α : Type} {l : List α} {f : α → State → State} (h : Keeps s₀ s) (hf : ∀ x t, Keeps s₀ t → Keeps s₀ (f x t)) :
    Keeps s₀ (each l f s) := each_keeps (Keeps s₀) l f s hf h

protected theorem foldl {α : Type} {l : List α} {f : State → α → State} (h : Keeps s₀ s) (hf : ∀ t x, Keeps s₀ t → Keeps s₀ (f t x)) :
    Keeps s₀ (l.foldl f s) := by
  induction l generalizing s with
  | nil => exact h
  | cons x r ih => exact ih (hf s x h)

/-! ### The erases and the commit of the NV store -/

/-- A change of the NV store after which the banks are still as they must be. -/
protected theorem modNvsBanks {f : NvSt → NvSt} (h : Keeps s₀ s) (hb : NvBanks s → NvBanks (modNvs f s)) : Keeps s₀ (modNvs f s) :=
  h.trans ⟨id, hb, rfl⟩

/-- A change of the NV store that leaves its erases and its commit. -/
protected theorem modNvs {f : NvSt → NvSt} (h : Keeps s₀ s) (he : (f s.nvs).erase = s.nvs.erase := by rfl)
    (hc : (f s.nvs).commit = s.nvs.commit := by rfl) : Keeps s₀ (modNvs f s) :=
  h.same (by simp only [State.kept, Sys2Proof.Machine.modNvs, he, hc])

/-- The erase of a bank is stored, or ends. -/
protected theorem setErase {b : Nat} {e : Option NvErase} (h : Keeps s₀ s) (he : NvBanks s → ∀ x ∈ e, b = bankOf x.sector := by simp) :
    Keeps s₀ (setErase b e s) := h.modNvsBanks fun hb => hb.setErase (he hb)

end Keeps

namespace Answers

variable {s₀ s : State} {o o' : Host.Outcome State Fault Refusal}

protected theorem ok (h : Keeps s₀ s) : Answers s₀ (ok s) := ⟨s, rfl, h⟩

protected theorem ite {c : Prop} [Decidable c] (h : Answers s₀ o) (h' : Answers s₀ o') : Answers s₀ (if c then o else o') := by
  split
  · exact h
  · exact h'

end Answers

variable {s₀ s : State}

/-! ### Registers, counters, memory and free values -/

protected theorem Keeps.setf {r : Reg} {f : Fld} {n : Nat} (h : Keeps s₀ s) : Keeps s₀ (s.setf r f n) := h.wr

protected theorem Keeps.flag {r : Reg} {f : Fld} (h : Keeps s₀ s) : Keeps s₀ (s.flag r f) := h.setf

protected theorem Keeps.incSat {r : Reg} {k : Nat} (h : Keeps s₀ s) : Keeps s₀ (s.incSat r k) := h.wr

protected theorem Keeps.incWrap {r : Reg} {k : Nat} (h : Keeps s₀ s) : Keeps s₀ (s.incWrap r k) := h.wr

protected theorem Keeps.clr {r : Reg} (h : Keeps s₀ s) : Keeps s₀ (s.clr r) := h.wr

protected theorem Keeps.ctrSat {k w n : Nat} (h : Keeps s₀ s) : Keeps s₀ (s.ctrSat k w n) := h.setCtr

protected theorem Keeps.ctrWrap {k w n : Nat} (h : Keeps s₀ s) : Keeps s₀ (s.ctrWrap k w n) := h.setCtr

protected theorem Keeps.deny (h : Keeps s₀ s) : Keeps s₀ (deny s) := h.incSat

protected theorem Keeps.badAccess (h : Keeps s₀ s) : Keeps s₀ (badAccess s) := h.incSat

protected theorem Keeps.setPoison {a : Nat} {b : Bool} (h : Keeps s₀ s) : Keeps s₀ (s.setPoison a b) := h.poison

protected theorem Keeps.flipTake {a n : Nat} (h : Keeps s₀ s) : Keeps s₀ (flipTake a n s) := by
  unfold flipTake
  refine .ite ?_ ?_
  · exact h
  · split
    · exact h
    · exact h.setf.flips

protected theorem Keeps.wrMem {a : Nat} {l : List Byte} (h : Keeps s₀ s) : Keeps s₀ (s.wrMem a l) := .ite h.badAccess h.wrBytes.flipTake

protected theorem Keeps.wrGood {a : Nat} {l : List Byte} (h : Keeps s₀ s) : Keeps s₀ (s.wrGood a l) :=
  .ite h.badAccess (h.wrMem.foldl fun _ _ h => h.setPoison)

protected theorem Keeps.setDom {d : Nat} {b : Bool} (h : Keeps s₀ s) : Keeps s₀ (s.setDom d b) := h.plat

protected theorem Keeps.fresh (h : Keeps s₀ s) : Keeps s₀ (s.fresh).2 := h.freeCtr

protected theorem Keeps.freshInt (h : Keeps s₀ s) : Keeps s₀ (s.freshInt).2 := by
  unfold State.freshInt
  exact h.fresh

protected theorem Keeps.msixSignal {v : Nat} (h : Keeps s₀ s) : Keeps s₀ (msixSignal v s) := .ite h.hif h.msix

/-! ### Events, samples and the Lodge -/

protected theorem Keeps.emit {code : Nat} (h : Keeps s₀ s) : Keeps s₀ (emit code s) := by
  unfold emit
  exact h.ctrSat.incSat.use fun h => .ite h.setCtr h

protected theorem Keeps.histAdd {hda b : Nat} (h : Keeps s₀ s) : Keeps s₀ (histAdd hda b s) := by
  unfold histAdd
  exact h.ctrSat.use fun h => .ite h.setf.emit h

protected theorem Keeps.extAdd {e : Nat} {x : Int} (h : Keeps s₀ s) : Keeps s₀ (extAdd e x s) := by
  unfold extAdd
  exact (Keeps.ite h.wr.wr.wr h).use fun h => .ite h.wr.wr.wr h

protected theorem Keeps.lodgeWrite {c : Cls} {code src detail missed : Nat} {inj : Bool} (h : Keeps s₀ s) :
    Keeps s₀ (lodgeWrite c code src detail missed inj s) := by
  unfold lodgeWrite
  exact h.wr.wr.wr.wr.wr.wr.wr.wr.wr.gh.setf.setf.setf.use fun h₁₃ => .ite (h₁₃.each fun _ _ h => h.flag) h₁₃

protected theorem Keeps.lodge {c : Cls} {code src detail : Nat} {inj : Bool} (h : Keeps s₀ s) : Keeps s₀ (lodge c code src detail inj s) := by
  unfold lodge
  exact h.ctrSat.use fun h => .ite h.lodgeWrite (.ite h.gh (.ite h.ctrSat.gh h.lodgeWrite.gh))

/-! ### The array of the NV store -/

protected theorem Keeps.nvUncorr {off : Nat} (h : Keeps s₀ s) : Keeps s₀ (nvUncorr off s) := h.wr.incSat.flag.emit

protected theorem Keeps.nvUnit {off : Nat} {l : List Byte} (h : Keeps s₀ s) : Keeps s₀ (nvUnit off l s) := by
  unfold nvUnit
  exact h.wrNvs.use fun h => .ite h.modNvs h

protected theorem Keeps.nvUnits {off : Nat} {l : List Byte} {i n : Nat} (h : Keeps s₀ s) : Keeps s₀ (nvUnits off l i n s) := h.each fun _ _ h => h.nvUnit

protected theorem Keeps.unitCut {off : Nat} {l : List Byte} (h : Keeps s₀ s) : Keeps s₀ (unitCut off l s) := by
  unfold unitCut
  extract_lets s₂
  have h₃ : Keeps s₀ s₂.2 := h.fresh
  split
  · exact h₃
  · exact h₃.nvUnit
  · exact h₃.modNvs

protected theorem Keeps.indetProg (h : Keeps s₀ s) : Keeps s₀ (indetProg s) := h.flag

protected theorem Keeps.engineUnit {off : Nat} {l : List Byte} (h : Keeps s₀ s) : Keeps s₀ (engineUnit off l s) := .ite h.indetProg h.nvUnit

protected theorem Keeps.nvShow (h : Keeps s₀ s) : Keeps s₀ (nvShow s) := by
  unfold nvShow
  exact (h.each fun _ _ h => h.wr).wr

protected theorem Keeps.nvWorn {n : Nat} {inj : Bool} (h : Keeps s₀ s) : Keeps s₀ (nvWorn n inj s) := h.flag.emit.lodge

protected theorem Keeps.jOpen {k seq : Nat} (h : Keeps s₀ s) : Keeps s₀ (jOpen k seq s) := by
  unfold jOpen
  exact h.modNvs

protected theorem Keeps.jRoom (h : Keeps s₀ s) : Keeps s₀ (jRoom s) := by
  unfold jRoom
  split
  · exact h.jOpen
  · exact .ite h h.jOpen

protected theorem Keeps.jPut {e : Nat → JEntry} (h : Keeps s₀ s) : Keeps s₀ (jPut e s) := by
  unfold jPut
  split
  · exact h
  · exact h.modNvs

protected theorem Keeps.jAppend {done : Bool} {n : Nat} (h : Keeps s₀ s) : Keeps s₀ (jAppend done n s) := by
  unfold jAppend
  exact h.jRoom.jPut

protected theorem Keeps.jClear (h : Keeps s₀ s) : Keeps s₀ (jClear s) := .ite h.modNvs h

protected theorem Keeps.jReplay (h : Keeps s₀ s) : Keeps s₀ (jReplay s) := by
  unfold jReplay
  split
  · exact h.modNvs
  · exact h.modNvs

protected theorem Keeps.eraseBegin {n : Nat} (h : Keeps s₀ s) : Keeps s₀ (eraseBegin n s) := by
  unfold eraseBegin
  exact h.jAppend.modNvs.use fun h => (Keeps.ite h.nvWorn h).nvShow

protected theorem Keeps.eraseDone {n : Nat} (h : Keeps s₀ s) : Keeps s₀ (eraseDone n s) := by
  unfold eraseDone
  exact h.jClear.nvClear.jAppend.modNvs.nvShow

protected theorem Keeps.eraseSector {n : Nat} (h : Keeps s₀ s) : Keeps s₀ (eraseSector n s) := h.jClear.eraseBegin.eraseDone

protected theorem Keeps.nvBusyShow (h : Keeps s₀ s) : Keeps s₀ (nvBusyShow s) := by
  unfold nvBusyShow
  exact h.setf.setf.setf.setf

protected theorem Keeps.eraseGo {b : Nat} (h : Keeps s₀ s) : Keeps s₀ (eraseGo b s) := by
  unfold eraseGo
  split
  · next e he =>
    refine .ite h (Keeps.eraseBegin (h.setErase fun hb x hx => ?_))
    cases hx
    exact (hb.bankOf_sector he : b = bankOf e.sector)
  · exact h

protected theorem Keeps.eraseStart {n : Nat} {direct : Bool} (h : Keeps s₀ s) : Keeps s₀ (eraseStart n direct s) := h.setErase.eraseGo.nvBusyShow

protected theorem Keeps.jErased (h : Keeps s₀ s) : Keeps s₀ (jErased s) := .ite h.jClear.eraseGo.eraseGo.nvBusyShow h

protected theorem Keeps.engineErase {n : Nat} (h : Keeps s₀ s) : Keeps s₀ (engineErase n s) := .ite h h.eraseStart

/-! ### The DMA engine -/

protected theorem Keeps.dmaEnd {n endc err : Nat} (h : Keeps s₀ s) : Keeps s₀ (dmaEnd n endc err s) := by
  unfold dmaEnd
  exact h.setf.setf.setf.flag.use fun h => .ite h.incSat.emit h

protected theorem Keeps.dmaGo {n : Nat} (h : Keeps s₀ s) : Keeps s₀ (dmaGo n s) := by
  unfold dmaGo
  exact h.wr.wr.use fun h => .ite h.dmaEnd (.ite h.dmaEnd h.flag)

protected theorem Keeps.dmaCtlWrite {n : Nat} {v : W32} (h : Keeps s₀ s) : Keeps s₀ (dmaCtlWrite n v s) := by
  unfold dmaCtlWrite
  exact (Keeps.ite ((Keeps.ite ((Keeps.ite h.setf h).setf) (.ite h.setf h)).setf) (.ite ((Keeps.ite h.setf h).setf) (.ite h.setf h))).use fun h₁ =>
      (Keeps.ite ((Keeps.ite ((Keeps.ite h₁.setf h₁).setf) (.ite h₁.setf h₁)).setf) (.ite ((Keeps.ite h₁.setf h₁).setf) (.ite h₁.setf h₁))).use fun h
      => .ite h h.deny

protected theorem Keeps.execDmaStart {m : Master} {n : DmaCh} {v : W32} (h : Keeps s₀ s) : Answers s₀ (execDmaStart m n v s) :=
  .ok (.ite h.deny (h.dmaCtlWrite.use fun h => .ite h.dmaGo h))

protected theorem Keeps.execDmaStop {m : Master} {n : DmaCh} (h : Keeps s₀ s) : Answers s₀ (execDmaStop m n s) :=
  .ok (.ite h.deny (h.onlyIf fun _ h => h.dmaEnd))

protected theorem Keeps.dmaNvEcc {src : Nat → Nat} {len : Nat} (h : Keeps s₀ s) : Keeps s₀ (dmaNvEcc src len s) := by
  unfold dmaNvEcc
  exact h.each fun _ _ h₁ => .ite h₁.nvUncorr (h₁.fresh.use fun h => .ite h.incSat h)

protected theorem Keeps.dmaMark {g len : Nat} {bad : Bool} (h : Keeps s₀ s) : Keeps s₀ (dmaMark g len bad s) := .ite h h.setPoison

protected theorem Keeps.dmaCopy {n i len : Nat} (h : Keeps s₀ s) : Keeps s₀ (dmaCopy n i len s) := by
  unfold dmaCopy
  exact h.dmaNvEcc.use fun h => ((Keeps.ite h.fresh h).wrMem).dmaMark

protected theorem Keeps.dmaFill {n i len : Nat} (h : Keeps s₀ s) : Keeps s₀ (dmaFill n i len s) := by
  unfold dmaFill
  exact h.wrMem.dmaMark

protected theorem Keeps.dmaBurst {n : Nat} (h : Keeps s₀ s) : Keeps s₀ (dmaBurst n s) := by
  unfold dmaBurst
  extract_lets _ _ _ _ _
  refine .ite ?_ ?_
  · split
    · exact h.wr.dmaEnd
    · exact h.wr.use fun h => .ite h.dmaEnd h
  · exact .ite (h.dmaFill.wr.use fun h => .ite h.dmaEnd h) (.ite h.dmaEnd (h.dmaCopy.wr.use fun h => .ite h.dmaEnd h))

protected theorem Keeps.execDmaBurst (h : Keeps s₀ s) : Answers s₀ (execDmaBurst s) := by
  unfold execDmaBurst
  refine .ok ?_
  split
  · exact h
  · exact h.dmaLast.dmaBurst

/-! ### The host interface: what its parts share -/

protected theorem Keeps.modHif {f : HifSt → HifSt} (h : Keeps s₀ s) : Keeps s₀ (modHif f s) := h.hif

protected theorem Keeps.setTask {t : Nat} {x : Option HTask} (h : Keeps s₀ s) : Keeps s₀ (setTask t x s) := h.modHif

protected theorem Keeps.modTask {t : Nat} {f : HTask → HTask} (h : Keeps s₀ s) : Keeps s₀ (modTask t f s) := h.modHif

protected theorem Keeps.hifShow (h : Keeps s₀ s) : Keeps s₀ (hifShow s) := by
  unfold hifShow
  exact h.setf.setf

protected theorem Keeps.hifStat {n k : Nat} (h : Keeps s₀ s) : Keeps s₀ (hifStat n k s) := h.ctrWrap

protected theorem Keeps.postCpl {t status : Nat} {dw0 dw1 : W32} (h : Keeps s₀ s) : Keeps s₀ (postCpl t status dw0 dw1 s) := by
  unfold postCpl
  split
  · exact h
  · exact h.modTask.modHif.hifShow

protected theorem Keeps.completeDw {t sct sc : Nat} {dw0 : W32} (h : Keeps s₀ s) : Keeps s₀ (completeDw t sct sc dw0 s) := by
  unfold completeDw
  extract_lets _ s₂ s₄
  have h₃ : Keeps s₀ s₂ := .ite h h.fresh
  have h₅ : Keeps s₀ s₄ := by
    subst s₄
    split
    · exact .ite h₃ h₃.modHif
    · exact h₃
  exact h₅.postCpl

protected theorem Keeps.complete {t sct sc : Nat} (h : Keeps s₀ s) : Keeps s₀ (complete t sct sc s) := h.completeDw

protected theorem Keeps.asyncFlush (h : Keeps s₀ s) : Keeps s₀ (asyncFlush s) := by
  unfold asyncFlush
  split
  · exact h.modHif.completeDw
  · exact h

protected theorem Keeps.asyncPost {ty info page : Nat} (h : Keeps s₀ s) : Keeps s₀ (asyncPost ty info page s) := .ite h h.modHif.asyncFlush

protected theorem Keeps.asyncHealth (h : Keeps s₀ s) : Keeps s₀ (asyncHealth s) := h.asyncPost

protected theorem Keeps.hostRemove (h : Keeps s₀ s) : Keeps s₀ (hostRemove s) := h.modHif.hifShow

protected theorem Keeps.hostReset (h : Keeps s₀ s) : Keeps s₀ (hostReset s) := by
  unfold hostReset
  exact h.hostRemove.modHif.emit

/-! ### Kiosk -/

protected theorem Keeps.setKq {c e : Nat} {q : List KItem} (h : Keeps s₀ s) : Keeps s₀ (setKq c e q s) := h.ksk

protected theorem Keeps.coreRegsReset {n : Nat} (h : Keeps s₀ s) : Keeps s₀ (coreRegsReset n s) := by
  unfold coreRegsReset
  extract_lets rs s₁
  have h₁ : Keeps s₀ s₁ := h.each fun _ _ h => h.clr
  clear_value s₁
  exact h₁.same

protected theorem Keeps.corePowerUp {n : Nat} (h : Keeps s₀ s) : Keeps s₀ (corePowerUp n s) := .ite h h.setDom.setDom.coreRegsReset

protected theorem Keeps.kEmpty {c e : Nat} (h : Keeps s₀ s) : Keeps s₀ (kEmpty c e s) := by
  unfold kEmpty
  exact h.flag.use fun h => .ite h.msixSignal h

protected theorem Keeps.kDiscarded {c e n : Nat} (h : Keeps s₀ s) : Keeps s₀ (kDiscarded c e n s) := .ite h h.incSat.flag.kEmpty.emit

protected theorem Keeps.kWake {c e : Nat} (h : Keeps s₀ s) : Keeps s₀ (kWake c e s) := by
  unfold kWake
  split
  · exact h.corePowerUp
  · exact h

protected theorem Keeps.kRxRise {c e : Nat} (h : Keeps s₀ s) : Keeps s₀ (kRxRise c e s) := by
  unfold kRxRise
  split
  · exact h.corePowerUp
  · exact .ite h.msixSignal h

protected theorem Keeps.kPost {c e : Nat} {w : W32} (h : Keeps s₀ s) : Keeps s₀ (kPost c e w s) := by
  unfold kPost
  exact .ite h.deny (.ite h.kDiscarded (.ite h.flag.deny.emit (h.setKq.use fun h => .ite h.kRxRise h.kWake)))

protected theorem Keeps.kTake {c e : Nat} (h : Keeps s₀ s) : Keeps s₀ (kTake c e s) := by
  unfold kTake
  split
  · exact h.rdata
  · exact h.setKq.rdata.use fun h => .ite h.kEmpty h
  · exact h.setKq.rdata

protected theorem Keeps.kSenderReset {c e : Nat} (h : Keeps s₀ s) : Keeps s₀ (kSenderReset c e s) := by
  unfold kSenderReset
  split
  · exact h.setKq
  · exact h.setKq.emit.use fun h => .ite h.kRxRise h

protected theorem Keeps.kWindowReset {c e : Nat} (h : Keeps s₀ s) : Keeps s₀ (kWindowReset c e s) := h.clr.clr.clr

protected theorem Keeps.kEndReset {c e : Nat} {both : Bool} (h : Keeps s₀ s) : Keeps s₀ (kEndReset c e both s) :=
  .ite h.setKq.setKq.kWindowReset h.setKq.kDiscarded.kSenderReset.kWindowReset

protected theorem Keeps.kResetEnds {ends : List (Nat × Nat)} (h : Keeps s₀ s) : Keeps s₀ (kResetEnds ends s) := h.each fun _ _ h => h.kEndReset

protected theorem Keeps.kPostAll {c e : Nat} {ws : List W32} (h : Keeps s₀ s) : Keeps s₀ (kPostAll c e ws s) := h.each fun _ _ h => h.kPost

protected theorem Keeps.replyFrag {c e : Nat} {ws : List W32} (h : Keeps s₀ s) : Keeps s₀ (replyFrag c e ws s) := .ite h.kPostAll h.replies

protected theorem Keeps.hostReply {c op seq status : Nat} {payload : List W32} (h : Keeps s₀ s) : Keeps s₀ (hostReply c op seq status payload s) := by
  unfold hostReply
  exact (Keeps.ite h.emit h).each fun _ _ h => h.replyFrag

protected theorem Keeps.msgTurn {m : HeldMsg} {f : State → State} (h : Keeps s₀ s) (hf : ∀ t, Keeps s₀ t → Keeps s₀ (f t)) :
    Keeps s₀ (msgTurn m f s) :=
  .ite h.held (hf _ h)

protected theorem Keeps.hostMsg {c op seq : Nat} {words : List W32} {f : State → State} (h : Keeps s₀ s) (hf : ∀ t, Keeps s₀ t → Keeps s₀ (f t)) :
    Keeps s₀ (hostMsg c op seq words f s) :=
  .ite h (.ite (.ite h.hostReply h) (h.msgTurn fun _ h => hf _ h))

protected theorem Keeps.ghReply {core op seq status : Nat} {payload : List W32} (h : Keeps s₀ s) : Keeps s₀ (ghReply core op seq status payload s) :=
  .ite h ((Keeps.ite h.emit h).each fun _ _ h => h.replyFrag)

protected theorem Keeps.ghMsg {core op seq : Nat} {words : List W32} {arg : Nat} {f : State → State}
    (h : Keeps s₀ s) (hf : ∀ t, Keeps s₀ t → Keeps s₀ (f t)) :
    Keeps s₀ (ghMsg core op seq words arg f s) :=
  .ite h (h.msgTurn fun _ h => hf _ h)

protected theorem Keeps.execKioskPost {m : Master} {ch : Chan} {e : Bool} {w : W32} (h : Keeps s₀ s) : Answers s₀ (execKioskPost m ch e w s) :=
  .ok (.ite h.kPost h.deny)

protected theorem Keeps.execKioskReceive {m : Master} {ch : Chan} {e : Bool} (h : Keeps s₀ s) : Answers s₀ (execKioskReceive m ch e s) :=
  .ok (.ite h.kTake h.rdata)

protected theorem Keeps.execKioskDiscRead {m : Master} {ch : Chan} {e : Bool} (h : Keeps s₀ s) : Answers s₀ (execKioskDiscRead m ch e s) :=
  .ok (.ite h.clr.rdata h.rdata)

protected theorem Keeps.execMessageReply (h : Keeps s₀ s) : Answers s₀ (execMessageReply s) := by
  unfold execMessageReply
  refine .ok ?_
  split
  · exact h
  · exact h.replies.kPostAll

/-! ### Retracts, isolation and forced states -/

protected theorem Keeps.showLoaded {hda : Nat} (h : Keeps s₀ s) : Keeps s₀ (showLoaded hda s) := h.setf

protected theorem Keeps.setActState {a n : Nat} (h : Keeps s₀ s) : Keeps s₀ (setActState a n s) := h.setf.showLoaded

protected theorem Keeps.modAct {a : Nat} {f : ActSt → ActSt} (h : Keeps s₀ s) : Keeps s₀ (modAct a f s) := h.acts

protected theorem Keeps.modSeq {a : Nat} {f : SeqSt → SeqSt} (h : Keeps s₀ s) : Keeps s₀ (modSeq a f s) := h.seqs

protected theorem Keeps.fenceOff {a mask cause : Nat} (h : Keeps s₀ s) : Keeps s₀ (fenceOff a mask cause s) := by
  unfold fenceOff
  exact h.setf.modAct.modSeq.wOff

protected theorem Keeps.setForced {a : Nat} {b : Bool} (h : Keeps s₀ s) : Keeps s₀ (setForced a b s) := by
  unfold setForced
  exact h.setf.wr

protected theorem Keeps.refreshForced {a : Nat} (h : Keeps s₀ s) : Keeps s₀ (refreshForced a s) := h.setForced

protected theorem Keeps.enterIsolated {a : Nat} (h : Keeps s₀ s) : Keeps s₀ (enterIsolated a s) :=
  .ite h.setActState.setForced h.wr.fenceOff.setActState.setForced.emit

protected theorem Keeps.reimposeIsolation {a : Nat} (h : Keeps s₀ s) : Keeps s₀ (reimposeIsolation a s) := .ite h.setActState.setForced h

protected theorem Keeps.modRetr {a : Nat} {f : Retract → Retract} (h : Keeps s₀ s) : Keeps s₀ (modRetr a f s) := h.gh

protected theorem Keeps.modDn {a i : Nat} {f : DnLane → DnLane} (h : Keeps s₀ s) : Keeps s₀ (modDn a i f s) := h.dn

protected theorem Keeps.retractSend {a : Nat} (h : Keeps s₀ s) : Keeps s₀ (retractSend a s) := by
  unfold retractSend
  split
  · exact h
  · exact h.modRetr.modDn

protected theorem Keeps.startRetract {a : Nat} {isolate power reset : Bool} (h : Keeps s₀ s) : Keeps s₀ (startRetract a isolate power reset s) :=
  .ite h.modRetr (.ite (.ite h.enterIsolated h) h.fenceOff.setActState.setForced.modRetr.retractSend.emit)

protected theorem Keeps.showFaults {a : Nat} (h : Keeps s₀ s) : Keeps s₀ (showFaults a s) := h.setf

protected theorem Keeps.actRecord {a code src detail : Nat} {inj : Bool} (h : Keeps s₀ s) : Keeps s₀ (actRecord a code src detail inj s) := by
  unfold actRecord
  exact h.lodge.gh.setf.showFaults

protected theorem Keeps.actFault {a code src detail : Nat} {inj : Bool} (h : Keeps s₀ s) : Keeps s₀ (actFault a code src detail inj s) :=
  h.actRecord.startRetract

protected theorem Keeps.hdaFault {hda code : Nat} {inj : Bool} (h : Keeps s₀ s) : Keeps s₀ (hdaFault hda code inj s) := h.each fun _ _ h => h.actFault

protected theorem Keeps.modSpin {hda : Nat} {f : Spindle → Spindle} (h : Keeps s₀ s) : Keeps s₀ (modSpin hda f s) := h.spn

protected theorem Keeps.showSpeed {hda n : Nat} (h : Keeps s₀ s) : Keeps s₀ (showSpeed hda n s) := by
  unfold showSpeed
  exact h.setf.use fun h => .ite h.setf h

protected theorem Keeps.limitStart {hda n : Nat} (h : Keeps s₀ s) : Keeps s₀ (limitStart hda n s) := .ite h.modSpin h

protected theorem Keeps.spnGo {hda n cause : Nat} (h : Keeps s₀ s) : Keeps s₀ (spnGo hda n cause s) := by
  unfold spnGo
  exact (Keeps.ite h h.modSpin).limitStart.setf.setf.showSpeed

protected theorem Keeps.spnBraking {hda cause : Nat} (h : Keeps s₀ s) : Keeps s₀ (spnBraking hda cause s) := by
  unfold spnBraking
  exact .ite h.spnGo h.fresh.fresh.modSpin.spnGo

protected theorem Keeps.endStart {hda : Nat} (h : Keeps s₀ s) : Keeps s₀ (endStart hda s) := by
  unfold endStart
  exact h.modSpin.spnQueue.setf

protected theorem Keeps.setSpnForced {hda : Nat} {b : Bool} (h : Keeps s₀ s) : Keeps s₀ (setSpnForced hda b s) := by
  unfold setSpnForced
  exact h.setf.wr

protected theorem Keeps.forceBrake {hda cause : Nat} (h : Keeps s₀ s) : Keeps s₀ (forceBrake hda cause s) := by
  unfold forceBrake
  exact h.endStart.setSpnForced.spnGo.flag.emit

protected theorem Keeps.powerBrake {hda : Nat} (h : Keeps s₀ s) : Keeps s₀ (powerBrake hda s) := .ite h h.endStart.setSpnForced.spnBraking

protected theorem Keeps.powerBrakeEnd {hda : Nat} (h : Keeps s₀ s) : Keeps s₀ (powerBrakeEnd hda s) := .ite h.setSpnForced.spnGo h

protected theorem Keeps.setInhibit {r : Nat} {b : Bool} (h : Keeps s₀ s) : Keeps s₀ (setInhibit r b s) := by
  unfold setInhibit
  exact h.setf.each fun _ _ h => h.setf

protected theorem Keeps.graveReaction (h : Keeps s₀ s) : Keeps s₀ (graveReaction s) := by
  unfold graveReaction
  exact (h.each fun _ _ h₁ => h₁.fenceOff.setForced.use fun h => .ite h.startRetract h).each fun _ _ h => h.forceBrake

protected theorem Keeps.grave {code src detail : Nat} {inj : Bool} (h : Keeps s₀ s) : Keeps s₀ (grave code src detail inj s) := by
  unfold grave
  exact h.lodge.use fun h => .ite h h.flag.setf.ice.graveReaction.emit.asyncHealth

/-! ### Spindles -/

protected theorem Keeps.spnRefuse {hda : Nat} (h : Keeps s₀ s) : Keeps s₀ (spnRefuse hda s) := h.flag.emit

protected theorem Keeps.spnEnqueue {hda : Nat} (h : Keeps s₀ s) : Keeps s₀ (spnEnqueue hda s) := .ite h h.spnQueue.setf

protected theorem Keeps.spnStart {hda : Nat} (h : Keeps s₀ s) : Keeps s₀ (spnStart hda s) := by
  unfold spnStart
  refine .ite ?_ ?_
  · exact h.spnRefuse
  · split
    · exact h.spnEnqueue
    · exact h.spnEnqueue
    · exact h.spnEnqueue
    · exact .ite h h.spnEnqueue
    · exact h

protected theorem Keeps.spnBrakeInto {hda : Nat} (h : Keeps s₀ s) : Keeps s₀ (spnBrakeInto hda s) := .ite h.spnGo h.spnBraking

protected theorem Keeps.spnBrake {hda : Nat} (h : Keeps s₀ s) : Keeps s₀ (spnBrake hda s) := by
  unfold spnBrake
  refine .ite ?_ ?_
  · exact h.spnRefuse
  · split
    · exact h.endStart
    · exact h.endStart
    · exact h.endStart.spnGo
    · exact h.endStart.spnGo
    · exact h.endStart.spnGo
    · exact h.endStart.spnBrakeInto
    · exact h.endStart.spnBrakeInto
    · exact h

protected theorem Keeps.spnCoast {hda : Nat} (h : Keeps s₀ s) : Keeps s₀ (spnCoast hda s) := by
  unfold spnCoast
  refine .ite ?_ ?_
  · exact h.spnRefuse
  · split
    · exact h.endStart
    · exact h.endStart
    · exact h.endStart.spnGo

protected theorem Keeps.spnWrite {m : Master} {f : State → State} (h : Keeps s₀ s) (hf : ∀ t, Keeps s₀ t → Keeps s₀ (f t)) :
    Answers s₀ (spnWrite m f s) :=
  .ok (.ite h.deny (.ite (hf _ h) h.badAccess))

protected theorem Keeps.execStart {m : Master} {hda : Hda} (h : Keeps s₀ s) : Answers s₀ (execStart m hda s) := h.spnWrite fun _ h => h.spnStart

protected theorem Keeps.execBrake {m : Master} {hda : Hda} (h : Keeps s₀ s) : Answers s₀ (execBrake m hda s) := h.spnWrite fun _ h => h.spnBrake

protected theorem Keeps.execCoast {m : Master} {hda : Hda} (h : Keeps s₀ s) : Answers s₀ (execCoast m hda s) := h.spnWrite fun _ h => h.spnCoast

protected theorem Keeps.spnCmd {hda : Nat} {v : W32} (h : Keeps s₀ s) : Keeps s₀ (spnCmd hda v s) :=
  .ite h.spnCoast (.ite h.spnBrake (.ite h.spnStart h))

protected theorem Keeps.runEnd {hda : Nat} (h : Keeps s₀ s) : Keeps s₀ (runEnd hda s) := h.modSpin

protected theorem Keeps.spnRetarget {hda : Nat} (h : Keeps s₀ s) : Keeps s₀ (spnRetarget hda s) := by
  unfold spnRetarget
  exact h.runEnd.use fun h => .ite h.spnGo h

protected theorem Keeps.spnTarget {hda : Nat} {v : W32} (h : Keeps s₀ s) : Keeps s₀ (spnTarget hda v s) := by
  unfold spnTarget
  exact .ite h.deny.flag.emit (.ite h.deny (.ite h h.setf.spnRetarget))

protected theorem Keeps.execTargetWrite {m : Master} {hda : Hda} {v : W32} (h : Keeps s₀ s) : Answers s₀ (execTargetWrite m hda v s) :=
  h.spnWrite fun _ h => h.spnTarget

protected theorem Keeps.execStartMask {m : Master} {mask : BitVec 16} (h : Keeps s₀ s) : Answers s₀ (execStartMask m mask s) :=
  h.spnWrite fun _ h₁ => h₁.each fun _ _ h => h.spnStart

protected theorem Keeps.spnAdmit {hda : Nat} (h : Keeps s₀ s) : Keeps s₀ (spnAdmit hda s) := by
  unfold spnAdmit
  extract_lets s₄ s₆ s₈
  have h₅ : Keeps s₀ s₄ := h.spnQueue.setf
  have h₇ : Keeps s₀ s₆ := h₅.modSpin
  have h₉ : Keeps s₀ s₈ := h₇.incSat.emit
  split
  · exact h₉.spnGo.modSpin
  · exact h₉.spnGo
  · exact h₉.runEnd.spnGo.modSpin
  · exact h₉

protected theorem Keeps.execStartAdmitted (h : Keeps s₀ s) : Answers s₀ (execStartAdmitted s) := by
  unfold execStartAdmitted
  refine .ok ?_
  split
  · exact h
  · exact .ite h.spnAdmit h

protected theorem Keeps.rampShow {hda : Nat} (h : Keeps s₀ s) : Keeps s₀ (rampShow hda s) := .ite h.setf h

protected theorem Keeps.execAlignDone {hda : Hda} (h : Keeps s₀ s) : Answers s₀ (execAlignDone hda s) := by
  unfold execAlignDone
  exact .ok (h.onlyIf fun _ h => h.spnGo.modSpin.rampShow)

protected theorem Keeps.execRampEnd {hda : Hda} (h : Keeps s₀ s) : Answers s₀ (execRampEnd hda s) := by
  unfold execRampEnd
  exact .ok (h.onlyIf fun _ h => h.modSpin.rampShow)

protected theorem Keeps.spnClose {hda speed cause : Nat} (h : Keeps s₀ s) : Keeps s₀ (spnClose hda speed cause s) := by
  unfold spnClose
  exact h.runEnd.modSpin.spnGo.setf

protected theorem Keeps.execHandover {hda : Hda} {speed : BitVec 20} (h : Keeps s₀ s) : Answers s₀ (execHandover hda speed s) := by
  unfold execHandover
  exact .ok (h.onlyIf fun _ h => h.modSpin.spnClose)

protected theorem Keeps.execHandoverTimeout {hda : Hda} (h : Keeps s₀ s) : Answers s₀ (execHandoverTimeout hda s) := by
  unfold execHandoverTimeout
  exact .ok (h.onlyIf fun _ h => .ite h.modSpin.spnGo h.endStart.spnGo.flag.emit.hdaFault)

protected theorem Keeps.setCurrents {hda : Nat} {u v : Int} (h : Keeps s₀ s) : Keeps s₀ (setCurrents hda u v s) := by
  unfold setCurrents
  exact h.setf.setf.setf

protected theorem Keeps.sampleTaken {hda : Nat} {u v : Int} (h : Keeps s₀ s) : Keeps s₀ (sampleTaken hda u v s) := by
  unfold sampleTaken
  exact h.modSpin.setCurrents.setf

protected theorem Keeps.samplePredicted {hda : Nat} (h : Keeps s₀ s) : Keeps s₀ (samplePredicted hda s) := by
  unfold samplePredicted
  exact h.incSat.setf.use fun h => (Keeps.ite h h.setCurrents).modSpin

protected theorem Keeps.signSample {hda : Nat} {u : Int} (h : Keeps s₀ s) : Keeps s₀ (signSample hda u s) := by
  unfold signSample
  dsimp only
  split
  · exact h.modSpin
  · refine .ite h ?_
    split
    · exact h.modSpin
    · exact h.modSpin.setf

protected theorem Keeps.regulate {hda given : Nat} (h : Keeps s₀ s) : Keeps s₀ (regulate hda given s) := .ite h.modSpin h

protected theorem Keeps.pwmPeriod {hda given : Nat} {u v : Int} (h : Keeps s₀ s) : Keeps s₀ (pwmPeriod hda given u v s) := by
  unfold pwmPeriod
  extract_lets s₂ _ _ _ _ _ _ _
  have h₃ : Keeps s₀ s₂ := h.rampShow.regulate
  refine .ite ?_ ?_
  · exact h₃.sampleTaken.setf.setf
  · refine .ite ?_ ?_
    · exact h₃.sampleTaken.signSample.setf.setf
    · refine .ite ?_ ?_
      · exact h₃.setf.setf
      · split
        · exact h₃.modSpin.use fun h => ((Keeps.ite h.samplePredicted h).setf).setf
        · refine .ite ?_ ?_
          · exact h₃.modSpin.sampleTaken.setf.setf
          · refine .ite ?_ ?_
            · exact h₃.samplePredicted.setf.setf
            · split
              · exact h₃.modSpin.incSat.sampleTaken.setf.setf
              · exact h₃.modSpin.incSat.samplePredicted.setf.setf

protected theorem Keeps.execPwmPeriod {hda : Hda} {tonNs iu iv : BitVec 16} (h : Keeps s₀ s) : Answers s₀ (execPwmPeriod hda tonNs iu iv s) :=
  .ok (h.onlyIf fun _ h => h.pwmPeriod)

protected theorem Keeps.execSkipRunLimit {hda : Hda} (h : Keeps s₀ s) : Answers s₀ (execSkipRunLimit hda s) := by
  unfold execSkipRunLimit
  exact .ok (h.onlyIf fun _ h => h.modSpin.emit)

protected theorem Keeps.bandCheck {hda : Nat} (h : Keeps s₀ s) : Keeps s₀ (bandCheck hda s) := .ite h h.runEnd

protected theorem Keeps.speedTaken {hda : Nat} (h : Keeps s₀ s) : Keeps s₀ (speedTaken hda s) := by
  unfold speedTaken
  exact h.bandCheck.use fun h => .ite h.extAdd h

protected theorem Keeps.crossed {hda t : Nat} (h : Keeps s₀ s) : Keeps s₀ (crossed hda t s) := by
  unfold crossed
  exact h.modSpin.use fun h₁ => (Keeps.ite h₁.incWrap h₁).wr.setf.use fun h => .ite h.setf.speedTaken h.bandCheck

protected theorem Keeps.execZeroCrossing {hda : Hda} {phase : BitVec 2} {v0 v1 : BitVec 16} (h : Keeps s₀ s) :
    Answers s₀ (execZeroCrossing hda phase v0 v1 s) := by
  unfold execZeroCrossing
  refine .ok (h.onlyIf fun t h => ?_)
  split
  · exact h
  · exact .ite h (.ite h.modSpin (.ite h h.crossed))

protected theorem Keeps.execCommutationStep {hda : Hda} (h : Keeps s₀ s) : Answers s₀ (execCommutationStep hda s) := by
  unfold execCommutationStep
  exact .ok (.ite h.modSpin (.ite h.modSpin.rampShow h))

protected theorem Keeps.execCurrentLimit {hda : Hda} {ma tonNs : BitVec 16} (h : Keeps s₀ s) : Answers s₀ (execCurrentLimit hda ma tonNs s) := by
  unfold execCurrentLimit
  exact .ok (h.onlyIf fun _ h => h.setf)

protected theorem Keeps.spnTrip {hda : Nat} {inj : Bool} (h : Keeps s₀ s) : Keeps s₀ (spnTrip hda inj s) := by
  unfold spnTrip
  exact (Keeps.ite h.setSpnForced h).endStart.spnGo.flag.emit.hdaFault

protected theorem Keeps.execOvercurrentTrip {hda : Hda} {ma : BitVec 16} (h : Keeps s₀ s) : Answers s₀ (execOvercurrentTrip hda ma s) := by
  unfold execOvercurrentTrip
  exact .ok (h.onlyIf fun _ h => h.spnTrip)

protected theorem Keeps.catchShow {hda result rpm : Nat} (h : Keeps s₀ s) : Keeps s₀ (catchShow hda result rpm s) := h.setf.setf.emit

protected theorem Keeps.execCatchDecided {hda : Hda} {order : BitVec 2} {ticks : W32} {lastStep : BitVec 3} {railMv : BitVec 16} (h : Keeps s₀ s) :
    Answers s₀ (execCatchDecided hda order ticks lastStep railMv s) := by
  unfold execCatchDecided
  exact .ok (h.onlyIf fun _ h => .ite h.catchShow.setf.modSpin.spnClose (.ite h.catchShow.setf.spnGo h.catchShow.spnGo))

protected theorem Keeps.execCatchWindowExpired {hda : Hda} (h : Keeps s₀ s) : Answers s₀ (execCatchWindowExpired hda s) := by
  unfold execCatchWindowExpired
  exact .ok (h.onlyIf fun _ h => h.catchShow.spnGo)

protected theorem Keeps.spnAtSpeed {hda speed : Nat} (h : Keeps s₀ s) : Keeps s₀ (spnAtSpeed hda speed s) := by
  unfold spnAtSpeed
  exact h.spnGo.modSpin.setf.emit

protected theorem Keeps.execSpeedOutOfTolerance {hda : Hda} {speed : BitVec 20} (h : Keeps s₀ s) :
    Answers s₀ (execSpeedOutOfTolerance hda speed s) := by
  unfold execSpeedOutOfTolerance
  exact .ok (h.onlyIf fun _ h => h.runEnd.spnGo.setf)

protected theorem Keeps.spnBand {hda : Nat} {inj : Bool} (h : Keeps s₀ s) : Keeps s₀ (spnBand hda inj s) := h.flag.emit.hdaFault

protected theorem Keeps.execSpeedBandFault {hda : Hda} {speed : BitVec 20} (h : Keeps s₀ s) : Answers s₀ (execSpeedBandFault hda speed s) := by
  unfold execSpeedBandFault
  exact .ok (h.onlyIf fun _ h => (Keeps.ite h.runEnd.spnGo h).spnBand)

protected theorem Keeps.spnSpinupTmo {hda : Nat} {inj : Bool} (h : Keeps s₀ s) : Keeps s₀ (spnSpinupTmo hda inj s) := by
  unfold spnSpinupTmo
  exact h.endStart.flag.emit.use fun h => (Keeps.ite h.spnBraking h).hdaFault

protected theorem Keeps.execSpinupTimeout {hda : Hda} (h : Keeps s₀ s) : Answers s₀ (execSpinupTimeout hda s) :=
  .ok (h.onlyIf fun _ h => h.spnSpinupTmo)

protected theorem Keeps.execBrakeHandoff {hda : Hda} {speed : BitVec 20} (h : Keeps s₀ s) : Answers s₀ (execBrakeHandoff hda speed s) := by
  unfold execBrakeHandoff
  exact .ok (h.onlyIf fun _ h => h.spnGo)

protected theorem Keeps.execShortBrakeTimeout {hda : Hda} (h : Keeps s₀ s) : Answers s₀ (execShortBrakeTimeout hda s) := by
  unfold execShortBrakeTimeout
  exact .ok (h.onlyIf fun _ h => h.flag.emit)

protected theorem Keeps.railShow {r mv : Nat} (h : Keeps s₀ s) : Keeps s₀ (railShow r mv s) := by
  unfold railShow
  exact h.setf.setf.setf

protected theorem Keeps.execChopperOn {r : Rail} {mv : BitVec 16} (h : Keeps s₀ s) : Answers s₀ (execChopperOn r mv s) := by
  unfold execChopperOn
  exact .ok (h.onlyIf fun _ h => h.railShow.flag)

protected theorem Keeps.execChopperOff {r : Rail} {mv : BitVec 16} (h : Keeps s₀ s) : Answers s₀ (execChopperOff r mv s) := by
  unfold execChopperOff
  exact .ok (h.onlyIf fun _ h => h.railShow.setf)

protected theorem Keeps.chopFault {r mv : Nat} {inj : Bool} (h : Keeps s₀ s) : Keeps s₀ (chopFault r mv inj s) :=
  .ite h ((h.flag.lodge.emit.each fun _ _ h => .ite h.forceBrake h).setInhibit)

protected theorem Keeps.execChopperFault {r : Rail} {mv ma : BitVec 16} (h : Keeps s₀ s) : Answers s₀ (execChopperFault r mv ma s) := by
  unfold execChopperFault
  exact .ok (h.onlyIf fun _ h => h.railShow.chopFault)

protected theorem Keeps.railGrave {r mv : Nat} {inj : Bool} (h : Keeps s₀ s) : Keeps s₀ (railGrave r mv inj s) := by
  unfold railGrave
  exact h.flag.emit.grave

protected theorem Keeps.execRailOvervoltage {r : Rail} {mv : BitVec 16} (h : Keeps s₀ s) : Answers s₀ (execRailOvervoltage r mv s) :=
  .ok (h.onlyIf fun _ h => h.railShow.railGrave)

protected theorem Keeps.powerLoss {r mv : Nat} {inj : Bool} (h : Keeps s₀ s) : Keeps s₀ (powerLoss r mv inj s) := by
  unfold powerLoss
  exact (h.flag.lodge.emit.each fun _ _ h => h.powerBrake).each fun _ _ h => h.startRetract

protected theorem Keeps.railBrakesEnd {r : Nat} (h : Keeps s₀ s) : Keeps s₀ (railBrakesEnd r s) := .ite h (h.each fun _ _ h => h.powerBrakeEnd)

protected theorem Keeps.execPowerLossDetected {r : Rail} {mv : BitVec 16} (h : Keeps s₀ s) : Answers s₀ (execPowerLossDetected r mv s) := by
  unfold execPowerLossDetected
  exact .ok (h.onlyIf fun _ h => h.railShow.powerLoss.railBrakesEnd)

protected theorem Keeps.execPowerLossBrakeEnd {hda : Hda} {speed : BitVec 20} (h : Keeps s₀ s) : Answers s₀ (execPowerLossBrakeEnd hda speed s) := by
  unfold execPowerLossBrakeEnd
  exact .ok (h.onlyIf fun _ h => h.powerBrakeEnd)

protected theorem Keeps.execRailRecovered {r : Rail} {mv : BitVec 16} (h : Keeps s₀ s) : Answers s₀ (execRailRecovered r mv s) := by
  unfold execRailRecovered
  exact .ok (h.onlyIf fun _ h => h.railShow.setf.emit)

/-! ### The tag engine and the buffer cache -/

protected theorem Keeps.modBuf {f : BufSt → BufSt} (h : Keeps s₀ s) : Keeps s₀ (modBuf f s) := h.buf

protected theorem Keeps.modTag {e : Nat} {f : TagLine → TagLine} (h : Keeps s₀ s) : Keeps s₀ (modTag e f s) := h.modBuf

protected theorem Keeps.setWayState {w n : Nat} (h : Keeps s₀ s) : Keeps s₀ (setWayState w n s) := h.wr

protected theorem Keeps.bufStat {n : Nat} (h : Keeps s₀ s) : Keeps s₀ (bufStat n s) := h.ctrWrap

protected theorem Keeps.wake {failed : Bool} {w : Nat × Nat} (h : Keeps s₀ s) : Keeps s₀ (wake failed w s) := h.modBuf

protected theorem Keeps.wakeSet {set : Nat} (h : Keeps s₀ s) : Keeps s₀ (wakeSet set s) := by
  unfold wakeSet
  exact h.modBuf.each fun _ _ h => h.wake

protected theorem Keeps.tagInvalid {e : Nat} (h : Keeps s₀ s) : Keeps s₀ (tagInvalid e s) := by
  unfold tagInvalid
  exact (h.modTag.each fun _ _ h => h.wake).wakeSet

protected theorem Keeps.tagSettle {e : Nat} (h : Keeps s₀ s) : Keeps s₀ (tagSettle e s) := by
  unfold tagSettle
  exact .ite h (.ite h.tagInvalid (.ite h.wakeSet h))

protected theorem Keeps.tagDoom {e : Nat} (h : Keeps s₀ s) : Keeps s₀ (tagDoom e s) := (Keeps.ite h h.modTag.bufStat).tagSettle

protected theorem Keeps.tagDrop {e : Nat} (h : Keeps s₀ s) : Keeps s₀ (tagDrop e s) := .ite h.tagInvalid h.tagDoom

protected theorem Keeps.tagClean {e : Nat} (h : Keeps s₀ s) : Keeps s₀ (tagClean e s) := by
  unfold tagClean
  exact (h.modTag.each fun _ _ h => h.wake).use fun h => .ite h.tagSettle h.tagDrop

protected theorem Keeps.wbPost {e : Nat} (h : Keeps s₀ s) : Keeps s₀ (wbPost e s) := by
  unfold wbPost
  exact .ite h.modTag (.ite (.ite h h.modTag.emit) h.modTag.modBuf)

protected theorem Keeps.bufShow (h : Keeps s₀ s) : Keeps s₀ (bufShow s) := by
  unfold bufShow
  exact h.setf.modBuf.use fun h => .ite h.setf.emit h

protected theorem Keeps.execWritebackRequest (h : Keeps s₀ s) : Answers s₀ (execWritebackRequest s) := by
  unfold execWritebackRequest
  refine .ok ?_
  split
  · exact h.wbPost.bufShow
  · exact h

protected theorem Keeps.execDirtyAgeExpired {set : BitVec 13} {w : Way} (h : Keeps s₀ s) : Answers s₀ (execDirtyAgeExpired set w s) := by
  unfold execDirtyAgeExpired
  exact .ok (h.onlyIf fun _ h => h.wbPost.bufShow)

protected theorem Keeps.wbRead (h : Keeps s₀ s) : Keeps s₀ (wbRead s) := by
  unfold wbRead
  split
  · exact h.wr.wr.rdata
  · exact h.modBuf.wr.wr.rdata

protected theorem Keeps.execWbRequestRead (h : Keeps s₀ s) : Answers s₀ (execWbRequestRead s) := .ok h.wbRead

protected theorem Keeps.maintSkip (h : Keeps s₀ s) : Keeps s₀ (maintSkip s) := h.setf

protected theorem Keeps.maintWait {e : Nat} (h : Keeps s₀ s) : Keeps s₀ (maintWait e s) := h.modBuf

protected theorem Keeps.maintInvalLine {e : Nat} (h : Keeps s₀ s) : Keeps s₀ (maintInvalLine e s) := by
  unfold maintInvalLine
  split
  · exact h.tagDrop
  · exact h.tagDoom
  · exact h.maintSkip
  · exact h.maintSkip
  · exact h

protected theorem Keeps.maintVisit {op e : Nat} (h : Keeps s₀ s) : Keeps s₀ (maintVisit op e s) := by
  unfold maintVisit
  extract_lets _
  refine .ite ?_ ?_
  · exact h
  · split
    · exact h.maintInvalLine
    · exact .ite h.maintWait.wbPost (.ite h.maintWait h.maintInvalLine)
    · exact .ite h.tagDrop (.ite h.tagDoom h.maintInvalLine)
    · exact .ite h.tagDrop (.ite h.tagDoom h)
    · exact .ite h.maintWait.wbPost (.ite h.maintWait h)

protected theorem Keeps.maintCtl {v : W32} (h : Keeps s₀ s) : Keeps s₀ (maintCtl v s) := by
  unfold maintCtl
  exact .ite h.deny ((Keeps.ite h h.setf).use fun h₁ => (Keeps.ite h₁ h₁.setf).use fun h₂ => .ite h₂.deny (.ite h₂ ((h₂.setf.flag.modBuf.each
      fun _ _ h => h.maintVisit).bufShow)))

protected theorem Keeps.maintCmd {m : Master} {op : Nat} {v : W32} (h : Keeps s₀ s) : Keeps s₀ (maintCmd m op v s) := .ite h.maintCtl h.deny

protected theorem Keeps.execMaintInval {m : Master} {v : W32} (h : Keeps s₀ s) : Answers s₀ (execMaintInval m v s) := .ok h.maintCmd

protected theorem Keeps.execMaintClean {m : Master} {v : W32} (h : Keeps s₀ s) : Answers s₀ (execMaintClean m v s) := .ok h.maintCmd

protected theorem Keeps.execMaintCleanInval {m : Master} {v : W32} (h : Keeps s₀ s) : Answers s₀ (execMaintCleanInval m v s) := .ok h.maintCmd

protected theorem Keeps.execMaintDiscard {m : Master} {v : W32} (h : Keeps s₀ s) : Answers s₀ (execMaintDiscard m v s) := .ok h.maintCmd

protected theorem Keeps.execMaintInvalClass {m : Master} {v : W32} (h : Keeps s₀ s) : Answers s₀ (execMaintInvalClass m v s) := .ok h.maintCmd

protected theorem Keeps.execMaintCleanAll {m : Master} {v : W32} (h : Keeps s₀ s) : Answers s₀ (execMaintCleanAll m v s) := .ok h.maintCmd

protected theorem Keeps.execMaintEnd (h : Keeps s₀ s) : Answers s₀ (execMaintEnd s) := .ok (h.onlyIf fun _ h => (Keeps.ite h.setf h).modBuf.setf.emit)

protected theorem Keeps.maintNote {e result : Nat} {redirty : Bool} (h : Keeps s₀ s) : Keeps s₀ (maintNote e result redirty s) := by
  unfold maintNote
  split
  · exact h
  · exact .ite (h.modBuf.use fun h => .ite h.maintInvalLine h) h.wbPost

protected theorem Keeps.wbDone {v : W32} (h : Keeps s₀ s) : Keeps s₀ (wbDone v s) := by
  unfold wbDone
  exact h.wr.use fun h₁ => .ite h₁ (h₁.bufStat.use fun h => (Keeps.ite h.tagInvalid (.ite h.modTag h.tagClean)).wakeSet.maintNote.bufShow)

protected theorem Keeps.execWbDone {m : Master} {v : W32} (h : Keeps s₀ s) : Answers s₀ (execWbDone m v s) := .ok (.ite h.wbDone h.deny)

protected theorem Keeps.tagTouch {e : Nat} (h : Keeps s₀ s) : Keeps s₀ (tagTouch e s) := by
  unfold tagTouch
  exact h.modBuf.modTag

protected theorem Keeps.lookPin {q : Lookup} {e : Nat} {waits : Bool} (h : Keeps s₀ s) : Keeps s₀ (lookPin q e waits s) := h.modTag

protected theorem Keeps.lookBusy {q : Lookup} (h : Keeps s₀ s) : Keeps s₀ (lookBusy q s).2.2 := by
  unfold lookBusy
  extract_lets _ s₂ s₄
  have h₃ : Keeps s₀ s₂ := h.modBuf
  have h₅ : Keeps s₀ s₄ := by
    subst s₄
    refine .ite ?_ ?_
    · exact h₃
    · split
      · exact h₃.wbPost
      · exact h₃
  exact h₅

protected theorem Keeps.lookAlloc {q : Lookup} (h : Keeps s₀ s) : Keeps s₀ (lookAlloc q s).2.2 := by
  unfold lookAlloc
  refine .iteSnd₂ h.lookBusy ?_
  split
  · exact h.lookBusy
  · exact h.modTag.modBuf.tagTouch

protected theorem Keeps.bypassDrop {q : Lookup} (h : Keeps s₀ s) : Keeps s₀ (bypassDrop q s) := .ite h (h.each fun _ _ h => .ite h.tagDrop h)

protected theorem Keeps.lookHit {q : Lookup} {e : Nat} (h : Keeps s₀ s) : Keeps s₀ (lookHit q e s).2.2 := by
  unfold lookHit
  exact h.tagTouch.use fun h => .iteSnd₂ h.modTag.lookPin (.iteSnd₂ h.lookPin (.iteSnd₂ h.lookPin (.iteSnd₂ h.modTag.lookPin (.iteSnd₂
      h.tagDrop.lookAlloc h.lookBusy))))

protected theorem Keeps.lookup {q : Lookup} (h : Keeps s₀ s) : Keeps s₀ (lookup q s).2.2 := by
  unfold lookup
  refine .iteSnd₂ h.bypassDrop ?_
  split
  · exact h.lookHit
  · exact .iteSnd₂ h h.lookAlloc

protected theorem Keeps.raPost {key cls : Nat} (h : Keeps s₀ s) : Keeps s₀ (raPost key cls s) := .ite h.flag.bufStat h.modBuf.bufStat

protected theorem Keeps.raFeed {key cls : Nat} (h : Keeps s₀ s) : Keeps s₀ (raFeed key cls s) := .ite h (h.modBuf.each fun _ _ h => .ite h h.raPost)

protected theorem Keeps.raRead (h : Keeps s₀ s) : Keeps s₀ (raRead s) := by
  unfold raRead
  split
  · exact h.wr.rdata
  · exact h.modBuf.wr.rdata

protected theorem Keeps.execRaRequestRead (h : Keeps s₀ s) : Answers s₀ (execRaRequestRead s) := .ok h.raRead

protected theorem Keeps.wakeTake {c : Nat} (h : Keeps s₀ s) : Keeps s₀ (wakeTake c s) := by
  unfold wakeTake
  split
  · exact h.rdata
  · exact h.modBuf.rdata

protected theorem Keeps.execWakeRead {c : CoreId} (h : Keeps s₀ s) : Answers s₀ (execWakeRead c s) := .ok h.wakeTake

protected theorem Keeps.tagCommit {e f l : Nat} (h : Keeps s₀ s) : Keeps s₀ (tagCommit e f l s) := by
  unfold tagCommit
  exact .ite h h.modTag

protected theorem Keeps.tagRelease {e : Nat} (h : Keeps s₀ s) : Keeps s₀ (tagRelease e s) := by
  unfold tagRelease
  exact h.modTag.use fun h => .ite h.tagInvalid h.tagSettle

protected theorem Keeps.tagFillDone {e status : Nat} (h : Keeps s₀ s) : Keeps s₀ (tagFillDone e status s) := by
  unfold tagFillDone
  exact .ite h (((Keeps.ite h.modTag h.modTag).each fun _ _ h => h.wake).use fun h => .ite h.tagSettle (.ite h.tagClean h.tagDoom))

protected theorem Keeps.teShow {c code set : Nat} {e : Option Nat} (h : Keeps s₀ s) : Keeps s₀ (teShow c code set e s) := by
  unfold teShow
  exact h.wr.wr

protected theorem Keeps.teRun {c : Nat} {v : W32} (h : Keeps s₀ s) : Keeps s₀ (teRun c v s) := by
  unfold teRun
  refine .ite (h.lookup.bufStat.use fun h => (Keeps.ite h.raFeed h).teShow.bufShow) (Keeps.bufShow (Keeps.teShow ?_))
  split
  · exact h.tagCommit
  · exact h.tagRelease
  · exact h.tagFillDone

protected theorem Keeps.teCmd {c : Nat} {v : W32} (h : Keeps s₀ s) : Keeps s₀ (teCmd c v s) := by
  unfold teCmd
  exact .ite h.deny (h.wr.use fun h₁ => (Keeps.ite h₁.deny h₁).use fun h => .ite h.teRun h)

protected theorem Keeps.teExec {c : CoreId} {op : Nat} {v : W32} (h : Keeps s₀ s) : Keeps s₀ (teExec c op v s) := h.teCmd

protected theorem Keeps.execLookupRead {c : CoreId} {v : W32} (h : Keeps s₀ s) : Answers s₀ (execLookupRead c v s) := .ok h.teExec

protected theorem Keeps.execLookupWrite {c : CoreId} {v : W32} (h : Keeps s₀ s) : Answers s₀ (execLookupWrite c v s) := .ok h.teExec

protected theorem Keeps.execTagCommit {c : CoreId} {v : W32} (h : Keeps s₀ s) : Answers s₀ (execTagCommit c v s) := .ok h.teExec

protected theorem Keeps.execTagRelease {c : CoreId} {v : W32} (h : Keeps s₀ s) : Answers s₀ (execTagRelease c v s) := .ok h.teExec

protected theorem Keeps.execFillDone {c : CoreId} {v : W32} (h : Keeps s₀ s) : Answers s₀ (execFillDone c v s) := .ok h.teExec

protected theorem Keeps.wrEnWrite {on : Bool} (h : Keeps s₀ s) : Keeps s₀ (wrEnWrite on s) := h.setf.setf.bufShow

protected theorem Keeps.rdEnWrite {on : Bool} (h : Keeps s₀ s) : Keeps s₀ (rdEnWrite on s) := (Keeps.ite h h.flag).setf

protected theorem Keeps.classCtl {v : W32} (h : Keeps s₀ s) : Keeps s₀ (classCtl v s) := h.rdEnWrite.wrEnWrite

protected theorem Keeps.execWrEn {m : Master} {on : Bool} (h : Keeps s₀ s) : Answers s₀ (execWrEn m on s) := .ok (.ite h.wrEnWrite h.deny)

protected theorem Keeps.execRdEn {m : Master} {on : Bool} (h : Keeps s₀ s) : Answers s₀ (execRdEn m on s) := .ok (.ite h.rdEnWrite h.deny)

protected theorem Keeps.wayWrite {w : Nat} {on : Bool} (h : Keeps s₀ s) : Keeps s₀ (wayWrite w on s) := by
  unfold wayWrite
  extract_lets _ _
  refine .ite ?_ ?_
  · exact h.emit
  · refine .ite ?_ ?_
    · split
      · exact h.setf.setDom.setWayState
      · exact h.setf.setWayState
      · exact h.setf
    · exact .ite h.setf.setWayState h.setf

protected theorem Keeps.wayCtl {v : W32} (h : Keeps s₀ s) : Keeps s₀ (wayCtl v s) := by
  unfold wayCtl
  exact h.each fun _ _ h => .ite h h.wayWrite

protected theorem Keeps.execWayDisable {m : Master} {w : Way} (h : Keeps s₀ s) : Answers s₀ (execWayDisable m w s) := .ok (.ite h.wayWrite h.deny)

protected theorem Keeps.execWayEnable {m : Master} {w : Way} (h : Keeps s₀ s) : Answers s₀ (execWayEnable m w s) := .ok (.ite h.wayWrite h.deny)

protected theorem Keeps.execWayOff {w : Way} (h : Keeps s₀ s) : Answers s₀ (execWayOff w s) := by
  unfold execWayOff
  exact .ok (h.onlyIf fun _ h₁ => (h₁.each fun _ _ h => h.tagInvalid).setDom.setWayState.emit)

protected theorem Keeps.execWayOn {w : Way} (h : Keeps s₀ s) : Answers s₀ (execWayOn w s) := by
  unfold execWayOn
  exact .ok (h.onlyIf fun _ h₁ => h₁.setWayState.each fun _ _ h => h.wakeSet)

protected theorem Keeps.xorWord {a mask : Nat} (h : Keeps s₀ s) : Keeps s₀ (xorWord a mask s) := h.wrBytes

protected theorem Keeps.execDramEccError {addr : Addr} {corrected : Bool} (h : Keeps s₀ s) : Answers s₀ (execDramEccError addr corrected s) := by
  unfold execDramEccError
  exact .ok (h.onlyIf fun _ h => .ite ((Keeps.ite h.flips h.xorWord).dram.incSat.flag) ((Keeps.ite h h.xorWord).incSat.flag.wr.wr.setPoison.emit))

protected theorem Keeps.tagUncorr {e : Nat} {inj : Bool} (h : Keeps s₀ s) : Keeps s₀ (tagUncorr e inj s) := h.lodge

protected theorem Keeps.lostAdd {ns lba n : Nat} (h : Keeps s₀ s) : Keeps s₀ (lostAdd ns lba n s) := by
  unfold lostAdd
  exact h.modHif.emit.asyncHealth

protected theorem Keeps.lineLost {x : TagLine} (h : Keeps s₀ s) : Keeps s₀ (lineLost x s) := .ite h.lostAdd h

protected theorem Keeps.execTagEccError {set : BitVec 13} {w : Way} {corrected : Bool} (h : Keeps s₀ s) :
    Answers s₀ (execTagEccError set w corrected s) := by
  unfold execTagEccError
  exact .ok (.ite h.bufStat h.flag.emit.tagUncorr.lineLost.tagInvalid.modTag.bufShow)

protected theorem Keeps.execScrubRead (h : Keeps s₀ s) : Answers s₀ (execScrubRead s) :=
  .ok (h.onlyIf fun _ h₁ => (Keeps.ite h₁.incSat h₁).use fun h => .ite h.wr h.wr.incSat.emit)

protected theorem Keeps.execFlipmaskArm {addr : Addr} (h : Keeps s₀ s) : Answers s₀ (execFlipmaskArm addr s) := by
  unfold execFlipmaskArm
  exact .ok (h.onlyIf fun _ h => h.setf.flips)

/-! ### Sundial and Icehouse -/

protected theorem Keeps.epochApply {lo : W32} (h : Keeps s₀ s) : Keeps s₀ (epochApply lo s) := h.wr.wr.flag

protected theorem Keeps.timerShow {c : Nat} (h : Keeps s₀ s) : Keeps s₀ (timerShow c s) := .ite h h.setf

protected theorem Keeps.timerTick {c : Nat} (h : Keeps s₀ s) : Keeps s₀ (timerTick c s) := .ite h.flag h

protected theorem Keeps.execSundialRead {m : Master} (h : Keeps s₀ s) : Answers s₀ (execSundialRead m s) := by
  unfold execSundialRead
  exact .ok (.ite h.rdata h.same)

protected theorem Keeps.execEpochHiWrite {m : Master} {v : W32} (h : Keeps s₀ s) : Answers s₀ (execEpochHiWrite m v s) := .ok (.ite h.deny h.sdl)

protected theorem Keeps.execEpochLoWrite {m : Master} {v : W32} (h : Keeps s₀ s) : Answers s₀ (execEpochLoWrite m v s) :=
  .ok (.ite h.deny h.epochApply)

protected theorem Keeps.execCompareWrite {m : Master} {c : CoreId} {lo : Bool} {v : W32} (h : Keeps s₀ s) :
    Answers s₀ (execCompareWrite m c lo v s) :=
  .ok (.ite h.deny (.ite h.wr.wr.timerShow h.sdl))

protected theorem Keeps.execTimerCompare {c : CoreId} (h : Keeps s₀ s) : Answers s₀ (execTimerCompare c s) := .ok (h.onlyIf fun _ h => h.setf)

protected theorem Keeps.iceShow (h : Keeps s₀ s) : Keeps s₀ (iceShow s) := by
  unfold iceShow
  exact h.setf.setf

protected theorem Keeps.iceCapture {reason : Nat} (h : Keeps s₀ s) : Keeps s₀ (iceCapture reason s) := by
  unfold iceCapture
  exact (h.ice.each fun _ _ h => h.clr).iceShow.use fun h => .ite h.incSat.emit h

protected theorem Keeps.iceDue {reason : Nat} (h : Keeps s₀ s) : Keeps s₀ (iceDue reason s) := h.ice.iceCapture

protected theorem Keeps.execSnapshotCapture {reason : Slot} (h : Keeps s₀ s) : Answers s₀ (execSnapshotCapture reason s) :=
  .ok (h.onlyIf fun _ h => h.iceDue)

protected theorem Keeps.iceAdvance (h : Keeps s₀ s) : Keeps s₀ (iceAdvance s) := by
  unfold iceAdvance
  exact (Keeps.ite h.setf h).use fun h => (Keeps.ite h.ice h).setf

protected theorem Keeps.iceFind {n : Nat} (h : Keeps s₀ s) : Keeps s₀ (iceFind n s).1 := by
  induction n generalizing s with
  | zero => exact h
  | succ n ih =>
    unfold iceFind
    exact .iteFst h.engineErase (.iteFst (ih h.indetProg.iceAdvance.emit) (.iteFst h (ih h.iceAdvance.emit)))

protected theorem Keeps.slotProgram {hda : Nat} {l : List Byte} (h : Keeps s₀ s) : Keeps s₀ (slotProgram hda l s) := h.nvUnits.nvUnit

protected theorem Keeps.slotSpoil {hda : Nat} {l : List Byte} (h : Keeps s₀ s) : Keeps s₀ (slotSpoil hda l s) := by
  unfold slotSpoil
  exact h.fresh.nvUnits.use fun h => .ite h h.modNvs

protected theorem Keeps.icePut {c : IceCapture} {rest : List IceCapture} {fails : Bool} (h : Keeps s₀ s) : Keeps s₀ (icePut c rest fails s) := by
  unfold icePut
  exact .ite h.slotSpoil.iceAdvance.emit h.slotProgram.iceAdvance.ice.wr.emit

protected theorem Keeps.iceWrite {fails : Bool} (h : Keeps s₀ s) : Keeps s₀ (iceWrite fails s) := by
  unfold iceWrite
  refine Keeps.iceShow ?_
  split
  · exact h
  · exact .ite h (h.iceFind.use fun h => .ite h.icePut h)

protected theorem Keeps.execSnapshotWrite {fails : Bool} (h : Keeps s₀ s) : Answers s₀ (execSnapshotWrite fails s) := .ok h.iceWrite

protected theorem Keeps.iceScan (h : Keeps s₀ s) : Keeps s₀ (iceScan s) := by
  unfold iceScan
  split
  · exact h.setf
  · exact h.setf.wr.setf

protected theorem Keeps.execHistogramSample {q : Quantity} {x : Int} (h : Keeps s₀ s) : Answers s₀ (execHistogramSample q x s) := by
  unfold execHistogramSample
  refine .ok ?_
  split
  · exact h.histAdd.extAdd
  · exact h.histAdd.extAdd
  · exact h.histAdd.extAdd
  · exact h.extAdd
  · exact h.extAdd

protected theorem Keeps.execFoldAdd {m : Master} {i : BitVec 5} {v : W32} (h : Keeps s₀ s) : Answers s₀ (execFoldAdd m i v s) :=
  .ok (.ite h.deny h.ctrSat)

protected theorem Keeps.iceZero (h : Keeps s₀ s) : Keeps s₀ (iceZero s) := by
  unfold iceZero
  exact ((((h.each fun _ _ h => h.setCtr).each fun _ _ h₃ => h₃.clr.clr.each fun _ _ h => h.clr).each fun _ _ h => h.setCtr.setCtr.clr).each
      fun _ _ h => h.setCtr).clr.clr

/-! ### The map of the media -/

protected theorem Keeps.hostOutcome {p : MediaPlace} {op : Nat × Nat} {c : Nat} (h : Keeps s₀ s) : Keeps s₀ (hostOutcome p op c s) := h.modHif

protected theorem Keeps.mediaNote {p : MediaPlace} {op : Nat × Nat} {oc addr : Nat} (h : Keeps s₀ s) : Keeps s₀ (mediaNote p op oc addr s) := by
  unfold mediaNote
  split
  · exact h
  · exact h.hostOutcome.use fun h => .ite h.modHif h

/-! ### Servo -/

protected theorem Keeps.modLoop {hda l : Nat} {f : LoopSt → LoopSt} (h : Keeps s₀ s) : Keeps s₀ (modLoop hda l f s) := h.loops

protected theorem Keeps.setActBit {a : Nat} {f : Fld} {i : Nat} {b : Bool} (h : Keeps s₀ s) : Keeps s₀ (setActBit a f i b s) := h.setf

protected theorem Keeps.modLnk {a : Nat} {f : LnkSt → LnkSt} (h : Keeps s₀ s) : Keeps s₀ (modLnk a f s) := h.lnks

protected theorem Keeps.showStripe {a : Nat} (h : Keeps s₀ s) : Keeps s₀ (showStripe a s) := by
  unfold showStripe
  exact h.setf

protected theorem Keeps.unsettle {a : Nat} (h : Keeps s₀ s) : Keeps s₀ (unsettle a s) := by
  unfold unsettle
  exact h.setf.setf.modAct

protected theorem Keeps.withdraw {a mask cause : Nat} (h : Keeps s₀ s) : Keeps s₀ (withdraw a mask cause s) := by
  unfold withdraw
  exact .ite h h.fenceOff

protected theorem Keeps.stripeTake {a : Nat} (h : Keeps s₀ s) : Keeps s₀ (stripeTake a s) := by
  unfold stripeTake
  exact h.freshInt.freshInt.modAct

protected theorem Keeps.enterSettle {a : Nat} (h : Keeps s₀ s) : Keeps s₀ (enterSettle a s) := by
  unfold enterSettle
  exact (h.stripeTake.each fun _ _ h => h.modLoop).setf.setActState.showStripe

protected theorem Keeps.closeMas {a : Nat} (h : Keeps s₀ s) : Keeps s₀ (closeMas a s) := h.each fun _ _ h => h.modLoop

protected theorem Keeps.actRefuse {a : Nat} {f : Fld} (h : Keeps s₀ s) : Keeps s₀ (actRefuse a f s) := h.flag.emit

protected theorem Keeps.thermalLoaded {a : Nat} (h : Keeps s₀ s) : Keeps s₀ (thermalLoaded a s) := .ite h.actFault h

protected theorem Keeps.actLoad {a : Nat} (h : Keeps s₀ s) : Keeps s₀ (actLoad a s) := by
  unfold actLoad
  exact .ite h.actRefuse (.ite h.actRefuse h.modAct.setf.setActState.showStripe.thermalLoaded)

protected theorem Keeps.actUnload {a : Nat} (h : Keeps s₀ s) : Keeps s₀ (actUnload a s) := by
  unfold actUnload
  exact .ite h.modAct.withdraw.unsettle.setActState h.actRefuse

protected theorem Keeps.planSeek {a : Nat} {w0 : W32} (h : Keeps s₀ s) : Keeps s₀ (planSeek a w0 s) := by
  unfold planSeek
  exact .ite h.modAct h.modAct

protected theorem Keeps.seekReplace {a : Nat} (h : Keeps s₀ s) : Keeps s₀ (seekReplace a s) := .ite (h.incSat.emit.use fun h => .ite h.modSeq h) h

protected theorem Keeps.seekAccept {a : Nat} {w0 w1 : W32} {bySeq : Bool} (h : Keeps s₀ s) : Keeps s₀ (seekAccept a w0 w1 bySeq s) := by
  unfold seekAccept
  exact h.seekReplace.incSat.withdraw.unsettle.use fun h₂ => (Keeps.ite h₂ h₂.planSeek).modAct.use fun h => .ite h.enterSettle h.setActState

protected theorem Keeps.seekRequest {a : Nat} {w0 w1 : W32} {bySeq : Bool} (h : Keeps s₀ s) : Keeps s₀ (seekRequest a w0 w1 bySeq s) :=
  .ite h.seekAccept (h.actRefuse.use fun h => .ite h.modSeq h)

protected theorem Keeps.actCmd {a : Nat} {v : W32} (h : Keeps s₀ s) : Keeps s₀ (actCmd a v s) := by
  unfold actCmd
  split
  · exact h
  · exact h.actLoad
  · exact h.actUnload
  · exact h.seekRequest
  · exact h.actRefuse.deny

protected theorem Keeps.execSrvLoad {m : Master} {a : Act} (h : Keeps s₀ s) : Answers s₀ (execSrvLoad m a s) := .ok (.ite h.actLoad h.deny)

protected theorem Keeps.execSrvUnload {m : Master} {a : Act} (h : Keeps s₀ s) : Answers s₀ (execSrvUnload m a s) := .ok (.ite h.actUnload h.deny)

protected theorem Keeps.execSrvSeek {m : Master} {a : Act} (h : Keeps s₀ s) : Answers s₀ (execSrvSeek m a s) := .ok (.ite h.seekRequest h.deny)

protected theorem Keeps.coefCtl {hda : Nat} {v : W32} (h : Keeps s₀ s) : Keeps s₀ (coefCtl hda v s) :=
  .ite h.deny (h.setf.setf.use fun h₁ => (Keeps.ite h₁.modLoop h₁).use fun h => .ite h.modLoop h)

protected theorem Keeps.execSlotOpen {m : Master} {hda : Hda} {v : W32} (h : Keeps s₀ s) : Answers s₀ (execSlotOpen m hda v s) :=
  .ok (.ite h.coefCtl h.deny)

protected theorem Keeps.execSlotClose {m : Master} {hda : Hda} {v : W32} (h : Keeps s₀ s) : Answers s₀ (execSlotClose m hda v s) :=
  .ok (.ite h.coefCtl h.deny)

protected theorem Keeps.coefWrite {hda l w : Nat} {v : W32} (h : Keeps s₀ s) : Keeps s₀ (coefWrite hda l w v s) := .ite h.wr h.deny

protected theorem Keeps.execCoefPageWrite {m : Master} {hda : Hda} {l : BitVec 5} {w : BitVec 6} {v : W32} (h : Keeps s₀ s) :
    Answers s₀ (execCoefPageWrite m hda l w v s) :=
  .ok (.ite h.coefWrite h.deny)

protected theorem Keeps.showOpen {hda l : Nat} {b : Bool} (h : Keeps s₀ s) : Keeps s₀ (showOpen hda l b s) := h.setf

protected theorem Keeps.closeSlot {hda l mode : Nat} (h : Keeps s₀ s) : Keeps s₀ (closeSlot hda l mode s) := h.modLoop.showOpen

protected theorem Keeps.slotPending {hda l : Nat} (h : Keeps s₀ s) : Keeps s₀ (slotPending hda l s) := by
  unfold slotPending
  refine .ite h (h.modLoop.each fun c t h => ?_)
  cases c with
  | none => exact h.modLoop.showOpen
  | some mode => exact h.closeSlot

protected theorem Keeps.showLoop {hda l : Nat} {e u i o : Int} (h : Keeps s₀ s) : Keeps s₀ (showLoop hda l e u i o s) := by
  unfold showLoop
  exact h.wr.wr.wr.wr

protected theorem Keeps.slotOpen {hda l : Nat} (h : Keeps s₀ s) : Keeps s₀ (slotOpen hda l s) := h.modLoop

protected theorem Keeps.slotRun {hda l : Nat} {e acc : Int} (h : Keeps s₀ s) : Keeps s₀ (slotRun hda l e acc s) := by
  unfold slotRun
  exact .ite h.slotOpen h.modLoop.wr.showLoop

protected theorem Keeps.slotIdle {hda l : Nat} (h : Keeps s₀ s) : Keeps s₀ (slotIdle hda l s) := .ite h.slotOpen h.modLoop.showLoop

protected theorem Keeps.slotHold {hda l : Nat} (h : Keeps s₀ s) : Keeps s₀ (slotHold hda l s) := .ite h.slotOpen h.modLoop.showLoop

protected theorem Keeps.slotFade {hda l : Nat} (h : Keeps s₀ s) : Keeps s₀ (slotFade hda l s) := .ite h.slotOpen h.modLoop.wr

protected theorem Keeps.latch {a : Nat} {pos : List (Option Int)} (h : Keeps s₀ s) : Keeps s₀ (latch a pos s) := by
  unfold latch
  exact h.setf.modAct

protected theorem Keeps.trajStep {a : Nat} (h : Keeps s₀ s) : Keeps s₀ (trajStep a s) := by
  unfold trajStep
  exact .ite h.freshInt.modAct (.ite h.modAct h.modAct)

protected theorem Keeps.rejoinRuns {a : Nat} (h : Keeps s₀ s) : Keeps s₀ (rejoinRuns a s) := by
  unfold rejoinRuns
  exact h.modAct

protected theorem Keeps.settleRuns {a : Nat} (h : Keeps s₀ s) : Keeps s₀ (settleRuns a s) := by
  unfold settleRuns
  exact h.modAct

protected theorem Keeps.wsetDrop {a i : Nat} (h : Keeps s₀ s) : Keeps s₀ (wsetDrop a i s) := by
  unfold wsetDrop
  exact .ite h.setActBit.modAct h

protected theorem Keeps.fenceDecide {a : Nat} (h : Keeps s₀ s) : Keeps s₀ (fenceDecide a s) := by
  unfold fenceDecide
  refine Keeps.modAct ((h.each fun _ _ h => h.wsetDrop).each fun i t h => ?_)
  split
  · exact h.withdraw.modAct
  · exact h.modAct

protected theorem Keeps.missRuns {a : Nat} (h : Keeps s₀ s) : Keeps s₀ (missRuns a s) := by
  unfold missRuns
  exact h.modAct

protected theorem Keeps.actWedge {a w : Nat} {pos : List (Option Int)} {sync : Bool} (h : Keeps s₀ s) : Keeps s₀ (actWedge a w pos sync s) := by
  unfold actWedge
  exact (Keeps.ite h.incWrap h).modAct.use fun h₂ => (Keeps.ite h₂.modAct h₂).latch.use fun h₄ => .ite h₄ ((Keeps.ite h₄.modAct h₄).use fun h₅ =>
      ((Keeps.ite h₅.trajStep h₅).each fun _ _ h => h.modLoop).use fun h => (Keeps.ite h.settleRuns h).rejoinRuns.missRuns.fenceDecide)

protected theorem Keeps.vcmWedge {a : Nat} (h : Keeps s₀ s) : Keeps s₀ (vcmWedge a s) := by
  unfold vcmWedge
  exact .ite h.slotIdle (.ite h.slotRun (.ite ((Keeps.ite h h.modLoop).slotRun) h.slotRun))

protected theorem Keeps.maWedge {a i : Nat} (h : Keeps s₀ s) : Keeps s₀ (maWedge a i s) := by
  unfold maWedge
  exact .ite h.slotIdle (.ite h.slotHold (.ite h.slotFade h.slotRun))

protected theorem Keeps.scmdSend {a w : Nat} (h : Keeps s₀ s) : Keeps s₀ (scmdSend a w s) := .ite h ((h.each fun _ _ h => h.modDn).modLnk)

protected theorem Keeps.actAfter {a w : Nat} (h : Keeps s₀ s) : Keeps s₀ (actAfter a w s) := by
  unfold actAfter
  exact h.withdraw.modAct.modSeq.scmdSend

protected theorem Keeps.remapApply {a : Nat} (h : Keeps s₀ s) : Keeps s₀ (remapApply a s) := by
  unfold remapApply
  split
  · exact h
  · exact h.setf.setf.setf.setf.modAct.modLnk.showStripe

protected theorem Keeps.setpointStep {hda : Nat} (h : Keeps s₀ s) : Keeps s₀ (setpointStep hda s) := by
  unfold setpointStep
  extract_lets _ _ _ _ _ _ _
  split
  · exact .ite h h.modSpin
  · exact h.modSpin
  · exact h

protected theorem Keeps.spnWedge {hda : Nat} (h : Keeps s₀ s) : Keeps s₀ (spnWedge hda s) := by
  unfold spnWedge
  exact .ite h.fresh.modSpin.slotIdle (.ite h.setpointStep.slotRun.modSpin h.slotIdle)

protected theorem Keeps.timerRuns {hda sync : Nat} (h : Keeps s₀ s) : Keeps s₀ (timerRuns hda sync s) := by
  unfold timerRuns
  exact h.engs

protected theorem Keeps.wedgeInterval {hda ns : Nat} (h : Keeps s₀ s) : Keeps s₀ (wedgeInterval hda ns s) := by
  unfold wedgeInterval
  exact h.engs

protected theorem Keeps.wedgeSpeed {hda : Nat} (h : Keeps s₀ s) : Keeps s₀ (wedgeSpeed hda s) := by
  unfold wedgeSpeed
  exact .ite h.setf.speedTaken h

protected theorem Keeps.wedge {hda ns : Nat} {pos : List (Option Int)} {sync : Nat} (h : Keeps s₀ s) : Keeps s₀ (wedge hda ns pos sync s) := by
  unfold wedge
  exact (((((h.setf.timerRuns.wedgeInterval.wedgeSpeed.each fun _ _ h => h.remapApply).each fun _ _ h => h.slotPending).each fun _ _ h =>
      h.actWedge).each fun _ _ h => h.vcmWedge).each fun _ _ h₁₁ => h₁₁.each fun _ _ h => h.maWedge).spnWedge.each fun _ _ h => h.actAfter

protected theorem Keeps.execServoWedge {hda : Hda} {ns : BitVec 20} {pos : List (Option Int)} {sync : BitVec 4} (h : Keeps s₀ s) :
    Answers s₀ (execServoWedge hda ns pos sync s) :=
  .ok h.wedge

protected theorem Keeps.servoFault {a code : Nat} {f : Fld} {inj : Bool} (h : Keeps s₀ s) : Keeps s₀ (servoFault a code f inj s) := h.flag.emit.actFault

protected theorem Keeps.execServoLost {a : Act} (h : Keeps s₀ s) : Answers s₀ (execServoLost a s) := by
  unfold execServoLost
  exact .ok (h.onlyIf fun _ h => h.modAct.servoFault)

protected theorem Keeps.execTimerLock {hda : Hda} {wedge : BitVec 10} (h : Keeps s₀ s) : Answers s₀ (execTimerLock hda wedge s) := by
  unfold execTimerLock
  exact .ok (h.onlyIf fun _ h₁ => h₁.setf.flag.use fun h => (Keeps.ite h.setf h).emit)

protected theorem Keeps.execTimerLockLost {hda : Hda} (h : Keeps s₀ s) : Answers s₀ (execTimerLockLost hda s) := by
  unfold execTimerLockLost
  exact .ok (h.onlyIf fun _ h₁ => h₁.setf.use fun h => (Keeps.ite h.setf h).emit)

protected theorem Keeps.execVcmSatFault {a : Act} (h : Keeps s₀ s) : Answers s₀ (execVcmSatFault a s) := by
  unfold execVcmSatFault
  exact .ok (h.onlyIf fun _ h => h.modAct.servoFault)

protected theorem Keeps.execOpenLimitFault {a : Act} (h : Keeps s₀ s) : Answers s₀ (execOpenLimitFault a s) := by
  unfold execOpenLimitFault
  exact .ok (h.onlyIf fun _ h => h.modAct.servoFault)

protected theorem Keeps.execLoadAcquired {a : Act} {cyl : BitVec 21} (h : Keeps s₀ s) : Answers s₀ (execLoadAcquired a cyl s) := by
  unfold execLoadAcquired
  exact .ok (h.onlyIf fun _ h => h.modAct.enterSettle.closeMas)

protected theorem Keeps.loadTimeout {a : Nat} {inj : Bool} (h : Keeps s₀ s) : Keeps s₀ (loadTimeout a inj s) := h.servoFault

protected theorem Keeps.execLoadingTimeout {a : Act} (h : Keeps s₀ s) : Answers s₀ (execLoadingTimeout a s) := .ok (h.onlyIf fun _ h => h.loadTimeout)

protected theorem Keeps.execTrajectoryEnd {a : Act} (h : Keeps s₀ s) : Answers s₀ (execTrajectoryEnd a s) := by
  unfold execTrajectoryEnd
  exact .ok (h.onlyIf fun _ h => h.enterSettle.closeMas)

protected theorem Keeps.execReadSettled {a : Act} (h : Keeps s₀ s) : Answers s₀ (execReadSettled a s) := by
  unfold execReadSettled
  refine .ok (h.onlyIf fun t h => ?_)
  dsimp only
  split
  · exact h.flag.setActState
  · exact h.flag.setActState.histAdd.extAdd.modAct

protected theorem Keeps.execWriteSettled {a : Act} {i : Slot} (h : Keeps s₀ s) : Answers s₀ (execWriteSettled a i s) := by
  unfold execWriteSettled
  exact .ok (h.onlyIf fun _ h => h.setActBit)

protected theorem Keeps.execSettleTimeout {a : Act} (h : Keeps s₀ s) : Answers s₀ (execSettleTimeout a s) := by
  unfold execSettleTimeout
  exact .ok (h.onlyIf fun _ h => h.modAct.flag.emit)

protected theorem Keeps.execHeadLeavesStripe {a : Act} {i : Slot} (h : Keeps s₀ s) : Answers s₀ (execHeadLeavesStripe a i s) := by
  unfold execHeadLeavesStripe
  exact .ok (h.onlyIf fun _ h₁ => h₁.setActBit.setActBit.modLoop.modAct.showStripe.emit.use fun h => .ite h.flag.emit h)

protected theorem Keeps.execHeadRejoins {a : Act} {i : Slot} (h : Keeps s₀ s) : Answers s₀ (execHeadRejoins a i s) := by
  unfold execHeadRejoins
  exact .ok (h.onlyIf fun _ h => h.setActBit.modLoop.modAct.showStripe)

protected theorem Keeps.execRejoinRunEnd {a : Act} {i : Slot} (h : Keeps s₀ s) : Answers s₀ (execRejoinRunEnd a i s) := by
  unfold execRejoinRunEnd
  exact .ok (h.onlyIf fun _ h => h.modAct.showStripe)

/-! ### Sectors in flight -/

protected theorem Keeps.modFly {a id : Nat} {f : FlyEnt → FlyEnt} (h : Keeps s₀ s) : Keeps s₀ (modFly a id f s) := h.modSeq

protected theorem Keeps.settle {a id oc cause iter : Nat} (h : Keeps s₀ s) : Keeps s₀ (settle a id oc cause iter s) := by
  unfold settle
  split
  · exact h
  · exact .ite h.modSeq h.mediaNote.modFly.modSeq

protected theorem Keeps.queueFree {a id : Nat} (h : Keeps s₀ s) : Keeps s₀ (queueFree a id s) := h.modSeq

protected theorem Keeps.notGated {a : Nat} {p : FlyEnt → Bool} {cause : Nat} (h : Keeps s₀ s) : Keeps s₀ (notGated a p cause s) :=
  h.each fun _ _ h => h.settle

/-! ### The read chain -/

protected theorem Keeps.modChain {a i : Nat} {f : Chain → Chain} (h : Keeps s₀ s) : Keeps s₀ (modChain a i f s) := h.chains

protected theorem Keeps.chainWork {a i : Nat} {f : List Int × Chain → List Int × Chain} (h : Keeps s₀ s) : Keeps s₀ (chainWork a i f s) := by
  unfold chainWork
  exact h.modChain.each fun _ _ h => h.setf

protected theorem Keeps.chainRun {a i cyl : Nat} {pos : List (Option Int)} (h : Keeps s₀ s) : Keeps s₀ (chainRun a i cyl pos s) := h.chainWork

protected theorem Keeps.chainStart {a i sector : Nat} (h : Keeps s₀ s) : Keeps s₀ (chainStart a i sector s) := by
  unfold chainStart
  exact h.modChain

protected theorem Keeps.chainPart {a i cyl : Nat} (h : Keeps s₀ s) : Keeps s₀ (chainPart a i cyl s) := by
  unfold chainPart
  exact .ite h h.chainWork.modChain

protected theorem Keeps.codeBegin {a i p : Nat} (h : Keeps s₀ s) : Keeps s₀ (codeBegin a i p s) := h.modChain

protected theorem Keeps.deliver {a slot head : Nat} {part : Bool} {pos : List (Option Int)} {erasedBlks : Nat} (h : Keeps s₀ s) :
    Keeps s₀ (deliver a slot head part pos erasedBlks s) := by
  unfold deliver
  extract_lets s₂ _ s₄
  have h₃ : Keeps s₀ s₂ := .ite h.ctrSat h
  have h₅ : Keeps s₀ s₄ := by
    subst s₄
    split
    · exact h₃
    · exact h₃.pool
  split
  · exact h₅.modChain
  · exact (Keeps.ite h₅.chainPart h₅).chainRun

/-! ### The SLOAS link -/

protected theorem Keeps.modUp {a i : Nat} {f : UpLane → UpLane} (h : Keeps s₀ s) : Keeps s₀ (modUp a i f s) := h.up

protected theorem Keeps.frameCount {a i : Nat} {servo : Bool} {c : FrameCheck} {hdr tail : BitVec 64} {n : Nat} (h : Keeps s₀ s) :
    Keeps s₀ (frameCount a i servo c hdr tail n s) := by
  unfold frameCount
  exact h.incSat.incSat.incSat.incSat.use fun h₄ => (Keeps.ite h₄.ctrWrap h₄).modUp.use fun h => .ite h.flag.emit h

protected theorem Keeps.execSampleFrame {a : Act} {lane : Slot} {hdr : BitVec 64} {data : List (Bool × BitVec 64)} {tail : BitVec 64}
    (h : Keeps s₀ s) :
    Answers s₀ (execSampleFrame a lane hdr data tail s) := by
  unfold execSampleFrame
  exact .ok (h.onlyIf fun _ h₁ => h₁.frameCount.use fun h => .ite h h.deliver)

protected theorem Keeps.execServoFrame {a : Act} {lane : Slot} {hdr : BitVec 64} {data : List (Bool × BitVec 64)} {tail : BitVec 64}
    (h : Keeps s₀ s) :
    Answers s₀ (execServoFrame a lane hdr data tail s) := by
  unfold execServoFrame
  exact .ok (h.onlyIf fun _ h₁ => h₁.frameCount.use fun h => .ite h h.modAct)

protected theorem Keeps.execInvalidBlock {a : Act} {lane : Slot} (h : Keeps s₀ s) : Answers s₀ (execInvalidBlock a lane s) := .ok h.incSat

protected theorem Keeps.wfault {a i : Nat} (h : Keeps s₀ s) : Keeps s₀ (wfault a i s) := by
  unfold wfault
  exact h.setf.fenceOff.emit

protected theorem Keeps.feRetract {a : Nat} {inj : Bool} (h : Keeps s₀ s) : Keeps s₀ (feRetract a inj s) := h.flag.emit.actFault

protected theorem Keeps.execStatus {a : Act} {v : BitVec 64} (h : Keeps s₀ s) : Answers s₀ (execStatus a v s) := by
  unfold execStatus
  exact .ok ((h.wr.wr.incSat.incSat.extAdd.each fun _ _ h => h.wfault).use fun h₅ => (Keeps.ite h₅.modLnk h₅).modLnk.onlyIf fun _ h => h.feRetract)

protected theorem Keeps.scmdLostFault {a : Nat} {inj : Bool} (h : Keeps s₀ s) : Keeps s₀ (scmdLostFault a inj s) := h.flag.emit.actFault

protected theorem Keeps.execScmdLost {a : Act} (h : Keeps s₀ s) : Answers s₀ (execScmdLost a s) := by
  unfold execScmdLost
  exact .ok (h.onlyIf fun _ h => h.modLnk.scmdLostFault)

protected theorem Keeps.feSend {a : Nat} {acc : FeAcc} (h : Keeps s₀ s) : Keeps s₀ (feSend a acc s) := by
  unfold feSend
  extract_lets _ s₂
  have h₃ : Keeps s₀ s₂ := h.modLnk
  split
  · exact h₃
  · exact h₃.modDn

protected theorem Keeps.feBegin {a : Nat} {acc : FeAcc} (h : Keeps s₀ s) : Keeps s₀ (feBegin a acc s) := .ite h.modLnk h.feSend

protected theorem Keeps.feStart {a : Nat} {acc : FeAcc} (h : Keeps s₀ s) : Keeps s₀ (feStart a acc s) := .ite h.modLnk h.feBegin

protected theorem Keeps.feFollow {a : Nat} (h : Keeps s₀ s) : Keeps s₀ (feFollow a s) := by
  unfold feFollow
  split
  · exact h
  · exact h.modLnk.feBegin

protected theorem Keeps.feEnd {a err data : Nat} (h : Keeps s₀ s) : Keeps s₀ (feEnd a err data s) := by
  unfold feEnd
  split
  · exact h
  · refine Keeps.feFollow ?_
    split
    · exact h.modLnk.setf.setf.setf.setf
    · exact h.modLnk.modLnk
    · exact h.modLnk.use fun h => .ite h.modLnk h
    · exact h.modLnk
    · exact h.modLnk

protected theorem Keeps.execRegData {a : Act} {v : BitVec 64} (h : Keeps s₀ s) : Answers s₀ (execRegData a v s) := by
  unfold execRegData
  refine .ok (h.onlyIf fun t h => .ite (.ite h.modRetr h) ?_)
  split
  · exact .ite h.feEnd h
  · exact h

protected theorem Keeps.feCmd {a : Nat} {v : W32} (h : Keeps s₀ s) : Keeps s₀ (feCmd a v s) := by
  unfold feCmd
  exact .ite h.wr (.ite h.deny (.ite h.wr.setf.setf.deny h.wr.setf.feStart))

protected theorem Keeps.execFeRegWrite {m : Master} {a : Act} {v : W32} (h : Keeps s₀ s) : Answers s₀ (execFeRegWrite m a v s) :=
  .ok (.ite h.feCmd (.ite h.badAccess h.deny))

protected theorem Keeps.execFeRegRead {m : Master} {a : Act} {v : W32} (h : Keeps s₀ s) : Answers s₀ (execFeRegRead m a v s) :=
  .ok (.ite h.feCmd (.ite h.badAccess h.deny))

protected theorem Keeps.execFeRegWriteRelease {a : Act} (h : Keeps s₀ s) : Answers s₀ (execFeRegWriteRelease a s) := by
  unfold execFeRegWriteRelease
  extract_lets _
  refine .ok ?_
  split
  · exact .ite h.feSend h
  · exact h

protected theorem Keeps.execFeRegTimeout {a : Act} (h : Keeps s₀ s) : Answers s₀ (execFeRegTimeout a s) := by
  unfold execFeRegTimeout
  extract_lets _
  refine .ok ?_
  split
  · exact h
  · exact .ite h (.ite h.feEnd.emit h.feBegin)

protected theorem Keeps.setLock {a : Nat} {down : Bool} {i : Nat} {b : Bool} (h : Keeps s₀ s) : Keeps s₀ (setLock a down i b s) := .ite h.setf h.setf

protected theorem Keeps.laneMapWrite {a m : Nat} (h : Keeps s₀ s) : Keeps s₀ (laneMapWrite a m s) := by
  unfold laneMapWrite
  exact h.modLnk.feStart

protected theorem Keeps.linkDown {a : Nat} {inj : Bool} (h : Keeps s₀ s) : Keeps s₀ (linkDown a inj s) := by
  unfold linkDown
  exact h.setf.flag.fenceOff.emit.use fun h => .ite h.actFault h

protected theorem Keeps.remapDeclare {a : Nat} (h : Keeps s₀ s) : Keeps s₀ (remapDeclare a s) := by
  unfold remapDeclare
  exact h.fenceOff.modLnk.laneMapWrite.emit

protected theorem Keeps.laneFailed {a : Nat} {down : Bool} {i : Nat} (h : Keeps s₀ s) : Keeps s₀ (laneFailed a down i s) := by
  unfold laneFailed
  exact .ite h (h.setf.setLock.use fun h₁ => (Keeps.ite h₁ h₁.modUp).use fun h₂ => (Keeps.ite h₂.modLnk h₂).flag.emit.use fun h => .ite h (.ite
      h.linkDown (.ite h.notGated.setf.flag.remapDeclare (.ite h.remapDeclare h))))

protected theorem Keeps.retrainStart {a : Nat} {down : Bool} {i : Nat} (h : Keeps s₀ s) : Keeps s₀ (retrainStart a down i s) :=
  .ite h.incSat.modLnk h.incSat.modUp

protected theorem Keeps.laneLost {a : Nat} {down : Bool} {i : Nat} (h : Keeps s₀ s) : Keeps s₀ (laneLost a down i s) := by
  unfold laneLost
  exact h.incSat.setLock.withdraw.retrainStart

protected theorem Keeps.lossNote {a : Nat} {down : Bool} {i : Nat} (h : Keeps s₀ s) : Keeps s₀ (lossNote a down i s).2 := by
  unfold lossNote
  exact .iteSnd h.modLnk h.modUp

protected theorem Keeps.execBlockLockLost {a : Act} {down : Bool} {lane : Slot} (h : Keeps s₀ s) : Answers s₀ (execBlockLockLost a down lane s) := by
  unfold execBlockLockLost
  exact .ok (h.onlyIf fun _ h₁ => h₁.laneLost.emit.lossNote.use fun h => .ite h.laneFailed h)

protected theorem Keeps.execLaneQueueOverflow {a : Act} {lane : Slot} (h : Keeps s₀ s) : Answers s₀ (execLaneQueueOverflow a lane s) :=
  .ok (h.onlyIf fun _ h => h.laneLost)

protected theorem Keeps.execRetrainAttemptEnd {a : Act} {down : Bool} {lane : Slot} {locked : Bool} (h : Keeps s₀ s) :
    Answers s₀ (execRetrainAttemptEnd a down lane locked s) := by
  unfold execRetrainAttemptEnd
  exact .ok (h.onlyIf fun _ h₁ => .ite (h₁.setLock.use fun h => .ite h.modLnk h.modUp) (.ite h₁.laneFailed h₁.retrainStart))

protected theorem Keeps.execAlignBlock {a : Act} {lane : Slot} {skew : BitVec 8} (h : Keeps s₀ s) : Answers s₀ (execAlignBlock a lane skew s) := by
  unfold execAlignBlock
  exact .ok (h.onlyIf fun _ h => .ite h.laneFailed h.setf)

protected theorem Keeps.startTraining {a : Nat} (h : Keeps s₀ s) : Keeps s₀ (startTraining a s) := by
  unfold startTraining
  exact (h.setf.setf.setf.setf.setf.each fun _ _ h => h.modUp.modDn).modLnk

protected theorem Keeps.lnkTrain {a : Nat} (h : Keeps s₀ s) : Keeps s₀ (lnkTrain a s) := .ite h.startTraining h.deny

protected theorem Keeps.execTrain {m : Master} {a : Act} (h : Keeps s₀ s) : Answers s₀ (execTrain m a s) :=
  .ok (.ite h.deny (.ite h.lnkTrain h.badAccess))

protected theorem Keeps.trainMap {a m : Nat} (h : Keeps s₀ s) : Keeps s₀ (trainMap a m s) := by
  unfold trainMap
  exact h.modLnk.remapApply.laneMapWrite.feStart

protected theorem Keeps.identRead {a reply : Nat} (h : Keeps s₀ s) : Keeps s₀ (identRead a reply s) := by
  unfold identRead
  extract_lets read
  have hr : ∀ t, Keeps s₀ t → Keeps s₀ (read t) := by
    intro t h
    dsimp only [read]
    split
    · exact h.modLnk
    · exact h.modLnk.modDn
  exact .ite (hr _ (hr _ h)) (hr _ h)

protected theorem Keeps.identBad {a reply : Nat} (h : Keeps s₀ s) : Keeps s₀ (identBad a reply s) := by
  unfold identBad
  exact h.setf.flag.emit.use fun h => .ite h.emit h

protected theorem Keeps.endTraining {a locked reply ident : Nat} (h : Keeps s₀ s) : Keeps s₀ (endTraining a locked reply ident s) :=
  .ite h (((h.setf.setf.each fun _ _ h => h.laneFailed).each fun _ _ h => h.laneFailed).use fun h₅ => .ite h₅.linkDown (h₅.identRead.use fun h =>
      .ite h.identBad (.ite h.setf.modLnk.trainMap.emit h.setf.flag.trainMap.emit)))

/-! ### Sectors of a codeword -/

protected theorem Keeps.sectorWrite {addr : Nat} {l : List Byte} (h : Keeps s₀ s) : Keeps s₀ (sectorWrite addr l s) := h.wrGood

protected theorem Keeps.sectorPoison {addr : Nat} (h : Keeps s₀ s) : Keeps s₀ (sectorPoison addr s) :=
  .ite h.badAccess ((h.each fun _ _ h => h.setPoison).flipTake)

/-! ### Writing -/

protected theorem Keeps.wchShow {a i : Nat} (h : Keeps s₀ s) : Keeps s₀ (wchShow a i s) := by
  unfold wchShow
  exact h.setf.setf

protected theorem Keeps.execSectorFetch {a : Act} {i : Slot} (h : Keeps s₀ s) : Answers s₀ (execSectorFetch a i s) := by
  unfold execSectorFetch
  extract_lets _ _
  refine .ok ?_
  split
  · exact h
  · exact .ite h h.modFly.wchShow

protected theorem Keeps.execCodewordEncoded {a : Act} {i : Slot} (h : Keeps s₀ s) : Answers s₀ (execCodewordEncoded a i s) := by
  unfold execCodewordEncoded
  extract_lets _
  refine .ok ?_
  split
  · exact h
  · exact h.modFly.wchShow

protected theorem Keeps.writeLate {a id : Nat} (h : Keeps s₀ s) : Keeps s₀ (writeLate a id s) := h.flag.modFly.emit

protected theorem Keeps.gapJoin {a : Nat} {e : FlyEnt} (h : Keeps s₀ s) : Keeps s₀ (gapJoin a e s) := by
  unfold gapJoin
  split
  · exact h
  · exact h.modDn.modFly

protected theorem Keeps.sendPart {a i : Nat} {bl : List WBlk} (h : Keeps s₀ s) : Keeps s₀ (sendPart a i bl s) := by
  unfold sendPart
  split
  · exact h.modDn
  · exact h

protected theorem Keeps.gapSettle {a : Nat} {e : FlyEnt} (h : Keeps s₀ s) : Keeps s₀ (gapSettle a e s) := by
  unfold gapSettle
  split
  · exact .ite h.gapJoin h
  · exact h

protected theorem Keeps.execSectorSendStart {a : Act} {i : Slot} (h : Keeps s₀ s) : Answers s₀ (execSectorSendStart a i s) := by
  unfold execSectorSendStart
  extract_lets _ _
  refine .ok ?_
  split
  · exact h
  · split
    · exact .ite h h.modFly.sendPart
    · exact .ite h.writeLate h.gapSettle.modFly.sendPart

protected theorem Keeps.execServoGuardCut {a : Act} {i : Slot} (h : Keeps s₀ s) : Answers s₀ (execServoGuardCut a i s) := by
  unfold execServoGuardCut
  extract_lets _
  refine .ok ?_
  split
  · exact h
  · exact h.flag.modFly.emit

protected theorem Keeps.partialNote {a : Nat} {e : FlyEnt} (h : Keeps s₀ s) : Keeps s₀ (partialNote a e s) := by
  unfold partialNote
  exact h.wr.wr.wr.flag.emit

protected theorem Keeps.wchStat {a n : Nat} (h : Keeps s₀ s) : Keeps s₀ (wchStat a n s) := h.ctrSat

protected theorem Keeps.gateShow {a i : Nat} (h : Keeps s₀ s) : Keeps s₀ (gateShow a i s) := h.setf

protected theorem Keeps.writeEnd {a : Nat} {e : FlyEnt} (h : Keeps s₀ s) : Keeps s₀ (writeEnd a e s) := by
  unfold writeEnd
  exact h.wchStat.use fun h₁ => (Keeps.ite h₁ h₁.wchStat).use fun h₂ => (Keeps.ite h₂.partialNote h₂).use fun h => (Keeps.ite h.flag.wchStat.emit
      h).dn.settle.gateShow.wchShow

protected theorem Keeps.execWriteSectorOutcome {a : Act} {i : Slot} (h : Keeps s₀ s) : Answers s₀ (execWriteSectorOutcome a i s) := by
  unfold execWriteSectorOutcome
  extract_lets _
  refine .ok ?_
  split
  · exact h
  · exact .ite h.writeEnd h

protected theorem Keeps.sendBlock {a i hdr v : Nat} (h : Keeps s₀ s) : Keeps s₀ (sendBlock a i hdr v s) := h.modDn

protected theorem Keeps.setWe {a slot : Nat} {b : Bool} (h : Keeps s₀ s) : Keeps s₀ (setWe a slot b s) := h.setf

protected theorem Keeps.bufEcc {a id : Nat} (h : Keeps s₀ s) : Keeps s₀ (bufEcc a id s) := h.flag.modFly.emit

protected theorem Keeps.sendWrite {a i : Nat} {b : WBlk} {rest : List WBlk} {eccBad : Bool} (h : Keeps s₀ s) :
    Keeps s₀ (sendWrite a i b rest eccBad s) := by
  unfold sendWrite
  exact (Keeps.ite h.bufEcc h).modDn.modFly.setWe.sendBlock

protected theorem Keeps.gapSoon {a : Nat} {b : WBlk} (h : Keeps s₀ s) : Keeps s₀ (gapSoon a b s) := by
  unfold gapSoon
  split
  · exact .ite h.gapJoin h
  · exact h

protected theorem Keeps.blockSlot {a i : Nat} {eccBad : Bool} (h : Keeps s₀ s) : Keeps s₀ (blockSlot a i eccBad s) := by
  unfold blockSlot
  extract_lets s₂ _ _ _
  have h₃ : Keeps s₀ s₂ := h.modDn
  refine .ite ?_ ?_
  · exact .ite h₃.sendBlock.modDn h₃.sendBlock
  · refine .ite ?_ ?_
    · exact h₃.wOff.sendBlock
    · split
      · exact h₃.modDn.sendBlock
      · split
        · exact h₃.modDn.sendBlock
        · refine .ite ?_ ?_
          · exact h₃.sendBlock.modDn
          · split
            · extract_lets s₅
              have h₆ : Keeps s₀ s₅ := h₃.gapSoon
              split
              · exact h₆.sendWrite
              · exact h₆
            · split
              · exact h₃.modDn.sendBlock
              · exact h₃.sendBlock

protected theorem Keeps.execDownstreamBlockSlot {a : Act} {lane : Slot} {eccBad : Bool} (h : Keeps s₀ s) :
    Answers s₀ (execDownstreamBlockSlot a lane eccBad s) :=
  .ok (h.onlyIf fun _ h => h.blockSlot)

/-! ### Track sequencers -/

protected theorem Keeps.setSeqState {a n : Nat} (h : Keeps s₀ s) : Keeps s₀ (setSeqState a n s) := h.setf

protected theorem Keeps.gPut {a r : Nat} {v : W32} (h : Keeps s₀ s) : Keeps s₀ (gPut a r v s) := .ite h h.modSeq

protected theorem Keeps.goTo {a n : Nat} (h : Keeps s₀ s) : Keeps s₀ (goTo a n s) := h.modSeq

protected theorem Keeps.slotFree {a d : Nat} (h : Keeps s₀ s) : Keeps s₀ (slotFree a d s) := by
  unfold slotFree
  exact h.setf.use fun h => (Keeps.ite h.setf.setf h).modSeq

protected theorem Keeps.modOp {a d : Nat} {f : SeqOp → SeqOp} (h : Keeps s₀ s) : Keeps s₀ (modOp a d f s) := h.modSeq

protected theorem Keeps.recPosted {a typ : Nat} (h : Keeps s₀ s) : Keeps s₀ (recPosted a typ s) := by
  unfold recPosted
  split
  · exact .ite h.modOp h
  · exact h

protected theorem Keeps.resPost {a : Nat} {w0 w1 : W32} (h : Keeps s₀ s) : Keeps s₀ (resPost a w0 w1 s) := by
  unfold resPost
  exact (Keeps.ite h.flag h).modSeq.setf

protected theorem Keeps.opDone {a d status code : Nat} {trunc reset : Bool} {count : Nat} (h : Keeps s₀ s) :
    Keeps s₀ (opDone a d status code trunc reset count s) :=
  h.resPost.slotFree

protected theorem Keeps.seqStart {a : Nat} (h : Keeps s₀ s) : Keeps s₀ (seqStart a s) := by
  unfold seqStart
  exact h.modSeq.setf.setSeqState

protected theorem Keeps.seqStop {a : Nat} (h : Keeps s₀ s) : Keeps s₀ (seqStop a s) := h.notGated.modSeq.setSeqState

protected theorem Keeps.seqHalt {a : Nat} (h : Keeps s₀ s) : Keeps s₀ (seqHalt a s) := .ite h h.seqStop.flag.emit

protected theorem Keeps.seqFault {a : Nat} {cause : Fld} (h : Keeps s₀ s) : Keeps s₀ (seqFault a cause s) := by
  unfold seqFault
  extract_lets s₃ s₅ s₇
  have h₄ : Keeps s₀ s₃ := h.setf.flag
  have h₆ : Keeps s₀ s₅ := h₄.seqStop
  have h₈ : Keeps s₀ s₇ := by
    subst s₇
    split
    · exact h₆.modSeq.opDone
    · exact h₆
  exact h₈.flag.emit.lodge

protected theorem Keeps.uword {a : Nat} {f : State → State} (h : Keeps s₀ s) (hf : ∀ t, Keeps s₀ t → Keeps s₀ (f t)) : Keeps s₀ (uword a f s) :=
  .ite (hf _ h.incWrap.incWrap.setf.goTo) h

protected theorem Keeps.ualu {a : Act} {ra rb : BitVec 5} {f : W32 → W32 → W32} (h : Keeps s₀ s) : Keeps s₀ (ualu a ra rb f s) :=
  h.uword fun _ h => h.gPut

protected theorem Keeps.ctlWord {a : Nat} {imm : BitVec 16} {f : Nat → State → State} (h : Keeps s₀ s) (hf : ∀ x0 t, Keeps s₀ t → Keeps s₀ (f x0 t)) :
    Keeps s₀ (ctlWord a imm f s) :=
  h.uword fun _ h => .ite h.seqFault (.ite h.seqFault (hf _ _ h))

protected theorem Keeps.ubranch {a : Act} {ra rb : BitVec 5} {imm : BitVec 16} {c : W32 → W32 → Bool} (h : Keeps s₀ s) :
    Keeps s₀ (ubranch a ra rb imm c s) :=
  h.ctlWord fun _ _ h => .ite h.goTo h

protected theorem Keeps.execUwNop {a : Act} (h : Keeps s₀ s) : Answers s₀ (execUwNop a s) := .ok (h.uword fun _ h => h)

protected theorem Keeps.execUwLdi {a : Act} {ra : BitVec 5} {imm : BitVec 16} (h : Keeps s₀ s) : Answers s₀ (execUwLdi a ra imm s) := .ok h.ualu

protected theorem Keeps.execUwLui {a : Act} {ra : BitVec 5} {imm : BitVec 16} (h : Keeps s₀ s) : Answers s₀ (execUwLui a ra imm s) := .ok h.ualu

protected theorem Keeps.execUwMov {a : Act} {ra rb : BitVec 5} (h : Keeps s₀ s) : Answers s₀ (execUwMov a ra rb s) := .ok h.ualu

protected theorem Keeps.execUwAdd {a : Act} {ra rb : BitVec 5} (h : Keeps s₀ s) : Answers s₀ (execUwAdd a ra rb s) := .ok h.ualu

protected theorem Keeps.execUwAddi {a : Act} {ra : BitVec 5} {imm : BitVec 16} (h : Keeps s₀ s) : Answers s₀ (execUwAddi a ra imm s) := .ok h.ualu

protected theorem Keeps.execUwSub {a : Act} {ra rb : BitVec 5} (h : Keeps s₀ s) : Answers s₀ (execUwSub a ra rb s) := .ok h.ualu

protected theorem Keeps.execUwAnd {a : Act} {ra rb : BitVec 5} (h : Keeps s₀ s) : Answers s₀ (execUwAnd a ra rb s) := .ok h.ualu

protected theorem Keeps.execUwAndi {a : Act} {ra : BitVec 5} {imm : BitVec 16} (h : Keeps s₀ s) : Answers s₀ (execUwAndi a ra imm s) := .ok h.ualu

protected theorem Keeps.execUwOr {a : Act} {ra rb : BitVec 5} (h : Keeps s₀ s) : Answers s₀ (execUwOr a ra rb s) := .ok h.ualu

protected theorem Keeps.execUwOri {a : Act} {ra : BitVec 5} {imm : BitVec 16} (h : Keeps s₀ s) : Answers s₀ (execUwOri a ra imm s) := .ok h.ualu

protected theorem Keeps.execUwXor {a : Act} {ra rb : BitVec 5} (h : Keeps s₀ s) : Answers s₀ (execUwXor a ra rb s) := .ok h.ualu

protected theorem Keeps.execUwShli {a : Act} {ra : BitVec 5} {imm : BitVec 16} (h : Keeps s₀ s) : Answers s₀ (execUwShli a ra imm s) := .ok h.ualu

protected theorem Keeps.execUwShri {a : Act} {ra : BitVec 5} {imm : BitVec 16} (h : Keeps s₀ s) : Answers s₀ (execUwShri a ra imm s) := .ok h.ualu

protected theorem Keeps.execUwInsf {a : Act} {ra rb : BitVec 5} {imm : BitVec 16} (h : Keeps s₀ s) : Answers s₀ (execUwInsf a ra rb imm s) :=
  .ok h.ualu

protected theorem Keeps.execUwExtf {a : Act} {ra rb : BitVec 5} {imm : BitVec 16} (h : Keeps s₀ s) : Answers s₀ (execUwExtf a ra rb imm s) :=
  .ok h.ualu

protected theorem Keeps.execUwBeq {a : Act} {ra rb : BitVec 5} {imm : BitVec 16} (h : Keeps s₀ s) : Answers s₀ (execUwBeq a ra rb imm s) :=
  .ok h.ubranch

protected theorem Keeps.execUwBne {a : Act} {ra rb : BitVec 5} {imm : BitVec 16} (h : Keeps s₀ s) : Answers s₀ (execUwBne a ra rb imm s) :=
  .ok h.ubranch

protected theorem Keeps.execUwBltu {a : Act} {ra rb : BitVec 5} {imm : BitVec 16} (h : Keeps s₀ s) : Answers s₀ (execUwBltu a ra rb imm s) :=
  .ok h.ubranch

protected theorem Keeps.execUwBgeu {a : Act} {ra rb : BitVec 5} {imm : BitVec 16} (h : Keeps s₀ s) : Answers s₀ (execUwBgeu a ra rb imm s) :=
  .ok h.ubranch

protected theorem Keeps.execUwBbs {a : Act} {ra n : BitVec 5} {imm : BitVec 16} (h : Keeps s₀ s) : Answers s₀ (execUwBbs a ra n imm s) :=
  .ok h.ubranch

protected theorem Keeps.execUwBbc {a : Act} {ra n : BitVec 5} {imm : BitVec 16} (h : Keeps s₀ s) : Answers s₀ (execUwBbc a ra n imm s) :=
  .ok h.ubranch

protected theorem Keeps.execUwJmp {a : Act} {imm : BitVec 16} (h : Keeps s₀ s) : Answers s₀ (execUwJmp a imm s) := .ok (h.ctlWord fun _ _ h => h.goTo)

protected theorem Keeps.seqCall {a n : Nat} (h : Keeps s₀ s) : Keeps s₀ (seqCall a n s) := by
  unfold seqCall
  exact .ite h.seqFault (h.modSeq.use fun h => (Keeps.ite h.modSeq (.ite h.modSeq h)).goTo)

protected theorem Keeps.execUwCall {a : Act} {imm : BitVec 16} (h : Keeps s₀ s) : Answers s₀ (execUwCall a imm s) :=
  .ok (h.ctlWord fun _ _ h => h.seqCall)

protected theorem Keeps.seqRet {a : Nat} (h : Keeps s₀ s) : Keeps s₀ (seqRet a s) := by
  unfold seqRet
  extract_lets _
  split
  · exact h.seqFault
  · exact .ite h.seqFault ((Keeps.ite h.modSeq h).modSeq.goTo)

protected theorem Keeps.execUwRet {a : Act} {imm : BitVec 16} (h : Keeps s₀ s) : Answers s₀ (execUwRet a imm s) :=
  .ok (h.uword fun _ h => .ite h.seqFault h.seqRet)

protected theorem Keeps.execUwLd {a : Act} {ra rb : BitVec 5} {imm : BitVec 16} (h : Keeps s₀ s) : Answers s₀ (execUwLd a ra rb imm s) :=
  .ok (h.uword fun _ h => h.gPut)

protected theorem Keeps.execUwSt {a : Act} {ra rb : BitVec 5} {imm : BitVec 16} (h : Keeps s₀ s) : Answers s₀ (execUwSt a ra rb imm s) :=
  .ok (h.uword fun _ h => .ite h.seqFault h.wr)

protected theorem Keeps.gFree {a r : Nat} (h : Keeps s₀ s) : Keeps s₀ (gFree a r s) := h.fresh.gPut

protected theorem Keeps.execUwLdd {a : Act} {ra : BitVec 5} {imm : BitVec 16} (h : Keeps s₀ s) : Answers s₀ (execUwLdd a ra imm s) := by
  refine .ok (h.uword fun t h => ?_)
  split
  · exact h.gPut
  · exact h.gFree

protected theorem Keeps.execUwStd {a : Act} {ra : BitVec 5} {imm : BitVec 16} (h : Keeps s₀ s) : Answers s₀ (execUwStd a ra imm s) := by
  refine .ok (h.uword fun t h => .ite h.seqFault ?_)
  split
  · exact h.wr
  · exact h

protected theorem Keeps.execUwRdp {a : Act} {ra : BitVec 5} {imm : BitVec 16} (h : Keeps s₀ s) : Answers s₀ (execUwRdp a ra imm s) := by
  refine .ok (h.uword fun t h => ?_)
  split
  · exact h.gPut
  · exact h.gFree

protected theorem Keeps.portWrite {a p : Nat} {v : W32} (h : Keeps s₀ s) : Keeps s₀ (portWrite a p v s) := by
  unfold portWrite
  split
  · exact h.modSeq
  · exact h.modSeq
  · exact .ite h.modSeq h
  · exact h.wr.flag
  · exact h

protected theorem Keeps.execUwWrp {a : Act} {ra : BitVec 5} {imm : BitVec 16} (h : Keeps s₀ s) : Answers s₀ (execUwWrp a ra imm s) :=
  .ok (h.uword fun _ h => .ite h.seqFault h.portWrite)

protected theorem Keeps.seqResume {a dst : Nat} {v : W32} (h : Keeps s₀ s) : Keeps s₀ (seqResume a dst v s) := h.modSeq.setSeqState.gPut

protected theorem Keeps.execUwWait {a : Act} {ra rb : BitVec 5} {imm : BitVec 16} (h : Keeps s₀ s) : Answers s₀ (execUwWait a ra rb imm s) :=
  .ok (h.uword fun _ h => .ite h.seqFault h.modSeq.setSeqState)

protected theorem Keeps.outTake {a : Nat} (h : Keeps s₀ s) : Keeps s₀ (outTake a s).2 := by
  unfold outTake
  split
  · exact h
  · exact h.modSeq

protected theorem Keeps.execUwOutq {a : Act} {ra : BitVec 5} (h : Keeps s₀ s) : Answers s₀ (execUwOutq a ra s) :=
  .ok (h.uword fun _ h => h.outTake.gPut)

protected theorem Keeps.waitResult {a ev arg cyc wedge : Nat} {r : W32 × State} (h : Keeps s₀ s) (hr : waitResult a ev arg cyc wedge s = some r) :
    Keeps s₀ r.2 := by
  unfold waitResult at hr
  dsimp only at hr
  split at hr
  case h_3 =>
    split at hr
    · cases hr
    · cases hr
      exact h.outTake
  case h_7 => cases hr
  all_goals
    split at hr
    · cases hr
      exact h
    · cases hr

protected theorem Keeps.execWaitEnd {a : Act} (h : Keeps s₀ s) : Answers s₀ (execWaitEnd a s) := by
  unfold execWaitEnd
  refine .ok ?_
  split
  · split
    · next hr => exact (h.waitResult hr).seqResume
    · exact h
  · exact h

protected theorem Keeps.execWaitTimeout {a : Act} (h : Keeps s₀ s) : Answers s₀ (execWaitTimeout a s) := by
  unfold execWaitTimeout
  refine .ok ?_
  split
  · exact h.seqResume
  · exact h.seqFault
  · exact h.seqFault
  · exact h

protected theorem Keeps.gatePlace {a : Nat} {w : W32} {k : Nat} (h : Keeps s₀ s) : Keeps s₀ (gatePlace a w k s) := by
  unfold gatePlace
  exact h.modSeq

protected theorem Keeps.seqGate {a : Nat} {w : W32} {k : Nat} (h : Keeps s₀ s) : Keeps s₀ (seqGate a w k s) := by
  unfold seqGate
  split
  · exact h.seqFault
  · exact .ite h.gatePlace h.modSeq.setSeqState

protected theorem Keeps.execUwGate {a : Act} {ra rb : BitVec 5} (h : Keeps s₀ s) : Answers s₀ (execUwGate a ra rb s) :=
  .ok (h.uword fun _ h => h.seqGate)

protected theorem Keeps.execGateStallEnd {a : Act} (h : Keeps s₀ s) : Answers s₀ (execGateStallEnd a s) := by
  unfold execGateStallEnd
  extract_lets _
  refine .ok ?_
  split
  · exact .ite h.gatePlace.seqResume h
  · exact .ite h.resPost.recPosted.seqResume h
  · exact h

protected theorem Keeps.execGateEntryOpen {a : Act} {i : Slot} (h : Keeps s₀ s) : Answers s₀ (execGateEntryOpen a i s) := by
  unfold execGateEntryOpen
  extract_lets _
  refine .ok ?_
  split
  · exact h
  · exact .ite (h.modFly.use fun h => (Keeps.ite h h.modFly).gateShow) (.ite h.settle (.ite h.settle h.modFly))

protected theorem Keeps.seqSeek {a : Nat} {w0 w1 : W32} (h : Keeps s₀ s) : Keeps s₀ (seqSeek a w0 w1 s) := h.modSeq.seekRequest.modSeq

protected theorem Keeps.execUwSeek {a : Act} {ra rb : BitVec 5} (h : Keeps s₀ s) : Answers s₀ (execUwSeek a ra rb s) :=
  .ok (h.uword fun _ h => h.seqSeek)

protected theorem Keeps.zoneEnd {a dst z : Nat} {err : Bool} (h : Keeps s₀ s) : Keeps s₀ (zoneEnd a dst z err s) := h.seqResume

protected theorem Keeps.zoneRun {a dst cyl : Nat} {sent : Bool} (h : Keeps s₀ s) : Keeps s₀ (zoneRun a dst cyl sent s) := by
  unfold zoneRun
  extract_lets _
  refine .ite ?_ ?_
  · split
    · exact .ite h h.zoneEnd
    · exact h.zoneEnd
  · exact .ite h (h.modSeq.use fun h => .ite h.zoneEnd (.ite h h.modSeq.modLnk.feSend))

protected theorem Keeps.execUwZone {a : Act} {ra rb : BitVec 5} (h : Keeps s₀ s) : Answers s₀ (execUwZone a ra rb s) :=
  .ok (h.uword fun _ h => h.modSeq.setSeqState.zoneRun)

protected theorem Keeps.execZoneComplete {a : Act} (h : Keeps s₀ s) : Answers s₀ (execZoneComplete a s) := by
  unfold execZoneComplete
  refine .ok ?_
  split
  · exact h.zoneRun
  · exact h

protected theorem Keeps.seqPostRec {a typ : Nat} {w1 : W32} {field : Nat} (h : Keeps s₀ s) : Keeps s₀ (seqPostRec a typ w1 field s) := by
  unfold seqPostRec
  refine .ite ?_ ?_
  · exact h.modSeq.setSeqState.emit
  · split
    · exact h.resPost.recPosted
    · exact h.fresh.resPost

protected theorem Keeps.execUwPost {a : Act} {ra rb : BitVec 5} {imm : BitVec 16} (h : Keeps s₀ s) : Answers s₀ (execUwPost a ra rb imm s) :=
  .ok (h.uword fun _ h => .ite h.seqFault h.seqPostRec)

protected theorem Keeps.seqNext {a r : Nat} (h : Keeps s₀ s) : Keeps s₀ (seqNext a r s) := by
  unfold seqNext
  split
  · exact h.gPut
  · exact h.setf.setf.modSeq.gPut

protected theorem Keeps.execUwNext {a : Act} {ra : BitVec 5} (h : Keeps s₀ s) : Answers s₀ (execUwNext a ra s) :=
  .ok (h.uword fun _ h => .ite h.seqFault h.seqNext)

protected theorem Keeps.seqDone {a status count : Nat} (h : Keeps s₀ s) : Keeps s₀ (seqDone a status count s) := by
  unfold seqDone
  split
  · exact h
  · exact h.opDone.use fun h => .ite h.emit h

protected theorem Keeps.execUwDone {a : Act} {ra rb : BitVec 5} (h : Keeps s₀ s) : Answers s₀ (execUwDone a ra rb s) :=
  .ok (h.uword fun _ h => .ite h.seqFault h.seqDone)

protected theorem Keeps.execUwTrap {a : Act} {imm : BitVec 16} (h : Keeps s₀ s) : Answers s₀ (execUwTrap a imm s) :=
  .ok (h.uword fun _ h => h.setf.seqFault)

protected theorem Keeps.execUwIllegal {a : Act} {w : W32} (h : Keeps s₀ s) : Answers s₀ (execUwIllegal a w s) :=
  .ok (.ite (h.uword fun _ h => h.seqFault) h)

protected theorem Keeps.execAllotWatchdog {a : Act} (h : Keeps s₀ s) : Answers s₀ (execAllotWatchdog a s) := by
  unfold execAllotWatchdog
  exact .ok (.ite h.seqFault.emit h)

protected theorem Keeps.execStoreEccError {a : Act} {corrected : Bool} (h : Keeps s₀ s) : Answers s₀ (execStoreEccError a corrected s) := by
  unfold execStoreEccError
  exact .ok (.ite h h.seqFault)

protected theorem Keeps.postSlot {a d : Nat} (h : Keeps s₀ s) : Keeps s₀ (postSlot a d s) := .ite h.setf.modSeq h.flag.deny.emit

protected theorem Keeps.seqPostWrite {a : Nat} {v : W32} (h : Keeps s₀ s) : Keeps s₀ (seqPostWrite a v s) := by
  unfold seqPostWrite
  exact h.setf.use fun h => .ite h.postSlot h

protected theorem Keeps.cancelSlot {a d : Nat} (h : Keeps s₀ s) : Keeps s₀ (cancelSlot a d s) := by
  unfold cancelSlot
  split
  · exact h
  · exact .ite h.modSeq h.opDone.emit

protected theorem Keeps.seqCancelWrite {a : Nat} {v : W32} (h : Keeps s₀ s) : Keeps s₀ (seqCancelWrite a v s) := by
  unfold seqCancelWrite
  exact h.setf.use fun h => .ite h.cancelSlot h

protected theorem Keeps.descWrite {a d w : Nat} {v : W32} (h : Keeps s₀ s) : Keeps s₀ (descWrite a d w v s) := .ite h.flag.deny h.wr

protected theorem Keeps.seqCtl {a : Nat} {v : W32} (h : Keeps s₀ s) : Keeps s₀ (seqCtl a v s) := by
  unfold seqCtl
  exact (Keeps.ite h.seqHalt h).use fun h => .ite (.ite h.setSeqState h.deny) (.ite h.seqStart h)

protected theorem Keeps.actWrite {m : Master} {a : Nat} {f : State → State} (h : Keeps s₀ s) (hf : ∀ t, Keeps s₀ t → Keeps s₀ (f t)) :
    Keeps s₀ (actWrite m a f s) :=
  .ite h.deny (.ite (hf _ h) h.badAccess)

protected theorem Keeps.execSeqPost {m : Master} {a : Act} {v : W32} (h : Keeps s₀ s) : Answers s₀ (execSeqPost m a v s) :=
  .ok (h.actWrite fun _ h => h.seqPostWrite)

protected theorem Keeps.execSeqCancel {m : Master} {a : Act} {v : W32} (h : Keeps s₀ s) : Answers s₀ (execSeqCancel m a v s) :=
  .ok (h.actWrite fun _ h => h.seqCancelWrite)

protected theorem Keeps.execSeqRun {m : Master} {a : Act} (h : Keeps s₀ s) : Answers s₀ (execSeqRun m a s) := .ok (h.actWrite fun _ h => h.seqCtl)

protected theorem Keeps.execSeqHalt {m : Master} {a : Act} (h : Keeps s₀ s) : Answers s₀ (execSeqHalt m a s) := .ok (h.actWrite fun _ h => h.seqCtl)

protected theorem Keeps.execSeqReload {m : Master} {a : Act} (h : Keeps s₀ s) : Answers s₀ (execSeqReload m a s) :=
  .ok (h.actWrite fun _ h => h.seqCtl)

protected theorem Keeps.resRead {a : Nat} (h : Keeps s₀ s) : Keeps s₀ (resRead a s) := by
  unfold resRead
  split
  · exact h.wr.rdata
  · exact h.wr.modSeq.setf.rdata

protected theorem Keeps.execResultRecordRead {m : Master} {a : Act} (h : Keeps s₀ s) : Answers s₀ (execResultRecordRead m a s) :=
  .ok (.ite h.rdata (.ite h.resRead h.badAccess.rdata))

protected theorem Keeps.fmtWrite {a z : Nat} {hi : Bool} {v : W32} (h : Keeps s₀ s) : Keeps s₀ (fmtWrite a z hi v s) := by
  unfold fmtWrite
  exact .ite h.deny ((Keeps.ite h.deny h).use fun h₁ => .ite h₁.setf (h₁.setf.use fun h => .ite h h.setf))

protected theorem Keeps.execSeqFmtWrite {m : Master} {a : Act} {z : BitVec 5} {hi : Bool} {v : W32} (h : Keeps s₀ s) :
    Answers s₀ (execSeqFmtWrite m a z hi v s) :=
  .ok (h.actWrite fun _ h => h.fmtWrite)

/-! ### Direct commands, records, slots and commits of the NV store -/

protected theorem Keeps.nvEnd {r : Nat} (h : Keeps s₀ s) : Keeps s₀ (nvEnd r s) := h.flag.setf.nvBusyShow

protected theorem Keeps.nvProtected (h : Keeps s₀ s) : Keeps s₀ (nvProtected s) := h.flag.nvEnd.deny

protected theorem Keeps.nvProgram {m : Master} {off : Nat} (h : Keeps s₀ s) : Keeps s₀ (nvProgram m off s) := by
  unfold nvProgram
  exact .ite h.nvProtected (.ite h.nvEnd (.ite h.indetProg.nvEnd (.ite h.flag.nvEnd.emit h.modNvs.nvBusyShow)))

protected theorem Keeps.nvEraseCmd {m : Master} {off : Nat} (h : Keeps s₀ s) : Keeps s₀ (nvEraseCmd m off s) := by
  unfold nvEraseCmd
  exact .ite h.nvProtected (.ite h.nvEnd h.eraseStart)

protected theorem Keeps.nvSuspend (h : Keeps s₀ s) : Keeps s₀ (nvSuspend s) := by
  unfold nvSuspend
  split
  · exact (h.setErase fun hb => hb.bankOf_sector_map (f := fun e => { e with susp := true }) fun _ => rfl).nvEnd
  · exact h.nvEnd

protected theorem Keeps.nvResume (h : Keeps s₀ s) : Keeps s₀ (nvResume s) := by
  unfold nvResume
  split
  · exact (h.setErase fun hb => hb.bankOf_sector_map (f := fun e => { e with susp := false }) fun _ => rfl).nvEnd
  · exact h.nvEnd

protected theorem Keeps.nvBlankCheck {m : Master} {off : Nat} (h : Keeps s₀ s) : Keeps s₀ (nvBlankCheck m off s) := by
  unfold nvBlankCheck
  exact .ite h.nvProtected h.wr.nvEnd

protected theorem Keeps.nvCmd {m : Master} {v : W32} (h : Keeps s₀ s) : Keeps s₀ (nvCmd m v s) := by
  unfold nvCmd
  refine .ite h.deny (.ite h.setf.deny (.ite h.wr ?_))
  dsimp only
  split
  · exact h.wr.setf.nvProgram
  · exact h.wr.setf.nvEraseCmd
  · exact h.wr.setf.nvSuspend
  · exact h.wr.setf.nvResume
  · exact h.wr.setf.nvBlankCheck

protected theorem Keeps.nvWrite {m : Master} {f : State → State} (h : Keeps s₀ s) (hf : ∀ t, Keeps s₀ t → Keeps s₀ (f t)) :
    Keeps s₀ (nvWrite m f s) :=
  .ite h.deny (.ite (hf _ h) h.badAccess)

protected theorem Keeps.nvOp {m : Master} {op : Nat} {v : W32} (h : Keeps s₀ s) : Keeps s₀ (nvOp m op v s) := h.nvWrite fun _ h => h.nvCmd

protected theorem Keeps.execNvProgram {m : Master} {v : W32} (h : Keeps s₀ s) : Answers s₀ (execNvProgram m v s) := .ok h.nvOp

protected theorem Keeps.execNvErase {m : Master} {v : W32} (h : Keeps s₀ s) : Answers s₀ (execNvErase m v s) := .ok h.nvOp

protected theorem Keeps.execNvSuspend {m : Master} {v : W32} (h : Keeps s₀ s) : Answers s₀ (execNvSuspend m v s) := .ok h.nvOp

protected theorem Keeps.execNvResume {m : Master} {v : W32} (h : Keeps s₀ s) : Answers s₀ (execNvResume m v s) := .ok h.nvOp

protected theorem Keeps.execNvBlankCheck {m : Master} {v : W32} (h : Keeps s₀ s) : Answers s₀ (execNvBlankCheck m v s) := .ok h.nvOp

protected theorem Keeps.nvProgDone (h : Keeps s₀ s) : Keeps s₀ (nvProgDone s) := by
  unfold nvProgDone
  split
  · exact h
  · exact h.nvUnit.modNvs.nvEnd

protected theorem Keeps.execNvProgramEnd (h : Keeps s₀ s) : Answers s₀ (execNvProgramEnd s) := .ok h.nvProgDone

protected theorem Keeps.iceEraseStart (h : Keeps s₀ s) : Keeps s₀ (iceEraseStart s) := by
  unfold iceEraseStart
  split
  · exact h.engineErase
  · exact h

protected theorem Keeps.iceEraseNext {sec : Nat} (h : Keeps s₀ s) : Keeps s₀ (iceEraseNext sec s) := by
  unfold iceEraseNext
  extract_lets _
  split
  · exact .ite h.nvBusyShow (.ite h.ice h.setf.setf.setf.ice.ice.nvBusyShow)
  · exact h.ice.nvBusyShow

protected theorem Keeps.parShow (h : Keeps s₀ s) : Keeps s₀ (parShow s) := by
  unfold parShow
  exact h.wr.wr

protected theorem Keeps.parScan (h : Keeps s₀ s) : Keeps s₀ (parScan s) := by
  unfold parScan
  exact h.modNvs.parShow

protected theorem Keeps.recEnd {r : Nat} (h : Keeps s₀ s) : Keeps s₀ (recEnd r s) := by
  unfold recEnd
  exact h.setf.flag.setf.nvBusyShow

protected theorem Keeps.recRead {id : Nat} (h : Keeps s₀ s) : Keeps s₀ (recRead id s) := by
  unfold recRead
  split
  · exact .ite h.recEnd ((h.each fun _ _ h => h.wr).setf.recEnd)
  · exact h.recEnd

protected theorem Keeps.parAdvance (h : Keeps s₀ s) : Keeps s₀ (parAdvance s) := by
  unfold parAdvance
  exact h.modNvs.engineErase

protected theorem Keeps.recAccept {id : Nat} {p : List Byte} (h : Keeps s₀ s) : Keeps s₀ (recAccept id p s) :=
  .ite h.modNvs.flag.nvBusyShow h.recEnd.parShow.emit

protected theorem Keeps.recWait {id : Nat} {p : List Byte} {own : Bool} (h : Keeps s₀ s) : Keeps s₀ (recWait id p own s) := h.modNvs.flag.nvBusyShow

protected theorem Keeps.recEnter {id : Nat} {p : List Byte} (h : Keeps s₀ s) : Keeps s₀ (recEnter id p s) := by
  unfold recEnter
  exact .ite h.recAccept (.ite h.recWait (.ite h.engineErase.recWait h.parAdvance.recAccept))

protected theorem Keeps.recWrite {id len : Nat} (h : Keeps s₀ s) : Keeps s₀ (recWrite id len s) := h.recEnter

protected theorem Keeps.recResume {fail : Bool} (h : Keeps s₀ s) : Keeps s₀ (recResume fail s) := by
  unfold recResume
  split
  · exact h.modNvs.use fun h => .ite h.recEnd h.recEnter
  · exact h.nvBusyShow

protected theorem Keeps.recCtl {v : W32} (h : Keeps s₀ s) : Keeps s₀ (recCtl v s) :=
  .ite h.deny (h.setf.use fun h₁ => (Keeps.ite h₁.setf h₁).use fun h₂ => (Keeps.ite h₂.setf h₂).use fun h₃ => (Keeps.ite h₃ h₃.deny).use fun h₄ =>
      .ite h₄ (h₄.setf.use fun h => .ite h.recRead (.ite h.recWrite h.recEnd)))

protected theorem Keeps.execRecordRead {m : Master} {v : W32} (h : Keeps s₀ s) : Answers s₀ (execRecordRead m v s) :=
  .ok (h.nvWrite fun _ h => h.recCtl)

protected theorem Keeps.execRecordWrite {m : Master} {v : W32} (h : Keeps s₀ s) : Answers s₀ (execRecordWrite m v s) :=
  .ok (h.nvWrite fun _ h => h.recCtl)

protected theorem Keeps.recStore {id : Nat} {p : List Byte} (h : Keeps s₀ s) : Keeps s₀ (recStore id p s) := by
  unfold recStore
  exact h.nvUnits.nvUnit.modNvs.parShow

protected theorem Keeps.recStep {n : Nat} (h : Keeps s₀ s) : Keeps s₀ (recStep n s) := by
  unfold recStep
  split
  · exact h
  · exact h.nvUnits.modNvs

protected theorem Keeps.recDone (h : Keeps s₀ s) : Keeps s₀ (recDone s) := by
  unfold recDone
  split
  · exact h
  · exact h.modNvs.use fun h => .ite h.indetProg.recEnd h.recStore.recEnd

protected theorem Keeps.recFails (h : Keeps s₀ s) : Keeps s₀ (recFails s) := by
  unfold recFails
  exact h.fresh.recStep.use fun h => (Keeps.ite h h.modNvs).modNvs.parShow.recEnd

protected theorem Keeps.execRecordWriteEnd {fail : Bool} (h : Keeps s₀ s) : Answers s₀ (execRecordWriteEnd fail s) :=
  .ok (.ite h (.ite h.recFails h.recDone))

protected theorem Keeps.bootShow (h : Keeps s₀ s) : Keeps s₀ (bootShow s) := by
  unfold bootShow
  exact h.setf.setf.setf.setf.wr.wr

protected theorem Keeps.slotRevoke {k : Nat} (h : Keeps s₀ s) : Keeps s₀ (slotRevoke k s) := (Keeps.ite h h.engineUnit).bootShow

protected theorem Keeps.actProgram {k i : Nat} (h : Keeps s₀ s) : Keeps s₀ (actProgram k i s) := by
  unfold actProgram
  exact h.engineUnit

protected theorem Keeps.commitDone {r : Nat} (h : Keeps s₀ s) : Keeps s₀ (commitDone r s) := by
  unfold commitDone
  refine Keeps.nvBusyShow (Keeps.bootShow (Keeps.setf (h.setf.flag.modNvsBanks fun hb => hb.setCommit rfl ?_)))
  exact fun _ hc => nomatch hc

protected theorem Keeps.commitShow (h : Keeps s₀ s) : Keeps s₀ (commitShow s) := by
  unfold commitShow
  split
  · exact h
  · exact h.setf.setf.setf

protected theorem Keeps.commitErase (h : Keeps s₀ s) : Keeps s₀ (commitErase s) := by
  unfold commitErase
  split
  · exact h.commitShow.engineErase
  · exact h.commitShow

/-- The commit engine starts on one of the two slots. -/
protected theorem Keeps.commitStart {k act : Nat} (h : Keeps s₀ s) (hk : k < 2) : Keeps s₀ (commitStart k act s) := by
  unfold commitStart
  extract_lets a n s₁ run
  have h₁ : Keeps s₀ s₁ := h.wr
  have hrun : ∀ m t, Keeps s₀ t → Keeps s₀ (run m t) := by
    refine fun m t h => Keeps.commitShow (Keeps.flag (Keeps.nvBusyShow (h.modNvsBanks fun hb => hb.setCommit rfl ?_)))
    rintro c ⟨⟩
    exact hk
  exact .ite (.ite h₁.commitDone (.ite h₁.commitDone (hrun _ _ h₁))) (.ite h₁.commitDone (hrun _ _ h₁.slotRevoke))

protected theorem Keeps.commitCtl {v : W32} (h : Keeps s₀ s) : Keeps s₀ (commitCtl v s) := by
  unfold commitCtl
  exact .ite h.deny (.ite h.setf.deny (h.wr.use fun h => .ite (h.commitStart (fget_lt _ F_NVS_COMMIT_CTL_SLOT)) h))

protected theorem Keeps.commitCmd {m : Master} {act : Nat} {slot : Bool} (h : Keeps s₀ s) : Keeps s₀ (commitCmd m act slot s) :=
  h.nvWrite fun _ h => h.commitCtl

protected theorem Keeps.execSlotCommit {m : Master} {slot : Bool} (h : Keeps s₀ s) : Answers s₀ (execSlotCommit m slot s) := .ok h.commitCmd

protected theorem Keeps.execSlotCommitActivate {m : Master} {slot : Bool} (h : Keeps s₀ s) : Answers s₀ (execSlotCommitActivate m slot s) :=
  .ok h.commitCmd

protected theorem Keeps.execSlotActivate {m : Master} {slot : Bool} (h : Keeps s₀ s) : Answers s₀ (execSlotActivate m slot s) := .ok h.commitCmd

protected theorem Keeps.slotFill {k i u n : Nat} {img : List Byte} (h : Keeps s₀ s) : Keeps s₀ (slotFill k i u n img s) := h.nvUnits

protected theorem Keeps.slotErase {k p : Nat} (h : Keeps s₀ s) : Keeps s₀ (slotErase k p s) := by
  refine h.each fun q t h => ?_
  dsimp only
  split
  · exact .ite (.iteFun h.setErase.eraseDone h.setErase.eraseSector) h.eraseSector
  · exact h.eraseSector

protected theorem Keeps.commitWrite {k act p : Nat} {img : List Byte} (h : Keeps s₀ s) : Keeps s₀ (commitWrite k act p img s) := by
  unfold commitWrite
  exact (h.slotErase.each fun _ _ h => h.slotFill).nvUnit.use fun h => .ite h.actProgram h

protected theorem Keeps.fillStep {n : Nat} (h : Keeps s₀ s) : Keeps s₀ (fillStep n s) := by
  unfold fillStep
  split
  · exact h.slotFill.modNvs
  · exact h

protected theorem Keeps.fillDone (h : Keeps s₀ s) : Keeps s₀ (fillDone s) := h.fillStep.modNvs

protected theorem Keeps.commitMove (h : Keeps s₀ s) : Keeps s₀ (commitMove s) := h.modNvs

protected theorem Keeps.commitAct {k act : Nat} (h : Keeps s₀ s) : Keeps s₀ (commitAct k act s) := by
  unfold commitAct
  split
  · exact h.actProgram
  · exact h

protected theorem Keeps.commitTick (h : Keeps s₀ s) : Keeps s₀ (commitTick s) := by
  unfold commitTick
  extract_lets _ _
  split
  · exact h
  · exact .ite h.modNvs.commitShow.commitErase (.ite h.fillDone.modNvs.commitShow (.ite h.engineUnit.bootShow.modNvs.commitShow (.ite
      h.commitAct.bootShow.modNvs.commitShow (.ite h.fillDone.commitMove.commitErase h))))

protected theorem Keeps.commitBad {res k i : Nat} {img : List Byte} (h : Keeps s₀ s) : Keeps s₀ (commitBad res k i img s) := by
  unfold commitBad
  exact h.setf.use fun h => .ite ((Keeps.ite h h.jClear.eraseBegin).flag) ((Keeps.ite h.eraseDone h).fresh.slotFill.wrNv)

protected theorem Keeps.commitFail {res : Nat} (h : Keeps s₀ s) : Keeps s₀ (commitFail res s) := by
  unfold commitFail
  split
  · exact h
  · extract_lets _ s₁
    have h₂ : Keeps s₀ s₁ := by
      subst s₁
      split
      · exact .ite h.setErase h
      · exact h
    exact h₂.commitBad.commitDone.emit

protected theorem Keeps.commitNext {fail : Bool} (h : Keeps s₀ s) : Keeps s₀ (commitNext fail s) :=
  .ite h.nvBusyShow (h.fillDone.use fun h₁ => .ite (h₁.modNvs.use fun h => .ite h h.commitMove) (.ite h₁.commitFail h₁.modNvs))

protected theorem Keeps.nvEraseEnd {par fail : Bool} (h : Keeps s₀ s) : Keeps s₀ (nvEraseEnd par fail s) := by
  unfold nvEraseEnd
  extract_lets _
  split
  · exact h
  · exact .ite h (h.setErase.use fun h₁ => (Keeps.ite h₁.flag.emit h₁.eraseDone).use fun h => .ite h.nvEnd.iceEraseStart.commitErase (.ite
      h.recResume (.ite h.commitNext.nvBusyShow.iceEraseStart.commitErase h.iceEraseNext.nvBusyShow.commitErase.iceEraseStart)))

protected theorem Keeps.repeatPlaces {n : Nat} {l : List Nat} (h : Keeps s₀ s) : Keeps s₀ (repeatPlaces n l s).2 := by
  induction n generalizing l s with
  | zero => exact h
  | succ n ih => exact ih h.fresh

protected theorem Keeps.commitRepeats {k n : Nat} (h : Keeps s₀ s) : Keeps s₀ (commitRepeats k n s) := by
  unfold commitRepeats
  exact h.repeatPlaces.modNvs.commitShow.each fun _ _ h => h.eraseSector

protected theorem Keeps.commitEnd {res repeats : Nat} (h : Keeps s₀ s) : Keeps s₀ (commitEnd res repeats s) := by
  unfold commitEnd
  split
  · exact h
  · exact .ite ((Keeps.ite h h.commitAct.commitShow).commitDone) (.ite h.commitTick.commitTick.commitDone.emit (.ite h (h.commitRepeats.use fun h =>
      .ite h.commitWrite.setf.commitDone.emit ((Keeps.ite h.emit h).commitFail))))

protected theorem Keeps.commitFailAt {res k : Nat} {img : List Byte} (h : Keeps s₀ s) : Keeps s₀ (commitFailAt res k img s) := by
  unfold commitFailAt
  exact (h.fresh.each fun _ _ h => h.eraseSector.slotFill).use fun h => (Keeps.ite h.emit h).commitBad

protected theorem Keeps.nvReadWait {off : Nat} (h : Keeps s₀ s) : Keeps s₀ (nvReadWait off s) := by
  unfold nvReadWait
  extract_lets _ s₁ s₃ s₅
  have h₂ : Keeps s₀ s₁ := by
    subst s₁
    split
    · exact .ite h.nvProgDone h
    · exact h
  have h₄ : Keeps s₀ s₃.2 := h₂.fresh
  have h₆ : Keeps s₀ s₅ := .ite h₄.recStep h₂
  split
  · exact .ite h₆.fresh.fillStep h₆
  · exact .ite h₆.commitTick h₆
  · exact h₆

protected theorem Keeps.nvPoisoned {m : Master} (h : Keeps s₀ s) : Keeps s₀ (nvPoisoned m s) := by
  unfold nvPoisoned
  exact (h.fresh : Keeps s₀ (s.fresh.2)).same

protected theorem Keeps.nvIndetRead {m : Master} {off : Nat} (h : Keeps s₀ s) : Keeps s₀ (nvIndetRead m off s) := .ite h.wr.flag.emit h

protected theorem Keeps.nvRead {m : Master} {off ecc : Nat} (h : Keeps s₀ s) : Keeps s₀ (nvRead m off ecc s) :=
  .ite ((h.badAccess : Keeps s₀ (badAccess s)).same) (h.nvReadWait.dataExc.use fun h₃ => (Keeps.ite h₃.incSat h₃).use fun h => .ite
      h.nvPoisoned.nvUncorr.nvIndetRead (.ite h.fresh.rdata.nvIndetRead h.rdata))

protected theorem Keeps.execNvsWindowRead {m : Master} {off : BitVec 25} {ecc : BitVec 2} (h : Keeps s₀ s) :
    Answers s₀ (execNvsWindowRead m off ecc s) :=
  .ok (.ite h.nvRead ((h.badAccess : Keeps s₀ (badAccess s)).same))

protected theorem Keeps.commitCut (h : Keeps s₀ s) : Keeps s₀ (commitCut s) := by
  unfold commitCut
  split
  · exact h
  · extract_lets _
    split
    · exact h.fresh.fillStep.use fun h => .ite h.unitCut h
    · refine .ite ?_ ?_
      · exact h.unitCut
      · refine .ite ?_ ?_
        · split
          · exact h.unitCut
          · exact h
        · exact h

protected theorem Keeps.recCut (h : Keeps s₀ s) : Keeps s₀ (recCut s) := by
  unfold recCut
  refine .ite ?_ ?_
  · exact h
  · extract_lets s₅ s₇
    have h₆ : Keeps s₀ s₅.2 := h.fresh
    have h₈ : Keeps s₀ s₇ := h₆.recStep
    split
    · exact h₈.unitCut
    · exact h₈

protected theorem Keeps.eraseCut {b : Nat} (h : Keeps s₀ s) : Keeps s₀ (eraseCut b s) := by
  unfold eraseCut
  split
  · refine .ite h (.ite h.fresh.modNvs (.ite h.fresh.modNvs (.ite ?_ h.fresh)))
    dsimp only
    split
    · exact h.fresh.nvClear.jAppend.modNvs
    · exact h.fresh.nvClear.jAppend
  · exact h

protected theorem Keeps.nvCut (h : Keeps s₀ s) : Keeps s₀ (nvCut s) := by
  have h₁ : Keeps s₀ (match s.nvs.prog with
      | some p => unitCut p.1 p.2 s
      | none => s) := by
    split
    · exact h.unitCut
    · exact h
  unfold nvCut
  refine Keeps.modNvsBanks (Keeps.ice ?_) ?_
  · split
    · exact h₁.recCut.commitCut.eraseCut.eraseCut.setf.ice
    · exact h₁.recCut.commitCut.eraseCut.eraseCut
  · exact fun _ => ⟨fun _ he => (nomatch he), fun _ hc => (nomatch hc)⟩

protected theorem Keeps.nvReplay (h : Keeps s₀ s) : Keeps s₀ (nvReplay s) := by
  unfold nvReplay
  exact (h.jReplay.each fun _ _ h => h.emit).nvShow.parScan.bootShow

/-! ### The security engine -/

protected theorem Keeps.modSec {f : SecSt → SecSt} (h : Keeps s₀ s) : Keeps s₀ (modSec f s) := h.sec

protected theorem Keeps.putWords {r : Nat → Reg} {n : Nat} {b : List Byte} (h : Keeps s₀ s) : Keeps s₀ (putWords r n b s) := h.each fun _ _ h => h.wr

protected theorem Keeps.mlog {i src master : Nat} {d : List Byte} (h : Keeps s₀ s) : Keeps s₀ (mlog i src master d s) := by
  unfold mlog
  exact .ite h.wr.wr.wr.putWords.setf (.ite h h.flag.emit)

protected theorem Keeps.extend {i src master : Nat} {d : List Byte} (h : Keeps s₀ s) : Keeps s₀ (extend i src master d s) := h.putWords.mlog

protected theorem Keeps.romExtends (h : Keeps s₀ s) : Keeps s₀ (romExtends s) := by
  unfold romExtends
  exact h.extend.extend

protected theorem Keeps.shedExtends (h : Keeps s₀ s) : Keeps s₀ (shedExtends s) := h.each fun _ _ h => h.extend

protected theorem Keeps.secWrite {m : Master} {f : State → State} (h : Keeps s₀ s) (hf : ∀ t, Keeps s₀ t → Keeps s₀ (f t)) :
    Keeps s₀ (secWrite m f s) :=
  .ite h.deny (.ite (hf _ h) h.badAccess)

protected theorem Keeps.secExtend {m : Nat} {v : W32} (h : Keeps s₀ s) : Keeps s₀ (secExtend m v s) := by
  unfold secExtend
  exact .ite h.deny h.setf.extend

protected theorem Keeps.secExtendCtl {m : Nat} {v : W32} (h : Keeps s₀ s) : Keeps s₀ (secExtendCtl m v s) := .ite h.secExtend (.ite h.deny h.setf)

protected theorem Keeps.execMeasurementExtend {m : Master} {v : W32} (h : Keeps s₀ s) : Answers s₀ (execMeasurementExtend m v s) :=
  .ok (h.secWrite fun _ h => h.secExtend)

protected theorem Keeps.secVerify (h : Keeps s₀ s) : Keeps s₀ (secVerify s) := .ite h.deny h.modSec.flag.setf

protected theorem Keeps.execImageVerify {m : Master} (h : Keeps s₀ s) : Answers s₀ (execImageVerify m s) := .ok (h.secWrite fun _ h => h.secVerify)

protected theorem Keeps.verifyDone {a : Nat} (h : Keeps s₀ s) : Keeps s₀ (verifyDone a s) := by
  unfold verifyDone
  exact h.modSec.setf.use fun h => .ite h.setf.wr h.setf.emit

protected theorem Keeps.enrollEnd {r : Nat} (h : Keeps s₀ s) : Keeps s₀ (enrollEnd r s) := h.setf

protected theorem Keeps.secEnroll (h : Keeps s₀ s) : Keeps s₀ (secEnroll s) := by
  unfold secEnroll
  exact .ite h.deny (.ite h.enrollEnd (.ite h.modSec.flag.enrollEnd.emit h.enrollEnd))

protected theorem Keeps.execKeyEnroll {m : Master} (h : Keeps s₀ s) : Answers s₀ (execKeyEnroll m s) := .ok (h.secWrite fun _ h => h.secEnroll)

protected theorem Keeps.shedCloseAll (h : Keeps s₀ s) : Keeps s₀ (shedCloseAll s) := h.modSec.setf.emit

protected theorem Keeps.execShedClose {m : Master} (h : Keeps s₀ s) : Answers s₀ (execShedClose m s) := .ok (h.secWrite fun _ h => h.shedCloseAll)

protected theorem Keeps.nonceDrop (h : Keeps s₀ s) : Keeps s₀ (nonceDrop s) := h.modSec.setf

protected theorem Keeps.execNonceExpired (h : Keeps s₀ s) : Answers s₀ (execNonceExpired s) := .ok h.nonceDrop

protected theorem Keeps.drawBytes {n : Nat} (h : Keeps s₀ s) : Keeps s₀ (drawBytes n s).2 := by
  induction n generalizing s with
  | zero => exact h
  | succ n ih => exact ih h.fresh

protected theorem Keeps.shedChallenge {ch q : Nat} {p : List W32} (h : Keeps s₀ s) : Keeps s₀ (shedChallenge ch q p s) := by
  unfold shedChallenge
  split
  · exact .ite h.hostReply (.ite h.hostReply h.drawBytes.modSec.flag.hostReply)
  · exact h.hostReply

protected theorem Keeps.shedResponse {ch q : Nat} {p : List W32} (h : Keeps s₀ s) : Keeps s₀ (shedResponse ch q p s) := by
  unfold shedResponse
  refine .ite ?_ ?_
  · exact h.hostReply
  · split
    · exact h.nonceDrop.setf.setf.modSec.extend.emit.hostReply
    · exact h.nonceDrop.setf.emit.hostReply

protected theorem Keeps.iceClear {ch q : Nat} {p : List W32} (h : Keeps s₀ s) : Keeps s₀ (iceClear ch q p s) :=
  .ite h.hostReply (.ite h.hostReply (.ite h.hostReply (.ite h.ice h.emit.hostReply)))

protected theorem Keeps.secServe {ch q op : Nat} {p : List W32} (h : Keeps s₀ s) : Keeps s₀ (secServe ch q op p s) :=
  .ite h.iceClear (.ite h.shedChallenge h.shedResponse)

protected theorem Keeps.secRequest {ch q op : Nat} {p : List W32} (h : Keeps s₀ s) : Keeps s₀ (secRequest ch q op p s) := .ite h.modSec h.secServe

protected theorem Keeps.spdmReply {r : List Byte} (h : Keeps s₀ s) : Keeps s₀ (spdmReply r s) := h.modSec

protected theorem Keeps.spdmUnknown (h : Keeps s₀ s) : Keeps s₀ (spdmUnknown s) := by
  unfold spdmUnknown
  split
  · exact .ite h h.spdmReply
  · exact h

protected theorem Keeps.secWake (h : Keeps s₀ s) : Keeps s₀ (secWake s) := by
  unfold secWake
  exact h.spdmUnknown.modSec.each fun _ _ h => h.secServe

protected theorem Keeps.fwVerify {a : Nat} (h : Keeps s₀ s) : Keeps s₀ (fwVerify a s) := by
  unfold fwVerify
  extract_lets s₂ s₄
  have h₃ : Keeps s₀ s₂ := .ite h h.setDom.secWake
  have h₅ : Keeps s₀ s₄ := by
    subst s₄
    split
    · exact h₃.verifyDone.secWake
    · exact h₃
  exact h₅.wr.setf.verifyDone

protected theorem Keeps.execImageVerifyEnd (h : Keeps s₀ s) : Answers s₀ (execImageVerifyEnd s) := by
  unfold execImageVerifyEnd
  refine .ok ?_
  split
  · exact h
  · exact h.verifyDone.secWake

protected theorem Keeps.execIceClear {ch : Chan} {seq : Seq} {payload : List W32} (h : Keeps s₀ s) : Answers s₀ (execIceClear ch seq payload s) :=
  .ok (h.hostMsg fun _ h => h.secRequest)

protected theorem Keeps.execShedChallenge {ch : Chan} {seq : Seq} {payload : List W32} (h : Keeps s₀ s) :
    Answers s₀ (execShedChallenge ch seq payload s) :=
  .ok (h.hostMsg fun _ h => h.secRequest)

protected theorem Keeps.execShedResponse {ch : Chan} {seq : Seq} {payload : List W32} (h : Keeps s₀ s) :
    Answers s₀ (execShedResponse ch seq payload s) :=
  .ok (h.hostMsg fun _ h => h.secRequest)

protected theorem Keeps.clearCapture (h : Keeps s₀ s) : Keeps s₀ (clearCapture s) := by
  unfold clearCapture
  exact h.ice.iceShow.use fun h => .ite h.incSat.emit h

protected theorem Keeps.parRefresh (h : Keeps s₀ s) : Keeps s₀ (parRefresh s) := h.each fun _ _ h => .ite h.recStore h

protected theorem Keeps.parAdvanceNow (h : Keeps s₀ s) : Keeps s₀ (parAdvanceNow s) := by
  unfold parAdvanceNow
  dsimp only
  cases bankErase 1 s with
  | none => exact (Keeps.ite h.eraseSector h).parAdvance
  | some e =>
    exact (Keeps.iteFun h.setErase.eraseDone h.setErase.eraseSector).use fun h => (Keeps.ite h.eraseSector h).parAdvance

protected theorem Keeps.parRoom {id n : Nat} (h : Keeps s₀ s) : Keeps s₀ (parRoom id n s) := by
  induction n generalizing s with
  | zero => exact h
  | succ n ih => exact .ite (ih h.parAdvanceNow) (.ite h (ih h.emit.parRefresh))

protected theorem Keeps.parPut {id : Nat} {p : List Byte} (h : Keeps s₀ s) : Keeps s₀ (parPut id p s) := ((Keeps.ite h h.recDone).parRoom).recStore

protected theorem Keeps.clearRun {ch q : Nat} (h : Keeps s₀ s) : Keeps s₀ (clearRun ch q s) := by
  unfold clearRun
  exact h.clearCapture.iceZero.emit.parPut.wr.hostReply.flag.ice.iceEraseStart

protected theorem Keeps.iceClearGo (h : Keeps s₀ s) : Keeps s₀ (iceClearGo s) := by
  unfold iceClearGo
  split
  · exact .ite h.deny h.ice.clearRun
  · exact h.deny

protected theorem Keeps.execIcehouseClear {m : Master} (h : Keeps s₀ s) : Answers s₀ (execIcehouseClear m s) := .ok (.ite h.iceClearGo h.deny)

/-! ### The loader of the sequencers -/

protected theorem Keeps.loadVerify (h : Keeps s₀ s) : Keeps s₀ (loadVerify s) := .ite h.deny h.setf.seqStaged

protected theorem Keeps.execLoadVerify {m : Master} (h : Keeps s₀ s) : Answers s₀ (execLoadVerify m s) := .ok (.ite h.loadVerify h.deny)

protected theorem Keeps.execLoadVerifyEnd (h : Keeps s₀ s) : Answers s₀ (execLoadVerifyEnd s) :=
  .ok (h.onlyIf fun _ h₁ => h₁.setf.seqStaged.use fun h => .ite h h.emit)

protected theorem Keeps.loadCommit (h : Keeps s₀ s) : Keeps s₀ (loadCommit s) := by
  unfold loadCommit
  split
  · have h₁ : Keeps s₀ (s.setf SEQ_LOAD_STATUS F_SEQ_LOAD_STATUS_RESULT 7) := h.setf
    exact .ite h.deny ((h₁.same.setf.setf.wr.each fun _ _ h => .ite h.flag h).extend.use fun h => .ite h.extend h)
  · exact h.deny

protected theorem Keeps.execLoadCommit {m : Master} (h : Keeps s₀ s) : Answers s₀ (execLoadCommit m s) := .ok (.ite h.loadCommit h.deny)

protected theorem Keeps.storeLoad {a : Nat} (h : Keeps s₀ s) : Keeps s₀ (storeLoad a s) := by
  unfold storeLoad
  exact h.modSeq.setf.setf

protected theorem Keeps.execSeqStoreReload {a : Act} (h : Keeps s₀ s) : Answers s₀ (execSeqStoreReload a s) := by
  unfold execSeqStoreReload
  exact .ok (h.onlyIf fun _ h => h.storeLoad.emit.seqStart)

/-! ### Reading -/

protected theorem Keeps.poolShow (h : Keeps s₀ s) : Keeps s₀ (poolShow s) := by
  unfold poolShow
  exact h.setf.setf.setf.setf.setf.setf.setf.setf

protected theorem Keeps.modPool {p : Nat} {f : PoolSlot → PoolSlot} (h : Keeps s₀ s) : Keeps s₀ (modPool p f s) := h.pool.poolShow

protected theorem Keeps.poolRelease {p : Nat} (h : Keeps s₀ s) : Keeps s₀ (poolRelease p s) := h.pool.poolShow

protected theorem Keeps.entRelease {a id : Nat} (h : Keeps s₀ s) : Keeps s₀ (entRelease a id s) := by
  unfold entRelease
  split
  · split
    · exact h.poolRelease.modFly
    · exact h
  · exact h

protected theorem Keeps.rchStat {a n : Nat} (h : Keeps s₀ s) : Keeps s₀ (rchStat a n s) := h.ctrSat

protected theorem Keeps.poolStat {n : Nat} (h : Keeps s₀ s) : Keeps s₀ (poolStat n s) := h.ctrSat

protected theorem Keeps.readFail {a id cause : Nat} (h : Keeps s₀ s) : Keeps s₀ (readFail a id cause s) := by
  unfold readFail
  split
  · exact h
  · exact h.entRelease.rchStat.use fun h₁ => .ite h₁.flag.rchStat.emit.settle (h₁.flag.rchStat.lodge.emit.use fun h => (Keeps.ite h.sectorPoison
      h).settle)

protected theorem Keeps.readPoison {a id : Nat} (h : Keeps s₀ s) : Keeps s₀ (readPoison a id s) := by
  unfold readPoison
  split
  · exact h
  · exact h.entRelease.flag.emit.use fun h₁ => (Keeps.ite h₁.sectorPoison h₁).use fun h => .ite h.modFly h.settle.modFly

protected theorem Keeps.modOutq {a : Nat} {f : List OutSec → List OutSec} (h : Keeps s₀ s) : Keeps s₀ (modOutq a f s) := h.outqs

protected theorem Keeps.outPush {a id oc iters : Nat} {user : List Byte} (h : Keeps s₀ s) : Keeps s₀ (outPush a id oc iters user s) := h.modFly.modOutq

protected theorem Keeps.readDone {a id oc iter : Nat} {user : List Byte} (h : Keeps s₀ s) : Keeps s₀ (readDone a id oc iter user s) := by
  unfold readDone
  split
  · exact h
  · exact (Keeps.ite h.sectorWrite h).settle

protected theorem Keeps.outDrain {a : Nat} (h : Keeps s₀ s) : Keeps s₀ (outDrain a s) := by
  unfold outDrain
  split
  · exact h
  · exact h.modOutq.readDone

protected theorem Keeps.outLost {a id : Nat} (h : Keeps s₀ s) : Keeps s₀ (outLost a id s) := h.emit.readFail

protected theorem Keeps.otfFail {a id : Nat} {chk : Bool} (h : Keeps s₀ s) : Keeps s₀ (otfFail a id chk s) := by
  unfold otfFail
  split
  · exact h
  · exact .ite h.readFail (.ite h.modPool.poolOrd.rchStat.modFly h.poolStat.emit.readFail)

protected theorem Keeps.execReadGateSectorStart {a : Act} {i : Slot} {tooLong : Bool} (h : Keeps s₀ s) :
    Answers s₀ (execReadGateSectorStart a i tooLong s) := by
  unfold execReadGateSectorStart
  refine .ok ?_
  split
  · exact h
  · refine .ite h ?_
    dsimp only
    split
    · exact h.rchStat.chainStart.modPool.modFly
    · exact h.rchStat.chainStart.flag.poolStat.emit.modFly

protected theorem Keeps.captureTrim {e : FlyEnt} {from' : Nat} (h : Keeps s₀ s) : Keeps s₀ (captureTrim e from' s) := by
  unfold captureTrim
  split
  · exact h
  · exact h.modPool

protected theorem Keeps.execSyncMarkDecision {a : Act} {i : Slot} (h : Keeps s₀ s) : Answers s₀ (execSyncMarkDecision a i s) := by
  unfold execSyncMarkDecision
  extract_lets _ _
  refine .ok ?_
  split
  · exact h
  · refine .ite ?_ ?_
    · exact h
    · split
      · exact h.modChain.readPoison
      · exact h.captureTrim.codeBegin
      · exact h.captureTrim.codeBegin.modFly.rchStat.emit

protected theorem Keeps.execSampleQueueOverflow {a : Act} {i : Slot} {n : BitVec 8} (h : Keeps s₀ s) :
    Answers s₀ (execSampleQueueOverflow a i n s) := by
  unfold execSampleQueueOverflow
  exact .ok h.flag.emit.deliver

protected theorem Keeps.otfEnd {a id : Nat} {conv chk : Bool} {iters : Nat} (h : Keeps s₀ s) : Keeps s₀ (otfEnd a id conv chk iters s) := by
  unfold otfEnd
  exact h.histAdd.rchStat.otfFail

protected theorem Keeps.execCodewordStart {a : Act} {i : Slot} (h : Keeps s₀ s) : Answers s₀ (execCodewordStart a i s) := by
  unfold execCodewordStart
  refine .ok ?_
  split
  · exact h
  · refine .ite h (Keeps.modFly (Keeps.ite ?_ h))
    split
    · exact h.modFly.flag.emit.otfEnd
    · exact h

protected theorem Keeps.execCodewordComplete {a : Act} {i : Slot} (h : Keeps s₀ s) : Answers s₀ (execCodewordComplete a i s) := by
  unfold execCodewordComplete
  extract_lets _ _
  refine .ok ?_
  split
  · exact h.queueFree
  · split
    · exact h
    · refine .ite ?_ ?_
      · exact h
      · extract_lets s₉ s₁₁ _ s₁₃ s₁₅
        have h₁₀ : Keeps s₀ s₉ := h.chainWork
        have h₁₂ : Keeps s₀ s₁₁ := .ite h₁₀.modChain h₁₀
        have h₁₄ : Keeps s₀ s₁₃ := h₁₂.modChain
        have h₁₆ : Keeps s₀ s₁₅ := h₁₄.modFly
        refine .ite ?_ ?_
        · exact h₁₆.readFail
        · split
          · exact h₁₆.modPool
          · exact h₁₆

protected theorem Keeps.execOtfDecodeEnd {a : Act} {i : Slot} (h : Keeps s₀ s) : Answers s₀ (execOtfDecodeEnd a i s) := by
  unfold execOtfDecodeEnd
  extract_lets _
  refine .ok ?_
  split
  · exact h
  · extract_lets _
    split
    · exact h.otfEnd
    · exact h.histAdd.entRelease.rchStat.rchStat.use fun h => .ite h.outPush h.outLost

protected theorem Keeps.codeEcc {a slot b w : Nat} (h : Keeps s₀ s) : Keeps s₀ (codeEcc a slot b w s) := by
  unfold codeEcc
  split
  · exact h
  · exact .ite h.modChain h.modFly

protected theorem Keeps.outEcc {a n : Nat} (h : Keeps s₀ s) : Keeps s₀ (outEcc a n s) := by
  unfold outEcc
  split
  · exact h
  · exact h.modOutq.outLost

protected theorem Keeps.poolEcc {p w : Nat} (h : Keeps s₀ s) : Keeps s₀ (poolEcc p w s) := h.pool

protected theorem Keeps.execPoolEccError {a : Act} {place : BitVec 2} {p : BitVec 9} {word : BitVec 12} {corrected : Bool}
    (h : Keeps s₀ s) : Answers s₀ (execPoolEccError a place p word corrected s) := by
  unfold execPoolEccError
  refine .ok (.ite h.poolStat ?_)
  dsimp only
  split
  · exact h.flag.poolStat.emit.poolEcc
  · exact h.flag.poolStat.emit.codeEcc
  · exact h.flag.poolStat.emit.outEcc
  · exact h.flag.poolStat.emit

protected theorem Keeps.drExhausted {p : Nat} (h : Keeps s₀ s) : Keeps s₀ (drExhausted p s) := by
  unfold drExhausted
  exact h.readFail

protected theorem Keeps.drBegin {p : Nat} (h : Keeps s₀ s) : Keeps s₀ (drBegin p s) := by
  unfold drBegin
  extract_lets _
  split
  · exact h.poolStat.modPool
  · exact h

protected theorem Keeps.execDrDispatch (h : Keeps s₀ s) : Answers s₀ (execDrDispatch s) := by
  unfold execDrDispatch
  refine .ok ?_
  split
  · exact h
  · exact .ite h (h.poolStat.modFly.modPool.use fun h => .ite h.drExhausted h.drBegin)

protected theorem Keeps.execDrAttemptEnd {p : BitVec 9} {conv : Bool} (h : Keeps s₀ s) : Answers s₀ (execDrAttemptEnd p conv s) := by
  unfold execDrAttemptEnd
  exact .ok (h.onlyIf fun _ h₁ => h₁.modPool.use fun h => .ite h.drExhausted h.drBegin)

protected theorem Keeps.execDrRecovered {p : BitVec 9} {pass : BitVec 3} {iters : BitVec 5} {info : List Byte} (h : Keeps s₀ s) :
    Answers s₀ (execDrRecovered p pass iters info s) := by
  unfold execDrRecovered
  extract_lets _ _
  refine .ok ?_
  refine .ite ?_ ?_
  · exact h
  · split
    · exact h
    · split
      · exact h
      · exact h.entRelease.poolStat.rchStat.emit.outPush

protected theorem Keeps.execRetainedWaitAge {p : BitVec 9} (h : Keeps s₀ s) : Answers s₀ (execRetainedWaitAge p s) := by
  unfold execRetainedWaitAge
  exact .ok (h.onlyIf fun _ h => h.poolStat.emit.readFail)

protected theorem Keeps.readAbandon {a : Nat} (h : Keeps s₀ s) : Keeps s₀ (readAbandon a s) := by
  unfold readAbandon
  exact h.modOutq.each fun _ _ h => h.entRelease.settle

/-! ### Stile -/

protected theorem Keeps.setStile {i : Nat} {l : LockSt} (h : Keeps s₀ s) : Keeps s₀ (setStile i l s) := h.locks

protected theorem Keeps.lockFreeBroken {i code : Nat} (h : Keeps s₀ s) : Keeps s₀ (lockFreeBroken i code s) := h.setStile.emit

protected theorem Keeps.locksOfCore {n : Nat} (h : Keeps s₀ s) : Keeps s₀ (locksOfCore n s) := h.each fun _ _ h => .ite h.lockFreeBroken h

protected theorem Keeps.execLockAcquire {m : Master} {i : Lock} (h : Keeps s₀ s) : Answers s₀ (execLockAcquire m i s) := by
  unfold execLockAcquire
  exact .ok (.ite h.rdata (.ite h.rdata (.ite h.incWrap.rdata h.setStile.rdata)))

protected theorem Keeps.execLockRelease {m : Master} {i : Lock} (h : Keeps s₀ s) : Answers s₀ (execLockRelease m i s) := by
  unfold execLockRelease
  exact .ok (.ite h.setStile h.deny)

protected theorem Keeps.execLockBreak {m : Master} {i : Lock} (h : Keeps s₀ s) : Answers s₀ (execLockBreak m i s) :=
  .ite (.ok (h.setf.use fun h => .ite h.lockFreeBroken h)) (.ok h.deny)

/-! ### Resets -/

protected theorem Keeps.modPlat {f : PlatSt → PlatSt} (h : Keeps s₀ s) : Keeps s₀ (modPlat f s) := h.plat

protected theorem Keeps.modGh {f : GhSt → GhSt} (h : Keeps s₀ s) : Keeps s₀ (modGh f s) := h.gh

protected theorem Keeps.calMoveTo {cls item : Nat} {target : Int} (h : Keeps s₀ s) : Keeps s₀ (calMoveTo cls item target s) := by
  unfold calMoveTo
  exact h.cal.setf

protected theorem Keeps.calApply {cls : Nat} {items : List Nat} (h : Keeps s₀ s) : Keeps s₀ (calApply cls items s) := h.each fun _ _ h => h.calMoveTo

protected theorem Keeps.actState0 {a : Nat} {res : List (W32 × W32)} (h : Keeps s₀ s) : Keeps s₀ (actState0 a res s) := h.same

protected theorem Keeps.trainUp {a : Nat} (h : Keeps s₀ s) : Keeps s₀ (trainUp a s) := .ite h.modLnk h.startTraining

protected theorem Keeps.actPowerUp {a : Nat} (h : Keeps s₀ s) : Keeps s₀ (actPowerUp a s) := by
  unfold actPowerUp
  exact h.resetKeys.actState0.showLoaded.reimposeIsolation.refreshForced.calApply.calApply.trainUp

protected theorem Keeps.abandonRecords {a d : Nat} {l : List FlyEnt} (h : Keeps s₀ s) : Keeps s₀ (abandonRecords a d l s).2 := by
  induction l generalizing s with
  | nil => exact h
  | cons e r ih =>
    unfold abandonRecords
    exact .iteSnd (ih h.resPost) (ih h)

protected theorem Keeps.opsCancelled {a : Nat} {taken : List FlyEnt} (h : Keeps s₀ s) : Keeps s₀ (opsCancelled a taken s) := by
  unfold opsCancelled
  dsimp only
  split
  · exact h.each fun _ _ h => h.opDone
  · exact (h.each fun _ _ h => h.opDone).abandonRecords.opDone

protected theorem Keeps.actSlotsClose {a : Nat} (h : Keeps s₀ s) : Keeps s₀ (actSlotsClose a s) := h.each fun _ _ h => h.closeSlot

protected theorem Keeps.actReinit {a : Nat} (h : Keeps s₀ s) : Keeps s₀ (actReinit a s) := by
  unfold actReinit
  exact h.seqStop.readAbandon.opsCancelled.actSlotsClose.resetKeys.actState0.showLoaded.reimposeIsolation.refreshForced.startTraining

protected theorem Keeps.actRstShow {a : Nat} {b : Bool} (h : Keeps s₀ s) : Keeps s₀ (actRstShow a b s) := by
  unfold actRstShow
  exact h.wr

protected theorem Keeps.actReset {a : Nat} {recover : Bool} (h : Keeps s₀ s) : Keeps s₀ (actReset a recover s) := by
  unfold actReset
  exact h.modPlat.actRstShow.fenceOff.use fun h => .ite h.startRetract h.actReinit

protected theorem Keeps.actRstDone {a : Nat} (h : Keeps s₀ s) : Keeps s₀ (actRstDone a s) := h.modPlat.actRstShow

protected theorem Keeps.recoverReply {a : Nat} {good : Bool} (h : Keeps s₀ s) : Keeps s₀ (recoverReply a good s) := by
  unfold recoverReply
  exact h.modGh.each fun _ _ h => h.ghReply

protected theorem Keeps.releaseIsolation {a : Nat} (h : Keeps s₀ s) : Keeps s₀ (releaseIsolation a s) := by
  unfold releaseIsolation
  exact h.wr.setActState.refreshForced

protected theorem Keeps.actTrained {a : Nat} (h : Keeps s₀ s) : Keeps s₀ (actTrained a s) := by
  unfold actTrained
  split
  · exact h
  · exact h.actRstDone.emit
  · exact .ite h.actRstDone.releaseIsolation.emit.emit.recoverReply h.actRstDone.recoverReply

protected theorem Keeps.execTrainingEnd {a : Act} {locked : BitVec 8} {reply : Slot} {ident : BitVec 16} (h : Keeps s₀ s) :
    Answers s₀ (execTrainingEnd a locked reply ident s) := by
  unfold execTrainingEnd
  exact .ok (h.onlyIf fun _ h => h.endTraining.actTrained)

protected theorem Keeps.actRstReq {v : W32} (h : Keeps s₀ s) : Keeps s₀ (actRstReq v s) := by
  unfold actRstReq
  extract_lets _ s₂ _
  have h₃ : Keeps s₀ s₂ := h.setf.setf
  split
  · exact h₃.setf.deny
  · exact h₃.setf.actReset

protected theorem Keeps.actRstWrite {v : W32} (h : Keeps s₀ s) : Keeps s₀ (actRstWrite v s) := .ite h.actRstReq h.setf

protected theorem Keeps.execActuatorReset {m : Master} {v : W32} (h : Keeps s₀ s) : Answers s₀ (execActuatorReset m v s) :=
  .ok (.ite h.actRstReq h.deny)

protected theorem Keeps.ghForget {cores : List Nat} (h : Keeps s₀ s) : Keeps s₀ (ghForget cores s) := by
  unfold ghForget
  exact h.held.modGh

protected theorem Keeps.msgForget {cores : List Nat} (h : Keeps s₀ s) : Keeps s₀ (msgForget cores s) := by
  unfold msgForget
  exact h.same.modHif

protected theorem Keeps.coresReset {cores : List Nat} (h : Keeps s₀ s) : Keeps s₀ (coresReset cores s) := by
  unfold coresReset
  exact h.replies.msgForget.ghForget.kResetEnds.each fun _ _ h => h.locksOfCore.coreRegsReset

protected theorem Keeps.coreRstWrite {v : W32} (h : Keeps s₀ s) : Keeps s₀ (coreRstWrite v s) := by
  unfold coreRstWrite
  exact h.setf.use fun h => .ite h.coresReset h

protected theorem Keeps.execCoreReset {m : Master} {v : W32} (h : Keeps s₀ s) : Answers s₀ (execCoreReset m v s) := .ok (.ite h.coreRstWrite h.deny)

protected theorem Keeps.kioskSysReset (h : Keeps s₀ s) : Keeps s₀ (kioskSysReset s) := by
  unfold kioskSysReset
  exact h.same.ghForget.each fun _ _ h => h.kEndReset

protected theorem Keeps.hifSysReset (h : Keeps s₀ s) : Keeps s₀ (hifSysReset s) := h.modHif

protected theorem Keeps.secSysReset (h : Keeps s₀ s) : Keeps s₀ (secSysReset s) := h.modSec

protected theorem Keeps.internalReset (h : Keeps s₀ s) : Keeps s₀ (internalReset s) := by
  unfold internalReset
  extract_lets straps s₁ s₂ s₃ _ s₄
  have h₃ : Keeps s₀ s₃ := h.nvCut.kioskSysReset.resetKeys.wr.hifSysReset.secSysReset
  have h₄ : Keeps s₀ s₄ := by
    clear_value s₃
    exact h₃.same
  exact h₄.modPlat.modGh.each fun _ _ h => h.setInhibit

protected theorem Keeps.stage2 (h : Keeps s₀ s) : Keeps s₀ (stage2 s) := by
  unfold stage2
  exact h.setf.pins

protected theorem Keeps.stage2Enter (h : Keeps s₀ s) : Keeps s₀ (stage2Enter s) := .ite h.stage2 h.setf

protected theorem Keeps.internalRelease (h : Keeps s₀ s) : Keeps s₀ (internalRelease s) := by
  unfold internalRelease
  exact ((h.modPlat.each fun _ _ h => h.setSpnForced.spnGo).each fun _ _ h => h.reimposeIsolation.refreshForced).use fun h => (Keeps.ite
      h.graveReaction h).stage2Enter

protected theorem Keeps.rstSteps (h : Keeps s₀ s) : Keeps s₀ (rstSteps s) := by
  unfold rstSteps
  split
  · exact .ite h (h.modPlat.internalReset.use fun h => .ite h.internalRelease h)
  · exact h

protected theorem Keeps.sysCoast {hda : Nat} (h : Keeps s₀ s) : Keeps s₀ (sysCoast hda s) := .ite h h.endStart.spnGo

protected theorem Keeps.sysReset {release : Bool} (h : Keeps s₀ s) : Keeps s₀ (sysReset release s) := by
  unfold sysReset
  extract_lets _
  split
  · exact (((h.flag.modPlat.each fun _ _ h => h.fenceOff).each fun _ _ h => h.startRetract).each fun _ _ h => h.sysCoast).rstSteps
  · exact h.flag.modPlat
  · exact h

protected theorem Keeps.retractAnswers (h : Keeps s₀ s) : Keeps s₀ (retractAnswers s) := by
  unfold retractAnswers
  exact h.modGh.each fun _ _ h => h.ghReply

protected theorem Keeps.retractOver {a : Nat} {reset : Bool} (h : Keeps s₀ s) : Keeps s₀ (retractOver a reset s) := by
  unfold retractOver
  exact h.modRetr.railBrakesEnd.use fun h =>
    (Keeps.ite h (Keeps.ite (h.actRstDone.use fun h => .iteFun h.recoverReply h) h.actReinit)).retractAnswers.rstSteps

protected theorem Keeps.retractEnd {a : Nat} (h : Keeps s₀ s) : Keeps s₀ (retractEnd a s) := by
  unfold retractEnd
  exact (Keeps.ite h.enterIsolated h.setActState.refreshForced).retractOver

protected theorem Keeps.retractFail {a : Nat} {timeout inj : Bool} (h : Keeps s₀ s) : Keeps s₀ (retractFail a timeout inj s) := by
  unfold retractFail
  exact h.actRecord.emit.enterIsolated.use fun h => (Keeps.ite h h.flag).retractOver

protected theorem Keeps.execRetractRegTimeout {a : Act} (h : Keeps s₀ s) : Answers s₀ (execRetractRegTimeout a s) :=
  .ok (h.onlyIf fun _ h => h.retractSend)

protected theorem Keeps.retractRead {a : Nat} (h : Keeps s₀ s) : Keeps s₀ (retractRead a s) := by
  unfold retractRead
  split
  · exact h
  · exact h.modDn

protected theorem Keeps.execRetractPoll {a : Act} {value : BitVec 16} (h : Keeps s₀ s) : Answers s₀ (execRetractPoll a value s) := by
  unfold execRetractPoll
  exact .ok (h.onlyIf fun _ h₁ => h₁.retractRead.modRetr.use fun h => .ite h.retractEnd h)

protected theorem Keeps.execRetractTimeout {a : Act} {failed : Bool} (h : Keeps s₀ s) : Answers s₀ (execRetractTimeout a failed s) := by
  unfold execRetractTimeout
  exact .ok (h.onlyIf fun _ h => h.retractFail)

protected theorem Keeps.execSysRstNAssert (h : Keeps s₀ s) : Answers s₀ (execSysRstNAssert s) := .ok h.sysReset

protected theorem Keeps.chipRstWrite {v : W32} (h : Keeps s₀ s) : Keeps s₀ (chipRstWrite v s) := .ite h.setf (.ite h.deny h.setf.sysReset)

protected theorem Keeps.execChipReset {m : Master} {v : W32} (h : Keeps s₀ s) : Answers s₀ (execChipReset m v s) := .ok (.ite h.chipRstWrite h.deny)

protected theorem Keeps.sampleStraps {smba : Nat} {pclk : Bool} (h : Keeps s₀ s) : Keeps s₀ (sampleStraps smba pclk s) := h.setf.setf

protected theorem Keeps.execSysRstNRelease {smba : Slot} {pclk : Bool} (h : Keeps s₀ s) : Answers s₀ (execSysRstNRelease smba pclk s) := by
  unfold execSysRstNRelease
  refine .ok ?_
  split
  · exact h
  · exact h.modPlat.sampleStraps
  · exact h.internalRelease.sampleStraps

/-! ### Calibration -/

protected theorem Keeps.calLoad (h : Keeps s₀ s) : Keeps s₀ (calLoad s) := by
  unfold calLoad
  exact .ite h.flag.wr.wr.wr.cal h.setf.cal.emit

protected theorem Keeps.calApplyAll {cls : Nat} (h : Keeps s₀ s) : Keeps s₀ (calApplyAll cls s) := h.calApply

protected theorem Keeps.calSend {item : Nat} {tap : Int} (h : Keeps s₀ s) : Keeps s₀ (calSend item tap s) := h.feStart

protected theorem Keeps.calTrain {cls item : Nat} (h : Keeps s₀ s) : Keeps s₀ (calTrain cls item s) := .ite h.startTraining h

protected theorem Keeps.calReach {cls : Nat} (h : Keeps s₀ s) : Keeps s₀ (calReach cls s) := h.each fun _ _ h => h.cal.calMoveTo

protected theorem Keeps.calStep {cls item : Nat} (h : Keeps s₀ s) : Keeps s₀ (calStep cls item s) := by
  unfold calStep
  split
  · exact h
  · exact .ite h ((Keeps.ite h.calSend h).cal.calMoveTo.calTrain)

protected theorem Keeps.execCalStep {cls : BitVec 3} {item : BitVec 9} (h : Keeps s₀ s) : Answers s₀ (execCalStep cls item s) := .ok h.calStep

protected theorem Keeps.calRunWrite {v : W32} (h : Keeps s₀ s) : Keeps s₀ (calRunWrite v s) := by
  unfold calRunWrite
  exact .ite h.setf.deny (.ite h.deny (h.setf.setf.use fun h => .ite h.setf.flag.cal h))

protected theorem Keeps.execCalRun {m : Master} {v : W32} (h : Keeps s₀ s) : Answers s₀ (execCalRun m v s) := .ok (.ite h.calRunWrite h.deny)

protected theorem Keeps.calRunEnd {cls ix : Nat} {l : List (Nat × Int)} (h : Keeps s₀ s) : Keeps s₀ (calRunEnd cls ix l s) := by
  unfold calRunEnd
  extract_lets items l _ _ s₁
  have h₁ : Keeps s₀ s₁ := h.setf.cal
  clear_value s₁
  split
  · exact h₁.cal.setf.calApply.setf.wr.wr.emit
  · exact h₁.setf.setf.setf.setf.setf.emit

protected theorem Keeps.execCalRunEnd {results : List (Nat × Int)} (h : Keeps s₀ s) : Answers s₀ (execCalRunEnd results s) := by
  unfold execCalRunEnd
  refine .ok ?_
  split
  · exact h
  · exact h.calRunEnd

/-! ### Power, clocks and start-up -/

protected theorem Keeps.domEnd {r : Nat} (h : Keeps s₀ s) : Keeps s₀ (domEnd r s) := by
  unfold domEnd
  exact h.setf.flag.setf.use fun h => .ite h.emit h

protected theorem Keeps.domReq {m d : Nat} {on : Bool} (h : Keeps s₀ s) : Keeps s₀ (domReq m d on s) :=
  .ite h.deny (h.setf.setf.setf.setf.use fun h => .ite h.domEnd (.ite h.domEnd (.ite h.modPlat.flag (.ite h.domEnd (.ite h.modPlat.domEnd
      h.setDom.domEnd)))))

protected theorem Keeps.domReqWrite {m : Nat} {v : W32} (h : Keeps s₀ s) : Keeps s₀ (domReqWrite m v s) := by
  unfold domReqWrite
  exact .ite h.domReq (h.setf.use fun h => .ite h.deny h.setf)

protected theorem Keeps.execDomainOn {m : Master} {d : BitVec 7} (h : Keeps s₀ s) : Answers s₀ (execDomainOn m d s) := .ok (.ite h.domReq h.deny)

protected theorem Keeps.execDomainOff {m : Master} {d : BitVec 7} (h : Keeps s₀ s) : Answers s₀ (execDomainOff m d s) := .ok (.ite h.domReq h.deny)

protected theorem Keeps.domUp {d : Nat} (h : Keeps s₀ s) : Keeps s₀ (domUp d s) :=
  .ite h.actPowerUp (.ite h.coreRegsReset (.ite h.nvReplay (.ite h.secWake h)))

protected theorem Keeps.execDomainOnComplete (h : Keeps s₀ s) : Answers s₀ (execDomainOnComplete s) := by
  unfold execDomainOnComplete
  refine .ok ?_
  split
  · exact h
  · exact h.modPlat.setDom.domUp.domEnd

protected theorem Keeps.execCoreWaitPowerOff {c : CoreId} (h : Keeps s₀ s) : Answers s₀ (execCoreWaitPowerOff c s) := by
  unfold execCoreWaitPowerOff
  exact .ok (h.onlyIf fun _ h => h.modPlat.setDom)

protected theorem Keeps.fabricFreq {f : Nat} (h : Keeps s₀ s) : Keeps s₀ (fabricFreq f s) := by
  unfold fabricFreq
  exact h.setf.use fun h => .ite h h.setf.emit

protected theorem Keeps.execFabricFreqChange {m : Master} {f : BitVec 2} (h : Keeps s₀ s) : Answers s₀ (execFabricFreqChange m f s) :=
  .ok (.ite h.fabricFreq h.deny)

protected theorem Keeps.execReferenceLost (h : Keeps s₀ s) : Answers s₀ (execReferenceLost s) := .ok (h.onlyIf fun _ h => h.flag.flag.emit)

protected theorem Keeps.execReferenceRestored (h : Keeps s₀ s) : Answers s₀ (execReferenceRestored s) := .ok (h.onlyIf fun _ h => h.setf.emit)

protected theorem Keeps.powerLost (h : Keeps s₀ s) : Keeps s₀ (powerLost s) := by
  refine h.nvCut.trans ⟨fun hc => ⟨?_, rfl, rfl⟩, fun _ => ⟨nofun, nofun⟩, rfl⟩
  obtain ⟨hw, -, -⟩ := hc
  rw [memory_wf_iff] at hw ⊢
  exact ⟨rfl, hw.2⟩

protected theorem Keeps.execGatehouseSupplyLost (h : Keeps s₀ s) : Answers s₀ (execGatehouseSupplyLost s) := .ok h.powerLost.modPlat

protected theorem Keeps.ghSelfFault {code : Nat} (h : Keeps s₀ s) : Keeps s₀ (ghSelfFault code s) := h.emit.grave.setf

protected theorem Keeps.execPowerOn {romOk : Bool} {smba : Slot} {pclk : Bool} (h : Keeps s₀ s) : Answers s₀ (execPowerOn romOk smba pclk s) := by
  unfold execPowerOn
  exact .ok (h.powerLost.sampleStraps.use fun h₁ => (Keeps.ite h₁.flag h₁).setf.use fun h => .ite h h.ghSelfFault)

protected theorem Keeps.domsOn {l : List Nat} (h : Keeps s₀ s) : Keeps s₀ (domsOn l s) := h.each fun _ _ h => h.setDom

protected theorem Keeps.recovery {fail : Nat} (h : Keeps s₀ s) : Keeps s₀ (recovery fail s) := by
  unfold recovery
  exact h.setf.flag.modHif.emit

protected theorem Keeps.clearCountLoad (h : Keeps s₀ s) : Keeps s₀ (clearCountLoad s) := by
  unfold clearCountLoad
  split
  · exact h.wr.use fun h => .ite h.wr h
  · exact h.wr

protected theorem Keeps.stage3 (h : Keeps s₀ s) : Keeps s₀ (stage3 s) := by
  unfold stage3
  exact h.domsOn.nvReplay.iceScan.clearCountLoad.iceWrite.iceWrite.calLoad.calApplyAll.calApplyAll.shedExtends.setf

protected theorem Keeps.stage4 (h : Keeps s₀ s) : Keeps s₀ (stage4 s) := h.domsOn.calApplyAll.setf

protected theorem Keeps.dramTrained {tries : Nat} {good : Bool} {rank1 : Nat} (h : Keeps s₀ s) : Keeps s₀ (dramTrained tries good rank1 s) := by
  unfold dramTrained
  exact (h.setf.each fun _ _ h => h.emit).use fun h => .ite h.setf.setf.setf h.recovery

protected theorem Keeps.bootSlot {k tried : Nat} (h : Keeps s₀ s) : Keeps s₀ (bootSlot k tried s) := by
  unfold bootSlot
  exact h.setf.setf.setf.setf.setf.modSec.modHif.extend

protected theorem Keeps.slotsVerify (h : Keeps s₀ s) : Keeps s₀ (slotsVerify s) := by
  unfold slotsVerify
  extract_lets s₂ _
  have h₃ : Keeps s₀ s₂ := h.romExtends
  split
  · exact h₃.bootSlot.fabricFreq.domsOn.setf
  · exact h₃.setf.setf.emit.recovery

protected theorem Keeps.execBootStageEnd {tries : Slot} {dramOk : Bool} {rank1 : Byte} (h : Keeps s₀ s) :
    Answers s₀ (execBootStageEnd tries dramOk rank1 s) := by
  unfold execBootStageEnd
  refine .ok ?_
  refine .ite ?_ ?_
  · exact h
  · split
    · exact h.stage2Enter
    · exact h.stage3
    · exact h.calReach.calReach.stage4
    · exact h.calReach.dramTrained
    · exact h.slotsVerify
    · exact h.setf
    · exact h

protected theorem Keeps.rdyShow (h : Keeps s₀ s) : Keeps s₀ (rdyShow s) := h.modHif

protected theorem Keeps.sanKeep (h : Keeps s₀ s) : Keeps s₀ (sanKeep s) := by
  unfold sanKeep
  split
  · exact .ite h.modHif.parPut h
  · exact h

protected theorem Keeps.sanResume (h : Keeps s₀ s) : Keeps s₀ (sanResume s) := by
  unfold sanResume
  split
  · exact (h.each fun _ _ h => .ite h h.spnStart).modHif
  · exact h

protected theorem Keeps.upKeep {mask : Nat} (h : Keeps s₀ s) : Keeps s₀ (upKeep mask s) := h.parPut

protected theorem Keeps.fwReady (h : Keeps s₀ s) : Keeps s₀ (fwReady s) := by
  unfold fwReady
  exact h.flag.use fun h => (Keeps.ite h h.sanResume.modHif).rdyShow

protected theorem Keeps.execFwReady {m : Master} (h : Keeps s₀ s) : Answers s₀ (execFwReady m s) := .ok (.ite h.fwReady h.deny)

protected theorem Keeps.recMsg {op q : Nat} {f : State → State} (h : Keeps s₀ s) (hf : ∀ t, Keeps s₀ t → Keeps s₀ (f t)) : Keeps s₀ (recMsg op q f s) :=
  .ite (hf _ h) h.hostReply

protected theorem Keeps.execRecInfo {seq : Seq} {len : Nat} (h : Keeps s₀ s) : Answers s₀ (execRecInfo seq len s) :=
  .ok (h.recMsg fun _ h => .ite h.hostReply h.hostReply)

protected theorem Keeps.execRecWrite {seq : Seq} {payload : List W32} (h : Keeps s₀ s) : Answers s₀ (execRecWrite seq payload s) :=
  .ok (h.recMsg fun _ h => .ite h.hostReply (.ite h.hostReply h.wrMem.hostReply))

protected theorem Keeps.recCommitRun {k n res : Nat} (h : Keeps s₀ s) : Keeps s₀ (recCommitRun k n res s) := by
  unfold recCommitRun
  exact h.wr.slotRevoke.use fun h => .ite h.commitWrite.commitDone.emit h.commitFailAt.commitDone.emit

protected theorem Keeps.execRecCommit {seq : Seq} {payload : List W32} {res : Slot} (h : Keeps s₀ s) : Answers s₀ (execRecCommit seq payload res s) :=
  .ok (h.recMsg fun _ h₁ => .ite h₁.hostReply (.ite h₁.hostReply (.ite h₁.hostReply (h₁.recCommitRun.hostReply.use fun h => .ite h.sysReset h))))

/-! ### The Gatehouse -/

protected theorem Keeps.ghReq {c : CoreId} {op : Nat} {seq : Seq} {n : Nat} {payload : List W32} {arg : Nat} {f : State → State}
    (h : Keeps s₀ s) (hf : ∀ t, Keeps s₀ t → Keeps s₀ (f t)) :
    Keeps s₀ (ghReq c op seq n payload arg f s) :=
  h.ghMsg fun _ h => .ite (hf _ h) h.ghReply

protected theorem Keeps.ghRefuse {c op seq reason : Nat} (h : Keeps s₀ s) : Keeps s₀ (ghRefuse c op seq reason s) := h.ghReply

protected theorem Keeps.execGhInfo {c : CoreId} {seq : Seq} {len : Nat} (h : Keeps s₀ s) : Answers s₀ (execGhInfo c seq len s) :=
  .ok (h.ghReq fun _ h => h.ghReply)

protected theorem Keeps.fenceSet {hs : List Nat} {delta pes : Nat} (h : Keeps s₀ s) : Keeps s₀ (fenceSet hs delta pes s) :=
  h.each fun _ _ h => h.setf.setf

protected theorem Keeps.execSetFence {c : CoreId} {seq : Seq} {payload : List W32} (h : Keeps s₀ s) : Answers s₀ (execSetFence c seq payload s) :=
  .ok (h.ghReq fun _ h => .ite h.ghReply (.ite h.ghRefuse h.fenceSet.emit.ghReply))

protected theorem Keeps.execRetract {c : CoreId} {seq : Seq} {payload : List W32} (h : Keeps s₀ s) : Answers s₀ (execRetract c seq payload s) :=
  .ok (h.ghReq fun _ h₁ => .ite h₁.ghRefuse ((h₁.each fun _ _ h => h.startRetract).modGh.retractAnswers))

protected theorem Keeps.execRecover {c : CoreId} {seq : Seq} {payload : List W32} {reg0xF08 : BitVec 16} (h : Keeps s₀ s) :
    Answers s₀ (execRecover c seq payload reg0xF08 s) := by
  refine .ok (h.ghReq fun t h => .ite h.ghReply ?_)
  split
  · exact h.ghRefuse
  · exact h.modGh.actReset

protected theorem Keeps.execReleaseSpindle {c : CoreId} {seq : Seq} {payload : List W32} (h : Keeps s₀ s) :
    Answers s₀ (execReleaseSpindle c seq payload s) :=
  .ok (h.ghReq fun _ h₁ => (h₁.each fun _ _ h => h.setSpnForced.emit).ghReply)

protected theorem Keeps.execChopperTest {c : CoreId} {seq : Seq} {payload : List W32} (h : Keeps s₀ s) :
    Answers s₀ (execChopperTest c seq payload s) :=
  .ok (h.ghReq fun _ h => .ite h.ghReply (.ite h.ghRefuse (.ite h.ghRefuse h.modGh.flag)))

protected theorem Keeps.chopPass {r : Nat} (h : Keeps s₀ s) : Keeps s₀ (chopPass r s) := h.setf.setInhibit.emit

protected theorem Keeps.execChopperTestEnd {r : Rail} {peakMa : BitVec 16} {within10us : Bool} (h : Keeps s₀ s) :
    Answers s₀ (execChopperTestEnd r peakMa within10us s) := by
  unfold execChopperTestEnd
  extract_lets _ _
  refine .ok ?_
  split
  · exact h
  · exact h.modGh.use fun h₁ => (Keeps.ite h₁ h₁.setf).use fun h₂ => (Keeps.ite h₂.chopPass h₂).each fun _ _ h => h.ghReply

protected theorem Keeps.execSetNotice {c : CoreId} {seq : Seq} {payload : List W32} (h : Keeps s₀ s) : Answers s₀ (execSetNotice c seq payload s) :=
  .ok (h.ghReq fun _ h => h.setf.ghReply)

protected theorem Keeps.writeInhibitAll (h : Keeps s₀ s) : Keeps s₀ (writeInhibitAll s) := by
  unfold writeInhibitAll
  exact h.flag.each fun _ _ h => h.fenceOff.refreshForced

protected theorem Keeps.supplyExc {b mv : Nat} {inj : Bool} (h : Keeps s₀ s) : Keeps s₀ (supplyExc b mv inj s) := by
  unfold supplyExc
  exact h.setf.lodge.writeInhibitAll.emit

protected theorem Keeps.execSupplyExcursion {b : BitVec 3} {mv : BitVec 16} (h : Keeps s₀ s) : Answers s₀ (execSupplyExcursion b mv s) := by
  unfold execSupplyExcursion
  exact .ok (h.onlyIf fun _ h => h.modGh.setf.supplyExc)

protected theorem Keeps.loadedFault {code detail : Nat} {inj : Bool} (h : Keeps s₀ s) : Keeps s₀ (loadedFault code detail inj s) :=
  h.each fun _ _ h => h.actFault

protected theorem Keeps.execSupplyFault {b : BitVec 3} {mv : BitVec 16} (h : Keeps s₀ s) : Answers s₀ (execSupplyFault b mv s) := by
  unfold execSupplyFault
  exact .ok (h.onlyIf fun _ h => h.modGh.loadedFault)

protected theorem Keeps.execSupplyRecovered (h : Keeps s₀ s) : Answers s₀ (execSupplyRecovered s) := by
  unfold execSupplyRecovered
  exact .ok (h.modGh.setf.onlyIf fun _ h₂ => h₂.setf.each fun _ _ h => h.refreshForced)

protected theorem Keeps.execTemperatureSample {tj : Byte} (h : Keeps s₀ s) : Answers s₀ (execTemperatureSample tj s) := by
  unfold execTemperatureSample
  exact .ok (h.setf.setf.use fun h => .ite h.modGh h)

protected theorem Keeps.execThermalDetected (h : Keeps s₀ s) : Answers s₀ (execThermalDetected s) :=
  .ok (h.onlyIf fun _ h => h.modGh.emit.loadedFault)

protected theorem Keeps.execThermalGrave (h : Keeps s₀ s) : Answers s₀ (execThermalGrave s) := .ok (h.onlyIf fun _ h => h.emit.grave)

protected theorem Keeps.execLockstepMismatch (h : Keeps s₀ s) : Answers s₀ (execLockstepMismatch s) := .ok (h.onlyIf fun _ h => h.setf.ghSelfFault)

protected theorem Keeps.execGhSramUncorrectable (h : Keeps s₀ s) : Answers s₀ (execGhSramUncorrectable s) := .ok (h.onlyIf fun _ h => h.ghSelfFault)

protected theorem Keeps.injectAt {code src mv : Nat} (h : Keeps s₀ s) : Keeps s₀ (injectAt code src mv s) := by
  unfold injectAt
  refine .ite ?_ ?_
  · exact h.hdaFault
  · refine .ite ?_ ?_
    · exact h.actFault
    · split
      · exact h.fenceOff.retractFail
      · exact h.supplyExc
      · exact h.loadedFault
      · exact h.emit.loadedFault
      · exact h.chopFault
      · exact h.powerLoss.railBrakesEnd
      · exact h.lodge
      · exact h.lodge
      · exact h.lodge
      · exact h.lodge
      · exact h.railGrave
      · exact h.emit.grave
      · exact h.grave
      · exact h.grave
      · exact h.grave

protected theorem Keeps.execInject {c : CoreId} {seq : Seq} {payload : List W32} {mv : BitVec 16} (h : Keeps s₀ s) :
    Answers s₀ (execInject c seq payload mv s) :=
  .ok (h.ghReq fun _ h => .ite h.ghRefuse (.ite h.ghReply h.injectAt.emit.ghReply))

protected theorem Keeps.execNoticeRead {m : Master} {c : CoreId} (h : Keeps s₀ s) : Answers s₀ (execNoticeRead m c s) := by
  unfold execNoticeRead
  exact .ok (h.rdata.use fun h => .ite h.setf h)

protected theorem Keeps.execSupplyStickyRead {m : Master} (h : Keeps s₀ s) : Answers s₀ (execSupplyStickyRead m s) := by
  unfold execSupplyStickyRead
  exact .ok (h.rdata.use fun h => .ite h.setf h)

protected theorem Keeps.execFaultAgedOut (h : Keeps s₀ s) : Answers s₀ (execFaultAgedOut s) := .ok (h.each fun _ _ h => h.showFaults)

/-! ### Placement -/

protected theorem Keeps.modNs {id : Nat} {f : NsSt → NsSt} (h : Keeps s₀ s) : Keeps s₀ (modNs id f s) := h.modHif

protected theorem Keeps.nsChanged {id : Nat} (h : Keeps s₀ s) : Keeps s₀ (nsChanged id s) := h.modHif.asyncPost

protected theorem Keeps.readyShow (h : Keeps s₀ s) : Keeps s₀ (readyShow s) := by
  unfold readyShow
  exact h.modHif.modHif.each fun _ _ h => h.nsChanged

/-! ### Management messages -/

protected theorem Keeps.mgmtMsg {ch : Chan} {op : Nat} {seq : Seq} {n : Nat} {payload : List W32} {f : State → State}
    (h : Keeps s₀ s) (hf : ∀ t, Keeps s₀ t → Keeps s₀ (f t)) :
    Keeps s₀ (mgmtMsg ch op seq n payload f s) :=
  h.hostMsg fun _ h => .ite (hf _ h) h.hostReply

protected theorem Keeps.execGetInfo {ch : Chan} {seq : Seq} {len : Nat} (h : Keeps s₀ s) : Answers s₀ (execGetInfo ch seq len s) :=
  .ok (h.mgmtMsg fun _ h => h.hostReply)

protected theorem Keeps.execHdaState {ch : Chan} {seq : Seq} {len : Nat} (h : Keeps s₀ s) : Answers s₀ (execHdaState ch seq len s) :=
  .ok (h.mgmtMsg fun _ h => h.hostReply)

protected theorem Keeps.execSetSubsys {ch : Chan} {seq : Seq} {payload : List W32} (h : Keeps s₀ s) : Answers s₀ (execSetSubsys ch seq payload s) :=
  .ok (h.mgmtMsg fun _ h => h.parPut.hostReply)

protected theorem Keeps.execSetAccel {ch : Chan} {seq : Seq} {payload : List W32} (h : Keeps s₀ s) : Answers s₀ (execSetAccel ch seq payload s) :=
  .ok (h.mgmtMsg fun _ h => .ite h.hostReply h.setf.hostReply)

protected theorem Keeps.execEcho {ch : Chan} {seq : Seq} {payload : List W32} (h : Keeps s₀ s) : Answers s₀ (execEcho ch seq payload s) :=
  .ok (h.hostMsg fun _ h => .ite h.hostReply h.hostReply)

protected theorem Keeps.execUnknownOp {ch : Chan} {op : Byte} {seq : Seq} (h : Keeps s₀ s) : Answers s₀ (execUnknownOp ch op seq s) := by
  unfold execUnknownOp
  exact .ok (.ite h (.ite (h.hostMsg fun _ h => h.hostReply) (.ite (h.ghMsg fun _ h => h.ghReply) h)))

protected theorem Keeps.jobPut {j : HJob} {new : Option HJob} (h : Keeps s₀ s) : Keeps s₀ (jobPut j new s) := h.modHif

protected theorem Keeps.foldActuator {a : Nat} (h : Keeps s₀ s) : Keeps s₀ (foldActuator a s) := by
  unfold foldActuator
  exact h.each fun _ _ h => h.ctrSat

protected theorem Keeps.hdaOpsEnd {hda : Nat} (h : Keeps s₀ s) : Keeps s₀ (hdaOpsEnd hda s) := h.each fun _ _ h₁ => h₁.each fun _ _ h => h.cancelSlot

protected theorem Keeps.jobAnswer {j : HJob} (h : Keeps s₀ s) : Keeps s₀ (jobAnswer j s) := .ite h (.ite h.hostReply h.hostReply)

/-- A stage of a job for each of its HDAs. -/
protected theorem Keeps.foldlJob {l : List Nat} {f : JobStep → Nat → JobStep} {x : JobStep} (h : Keeps s₀ x.2)
    (hf : ∀ y k, Keeps s₀ y.2 → Keeps s₀ (f y k).2) : Keeps s₀ (l.foldl f x).2 := by
  induction l generalizing x with
  | nil => exact h
  | cons k r ih => exact ih (hf x k h)

protected theorem Keeps.downHda {hda : Nat} {x : JobStep} (h : Keeps s₀ x.2) : Keeps s₀ (downHda hda x).2 := by
  unfold downHda
  dsimp only
  split
  · exact .iteSnd h.hdaOpsEnd.pair (h.each fun _ _ h => h.wbPost).pair
  · exact .iteSnd (h.each fun _ _ h => .ite h.actUnload h) (.iteSnd h (h.each fun _ _ h => .ite h h.wbPost))
  · exact .iteSnd (h.each fun _ _ h => .ite h.actUnload h) h.spnBrake
  · exact .iteSnd h ((h.each fun _ _ h => h.foldActuator.domReq).use fun h => .iteSnd h h)
  · exact h

protected theorem Keeps.upHda {hda : Nat} {x : JobStep} (h : Keeps s₀ x.2) : Keeps s₀ (upHda hda x).2 := by
  unfold upHda
  dsimp only
  split
  · split
    · exact .ite h h.domReq
    · exact .ite h h.spnStart
  · exact .iteSnd h (.iteSnd h h)
  · exact .iteSnd h ((h.each fun _ _ h => .ite h.actLoad h).use fun h => .iteSnd h h)
  · exact .iteSnd h (.iteSnd h h)
  · exact h

protected theorem Keeps.waysStep {x : JobStep} (h : Keeps s₀ x.2) : Keeps s₀ (waysStep x).2 := by
  unfold waysStep
  dsimp only
  split
  · exact h
  · exact .iteSnd (h.each fun _ _ h => .ite h h.wayWrite) (.iteSnd h h)

protected theorem Keeps.bootStep {x : JobStep} (h : Keeps s₀ x.2) : Keeps s₀ (bootStep x).2 := by
  unfold bootStep
  refine .iteSnd (h.foldlJob fun _ _ h => h.upHda) ?_
  split
  · exact .ite h h.domReq
  · exact h.each fun _ _ h => .ite h h.spnStart

protected theorem Keeps.jobRun {j : HJob} (h : Keeps s₀ s) : Keeps s₀ (jobRun j s) := by
  unfold jobRun
  extract_lets x
  have hx : Keeps s₀ x.2 := .iteSnd (h.foldlJob fun _ _ h => h.downHda) (.iteSnd (h.foldlJob fun _ _ h => h.upHda)
    (.iteSnd (Keeps.waysStep h) (Keeps.bootStep h)))
  exact .ite hx.jobPut.jobAnswer hx.jobPut

protected theorem Keeps.jobsRun (h : Keeps s₀ s) : Keeps s₀ (jobsRun s) := h.each fun _ _ h => h.jobRun

protected theorem Keeps.jobStart {j : HJob} (h : Keeps s₀ s) : Keeps s₀ (jobStart j s) := h.modHif.jobRun

protected theorem Keeps.execSpinDown {ch : Chan} {seq : Seq} {payload : List W32} (h : Keeps s₀ s) : Answers s₀ (execSpinDown ch seq payload s) :=
  .ok (h.mgmtMsg fun _ h => h.upKeep.jobStart)

protected theorem Keeps.execSpinUp {ch : Chan} {seq : Seq} {payload : List W32} (h : Keeps s₀ s) : Answers s₀ (execSpinUp ch seq payload s) :=
  .ok (h.mgmtMsg fun _ h => h.upKeep.jobStart)

protected theorem Keeps.execWays {ch : Chan} {seq : Seq} {payload : List W32} (h : Keeps s₀ s) : Answers s₀ (execWays ch seq payload s) :=
  .ok (h.mgmtMsg fun _ h => h.jobStart)

protected theorem Keeps.execUnloadComplete {a : Act} (h : Keeps s₀ s) : Answers s₀ (execUnloadComplete a s) := .ok (h.onlyIf fun _ h => h.setActState)

protected theorem Keeps.execAtSpeedReached {hda : Hda} {speed : BitVec 20} (h : Keeps s₀ s) : Answers s₀ (execAtSpeedReached hda speed s) := by
  unfold execAtSpeedReached
  exact .ok (h.onlyIf fun _ h => h.spnAtSpeed)

protected theorem Keeps.spnBelow {hda : Nat} (h : Keeps s₀ s) : Keeps s₀ (spnBelow hda s) := .ite h.spnGo.modSpin h.spnGo

protected theorem Keeps.execBelow30Rpm {hda : Hda} (h : Keeps s₀ s) : Answers s₀ (execBelow30Rpm hda s) := .ok (h.onlyIf fun _ h => h.spnBelow)

/-! ### PCI Express -/

protected theorem Keeps.cfgPut {d : Nat} {v : W32} (h : Keeps s₀ s) : Keeps s₀ (cfgPut d v s) := h.modHif

protected theorem Keeps.aerLoad {err : Nat} {hdr : List W32} (h : Keeps s₀ s) : Keeps s₀ (aerLoad err hdr s) := h.cfgPut.each fun _ _ h => h.cfgPut

protected theorem Keeps.aerNext (h : Keeps s₀ s) : Keeps s₀ (aerNext s) := by
  unfold aerNext
  split
  · exact h
  · exact .ite h h.modHif.cfgPut.aerLoad

protected theorem Keeps.cfgWrite {d : Nat} {v : W32} (h : Keeps s₀ s) : Keeps s₀ (cfgWrite d v s) := by
  unfold cfgWrite
  exact h.cfgPut.aerNext

protected theorem Keeps.aerReport {cor : Bool} {err : Nat} {hdr : List W32} (h : Keeps s₀ s) : Keeps s₀ (aerReport cor err hdr s) := by
  unfold aerReport
  exact .ite h (.ite h.cfgPut ((Keeps.ite h.modHif h.aerLoad).cfgPut.modHif.emit))

/-! ### Queues, tasks and the data mover -/

protected theorem Keeps.setSq {i : Nat} {x : Option SqSt} (h : Keeps s₀ s) : Keeps s₀ (setSq i x s) := h.modHif

protected theorem Keeps.setCq {i : Nat} {x : Option CqSt} (h : Keeps s₀ s) : Keeps s₀ (setCq i x s) := h.modHif

protected theorem Keeps.doorbellBad {info : Nat} (h : Keeps s₀ s) : Keeps s₀ (doorbellBad info s) := h.hifStat.emit.asyncPost

protected theorem Keeps.execSqTailDoorbell {q : BitVec 16} {v : W32} (h : Keeps s₀ s) : Answers s₀ (execSqTailDoorbell q v s) := by
  unfold execSqTailDoorbell
  refine .ok ?_
  refine .ite ?_ ?_
  · exact h
  · split
    · exact h.doorbellBad
    · exact .ite h.setSq h.doorbellBad

protected theorem Keeps.execCqHeadDoorbell {q : BitVec 16} {v : W32} (h : Keeps s₀ s) : Answers s₀ (execCqHeadDoorbell q v s) := by
  unfold execCqHeadDoorbell
  refine .ok ?_
  refine .ite ?_ ?_
  · exact h
  · split
    · exact h.doorbellBad
    · exact .ite h.setCq h.doorbellBad

protected theorem Keeps.arbTake {q : Nat} {x : SqSt} (h : Keeps s₀ s) : Keeps s₀ (arbTake q x s) := by
  unfold arbTake
  exact .ite h h.modHif

protected theorem Keeps.zonePut {ns z : Nat} {x : Nat × Nat} (h : Keeps s₀ s) : Keeps s₀ (zonePut ns z x s) := by
  unfold zonePut
  split
  · exact h
  · exact h.modNs.use fun h => .ite h h.parPut

protected theorem Keeps.zoneTake {x : HTask} (h : Keeps s₀ s) : Keeps s₀ (zoneTake x s).2 := by
  unfold zoneTake
  split
  · exact h
  · refine .iteSnd h ?_
    split
    · exact h
    · exact h.zonePut

protected theorem Keeps.taskEnter {q : Nat} {x : SqSt} {t : Nat} {sqe : List W32} (h : Keeps s₀ s) : Keeps s₀ (taskEnter q x t sqe s) := by
  unfold taskEnter
  exact h.modHif.use fun h₁ => .ite h₁.setTask.hifShow (h₁.zoneTake.use fun h => (Keeps.ite h h.hifStat).setTask.hifShow)

protected theorem Keeps.fetchCount {q : Nat} {x : SqSt} (h : Keeps s₀ s) : Keeps s₀ (fetchCount q x s) := by
  unfold fetchCount
  exact h.arbTake.setSq.hifStat.use fun h₂ => (Keeps.ite h₂.hifStat h₂).use fun h => .ite h.setf h

protected theorem Keeps.execEntryFetch {q : Byte} {t : Tag} {sqe : List W32} (h : Keeps s₀ s) : Answers s₀ (execEntryFetch q t sqe s) := by
  unfold execEntryFetch
  refine .ok ?_
  split
  · exact h
  · exact h.fetchCount.taskEnter

protected theorem Keeps.execRangeLockGrant {t : Tag} (h : Keeps s₀ s) : Answers s₀ (execRangeLockGrant t s) := by
  unfold execRangeLockGrant
  refine .ok ?_
  split
  · exact h
  · exact .ite h.modTask.hifShow h

protected theorem Keeps.taskTake (h : Keeps s₀ s) : Keeps s₀ (taskTake s) := by
  unfold taskTake
  split
  · exact h.wr.rdata
  · exact (h.modTask.hifShow.wr.each fun _ _ h => h.wr).wr.rdata

protected theorem Keeps.execTaskRead {m : Master} (h : Keeps s₀ s) : Answers s₀ (execTaskRead m s) := .ok (.ite h.taskTake h.rdata)

protected theorem Keeps.xferGo {c : Nat} {v : W32} (h : Keeps s₀ s) : Keeps s₀ (xferGo c v s) := by
  unfold xferGo
  exact h.wr.use fun h => .ite h.deny h.modHif

protected theorem Keeps.execXferRequest {c : CoreId} {v : W32} (h : Keeps s₀ s) : Answers s₀ (execXferRequest c v s) := .ok h.xferGo

protected theorem Keeps.xferDone {i : Nat} {x : HXfer} {status skipped first : Nat} (h : Keeps s₀ s) : Keeps s₀ (xferDone i x status skipped first s) :=
  h.modHif

protected theorem Keeps.xferMoved {x : HXfer} (h : Keeps s₀ s) : Keeps s₀ (xferMoved x s) := h.modTask

protected theorem Keeps.xferToHost {i : Nat} {x : HXfer} {y : HTask} {prps : List (BitVec 64)} (h : Keeps s₀ s) :
    Keeps s₀ (xferToHost i x y prps s) := by
  unfold xferToHost
  refine .ite h ?_
  dsimp only
  split
  · exact h.hifStat.xferMoved.modHif.xferDone
  · exact h.hifStat.xferMoved.modHif.modTask.hifStat.emit.xferDone

protected theorem Keeps.xferFromHost {i : Nat} {x : HXfer} {data : List Byte} (h : Keeps s₀ s) : Keeps s₀ (xferFromHost i x data s) := by
  unfold xferFromHost
  exact h.xferMoved.hifStat.wrGood.xferDone

protected theorem Keeps.execXferEnd {i : Byte} {hostErr : Bool} {data : List Byte} {prps : List (BitVec 64)} (h : Keeps s₀ s) :
    Answers s₀ (execXferEnd i hostErr data prps s) := by
  unfold execXferEnd
  extract_lets _
  refine .ok ?_
  split
  · exact h
  · refine .ite ?_ ?_
    · exact h.xferDone
    · refine .ite ?_ ?_
      · exact h.xferFromHost
      · split
        · exact h.xferDone
        · exact h.xferToHost

protected theorem Keeps.xferTake (h : Keeps s₀ s) : Keeps s₀ (xferTake s) := by
  unfold xferTake
  split
  · exact h.wr.rdata
  · exact h.modHif.wr.wr.rdata

protected theorem Keeps.execXferResultRead {m : Master} (h : Keeps s₀ s) : Answers s₀ (execXferResultRead m s) := .ok (.ite h.xferTake h.rdata)

protected theorem Keeps.cplGo {c : Nat} {v : W32} (h : Keeps s₀ s) : Keeps s₀ (cplGo c v s) := by
  unfold cplGo
  exact h.wr.use fun h => .ite h.postCpl h.deny

protected theorem Keeps.execCompletionPost {c : CoreId} {v : W32} (h : Keeps s₀ s) : Answers s₀ (execCompletionPost c v s) := .ok h.cplGo

protected theorem Keeps.cqSignal {i : Nat} {q : CqSt} (h : Keeps s₀ s) : Keeps s₀ (cqSignal i q s) := .ite h.setCq (.ite h.setCq h.setCq.msixSignal)

protected theorem Keeps.urgentTime {us : Nat} (h : Keeps s₀ s) : Keeps s₀ (urgentTime us s) := by
  unfold urgentTime
  exact h.histAdd.extAdd.wr.use fun h => .ite h.hifStat.emit h

protected theorem Keeps.lostLess {ns lba nlb : Nat} (h : Keeps s₀ s) : Keeps s₀ (lostLess ns lba nlb s) := h.modHif

protected theorem Keeps.smartCount {x : HTask} {st : Nat} (h : Keeps s₀ s) : Keeps s₀ (smartCount x st s) := h.modHif

protected theorem Keeps.cplCount {x : HTask} {status : Nat} (h : Keeps s₀ s) : Keeps s₀ (cplCount x status s) := by
  unfold cplCount
  exact h.hifStat.use fun h₁ => (Keeps.ite h₁ h₁.hifStat).use fun h₂ => (Keeps.ite h₂.urgentTime h₂).smartCount.use fun h => .ite h.lostLess h

protected theorem Keeps.cplWrite {t : Nat} {c : HCpl} {q : CqSt} (h : Keeps s₀ s) : Keeps s₀ (cplWrite t c q s) := by
  unfold cplWrite
  extract_lets s₁ _ s₃
  have h₂ : Keeps s₀ s₁ := by
    subst s₁
    split
    · exact h.cplCount
    · exact h
  have h₄ : Keeps s₀ s₃ := h₂.modHif
  exact h₄.setTask.hifShow.cqSignal

protected theorem Keeps.execCompletionWrite {t : Tag} (h : Keeps s₀ s) : Answers s₀ (execCompletionWrite t s) := by
  unfold execCompletionWrite
  refine .ok ?_
  split
  · exact h
  · exact h.cplWrite

protected theorem Keeps.execInterruptCoalescingTimeout {q : Byte} (h : Keeps s₀ s) : Answers s₀ (execInterruptCoalescingTimeout q s) := by
  unfold execInterruptCoalescingTimeout
  refine .ok ?_
  split
  · exact h
  · exact .ite h h.setCq.msixSignal

protected theorem Keeps.urgTake (h : Keeps s₀ s) : Keeps s₀ (urgTake s) := by
  unfold urgTake
  exact (h.same : Keeps s₀ _).wr

protected theorem Keeps.execUrgRead {m : Master} (h : Keeps s₀ s) : Answers s₀ (execUrgRead m s) := .ok (.ite h.urgTake h.rdata)

protected theorem Keeps.execLinkL0Entry {rate : BitVec 4} {width : BitVec 5} {flit : Bool} (h : Keeps s₀ s) :
    Answers s₀ (execLinkL0Entry rate width flit s) := by
  unfold execLinkL0Entry
  exact .ok (h.onlyIf fun _ h₁ => h₁.setf.setf.setf.flag.use fun h => .ite h h.emit)

protected theorem Keeps.sqReadFailed {q t : Nat} (h : Keeps s₀ s) : Keeps s₀ (sqReadFailed q t s) := by
  unfold sqReadFailed
  split
  · exact h
  · exact h.fetchCount.fresh.taskEnter.fresh.complete.asyncPost

protected theorem Keeps.execAerError {kind : Slot} {q : Byte} {t : Tag} {cor : Bool} {err : BitVec 5} {hdr : List W32} (h : Keeps s₀ s) :
    Answers s₀ (execAerError kind q t cor err hdr s) := by
  unfold execAerError
  extract_lets s₂
  have h₃ : Keeps s₀ s₂ := h.aerReport
  refine .ok ?_
  refine .ite ?_ ?_
  · exact h₃
  · split
    · exact h₃.onlyIf fun _ h => h.complete
    · exact h₃.onlyIf fun _ h => h.complete
    · exact h₃.sqReadFailed
    · exact h₃

protected theorem Keeps.execPoisonedTlpWrite {bar : Slot} (h : Keeps s₀ s) : Answers s₀ (execPoisonedTlpWrite bar s) := by
  unfold execPoisonedTlpWrite
  exact .ok h.fresh.aerReport

protected theorem Keeps.actReleased (h : Keeps s₀ s) : Keeps s₀ (actReleased s) := by
  unfold actReleased
  split
  · exact h.modHif.setf.complete.emit.rdyShow
  · exact h.modHif.setf.complete.rdyShow
  · exact h

protected theorem Keeps.holdWrite {on : Bool} (h : Keeps s₀ s) : Keeps s₀ (holdWrite on s) := by
  unfold holdWrite
  exact h.setf.use fun h => .ite (.ite h.setf h) h.actReleased

protected theorem Keeps.execHold {m : Master} {on : Bool} (h : Keeps s₀ s) : Answers s₀ (execHold m on s) := .ok (.ite h.holdWrite h.deny)

protected theorem Keeps.ccEnable {v : W32} (h : Keeps s₀ s) : Keeps s₀ (ccEnable v s) := by
  unfold ccEnable
  exact h.modHif.use fun h => .ite h h.setSq.setCq.modHif.rdyShow

protected theorem Keeps.execCcEnable {v : W32} (h : Keeps s₀ s) : Answers s₀ (execCcEnable v s) := .ok (h.onlyIf fun _ h => h.ccEnable)

protected theorem Keeps.cancelOps {l : List (Nat × Nat)} (h : Keeps s₀ s) : Keeps s₀ (cancelOps l s) := h.each fun _ _ h => h.cancelSlot

protected theorem Keeps.nvmeReset (h : Keeps s₀ s) : Keeps s₀ (nvmeReset s) := by
  unfold nvmeReset
  exact h.hostReset.resetKeys.cancelOps.modHif

protected theorem Keeps.resetShow (h : Keeps s₀ s) : Keeps s₀ (resetShow s) := .ite h h.modHif

protected theorem Keeps.controllerReset (h : Keeps s₀ s) : Keeps s₀ (controllerReset s) := .ite h.nvmeReset.modHif h

protected theorem Keeps.execControllerReset (h : Keeps s₀ s) : Answers s₀ (execControllerReset s) := .ok (h.onlyIf fun _ h => h.controllerReset)

protected theorem Keeps.flr (h : Keeps s₀ s) : Keeps s₀ (flr s) := h.nvmeReset.modHif

protected theorem Keeps.execFunctionLevelReset (h : Keeps s₀ s) : Answers s₀ (execFunctionLevelReset s) := .ok (h.onlyIf fun _ h => h.flr)

protected theorem Keeps.execPerst (h : Keeps s₀ s) : Answers s₀ (execPerst s) :=
  .ok (h.onlyIf fun _ h => h.nvmeReset.resetKeys.modHif.replies.kResetEnds.flag.modPlat)

protected theorem Keeps.execPerstRelease (h : Keeps s₀ s) : Answers s₀ (execPerstRelease s) := .ok h.modPlat

protected theorem Keeps.hostShutdown (h : Keeps s₀ s) : Keeps s₀ (hostShutdown s) := by
  unfold hostShutdown
  exact (h.each fun _ _ h => h.parPut).modHif

protected theorem Keeps.lostKeep (h : Keeps s₀ s) : Keeps s₀ (lostKeep s) := .ite h ((h.each fun _ _ h => .ite h h.parPut).modHif)

protected theorem Keeps.execNormalShutdown (h : Keeps s₀ s) : Answers s₀ (execNormalShutdown s) := .ok (h.onlyIf fun _ h => h.hostShutdown)

protected theorem Keeps.cfgAccess {d : Nat} {w : Bool} {v : W32} (h : Keeps s₀ s) : Keeps s₀ (cfgAccess d w v s) := .ite h.rdata (.ite h.flr h.cfgWrite)

protected theorem Keeps.execConfigurationRequest {d : BitVec 10} {w : Bool} {v : W32} (h : Keeps s₀ s) :
    Answers s₀ (execConfigurationRequest d w v s) := by
  unfold execConfigurationRequest
  exact .ok (h.modHif.use fun h => .ite h h.cfgAccess)

/-! ### Accesses and snapshots -/

protected theorem Keeps.snapPut {off k : Nat} {v : W32} (h : Keeps s₀ s) : Keeps s₀ (snapPut off k v s) := h.snap

protected theorem Keeps.snapTake {off k n : Nat} (h : Keeps s₀ s) : Keeps s₀ (snapTake off k n s) := h.each fun _ _ h => h.snapPut

protected theorem Keeps.minFreeAgain {k : Nat} (h : Keeps s₀ s) : Keeps s₀ (minFreeAgain k s) := .ite h.setf h

protected theorem Keeps.snapCapture {off k : Nat} (h : Keeps s₀ s) : Keeps s₀ (snapCapture off k s) := by
  unfold snapCapture
  split
  · exact h
  · exact h.snapTake.minFreeAgain.rdata

protected theorem Keeps.regRead {m off k : Nat} (h : Keeps s₀ s) : Keeps s₀ (regRead m off k s) :=
  .ite h.urgTake (.ite h.rdata (.ite h.snapCapture (.ite h.rdata h.rdata)))

protected theorem Keeps.execSnapshotCaptureRead {m : Master} {addr : Addr} {mirror : Bool} (h : Keeps s₀ s) :
    Answers s₀ (execSnapshotCaptureRead m addr mirror s) := by
  unfold execSnapshotCaptureRead
  exact .ok (.ite (.ite h.regRead h) (.ite h.rdata (.ite h (.ite h.badAccess.rdata (.ite h h.regRead)))))

/-! ### SPDM -/

protected theorem Keeps.spdmArrive {b : List Byte} (h : Keeps s₀ s) : Keeps s₀ (spdmArrive b s) := by
  unfold spdmArrive
  exact h.modSec.use fun h => .ite h h.spdmUnknown

protected theorem Keeps.spdmTake (h : Keeps s₀ s) : Keeps s₀ (spdmTake s).2 := by
  unfold spdmTake
  split
  · exact h.modSec.pair
  · exact h

protected theorem Keeps.spdmServe {code need : Nat} {f : List Byte → State → State} (h : Keeps s₀ s) (hf : ∀ x0 t, Keeps s₀ t → Keeps s₀ (f x0 t)) :
    Keeps s₀ (spdmServe code need f s) := by
  unfold spdmServe
  split
  · exact h
  · exact .ite h (.ite h.spdmReply (.ite h.spdmReply (hf _ _ (.ite h h.modSec))))

protected theorem Keeps.execSpdmGetVersion (h : Keeps s₀ s) : Answers s₀ (execSpdmGetVersion s) := by
  unfold execSpdmGetVersion
  refine .ok ?_
  split
  · exact h
  · exact .ite h h.modSec.spdmReply

protected theorem Keeps.execSpdmGetCapabilities (h : Keeps s₀ s) : Answers s₀ (execSpdmGetCapabilities s) :=
  .ok (h.spdmServe fun _ _ h => h.modSec.spdmReply)

protected theorem Keeps.execSpdmNegotiateAlgorithms (h : Keeps s₀ s) : Answers s₀ (execSpdmNegotiateAlgorithms s) :=
  .ok (h.spdmServe fun _ _ h => .ite h.modSec.spdmReply h.spdmReply)

protected theorem Keeps.execSpdmGetDigests (h : Keeps s₀ s) : Answers s₀ (execSpdmGetDigests s) := .ok (h.spdmServe fun _ _ h => h.modSec.spdmReply)

protected theorem Keeps.execSpdmGetCertificate (h : Keeps s₀ s) : Answers s₀ (execSpdmGetCertificate s) :=
  .ok (h.spdmServe fun _ _ h => .ite h.spdmReply h.modSec.spdmReply)

protected theorem Keeps.execSpdmChallenge (h : Keeps s₀ s) : Answers s₀ (execSpdmChallenge s) :=
  .ok (h.spdmServe fun _ _ h => .ite h.spdmReply h.drawBytes.modSec.spdmReply)

protected theorem Keeps.execSpdmGetMeasurements (h : Keeps s₀ s) : Answers s₀ (execSpdmGetMeasurements s) :=
  .ok (h.spdmServe fun _ _ h₁ => .ite h₁.spdmReply (h₁.drawBytes.use fun h => .ite h.modSec.spdmReply h.modSec.spdmReply))

/-! ### Admin commands -/

protected theorem Keeps.done {t : Nat} (h : Keeps s₀ s) : Keeps s₀ (done t s) := h.complete

protected theorem Keeps.badField {t : Nat} (h : Keeps s₀ s) : Keeps s₀ (badField t s) := h.complete

protected theorem Keeps.adminCmd {t : Tag} {op : Nat} {f : Nat → HTask → State → State}
    (h : Keeps s₀ s) (hf : ∀ x0 x1 t, Keeps s₀ t → Keeps s₀ (f x0 x1 t)) :
    Keeps s₀ (adminCmd t op f s) := by
  unfold adminCmd
  split
  · exact h
  · exact .ite h (.ite h.complete (.ite h.badField (hf _ _ _ h)))

protected theorem Keeps.giveData {l : List (Nat × Byte)} (h : Keeps s₀ s) : Keeps s₀ (giveData l s) := h.modHif

protected theorem Keeps.createSq {t : Nat} {x : HTask} (h : Keeps s₀ s) : Keeps s₀ (createSq t x s) := by
  unfold createSq
  exact .ite h.complete (.ite h.complete (.ite h.complete (.ite h.badField h.setSq.done)))

protected theorem Keeps.execCreateIoSubmissionQueue {t : Tag} (h : Keeps s₀ s) : Answers s₀ (execCreateIoSubmissionQueue t s) :=
  .ok (h.adminCmd fun _ _ _ h => h.createSq)

protected theorem Keeps.createCq {t : Nat} {x : HTask} (h : Keeps s₀ s) : Keeps s₀ (createCq t x s) := by
  unfold createCq
  exact .ite h.complete (.ite h.complete (.ite h.complete (.ite h.badField h.setCq.done)))

protected theorem Keeps.execCreateIoCompletionQueue {t : Tag} (h : Keeps s₀ s) : Answers s₀ (execCreateIoCompletionQueue t s) :=
  .ok (h.adminCmd fun _ _ _ h => h.createCq)

protected theorem Keeps.sqRemove {q : Nat} (h : Keeps s₀ s) : Keeps s₀ (sqRemove q s) := by
  unfold sqRemove
  exact .ite h ((h.cancelOps.each fun _ _ h => h.complete).emit)

protected theorem Keeps.deleteSq {t : Nat} {x : HTask} (h : Keeps s₀ s) : Keeps s₀ (deleteSq t x s) := by
  unfold deleteSq
  extract_lets _
  split
  · exact h.complete
  · exact .ite h.complete (h.setSq.sqRemove.use fun h => .ite h h.setSq.done)

protected theorem Keeps.execDeleteIoSubmissionQueue {t : Tag} (h : Keeps s₀ s) : Answers s₀ (execDeleteIoSubmissionQueue t s) :=
  .ok (h.adminCmd fun _ _ _ h => h.deleteSq)

protected theorem Keeps.deleteCq {t : Nat} {x : HTask} (h : Keeps s₀ s) : Keeps s₀ (deleteCq t x s) := by
  unfold deleteCq
  exact .ite h.complete (.ite h.complete h.setCq.done)

protected theorem Keeps.execDeleteIoCompletionQueue {t : Tag} (h : Keeps s₀ s) : Answers s₀ (execDeleteIoCompletionQueue t s) :=
  .ok (h.adminCmd fun _ _ _ h => h.deleteCq)

protected theorem Keeps.logPage {id off n : Nat} {r : List (Nat × Byte) × State} (h : Keeps s₀ s) (hr : logPage id off n s = some r) :
    Keeps s₀ r.2 := by
  unfold logPage at hr
  dsimp only at hr
  split at hr
  case h_4 =>
    cases hr
    dsimp only
    exact h.modHif
  case h_11 => cases hr
  all_goals
    cases hr
    exact h

protected theorem Keeps.getLog {t : Nat} {x : HTask} (h : Keeps s₀ s) : Keeps s₀ (getLog t x s) := by
  unfold getLog
  dsimp only
  split
  · exact h.badField
  · next hr => exact (h.logPage hr).giveData.done

protected theorem Keeps.execGetLogPage {t : Tag} (h : Keeps s₀ s) : Answers s₀ (execGetLogPage t s) := .ok (h.adminCmd fun _ _ _ h => h.getLog)

protected theorem Keeps.identifyRun {t : Nat} {x : HTask} (h : Keeps s₀ s) : Keeps s₀ (identifyRun t x s) := by
  unfold identifyRun
  extract_lets _
  split
  · exact h.giveData.done
  · exact .ite h.complete h.badField

protected theorem Keeps.execIdentify {t : Tag} (h : Keeps s₀ s) : Answers s₀ (execIdentify t s) := .ok (h.adminCmd fun _ _ _ h => h.identifyRun)

protected theorem Keeps.execAbort {t : Tag} (h : Keeps s₀ s) : Answers s₀ (execAbort t s) := .ok (h.adminCmd fun _ _ _ h => h.completeDw)

protected theorem Keeps.setFeature {t : Nat} {x : HTask} (h : Keeps s₀ s) : Keeps s₀ (setFeature t x s) := by
  unfold setFeature
  exact .ite h (.ite h.badField (.ite h.completeDw (.ite h.badField h.modHif.done)))

protected theorem Keeps.execSetFeatures {t : Tag} (h : Keeps s₀ s) : Answers s₀ (execSetFeatures t s) := .ok (h.adminCmd fun _ _ _ h => h.setFeature)

protected theorem Keeps.getFeature {t : Nat} {x : HTask} (h : Keeps s₀ s) : Keeps s₀ (getFeature t x s) := by
  unfold getFeature
  exact .ite h (.ite h.badField h.completeDw)

protected theorem Keeps.execGetFeatures {t : Tag} (h : Keeps s₀ s) : Answers s₀ (execGetFeatures t s) := .ok (h.adminCmd fun _ _ _ h => h.getFeature)

protected theorem Keeps.setVwc {t : Nat} {x : HTask} (h : Keeps s₀ s) : Keeps s₀ (setVwc t x s) :=
  .ite h (.ite ((Keeps.ite h h.wrEnWrite).done) ((Keeps.ite h.wrEnWrite h).use fun h => .ite h.done (.ite h.complete h)))

protected theorem Keeps.execSetFeaturesVolatileWriteCache {t : Tag} (h : Keeps s₀ s) : Answers s₀ (execSetFeaturesVolatileWriteCache t s) :=
  .ok (h.adminCmd fun _ _ _ h => h.setVwc)

protected theorem Keeps.setTime {ms t : Nat} {x : HTask} (h : Keeps s₀ s) : Keeps s₀ (setTime ms t x s) := .ite h h.sdl.epochApply.done

protected theorem Keeps.execSetFeaturesTimestamp {t : Tag} {ms : BitVec 64} (h : Keeps s₀ s) : Answers s₀ (execSetFeaturesTimestamp t ms s) :=
  .ok (h.adminCmd fun _ _ _ h => h.setTime)

protected theorem Keeps.getTime {t : Nat} {x : HTask} (h : Keeps s₀ s) : Keeps s₀ (getTime t x s) := .ite h h.giveData.done

protected theorem Keeps.execGetFeaturesTimestamp {t : Tag} (h : Keeps s₀ s) : Answers s₀ (execGetFeaturesTimestamp t s) :=
  .ok (h.adminCmd fun _ _ _ h => h.getTime)

protected theorem Keeps.aerRun {t : Nat} {x : HTask} (h : Keeps s₀ s) : Keeps s₀ (aerRun t x s) := .ite h (.ite h.complete h.modHif.asyncFlush)

protected theorem Keeps.execAsynchronousEventRequest {t : Tag} (h : Keeps s₀ s) : Answers s₀ (execAsynchronousEventRequest t s) :=
  .ok (h.adminCmd fun _ _ _ h => h.aerRun)

protected theorem Keeps.nsCreate {d : List Byte} {t : Nat} {x : HTask} (h : Keeps s₀ s) : Keeps s₀ (nsCreate d t x s) := by
  unfold nsCreate
  extract_lets _ _
  refine .ite ?_ ?_
  · exact h
  · refine .ite ?_ ?_
    · exact h.badField
    · refine .ite ?_ ?_
      · exact h.complete
      · extract_lets
        refine .ite ?_ ?_
        · exact h.complete
        · refine .ite ?_ ?_
          · exact h.complete
          · split
            · exact h.complete
            · exact h.modHif.completeDw

protected theorem Keeps.execNamespaceCreate {t : Tag} {data : List Byte} (h : Keeps s₀ s) : Answers s₀ (execNamespaceCreate t data s) :=
  .ok (h.adminCmd fun _ _ _ h => h.nsCreate)

protected theorem Keeps.nsDiscard {p : Nat → Bool} (h : Keeps s₀ s) : Keeps s₀ (nsDiscard p s) := (h.each fun _ _ h => h.maintVisit).bufShow

protected theorem Keeps.nsDrop {id : Nat} (h : Keeps s₀ s) : Keeps s₀ (nsDrop id s) := h.nsDiscard.modHif

protected theorem Keeps.nsDelete {t : Nat} {x : HTask} (h : Keeps s₀ s) : Keeps s₀ (nsDelete t x s) :=
  .ite h (.ite ((h.each fun _ _ h => h.nsDrop).done) (.ite h.complete h.nsDrop.done))

protected theorem Keeps.execNamespaceDelete {t : Tag} (h : Keeps s₀ s) : Answers s₀ (execNamespaceDelete t s) :=
  .ok (h.adminCmd fun _ _ _ h => h.nsDelete)

protected theorem Keeps.nsAttach {d : List Byte} {t : Nat} {x : HTask} (h : Keeps s₀ s) : Keeps s₀ (nsAttach d t x s) := by
  unfold nsAttach
  extract_lets _
  split
  · exact h.complete
  · exact .ite h.badField (.ite h.complete (.ite h.complete h.modNs.done))

protected theorem Keeps.execNamespaceAttachment {t : Tag} {data : List Byte} (h : Keeps s₀ s) : Answers s₀ (execNamespaceAttachment t data s) :=
  .ok (h.adminCmd fun _ _ _ h => h.nsAttach)

protected theorem Keeps.fwDownload {d : List Byte} {t : Nat} {x : HTask} (h : Keeps s₀ s) : Keeps s₀ (fwDownload d t x s) := by
  unfold fwDownload
  exact .ite h.badField (.ite h.complete h.wrMem.modHif.done)

protected theorem Keeps.execFirmwareImageDownload {t : Tag} {data : List Byte} (h : Keeps s₀ s) : Answers s₀ (execFirmwareImageDownload t data s) :=
  .ok (h.adminCmd fun _ _ _ h => h.fwDownload)

protected theorem Keeps.commitAnswer (h : Keeps s₀ s) : Keeps s₀ (commitAnswer s) := by
  unfold commitAnswer
  split
  · exact h
  · exact .ite h h.modHif.complete

/-- A Firmware Slot field up to 2 names one of the two slots. -/
theorem fwSlot_lt {fs : Nat} (h : fs ≤ 2) (s : State) : fwSlot fs s < 2 := by
  unfold fwSlot
  split
  · split <;> decide
  · omega

protected theorem Keeps.fwCommit {t : Nat} {x : HTask} (h : Keeps s₀ s) : Keeps s₀ (fwCommit t x s) := by
  unfold fwCommit
  refine .ite h (.ite h.badField (.ite h.complete ?_))
  split
  · exact h.complete
  · next hfs =>
    have hk : fwSlot (x.dw 10 % 8) s < 2 := fwSlot_lt (by omega) s
    exact (Keeps.ite h.fwVerify h).use fun h => .ite h.complete
      ((h.wr.setf.use fun h => (Keeps.ite h.setf h).modHif.commitStart hk).commitAnswer)

protected theorem Keeps.execFirmwareCommit {t : Tag} (h : Keeps s₀ s) : Answers s₀ (execFirmwareCommit t s) :=
  .ok (h.adminCmd fun _ _ _ h => h.fwCommit)

protected theorem Keeps.execNvEraseEnd {par fail : Bool} (h : Keeps s₀ s) : Answers s₀ (execNvEraseEnd par fail s) := .ok h.nvEraseEnd.commitAnswer

protected theorem Keeps.execCommitEnd {res : BitVec 2} {repeats : BitVec 4} (h : Keeps s₀ s) : Answers s₀ (execCommitEnd res repeats s) :=
  .ok h.commitEnd.commitAnswer

protected theorem Keeps.drainWb (h : Keeps s₀ s) : Keeps s₀ (drainWb s) := h.each fun _ _ h => h.cancelSlot.wbDone

protected theorem Keeps.activate {t k : Nat} (h : Keeps s₀ s) (hk : k < 2) : Keeps s₀ (activate t k s) := by
  unfold activate
  exact (h.extend.commitStart hk).holdWrite.setf.use fun h => (Keeps.ite h.asyncPost h).modHif.emit.drainWb

protected theorem Keeps.fwActivate {t : Nat} {x : HTask} (h : Keeps s₀ s) : Keeps s₀ (fwActivate t x s) := by
  unfold fwActivate
  refine .ite h (.ite h (.ite h.complete ?_))
  split
  · exact h.complete
  · next hfs =>
    have hk : fwSlot (x.dw 10 % 8) s < 2 := fwSlot_lt (by omega) s
    exact h.fwVerify.use fun h => .ite h.complete (.ite (h.commitStart hk).complete (h.activate hk))

protected theorem Keeps.execFirmwareActivate {t : Tag} (h : Keeps s₀ s) : Answers s₀ (execFirmwareActivate t s) :=
  .ok (h.adminCmd fun _ _ _ h => h.fwActivate)

protected theorem Keeps.execActivationDrainEnd (h : Keeps s₀ s) : Answers s₀ (execActivationDrainEnd s) := by
  unfold execActivationDrainEnd
  refine .ok ?_
  split
  · exact .ite (((Keeps.ite h.commitEnd h).coresReset.each fun _ _ h => .ite h.flag h).modHif) h
  · exact h

protected theorem Keeps.execActivationTimeout (h : Keeps s₀ s) : Answers s₀ (execActivationTimeout s) := by
  unfold execActivationTimeout
  refine .ok ?_
  split
  · exact h.modHif.setf.setf.emit.complete.rdyShow
  · exact h

protected theorem Keeps.execActivationHoldTimeout (h : Keeps s₀ s) : Answers s₀ (execActivationHoldTimeout s) := by
  unfold execActivationHoldTimeout
  refine .ok ?_
  split
  · exact h.slotRevoke.bootShow.coresReset.modHif
  · exact h

protected theorem Keeps.secSend {d : List Byte} {t : Nat} {x : HTask} (h : Keeps s₀ s) : Keeps s₀ (secSend d t x s) := by
  unfold secSend
  split
  · exact h.spdmArrive.done
  · exact h.done
  · exact h.badField

protected theorem Keeps.execSecuritySend {t : Tag} {data : List Byte} (h : Keeps s₀ s) : Answers s₀ (execSecuritySend t data s) :=
  .ok (h.adminCmd fun _ _ _ h => h.secSend)

protected theorem Keeps.secReceive {t : Nat} {x : HTask} (h : Keeps s₀ s) : Keeps s₀ (secReceive t x s) := by
  unfold secReceive
  split
  · exact h.spdmTake.giveData.done
  · exact h.giveData.done
  · exact h.badField

protected theorem Keeps.execSecurityReceive {t : Tag} (h : Keeps s₀ s) : Answers s₀ (execSecurityReceive t s) :=
  .ok (h.adminCmd fun _ _ _ h => h.secReceive)

protected theorem Keeps.sanitizeRun {t : Nat} {x : HTask} (h : Keeps s₀ s) : Keeps s₀ (sanitizeRun t x s) := by
  unfold sanitizeRun
  exact .ite h.badField ((h.nsDiscard.each fun _ _ h => .ite h h.spnStart).modHif.emit.done)

protected theorem Keeps.execSanitize {t : Tag} (h : Keeps s₀ s) : Answers s₀ (execSanitize t s) := .ok (h.adminCmd fun _ _ _ h => h.sanitizeRun)

protected theorem Keeps.execSanitizeEnd (h : Keeps s₀ s) : Answers s₀ (execSanitizeEnd s) := by
  unfold execSanitizeEnd
  refine .ok ?_
  split
  · exact h
  · exact .ite h h.modHif.parPut.emit

/-! ### Register writes -/

protected theorem Keeps.plain {m : Master} {r : RegSpec} {reg : Reg} {v : W32} (h : Keeps s₀ s) : Keeps s₀ (plain m r reg v s) :=
  .ite (.ite h.wr.deny h.wr) h.deny

protected theorem Answers.viaRow {o : Host.Outcome State Fault Refusal} (h : Answers s₀ o) : Keeps s₀ (viaRow o s) := by
  obtain ⟨t, rfl, ht⟩ := h
  exact ht

protected theorem Keeps.wrSpn {m : Master} {r : RegSpec} {k : Nat} {v : W32} (h : Keeps s₀ s) : Keeps s₀ (wrSpn m r k v s) := by
  unfold wrSpn
  extract_lets _
  split
  · exact h.spnCmd
  · exact h.spnTarget
  · exact h.each fun _ _ h => h.spnStart
  · exact .ite h.plain h.deny
  · exact h.plain

protected theorem Keeps.wrSrv {m : Master} {r : RegSpec} {k : Nat} {v : W32} (h : Keeps s₀ s) : Keeps s₀ (wrSrv m r k v s) := by
  unfold wrSrv
  extract_lets _ _
  split
  · exact .ite h.deny h.plain
  · exact h.coefCtl
  · exact h.coefWrite
  · exact h.actCmd
  · exact h.plain

protected theorem Keeps.zoneWrite {m : Master} {r : RegSpec} {a k : Nat} {v : W32} (h : Keeps s₀ s) : Keeps s₀ (zoneWrite m r a k v s) :=
  .ite h (.ite h.plain h.deny)

protected theorem Keeps.wchRefuse {a : Nat} (h : Keeps s₀ s) : Keeps s₀ (wchRefuse a s) := h.flag.deny.emit

protected theorem Keeps.wchWrite {m : Master} {r : RegSpec} {a k : Nat} {v : W32} (h : Keeps s₀ s) : Keeps s₀ (wchWrite m r a k v s) :=
  .ite h.wchRefuse (h.wr.use fun h => .ite h.wchRefuse h)

protected theorem Keeps.loadCtl {v : W32} (h : Keeps s₀ s) : Keeps s₀ (loadCtl v s) := by
  unfold loadCtl
  exact (Keeps.ite h.loadCommit h).use fun h => .ite h.loadVerify h

protected theorem Keeps.wrRch {m : Master} {r : RegSpec} {a k : Nat} {v : W32} (h : Keeps s₀ s) : Keeps s₀ (wrRch m r a k v s) := by
  unfold wrRch
  split
  · exact .ite h.lnkTrain h
  · exact h.feCmd
  · exact .ite h.deny h.plain
  · exact .ite h.deny h.plain
  · exact .ite h.deny h.zoneWrite
  · exact .ite h.deny h.plain
  · exact .ite h.flag.deny h.plain
  · exact .ite h.deny h.plain
  · exact .ite h.deny h.plain
  · exact h.plain

protected theorem Keeps.wrSeq {m : Master} {r : RegSpec} {a k : Nat} {v : W32} (h : Keeps s₀ s) : Keeps s₀ (wrSeq m r a k v s) := by
  unfold wrSeq
  extract_lets _
  split
  · exact h.wchWrite
  · exact h.wchWrite
  · exact h.wchWrite
  · exact h.wchWrite
  · exact h.seqCtl
  · exact h.seqPostWrite
  · exact h.seqCancelWrite
  · exact h.fmtWrite
  · exact h.fmtWrite
  · exact h.descWrite
  · exact h.loadCtl
  · exact h.plain

protected theorem Keeps.wrAct {m : Master} {r : RegSpec} {k : Nat} {v : W32} (h : Keeps s₀ s) : Keeps s₀ (wrAct m r k v s) := by
  unfold wrAct
  exact .ite h.wrRch h.wrSeq

protected theorem Keeps.wrBuf {m : Master} {r : RegSpec} {k : Nat} {v : W32} (h : Keeps s₀ s) : Keeps s₀ (wrBuf m r k v s) := by
  unfold wrBuf
  split
  · exact h.classCtl
  · exact h.wayCtl
  · exact h.plain.use fun h => .ite h ((Keeps.ite h.deny h).setf)
  · exact h.teCmd
  · exact h.wbDone
  · exact h.maintCtl
  · exact h.plain

protected theorem Keeps.wrHif {m : Master} {r : RegSpec} {k : Nat} {v : W32} (h : Keeps s₀ s) : Keeps s₀ (wrHif m r k v s) := by
  unfold wrHif
  refine .ite ?_ ?_
  · refine .ite ?_ ?_
    · exact h.deny
    · split
      · exact .ite h.cplGo h.plain
      · exact .ite h.xferGo h.plain
      · exact .ite h.deny h.plain
      · exact h.plain
  · exact .ite h.holdWrite h.plain

protected theorem Keeps.wrKskWin {m : Master} {r : RegSpec} {k : Nat} {v : W32} (h : Keeps s₀ s) : Keeps s₀ (wrKskWin m r k v s) := by
  unfold wrKskWin
  exact .ite h.deny (.ite h.kPost h.plain)

protected theorem Keeps.wrKsk {m : Master} {r : RegSpec} {k : Nat} {v : W32} (h : Keeps s₀ s) : Keeps s₀ (wrKsk m r k v s) := .ite h.wrKskWin h.plain

protected theorem Keeps.wrStl {m : Master} {r : RegSpec} {k : Nat} {v : W32} (h : Keeps s₀ s) : Keeps s₀ (wrStl m r k v s) := by
  unfold wrStl
  split
  · exact .ite h.execLockRelease.viaRow h
  · exact .ite h.execLockBreak.viaRow h.plain
  · exact h.plain

protected theorem Keeps.dmaWrite {m : Master} {n : Nat} {v : W32} (h : Keeps s₀ s) : Keeps s₀ (dmaWrite m n v s) := by
  unfold dmaWrite
  exact .ite ((Keeps.ite h.execDmaStop.viaRow h).use fun h => .ite h.deny h) (.ite h.execDmaStart.viaRow h.dmaCtlWrite)

protected theorem Keeps.wrDma {m : Master} {r : RegSpec} {k : Nat} {v : W32} (h : Keeps s₀ s) : Keeps s₀ (wrDma m r k v s) := by
  unfold wrDma
  exact .ite h.plain (.ite h.dmaWrite (.ite h.deny (.ite h.deny (.ite h.deny h.plain))))

protected theorem Keeps.wrNvsReg {m : Master} {r : RegSpec} {k : Nat} {v : W32} (h : Keeps s₀ s) : Keeps s₀ (wrNvs m r k v s) := by
  unfold wrNvs
  split
  · exact h.nvCmd
  · exact h.recCtl
  · exact h.commitCtl
  · exact .ite h.deny h.plain
  · exact .ite h.deny h.plain
  · exact .ite h.deny h.plain

protected theorem Keeps.wrTime {m : Master} {r : RegSpec} {k : Nat} {v : W32} (h : Keeps s₀ s) : Keeps s₀ (wrTime m r k v s) := by
  unfold wrTime
  extract_lets _
  split
  · exact h.epochApply
  · exact h.execEpochHiWrite.viaRow
  · exact h.execCompareWrite.viaRow
  · exact h.execCompareWrite.viaRow
  · exact h.plain.timerShow
  · exact .ite h.iceClearGo h
  · exact h.execFoldAdd.viaRow
  · exact h.plain

protected theorem Keeps.wrSec {m : Master} {r : RegSpec} {k : Nat} {v : W32} (h : Keeps s₀ s) : Keeps s₀ (wrSec m r k v s) := by
  unfold wrSec
  split
  · exact .ite h.shedCloseAll h
  · exact .ite h.deny h.plain
  · exact .ite h.secVerify h
  · exact h.secExtendCtl
  · exact .ite h.secEnroll h
  · exact h.plain

protected theorem Keeps.wrPwr {m : Master} {r : RegSpec} {k : Nat} {v : W32} (h : Keeps s₀ s) : Keeps s₀ (wrPwr m r k v s) := by
  unfold wrPwr
  split
  · exact .ite h.execFwReady.viaRow h
  · exact h.chipRstWrite
  · exact h.domReqWrite
  · exact h.actRstWrite
  · exact h.coreRstWrite
  · exact h.execFabricFreqChange.viaRow
  · exact h.calRunWrite
  · exact h.plain

protected theorem Keeps.wrBlock {m : Master} {r : RegSpec} {k : Nat} {v : W32} (h : Keeps s₀ s) : Keeps s₀ (wrBlock m r k v s) :=
  .ite h.wrAct (.ite h.wrSpn (.ite h.wrSrv (.ite h.wrBuf (.ite h.wrHif (.ite h.wrKsk (.ite h.wrStl (.ite h.wrDma (.ite h.wrNvsReg (.ite h.plain (.ite
      h.wrTime (.ite h.wrSec h.wrPwr)))))))))))

protected theorem Keeps.regWrite {m : Master} {k : Nat} {v : W32} (h : Keeps s₀ s) : Keeps s₀ (regWrite m k v s) := by
  unfold regWrite
  refine .ite ?_ ?_
  · exact h.badAccess
  · split
    · exact .ite h.deny h
    · exact .ite h.wrKskWin (.ite h.wrBlock h.deny)

protected theorem Keeps.memWrite {a : Nat} {v : W32} (h : Keeps s₀ s) : Keeps s₀ (memWrite a v s) := .ite h.deny (.ite h.wrMem (.ite h.badAccess h))

protected theorem Keeps.busWrite {m : Master} {a : Nat} {v : W32} (h : Keeps s₀ s) : Keeps s₀ (busWrite m a v s) :=
  .ite (.ite h.regWrite h) (.ite h.memWrite h)

protected theorem Keeps.nvRegWrite {off : Nat} {v : W32} (h : Keeps s₀ s) : Keeps s₀ (nvRegWrite off v s) := by
  unfold nvRegWrite
  split
  · exact (Keeps.ite (.ite h.modHif h.ccEnable) h.controllerReset.modHif).use fun h => .ite h h.hostShutdown
  · exact h.modHif
  · exact h.modHif
  · exact h.modHif
  · exact h.modHif
  · exact h.modHif
  · exact h

protected theorem Keeps.bar0Write {off : Nat} {v : W32} (h : Keeps s₀ s) : Keeps s₀ (bar0Write off v s) :=
  .ite h.nvRegWrite (.ite h.deny (.ite h.execSqTailDoorbell.viaRow h.execCqHeadDoorbell.viaRow))

protected theorem Keeps.bar2Write {off : Nat} {v : W32} (h : Keeps s₀ s) : Keeps s₀ (bar2Write off v s) := by
  unfold bar2Write
  refine .ite ?_ ?_
  · extract_lets _
    split
    · exact h.wrKskWin
    · exact h
  · exact h.deny

protected theorem Keeps.msixUnmask {n : Nat} (h : Keeps s₀ s) : Keeps s₀ (msixUnmask n s) := .ite h.modHif.msixSignal h

protected theorem Keeps.bar4Write {off : Nat} {v : W32} (h : Keeps s₀ s) : Keeps s₀ (bar4Write off v s) := .ite h.modHif.msixUnmask (.ite h h.deny)

protected theorem Keeps.hostWrite {a : Nat} {v : W32} (h : Keeps s₀ s) : Keeps s₀ (hostWrite a v s) := by
  unfold hostWrite
  extract_lets _
  refine .ite ?_ ?_
  · exact h
  · split
    · exact .ite h.bar0Write h
    · exact .ite h.bar2Write h
    · exact .ite h.bar4Write h
    · exact h

protected theorem Keeps.execRegisterWrite {m : Master} {addr : Addr} {v : W32} (h : Keeps s₀ s) : Answers s₀ (execRegisterWrite m addr v s) :=
  .ok (.ite h.hostWrite h.busWrite)

protected theorem Keeps.execUnmappedAccess {m : Master} {addr : Addr} (h : Keeps s₀ s) : Answers s₀ (execUnmappedAccess m addr s) :=
  .ok (.ite h.same h.busErr)

protected theorem Keeps.execBadWidthAccess {m : Master} {addr : Addr} {bytes : Nat} (h : Keeps s₀ s) : Answers s₀ (execBadWidthAccess m addr bytes s) :=
  .ok (.ite ((h.badAccess : Keeps s₀ (badAccess s)).same) h)

protected theorem Keeps.execPoweredOffAccess {m : Master} {addr : Addr} (h : Keeps s₀ s) : Answers s₀ (execPoweredOffAccess m addr s) :=
  .ok (.ite ((h.badAccess : Keeps s₀ (badAccess s)).same) h)

protected theorem Keeps.execHostReservedAccess {bar : Slot} {off : W32} {bytes : Nat} {write : Bool} (h : Keeps s₀ s) :
    Answers s₀ (execHostReservedAccess bar off bytes write s) := by
  unfold execHostReservedAccess
  exact .ok (.ite h (.ite h.rdata (.ite h.deny h)))

/-! ### DRAM channels -/

protected theorem Keeps.outCarry {a : Nat} (h : Keeps s₀ s) : Keeps s₀ (outCarry a s) := by
  unfold outCarry
  split
  · exact h
  · exact .ite h.outDrain h.modOutq

protected theorem Keeps.execDramSlot {c : BitVec 3} {req : Byte} {refresh gap : Bool} (h : Keeps s₀ s) :
    Answers s₀ (execDramSlot c req refresh gap s) := by
  unfold execDramSlot
  refine .ok (.ite h.dram.ctrWrap ?_)
  split
  · exact h.dram.ctrWrap.outCarry
  · exact h.dram.ctrWrap

/-! ### I/O commands -/

protected theorem Keeps.ioCmd {t : Tag} {p : HTask → Bool} {f : Nat → HTask → State → State}
    (h : Keeps s₀ s) (hf : ∀ x0 x1 t, Keeps s₀ t → Keeps s₀ (f x0 x1 t)) :
    Keeps s₀ (ioCmd t p f s) := by
  unfold ioCmd
  split
  · exact h
  · exact .ite h (.ite h.complete (.ite h.badField (hf _ _ _ h)))

protected theorem Keeps.onNs {f : NsSt → Nat → HTask → State → State} {t : Nat} {x : HTask}
    (h : Keeps s₀ s) (hf : ∀ x0 x1 x2 t, Keeps s₀ t → Keeps s₀ (f x0 x1 x2 t)) :
    Keeps s₀ (onNs f t x s) := by
  unfold onNs
  split
  · exact h.complete
  · exact .ite (hf _ _ _ _ h) h.complete

protected theorem Keeps.ranged {data : Bool} {f : NsSt → Nat → HTask → State → State} {n : NsSt} {t : Nat} {x : HTask}
    (h : Keeps s₀ s) (hf : ∀ x0 x1 x2 t, Keeps s₀ t → Keeps s₀ (f x0 x1 x2 t)) :
    Keeps s₀ (ranged data f n t x s) :=
  .ite h.complete (.ite h.badField (hf _ _ _ _ h))

protected theorem Keeps.reachable {l : List (Nat × Nat)} {f : Nat → HTask → State → State} {n : NsSt} {t : Nat} {x : HTask}
    (h : Keeps s₀ s) (hf : ∀ x0 x1 t, Keeps s₀ t → Keeps s₀ (f x0 x1 t)) :
    Keeps s₀ (reachable l f n t x s) :=
  .ite h.complete (.ite h.complete (.ite h (hf _ _ _ h)))

protected theorem Keeps.flushRun {t : Nat} {x : HTask} (h : Keeps s₀ s) : Keeps s₀ (flushRun t x s) :=
  .ite h.done (.ite h.done (.ite h.complete (.ite h h.maintCtl)))

protected theorem Keeps.execFlush {t : Tag} (h : Keeps s₀ s) : Answers s₀ (execFlush t s) := .ok (h.ioCmd fun _ _ _ h => h.flushRun)

protected theorem Keeps.errBlock {lba : Nat} (h : Keeps s₀ s) : Keeps s₀ (errBlock lba s) := h.modHif

protected theorem Keeps.readEnd {res t : Nat} {x : HTask} (h : Keeps s₀ s) : Keeps s₀ (readEnd res t x s) := by
  unfold readEnd
  exact .ite h.complete (.ite h (.ite h.complete.errBlock (.ite h.complete.errBlock h.done)))

protected theorem Keeps.readLive {f : Nat → HTask → State → State} {n : NsSt} {t : Nat} {x : HTask}
    (h : Keeps s₀ s) (hf : ∀ x0 x1 t, Keeps s₀ t → Keeps s₀ (f x0 x1 t)) :
    Keeps s₀ (readLive f n t x s) := by
  unfold readLive
  exact .ite (hf _ _ _ h) (.ite h.complete (.ite h (.ite (hf _ _ _ h) (h.reachable fun _ _ _ h => hf _ _ _ h))))

protected theorem Keeps.readRun {res : Nat} {n : NsSt} {t : Nat} {x : HTask} (h : Keeps s₀ s) : Keeps s₀ (readRun res n t x s) :=
  h.readLive fun _ _ _ h => h.readEnd

protected theorem Keeps.execRead {t : Tag} {res : Slot} (h : Keeps s₀ s) : Answers s₀ (execRead t res s) :=
  .ok (h.ioCmd fun _ _ _ h₁ => h₁.onNs fun _ _ _ _ h₂ => h₂.ranged fun _ _ _ _ h => h.readRun)

protected theorem Keeps.compareEnd {n : NsSt} {buf med res t : Nat} {x : HTask} (h : Keeps s₀ s) : Keeps s₀ (compareEnd n buf med res t x s) :=
  .ite h.complete (.ite h.complete (.ite h (.ite h.done h.complete)))

protected theorem Keeps.compareRun {buf med res : Nat} {n : NsSt} {t : Nat} {x : HTask} (h : Keeps s₀ s) : Keeps s₀ (compareRun buf med res n t x s) :=
  h.readLive fun _ _ _ h => h.compareEnd

protected theorem Keeps.execCompare {t : Tag} {buf med : Addr} {res : Slot} (h : Keeps s₀ s) : Answers s₀ (execCompare t buf med res s) :=
  .ok (h.ioCmd fun _ _ _ h₁ => h₁.onNs fun _ _ _ _ h₂ => h₂.ranged fun _ _ _ _ h => h.compareRun)

protected theorem Keeps.post {o : LineOp} {cls tag : Nat} (h : Keeps s₀ s) : Keeps s₀ (o.post cls tag s) := by
  unfold LineOp.post
  extract_lets _
  refine .ite ?_ ?_
  · exact h
  · split
    · exact h
    · exact (h.each fun _ _ h => h.wr).postSlot

protected theorem Keeps.verifyPost {n : NsSt} {t : Nat} {x : HTask} {l : List Nat} (h : Keeps s₀ s) : Keeps s₀ (verifyPost n t x l s) :=
  .ite h (h.each fun _ _ h => h.post)

protected theorem Keeps.verifyEnd {n : NsSt} {t : Nat} {x : HTask} (h : Keeps s₀ s) : Keeps s₀ (verifyEnd n t x s) := by
  unfold verifyEnd
  exact .ite h.complete (.ite h.done h.verifyPost)

protected theorem Keeps.verifyRun {n : NsSt} {t : Nat} {x : HTask} (h : Keeps s₀ s) : Keeps s₀ (verifyRun n t x s) := by
  unfold verifyRun
  exact .ite h.done (.ite h.complete (h.reachable fun _ _ _ h => h.verifyEnd))

protected theorem Keeps.execVerify {t : Tag} (h : Keeps s₀ s) : Answers s₀ (execVerify t s) :=
  .ok (h.ioCmd fun _ _ _ h₁ => h₁.onNs fun _ _ _ _ h₂ => h₂.ranged fun _ _ _ _ h => h.verifyRun)

protected theorem Keeps.hostWriteEnd {res t : Nat} {x : HTask} (h : Keeps s₀ s) : Keeps s₀ (hostWriteEnd res t x s) :=
  .ite h.complete (.ite h (.ite h (.ite h.postCpl h.done)))

protected theorem Keeps.writeJudged {f : Nat → HTask → State → State} {n : NsSt} {t : Nat} {x : HTask}
    (h : Keeps s₀ s) (hf : ∀ x0 x1 t, Keeps s₀ t → Keeps s₀ (f x0 x1 t)) :
    Keeps s₀ (writeJudged f n t x s) := by
  unfold writeJudged
  split
  · exact h.complete
  · exact .ite h.complete (h.reachable fun _ _ _ h => hf _ _ _ h)

protected theorem Keeps.writeRun {res : Nat} {n : NsSt} {t : Nat} {x : HTask} (h : Keeps s₀ s) : Keeps s₀ (writeRun res n t x s) :=
  h.writeJudged fun _ _ _ h => h.hostWriteEnd

protected theorem Keeps.execWrite {t : Tag} {res : Slot} (h : Keeps s₀ s) : Answers s₀ (execWrite t res s) :=
  .ok (h.ioCmd fun _ _ _ h₁ => h₁.onNs fun _ _ _ _ h₂ => h₂.ranged fun _ _ _ _ h => h.writeRun)

protected theorem Keeps.zeroPut {e f n : Nat} (h : Keeps s₀ s) : Keeps s₀ (zeroPut e f n s) := by
  unfold zeroPut
  exact (h.each fun _ _ h => h.sectorWrite).tagCommit.tagRelease.bufShow

protected theorem Keeps.zeroLook {t : Nat} {x : HTask} {l : Nat} (h : Keeps s₀ s) : Keeps s₀ (zeroLook t x l s) := by
  unfold zeroLook
  extract_lets _ _ _ s₃ s₅
  have h₄ : Keeps s₀ s₃.2.2 := h.lookup
  have h₆ : Keeps s₀ s₅ := h₄.bufStat
  split
  · exact h₆.modTask.zeroPut
  · exact h₆.modTask.zeroPut
  · exact h₆.wrGood.modTask
  · exact h₆.modTask.bufShow
  · exact h₆.bufShow

protected theorem Keeps.zeroWait {t : Nat} {x : HTask} {l e : Nat} (h : Keeps s₀ s) : Keeps s₀ (zeroWait t x l e s) := by
  unfold zeroWait
  exact .ite h (h.modTask.use fun h => .ite h (.ite h.tagRelease.bufShow h.modTask.zeroPut))

protected theorem Keeps.zeroLine {t l : Nat} (h : Keeps s₀ s) : Keeps s₀ (zeroLine t l s) := by
  unfold zeroLine
  split
  · exact h
  · refine .ite ?_ ?_
    · exact h
    · split
      · exact .ite h.zeroWait h
      · exact h.zeroLook

protected theorem Keeps.zeroEnd {t : Nat} {x : HTask} (h : Keeps s₀ s) : Keeps s₀ (zeroEnd t x s) := by
  unfold zeroEnd
  extract_lets s₃
  have h₄ : Keeps s₀ s₃ := h.each fun _ _ h => h.zeroLine
  split
  · exact h₄.hostWriteEnd
  · exact h₄

protected theorem Keeps.execWriteZeroes {t : Tag} (h : Keeps s₀ s) : Answers s₀ (execWriteZeroes t s) :=
  .ok (h.ioCmd fun _ _ _ h₁ => h₁.onNs fun _ _ _ _ h₂ => h₂.ranged fun _ _ _ _ h₃ => h₃.writeJudged fun _ _ _ h => h.zeroEnd)

protected theorem Keeps.onZoned {f : NsSt → Nat → HTask → State → State} {n : NsSt} {t : Nat} {x : HTask}
    (h : Keeps s₀ s) (hf : ∀ x0 x1 x2 t, Keeps s₀ t → Keeps s₀ (f x0 x1 x2 t)) :
    Keeps s₀ (onZoned f n t x s) :=
  .ite (hf _ _ _ _ h) h.complete

protected theorem Keeps.appendRun {res : Nat} {n : NsSt} {t : Nat} {x : HTask} (h : Keeps s₀ s) : Keeps s₀ (appendRun res n t x s) :=
  .ite h.badField h.writeRun

protected theorem Keeps.appendRange {res : Nat} {n : NsSt} {t : Nat} {x : HTask} (h : Keeps s₀ s) : Keeps s₀ (appendRange res n t x s) :=
  .ite h.complete (.ite h.badField h.appendRun)

protected theorem Keeps.execZoneAppend {t : Tag} {res : Slot} (h : Keeps s₀ s) : Answers s₀ (execZoneAppend t res s) :=
  .ok (h.ioCmd fun _ _ _ h₁ => h₁.onNs fun _ _ _ _ h₂ => h₂.onZoned fun _ _ _ _ h => h.appendRange)

protected theorem Keeps.execDatasetManagement {t : Tag} (h : Keeps s₀ s) : Answers s₀ (execDatasetManagement t s) :=
  .ok (h.ioCmd fun _ _ _ h₁ => h₁.onNs fun _ _ _ _ h => h.done)

protected theorem Keeps.zoneReset {ns z : Nat} (h : Keeps s₀ s) : Keeps s₀ (zoneReset ns z s) := by
  unfold zoneReset
  split
  · exact h
  · exact ((h.each fun _ _ h => h.maintVisit).bufShow).zonePut

protected theorem Keeps.zoneAct {a ns z : Nat} (h : Keeps s₀ s) : Keeps s₀ (zoneAct a ns z s) := by
  unfold zoneAct
  split
  · exact h
  · extract_lets _
    split
    · exact h.zonePut
    · exact h.zonePut
    · exact h.zonePut
    · exact h.zoneReset

protected theorem Keeps.zoneAll {a : Nat} {n : NsSt} {t : Nat} {x : HTask} (h : Keeps s₀ s) : Keeps s₀ (zoneAll a n t x s) :=
  .ite h.complete (h.reachable fun _ _ _ h₁ => (h₁.each fun _ _ h => h.zoneAct).done)

protected theorem Keeps.zoneOne {a : Nat} {n : NsSt} {t : Nat} {x : HTask} (h : Keeps s₀ s) : Keeps s₀ (zoneOne a n t x s) := by
  unfold zoneOne
  exact .ite h.complete (.ite h.badField (.ite h.complete (h.reachable fun _ _ _ h => h.zoneAct.done)))

protected theorem Keeps.zoneSend {a : Nat} {n : NsSt} {t : Nat} {x : HTask} (h : Keeps s₀ s) : Keeps s₀ (zoneSend a n t x s) := .ite h.zoneAll h.zoneOne

protected theorem Keeps.execZoneOpen {t : Tag} (h : Keeps s₀ s) : Answers s₀ (execZoneOpen t s) :=
  .ok (h.ioCmd fun _ _ _ h₁ => h₁.onNs fun _ _ _ _ h₂ => h₂.onZoned fun _ _ _ _ h => h.zoneSend)

protected theorem Keeps.execZoneClose {t : Tag} (h : Keeps s₀ s) : Answers s₀ (execZoneClose t s) :=
  .ok (h.ioCmd fun _ _ _ h₁ => h₁.onNs fun _ _ _ _ h₂ => h₂.onZoned fun _ _ _ _ h => h.zoneSend)

protected theorem Keeps.execZoneFinish {t : Tag} (h : Keeps s₀ s) : Answers s₀ (execZoneFinish t s) :=
  .ok (h.ioCmd fun _ _ _ h₁ => h₁.onNs fun _ _ _ _ h₂ => h₂.onZoned fun _ _ _ _ h => h.zoneSend)

protected theorem Keeps.execZoneReset {t : Tag} (h : Keeps s₀ s) : Answers s₀ (execZoneReset t s) :=
  .ok (h.ioCmd fun _ _ _ h₁ => h₁.onNs fun _ _ _ _ h₂ => h₂.onZoned fun _ _ _ _ h => h.zoneSend)

protected theorem Keeps.reportRun {n : NsSt} {t : Nat} {x : HTask} (h : Keeps s₀ s) : Keeps s₀ (reportRun n t x s) := by
  unfold reportRun
  exact .ite h.badField (.ite h.complete h.giveData.done)

protected theorem Keeps.execReportZones {t : Tag} (h : Keeps s₀ s) : Answers s₀ (execReportZones t s) :=
  .ok (h.ioCmd fun _ _ _ h₁ => h₁.onNs fun _ _ _ _ h₂ => h₂.onZoned fun _ _ _ _ h => h.reportRun)

protected theorem Keeps.execInvalidCommandOpcode {t : Tag} (h : Keeps s₀ s) : Answers s₀ (execInvalidCommandOpcode t s) := by
  unfold execInvalidCommandOpcode
  refine .ok ?_
  split
  · exact h
  · exact .ite h (.ite h.complete (.ite h.badField h.complete))

/-! ### SMBus and boundary scan -/

protected theorem Keeps.modPins {f : PinSt → PinSt} (h : Keeps s₀ s) : Keeps s₀ (modPins f s) := h.pins

protected theorem Keeps.execSmbusSetPointer {off : BitVec 16} (h : Keeps s₀ s) : Answers s₀ (execSmbusSetPointer off s) :=
  .ok (.ite h (.ite h.modPins h.fresh.modPins))

protected theorem Keeps.execSmbusBlockRead (h : Keeps s₀ s) : Answers s₀ (execSmbusBlockRead s) := .ok (h.onlyIf fun _ h => h.modPins)

protected theorem Keeps.execSmbusCopyRefresh (h : Keeps s₀ s) : Answers s₀ (execSmbusCopyRefresh s) := .ok (h.onlyIf fun _ h => h.modPins)

protected theorem Keeps.jtagLoad {i : JtagIr} {scan : List Bool} (h : Keeps s₀ s) : Keeps s₀ (jtagLoad i scan s) := h.modPins

protected theorem Keeps.jtagBypass (h : Keeps s₀ s) : Keeps s₀ (jtagBypass s) := h.jtagLoad

protected theorem Keeps.execBypass (h : Keeps s₀ s) : Answers s₀ (execBypass s) := .ok h.jtagBypass

protected theorem Keeps.execIdcode (h : Keeps s₀ s) : Answers s₀ (execIdcode s) := .ok h.jtagLoad

protected theorem Keeps.execSamplePreload {pins v : List Bool} (h : Keeps s₀ s) : Answers s₀ (execSamplePreload pins v s) := .ok h.jtagLoad.modPins

protected theorem Keeps.jtagDrive {i : JtagIr} {scan : List Bool} (h : Keeps s₀ s) : Keeps s₀ (jtagDrive i scan s) := .ite h.jtagLoad h.jtagBypass

protected theorem Keeps.execExtest (h : Keeps s₀ s) : Answers s₀ (execExtest s) := .ok h.jtagDrive

protected theorem Keeps.execClamp (h : Keeps s₀ s) : Answers s₀ (execClamp s) := .ok h.jtagDrive

protected theorem Keeps.execHighz (h : Keeps s₀ s) : Answers s₀ (execHighz s) := .ok h.jtagDrive

/-! ### Resident microcode -/

protected theorem Answers.nextOr {o : Host.Outcome State Fault Refusal} (h : Answers s₀ o) : Keeps s₀ (nextOr s o) := by
  obtain ⟨t, rfl, ht⟩ := h
  exact ht

protected theorem Keeps.uwRun {a : Act} {w : W32} (h : Keeps s₀ s) : Keeps s₀ (uwRun a w s) := by
  unfold uwRun
  extract_lets _ _ _
  refine Answers.nextOr ?_
  split
  · exact h.execUwNop
  · exact h.execUwLdi
  · exact h.execUwLui
  · exact h.execUwMov
  · exact h.execUwAdd
  · exact h.execUwAddi
  · exact h.execUwSub
  · exact h.execUwAnd
  · exact h.execUwAndi
  · exact h.execUwOr
  · exact h.execUwOri
  · exact h.execUwXor
  · exact h.execUwShli
  · exact h.execUwShri
  · exact h.execUwInsf
  · exact h.execUwExtf
  · exact h.execUwBeq
  · exact h.execUwBne
  · exact h.execUwBltu
  · exact h.execUwBgeu
  · exact h.execUwBbs
  · exact h.execUwBbc
  · exact h.execUwJmp
  · exact h.execUwCall
  · exact h.execUwRet
  · exact h.execUwLd
  · exact h.execUwSt
  · exact h.execUwLdd
  · exact h.execUwStd
  · exact h.execUwRdp
  · exact h.execUwWrp
  · exact h.execUwWait
  · exact h.execUwGate
  · exact h.execUwSeek
  · exact h.execUwZone
  · exact h.execUwOutq
  · exact h.execUwPost
  · exact h.execUwNext
  · exact h.execUwDone
  · exact h.execUwTrap
  · exact h.execUwIllegal

protected theorem Keeps.seqClock {a : Nat} (h : Keeps s₀ s) : Keeps s₀ (seqClock a s) := by
  unfold seqClock
  exact h.incWrap.use fun h => .ite h h.incWrap

protected theorem Keeps.resWord {a : Nat} {f : State → State} (h : Keeps s₀ s) (hf : ∀ t, Keeps s₀ t → Keeps s₀ (f t)) : Keeps s₀ (resWord a f s) := by
  unfold resWord
  exact hf _ h.incWrap.incWrap.fresh.setf

protected theorem Keeps.resGo {a : Nat} {p : ResPhase} (h : Keeps s₀ s) : Keeps s₀ (resGo a p s) := h.modSeq

protected theorem Keeps.resCollect {a : Nat} (h : Keeps s₀ s) : Keeps s₀ (resCollect a s) := by
  unfold resCollect
  dsimp only
  split
  · exact h.outTake
  · exact h.outTake.modSeq

protected theorem Keeps.resDispatch {a : Nat} (h : Keeps s₀ s) : Keeps s₀ (resDispatch a s) := by
  unfold resDispatch
  split
  · exact h.setf.setf
  · exact .ite h.modSeq.setSeqState h.seqNext

protected theorem Keeps.resStart {a : Nat} {o : SeqOp} (h : Keeps s₀ s) : Keeps s₀ (resStart a o s) := by
  unfold resStart
  exact h.modOp.use fun h => .ite h.resGo (.ite h.gPut.resGo.modSeq.goTo h.seqSeek.resGo)

protected theorem Keeps.resSettle {a : Nat} (h : Keeps s₀ s) : Keeps s₀ (resSettle a s) := by
  unfold resSettle
  exact h.modSeq.setSeqState.resGo

protected theorem Keeps.resZone {a : Nat} {o : SeqOp} (h : Keeps s₀ s) : Keeps s₀ (resZone a o s) := by
  unfold resZone
  exact .ite h.resGo (.ite h.resGo (.ite h.resGo h.modSeq.setSeqState.resGo.zoneRun))

protected theorem Keeps.resFirst {a : Nat} {o : SeqOp} (h : Keeps s₀ s) : Keeps s₀ (resFirst a o s) := .ite h.resGo (.ite h.resGo h.modOp.resGo)

protected theorem Keeps.resGiveUp {a : Nat} {o : SeqOp} (h : Keeps s₀ s) : Keeps s₀ (resGiveUp a o s) := by
  unfold resGiveUp
  exact (h.each fun _ _ h => h.emit).modOp

protected theorem Keeps.resSuspend {a : Nat} (h : Keeps s₀ s) : Keeps s₀ (resSuspend a s) := h.setf.setf.resGo

protected theorem Keeps.resSegment {a : Nat} {o : SeqOp} (h : Keeps s₀ s) : Keeps s₀ (resSegment a o s) := by
  unfold resSegment
  exact h.modOp.use fun h₁ => .ite h₁.resGo (.ite h₁.resGo ((Keeps.ite h₁.resGiveUp h₁).use fun h => .ite h.resSuspend h.modOp))

protected theorem Keeps.resGate {a : Nat} {o : SeqOp} {k r : Nat} (h : Keeps s₀ s) : Keeps s₀ (resGate a o k r s) := by
  unfold resGate
  exact h.modOp.seqGate

protected theorem Keeps.resGating {a : Nat} {o : SeqOp} (h : Keeps s₀ s) : Keeps s₀ (resGating a o s) := by
  unfold resGating
  refine .ite ?_ ?_
  · exact h.resWord fun _ h => h.resCollect
  · refine .ite ?_ ?_
    · exact h.resWord fun _ h => h.resSegment
    · split
      · exact .ite h.seqClock (h.resWord fun _ h => h.resGate)
      · exact h.seqClock

protected theorem Keeps.resFinish {a st : Nat} {o : SeqOp} (h : Keeps s₀ s) : Keeps s₀ (resFinish a st o s) :=
  .ite (h.resWord fun _ h => h.resCollect) (.ite h.seqClock (h.resWord fun _ h => h.modOp.resGo))

protected theorem Keeps.resRecords {a st : Nat} {o : SeqOp} (h : Keeps s₀ s) : Keeps s₀ (resRecords a st o s) := by
  unfold resRecords
  split
  · exact h.resWord fun _ h => h.seqPostRec
  · exact h.resWord fun _ h => h.seqDone.resGo

protected theorem Keeps.resReturn {a : Nat} {o : SeqOp} (h : Keeps s₀ s) : Keeps s₀ (resReturn a o s) := by
  unfold resReturn
  split
  · exact h.resGo
  · exact .ite h.resGo h.resSuspend
  · exact h.resGo

protected theorem Keeps.resService {a : Nat} (h : Keeps s₀ s) : Keeps s₀ (resService a s) := h.uword fun _ h => (Keeps.ite h.gPut h.gFree).seqRet

protected theorem Keeps.resident {a : Nat} (h : Keeps s₀ s) : Keeps s₀ (resident a s) := by
  unfold resident
  refine .ite ?_ ?_
  · exact h.resService
  · split
    · exact h.resWord fun _ h => h.resDispatch.resGo
    · split
      · exact h.resWord fun _ h => h.resStart
      · exact h.resWord fun _ h => h.resSettle
      · exact h.resWord fun _ h => h.resZone
      · exact h.resWord fun _ h => h.resFirst
      · exact h.resGating
      · exact h.resWord fun _ h => h.resReturn
      · exact h.resFinish
      · exact h.resRecords

protected theorem Keeps.seqCycle {a : Nat} (h : Keeps s₀ s) : Keeps s₀ (seqCycle a s) := .ite (.ite h.uwRun h.resident) h.seqClock

protected theorem Keeps.seqEdge {a : Nat} (h : Keeps s₀ s) : Keeps s₀ (seqEdge a s) := .ite (h.each fun _ _ h => h.seqCycle) h

/-! ### Messages -/

protected theorem Keeps.msgReply {c op seq status : Nat} (h : Keeps s₀ s) : Keeps s₀ (msgReply c op seq status s) := .ite h.hostReply h.ghReply

protected theorem Keeps.hostServe {c op seq : Nat} {p : List W32} (h : Keeps s₀ s) : Keeps s₀ (hostServe c op seq p s) := by
  unfold hostServe
  refine .ite h.hostReply (Answers.nextOr ?_)
  split
  · exact h.execGetInfo
  · exact h.execHdaState
  · exact h.execSpinDown
  · exact h.execSpinUp
  · exact h.execWays
  · exact h.execSetSubsys
  · exact h.execSetAccel
  · exact h.execIceClear
  · exact h.execShedChallenge
  · exact h.execShedResponse
  · exact h.execEcho
  · exact h.execRecInfo
  · exact h.execRecWrite
  · exact h.fresh.execRecCommit
  · exact h.execUnknownOp

protected theorem Keeps.ghServe {c op seq : Nat} {p : List W32} {arg : Nat} (h : Keeps s₀ s) : Keeps s₀ (ghServe c op seq p arg s) := by
  unfold ghServe
  extract_lets _ _
  refine Answers.nextOr ?_
  split
  · exact h.execGhInfo
  · exact h.execSetFence
  · exact h.execRetract
  · exact h.execRecover
  · exact h.execReleaseSpindle
  · exact h.execChopperTest
  · exact h.execSetNotice
  · exact h.execInject
  · exact h.execUnknownOp

protected theorem Keeps.msgServe {c : Nat} {a : MsgAsm} (h : Keeps s₀ s) : Keeps s₀ (msgServe c a s) :=
  .ite h.msgReply (.ite h.hostServe (.ite h.fresh.ghServe h.ghServe))

protected theorem Keeps.heldServe {c : Nat} (h : Keeps s₀ s) : Keeps s₀ (heldServe c s) := by
  unfold heldServe
  split
  · exact h
  · exact h.held.use fun h => (Keeps.ite h.hostServe h.ghServe).use fun h => (Keeps.ite (Keeps.ghForget h.same) h).held

protected theorem Keeps.msgGo {c : Nat} {a : MsgAsm} (h : Keeps s₀ s) : Keeps s₀ (msgGo c a s) := .ite h.asm.msgServe h.asm

protected theorem Keeps.msgWord {c : Nat} {w : W32} (h : Keeps s₀ s) : Keeps s₀ (msgWord c w s) := by
  unfold msgWord
  exact .ite h.msgGo (.ite h.msgGo (.ite h.msgGo h.msgReply.msgGo))

protected theorem Keeps.msgTake {c : Nat} (h : Keeps s₀ s) : Keeps s₀ (msgTake c s) := by
  unfold msgTake
  refine .ite h (.ite h.heldServe ?_)
  split
  · exact h
  · have h₁ : Keeps s₀ (kTake c (msgEnd c) s) := h.kTake
    exact h₁.same
  · exact h.kTake.rdata.msgWord

protected theorem Keeps.msgsTake (h : Keeps s₀ s) : Keeps s₀ (msgsTake s) := h.each fun _ _ h => h.msgTake

protected theorem Keeps.copiesKeep (h : Keeps s₀ s) : Keeps s₀ (copiesKeep s) := .ite h ((h.each fun _ _ h => h.parPut.modGh).modGh)

/-! ### An edge of the reference -/

protected theorem Keeps.sundialTick (h : Keeps s₀ s) : Keeps s₀ (sundialTick s) := by
  unfold sundialTick
  exact (h.each fun _ _ h => h.iceDue).use fun h₂ => (Keeps.ite h₂.ice h₂).sdl.each fun _ _ h => h.timerTick

protected theorem Keeps.tick (h : Keeps s₀ s) : Keeps s₀ (tick s) :=
  (((((((((((h.sundialTick.each fun _ _ h => h.outDrain).each fun _ _ h =>
      h.seqEdge).msgsTake).jErased).commitTick).copiesKeep).jobsRun).resetShow).sanKeep).lostKeep).readyShow).iceShow

/-! ### Commands and steps -/

/-- Every command answers a next state in every state (R6, R26), and keeps what is to be kept. -/
theorem exec_answers (c : Instr) (s : State) : Answers s (exec c s) := by
  have h := Keeps.refl s
  cases c with
  | registerWrite => exact h.execRegisterWrite
  | snapshotCaptureRead => exact h.execSnapshotCaptureRead
  | unmappedAccess => exact h.execUnmappedAccess
  | badWidthAccess => exact h.execBadWidthAccess
  | poweredOffAccess => exact h.execPoweredOffAccess
  | hostReservedAccess => exact h.execHostReservedAccess
  | powerOn => exact h.execPowerOn
  | bootStageEnd => exact h.execBootStageEnd
  | sysRstNAssert => exact h.execSysRstNAssert
  | sysRstNRelease => exact h.execSysRstNRelease
  | chipReset => exact h.execChipReset
  | perst => exact h.execPerst
  | functionLevelReset => exact h.execFunctionLevelReset
  | controllerReset => exact h.execControllerReset
  | ccEnable => exact h.execCcEnable
  | coreReset => exact h.execCoreReset
  | actuatorReset => exact h.execActuatorReset
  | domainOn => exact h.execDomainOn
  | domainOff => exact h.execDomainOff
  | domainOnComplete => exact h.execDomainOnComplete
  | coreWaitPowerOff => exact h.execCoreWaitPowerOff
  | fabricFreqChange => exact h.execFabricFreqChange
  | referenceLost => exact h.execReferenceLost
  | referenceRestored => exact h.execReferenceRestored
  | fwReady => exact h.execFwReady
  | recInfo => exact h.execRecInfo
  | recWrite => exact h.execRecWrite
  | recCommit => exact h.execRecCommit
  | calRun => exact h.execCalRun
  | calRunEnd => exact h.execCalRunEnd
  | calStep => exact h.execCalStep
  | start => exact h.execStart
  | brake => exact h.execBrake
  | coast => exact h.execCoast
  | targetWrite => exact h.execTargetWrite
  | startMask => exact h.execStartMask
  | startAdmitted => exact h.execStartAdmitted
  | alignDone => exact h.execAlignDone
  | rampEnd => exact h.execRampEnd
  | handover => exact h.execHandover
  | handoverTimeout => exact h.execHandoverTimeout
  | pwmPeriod => exact h.execPwmPeriod
  | skipRunLimit => exact h.execSkipRunLimit
  | zeroCrossing => exact h.execZeroCrossing
  | commutationStep => exact h.execCommutationStep
  | currentLimit => exact h.execCurrentLimit
  | overcurrentTrip => exact h.execOvercurrentTrip
  | catchDecided => exact h.execCatchDecided
  | catchWindowExpired => exact h.execCatchWindowExpired
  | atSpeedReached => exact h.execAtSpeedReached
  | speedOutOfTolerance => exact h.execSpeedOutOfTolerance
  | speedBandFault => exact h.execSpeedBandFault
  | spinupTimeout => exact h.execSpinupTimeout
  | below30Rpm => exact h.execBelow30Rpm
  | brakeHandoff => exact h.execBrakeHandoff
  | shortBrakeTimeout => exact h.execShortBrakeTimeout
  | chopperOn => exact h.execChopperOn
  | chopperOff => exact h.execChopperOff
  | chopperFault => exact h.execChopperFault
  | railOvervoltage => exact h.execRailOvervoltage
  | powerLossDetected => exact h.execPowerLossDetected
  | powerLossBrakeEnd => exact h.execPowerLossBrakeEnd
  | railRecovered => exact h.execRailRecovered
  | servoWedge => exact h.execServoWedge
  | servoLost => exact h.execServoLost
  | timerLock => exact h.execTimerLock
  | timerLockLost => exact h.execTimerLockLost
  | vcmSatFault => exact h.execVcmSatFault
  | openLimitFault => exact h.execOpenLimitFault
  | slotOpen => exact h.execSlotOpen
  | slotClose => exact h.execSlotClose
  | coefPageWrite => exact h.execCoefPageWrite
  | srvLoad => exact h.execSrvLoad
  | srvUnload => exact h.execSrvUnload
  | srvSeek => exact h.execSrvSeek
  | loadAcquired => exact h.execLoadAcquired
  | loadingTimeout => exact h.execLoadingTimeout
  | trajectoryEnd => exact h.execTrajectoryEnd
  | readSettled => exact h.execReadSettled
  | writeSettled => exact h.execWriteSettled
  | settleTimeout => exact h.execSettleTimeout
  | unloadComplete => exact h.execUnloadComplete
  | headLeavesStripe => exact h.execHeadLeavesStripe
  | headRejoins => exact h.execHeadRejoins
  | rejoinRunEnd => exact h.execRejoinRunEnd
  | sampleFrame => exact h.execSampleFrame
  | servoFrame => exact h.execServoFrame
  | status => exact h.execStatus
  | scmdLost => exact h.execScmdLost
  | regData => exact h.execRegData
  | invalidBlock => exact h.execInvalidBlock
  | laneQueueOverflow => exact h.execLaneQueueOverflow
  | blockLockLost => exact h.execBlockLockLost
  | retrainAttemptEnd => exact h.execRetrainAttemptEnd
  | downstreamBlockSlot => exact h.execDownstreamBlockSlot
  | train => exact h.execTrain
  | trainingEnd => exact h.execTrainingEnd
  | feRegWrite => exact h.execFeRegWrite
  | feRegRead => exact h.execFeRegRead
  | feRegWriteRelease => exact h.execFeRegWriteRelease
  | feRegTimeout => exact h.execFeRegTimeout
  | readGateSectorStart => exact h.execReadGateSectorStart
  | syncMarkDecision => exact h.execSyncMarkDecision
  | sampleQueueOverflow => exact h.execSampleQueueOverflow
  | codewordStart => exact h.execCodewordStart
  | codewordComplete => exact h.execCodewordComplete
  | otfDecodeEnd => exact h.execOtfDecodeEnd
  | poolEccError => exact h.execPoolEccError
  | drDispatch => exact h.execDrDispatch
  | drAttemptEnd => exact h.execDrAttemptEnd
  | drRecovered => exact h.execDrRecovered
  | retainedWaitAge => exact h.execRetainedWaitAge
  | sectorFetch => exact h.execSectorFetch
  | codewordEncoded => exact h.execCodewordEncoded
  | sectorSendStart => exact h.execSectorSendStart
  | servoGuardCut => exact h.execServoGuardCut
  | writeSectorOutcome => exact h.execWriteSectorOutcome
  | uwNop => exact h.execUwNop
  | uwLdi => exact h.execUwLdi
  | uwLui => exact h.execUwLui
  | uwMov => exact h.execUwMov
  | uwAdd => exact h.execUwAdd
  | uwAddi => exact h.execUwAddi
  | uwSub => exact h.execUwSub
  | uwAnd => exact h.execUwAnd
  | uwAndi => exact h.execUwAndi
  | uwOr => exact h.execUwOr
  | uwOri => exact h.execUwOri
  | uwXor => exact h.execUwXor
  | uwShli => exact h.execUwShli
  | uwShri => exact h.execUwShri
  | uwInsf => exact h.execUwInsf
  | uwExtf => exact h.execUwExtf
  | uwBeq => exact h.execUwBeq
  | uwBne => exact h.execUwBne
  | uwBltu => exact h.execUwBltu
  | uwBgeu => exact h.execUwBgeu
  | uwBbs => exact h.execUwBbs
  | uwBbc => exact h.execUwBbc
  | uwJmp => exact h.execUwJmp
  | uwCall => exact h.execUwCall
  | uwRet => exact h.execUwRet
  | uwLd => exact h.execUwLd
  | uwSt => exact h.execUwSt
  | uwLdd => exact h.execUwLdd
  | uwStd => exact h.execUwStd
  | uwRdp => exact h.execUwRdp
  | uwWrp => exact h.execUwWrp
  | uwWait => exact h.execUwWait
  | waitEnd => exact h.execWaitEnd
  | waitTimeout => exact h.execWaitTimeout
  | uwGate => exact h.execUwGate
  | gateStallEnd => exact h.execGateStallEnd
  | uwSeek => exact h.execUwSeek
  | uwZone => exact h.execUwZone
  | zoneComplete => exact h.execZoneComplete
  | uwOutq => exact h.execUwOutq
  | uwPost => exact h.execUwPost
  | uwNext => exact h.execUwNext
  | uwDone => exact h.execUwDone
  | uwTrap => exact h.execUwTrap
  | uwIllegal => exact h.execUwIllegal
  | allotWatchdog => exact h.execAllotWatchdog
  | storeEccError => exact h.execStoreEccError
  | gateEntryOpen => exact h.execGateEntryOpen
  | seqPost => exact h.execSeqPost
  | seqCancel => exact h.execSeqCancel
  | seqRun => exact h.execSeqRun
  | seqHalt => exact h.execSeqHalt
  | seqReload => exact h.execSeqReload
  | resultRecordRead => exact h.execResultRecordRead
  | seqFmtWrite => exact h.execSeqFmtWrite
  | loadVerify => exact h.execLoadVerify
  | loadVerifyEnd => exact h.execLoadVerifyEnd
  | loadCommit => exact h.execLoadCommit
  | seqStoreReload => exact h.execSeqStoreReload
  | lookupRead => exact h.execLookupRead
  | lookupWrite => exact h.execLookupWrite
  | tagCommit => exact h.execTagCommit
  | tagRelease => exact h.execTagRelease
  | fillDone => exact h.execFillDone
  | writebackRequest => exact h.execWritebackRequest
  | dirtyAgeExpired => exact h.execDirtyAgeExpired
  | wbRequestRead => exact h.execWbRequestRead
  | wbDone => exact h.execWbDone
  | wakeRead => exact h.execWakeRead
  | raRequestRead => exact h.execRaRequestRead
  | wrEn => exact h.execWrEn
  | rdEn => exact h.execRdEn
  | wayDisable => exact h.execWayDisable
  | wayEnable => exact h.execWayEnable
  | wayOff => exact h.execWayOff
  | wayOn => exact h.execWayOn
  | maintInval => exact h.execMaintInval
  | maintClean => exact h.execMaintClean
  | maintCleanInval => exact h.execMaintCleanInval
  | maintDiscard => exact h.execMaintDiscard
  | maintInvalClass => exact h.execMaintInvalClass
  | maintCleanAll => exact h.execMaintCleanAll
  | maintEnd => exact h.execMaintEnd
  | dramSlot => exact h.execDramSlot
  | dramEccError => exact h.execDramEccError
  | tagEccError => exact h.execTagEccError
  | scrubRead => exact h.execScrubRead
  | flipmaskArm => exact h.execFlipmaskArm
  | sqTailDoorbell => exact h.execSqTailDoorbell
  | cqHeadDoorbell => exact h.execCqHeadDoorbell
  | entryFetch => exact h.execEntryFetch
  | rangeLockGrant => exact h.execRangeLockGrant
  | taskRead => exact h.execTaskRead
  | xferRequest => exact h.execXferRequest
  | xferEnd => exact h.execXferEnd
  | xferResultRead => exact h.execXferResultRead
  | completionPost => exact h.execCompletionPost
  | completionWrite => exact h.execCompletionWrite
  | urgRead => exact h.execUrgRead
  | hold => exact h.execHold
  | linkL0Entry => exact h.execLinkL0Entry
  | aerError => exact h.execAerError
  | poisonedTlpWrite bar => exact h.execPoisonedTlpWrite (bar := bar)
  | createIoSubmissionQueue => exact h.execCreateIoSubmissionQueue
  | createIoCompletionQueue => exact h.execCreateIoCompletionQueue
  | deleteIoSubmissionQueue => exact h.execDeleteIoSubmissionQueue
  | deleteIoCompletionQueue => exact h.execDeleteIoCompletionQueue
  | getLogPage => exact h.execGetLogPage
  | identify => exact h.execIdentify
  | abort => exact h.execAbort
  | setFeatures => exact h.execSetFeatures
  | setFeaturesVolatileWriteCache => exact h.execSetFeaturesVolatileWriteCache
  | setFeaturesTimestamp => exact h.execSetFeaturesTimestamp
  | getFeatures => exact h.execGetFeatures
  | getFeaturesTimestamp => exact h.execGetFeaturesTimestamp
  | asynchronousEventRequest => exact h.execAsynchronousEventRequest
  | namespaceCreate => exact h.execNamespaceCreate
  | namespaceDelete => exact h.execNamespaceDelete
  | namespaceAttachment => exact h.execNamespaceAttachment
  | firmwareImageDownload => exact h.execFirmwareImageDownload
  | firmwareCommit => exact h.execFirmwareCommit
  | firmwareActivate => exact h.execFirmwareActivate
  | activationDrainEnd => exact h.execActivationDrainEnd
  | activationTimeout => exact h.execActivationTimeout
  | activationHoldTimeout => exact h.execActivationHoldTimeout
  | securitySend => exact h.execSecuritySend
  | securityReceive => exact h.execSecurityReceive
  | sanitize => exact h.execSanitize
  | sanitizeEnd => exact h.execSanitizeEnd
  | flush => exact h.execFlush
  | write => exact h.execWrite
  | read => exact h.execRead
  | compare => exact h.execCompare
  | writeZeroes => exact h.execWriteZeroes
  | datasetManagement => exact h.execDatasetManagement
  | verify => exact h.execVerify
  | zoneAppend => exact h.execZoneAppend
  | zoneOpen => exact h.execZoneOpen
  | zoneClose => exact h.execZoneClose
  | zoneFinish => exact h.execZoneFinish
  | zoneReset => exact h.execZoneReset
  | reportZones => exact h.execReportZones
  | invalidCommandOpcode => exact h.execInvalidCommandOpcode
  | kioskPost => exact h.execKioskPost
  | kioskReceive => exact h.execKioskReceive
  | kioskDiscRead => exact h.execKioskDiscRead
  | getInfo => exact h.execGetInfo
  | hdaState => exact h.execHdaState
  | spinDown => exact h.execSpinDown
  | spinUp => exact h.execSpinUp
  | ways => exact h.execWays
  | setSubsys => exact h.execSetSubsys
  | setAccel => exact h.execSetAccel
  | iceClear => exact h.execIceClear
  | shedChallenge => exact h.execShedChallenge
  | shedResponse => exact h.execShedResponse
  | echo => exact h.execEcho
  | unknownOp => exact h.execUnknownOp
  | messageReply => exact h.execMessageReply
  | lockAcquire => exact h.execLockAcquire
  | lockRelease => exact h.execLockRelease
  | lockBreak => exact h.execLockBreak
  | dmaStart => exact h.execDmaStart
  | dmaStop => exact h.execDmaStop
  | dmaBurst => exact h.execDmaBurst
  | nvProgram => exact h.execNvProgram
  | nvProgramEnd => exact h.execNvProgramEnd
  | nvErase => exact h.execNvErase
  | nvEraseEnd => exact h.execNvEraseEnd
  | nvSuspend => exact h.execNvSuspend
  | nvResume => exact h.execNvResume
  | nvBlankCheck => exact h.execNvBlankCheck
  | nvsWindowRead => exact h.execNvsWindowRead
  | recordRead => exact h.execRecordRead
  | recordWrite => exact h.execRecordWrite
  | recordWriteEnd => exact h.execRecordWriteEnd
  | slotCommit => exact h.execSlotCommit
  | slotCommitActivate => exact h.execSlotCommitActivate
  | slotActivate => exact h.execSlotActivate
  | commitEnd => exact h.execCommitEnd
  | ghInfo => exact h.execGhInfo
  | setFence => exact h.execSetFence
  | retract => exact h.execRetract
  | recover => exact h.execRecover
  | releaseSpindle => exact h.execReleaseSpindle
  | chopperTest => exact h.execChopperTest
  | chopperTestEnd => exact h.execChopperTestEnd
  | setNotice => exact h.execSetNotice
  | inject => exact h.execInject
  | retractRegTimeout => exact h.execRetractRegTimeout
  | retractPoll => exact h.execRetractPoll
  | retractTimeout => exact h.execRetractTimeout
  | supplyExcursion => exact h.execSupplyExcursion
  | supplyFault => exact h.execSupplyFault
  | supplyRecovered => exact h.execSupplyRecovered
  | temperatureSample => exact h.execTemperatureSample
  | thermalDetected => exact h.execThermalDetected
  | thermalGrave => exact h.execThermalGrave
  | lockstepMismatch => exact h.execLockstepMismatch
  | ghSramUncorrectable => exact h.execGhSramUncorrectable
  | noticeRead => exact h.execNoticeRead
  | supplyStickyRead => exact h.execSupplyStickyRead
  | sundialRead => exact h.execSundialRead
  | epochHiWrite => exact h.execEpochHiWrite
  | epochLoWrite => exact h.execEpochLoWrite
  | compareWrite => exact h.execCompareWrite
  | timerCompare => exact h.execTimerCompare
  | histogramSample => exact h.execHistogramSample
  | snapshotCapture => exact h.execSnapshotCapture
  | snapshotWrite => exact h.execSnapshotWrite
  | foldAdd => exact h.execFoldAdd
  | icehouseClear => exact h.execIcehouseClear
  | imageVerify => exact h.execImageVerify
  | imageVerifyEnd => exact h.execImageVerifyEnd
  | measurementExtend => exact h.execMeasurementExtend
  | keyEnroll => exact h.execKeyEnroll
  | shedClose => exact h.execShedClose
  | nonceExpired => exact h.execNonceExpired
  | spdmGetVersion => exact h.execSpdmGetVersion
  | spdmGetCapabilities => exact h.execSpdmGetCapabilities
  | spdmNegotiateAlgorithms => exact h.execSpdmNegotiateAlgorithms
  | spdmGetDigests => exact h.execSpdmGetDigests
  | spdmGetCertificate => exact h.execSpdmGetCertificate
  | spdmChallenge => exact h.execSpdmChallenge
  | spdmGetMeasurements => exact h.execSpdmGetMeasurements
  | smbusSetPointer => exact h.execSmbusSetPointer
  | smbusBlockRead => exact h.execSmbusBlockRead
  | smbusCopyRefresh => exact h.execSmbusCopyRefresh
  | bypass => exact h.execBypass
  | idcode => exact h.execIdcode
  | samplePreload => exact h.execSamplePreload
  | extest => exact h.execExtest
  | clamp => exact h.execClamp
  | highz => exact h.execHighz
  | alignBlock => exact h.execAlignBlock
  | perstRelease => exact h.execPerstRelease
  | normalShutdown => exact h.execNormalShutdown
  | configurationRequest => exact h.execConfigurationRequest
  | gatehouseSupplyLost => exact h.execGatehouseSupplyLost
  | faultAgedOut => exact h.execFaultAgedOut
  | interruptCoalescingTimeout => exact h.execInterruptCoalescingTimeout

/-- An edge of the reference keeps what is to be kept. -/
theorem tick_keeps (s : State) : Keeps s (tick s) := (Keeps.refl s).tick

/-- A step answers a next state, in the canonical form and with the banks as they must be when the state before it was. -/
theorem step_answers (s : State) : ∃ t, step s = .next t ∧ (Canonical s → Canonical t) ∧ (NvBanks s → NvBanks t) := by
  cases hp : s.pending with
  | nil => exact ⟨tick s, by simp only [step, hp], (tick_keeps s).canonical, (tick_keeps s).banks⟩
  | cons c rest =>
    obtain ⟨t, ht, hk⟩ := exec_answers c { s with pending := rest }
    exact ⟨t, by simp only [step, hp, ht], hk.canonical, hk.banks⟩

/-- A command leaves the queue of waiting commands. -/
theorem exec_pending {c : Instr} {s t : State} (h : exec c s = .next t) : t.pending = s.pending := by
  obtain ⟨u, hu, hk⟩ := exec_answers c s
  cases hu.symm.trans h
  exact hk.pending

/-- Settles O3: each operation of the model keeps the canonical form, the banks and the queue, and each command is made of such operations. -/
theorem stepsKeepCanonicalForm : Obligations.StepsKeepCanonicalForm := by
  refine ⟨fun s => ?_, fun c s t h => exec_pending h, fun s t hb h => ?_⟩
  · obtain ⟨t, ht, hc, -⟩ := step_answers s
    exact ⟨t, ht, hc⟩
  · obtain ⟨u, hu, -, hn⟩ := step_answers s
    cases hu.symm.trans h
    exact hn hb

end Sys2Proof.Machine

namespace Sys2Proof.Machine

/- One by one, as the proofs before. -/
set_option Elab.async false

variable {m : Master} {k : Nat} {v : W32} {r : RegSpec} {s t : State}

/-! ### Refused writes and bad accesses (R6, R37) -/

/-- A saturating increment is what is read back: the sum cut at the top fits the register. -/
theorem rd_incSat_toNat (s : State) (r : Reg) (n : Nat) : ((s.incSat r n).rd r).toNat = satAdd 32 (s.rd r).toNat n := by
  have hs : satAdd 32 (s.rd r).toNat n < 2 ^ 32 := by simp only [satAdd]; omega
  rw [State.incSat, rd_wr_same, BitVec.toNat_ofNat, Nat.mod_eq_of_lt hs]

theorem denied_deny (s : State) : Denied s (deny s) := rd_incSat_toNat s _ 1

theorem badAccess_counts (s : State) : BadAccess s (badAccess s) := rd_incSat_toNat s _ 1

theorem sameRegs_wr (s : State) (r : Reg) (v : W32) : SameRegs (fun k => k = r.key) s (s.wr r v) := fun _ h => rd_wr_ne s v h

theorem sameRegs_deny (s : State) : SameRegs (fun k => k = PWR_DENIED_WRITES.key) s (deny s) := sameRegs_wr s _ _

theorem sameRegs_badAccess (s : State) : SameRegs (fun k => k = PWR_BAD_ACCESS.key) s (badAccess s) := sameRegs_wr s _ _

theorem sameMemory_of_eq (hm : t.mem = s.mem) (hn : t.nv = s.nv) : SameMemory s t :=
  ⟨fun _ => by rw [State.rdByte, hm, State.rdByte], fun _ => by rw [State.rdNv, hn, State.rdNv]⟩

theorem sameMemory_deny (s : State) : SameMemory s (deny s) := sameMemory_of_eq (deny_mem s) (deny_nv s)

theorem sameCtrs_of_eq {p : Nat → Prop} (h : t.ctrs = s.ctrs) : SameCtrs p s t := fun _ _ => by rw [State.ctr, h, State.ctr]

/-! ### The microcode store holds no register (R29) -/

/-- The greatest offset that strides can reach. -/
def strideSpan : List (Nat × Nat) → Nat
  | [] => 0
  | (st, n) :: r => st * (n - 1) + strideSpan r

theorem le_strideSpan_of_strideHas {l : List (Nat × Nat)} {off : Nat} (h : strideHas l off = true) : off ≤ strideSpan l := by
  induction l generalizing off with
  | nil => simp only [strideHas, beq_iff_eq] at h; exact Nat.le_of_eq h
  | cons e l ih =>
    obtain ⟨st, n⟩ := e
    simp only [strideHas, Bool.and_eq_true, decide_eq_true_eq] at h
    obtain ⟨hn, hl⟩ := h
    calc off = st * (off / st) + off % st := (Nat.div_add_mod off st).symm
      _ ≤ st * (n - 1) + strideSpan l := Nat.add_le_add (Nat.mul_le_mul_left st (Nat.le_sub_one_of_lt hn)) (ih hl)

/-- Whether an entry lies past the blocks of the actuators, or below the microcode store in each block it has: in one block, or with a first
stride of 40000h in every one. -/
def RegSpec.offStore (r : RegSpec) : Bool :=
  decide (0x41000000 ≤ r.base) || decide (r.base % 0x40000 + strideSpan r.strides < 0x10000) ||
    match r.strides with
    | (0x40000, _) :: l => decide (r.base % 0x40000 + strideSpan l < 0x10000)
    | _ => false

theorem inStore_iff : inStore k = true ↔ 0x40000000 ≤ k ∧ k < 0x41000000 ∧ 0x10000 ≤ k % 0x40000 ∧ k % 0x40000 < 0x18000 := by
  rw [inStore, decide_eq_true_eq]

theorem inStore_eq_false_of_covers (ho : r.offStore = true) (hc : r.covers k = true) : inStore k = false := by
  simp only [RegSpec.covers, Bool.and_eq_true, decide_eq_true_eq] at hc
  obtain ⟨hb, hk⟩ := hc
  rw [Bool.eq_false_iff, ne_eq, inStore_iff]
  simp only [RegSpec.offStore, Bool.or_eq_true, decide_eq_true_eq] at ho
  rcases ho with (hbase | hspan) | hact
  · omega
  · have := le_strideSpan_of_strideHas hk
    omega
  · split at hact
    · next n l hl =>
      rw [hl] at hk
      simp only [strideHas, Bool.and_eq_true, decide_eq_true_eq] at hk hact
      have := le_strideSpan_of_strideHas hk.2
      omega
    · cases hact

theorem regTable_offStore : regTable.all RegSpec.offStore = true := by decide +kernel

theorem specOf_eq_none_of_inStore (h : inStore k = true) : specOf k = none := by
  refine List.find?_eq_none.mpr fun r hr hc => ?_
  rw [inStore_eq_false_of_covers (List.all_eq_true.mp regTable_offStore r hr) hc] at h
  cases h

/-! ### Regions of the address map (R26) -/

theorem inRegs_of_inStore (h : inStore k = true) : inRegs k = true := by
  rw [inStore_iff] at h
  rw [inRegs, decide_eq_true_eq]
  omega

theorem inSram_iff : inSram k = true ↔ 0x20000000 ≤ k ∧ k < 0x20800000 := by rw [inSram, decide_eq_true_eq]

theorem inNvWin_iff : inNvWin k = true ↔ 0x10000000 ≤ k ∧ k < 0x12000000 := by rw [inNvWin, decide_eq_true_eq]

theorem inRegs_eq_false_of_lt (h : k < 0x40000000) : inRegs k = false := by
  rw [inRegs, decide_eq_false_iff_not]
  omega

theorem inDram_eq_false_of_lt (h : k < 0x1000000000) : inDram k = false := by
  rw [inDram, decide_eq_false_iff_not]
  omega

theorem gatedOff_eq_false_of_gateDom (hd : inDram k = false) (hg : gateDom k = none) : gatedOff k s = false := by
  simp only [gatedOff, hd, hg, Bool.false_eq_true, if_false]

/-! ### A write of memory that is not DRAM -/

theorem lt_of_mem_blocksOf {a n b : Nat} (h : b ∈ blocksOf a n) : b < a + n := by
  rw [blocksOf, List.mem_filter, decide_eq_true_eq] at h
  exact h.2

/-- An armed flip mask waits for a write of DRAM (R299). -/
theorem flipTake_below_dram {a n : Nat} (h : a + n ≤ 0x1000000000) (s : State) : flipTake a n s = s := by
  unfold flipTake
  split
  · rfl
  · split
    · rfl
    · next b hb =>
      have hd := List.find?_some hb
      rw [inDram_eq_false_of_lt (Nat.lt_of_lt_of_le (lt_of_mem_blocksOf (List.mem_of_find?_eq_some hb)) h)] at hd
      cases hd

theorem wrMem_below_dram {a : Nat} {l : List Byte} (hn : 0 < l.length) (h : a + l.length ≤ 0x1000000000) (s : State) :
    s.wrMem a l = s.wrBytes a l := by
  have hw : wayOff a s = false := by rw [wayOff, inDram_eq_false_of_lt (by omega), Bool.false_and]
  rw [State.wrMem, hw, if_neg Bool.false_ne_true, flipTake_below_dram h]

theorem rdBytes_wrBytes (s : State) (a : Nat) (l : List Byte) : (s.wrBytes a l).rdBytes a l.length = l := by
  refine List.ext_getElem (by simp [State.rdBytes]) fun i _ h => ?_
  simp only [State.rdBytes, List.getElem_map, List.getElem_range]
  exact rdByte_wrBytes_in s a l h

theorem leBytes_length (n j : Nat) : (leBytes n j).length = j := by simp [leBytes]

/-! ### A write by address, case by case -/

theorem exec_registerWrite_host {a : Addr} (hm : m.toNat = 9) : exec (.registerWrite m a v) s = .next (hostWrite a.toNat v s) := by
  simp only [exec, execRegisterWrite, hm, if_true, ok]

theorem exec_registerWrite_bus {a : Addr} (hm : m.toNat ≠ 9) : exec (.registerWrite m a v) s = .next (busWrite m a.toNat v s) := by
  simp only [exec, execRegisterWrite, hm, if_false, ok]

theorem mayCmd_of_ne (hm : m.toNat ≠ 9) : mayCmd m = true := by simpa [mayCmd] using hm

theorem busWrite_of_inRegs (hr : inRegs k = true) (ha : k % 4 = 0) : busWrite m k v s = regWrite m k v s := by
  rw [busWrite, if_pos hr, if_pos ha]

theorem busWrite_of_memory (hm : m.toNat ≠ 9) (hr : inRegs k = false) : busWrite m k v s = memWrite k v s := by
  rw [busWrite, if_neg (by simp [hr]), if_pos (mayCmd_of_ne hm)]

theorem regWrite_of_gatedOff (hg : gatedOff k s = true) : regWrite m k v s = badAccess s := by rw [regWrite, if_pos hg]

theorem regWrite_of_unassigned (hg : gatedOff k s = false) (hn : specOf k = none) (hc : ctrOf k = none) (hi : inStore k = false) :
    regWrite m k v s = s := by
  simp [regWrite, hg, hn, hc, hi]

theorem regWrite_of_inStore (hg : gatedOff k s = false) (hi : inStore k = true) : regWrite m k v s = deny s := by
  simp [regWrite, hg, specOf_eq_none_of_inStore hi, hi]

theorem regWrite_of_spec (hg : gatedOff k s = false) (hs : specOf k = some r) (hk : k < 0x44000000 ∨ 0x44016000 ≤ k) :
    regWrite m k v s = if writable m r s then wrBlock m r k v s else deny s := by
  have hw : (decide (0x44000000 ≤ k) && decide (k < 0x44016000)) = false := by
    rw [Bool.and_eq_false_iff, decide_eq_false_iff_not, decide_eq_false_iff_not]
    omega
  simp [regWrite, hg, hs, hw]

theorem plain_of_writable {reg : Reg} (hw : writable m r s = true) (hp : (wordPut m r (s.rd reg) v s).2 = false) :
    plain m r reg v s = s.wr reg (wordPut m r (s.rd reg) v s).1 := by
  rw [writable] at hw
  simp only [plain, hw, hp, if_true, Bool.false_eq_true, if_false]

theorem hostWrite_of_not_barOk (hb : barOk s = false) : hostWrite k v s = s := by simp [hostWrite, hb]

theorem hostWrite_bar0 (hb : barOk s = true) (ha : k % 2 ^ 32 % 4 = 0) (hq : k / 2 ^ 32 = 0) (hk : k % 2 ^ 32 < 0x4000) :
    hostWrite k v s = bar0Write (k % 2 ^ 32) v s := by
  simp only [hostWrite, hb, ha, hq, hk, Bool.not_true, bne_self_eq_false, Bool.or_self, Bool.false_eq_true, if_false, if_true]

theorem hostWrite_bar2 (hb : barOk s = true) (ha : k % 2 ^ 32 % 4 = 0) (hq : k / 2 ^ 32 = 1) (hk : k % 2 ^ 32 < 0x400000) :
    hostWrite k v s = bar2Write (k % 2 ^ 32) v s := by
  simp only [hostWrite, hb, ha, hq, hk, Bool.not_true, bne_self_eq_false, Bool.or_self, Bool.false_eq_true, if_false, if_true]

theorem bar0Write_reserved {off : Nat} (h : 0x1408 ≤ off) : bar0Write off v s = deny s := by
  rw [bar0Write, if_neg (by omega), if_pos h]

theorem bar2Write_reserved {off : Nat} (h : 0x2000 ≤ off) : bar2Write off v s = deny s := by rw [bar2Write, if_neg (by omega)]

theorem hostWrite_reserved (hb : barOk s = true) (ha : k % 4 = 0)
    (hk : 0x1408 ≤ k ∧ k < 0x4000 ∨ 0x100002000 ≤ k ∧ k < 0x100400000) : hostWrite k v s = deny s := by
  rcases hk with hk | hk
  · rw [hostWrite_bar0 hb (by omega) (by omega) (by omega), bar0Write_reserved (by omega)]
  · rw [hostWrite_bar2 hb (by omega) (by omega) (by omega), bar2Write_reserved (by omega)]

/-! ### CLK_STATUS and BUF_FLIPMASK0 -/

/-- The entry of CLK_STATUS in the register map (R502). -/
def clkStatusSpec : RegSpec :=
  ⟨0x49010004, [], .chip, 0, [⟨F_CLK_STATUS_REF_LOST, .ro, 0, 1⟩, ⟨F_CLK_STATUS_REF_LOST_STICKY, .w1c, 0, 1⟩, ⟨⟨3, 1⟩, .ro, 0, 1⟩, ⟨⟨0, 2⟩, .ro, 0, 3⟩]⟩

theorem specOf_clkStatus : specOf 0x49010004 = some clkStatusSpec := by decide +kernel

theorem regWrite_clkStatus (hm : m.toNat ≠ 9) :
    regWrite m 0x49010004 v s = s.wr CLK_STATUS (s.rd CLK_STATUS &&& ~~~ (v &&& fmask F_CLK_STATUS_REF_LOST_STICKY)) := by
  have hw : writable m clkStatusSpec s = true := by simp [writable, clkStatusSpec, mayField, mayCmd_of_ne hm]
  have hp : wordPut m clkStatusSpec (s.rd CLK_STATUS) v s = (s.rd CLK_STATUS &&& ~~~ (v &&& fmask F_CLK_STATUS_REF_LOST_STICKY), false) := by
    simp [wordPut, clkStatusSpec, mayField, mayCmd_of_ne hm, fieldPut]
  rw [regWrite_of_spec (gatedOff_eq_false_of_gateDom rfl rfl) specOf_clkStatus (by omega), if_pos hw]
  change plain m clkStatusSpec CLK_STATUS v s = _
  rw [plain_of_writable hw (by rw [hp]), hp]

/-- A word with the 1 bits that a write holds in a W1C field cleared: the field keeps its other bits. -/
theorem fget_clear_same {w v : W32} {f : Fld} (hf : f.lo + f.w ≤ 32) {i : Nat} (hi : i < f.w) :
    (fget (w &&& ~~~ (v &&& fmask f)) f).testBit i = ((fget w f).testBit i && !v.getLsbD (f.lo + i)) := by
  have h32 : f.lo + i < 32 := by omega
  have hlt : f.lo + i < f.lo + f.w := by omega
  simp only [fget_testBit, BitVec.getLsbD_and, BitVec.getLsbD_not, fmask_getLsbD f hf, hi, h32, hlt, Nat.le_add_right, decide_true, Bool.true_and,
    Bool.and_true]

theorem fget_clear_ne {w v : W32} {f g : Fld} (hf : f.lo + f.w ≤ 32) (hg : g.lo + g.w ≤ 32) (hd : g.lo + g.w ≤ f.lo ∨ f.lo + f.w ≤ g.lo) :
    fget (w &&& ~~~ (v &&& fmask f)) g = fget w g := by
  refine Nat.eq_of_testBit_eq fun i => ?_
  by_cases hi : i < g.w
  · have h32 : g.lo + i < 32 := by omega
    have ho : (decide (f.lo ≤ g.lo + i) && decide (g.lo + i < f.lo + f.w)) = false := by
      rw [Bool.and_eq_false_iff, decide_eq_false_iff_not, decide_eq_false_iff_not]
      omega
    simp only [fget_testBit, BitVec.getLsbD_and, BitVec.getLsbD_not, fmask_getLsbD f hf, hi, h32, ho, decide_true, Bool.true_and, Bool.and_false,
      Bool.not_false, Bool.and_true]
  · simp only [fget_testBit, hi, decide_false, Bool.false_and]

theorem fget_one_eq {w : W32} {f : Fld} (hf : f.w = 1) : fget w f = ((fget w f).testBit 0).toNat := by
  have := fget_lt w f
  rw [hf] at this
  rw [Nat.testBit_zero]
  obtain h0 | h1 : fget w f = 0 ∨ fget w f = 1 := by omega
  · rw [h0]; rfl
  · rw [h1]; rfl

theorem fget_clear_bit {w v : W32} {f : Fld} (hf : f.lo + f.w ≤ 32) (h1 : f.w = 1) :
    fget (w &&& ~~~ (v &&& fmask f)) f = if v.toNat.testBit f.lo then 0 else fget w f := by
  rw [fget_one_eq h1, fget_clear_same hf (by omega), BitVec.getLsbD, Nat.add_zero]
  split
  · next h => rw [h, Bool.not_true, Bool.and_false, Bool.toNat_false]
  · next h => rw [eq_false_of_ne_true h, Bool.not_false, Bool.and_true, ← fget_one_eq h1]

/-- The entry of BUF_FLIPMASK0 in the register map (R299). -/
def flipmask0Spec : RegSpec := ⟨0x42007F00, [], .chip, 0, [⟨⟨0, 32⟩, .ps, 0, 0xFFFFFFFF⟩]⟩

theorem specOf_flipmask0 : specOf 0x42007F00 = some flipmask0Spec := by decide +kernel

theorem writable_flipmask0 (hm : m.toNat ≠ 9) : writable m flipmask0Spec s = shedOpen 0 s := by
  simp [writable, flipmask0Spec, mayField, mayCmd_of_ne hm]

theorem fset_whole (w v : W32) : fset w ⟨0, 32⟩ (fget v ⟨0, 32⟩) = v := by
  have h : fget v ⟨0, 32⟩ = v.toNat := by simp [fget, Nat.mod_eq_of_lt v.isLt]
  refine BitVec.eq_of_getLsbD_eq fun i hi => ?_
  rw [fset_getLsbD w ⟨0, 32⟩ _ (Nat.le_refl 32), if_pos ⟨Nat.zero_le i, by omega⟩, h]
  rfl

theorem regWrite_flipmask0_open (hm : m.toNat ≠ 9) (ho : shedOpen 0 s = true) : regWrite m 0x42007F00 v s = s.wr BUF_FLIPMASK0 v := by
  have hw : writable m flipmask0Spec s = true := (writable_flipmask0 hm).trans ho
  have hv : fget v ⟨0, 32⟩ ≤ 0xFFFFFFFF := Nat.le_of_lt_succ (fget_lt v ⟨0, 32⟩)
  have hp : wordPut m flipmask0Spec (s.rd BUF_FLIPMASK0) v s = (v, false) := by
    simp [wordPut, flipmask0Spec, mayField, mayCmd_of_ne hm, ho, fieldPut, hv, fset_whole]
  rw [regWrite_of_spec (gatedOff_eq_false_of_gateDom rfl rfl) specOf_flipmask0 (by omega), if_pos hw]
  change plain m flipmask0Spec BUF_FLIPMASK0 v s = _
  rw [plain_of_writable hw (by rw [hp]), hp]

theorem regWrite_flipmask0_closed (hm : m.toNat ≠ 9) (ho : shedOpen 0 s = false) : regWrite m 0x42007F00 v s = deny s := by
  rw [regWrite_of_spec (gatedOff_eq_false_of_gateDom rfl rfl) specOf_flipmask0 (by omega), writable_flipmask0 hm, ho, if_neg Bool.false_ne_true]

/-! ### Writes of memory by address (R393) -/

theorem memWrite_nvWin (h : inNvWin k = true) : memWrite k v s = deny s := by rw [memWrite, if_pos h]

theorem memWrite_sram (h : inSram k = true) : memWrite k v s = s.wrBytes k (leBytes v.toNat 4) := by
  have hk := inSram_iff.mp h
  have hn : ¬ inNvWin k = true := by rw [inNvWin_iff]; omega
  rw [memWrite, if_neg hn, h, Bool.true_or, if_pos rfl, wrMem_below_dram (by rw [leBytes_length]; omega) (by rw [leBytes_length]; omega)]

/-! ### The obligation, clause by clause -/

section Bus

variable {a : Addr}

theorem exec_registerWrite_gatedOff (hm : m.toNat ≠ 9) (hr : inRegs a.toNat = true) (ha : a.toNat % 4 = 0) (hg : gatedOff a.toNat s = true) :
    exec (.registerWrite m a v) s = .next (badAccess s) := by
  rw [exec_registerWrite_bus hm, busWrite_of_inRegs hr ha, regWrite_of_gatedOff hg]

theorem exec_registerWrite_unassigned (hm : m.toNat ≠ 9) (hr : inRegs a.toNat = true) (ha : a.toNat % 4 = 0) (hg : gatedOff a.toNat s = false)
    (hs : specOf a.toNat = none) (hc : ctrOf a.toNat = none) (hi : inStore a.toNat = false) : exec (.registerWrite m a v) s = .next s := by
  rw [exec_registerWrite_bus hm, busWrite_of_inRegs hr ha, regWrite_of_unassigned hg hs hc hi]

theorem exec_registerWrite_inStore (hm : m.toNat ≠ 9) (ha : a.toNat % 4 = 0) (hg : gatedOff a.toNat s = false) (hi : inStore a.toNat = true) :
    exec (.registerWrite m a v) s = .next (deny s) := by
  rw [exec_registerWrite_bus hm, busWrite_of_inRegs (inRegs_of_inStore hi) ha, regWrite_of_inStore hg hi]

theorem exec_registerWrite_not_writable (hm : m.toNat ≠ 9) (hr : inRegs a.toNat = true) (ha : a.toNat % 4 = 0)
    (hk : a.toNat < 0x44000000 ∨ 0x44016000 ≤ a.toNat) (hg : gatedOff a.toNat s = false) (hs : specOf a.toNat = some r)
    (hw : writable m r s = false) : exec (.registerWrite m a v) s = .next (deny s) := by
  rw [exec_registerWrite_bus hm, busWrite_of_inRegs hr ha, regWrite_of_spec hg hs hk, hw, if_neg Bool.false_ne_true]

theorem exec_registerWrite_sram (hm : m.toNat ≠ 9) (h : inSram a.toNat = true) :
    exec (.registerWrite m a v) s = .next (s.wrBytes a.toNat (leBytes v.toNat 4)) := by
  have hk := inSram_iff.mp h
  rw [exec_registerWrite_bus hm, busWrite_of_memory hm (inRegs_eq_false_of_lt (by omega)), memWrite_sram h]

theorem exec_registerWrite_nvWin (hm : m.toNat ≠ 9) (h : inNvWin a.toNat = true) : exec (.registerWrite m a v) s = .next (deny s) := by
  have hk := inNvWin_iff.mp h
  rw [exec_registerWrite_bus hm, busWrite_of_memory hm (inRegs_eq_false_of_lt (by omega)), memWrite_nvWin h]

end Bus

theorem exec_registerWrite_clkStatus (hm : m.toNat ≠ 9) : exec (.registerWrite m 0x49010004 v) s =
    .next (s.wr CLK_STATUS (s.rd CLK_STATUS &&& ~~~ (v &&& fmask F_CLK_STATUS_REF_LOST_STICKY))) := by
  rw [exec_registerWrite_bus hm]
  exact congrArg Host.Outcome.next ((busWrite_of_inRegs rfl rfl).trans (regWrite_clkStatus hm))

theorem exec_registerWrite_flipmask0_open (hm : m.toNat ≠ 9) (ho : shedOpen 0 s = true) :
    exec (.registerWrite m 0x42007F00 v) s = .next (s.wr BUF_FLIPMASK0 v) := by
  rw [exec_registerWrite_bus hm]
  exact congrArg Host.Outcome.next ((busWrite_of_inRegs rfl rfl).trans (regWrite_flipmask0_open hm ho))

theorem exec_registerWrite_flipmask0_closed (hm : m.toNat ≠ 9) (ho : shedOpen 0 s = false) :
    exec (.registerWrite m 0x42007F00 v) s = .next (deny s) := by
  rw [exec_registerWrite_bus hm]
  exact congrArg Host.Outcome.next ((busWrite_of_inRegs rfl rfl).trans (regWrite_flipmask0_closed hm ho))

/-- Settles O4: the case that each clause names ends in `badAccess`, `deny`, a write of one register or of four bytes, or no change at all. -/
theorem registerWrites : Obligations.RegisterWrites := by
  refine ⟨?gated, ?unassigned, ?store, ?readOnly, ?clkStatus, ?flipmask, ?sram, ?nvWin, ?bars, ?reserved⟩
  case gated =>
    intro m a v s hm hr ha hg
    exact ⟨_, exec_registerWrite_gatedOff hm hr ha hg, badAccess_counts s, sameRegs_badAccess s, sameCtrs_of_eq rfl, sameMemory_of_eq rfl rfl, rfl⟩
  case unassigned =>
    intro m a v s hm hr ha hg hs hc hi
    exact exec_registerWrite_unassigned hm hr ha hg hs hc hi
  case store =>
    intro m a v s hm ha hg hi
    exact ⟨_, exec_registerWrite_inStore hm ha hg hi, denied_deny s, sameRegs_deny s, rfl, sameMemory_deny s⟩
  case readOnly =>
    intro m a v r s hm hr ha hk hg hs hw
    exact ⟨_, exec_registerWrite_not_writable hm hr ha hk hg hs hw, denied_deny s, sameRegs_deny s, sameCtrs_of_eq rfl, sameMemory_deny s, rfl, rfl⟩
  case clkStatus =>
    intro m v s hm
    refine ⟨_, exec_registerWrite_clkStatus hm, ?_, ?_, sameRegs_wr s CLK_STATUS _, sameMemory_of_eq rfl rfl⟩
    · rw [State.fld, rd_wr_same]
      exact fget_clear_bit (by decide) rfl
    · rw [State.fld, rd_wr_same]
      exact fget_clear_ne (by decide) (by decide) (by decide)
  case flipmask =>
    intro m v s hm
    refine ⟨fun ho => ?_, fun ho => ?_⟩
    · exact ⟨_, exec_registerWrite_flipmask0_open hm ho, rd_wr_same s _ v, sameRegs_wr s BUF_FLIPMASK0 v⟩
    · exact ⟨_, exec_registerWrite_flipmask0_closed hm ho, denied_deny s, sameRegs_deny s⟩
  case sram =>
    intro m a v s hm h _
    refine ⟨_, exec_registerWrite_sram hm h, rdBytes_wrBytes s _ (leBytes v.toNat 4), fun x hx => ?_, ?_, ?_⟩
    · exact rdByte_wrBytes_out s _ _ (by rw [leBytes_length]; omega)
    · rw [wrBytes_eq]
    · rw [wrBytes_eq]
  case nvWin =>
    intro m a v s hm h
    exact ⟨_, exec_registerWrite_nvWin hm h, denied_deny s, sameRegs_deny s, sameMemory_deny s⟩
  case bars =>
    intro m a v s hm hb
    rw [exec_registerWrite_host hm, hostWrite_of_not_barOk hb]
  case reserved =>
    intro m a v s hm hb ha hk
    exact ⟨_, (exec_registerWrite_host hm).trans (congrArg _ (hostWrite_reserved hb ha hk)), denied_deny s, sameRegs_deny s, sameMemory_deny s, rfl⟩

end Sys2Proof.Machine

namespace Sys2Proof.Machine

/- One by one, as the proofs before. -/
set_option Elab.async false

variable {m : Master} {k n off : Nat} {w : W32} {s : State}

/-! ### The answer 0 of an access without effect (R26, R27, R37) -/

/-- The state after an access that is counted as bad and reads 0. -/
def countedZero (s : State) : State := { badAccess s with rdata := 0, busErr := false }

theorem badAccess_countedZero (s : State) : BadAccess s (countedZero s) := badAccess_counts s

theorem sameRegs_countedZero (s : State) : SameRegs (fun k => k = PWR_BAD_ACCESS.key) s (countedZero s) := sameRegs_badAccess s

theorem sameMemory_countedZero (s : State) : SameMemory s (countedZero s) := sameMemory_of_eq (badAccess_mem s) (badAccess_nv s)

theorem widthOk_eq_true_iff {a n : Nat} : widthOk a n = true ↔ n = 4 ∧ a % 4 = 0 ∨ n = 8 ∧ a % 8 = 0 := by
  simp only [widthOk, Bool.or_eq_true, Bool.and_eq_true, beq_iff_eq]

theorem exec_unmappedAccess_unmapped {a : Addr} (hm : m.toNat ≠ 9) (ha : mapped a.toNat = false) :
    exec (.unmappedAccess m a) s = .next { s with busErr := true, rdata := 0 } :=
  congrArg Host.Outcome.next (if_pos ⟨hm, ha⟩)

theorem exec_unmappedAccess_mapped {a : Addr} (ha : mapped a.toNat = true) : exec (.unmappedAccess m a) s = .next { s with busErr := false } :=
  congrArg Host.Outcome.next (if_neg fun h => by rw [ha] at h; cases h.2)

theorem exec_badWidthAccess_bad {a : Addr} (hm : m.toNat ≠ 9) (hr : inRegs a.toNat = true) (hw : ¬ widthOk a.toNat n = true) :
    exec (.badWidthAccess m a n) s = .next (countedZero s) :=
  congrArg Host.Outcome.next (if_pos ⟨hm, hr, eq_false_of_ne_true hw⟩)

theorem exec_badWidthAccess_allowed {a : Addr} (hw : widthOk a.toNat n = true) : exec (.badWidthAccess m a n) s = .next s :=
  congrArg Host.Outcome.next (if_neg fun h => by rw [hw] at h; cases h.2.2)

theorem exec_poweredOffAccess_off {a : Addr} (hm : m.toNat ≠ 9) (hg : gatedOff a.toNat s = true) :
    exec (.poweredOffAccess m a) s = .next (countedZero s) :=
  congrArg Host.Outcome.next (if_pos ⟨hm, hg⟩)

theorem exec_poweredOffAccess_on {a : Addr} (hg : gatedOff a.toNat s = false) : exec (.poweredOffAccess m a) s = .next s :=
  congrArg Host.Outcome.next (if_neg fun h => by rw [hg] at h; cases h.2)

/-! ### Host accesses without effect (R31, R32) -/

theorem exec_hostReservedAccess_read {b : Slot} {o : W32} (hv : 0 < hostVoid b.toNat o.toNat n) (hw : readWindow b.toNat o.toNat = false) :
    exec (.hostReservedAccess b o n false) s = .next { s with rdata := 0 } := by
  have hv : hostVoid b.toNat o.toNat n ≠ 0 := Nat.ne_of_gt hv
  simp [exec, execHostReservedAccess, hv, hw, ok]

theorem exec_hostReservedAccess_counted {b : Slot} {o : W32} (hv : hostVoid b.toNat o.toNat n = 2) (hb : barOk s = true) :
    exec (.hostReservedAccess b o n true) s = .next (deny s) := by
  simp [exec, execHostReservedAccess, hv, hb, ok]

theorem exec_hostReservedAccess_discarded {b : Slot} {o : W32}
    (hv : hostVoid b.toNat o.toNat n = 1 ∨ hostVoid b.toNat o.toNat n = 2 ∧ barOk s = false) :
    exec (.hostReservedAccess b o n true) s = .next s := by
  rcases hv with hv | ⟨hv, hb⟩
  · simp [exec, execHostReservedAccess, hv, ok]
  · simp [exec, execHostReservedAccess, hv, hb, ok]

/-! ### The first words of the snapshot groups (R33) -/

/-- The offsets that strides reach, one by one. -/
def strideOffsets : List (Nat × Nat) → List Nat
  | [] => [0]
  | (st, n) :: r => (List.range n).flatMap fun i => (strideOffsets r).map (st * i + ·)

theorem mem_strideOffsets {l : List (Nat × Nat)} {d : Nat} (h : strideHas l d = true) : d ∈ strideOffsets l := by
  induction l generalizing d with
  | nil => simpa [strideHas, strideOffsets] using h
  | cons e l ih =>
    obtain ⟨st, n⟩ := e
    simp only [strideHas, Bool.and_eq_true, decide_eq_true_eq] at h
    obtain ⟨hn, hl⟩ := h
    simp only [strideOffsets, List.mem_flatMap, List.mem_range, List.mem_map]
    exact ⟨d / st, hn, d % st, ih hl, Nat.div_add_mod d st⟩

/-- The addresses of the first words of all groups, one for each place that the strides reach. -/
def snapHeads : List Nat := (snapTable ++ snapTable2).flatMap fun g => (strideOffsets g.2.1).map (g.1 + ·)

theorem snapWords_eq_some (h : snapWords k = some n) :
    ∃ g ∈ snapTable ++ snapTable2, (g.1 ≤ k ∧ strideHas g.2.1 (k - g.1) = true) ∧ g.2.2 = n := by
  rw [snapWords, Option.map_eq_some_iff] at h
  obtain ⟨g, hg, hn⟩ := h
  have hk := List.find?_some hg
  rw [Bool.and_eq_true, decide_eq_true_eq] at hk
  exact ⟨g, List.mem_of_find?_eq_some hg, hk, hn⟩

theorem mem_snapHeads (h : snapWords k = some n) : k ∈ snapHeads := by
  obtain ⟨g, hg, ⟨hle, hs⟩, -⟩ := snapWords_eq_some h
  exact List.mem_flatMap.mpr ⟨g, hg, List.mem_map.mpr ⟨k - g.1, mem_strideOffsets hs, Nat.add_sub_cancel' hle⟩⟩

theorem snapTable_le_128 : (snapTable ++ snapTable2).all (fun g => decide (g.2.2 ≤ 128)) = true := by decide +kernel

theorem snapWords_le_128 (h : snapWords k = some n) : n ≤ 128 := by
  obtain ⟨g, hg, -, rfl⟩ := snapWords_eq_some h
  exact of_decide_eq_true (List.all_eq_true.mp snapTable_le_128 g hg)

theorem snapHeads_aligned : snapHeads.all (fun k => inRegs k && (k % 4 == 0) && (k != HIF_URG0.key) && (k != HIF_URG1.key)) = true := by
  decide +kernel

/-- The first word of a group is an aligned register address, and none of HIF_URG, whose capture is another (R327). -/
theorem snapWords_aligned (h : snapWords k = some n) : inRegs k = true ∧ k % 4 = 0 ∧ k ≠ HIF_URG0.key ∧ k ≠ HIF_URG1.key := by
  have hk := List.all_eq_true.mp snapHeads_aligned k (mem_snapHeads h)
  simpa only [Bool.and_eq_true, beq_iff_eq, bne_iff_ne, and_assoc] using hk

/-- Whether an entry has a field that a read changes. -/
def RegSpec.readChanges (r : RegSpec) : Bool := r.fields.any (fun f => f.acc == .rc || f.acc == .rs)

theorem exists_covers_of_readActs (h : readActs k = true) : ∃ r ∈ regTable, r.readChanges = true ∧ r.covers k = true := by
  unfold readActs at h
  split at h
  · next r hr =>
    rw [specOf] at hr
    exact ⟨r, List.mem_of_find?_eq_some hr, h, List.find?_some (p := fun r : RegSpec => r.covers k) hr⟩
  · cases h

theorem regTable_readChanges_off_snapHeads :
    regTable.all (fun r => !r.readChanges || snapHeads.all (fun k => !r.covers k)) = true := by decide +kernel

/-- No group begins with a word that a read changes, so each capture is a read of its own row. -/
theorem readActs_eq_false_of_snapWords (h : snapWords k = some n) : readActs k = false := by
  refine eq_false_of_ne_true fun ha => ?_
  obtain ⟨r, hr, hc, hk⟩ := exists_covers_of_readActs ha
  have hno := List.all_eq_true.mp regTable_readChanges_off_snapHeads r hr
  rw [hc, Bool.not_true, Bool.false_or] at hno
  have hnk := List.all_eq_true.mp hno k (mem_snapHeads h)
  rw [hk] at hnk
  cases hnk

/-! ### What a capture holds and what it leaves alone (R33, R35, R457) -/

theorem snapRead_snapPut_same (off k : Nat) (w : W32) (s : State) : snapRead off k (snapPut off k w s) = w := tget_tput_same _ _ _ _

theorem snapRead_snapPut_ne {off' k' : Nat} (h : k' + off' ≠ k + off) : snapRead off' k' (snapPut off k w s) = snapRead off' k' s :=
  tget_tput_ne _ _ _ _ h

/-- Words put one after the other into the captures: a listed one reads as its word, any other as before. -/
theorem snapRead_each_snapPut (f : Nat → W32) (l : List Nat) (j : Nat) :
    snapRead off (k + 4 * j) (each l (fun i t => snapPut off (k + 4 * i) (f i) t) s) = if j ∈ l then f j else snapRead off (k + 4 * j) s := by
  induction l generalizing s with
  | nil => simp [each]
  | cons i l ih =>
    rw [each, ih]
    by_cases hl : j ∈ l
    · rw [if_pos hl, if_pos (List.mem_cons_of_mem i hl)]
    · by_cases hi : j = i
      · subst hi
        rw [if_neg hl, if_pos List.mem_cons_self, snapRead_snapPut_same]
      · rw [if_neg hl, if_neg (by simp [hi, hl]), snapRead_snapPut_ne (by omega)]

theorem snapRead_snapTake {j : Nat} (hj : j < n) : snapRead off (k + 4 * j) (snapTake off k n s) = regWord (k + 4 * j) s :=
  (snapRead_each_snapPut (fun i => regWord (k + 4 * i) s) _ j).trans (if_pos (List.mem_range.mpr hj))

/-- `each_same` for steps that leave the value alone only for the elements of the list. -/
theorem each_same_of_mem {α β : Type} (p : State → β) (l : List α) (f : α → State → State) (s : State) (hf : ∀ x ∈ l, ∀ t, p (f x t) = p t) :
    p (each l f s) = p s := by
  induction l generalizing s with
  | nil => rfl
  | cons x r ih => rw [each, ih _ fun y hy => hf y (List.mem_cons_of_mem x hy), hf x List.mem_cons_self]

theorem snapRead_snapTake_ne {off' k' : Nat} (h : ∀ i < n, k' + off' ≠ k + 4 * i + off) :
    snapRead off' k' (snapTake off k n s) = snapRead off' k' s :=
  each_same_of_mem (snapRead off' k') _ _ s fun i hi _ => snapRead_snapPut_ne (h i (List.mem_range.mp hi))

@[simp] theorem snapTake_regs (off k n : Nat) (s : State) : (snapTake off k n s).regs = s.regs := each_same State.regs _ _ s fun _ _ => rfl
@[simp] theorem snapTake_ctrs (off k n : Nat) (s : State) : (snapTake off k n s).ctrs = s.ctrs := each_same State.ctrs _ _ s fun _ _ => rfl
@[simp] theorem snapTake_mem (off k n : Nat) (s : State) : (snapTake off k n s).mem = s.mem := each_same State.mem _ _ s fun _ _ => rfl
@[simp] theorem snapTake_nv (off k n : Nat) (s : State) : (snapTake off k n s).nv = s.nv := each_same State.nv _ _ s fun _ _ => rfl

theorem minFreeAgain_of_ne (h : k ≠ 0x40006104) : minFreeAgain k s = s := if_neg h

/-- Of the whole state only RCH_POOL_STATE2 may change with a capture of the pool's group. -/
theorem minFreeAgain_eq_or (k : Nat) (s : State) : minFreeAgain k s = s ∨ ∃ w, minFreeAgain k s = s.wr RCH_POOL_STATE2 w := by
  by_cases h : k = 0x40006104
  · exact .inr ⟨_, if_pos h⟩
  · exact .inl (minFreeAgain_of_ne h)

@[simp] theorem minFreeAgain_snap (k : Nat) (s : State) : (minFreeAgain k s).snap = s.snap := by
  obtain h | ⟨w, h⟩ := minFreeAgain_eq_or k s <;> simp only [h, wr_snap]

@[simp] theorem minFreeAgain_ctrs (k : Nat) (s : State) : (minFreeAgain k s).ctrs = s.ctrs := by
  obtain h | ⟨w, h⟩ := minFreeAgain_eq_or k s <;> simp only [h, wr_ctrs]

@[simp] theorem minFreeAgain_mem (k : Nat) (s : State) : (minFreeAgain k s).mem = s.mem := by
  obtain h | ⟨w, h⟩ := minFreeAgain_eq_or k s <;> simp only [h, wr_mem]

@[simp] theorem minFreeAgain_nv (k : Nat) (s : State) : (minFreeAgain k s).nv = s.nv := by
  obtain h | ⟨w, h⟩ := minFreeAgain_eq_or k s <;> simp only [h, wr_nv]

theorem sameRegs_minFreeAgain (k : Nat) (s : State) : SameRegs (fun k => k = RCH_POOL_STATE2.key) s (minFreeAgain k s) := by
  obtain h | ⟨w, h⟩ := minFreeAgain_eq_or k s <;> rw [h]
  · exact fun _ _ => rfl
  · exact sameRegs_wr s _ w

theorem snapCapture_of_snapWords (h : snapWords k = some n) :
    snapCapture off k s = { minFreeAgain k (snapTake off k n s) with rdata := regWord k s } := by
  simp only [snapCapture, h]

theorem snapCapture_rdata (h : snapWords k = some n) : (snapCapture off k s).rdata = regWord k s := by rw [snapCapture_of_snapWords h]

theorem snapCapture_snap (h : snapWords k = some n) : (snapCapture off k s).snap = (snapTake off k n s).snap := by
  rw [snapCapture_of_snapWords h]
  exact minFreeAgain_snap k _

/-- A captured word is the word as it stood at the read. -/
theorem snapRead_snapCapture {j : Nat} (h : snapWords k = some n) (hj : j < n) :
    snapRead off (k + 4 * j) (snapCapture off k s) = regWord (k + 4 * j) s := by
  rw [snapRead, snapCapture_snap h]
  exact snapRead_snapTake hj

/-- The captures of the masters and those of the mirror, 2^56 apart, do not meet. -/
theorem snapRead_snapCapture_ne {off' k' : Nat} (h : snapWords k = some n) (ho : ∀ i < n, k' + off' ≠ k + 4 * i + off) :
    snapRead off' k' (snapCapture off k s) = snapRead off' k' s := by
  rw [snapRead, snapCapture_snap h]
  exact snapRead_snapTake_ne ho

theorem sameRegs_snapCapture (h : snapWords k = some n) : SameRegs (fun k => k = RCH_POOL_STATE2.key) s (snapCapture off k s) := by
  rw [snapCapture_of_snapWords h]
  intro r hr
  calc (minFreeAgain k (snapTake off k n s)).rd r = (snapTake off k n s).rd r := sameRegs_minFreeAgain k _ r hr
    _ = s.rd r := by rw [State.rd, snapTake_regs, State.rd]

theorem snapCapture_regs (h : snapWords k = some n) (hk : k ≠ 0x40006104) : (snapCapture off k s).regs = s.regs := by
  rw [snapCapture_of_snapWords h, minFreeAgain_of_ne hk]
  exact snapTake_regs off k n s

theorem snapCapture_ctrs (h : snapWords k = some n) : (snapCapture off k s).ctrs = s.ctrs := by
  rw [snapCapture_of_snapWords h]
  exact (minFreeAgain_ctrs k _).trans (snapTake_ctrs off k n s)

theorem sameMemory_snapCapture (h : snapWords k = some n) : SameMemory s (snapCapture off k s) := by
  rw [snapCapture_of_snapWords h]
  exact sameMemory_of_eq ((minFreeAgain_mem k _).trans (snapTake_mem off k n s)) ((minFreeAgain_nv k _).trans (snapTake_nv off k n s))

/-! ### Reads of the first word of a group -/

theorem regRead_of_snapWords {i : Nat} (h : snapWords k = some n) : regRead i off k s = snapCapture off k s := by
  obtain ⟨-, -, h0, h1⟩ := snapWords_aligned h
  rw [regRead, if_neg h0, if_neg h1, if_pos (by rw [h]; rfl)]

theorem exec_snapshotCaptureRead_on {a : Addr} (hm : m.toNat ≠ 9) (h : snapWords a.toNat = some n) (hg : gatedOff a.toNat s = false) :
    exec (.snapshotCaptureRead m a false) s = .next (snapCapture 0 a.toNat s) := by
  obtain ⟨hr, ha, -, -⟩ := snapWords_aligned h
  have hx := readActs_eq_false_of_snapWords h
  simp [exec, execSnapshotCaptureRead, hm, hr, ha, hg, hx, ok, regRead_of_snapWords h]

theorem exec_snapshotCaptureRead_off {a : Addr} (hm : m.toNat ≠ 9) (h : snapWords a.toNat = some n) (hg : gatedOff a.toNat s = true) :
    exec (.snapshotCaptureRead m a false) s = .next { badAccess s with rdata := 0 } := by
  obtain ⟨hr, ha, -, -⟩ := snapWords_aligned h
  simp [exec, execSnapshotCaptureRead, hm, hr, ha, hg, ok]

theorem exec_snapshotCaptureRead_mirror {a : Addr} (h : snapWords a.toNat = some n) (hb : barOk s = true) (hk : inMirror a.toNat = true) :
    exec (.snapshotCaptureRead 9 a true) s = .next (snapCapture (2 ^ 56) a.toNat s) := by
  obtain ⟨-, ha, -, -⟩ := snapWords_aligned h
  simp [exec, execSnapshotCaptureRead, hb, hk, ha, ok, regRead_of_snapWords h]

theorem ne_poolState0_of_inMirror (h : inMirror k = true) : k ≠ 0x40006104 := by
  rw [inMirror, decide_eq_true_eq] at h
  omega

/-- Settles O5: an access without effect ends in a bus error, the answer 0, a count or no change at all, and a read of the first word of a group is
`snapCapture`, since no such word has a read row of its own. -/
theorem accessesSnapshots : Obligations.AccessesSnapshots := by
  refine ⟨?unmapped, ?mapped, ?badWidth, ?goodWidth, ?off, ?on, ?hostRead, ?hostCounted, ?hostDiscarded, ?capture, ?captureOff, ?captureMirror⟩
  case unmapped =>
    intro m a s hm ha
    exact ⟨_, exec_unmappedAccess_unmapped hm ha, rfl⟩
  case mapped =>
    intro m a s ha
    exact ⟨_, exec_unmappedAccess_mapped ha, rfl⟩
  case badWidth =>
    intro m a n s hm hr h4 h8
    have hw : ¬ widthOk a.toNat n = true := fun h => (widthOk_eq_true_iff.mp h).elim h4 h8
    exact ⟨_, exec_badWidthAccess_bad hm hr hw, badAccess_countedZero s, rfl, rfl, sameRegs_countedZero s, rfl, sameMemory_countedZero s⟩
  case goodWidth =>
    intro m a n s hw
    exact exec_badWidthAccess_allowed (widthOk_eq_true_iff.mpr hw)
  case off =>
    intro m a s hm hg
    exact ⟨_, exec_poweredOffAccess_off hm hg, badAccess_countedZero s, rfl, rfl, sameRegs_countedZero s, rfl, sameMemory_countedZero s⟩
  case on =>
    intro m a s hg
    exact exec_poweredOffAccess_on hg
  case hostRead =>
    intro b o n s hv hw
    exact ⟨_, exec_hostReservedAccess_read hv hw, rfl⟩
  case hostCounted =>
    intro b o n s hv hb
    exact ⟨_, exec_hostReservedAccess_counted hv hb, denied_deny s, sameRegs_deny s, rfl, sameMemory_deny s⟩
  case hostDiscarded =>
    intro b o n s hv
    exact exec_hostReservedAccess_discarded hv
  case capture =>
    intro m a n j s hm h hg hj
    have hn := snapWords_le_128 h
    exact ⟨_, exec_snapshotCaptureRead_on hm h hg, snapCapture_rdata h, snapRead_snapCapture h hj, snapRead_snapCapture_ne h (by omega),
      sameRegs_snapCapture h, snapCapture_ctrs h, sameMemory_snapCapture h⟩
  case captureOff =>
    intro m a n s hm h hg
    exact ⟨_, exec_snapshotCaptureRead_off hm h hg, rfl, badAccess_counts s, badAccess_snap s⟩
  case captureMirror =>
    intro a n j s h hb hk hj
    have hn := snapWords_le_128 h
    exact ⟨_, exec_snapshotCaptureRead_mirror h hb hk, snapCapture_rdata h, snapRead_snapCapture h hj, snapRead_snapCapture_ne h (by omega),
      snapCapture_regs h (ne_poolState0_of_inMirror hk), sameMemory_snapCapture h⟩

end Sys2Proof.Machine

namespace Sys2Proof.Machine

variable {a id addr : Nat} {e : FlyEnt} {s t : State}

/-! ### Sectors whose cache way is OFF (R37, R262)

A write there has no effect and counts as a bad access, whether it brings a sector's bytes or its poison. -/

theorem wayOff_of_rd_eq (h : t.rd BUF_WAY_STATE = s.rd BUF_WAY_STATE) : wayOff addr t = wayOff addr s := by
  simp only [wayOff, dramOn, wayState, h]

theorem sectorPoison_of_wayOff (h : wayOff addr s = true) : sectorPoison addr s = badAccess s := if_pos h

theorem sectorWrite_of_wayOff {l : List Byte} (h : wayOff addr s = true) : sectorWrite addr l s = badAccess s := if_pos h

/-- Poison bytes never written mark no granule (R294). -/
theorem poisoned_of_poison_nil (h : s.poison = []) (x : Nat) : s.poisoned x = false := by
  have h0 : poisonByte 0 = false := by decide
  simp only [State.poisoned, h, tget_nil, h0, List.any_eq_false, Bool.false_eq_true, not_false_eq_true, implies_true]

/-- Memory never written reads 0. -/
theorem rdBytes_of_mem_nil (h : s.mem = []) (x n : Nat) : s.rdBytes x n = List.replicate n 0 := by
  simp [State.rdBytes, State.rdByte, h, List.map_const']

/-! ### The release of a pool slot -/

/-- The pool's state registers show its slots; every other register reads the same. -/
theorem rd_poolShow {r : Reg} (h : r.key < 0x40006104 ∨ 0x40006144 < r.key) (s : State) : (poolShow s).rd r = s.rd r := by
  have hne : ∀ q : Reg, 0x40006104 ≤ q.key → q.key ≤ 0x40006144 → r.key ≠ q.key := by omega
  have h0 := hne RCH_POOL_STATE0 (by decide) (by decide)
  have h1 := hne RCH_POOL_STATE1 (by decide) (by decide)
  have h2 := hne RCH_POOL_STATE2 (by decide) (by decide)
  have hd := hne RCH_DR_STATE (by decide) (by decide)
  simp only [poolShow, rd_setf_ne _ _ _ h0, rd_setf_ne _ _ _ h1, rd_setf_ne _ _ _ h2, rd_setf_ne _ _ _ hd]

/-- The slot of an entry returns to FREE, or nothing happens. -/
theorem entRelease_eq_or (a id : Nat) (s : State) :
    entRelease a id s = s ∨ ∃ p, entRelease a id s = modFly a id (fun x => { x with pool := none }) (poolRelease p s) := by
  unfold entRelease
  split
  · split
    · exact .inr ⟨_, rfl⟩
    · exact .inl rfl
  · exact .inl rfl

theorem rd_entRelease {r : Reg} (h : r.key < 0x40006104 ∨ 0x40006144 < r.key) (a id : Nat) (s : State) : (entRelease a id s).rd r = s.rd r := by
  obtain hs | ⟨p, hs⟩ := entRelease_eq_or a id s <;> rw [hs]
  exact rd_poolShow h _

@[simp] theorem entRelease_poison (a id : Nat) (s : State) : (entRelease a id s).poison = s.poison := by
  obtain hs | ⟨p, hs⟩ := entRelease_eq_or a id s <;> rw [hs]
  simp [poolRelease]

/-! ### A poison mark in a sector whose way is OFF (R178) -/

theorem readPoison_poison_of_wayOff (he : flyGet a id s = some e) (hw : wayOff e.addr s = true) : (readPoison a id s).poison = s.poison := by
  have hoff : wayOff e.addr (emit 0x1104 ((entRelease a id s).flag (RCH_FLAGS a) F_RCH_FLAGS_POISON)) = true := by
    rw [wayOff_of_rd_eq (s := s), hw]
    rw [rd_emit _ _ _ (show 0x42000024 ≠ 0x47104010 + 0x20 * evtIndex 0x1104 by omega), State.flag,
      rd_setf_ne _ _ _ (show 0x42000024 ≠ 0x40002014 + 0x40000 * a by omega), rd_entRelease (.inr (by decide))]
  simp only [readPoison, he, sectorPoison_of_wayOff hoff]
  split <;> split <;> simp

/-- SYNC_MARK_DECISION on a poison mark poisons no granule of a sector whose way is OFF. -/
theorem exec_syncMarkDecision_poison_of_wayOff {c : Act} {i : Slot} {n : Nat} (hr : readingEnt c.toNat i.toNat s = some e)
    (he : flyGet c.toNat e.id s = some e) (ho : e.st = .open) (hh : (chain c.toNat i.toNat s).phase = .hunt)
    (hf : syncFind c.toNat i.toNat s = some (true, n)) (hw : wayOff e.addr s = true) (hx : exec (.syncMarkDecision c i) s = .next t) :
    t.poison = s.poison := by
  have hu : (chain c.toNat i.toNat s).hunting = true := by simp [Chain.hunting, hh]
  simp only [exec, execSyncMarkDecision, hr, ho, hu, hf, ok, ne_eq, not_true_eq_false, Bool.not_true, Bool.false_eq_true, or_self, if_false,
    Host.Outcome.next.injEq] at hx
  exact hx ▸ readPoison_poison_of_wayOff (s := modChain c.toNat i.toNat (fun c => { c with phase := .ended }) s) he hw

/-- A sector being read whose place in DRAM is the first byte of way 0, which is OFF after reset (R262). -/
def sectorInOffWay (st : FlySt) : FlyEnt :=
  { id := 1, slot := 0, mode := 0, reread := 0, sector := 0, k := 0, op := 0, cls := 0, tag := 0, cyl := 0, head := 0, base := 0x2000000000, st := st }

/-- After reset, the sector's gate has opened on head slot 0 of actuator 0, and a poison mark stands at its expected place. -/
def poisonMarkInOffWay : State :=
  { State.reset with
    seqs := [(0, { fly := [sectorInOffWay .open] })]
    chains := [(0, { phase := .hunt, bits := (List.replicate syncExpected false ++ poisonMark).map fun b =>
      { llr := if b then -1 else 1, erased := false, pos := 0 } })] }

/-- Refutes O19 in its clause on the poison mark: the sector's place in DRAM may lie in a way that is OFF, where the write of poison has no effect
(R37, R262). The premise that the way is not OFF is missing. -/
theorem not_sectorCapture : ¬ Obligations.SectorCapture := by
  intro h
  obtain ⟨-, -, hpoison, -⟩ := h
  have hr : readingEnt 0 0 poisonMarkInOffWay = some (sectorInOffWay .open) := by decide +kernel
  have he : flyGet 0 1 poisonMarkInOffWay = some (sectorInOffWay .open) := by decide +kernel
  have hh : (chain 0 0 poisonMarkInOffWay).phase = .hunt := by decide +kernel
  have hf : syncFind 0 0 poisonMarkInOffWay = some (true, 192) := by decide +kernel
  have hw : wayOff (sectorInOffWay .open).addr poisonMarkInOffWay = true := by decide +kernel
  obtain ⟨t, hx, -, -, hall, -⟩ := hpoison 0 0 _ 192 poisonMarkInOffWay hr he rfl rfl rfl hh hf
  have hnil : t.poison = [] := exec_syncMarkDecision_poison_of_wayOff (c := 0) (i := 0) hr he rfl hh hf hw hx
  have hfirst := hall 0 (by decide)
  rw [poisoned_of_poison_nil hnil] at hfirst
  cases hfirst

/-! ### A sector that leaves the output queue for a way that is OFF (R191, R197) -/

theorem readDone_mem_of_wayOff {oc iter : Nat} {user : List Byte} (he : flyGet a id s = some e) (hw : wayOff e.addr s = true) :
    (readDone a id oc iter user s).mem = s.mem := by
  simp only [readDone, he, sectorWrite_of_wayOff hw]
  split <;> simp

theorem outDrain_mem_of_wayOff {x : OutSec} {q : List OutSec} (hq : outq a s = x :: q) (he : flyGet a x.id s = some e)
    (hw : wayOff e.addr s = true) : (outDrain a s).mem = s.mem := by
  simp only [outDrain, hq]
  exact readDone_mem_of_wayOff (s := modOutq a (fun _ => q) s) he hw

/-- After reset, the sector waits decoded in the output queue of actuator 0. -/
def decodedForOffWay : State :=
  { State.reset with
    seqs := [(0, { fly := [sectorInOffWay .out] })]
    outqs := [(0, [{ id := 1, oc := 0, iters := 1, user := List.replicate 4096 1 }])] }

/-- Refutes O20 in its clause on the output queue: a decoded sector whose place in DRAM lies in a way that is OFF leaves the queue and its bytes are
not stored (R37, R262). The premise that the way is not OFF is missing. -/
theorem not_sectorDecoding : ¬ Obligations.SectorDecoding := by
  intro h
  obtain ⟨-, hdrain, -⟩ := h
  have hq : outq 0 decodedForOffWay = [{ id := 1, oc := 0, iters := 1, user := List.replicate 4096 1 }] := rfl
  have he : flyGet 0 1 decodedForOffWay = some (sectorInOffWay .out) := by decide +kernel
  have hw : wayOff (sectorInOffWay .out).addr decodedForOffWay = true := by decide +kernel
  obtain ⟨hstored, -, -⟩ := hdrain 0 _ [] _ decodedForOffWay hq he rfl rfl List.length_replicate
  have hnil : (outDrain 0 decodedForOffWay).mem = [] := outDrain_mem_of_wayOff hq he hw
  rw [rdBytes_of_mem_nil hnil] at hstored
  obtain ⟨-, h0 | h1⟩ := List.replicate_inj.mp hstored
  · exact absurd h0 (by decide)
  · exact absurd h1 (by decide)

end Sys2Proof.Machine

namespace Sys2Proof.Machine

variable {a id addr : Nat} {e f : FlyEnt} {s t : State}

/-! ### A sector to be written whose cache way is OFF (R37, R204, R262)

A read there gives 0 and no granule counts as poisoned, so the sector is fetched as zeros, whatever bytes DRAM holds. -/

theorem sectorPoisoned_of_wayOff (h : wayOff addr s = true) : sectorPoisoned addr s = false := by simp [sectorPoisoned, h]

theorem rdMem_of_wayOff (h : wayOff addr s = true) (n : Nat) : s.rdMem addr n = List.replicate n 0 := if_pos h

theorem rdBytes_length (s : State) (x n : Nat) : (s.rdBytes x n).length = n := by simp [State.rdBytes]

/-- A run of bytes begins with the byte at its address. -/
theorem rdBytes_succ_head? (s : State) (x n : Nat) : (s.rdBytes x (n + 1)).head? = some (s.rdByte x) := by
  simp [State.rdBytes, List.range_succ_eq_map]

/-! ### The in-flight table after a change -/

theorem fly_modFly (a id : Nat) (g : FlyEnt → FlyEnt) (s : State) :
    fly a (modFly a id g s) = (fly a s).map (fun x => if x.id = id then g x else x) := by
  simp only [fly, seq, modFly, modSeq_seqs, tget_tmod_same]

/-- An entry that is changed and keeps its number is found changed. -/
theorem flyGet_modFly_same {g : FlyEnt → FlyEnt} (hg : ∀ x, (g x).id = x.id) (he : flyGet a id s = some e) :
    flyGet a id (modFly a id g s) = some (g e) := by
  have hid : e.id = id := by simpa using List.find?_some he
  have hkeep : ((fun x : FlyEnt => x.id == id) ∘ fun x => if x.id = id then g x else x) = fun x => x.id == id := by
    funext x
    simp only [Function.comp_apply]
    split <;> simp [hg]
  rw [flyGet] at he ⊢
  rw [fly_modFly, List.find?_map, hkeep, he, Option.map_some, if_pos hid]

/-- The display of FETCH and READY leaves the in-flight table alone. -/
@[simp] theorem flyGet_wchShow (a i b id : Nat) (s : State) : flyGet b id (wchShow a i s) = flyGet b id s := rfl

/-! ### SECTOR_FETCH in an OFF way -/

/-- The information bits of the sector fetched are zeros with their check, scrambled. -/
theorem exec_sectorFetch_info_of_wayOff {c : Act} {i : Slot}
    (hnext : ((fly c.toNat s).filter (fun x => x.slot == i.toNat && x.mode == 2 && x.st != .done)).find? (fun x => !x.fetched) = some e)
    (hfree : ((fly c.toNat s).filter (fun x => x.slot == i.toNat && x.mode == 2 && x.st != .done && x.fetched)).length < 3)
    (he : flyGet c.toNat e.id s = some e) (hw : wayOff e.addr s = true) (hx : exec (.sectorFetch c i) s = .next t)
    (hf : flyGet c.toNat e.id t = some f) :
    f.info = scramble (e.aw c.toNat) (List.replicate 4096 0 ++ checkBytes (List.replicate 4096 0) (e.aw c.toNat)) := by
  have hbuf : ¬ 3 ≤ (((fly c.toNat s).filter (fun x => x.slot == i.toNat && x.mode == 2 && x.st != .done)).filter (fun x => x.fetched)).length := by
    rw [List.filter_filter, List.filter_congr (fun x _ => Bool.and_comm x.fetched _)]
    exact Nat.not_le.mpr hfree
  simp only [exec, execSectorFetch, hnext, hbuf, if_false, sectorPoisoned_of_wayOff hw, rdMem_of_wayOff hw, Bool.false_eq_true, ok,
    Host.Outcome.next.injEq] at hx
  rw [← hx, flyGet_wchShow, flyGet_modFly_same ?keepsId he] at hf
  case keepsId => exact fun _ => rfl
  exact Option.some.inj hf ▸ rfl

/-- Information bits that encode two sectors' bytes under one address word encode the same bytes (R167, R168). -/
theorem user_eq_of_encoded_eq {aw : Nat} {l m : List Byte} (hl : l.length = 4096) (hm : m.length = 4096)
    (h : scramble aw (l ++ checkBytes l aw) = scramble aw (m ++ checkBytes m aw)) : l = m :=
  Option.some.inj ((decodeInfo_encoded aw l hl).symm.trans (h ▸ decodeInfo_encoded aw m hm))

/-- The sector waits in the gate queue to be written. -/
def queuedInOffWay : FlyEnt := { sectorInOffWay .queued with mode := 2 }

/-- After reset, the sector waits on head slot 0 of actuator 0, and DRAM still holds a first byte 1 from an earlier use of the way. -/
def writeFromOffWay : State :=
  { State.reset with seqs := [(0, { fly := [queuedInOffWay] })], mem := [(0x2000000000, 1)] }

/-- Refutes O21 in its clause on the fetch: the sector's place in DRAM may lie in a way that is OFF, where a read gives 0 (R37, R262), so that zeros
are fetched without a poison mark and not the bytes that DRAM holds. The premise that the way is not OFF is missing. -/
theorem not_sectorWriting : ¬ Obligations.SectorWriting := by
  intro h
  obtain ⟨hfetch, -⟩ := h
  have hnext : ((fly 0 writeFromOffWay).filter (fun x => x.slot == 0 && x.mode == 2 && x.st != .done)).find? (fun x => !x.fetched) =
      some queuedInOffWay := by decide +kernel
  have hfree : ((fly 0 writeFromOffWay).filter (fun x => x.slot == 0 && x.mode == 2 && x.st != .done && x.fetched)).length < 3 := by decide +kernel
  have he : flyGet 0 1 writeFromOffWay = some queuedInOffWay := by decide +kernel
  have hw : wayOff queuedInOffWay.addr writeFromOffWay = true := by decide +kernel
  obtain ⟨t, hx, f, hf, -, -, hbytes, -⟩ := hfetch 0 0 queuedInOffWay writeFromOffWay hnext hfree he
  have hzero := exec_sectorFetch_info_of_wayOff (c := 0) (i := 0) hnext hfree he hw hx hf
  have hsame := user_eq_of_encoded_eq (rdBytes_length ..) List.length_replicate ((hbytes (sectorPoisoned_of_wayOff hw)).symm.trans hzero)
  have hfirst : some (writeFromOffWay.rdByte queuedInOffWay.addr) = some 0 := by
    rw [← rdBytes_succ_head? _ _ 4095, hsame]
    rfl
  exact absurd hfirst (by decide +kernel)

end Sys2Proof.Machine

namespace Sys2Proof.Machine

variable {m : Master} {v : W32} {s t : State}

/-! ### The enable of the read class (R286) -/

theorem exec_rdEn_on (hm : mayCmd m = true) : exec (.rdEn m true) s = .next (s.setf BUF_CLASS_CTL F_BUF_CLASS_CTL_RD_EN 1) :=
  congrArg Host.Outcome.next (if_pos hm)

theorem rdEn_setf_one (s : State) : rdEn (s.setf BUF_CLASS_CTL F_BUF_CLASS_CTL_RD_EN 1) = true := by
  rw [rdEn, fld_setf_same _ _ _ _ (by decide)]
  rfl

/-- A write of a register changes no tag entry. -/
theorem tag_setf (s : State) (r : Reg) (f : Fld) (n e : Nat) : tag e (s.setf r f n) = tag e s := rfl

/-- Settles O31: the write changes RD_EN alone, so RD_STALE and all tag entries stay as they are. -/
theorem readClassEnable : Obligations.ReadClassEnable := by
  intro m s hm
  refine ⟨_, exec_rdEn_on hm, rdEn_setf_one s, fld_setf_ne s _ _ 1 (by decide), fun e => ?_⟩
  rw [tag_setf]
  exact ⟨rfl, rfl, rfl⟩

/-! ### A report for a line that is not in WRITEBACK (R267, R279) -/

/-- GO is bit 31, so its write changes no field that lies below. -/
theorem fget_or_go {f : Fld} (hf : f.lo + f.w ≤ 31) : fget (v ||| 0x80000000) f = fget v f := by
  refine Nat.eq_of_testBit_eq fun i => ?_
  rw [fget_testBit, fget_testBit]
  by_cases hi : i < f.w
  · have hgo : (0x80000000 : W32).getLsbD (f.lo + i) = false := by
      rw [BitVec.getLsbD, show (0x80000000 : W32).toNat = 2 ^ 31 from rfl]
      exact Nat.testBit_two_pow_of_ne (by omega)
    rw [BitVec.getLsbD_or, hgo, Bool.or_false]
  · rw [decide_eq_false hi, Bool.false_and, Bool.false_and]

/-- The report is kept in the register, and nothing else changes. -/
theorem exec_wbDone_of_st_ne (hm : mayCmd m = true)
    (hst : (tag (16 * fget v F_BUF_WB_DONE_SET + fget v F_BUF_WB_DONE_WAY) s).st ≠ 4) :
    exec (.wbDone m v) s = .next (s.wr BUF_WB_DONE ((v ||| 0x80000000) &&& 0x4003DFFF)) := by
  have hset : fget (v ||| 0x80000000) F_BUF_WB_DONE_SET = fget v F_BUF_WB_DONE_SET := fget_or_go (by decide)
  have hway : fget (v ||| 0x80000000) F_BUF_WB_DONE_WAY = fget v F_BUF_WB_DONE_WAY := fget_or_go (by decide)
  refine congrArg Host.Outcome.next ((if_pos hm).trans (if_pos (.inr ?_)))
  rw [hset, hway]
  exact hst

/-- After reset but for the count of write-backs, which stands at 2^64, one above what BUF_STATS can hold (R302). -/
def writeBackCountTooLarge : State := State.reset.setCtr (BUF_STATS 7) (2 ^ 64)

/-- Refutes O30 in its clause on the count of WB_DONE: a report for a line that is not in WRITEBACK has no effect (R267), so a count that stands at
2^64 stays there, where the clause wants it reduced to 0. No run reaches such a count; the premise that it is below 2^64 is missing. -/
theorem not_writeBackMaintenance : ¬ Obligations.WriteBackMaintenance := by
  intro h
  obtain ⟨-, -, -, -, -, -, -, -, -, hcount, -⟩ := h
  have hm : mayCmd 0 = true := by decide
  have hst : (tag (16 * fget 0 F_BUF_WB_DONE_SET + fget 0 F_BUF_WB_DONE_WAY) writeBackCountTooLarge).st ≠ 4 := by decide +kernel
  obtain ⟨t, hx, -, hc⟩ := hcount 0 0 writeBackCountTooLarge hm
  obtain rfl := Host.Outcome.next.inj ((exec_wbDone_of_st_ne hm hst).symm.trans hx)
  rw [ctr_wr, if_neg hst, Nat.add_zero, writeBackCountTooLarge, ctr_setCtr_same] at hc
  exact absurd hc (by decide)

/-! ### A DRAM slot that refresh takes (R25, R293) -/

@[simp] theorem slotNext_fix (d : DramCh) : (slotNext d).fix = d.fix := by
  rw [slotNext]
  split <;> rfl

/-- Refresh carries no write-back of a corrected word, so as many wait after the slot as before. -/
theorem exec_dramSlot_refresh_fix {c : BitVec 3} {req : Byte} {gap : Bool} (hx : exec (.dramSlot c req true gap) s = .next t) :
    (tget {} t.dram c.toNat).fix = (tget {} s.dram c.toNat).fix := by
  obtain rfl := Host.Outcome.next.inj hx
  exact (congrArg DramCh.fix (tget_tput_same ..)).trans (slotNext_fix _)

/-- After reset, channel 0 is at the second slot of its window and one corrected word waits to be written back. -/
def correctedWordWaits : State := { State.reset with dram := [(0, { pos := 1, fix := 1 })] }

/-- Refutes O32 in its clause on the slots of a channel: the slot after the read of a corrected word would carry the write-back, but refresh takes
it (R25, R293). The word waits on, where the clause lets the channel go on as if it had been written back. The premise that neither refresh nor a
gap takes the slot is missing. -/
theorem not_classesWaysDram : ¬ Obligations.ClassesWaysDram := by
  intro h
  obtain ⟨-, -, -, -, -, -, -, -, -, hslot, -⟩ := h
  have hgive : slotGive (if (outOn 0 correctedWordWaits).isEmpty then 0 else 0 ||| 2) (tget {} correctedWordWaits.dram 0) =
      (9, { pos := 1, fix := 0 }) := by decide +kernel
  obtain ⟨t, hx, hd, -⟩ := hslot 0 0 true false _ correctedWordWaits hgive
  have hkept : (tget {} t.dram 0).fix = 1 := exec_dramSlot_refresh_fix hx
  have hgone : (tget {} t.dram 0).fix = 0 := congrArg DramCh.fix hd
  exact absurd (hkept.symm.trans hgone) (by decide)

end Sys2Proof.Machine
